-- ==== Sys2Proof/Word.lean ====
section
/-!
DEFINITION. Word.lean: the words, the instance numbers and the small data types that the commands and the state of
the BLB6412 are written in. No rule of the manual is coded here beyond the widths and the names.
-/
namespace Sys2Proof

/-- A register of the module (R4). -/
abbrev Word := BitVec 32
/-- A byte of a memory window or of the flash. -/
abbrev Byte := BitVec 8
/-- A path: 0 to 63 is AB n, 64 to 127 is BA (n - 64), as RESET_CTL.TARGET numbers them (R3). -/
abbrev Path := Fin 128
/-- A lane pair (R3). -/
abbrev Lane := Fin 64
/-- A group of eight lane pairs (R3). -/
abbrev Grp := Fin 8
/-- A stagehand engine SH0 to SH8. -/
abbrev Eng := Fin 9
/-- A frame port. -/
abbrev Port := Fin 4

/-- The register pages of R23. -/
inductive Page where
  | house | supply | pstate | nvm | cal | reh | therm | time | cue | twin | frame | twt | twc | spi | sec
  | group (g : Grp)
  | stage (e : Eng)
  | path (p : Path)
  deriving DecidableEq, Repr

/-- The sources of accesses that R44 tells apart: the SPI target, the two-wire target, an open Umatan session
(by its place 0 to 7 in SESSk) and an engine. -/
inductive Src where
  | spi
  | twt
  | um (k : Fin 8)
  | eng (e : Eng)
  deriving DecidableEq, Repr

/-- The four kinds of violation of R452. -/
inductive Viol where
  | access | timing | protocol | consistency
  deriving DecidableEq, Repr

/-- A field of a register: the page offset of its register and its bits. -/
structure Fld where
  off : Nat
  hi : Nat
  lo : Nat
  deriving DecidableEq, Repr

/-- The coupled sets of R264. -/
inductive CSet where
  | rate | txfir | trnport | latency | profile | fpbind | refclk
  deriving DecidableEq, Repr

/-- The access codes of R5. `cnt` is an RW field that is cleared by writing 0 and keeps its value under any other
write (R36). Bits of a register that no row names are RSV. -/
inductive Acc where
  | ro | rw | w1c | w1s | cnt
  | sc (set : CSet)
  deriving DecidableEq, Repr

/-- One row of a register map: a field, repeated `n` times at `stride` bytes, its access code, its reset value, the
codes that R90 calls legal (no entry: every code), and whether the value received at the last start is its reset
value at a path or group reset (R461). -/
structure Row where
  fld : Fld
  n : Nat := 1
  stride : Nat := 4
  acc : Acc
  rst : Nat
  legal : List (Nat × Nat) := []
  nvm : Bool := false
  deriving DecidableEq, Repr

/-- A management operation, as its interface names it (R15); `launch` is Umatan's LAUNCH (R245). -/
inductive AccKind where
  | write32 | read32 | write128 | read128 | launch
  deriving DecidableEq, Repr

/-- What one update of an adaptation loop does (R100): the search moves a CTLE or VGA code by at most one, the LMS loops each tap by at
most one LSB (up, down or not at all), and the levels are means. -/
inductive AdaptVal where
  | ctle (peak pole vga : Option Bool)
  | ffe (steps : List (Option Bool))
  | dfe (step : Option Bool)
  | levels (l3 l2 l1 l0 : Byte)
  deriving DecidableEq, Repr

/-- What auto-negotiation resolved (R119): the ability bit, and what IEEE 802.3 gives the technology: its lane rate in kBd,
its modulation, and the PHY and FEC codes that R175 gives it (a code that no row of R175 has, where it has none). -/
structure AnResult where
  hcd : BitVec 6
  kbd : BitVec 32
  pam4 : Bool
  phy : BitVec 3
  fec : BitVec 3
  deriving DecidableEq, Repr

/-- A coefficient request, after decoding: a preset, or one step of one tap (tap 1 = C_M3 to 6 = C_P2). -/
inductive TapReq where
  | none
  | preset (n : BitVec 3)
  | step (tap : BitVec 3) (up : Bool)
  | bad
  deriving DecidableEq, Repr

/-- A received training frame. Of a WX segment: the symbols that stand where a frame is expected, its marker, fields and check (symbols 0 to
703; more may follow), and how many symbols after the previous frame it begins (R127, R133). The IEEE frame's clause is not part of the
manual, so what that clause makes of the frame comes decoded: whether it is absent or miscoded, its fields, frame lock after it, the
partner's ready bit, its request, its precoding request and state, and whether its status answers the module's own request. -/
structure TrnFrame where
  wx : List (BitVec 2) := []
  gap : BitVec 16 := 4096
  absent : Bool := false
  coded : Bool := true
  ctrl : Word := 0
  sts : Word := 0
  ieeeLock : Bool := false
  ieeeReady : Bool := false
  ieeeReq : TapReq := .none
  ieeePreReq : Bool := false
  ieeePreOn : Bool := false
  ieeeAck : Bool := false
  deriving DecidableEq, Repr

/-- A received frame: its bytes from the destination address up to the frame check sequence, which is not among them;
whether that sequence was wrong, whether part of the frame, or its header, lay in an uncorrectable codeword, and whether
lock was lost during the frame (R230, R231). -/
structure RxFrame where
  bytes : List Byte
  fcsErr : Bool := false
  uncorr : Bool := false
  hdrUncorr : Bool := false
  cut : Bool := false
  deriving DecidableEq, Repr

/-- A WX alignment marker as received (R183): bit 0, field A, what stands for its inverse, field B, and what stands for its inverse. -/
structure Marker where
  b0 : Bool
  a : BitVec 64
  na : BitVec 64
  b : BitVec 64
  nb : BitVec 64
  deriving DecidableEq, Repr

/-- What a hunting WX path finds (R184): two candidate markers, and the symbols from the first to the second. -/
structure WxFind where
  first : Marker
  second : Marker
  gap : BitVec 32
  deriving DecidableEq, Repr

/-- What a Converter path has seen of one of its locks (R179): gained or lost, the consecutive indications, and their spacing. -/
structure ConvSeen where
  gain : Bool
  run : BitVec 8
  gap : BitVec 9
  deriving DecidableEq, Repr

/-- One codeword, or block on a lane without FEC, as the path's decoder finds it (R184, R187): the symbols corrected or that
it is uncorrectable, invalid blocks, frames with a wrong check sequence, sync-header-stream check failures, invalid tags,
and what it carries in the marker's place. -/
structure Codeword where
  corr : BitVec 4
  uncorr : Bool
  badBlocks : BitVec 8
  badChecks : BitVec 8
  badTags : BitVec 8
  marker : Option Marker
  deriving DecidableEq, Repr

/-- What a calibration block measured on one path (R377, R383): the path's index in the group, whether the measurement
converged, and the codes, packed as CAL_PTRIM shows them: receive and transmit TERM in bits 12:8 and 4:0, CTLE_OFS in bits
11:0, the four interpolator coefficients from bit 31 down, TX_DAC in bits 7:0. -/
structure CalRes where
  path : BitVec 4
  ok : Bool
  codes : Word
  deriving DecidableEq, Repr

/-- What calibration found for one ADC slice: whether it converged, and its offset, gain and skew. -/
structure SliceRes where
  slice : BitVec 6
  ok : Bool
  ofs : Byte
  gain : Byte
  skew : Byte
  deriving DecidableEq, Repr

/-- Who brought a scene to the checker: a cue of the sheet, the host's open-scene COMMIT, or an engine's. -/
inductive Job where
  | cue (c : BitVec 12)
  | host
  | eng (e : Eng)
  deriving DecidableEq, Repr

/-- A hello of the twin (R312): its serial number, TWIN_ID, role, lead claim, WORK_HALF and SD_STATE. -/
structure TwinHello where
  serial : BitVec 64
  id : Bool
  role : BitVec 2
  lead : Bool
  half : Bool
  sd : BitVec 2
  deriving DecidableEq, Repr

/-- The configuration of one of the twin's paths (R312): PROF_CFG, LINE_CFG.MOD, the symbol rate as f_VCO in 2^-25 Hz and DIV,
LAT_TARGET, PTP_ASYM and PAGE_CTL.OOS. -/
structure TwinCfg where
  prof : Word
  pam4 : Bool
  vco : BitVec 64
  div : BitVec 2
  target : Word
  asym : Word
  oos : Bool
  deriving DecidableEq, Repr

/-- The trained coefficients of one of the twin's paths (R312): RX_CTLE, DFE_TAP, TX_FIR0, TX_FIR1 and the 16 FFE registers. -/
structure TwinCoef where
  ctle : Word
  dfe : Word
  fir0 : Word
  fir1 : Word
  ffe : List Word
  deriving DecidableEq, Repr

/-- A mirror operation of the lead (R314). -/
inductive MirOp where
  /-- A write that changed bytes of mirrored cues or pool entries: window address and bytes. -/
  | write (addr : BitVec 32) (bytes : List Byte)
  | desc (scene : BitVec 10) (base : BitVec 15) (len : BitVec 9)
  /-- A STORE: the scene, its first pool entry and the bytes of its entries, 32 each. -/
  | store (scene : BitVec 10) (base : BitVec 15) (bytes : List Byte)
  | arm (c : BitVec 12)
  | disarm (c : BitVec 12)
  | clear
  deriving DecidableEq, Repr

/-- The mirrored range as a bulk sync carries it (R315): the bytes that are not 0, the scene directory and the armed cues. -/
structure MirRange where
  cells : List (BitVec 32 × Byte)
  desc : List (BitVec 10 × BitVec 15 × BitVec 9)
  armed : List (BitVec 12)
  deriving DecidableEq, Repr

/-- An element that a rehearsal test finds failing (R400, R409): an ADC slice of a path, a row or a column of an SRAM macro, an
engine, a path (its termination, probe or loop), or one that has no spare. -/
inductive RehElem where
  | slice (p : Path) (k : BitVec 6)
  | row (mac row : BitVec 10)
  | column (mac : BitVec 10) (col : BitVec 8)
  | engine (e : Eng)
  | path (p : Path)
  | other
  deriving DecidableEq, Repr

/-- A failing element, and whether the spare that replaces it meets the limit on re-test. -/
structure RehFail where
  elem : RehElem
  fixed : Bool
  deriving DecidableEq, Repr

/-- What a rehearsal test finds: its duration in 0.1 ms, the failing elements, the bit errors of test 15 and the channel
differences of test 11 by path. -/
structure RehRes where
  dur : BitVec 16
  fails : List RehFail
  errs : List (Path × Word)
  diffs : List (Path × BitVec 16)
  deriving DecidableEq, Repr


/-- The faults of an SPI frame (R426), but for the stall: the frame ends before its last address bit; it carries an unknown opcode; a
write frame ends before its last data bit; a frame ends with a partial byte. -/
inductive SpiFault where
  | short
  | opcode
  | shortWrite
  | partialByte
  deriving DecidableEq, Repr

/-- The timeouts of the two-wire target (R435). -/
inductive TwtTmo where
  | scl | sda | stall
  deriving DecidableEq, Repr

/-- How a transaction of the two-wire controller ends on the bus (R443). -/
inductive TwcEnd where
  | done
  | nackAddr
  | nackData (index : BitVec 6)
  deriving DecidableEq, Repr

/-- Who reads an SRAM word that has an ECC error (R9): a path's datapath, an engine, or the scene checker. -/
inductive EccReader where
  | path (p : Path)
  | engine (e : Eng)
  | checker
  deriving DecidableEq, Repr

end Sys2Proof
end

