-- ==== Sys2Proof/Syntax.lean ====
section
/-!
DEFINITION. Syntax.lean: the commands of the block, one constructor for each row of spec/opcode_table.json. Commands that stand for a
write of a register take the source that makes it; those that stand for something the hardware meets take what the module observes
there as operands.
-/
namespace Sys2Proof

inductive Instr where
  /-- FABRIC_SPEED_MEASURE (R13) -/
  | fabricSpeedMeasure (rate : BitVec 16)
  /-- OPERATION_TAKES_EFFECT (R12) -/
  | operationTakesEffect
  /-- REGISTER_WRITE (R5) -/
  | registerWrite (c : Src) (addr : BitVec 32) (data : Word)
  /-- WING_WRITE (R39) -/
  | wingWrite (c : Src) (page : Page) (x : BitVec 11) (data : Word) (mask : BitVec 4)
  /-- WING_READ (R43) -/
  | wingRead (c : Src) (page : Page) (x : BitVec 11)
  /-- PAGE_CTL_WRITE (R31) -/
  | pageCtlWrite (c : Src) (page : Page) (hold oos : Bool)
  /-- EVT_RAW_CLEAR (R35) -/
  | evtRawClear (c : Src) (page : Page) (bits : Word)
  /-- VIOL_COUNTER_WRITE (R36) -/
  | violCounterWrite (c : Src) (page : Page) (second : Bool) (data : Word)
  /-- TWT_WINDOW_WRITE (R48) -/
  | twtWindowWrite (c : Src) (window : BitVec 16)
  /-- MIN_CLR (R49) -/
  | minClr (c : Src)
  /-- TIME_NOW_READ (R204) -/
  | timeNowRead (c : Src)
  /-- PLL_LOCKED (R86) -/
  | pllLocked (g : Grp) (b : Bool) (band : BitVec 6)
  /-- PLL_LOSS_OF_LOCK (R87) -/
  | pllLossOfLock (g : Grp) (b : Bool)
  /-- PLL_HOLD_EXPIRY (R87) -/
  | pllHoldExpiry (g : Grp) (b : Bool)
  /-- SIG_DET_CHANGE (R89) -/
  | sigDetChange (p : Path) (level : Bool)
  /-- SWEEP_DUE (R97) -/
  | sweepDue (p : Path)
  /-- ROTATION_START (R92) -/
  | rotationStart (p : Path)
  /-- MATCH_WINDOW_END (R92) -/
  | matchWindowEnd (p : Path) (ofs gain skew : Byte)
  /-- SLICE_RELEASE_END (R92) -/
  | sliceReleaseEnd (p : Path) (slice : BitVec 6) (ok : Bool) (ofs gain skew : Byte)
  /-- SWING_FORCE (R94) -/
  | swingForce (c : Src) (p : Path)
  /-- SWING_ABANDON (R95) -/
  | swingAbandon (c : Src) (p : Path)
  /-- CDR_LOCK_ACQUIRE (R98) -/
  | cdrLockAcquire (p : Path) (freqOfs : BitVec 16)
  /-- CDR_LOCK_LOSS (R98) -/
  | cdrLockLoss (p : Path) (cut : Bool)
  /-- ADAPT_UPDATE (R100) -/
  | adaptUpdate (p : Path) (v : AdaptVal)
  /-- CAPTURE_START (R106) -/
  | captureStart (c : Src) (p : Path)
  /-- CAPTURE_STOP (R106) -/
  | captureStop (c : Src) (p : Path)
  /-- CAPTURE_END (R106) -/
  | captureEnd (p : Path) (data : List Byte) (oldest : BitVec 9)
  /-- TRN_RESTART (R114) -/
  | trnRestart (c : Src) (p : Path)
  /-- AN_PAGE_RECEIVED (R118) -/
  | anPageReceived (p : Path) (page : BitVec 48) (base err : Bool) (res : Option AnResult)
  /-- AN_SETUP_DONE (R119) -/
  | anSetupDone (n : Lane)
  /-- AN_MASK_WRITE (R120) -/
  | anMaskWrite (c : Src) (n : Lane) (mask : Word)
  /-- TRAINING_FRAME_RECEIVED (R131) -/
  | trainingFrameReceived (p : Path) (f : TrnFrame)
  /-- REQUEST_ANSWERED (R123) -/
  | requestAnswered (p : Path)
  /-- REQUEST_NO_ANSWER (R126) -/
  | requestNoAnswer (p : Path)
  /-- LOCAL_CONVERGENCE (R112) -/
  | localConvergence (p : Path) (snr : BitVec 10)
  /-- TRAINING_TIMEOUT (R138) -/
  | trainingTimeout (p : Path)
  /-- BREAK_TIME_ELAPSED (R138) -/
  | breakTimeElapsed (p : Path)
  /-- RESTART_DELAY_ELAPSED (R138) -/
  | restartDelayElapsed (p : Path)
  /-- CLOSING_FRAMES_SENT (R116) -/
  | closingFramesSent (p : Path)
  /-- IGNORED_ACTIVITY_COUNT (R141) -/
  | ignoredActivityCount (p : Path)
  /-- PROBE_SAMPLE (R152) -/
  | probeSample (p : Path) (l : Word)
  /-- PROBE_WINDOW_END (R152) -/
  | probeWindowEnd (p : Path) (fixed : BitVec 20)
  /-- ALIGN_MARK (R491) -/
  | alignMark
  /-- INTERNAL_MARK (R154) -/
  | internalMark
  /-- MARK_MISSING (R155) -/
  | markMissing
  /-- SLEW_STEP (R165) -/
  | slewStep (p : Path)
  /-- FRAMING_LOCK_ACQUIRED (R178) -/
  | framingLockAcquired (p : Path) (eth : BitVec 3) (find : Option WxFind)
  /-- FRAMING_LOCK_LOST (R178) -/
  | framingLockLost (p : Path) (eth : BitVec 3) (cut : Bool)
  /-- CONVERTER_LOCK_CHANGE (R179) -/
  | converterLockChange (p : Path) (which : Fin 3) (w : ConvSeen)
  /-- CODEWORD_PROCESSED (R187) -/
  | codewordProcessed (p : Path) (w : Codeword)
  /-- PTP_EVENT_MESSAGE (R222) -/
  | ptpEventMessage (p : Path) (fr : RxFrame)
  /-- COUNTER_SNAPSHOT (R192) -/
  | counterSnapshot (c : Src) (p : Path)
  /-- FEC_DEGRADE_WINDOW_END (R193) -/
  | fecDegradeWindowEnd (p : Path)
  /-- PRBS_CHECKER_LOCK (R195) -/
  | prbsCheckerLock (p : Path)
  /-- PRBS_CHECKER_LOSS (R195) -/
  | prbsCheckerLoss (p : Path) (bits errs : Word)
  /-- FIRE (R197) -/
  | fire (c : Src) (p : Path)
  /-- INJECTION_DUE (R197) -/
  | injectionDue (p : Path)
  /-- TIME_STEP (R205) -/
  | timeStep (c : Src)
  /-- TIME_ARM (R206) -/
  | timeArm (c : Src)
  /-- HOLD_REQ (R208) -/
  | holdReq (c : Src)
  /-- TIME_RATE_WRITE (R203) -/
  | timeRateWrite (c : Src) (rate : Word)
  /-- TIME_UNC_WRITE (R209) -/
  | timeUncWrite (c : Src) (v : Word)
  /-- HOLDOVER_TIMEOUT (R208) -/
  | holdoverTimeout
  /-- UNC_THRESHOLD_CROSSED (R209) -/
  | uncThresholdCrossed
  /-- REFCLK_LOST (R210) -/
  | refclkLost (r : Bool)
  /-- REFCLK_PRESENT (R210) -/
  | refclkPresent (r : Bool)
  /-- REFCLK_STARTUP_TIMEOUT (R210) -/
  | refclkStartupTimeout
  /-- BRIDGE_HANDOVER (R211) -/
  | bridgeHandover
  /-- KEEPALIVE_RETURN (R212) -/
  | keepaliveReturn
  /-- KA_WINDOW_END (R213) -/
  | kaWindowEnd
  /-- MARK_CFG_WRITE (R216) -/
  | markCfgWrite (c : Src) (period : Bool) (data : Word)
  /-- PPS_OUT_PULSE (R217) -/
  | ppsOutPulse
  /-- PPS_OUT_END (R217) -/
  | ppsOutEnd
  /-- PPS_IN_EDGE (R218) -/
  | ppsInEdge
  /-- FRAME_EXTRACT (R230) -/
  | frameExtract (k : Port) (fr : RxFrame)
  /-- TX_TAIL_WRITE (R240) -/
  | txTailWrite (c : Src) (k : Port) (tail : BitVec 6)
  /-- FRAME_FETCH (R235) -/
  | frameFetch (k : Port)
  /-- FRAME_INSERT (R234) -/
  | frameInsert (k : Port) (run : BitVec 16)
  /-- FRAME_DEADLINE_EXPIRY (R236) -/
  | frameDeadlineExpiry (k : Port)
  /-- PORT_DISABLE (R249) -/
  | portDisable (c : Src) (k : Port)
  /-- UMATAN_REQUEST (R246) -/
  | umatanRequest (k : Port)
  /-- UMATAN_RESPONSE_QUEUED (R246) -/
  | umatanResponseQueued (k : Port)
  /-- SESSION_TIMEOUT (R479) -/
  | sessionTimeout (place : Fin 8)
  /-- OPEN_STORE (R257) -/
  | openStore (c : Src) (scene : BitVec 10) (base : BitVec 15)
  /-- OPEN_COMMIT (R257) -/
  | openCommit (c : Src)
  /-- OPEN_DISCARD (R257) -/
  | openDiscard (c : Src)
  /-- STORE_COPY_END (R258) -/
  | storeCopyEnd
  /-- SCENE_DESC_WRITE (R255) -/
  | sceneDescWrite (c : Src) (base : BitVec 15) (len : BitVec 9)
  /-- SCENE_VALIDATE (R263) -/
  | sceneValidate
  /-- DEFERRED_RESUME (R262) -/
  | deferredResume
  /-- SCENE_COMMIT (R266) -/
  | sceneCommit (j : Job)
  /-- CUE_ARM (R273) -/
  | cueArm (c : Src) (cue : BitVec 12)
  /-- CUE_DISARM (R280) -/
  | cueDisarm (c : Src) (cue : BitVec 12)
  /-- LOAD (R286) -/
  | load (c : Src) (e : Eng) (slot : Bool)
  /-- START (R286) -/
  | start (c : Src) (e : Eng)
  /-- STOP (R286) -/
  | stop (c : Src) (e : Eng)
  /-- LOAD_DONE (R286) -/
  | loadDone (e : Eng)
  /-- ENGINE_READY (R286) -/
  | engineReady (e : Eng)
  /-- CMDQ_APPEND (R290) -/
  | cmdqAppend (c : Src) (e : Eng) (quad : Bool) (data : BitVec 128)
  /-- RSPQ_READ (R293) -/
  | rspqRead (c : Src) (e : Eng)
  /-- PING (R294) -/
  | ping (e : Eng)
  /-- CTLE_SEARCH (R294) -/
  | ctleSearch (e : Eng)
  /-- EYE_SCAN (R295) -/
  | eyeScan (e : Eng)
  /-- SWEEP (R294) -/
  | sweep (e : Eng)
  /-- CAL_RUN (R294) -/
  | calRun (e : Eng)
  /-- ABORT_COMMAND (R294) -/
  | abortCommand (e : Eng)
  /-- FLUSH (R294) -/
  | flush (e : Eng)
  /-- CHECKPOINT (R294) -/
  | checkpoint (e : Eng) (size : BitVec 14)
  /-- LONG_COMMAND_END (R296) -/
  | longCommandEnd (e : Eng) (detail : BitVec 16) (r0 r1 : Word) (grid : List (BitVec 16))
  /-- MIGRATION_GO (R299) -/
  | migrationGo (c : Src) (g : Grp) (target : BitVec 4)
  /-- MIGRATION_SAFE_POINT (R300) -/
  | migrationSafePoint (g : Grp)
  /-- MIGRATION_HANDOVER (R300) -/
  | migrationHandover (g : Grp)
  /-- WATCHDOG_EXPIRY (R302) -/
  | watchdogExpiry (e : Eng)
  /-- IMAGE_FAULT (R302) -/
  | imageFault (e : Eng) (r0 r1 : Word)
  /-- TWIN_LINK_UP (R309) -/
  | twinLinkUp
  /-- TWIN_LINK_LOST (R309) -/
  | twinLinkLost (lanes : BitVec 4) (message : Bool)
  /-- TWIN_SEND_TIMER (R312) -/
  | twinSendTimer (item : BitVec 3)
  /-- HELLO (R319) -/
  | hello (h : TwinHello) (resends : BitVec 2)
  /-- TIME_EXCHANGE (R322) -/
  | timeExchange (d21 d43 : BitVec 64)
  /-- PIN_REPORT (R324) -/
  | pinReport (p : Path) (meas held : Word) (st : BitVec 3)
  /-- CONFIG_REPORT (R317) -/
  | configReport (p : Path) (cfg : TwinCfg)
  /-- COEFFICIENT_REPORT (R316) -/
  | coefficientReport (p : Path) (coef : TwinCoef)
  /-- MIRROR_OPERATION (R314) -/
  | mirrorOperation (op : MirOp)
  /-- MIR_CRC (R315) -/
  | mirCrc (w : Word)
  /-- BULK_SYNC_DONE (R315) -/
  | bulkSyncDone (r : MirRange)
  /-- HB_LOST (R311) -/
  | hbLost
  /-- HEARTBEAT_PRESENT (R311) -/
  | heartbeatPresent
  /-- PROMOTION_TIMEOUT (R320) -/
  | promotionTimeout
  /-- TIME_TRANSFER_LOST (R323) -/
  | timeTransferLost
  /-- REQ (R326) -/
  | req (c : Src) (force : Bool)
  /-- CONFIRM (R328) -/
  | confirm (c : Src)
  /-- CANCEL (R328) -/
  | cancel (c : Src)
  /-- REENTER (R329) -/
  | reenter (c : Src)
  /-- REPLACE (R329) -/
  | replace (c : Src)
  /-- REENTRY_COMPLETE (R329) -/
  | reentryComplete
  /-- REENTRY_TIMEOUT (R329) -/
  | reentryTimeout
  /-- TWIN_CFG_EN_WRITE (R331) -/
  | twinCfgEnWrite (c : Src) (v : Bool)
  /-- INPUT_GOOD (R334) -/
  | inputGood (b : Bool)
  /-- INPUT_LOST (R334) -/
  | inputLost (b : Bool)
  /-- RETURN_DELAY_EXPIRY (R335) -/
  | returnDelayExpiry
  /-- FORCE_B_WRITE (R336) -/
  | forceBWrite (c : Src) (v : Bool)
  /-- RAIL_FAULT (R338) -/
  | railFault (r : Fin 6)
  /-- MEASURE (R340) -/
  | measure (c : Src)
  /-- CAPACITANCE_TEST_DUE (R340) -/
  | capacitanceTestDue
  /-- CAPACITANCE_TEST_END (R340) -/
  | capacitanceTestEnd (dvc dvd : BitVec 24) (reached : Bool)
  /-- ENERGY_UPDATE (R341) -/
  | energyUpdate (vina vinb pin hup : BitVec 16)
  /-- POWER_FAILURE (R343) -/
  | powerFailure
  /-- FALL_RECORD_WRITE (R349) -/
  | fallRecordWrite (hup : BitVec 16)
  /-- STORE (R347) -/
  | store (c : Src) (region : BitVec 4)
  /-- READ (R350) -/
  | read (c : Src) (region : BitVec 4)
  /-- ERASE (R350) -/
  | erase (c : Src) (region : BitVec 4)
  /-- PROGRAM (R350) -/
  | program (c : Src) (region : BitVec 4)
  /-- FLASH_OPERATION_END (R351) -/
  | flashOperationEnd (ok : Bool)
  /-- REQ_RUN (R361) -/
  | reqRun (c : Src) (g : Grp)
  /-- REQ_INTERMISSION (R361) -/
  | reqIntermission (c : Src) (g : Grp)
  /-- REQ_OFF (R361) -/
  | reqOff (c : Src) (g : Grp)
  /-- TRANSITION_END (R362) -/
  | transitionEnd (g : Grp)
  /-- IDLE_TIMER_EXPIRY (R364) -/
  | idleTimerExpiry (g : Grp)
  /-- WAKE_NOW (R366) -/
  | wakeNow (c : Src) (g : Grp)
  /-- DARK (R370) -/
  | dark (c : Src) (key : Byte)
  /-- DARK_REACHED (R370) -/
  | darkReached
  /-- DARK_WAKE (R71) -/
  | darkWake (porst : Bool)
  /-- BANDGAP_COMPARE (R376) -/
  | bandgapCompare (diff : BitVec 16)
  /-- SENSOR_MEAN (R380) -/
  | sensorMean (i : Fin 9) (reading : BitVec 12) (twin : List (BitVec 3 × Byte × BitVec 16))
  /-- CAL_CMD_RUN (R383) -/
  | calCmdRun (c : Src) (g : Grp)
  /-- CAL_PERIOD_EXPIRY (R383) -/
  | calPeriodExpiry (g : Grp)
  /-- PENDING_RUN_START (R386) -/
  | pendingRunStart (g : Grp)
  /-- CAL_BLOCK_END (R383) -/
  | calBlockEnd (g : Grp) (l : List CalRes)
  /-- APPLY (R384) -/
  | apply (c : Src) (g : Grp)
  /-- CAL_ABORT (R386) -/
  | calAbort (c : Src) (g : Grp)
  /-- RAMP_STEP (R387) -/
  | rampStep (g : Grp)
  /-- DISRUPTIVE_RUN (R389) -/
  | disruptiveRun (c : Src) (g : Grp) (skew : Bool) (paths : BitVec 16)
  /-- DISRUPTIVE_WINDOW_END (R389) -/
  | disruptiveWindowEnd (p : Path) (l : List SliceRes)
  /-- CURTAIN (R398) -/
  | curtain (c : Src) (force : Bool)
  /-- GROUP (R397) -/
  | group (c : Src) (target : BitVec 4) (force : Bool)
  /-- ENGINE (R397) -/
  | engine (c : Src) (target : BitVec 4)
  /-- REH_ABORT (R406) -/
  | rehAbort (c : Src)
  /-- FUSE (R413) -/
  | fuse (c : Src)
  /-- FUSE_SESSION_END (R413) -/
  | fuseSessionEnd (bad : List (BitVec 8))
  /-- REH_TEST_END (R400) -/
  | rehTestEnd (u : Option Grp) (t : Fin 16) (r : RehRes)
  /-- REH_RUN_CLOSE (R403) -/
  | rehRunClose
  /-- ONTIME_MINUTE (R416) -/
  | ontimeMinute
  /-- WRITE_32 (R422) -/
  | write32 (mode3 : Bool) (addr : BitVec 32)
  /-- READ_32 (R422) -/
  | read32 (mode3 : Bool) (addr : BitVec 32) (full : Bool)
  /-- WRITE_128 (R422) -/
  | write128 (mode3 : Bool) (addr : BitVec 32)
  /-- READ_128 (R422) -/
  | read128 (mode3 : Bool) (addr : BitVec 32) (full : Bool)
  /-- STATUS (R423) -/
  | status (mode3 full : Bool)
  /-- WRITE_DATA_COMPLETE (R420) -/
  | writeDataComplete (data : BitVec 128)
  /-- SPI_FRAME_FAULT (R426) -/
  | spiFrameFault (f : SpiFault) (mode3 : Bool)
  /-- SPI_STALL_TIMEOUT (R426) -/
  | spiStallTimeout
  /-- SPI_FLUSH (R425) -/
  | spiFlush (c : Src)
  /-- TWT_POINTER_SET (R428) -/
  | twtPointerSet (p : BitVec 16)
  /-- TWT_ADDRESS_READ (R429) -/
  | twtAddressRead (tScl tLow : BitVec 16)
  /-- TWT_READ_CONTINUE (R430) -/
  | twtReadContinue (tScl tLow : BitVec 16)
  /-- TWT_DATA_BYTE (R431) -/
  | twtDataByte (b : Byte)
  /-- TWT_BUFFER_APPLY (R432) -/
  | twtBufferApply
  /-- TWT_START_STOP_FAULT (R433) -/
  | twtStartStopFault
  /-- TWT_TIMEOUT (R435) -/
  | twtTimeout (k : TwtTmo)
  /-- PROMPT (R436) -/
  | prompt
  /-- PROMPT_ABANDON (R437) -/
  | promptAbandon (mine : Bool)
  /-- TWC_GO (R438) -/
  | twcGo (c : Src) (addr : BitVec 7) (rlen wlen : BitVec 6)
  /-- TWC_ABORT (R438) -/
  | twcAbort (c : Src)
  /-- ARBITRATION_LOST (R440) -/
  | arbitrationLost
  /-- TWC_TIMEOUT (R441) -/
  | twcTimeout (sda started : Bool)
  /-- TWC_TRANSACTION_END (R443) -/
  | twcTransactionEnd (fin : TwcEnd) (read : List Byte)
  /-- BUS_RECOVERY (R442) -/
  | busRecovery (freed : Bool)
  /-- VIO_LOSS (R65) -/
  | vioLoss
  /-- VIO_RETURN (R65) -/
  | vioReturn
  /-- EVENT_INJECT (R454) -/
  | eventInject (c : Src) (page : Page) (bits : Word)
  /-- VIOLATION_INJECT (R456) -/
  | violationInject (c : Src) (page : Page) (kinds : BitVec 4)
  /-- INJ_ARM (R455) -/
  | injArm (c : Src) (key : Byte) (sensor : BitVec 4) (arm : Bool)
  /-- ECC_INJECT (R457) -/
  | eccInject (row : BitVec 10)
  /-- SOFT_EVENT (R447) -/
  | softEvent (c : Src) (code : BitVec 16)
  /-- PATH_RESET (R460) -/
  | pathReset (c : Src) (p : Path)
  /-- GROUP_RESET (R460) -/
  | groupReset (c : Src) (g : Grp)
  /-- RESET_WAIT_END (R460) -/
  | resetWaitEnd
  /-- HOUSE_RESET (R462) -/
  | houseReset (by_ : Option (Src × Byte))
  /-- HOUSE_RESET_END (R462) -/
  | houseResetEnd
  /-- FULL_RESET (R70) -/
  | fullReset
  /-- START_UP (R467) -/
  | startUp (s0 s1 s2 : BitVec 4)
  /-- START_UP_RESET (R468) -/
  | startUpReset
  /-- LANES_READY (R469) -/
  | lanesReady
  /-- BURN_UM (R476) -/
  | burnUm (c : Src) (slot : BitVec 2)
  /-- REVOKE_UM (R476) -/
  | revokeUm (c : Src) (slot : BitVec 2)
  /-- REVOKE_IMGKEY (R476) -/
  | revokeImgkey (c : Src) (slot : BitVec 2)
  /-- RAISE_SVN (R476) -/
  | raiseSvn (c : Src) (value : Byte)
  /-- KEY_OP_END (R476) -/
  | keyOpEnd (ok : Bool)
  /-- BOUNDARY_SCAN_INSTRUCTION (R67) -/
  | boundaryScanInstruction
  /-- VKA_LOST (R343) -/
  | vkaLost
  /-- INPUT_QUALIFICATION_START (R335) -/
  | inputQualificationStart (b : Bool)
  /-- PATH_OR_GROUP_RESET_END (R460) -/
  | pathOrGroupResetEnd
  /-- ENGINE_HEARTBEAT (R302) -/
  | engineHeartbeat (e : Eng) (ckpt : Option (BitVec 14))
  /-- FIRMWARE_NOTICE (R297) -/
  | firmwareNotice (e : Eng) (r0 r1 : Word)
  /-- TWT_READ_END (R433) -/
  | twtReadEnd (whole : Bool)
  /-- SRAM_ECC_ERROR (R9) -/
  | sramEccError (mac row : BitVec 10) (double : Bool) (reader : EccReader)
  deriving DecidableEq, Repr

end Sys2Proof
end

