-- ==== Sys2Proof/WellFormed.lean ====
section
/-!
DEFINITION. WellFormed.lean: which commands can come: the lists they carry have the lengths the manual gives them. Every other operand
takes every value of its type. The meanings are total: they hold for ill-formed commands too.
-/
namespace Sys2Proof

/-- One update moves at most the 32 FFE taps (R100). -/
def AdaptVal.wf : AdaptVal → Bool
  | .ffe steps => decide (steps.length ≤ 32)
  | .ctle _ _ _ => true
  | .dfe _ => true
  | .levels _ _ _ _ => true

/-- A frame has at least its addresses and its EtherType (R230). -/
def RxFrame.wf (f : RxFrame) : Bool := decide (14 ≤ f.bytes.length)

/-- A decoded request names one of the taps C_M3 to C_P2 (R124). -/
def TapReq.wf : TapReq → Bool
  | .step tap _ => decide (1 ≤ tap.toNat ∧ tap.toNat ≤ 6)
  | .none => true
  | .preset _ => true
  | .bad => true

/-- A mirror operation lies in the mirrored range: cues 0 to 2,047 and scenes 0 to 503 (R314). A write is of one word or one quad; a
STORE has 256 entries at most. -/
def MirOp.wf : MirOp → Bool
  | .write _ bytes => decide (1 ≤ bytes.length ∧ bytes.length ≤ 16)
  | .desc scene _ _ => decide (scene.toNat ≤ 503)
  | .store scene _ bytes => decide (scene.toNat ≤ 1007) && decide (bytes.length ≤ 8192) && bytes.length % 32 == 0
  | .arm c => decide (c.toNat < 2048)
  | .disarm c => decide (c.toNat < 2048)
  | .clear => true

/-- A bulk sync carries the mirrored cues and scenes (R315). -/
def MirRange.wf (r : MirRange) : Bool :=
  r.desc.all (fun e => decide (e.1.toNat ≤ 503)) && r.armed.all (fun c => decide (c.toNat < 2048))

/-- Whether a command can come. -/
def Instr.wf (i : Instr) : Bool :=
  match i with
  | .fabricSpeedMeasure _ => true
  | .operationTakesEffect => true
  | .registerWrite _ _ _ => true
  | .wingWrite _ _ _ _ _ => true
  | .wingRead _ _ _ => true
  | .pageCtlWrite _ _ _ _ => true
  | .evtRawClear _ _ _ => true
  | .violCounterWrite _ _ _ _ => true
  | .twtWindowWrite _ _ => true
  | .minClr _ => true
  | .timeNowRead _ => true
  | .pllLocked _ _ _ => true
  | .pllLossOfLock _ _ => true
  | .pllHoldExpiry _ _ => true
  | .sigDetChange _ _ => true
  | .sweepDue _ => true
  | .rotationStart _ => true
  | .matchWindowEnd _ _ _ _ => true
  | .sliceReleaseEnd _ slice _ _ _ _ => decide (slice.toNat < 34)
  | .swingForce _ _ => true
  | .swingAbandon _ _ => true
  | .cdrLockAcquire _ _ => true
  | .cdrLockLoss _ _ => true
  | .adaptUpdate _ v => v.wf
  | .captureStart _ _ => true
  | .captureStop _ _ => true
  | .captureEnd _ data _ => decide (data.length % 128 = 0 ∧ data.length ≤ 65536)
  | .trnRestart _ _ => true
  | .anPageReceived _ _ _ _ _ => true
  | .anSetupDone _ => true
  | .anMaskWrite _ _ _ => true
  | .trainingFrameReceived _ f => f.ieeeReq.wf && decide (f.wx.length ≤ 4096)
  | .requestAnswered _ => true
  | .requestNoAnswer _ => true
  | .localConvergence _ _ => true
  | .trainingTimeout _ => true
  | .breakTimeElapsed _ => true
  | .restartDelayElapsed _ => true
  | .closingFramesSent _ => true
  | .ignoredActivityCount _ => true
  | .probeSample _ _ => true
  | .probeWindowEnd _ _ => true
  | .alignMark => true
  | .internalMark => true
  | .markMissing => true
  | .slewStep _ => true
  | .framingLockAcquired _ _ _ => true
  | .framingLockLost _ _ _ => true
  | .converterLockChange _ _ _ => true
  | .codewordProcessed _ _ => true
  | .ptpEventMessage _ fr => fr.wf
  | .counterSnapshot _ _ => true
  | .fecDegradeWindowEnd _ => true
  | .prbsCheckerLock _ => true
  | .prbsCheckerLoss _ _ _ => true
  | .fire _ _ => true
  | .injectionDue _ => true
  | .timeStep _ => true
  | .timeArm _ => true
  | .holdReq _ => true
  | .timeRateWrite _ _ => true
  | .timeUncWrite _ _ => true
  | .holdoverTimeout => true
  | .uncThresholdCrossed => true
  | .refclkLost _ => true
  | .refclkPresent _ => true
  | .refclkStartupTimeout => true
  | .bridgeHandover => true
  | .keepaliveReturn => true
  | .kaWindowEnd => true
  | .markCfgWrite _ _ _ => true
  | .ppsOutPulse => true
  | .ppsOutEnd => true
  | .ppsInEdge => true
  | .frameExtract _ fr => fr.wf
  | .txTailWrite _ _ _ => true
  | .frameFetch _ => true
  | .frameInsert _ _ => true
  | .frameDeadlineExpiry _ => true
  | .portDisable _ _ => true
  | .umatanRequest _ => true
  | .umatanResponseQueued _ => true
  | .sessionTimeout _ => true
  | .openStore _ _ _ => true
  | .openCommit _ => true
  | .openDiscard _ => true
  | .storeCopyEnd => true
  | .sceneDescWrite _ _ _ => true
  | .sceneValidate => true
  | .deferredResume => true
  | .sceneCommit _ => true
  | .cueArm _ _ => true
  | .cueDisarm _ _ => true
  | .load _ _ _ => true
  | .start _ _ => true
  | .stop _ _ => true
  | .loadDone _ => true
  | .engineReady _ => true
  | .cmdqAppend _ _ _ _ => true
  | .rspqRead _ _ => true
  | .ping _ => true
  | .ctleSearch _ => true
  | .eyeScan _ => true
  | .sweep _ => true
  | .calRun _ => true
  | .abortCommand _ => true
  | .flush _ => true
  | .checkpoint _ _ => true
  | .longCommandEnd _ _ _ _ grid => decide (grid.length ≤ 16384)
  | .migrationGo _ _ _ => true
  | .migrationSafePoint _ => true
  | .migrationHandover _ => true
  | .watchdogExpiry _ => true
  | .imageFault _ _ _ => true
  | .twinLinkUp => true
  | .twinLinkLost _ _ => true
  | .twinSendTimer _ => true
  | .hello _ _ => true
  | .timeExchange _ _ => true
  | .pinReport _ _ _ _ => true
  | .configReport _ _ => true
  | .coefficientReport _ coef => decide (coef.ffe.length = 16)
  | .mirrorOperation op => op.wf
  | .mirCrc _ => true
  | .bulkSyncDone r => r.wf
  | .hbLost => true
  | .heartbeatPresent => true
  | .promotionTimeout => true
  | .timeTransferLost => true
  | .req _ _ => true
  | .confirm _ => true
  | .cancel _ => true
  | .reenter _ => true
  | .replace _ => true
  | .reentryComplete => true
  | .reentryTimeout => true
  | .twinCfgEnWrite _ _ => true
  | .inputGood _ => true
  | .inputLost _ => true
  | .returnDelayExpiry => true
  | .forceBWrite _ _ => true
  | .railFault _ => true
  | .measure _ => true
  | .capacitanceTestDue => true
  | .capacitanceTestEnd _ _ _ => true
  | .energyUpdate _ _ _ _ => true
  | .powerFailure => true
  | .fallRecordWrite _ => true
  | .store _ _ => true
  | .read _ _ => true
  | .erase _ _ => true
  | .program _ _ => true
  | .flashOperationEnd _ => true
  | .reqRun _ _ => true
  | .reqIntermission _ _ => true
  | .reqOff _ _ => true
  | .transitionEnd _ => true
  | .idleTimerExpiry _ => true
  | .wakeNow _ _ => true
  | .dark _ _ => true
  | .darkReached => true
  | .darkWake _ => true
  | .bandgapCompare _ => true
  | .sensorMean _ _ twin => decide (twin.length ≤ 8)
  | .calCmdRun _ _ => true
  | .calPeriodExpiry _ => true
  | .pendingRunStart _ => true
  | .calBlockEnd _ l => decide (l.length ≤ 16)
  | .apply _ _ => true
  | .calAbort _ _ => true
  | .rampStep _ => true
  | .disruptiveRun _ _ _ _ => true
  | .disruptiveWindowEnd _ l => l.all (fun r => decide (r.slice.toNat < 34)) && decide (l.length ≤ 34)
  | .curtain _ _ => true
  | .group _ _ _ => true
  | .engine _ _ => true
  | .rehAbort _ => true
  | .fuse _ => true
  | .fuseSessionEnd bad => decide (bad.length ≤ 64)
  | .rehTestEnd _ _ _ => true
  | .rehRunClose => true
  | .ontimeMinute => true
  | .write32 _ _ => true
  | .read32 _ _ _ => true
  | .write128 _ _ => true
  | .read128 _ _ _ => true
  | .status _ _ => true
  | .writeDataComplete _ => true
  | .spiFrameFault _ _ => true
  | .spiStallTimeout => true
  | .spiFlush _ => true
  | .twtPointerSet _ => true
  | .twtAddressRead _ _ => true
  | .twtReadContinue _ _ => true
  | .twtDataByte _ => true
  | .twtBufferApply => true
  | .twtStartStopFault => true
  | .twtTimeout _ => true
  | .prompt => true
  | .promptAbandon _ => true
  | .twcGo _ _ _ _ => true
  | .twcAbort _ => true
  | .arbitrationLost => true
  | .twcTimeout _ _ => true
  | .twcTransactionEnd _ bs => decide (bs.length ≤ 32)
  | .busRecovery _ => true
  | .vioLoss => true
  | .vioReturn => true
  | .eventInject _ _ _ => true
  | .violationInject _ _ _ => true
  | .injArm _ _ _ _ => true
  | .eccInject _ => true
  | .softEvent _ _ => true
  | .pathReset _ _ => true
  | .groupReset _ _ => true
  | .resetWaitEnd => true
  | .houseReset _ => true
  | .houseResetEnd => true
  | .fullReset => true
  | .startUp _ _ _ => true
  | .startUpReset => true
  | .lanesReady => true
  | .burnUm _ _ => true
  | .revokeUm _ _ => true
  | .revokeImgkey _ _ => true
  | .raiseSvn _ _ => true
  | .keyOpEnd _ => true
  | .boundaryScanInstruction => true
  | .vkaLost => true
  | .inputQualificationStart _ => true
  | .pathOrGroupResetEnd => true
  | .engineHeartbeat _ _ => true
  | .firmwareNotice _ _ _ => true
  | .twtReadEnd _ => true
  | .sramEccError _ _ _ _ => true

end Sys2Proof
end

