-- ==== Sys2Proof/Decode.lean ====
section
/-!
DEFINITION. Decode.lean: the commands that a word spells by the bits of spec/opcode_table.json. No row of that table gives bits: the
commands come to the module over its buses, in frames and from what its hardware meets, and have no common word format. What a bus
carries (an SPI frame, a two-wire transfer, a Umatan request, a command quad of an engine) is taken apart where its chapter says so:
Machine/Ports.lean, Machine/Umatan.lean and Machine/Engines.lean.
-/
namespace Sys2Proof

/-- The command that the word `w` of `nbits` bits spells: none, since no row gives bits. -/
def decodeTableWord (_nbits _w : Nat) : Option Instr := none

end Sys2Proof
end

