-- ==== Sys2Proof/Config.lean ====
section
/-!
DEFINITION. Config.lean: what the manual leaves open. Every constant here has no body: nothing proves a value of it, and a
claim that holds holds for every value (log 1). The cryptographic functions of R473 to R478 and the engine's own
choices stand here too: the manual names them and does not define them.
-/
namespace Sys2Proof.Config

/-- A free value, drawn by the counter of State. -/
opaque freeWord : Nat → Word

/-- HMAC-SHA-256 of a message under a key (R477, R478): named by the manual, defined outside it. -/
opaque hmacSha256 : List Byte → List Byte → BitVec 256

/-- SHA-384 of a message (R472, R473). -/
opaque sha384 : List Byte → BitVec 384

/-- Whether an ECDSA P-384 signature over a message verifies under a public key (R472, R473). -/
opaque ecdsaP384 : List Byte → List Byte → List Byte → Bool

/-- The module nonce the deterministic random bit generator gives at its n-th draw (R478). -/
opaque drbgNonce : Nat → BitVec 128

/-- The image keys burned at manufacture (R475): which are present, and their SHA-384 hashes. -/
opaque imgKeyPresent : Nat → Bool
opaque imgKeyHash : Nat → BitVec 384

/-- The serial number in the lane-die fuses (HOUSE.SERIAL_HI and SERIAL_LO). -/
opaque serial : BitVec 64

/-- The random bit generator is seeded and healthy (SEC_STAT.RNG_OK). -/
opaque rngOk : Bool

/-- A byte of a flash sector whose erase or program was cut, at the n-th look at it (R353). -/
opaque cutByte : Nat → Nat → Byte

/-- The row of the page storage, macros 174 to 183, that holds the registers of a quad of a page (R400, log 158). -/
opaque pageRow : Nat → Nat

/-- A byte of the FACTORY region, written at manufacture (R345). -/
opaque factoryByte : Nat → Byte

/-- The CRC-32 over the mirrored range (R315): the order in which its bytes and its directory enter is not laid down. -/
opaque mirrorCrc : List (Nat × Byte) → List (Nat × (Nat × Nat)) → Word

/-- F(25 °C) of a path in ps, as modelled from its factory delays d_in and d_out (R152, R153): the manual gives no formula. -/
opaque fixedAt25 : Nat → BitVec 16 → BitVec 16 → BitVec 20

/-- The IEEE 802.3 training of a technology, given by its modulation (PAM4) and symbol rate in kBd (R122; log 168): the control field that
carries a request (coded as in R129; 0 is hold) and a precoding request; the status field that carries the ready bit, the answer to the
partner's request (coded as in R130) and whether the sender precodes; and the pattern and seed of a lane's position in its port. -/
opaque ieeeCtrl : Bool × Nat → Nat → Bool → BitVec 16
opaque ieeeSts : Bool × Nat → Bool → Nat → Bool → BitVec 16
opaque ieeeSeed : Bool × Nat → Nat → Word

end Sys2Proof.Config
end

