-- ==== Sys2Proof/Machine/Operands.lean ====
section
/-!
DEFINITION. Machine/Operands.lean: sparse tables in canonical form, the fields of a register word, byte masks, signed codes
and byte order. These are the forms every meaning reads and writes its operands in.
-/
namespace Sys2Proof.Machine

/-! ### Sparse tables: a list of (key, value) pairs, keys rising, no entry equal to what an unlisted key reads as -/

/-- The value at key `k` of a table whose unlisted keys read as `d`. -/
def tabGet {α : Type} (d : Nat → α) : List (Nat × α) → Nat → α
  | [], k => d k
  | (j, v) :: t, k => if j = k then v else tabGet d t k

/-- Put an entry before the first larger key. -/
def tabIns {α : Type} (k : Nat) (v : α) : List (Nat × α) → List (Nat × α)
  | [] => [(k, v)]
  | (j, w) :: t => if k < j then (k, v) :: (j, w) :: t else (j, w) :: tabIns k v t

/-- Set key `k`: writing what the key reads as unlisted removes its entry, so equal tables are equal lists. -/
def tabSet {α : Type} [DecidableEq α] (d : Nat → α) (t : List (Nat × α)) (k : Nat) (v : α) : List (Nat × α) :=
  if v = d k then t.filter (fun e => e.1 != k) else tabIns k v (t.filter (fun e => e.1 != k))

/-- The canonical form of a table. -/
def tabWf {α : Type} [DecidableEq α] (d : Nat → α) : List (Nat × α) → Bool
  | [] => true
  | [(k, v)] => decide (v ≠ d k)
  | (k, v) :: (j, w) :: t => decide (v ≠ d k) && decide (k < j) && tabWf d ((j, w) :: t)

/-! ### Fields of a 32-bit register -/

/-- Bits `hi` to `lo` of a word, as a number. -/
def fget (w : Word) (hi lo : Nat) : Nat := w.toNat / 2 ^ lo % 2 ^ (hi + 1 - lo)

/-- The word with bits `hi` to `lo` replaced by the low bits of `v`. -/
def fset (w : Word) (hi lo v : Nat) : Word :=
  BitVec.ofNat 32 (w.toNat / 2 ^ (hi + 1) * 2 ^ (hi + 1) + v % 2 ^ (hi + 1 - lo) * 2 ^ lo + w.toNat % 2 ^ lo)

/-- The largest code of a field. -/
def fldTop (x : Fld) : Nat := 2 ^ (x.hi + 1 - x.lo) - 1

/-- Bit `b` of a word. -/
def wbit (w : Word) (b : Nat) : Bool := w.getLsbD b

/-- The 32-bit mask of the bytes a 4-bit mask covers; mask bit 3 - k is byte k, the most significant first (R4). -/
def byteMask (m : BitVec 4) : Word :=
  (if m.getLsbD 3 then 0xFF000000#32 else 0) ||| (if m.getLsbD 2 then 0x00FF0000#32 else 0) |||
  (if m.getLsbD 1 then 0x0000FF00#32 else 0) ||| (if m.getLsbD 0 then 0x000000FF#32 else 0)

/-- The written bits laid over the old word. -/
def merge (old data mask : Word) : Word := (old &&& ~~~mask) ||| (data &&& mask)

/-- A signed code of `n` bits. -/
def sx (n v : Nat) : Int := if v < 2 ^ (n - 1) then (v : Int) else (v : Int) - 2 ^ n

/-- The `n`-bit code of an integer, modulo 2^n. -/
def enc (n : Nat) (i : Int) : Nat := (i % (2 ^ n : Int)).toNat

/-- An integer held within ±m. -/
def clampInt (m : Nat) (i : Int) : Int := if i > m then m else if i < -(m : Int) then -(m : Int) else i

/-- A number held at or below `m`. -/
def satNat (m v : Nat) : Nat := if v > m then m else v

/-- A truth value as a field code. -/
def b2n (b : Bool) : Nat := if b then 1 else 0

/-- Word `i` of a quad, word 0 the most significant: the register at the quad's address + 4i (R4). -/
def quadWord (q : BitVec 128) (i : Nat) : Word := (q >>> (32 * (3 - i))).setWidth 32

/-- The quad of four words, the first the most significant. -/
def quadOf (a b c d : Word) : BitVec 128 := a ++ b ++ c ++ d

/-- Byte `k` of a quad, byte 0 the most significant (R254). -/
def quadByte (q : BitVec 128) (k : Nat) : Byte := (q >>> (8 * (15 - k))).setWidth 8

/-- Byte `k` of a word, byte 0 the most significant (R4). -/
def wordByte (w : Word) (k : Nat) : Byte := (w >>> (8 * (3 - k))).setWidth 8

/-- The positions of the ones of a word below `n`, lowest first. -/
def onesBelow (n : Nat) (w : Word) : List Nat := (List.range n).filter (fun b => w.getLsbD b)

/-- Whether a code is in a list of legal ranges; an empty list allows every code (R90). -/
def legalCode (l : List (Nat × Nat)) (v : Nat) : Bool := l.isEmpty || l.any (fun r => decide (r.1 ≤ v ∧ v ≤ r.2))

/-- The bits of a field in its register. -/
def fldMask (hi lo : Nat) : Word := fset 0 hi lo (2 ^ (hi + 1 - lo) - 1)

/-- Apply a state change for every element of a list, in order. -/
def forAll {σ α : Type} (l : List α) (f : α → σ → σ) (s : σ) : σ := l.foldl (fun s a => f a s) s

/-- One bit of CRC-16 with polynomial x^16 + x^12 + x^5 + 1 (R131). -/
def crc16Bit (c : BitVec 16) (b : Bool) : BitVec 16 :=
  let top := c.getLsbD 15 ^^ b
  let c' := c <<< 1
  if top then c' ^^^ 0x1021#16 else c'

/-- The CRC-16 of R131 over the control field followed by the status field, most significant bit first. -/
def crc16 (ctrl sts : Word) : BitVec 16 :=
  let bits (w : Word) := (List.range 32).map (fun i => w.getLsbD (31 - i))
  (bits ctrl ++ bits sts).foldl crc16Bit 0xFFFF#16

/-- Eight steps of the reflected CRC-32 of IEEE 802.3 (R315, R346). -/
def crc32Byte (c : Word) (b : Byte) : Word :=
  (List.range 8).foldl (fun c _ => if c.getLsbD 0 then (c >>> 1) ^^^ 0xEDB88320#32 else c >>> 1) (c ^^^ b.setWidth 32)

/-- The CRC-32 of IEEE 802.3 over a list of bytes. -/
def crc32 (bs : List Byte) : Word := ~~~(bs.foldl crc32Byte 0xFFFFFFFF#32)

/-- The bytes of a number, most significant first. -/
def beBytes (n v : Nat) : List Byte := (List.range n).map (fun i => BitVec.ofNat 8 (v / 256 ^ (n - 1 - i)))

/-- The four bytes of a word, most significant first (R4). -/
def wordBytes (w : Word) : List Byte := [wordByte w 0, wordByte w 1, wordByte w 2, wordByte w 3]

end Sys2Proof.Machine
end

