-- ==== Sys2Proof/Machine/RegMap.lean ====
section
/-!
DEFINITION. Machine/RegMap.lean: the register map of every page, as the manual's tables give it: one `Fld` per field, one
`Row` per field with its access code (R5), its reset value (R6; where the value is "NVM" the one for "where there is no
record"; where it is "live" 0 unless said otherwise, DESIGN CHOICE, log 3) and its legal codes (R90). A bit no row names
is RSV.
-/
namespace Sys2Proof.Machine

namespace Hdr
def PAGE_ID_TYPE : Fld := ⟨0x000, 31, 24⟩
def PAGE_ID_INST : Fld := ⟨0x000, 23, 16⟩
def PAGE_ID_LAYOUT : Fld := ⟨0x000, 15, 8⟩
def PAGE_CAP_PROF_ETH : Fld := ⟨0x004, 19, 19⟩
def PAGE_CAP_PROF_WX : Fld := ⟨0x004, 18, 18⟩
def PAGE_CAP_PROF_CONV : Fld := ⟨0x004, 17, 17⟩
def PAGE_CAP_PROF_TRANSP : Fld := ⟨0x004, 16, 16⟩
def PAGE_CAP_MIGRATE : Fld := ⟨0x004, 5, 5⟩
def PAGE_CAP_OWNABLE : Fld := ⟨0x004, 4, 4⟩
def PAGE_CAP_HOLD : Fld := ⟨0x004, 3, 3⟩
def PAGE_CAP_OOS : Fld := ⟨0x004, 2, 2⟩
def PAGE_CAP_FAULT : Fld := ⟨0x004, 1, 1⟩
def PAGE_CAP_EVT : Fld := ⟨0x004, 0, 0⟩
def PAGE_CTL_HOLD : Fld := ⟨0x008, 1, 1⟩
def PAGE_CTL_OOS : Fld := ⟨0x008, 0, 0⟩
def PAGE_STAT_IN_HOLD : Fld := ⟨0x00C, 1, 1⟩
def PAGE_STAT_BUSY : Fld := ⟨0x00C, 0, 0⟩
def EVT_RAW_FAULT : Fld := ⟨0x010, 31, 16⟩
def EVT_RAW_EVENT : Fld := ⟨0x010, 15, 0⟩
def EVT_EN_EN : Fld := ⟨0x014, 31, 0⟩
def EVT_PEND_PEND : Fld := ⟨0x018, 31, 0⟩
def EVT_INJ_INJ : Fld := ⟨0x01C, 31, 0⟩
def VIOL_0_TIMING : Fld := ⟨0x020, 31, 16⟩
def VIOL_0_ACCESS : Fld := ⟨0x020, 15, 0⟩
def VIOL_1_CONSISTENCY : Fld := ⟨0x024, 31, 16⟩
def VIOL_1_PROTOCOL : Fld := ⟨0x024, 15, 0⟩
def VIOL_INJ_INJ : Fld := ⟨0x028, 3, 0⟩
def WING_STAT_ENG_OPEN : Fld := ⟨0x02C, 24, 16⟩
def WING_STAT_HOST_ENTRIES : Fld := ⟨0x02C, 8, 0⟩
def EPOCH : Fld := ⟨0x030, 15, 0⟩
def OWNER : Fld := ⟨0x034, 3, 0⟩
def LOCK_SCENE_ID : Fld := ⟨0x038, 25, 16⟩
def LOCK_SCENE : Fld := ⟨0x038, 1, 1⟩
def LOCK_WLOCK : Fld := ⟨0x038, 0, 0⟩
end Hdr

namespace HouseR
def DEV_ID_PART : Fld := ⟨0x040, 31, 16⟩
def DEV_ID_MOD_REV : Fld := ⟨0x040, 15, 8⟩
def DEV_ID_LANE_DIE_REV : Fld := ⟨0x040, 7, 4⟩
def DEV_ID_POWER_DIE_REV : Fld := ⟨0x040, 3, 0⟩
def VENDOR_ID_VENDOR : Fld := ⟨0x044, 31, 16⟩
def SERIAL_HI_SERIAL : Fld := ⟨0x048, 31, 0⟩
def SERIAL_LO_SERIAL : Fld := ⟨0x04C, 31, 0⟩
def STRAP_BOOTSEL : Fld := ⟨0x050, 3, 3⟩
def STRAP_TWIN_ID : Fld := ⟨0x050, 2, 2⟩
def STRAP_ADDR : Fld := ⟨0x050, 1, 0⟩
def TWT_WINDOW_WINDOW : Fld := ⟨0x054, 15, 0⟩
def FAB_SPEED_RATE_MIN : Fld := ⟨0x058, 31, 16⟩
def FAB_SPEED_RATE : Fld := ⟨0x058, 15, 0⟩
def FAB_SEQ_SEQ : Fld := ⟨0x05C, 31, 0⟩
def FAB_CTL_MIN_CLR : Fld := ⟨0x060, 0, 0⟩
def FAB_LIMIT_RATE_FLOOR : Fld := ⟨0x064, 15, 0⟩
def ADM_Q_BUDGET : Fld := ⟨0x068, 31, 16⟩
def ADM_Q_Q : Fld := ⟨0x068, 15, 0⟩
def ADM_PEAK_PEAK : Fld := ⟨0x06C, 15, 0⟩
def ADM_CTL_TEST_FLOOR : Fld := ⟨0x070, 0, 0⟩
def SCRATCH : Fld := ⟨0x074, 31, 0⟩
def EVT_SUM_HI_SUM : Fld := ⟨0x080, 31, 0⟩
def EVT_SUM_LO_SUM : Fld := ⟨0x084, 31, 0⟩
def ATTN_EN_HI_ATTN_EN : Fld := ⟨0x088, 31, 0⟩
def ATTN_EN_LO_ATTN_EN : Fld := ⟨0x08C, 31, 0⟩
def PROMPT_EN_HI_PROMPT_EN : Fld := ⟨0x090, 31, 0⟩
def PROMPT_EN_LO_PROMPT_EN : Fld := ⟨0x094, 31, 0⟩
def ATTN_CTL_PROMPT_GAP : Fld := ⟨0x098, 15, 8⟩
def ATTN_CTL_PROMPT_ON : Fld := ⟨0x098, 1, 1⟩
def ATTN_CTL_ATTN_ON : Fld := ⟨0x098, 0, 0⟩
def ATTN_STAT_FIRST_VALID : Fld := ⟨0x09C, 22, 22⟩
def ATTN_STAT_FIRST : Fld := ⟨0x09C, 21, 16⟩
def ATTN_STAT_PROMPT_REQ : Fld := ⟨0x09C, 1, 1⟩
def ATTN_STAT_ATTN : Fld := ⟨0x09C, 0, 0⟩
def VIOL_TOT_ACC_ACCESS : Fld := ⟨0x0A0, 31, 0⟩
def VIOL_TOT_TIM_TIMING : Fld := ⟨0x0A4, 31, 0⟩
def VIOL_TOT_PROT_PROTOCOL : Fld := ⟨0x0A8, 31, 0⟩
def VIOL_TOT_CONS_CONSISTENCY : Fld := ⟨0x0AC, 31, 0⟩
def VIOL_UNMAPPED_UNMAPPED : Fld := ⟨0x0B0, 31, 0⟩
def VIOL_LAST_INJ : Fld := ⟨0x0B4, 13, 13⟩
def VIOL_LAST_KIND : Fld := ⟨0x0B4, 12, 11⟩
def VIOL_LAST_PAGE : Fld := ⟨0x0B4, 8, 0⟩
def INJ_CTL_KEY : Fld := ⟨0x0B8, 31, 24⟩
def INJ_CTL_SENSOR : Fld := ⟨0x0B8, 19, 16⟩
def INJ_CTL_ARM : Fld := ⟨0x0B8, 0, 0⟩
def INJ_CNT_GUARDED : Fld := ⟨0x0BC, 31, 16⟩
def INJ_CNT_INJECTIONS : Fld := ⟨0x0BC, 15, 0⟩
def SOFT_EVT_SET : Fld := ⟨0x0C0, 31, 31⟩
def SOFT_EVT_CODE : Fld := ⟨0x0C0, 15, 0⟩
def ECC_INJ_ARM : Fld := ⟨0x0C4, 31, 31⟩
def ECC_INJ_NBITS : Fld := ⟨0x0C4, 25, 24⟩
def ECC_INJ_MACRO : Fld := ⟨0x0C4, 16, 8⟩
def ECC_INJ_COLUMN : Fld := ⟨0x0C4, 7, 0⟩
def ECC_CNT_UNCORR : Fld := ⟨0x0C8, 31, 16⟩
def ECC_CNT_CORR : Fld := ⟨0x0C8, 15, 0⟩
def ECC_LAST_UNC : Fld := ⟨0x0CC, 31, 31⟩
def ECC_LAST_ROW : Fld := ⟨0x0CC, 25, 16⟩
def ECC_LAST_MACRO : Fld := ⟨0x0CC, 8, 0⟩
def GRP_PEND_FAULT_PATHS (i : Nat) : Fld := ⟨0x0E0 + 4 * i, 31, 16⟩
def GRP_PEND_EVT_PATHS (i : Nat) : Fld := ⟨0x0E0 + 4 * i, 15, 0⟩
def RESET_CTL_KEY : Fld := ⟨0x100, 31, 24⟩
def RESET_CTL_OP : Fld := ⟨0x100, 11, 8⟩
def RESET_CTL_TARGET : Fld := ⟨0x100, 6, 0⟩
def RESET_STAT_STATE : Fld := ⟨0x104, 31, 28⟩
def RESET_STAT_LAST_OP : Fld := ⟨0x104, 27, 24⟩
def RESET_STAT_LAST_TARGET : Fld := ⟨0x104, 22, 16⟩
def RESET_STAT_CONFLICT : Fld := ⟨0x104, 0, 0⟩
def RESET_CAUSE_FULL_CAUSE : Fld := ⟨0x108, 31, 28⟩
def RESET_CAUSE_HOUSE_CAUSE : Fld := ⟨0x108, 27, 24⟩
def RESET_CNT_HOUSE_RESETS : Fld := ⟨0x10C, 31, 16⟩
def RESET_CNT_GROUP_RESETS : Fld := ⟨0x10C, 15, 8⟩
def RESET_CNT_PATH_RESETS : Fld := ⟨0x10C, 7, 0⟩
def START_STAT_KIND : Fld := ⟨0x110, 31, 30⟩
def START_STAT_CFG : Fld := ⟨0x110, 29, 28⟩
def START_STAT_IMG : Fld := ⟨0x110, 27, 26⟩
def START_STAT_CAL : Fld := ⟨0x110, 25, 24⟩
def START_STAT_PHASE : Fld := ⟨0x110, 23, 20⟩
def START_STAT_READY_MS : Fld := ⟨0x110, 15, 0⟩
def START_CFG_REQ_FULL : Fld := ⟨0x114, 1, 1⟩
def START_CFG_IMG_SLOT : Fld := ⟨0x114, 0, 0⟩
end HouseR

namespace SupplyR
def SUP_THR_B_THR : Fld := ⟨0x040, 25, 16⟩
def SUP_THR_A_THR : Fld := ⟨0x040, 9, 0⟩
def SUP_CTL_FORCE_B : Fld := ⟨0x044, 8, 8⟩
def SUP_CTL_RET_DLY : Fld := ⟨0x044, 7, 0⟩
def SUP_STAT_RET_WAIT : Fld := ⟨0x048, 7, 7⟩
def SUP_STAT_B_SEEN : Fld := ⟨0x048, 6, 6⟩
def SUP_STAT_A_SEEN : Fld := ⟨0x048, 5, 5⟩
def SUP_STAT_B_GOOD : Fld := ⟨0x048, 4, 4⟩
def SUP_STAT_A_GOOD : Fld := ⟨0x048, 3, 3⟩
def SUP_STAT_SEL : Fld := ⟨0x048, 1, 0⟩
def SUP_VIN_VINA : Fld := ⟨0x04C, 31, 16⟩
def SUP_VIN_VINB : Fld := ⟨0x04C, 15, 0⟩
def SUP_PWR_P_IN : Fld := ⟨0x050, 31, 16⟩
def SUP_PWR_HUP : Fld := ⟨0x050, 15, 0⟩
def SUP_CNT_SWITCHES : Fld := ⟨0x054, 31, 16⟩
def SUP_CNT_A_LOSSES : Fld := ⟨0x054, 15, 8⟩
def SUP_CNT_B_LOSSES : Fld := ⟨0x054, 7, 0⟩
def RAIL_STAT_IN_WIN : Fld := ⟨0x058, 5, 0⟩
def HUP_CFG_CHG_EN : Fld := ⟨0x060, 31, 31⟩
def HUP_CFG_LOW_MJ : Fld := ⟨0x060, 25, 16⟩
def HUP_CFG_TARGET : Fld := ⟨0x060, 5, 0⟩
def HUP_CAP_RESULT : Fld := ⟨0x064, 31, 30⟩
def HUP_CAP_AGE : Fld := ⟨0x064, 27, 16⟩
def HUP_CAP_CAP : Fld := ⟨0x064, 15, 0⟩
def HUP_ENERGY_E_AVAIL : Fld := ⟨0x068, 9, 0⟩
def HUP_CTL_MEASURE : Fld := ⟨0x06C, 0, 0⟩
end SupplyR

namespace PstateR
def DEV_CTL_KEY : Fld := ⟨0x040, 15, 8⟩
def DEV_CTL_DARK : Fld := ⟨0x040, 0, 0⟩
def DEV_STAT_DARK_EXITS : Fld := ⟨0x044, 31, 16⟩
def DEV_STAT_FROM_DARK : Fld := ⟨0x044, 0, 0⟩
def GRP_SUM_PEND0 : Fld := ⟨0x048, 3, 3⟩
def GRP_SUM_PEND1 : Fld := ⟨0x048, 7, 7⟩
def GRP_SUM_PEND2 : Fld := ⟨0x048, 11, 11⟩
def GRP_SUM_PEND3 : Fld := ⟨0x048, 15, 15⟩
def GRP_SUM_PEND4 : Fld := ⟨0x048, 19, 19⟩
def GRP_SUM_PEND5 : Fld := ⟨0x048, 23, 23⟩
def GRP_SUM_PEND6 : Fld := ⟨0x048, 27, 27⟩
def GRP_SUM_PEND7 : Fld := ⟨0x048, 31, 31⟩
def GRP_SUM_STATE0 : Fld := ⟨0x048, 2, 0⟩
def GRP_SUM_STATE1 : Fld := ⟨0x048, 6, 4⟩
def GRP_SUM_STATE2 : Fld := ⟨0x048, 10, 8⟩
def GRP_SUM_STATE3 : Fld := ⟨0x048, 14, 12⟩
def GRP_SUM_STATE4 : Fld := ⟨0x048, 18, 16⟩
def GRP_SUM_STATE5 : Fld := ⟨0x048, 22, 20⟩
def GRP_SUM_STATE6 : Fld := ⟨0x048, 26, 24⟩
def GRP_SUM_STATE7 : Fld := ⟨0x048, 30, 28⟩
def GRP_REQ_MASK : Fld := ⟨0x04C, 23, 16⟩
def GRP_REQ_REQ : Fld := ⟨0x04C, 1, 0⟩
end PstateR

namespace NvmR
def NVM_CMD_OP : Fld := ⟨0x040, 31, 28⟩
def NVM_CMD_REGION : Fld := ⟨0x040, 27, 24⟩
def NVM_ADDR_ADDR : Fld := ⟨0x044, 19, 0⟩
def NVM_LEN_LEN : Fld := ⟨0x048, 10, 0⟩
def NVM_STAT_STATE : Fld := ⟨0x04C, 31, 28⟩
def NVM_STAT_LAST_OP : Fld := ⟨0x04C, 27, 24⟩
def NVM_STAT_LAST_REGION : Fld := ⟨0x04C, 23, 20⟩
def NVM_STAT_RESULT : Fld := ⟨0x04C, 19, 16⟩
def NVM_ECHK_E_AVAIL : Fld := ⟨0x050, 31, 22⟩
def NVM_ECHK_E_REQ : Fld := ⟨0x050, 21, 12⟩
def NVM_ECHK_KIND : Fld := ⟨0x050, 11, 8⟩
def NVM_ECHK_PASS : Fld := ⟨0x050, 0, 0⟩
def NVM_CNT_DONE : Fld := ⟨0x054, 31, 16⟩
def NVM_CNT_REFUSED : Fld := ⟨0x054, 15, 0⟩
def REC_SEL_REGION : Fld := ⟨0x058, 3, 0⟩
def REC_STAT_A_VALID : Fld := ⟨0x05C, 31, 31⟩
def REC_STAT_B_VALID : Fld := ⟨0x05C, 30, 30⟩
def REC_STAT_ACTIVE : Fld := ⟨0x05C, 29, 28⟩
def REC_STAT_FREE : Fld := ⟨0x05C, 23, 16⟩
def REC_SEQ_SEQ : Fld := ⟨0x060, 31, 0⟩
def REC_TIME_TIME : Fld := ⟨0x064, 31, 0⟩
def NVM_BUF (i : Nat) : Fld := ⟨0x400 + 4 * i, 31, 0⟩
end NvmR

namespace CalR
def CAL_CFG_STORE_INT : Fld := ⟨0x040, 15, 8⟩
def CAL_CFG_RAMP_PACE : Fld := ⟨0x040, 7, 4⟩
def CAL_CFG_AUTO_STORE : Fld := ⟨0x040, 1, 1⟩
def CAL_CFG_CAL_CHECK : Fld := ⟨0x040, 0, 0⟩
def CAL_STAT_STORING : Fld := ⟨0x044, 18, 18⟩
def CAL_STAT_DIRTY : Fld := ⟨0x044, 17, 17⟩
def CAL_STAT_SUSPENDED : Fld := ⟨0x044, 16, 16⟩
def CAL_STAT_PENDING : Fld := ⟨0x044, 15, 8⟩
def CAL_STAT_RUNNING : Fld := ⟨0x044, 7, 0⟩
def BG_MON_MAX : Fld := ⟨0x048, 31, 16⟩
def BG_MON_DIFF : Fld := ⟨0x048, 15, 0⟩
def CAL_STORE_AGE_H : Fld := ⟨0x04C, 31, 16⟩
def CAL_STORE_STORES : Fld := ⟨0x04C, 15, 0⟩
end CalR

namespace RehR
def REH_CTL_OP : Fld := ⟨0x040, 31, 28⟩
def REH_CTL_TARGET : Fld := ⟨0x040, 11, 8⟩
def REH_CTL_FORCE : Fld := ⟨0x040, 1, 1⟩
def REH_TESTS_MASK : Fld := ⟨0x044, 15, 0⟩
def REH_STAT_STATE : Fld := ⟨0x048, 31, 28⟩
def REH_STAT_SCOPE : Fld := ⟨0x048, 27, 24⟩
def REH_STAT_TARGET : Fld := ⟨0x048, 23, 20⟩
def REH_STAT_TEST : Fld := ⟨0x048, 19, 16⟩
def REH_STAT_LAST : Fld := ⟨0x048, 15, 12⟩
def REH_STAT_CAUSE : Fld := ⟨0x048, 11, 8⟩
def REH_STAT_LOG_LOST : Fld := ⟨0x048, 7, 7⟩
def REH_STAT_PROGRESS : Fld := ⟨0x048, 6, 0⟩
def REH_CFG_MAXAGE : Fld := ⟨0x04C, 15, 0⟩
def ONTIME_MIN : Fld := ⟨0x050, 31, 0⟩
def QS_STAT_QUICK : Fld := ⟨0x054, 31, 31⟩
def QS_STAT_WHY : Fld := ⟨0x054, 27, 24⟩
def QS_STAT_AGE_H : Fld := ⟨0x054, 15, 0⟩
def REH_RES_RESULT (i : Nat) : Fld := ⟨0x060 + 4 * i, 31, 28⟩
def REH_RES_COINC (i : Nat) : Fld := ⟨0x060 + 4 * i, 27, 27⟩
def REH_RES_VOID (i : Nat) : Fld := ⟨0x060 + 4 * i, 26, 26⟩
def REH_RES_COV (i : Nat) : Fld := ⟨0x060 + 4 * i, 25, 16⟩
def REH_RES_DUR (i : Nat) : Fld := ⟨0x060 + 4 * i, 15, 0⟩
def REP_STAT_SOFT : Fld := ⟨0x0A0, 31, 23⟩
def REP_STAT_FUSED : Fld := ⟨0x0A0, 22, 14⟩
def REP_STAT_UNSTORED : Fld := ⟨0x0A0, 7, 7⟩
def REP_STAT_UNREPAIRED : Fld := ⟨0x0A0, 6, 6⟩
def REP_STAT_ENG_RET_V : Fld := ⟨0x0A0, 4, 4⟩
def REP_STAT_ENG_RET : Fld := ⟨0x0A0, 3, 0⟩
def TESTLAND_DRIVEN : Fld := ⟨0x0A4, 3, 0⟩
end RehR

namespace ThermR
def THERM_T_MAX (i : Nat) : Fld := ⟨0x040 + 4 * i, 27, 16⟩
def THERM_T_NOW (i : Nat) : Fld := ⟨0x040 + 4 * i, 11, 0⟩
def OT_CFG_HYST : Fld := ⟨0x064, 19, 16⟩
def OT_CFG_WARN_THR : Fld := ⟨0x064, 15, 8⟩
def OT_CFG_OT_THR : Fld := ⟨0x064, 7, 0⟩
def THERM_STAT_WARN : Fld := ⟨0x068, 24, 16⟩
def THERM_STAT_OVER : Fld := ⟨0x068, 8, 0⟩
def THERM_CTL_MAX_CLR : Fld := ⟨0x06C, 0, 0⟩
end ThermR

namespace TimeR
def SEC_HI_SEC : Fld := ⟨0x040, 31, 0⟩
def SEC_LO_SEC : Fld := ⟨0x044, 31, 0⟩
def NS : Fld := ⟨0x048, 29, 0⟩
def FRAC : Fld := ⟨0x04C, 31, 16⟩
def FRAC_QUAL : Fld := ⟨0x04C, 0, 0⟩
def TIME_CTL_AUTO_REARM : Fld := ⟨0x050, 8, 8⟩
def TIME_CTL_SRC : Fld := ⟨0x050, 5, 4⟩
def TIME_CTL_HOLD_REQ : Fld := ⟨0x050, 2, 2⟩
def TIME_CTL_ARM : Fld := ⟨0x050, 1, 1⟩
def TIME_CTL_STEP : Fld := ⟨0x050, 0, 0⟩
def TIME_RATE_RATE : Fld := ⟨0x054, 31, 0⟩
def TIME_STAT_HOLD_AGE : Fld := ⟨0x058, 31, 16⟩
def TIME_STAT_STEPS : Fld := ⟨0x058, 15, 8⟩
def TIME_STAT_UNC_HIGH : Fld := ⟨0x058, 5, 5⟩
def TIME_STAT_KEEPALIVE : Fld := ⟨0x058, 4, 4⟩
def TIME_STAT_BRIDGE : Fld := ⟨0x058, 3, 3⟩
def TIME_STAT_HOLDOVER : Fld := ⟨0x058, 2, 2⟩
def TIME_STAT_ARMED : Fld := ⟨0x058, 1, 1⟩
def TIME_STAT_VALID : Fld := ⟨0x058, 0, 0⟩
def TIME_UNC_UNC : Fld := ⟨0x05C, 31, 0⟩
def STEP_SEC_HI_STEP_SEC : Fld := ⟨0x060, 15, 0⟩
def STEP_SEC_LO_STEP_SEC : Fld := ⟨0x064, 31, 0⟩
def STEP_NS : Fld := ⟨0x068, 29, 0⟩
def STEP_FRAC : Fld := ⟨0x06C, 31, 16⟩
def HOLD_CFG_HOLD_UNC : Fld := ⟨0x070, 31, 16⟩
def HOLD_CFG_HOLD_TMO : Fld := ⟨0x070, 7, 0⟩
def UNC_CFG_UNC_THR : Fld := ⟨0x074, 31, 8⟩
def UNC_CFG_UNC_KA : Fld := ⟨0x074, 7, 0⟩
def KA_PERIOD : Fld := ⟨0x078, 31, 0⟩
def KA_CYCLES : Fld := ⟨0x07C, 31, 0⟩
def REF_CFG_BACKUP_EN : Fld := ⟨0x080, 1, 1⟩
def REF_CFG_PRIMARY : Fld := ⟨0x080, 0, 0⟩
def REF0_FREQ_FREQ : Fld := ⟨0x084, 31, 0⟩
def REF1_FREQ_FREQ : Fld := ⟨0x088, 31, 0⟩
def REF_STAT_CHANGES : Fld := ⟨0x08C, 31, 16⟩
def REF_STAT_CHANGING : Fld := ⟨0x08C, 3, 3⟩
def REF_STAT_REF1_OK : Fld := ⟨0x08C, 2, 2⟩
def REF_STAT_REF0_OK : Fld := ⟨0x08C, 1, 1⟩
def REF_STAT_IN_USE : Fld := ⟨0x08C, 0, 0⟩
def MARK_CFG_MODE : Fld := ⟨0x090, 1, 0⟩
def MARK_PERIOD_P : Fld := ⟨0x094, 31, 0⟩
def MARK_STAT_MOVED : Fld := ⟨0x098, 17, 17⟩
def MARK_STAT_INTERNAL : Fld := ⟨0x098, 16, 16⟩
def MARK_STAT_MARKS : Fld := ⟨0x098, 15, 0⟩
def MARK_TS (i : Nat) : Fld := ⟨0x0A0 + 4 * i, 31, 0⟩
def PPS_CTL_WIDTH : Fld := ⟨0x0B0, 31, 16⟩
def PPS_CTL_IN_EN : Fld := ⟨0x0B0, 1, 1⟩
def PPS_CTL_OUT_EN : Fld := ⟨0x0B0, 0, 0⟩
def PPS_OFS_OFS : Fld := ⟨0x0B4, 23, 0⟩
def PPS_STAT_IGNORED : Fld := ⟨0x0B8, 31, 16⟩
def PPS_STAT_IN_CNT : Fld := ⟨0x0B8, 15, 0⟩
def PPS_IN_TS (i : Nat) : Fld := ⟨0x0C0 + 4 * i, 31, 0⟩
end TimeR

namespace CueR
def CUE_CTL_LOW_THR : Fld := ⟨0x040, 12, 0⟩
def CUE_OP_OP : Fld := ⟨0x044, 31, 28⟩
def CUE_OP_CUE : Fld := ⟨0x044, 11, 0⟩
def OPEN_OP_OP : Fld := ⟨0x048, 31, 28⟩
def OPEN_OP_SCENE : Fld := ⟨0x048, 25, 16⟩
def OPEN_OP_BASE : Fld := ⟨0x048, 14, 0⟩
def OPEN_STAT_CLOSING : Fld := ⟨0x04C, 28, 28⟩
def OPEN_STAT_OVERFLOW : Fld := ⟨0x04C, 27, 27⟩
def OPEN_STAT_ENTRIES : Fld := ⟨0x04C, 24, 16⟩
def OPEN_STAT_LAST_OP : Fld := ⟨0x04C, 15, 12⟩
def OPEN_STAT_RESULT : Fld := ⟨0x04C, 11, 8⟩
def OPEN_STAT_CAUSE : Fld := ⟨0x04C, 3, 0⟩
def SCENE_SEL_SCENE : Fld := ⟨0x050, 9, 0⟩
def SCENE_DESC_BASE : Fld := ⟨0x054, 30, 16⟩
def SCENE_DESC_LEN : Fld := ⟨0x054, 8, 0⟩
def SCENE_STAT_RESULT : Fld := ⟨0x058, 31, 28⟩
def SCENE_STAT_CAUSE : Fld := ⟨0x058, 27, 24⟩
def SCENE_STAT_ENTRY : Fld := ⟨0x058, 23, 16⟩
def SCENE_STAT_COMMITS : Fld := ⟨0x058, 15, 0⟩
def FREE_CUES_FREE : Fld := ⟨0x05C, 12, 0⟩
def FAIL_INFO_CAUSE : Fld := ⟨0x060, 31, 28⟩
def FAIL_INFO_ENTRY : Fld := ⟨0x060, 23, 16⟩
def FAIL_INFO_SCENE : Fld := ⟨0x060, 9, 0⟩
def FAIL_CUE_VIA_CUE : Fld := ⟨0x064, 31, 31⟩
def FAIL_CUE_CUE : Fld := ⟨0x064, 11, 0⟩
def FAIL_ADDR_ADDR : Fld := ⟨0x068, 31, 0⟩
def FAIL_CNT_ENG_FAILS : Fld := ⟨0x06C, 31, 16⟩
def FAIL_CNT_HOST_FAILS : Fld := ⟨0x06C, 15, 0⟩
def LAST_FIRED_VALID : Fld := ⟨0x070, 31, 31⟩
def LAST_FIRED_CUE : Fld := ⟨0x070, 11, 0⟩
def CHK_STAT_LOAD : Fld := ⟨0x074, 31, 16⟩
def CHK_STAT_DEFERRED : Fld := ⟨0x074, 15, 8⟩
def CHK_STAT_SLOTS_FULL : Fld := ⟨0x074, 2, 0⟩
end CueR

namespace TwinR
def TWIN_CFG_REENTRY_TMO : Fld := ⟨0x040, 31, 28⟩
def TWIN_CFG_REENTRY_WIN : Fld := ⟨0x040, 27, 24⟩
def TWIN_CFG_MATCH_TOL : Fld := ⟨0x040, 23, 16⟩
def TWIN_CFG_MATCH_RUN : Fld := ⟨0x040, 15, 12⟩
def TWIN_CFG_PROMOTE_DLY : Fld := ⟨0x040, 11, 8⟩
def TWIN_CFG_SRC_ALONE : Fld := ⟨0x040, 5, 4⟩
def TWIN_CFG_SEED_EN : Fld := ⟨0x040, 3, 3⟩
def TWIN_CFG_TIME_EN : Fld := ⟨0x040, 2, 2⟩
def TWIN_CFG_WORK_HALF : Fld := ⟨0x040, 1, 1⟩
def TWIN_CFG_EN : Fld := ⟨0x040, 0, 0⟩
def TWIN_STAT_ROLE_CHANGES : Fld := ⟨0x044, 31, 16⟩
def TWIN_STAT_WORK_SAME : Fld := ⟨0x044, 13, 13⟩
def TWIN_STAT_SYNCING : Fld := ⟨0x044, 12, 12⟩
def TWIN_STAT_PEER_SD : Fld := ⟨0x044, 9, 8⟩
def TWIN_STAT_PEER_TWIN_ID : Fld := ⟨0x044, 7, 7⟩
def TWIN_STAT_ROLE : Fld := ⟨0x044, 5, 4⟩
def TWIN_STAT_STATE : Fld := ⟨0x044, 2, 0⟩
def PEER_SERIAL_HI_SERIAL : Fld := ⟨0x048, 31, 0⟩
def PEER_SERIAL_LO_SERIAL : Fld := ⟨0x04C, 31, 0⟩
def SD_CTL_FORCE : Fld := ⟨0x050, 5, 5⟩
def SD_CTL_CANCEL : Fld := ⟨0x050, 4, 4⟩
def SD_CTL_REPLACE : Fld := ⟨0x050, 3, 3⟩
def SD_CTL_REENTER : Fld := ⟨0x050, 2, 2⟩
def SD_CTL_CONFIRM : Fld := ⟨0x050, 1, 1⟩
def SD_CTL_REQ : Fld := ⟨0x050, 0, 0⟩
def SD_STAT_BLOCK_WHY : Fld := ⟨0x054, 26, 24⟩
def SD_STAT_BLOCK_LP : Fld := ⟨0x054, 21, 16⟩
def SD_STAT_CAUSE : Fld := ⟨0x054, 11, 8⟩
def SD_STAT_SD_STATE : Fld := ⟨0x054, 1, 0⟩
def SEL_OK_LO_SEL_OK : Fld := ⟨0x058, 31, 0⟩
def SEL_OK_HI_SEL_OK : Fld := ⟨0x05C, 31, 0⟩
def PIN_MIS_LO_PIN_MIS : Fld := ⟨0x060, 31, 0⟩
def PIN_MIS_HI_PIN_MIS : Fld := ⟨0x064, 31, 0⟩
def CFG_MIS_LO_CFG_MIS : Fld := ⟨0x068, 31, 0⟩
def CFG_MIS_HI_CFG_MIS : Fld := ⟨0x06C, 31, 0⟩
def TT_ASYM_ASYM : Fld := ⟨0x070, 19, 0⟩
def TT_OFS_OFS : Fld := ⟨0x074, 31, 0⟩
def TT_DELAY_DELAY : Fld := ⟨0x078, 15, 0⟩
def TT_STAT_EXCHANGES : Fld := ⟨0x07C, 31, 16⟩
def TT_STAT_STEPPED : Fld := ⟨0x07C, 1, 1⟩
def TT_STAT_LOCKED : Fld := ⟨0x07C, 0, 0⟩
def LINK_STAT_LANE_LOCK : Fld := ⟨0x080, 7, 4⟩
def LINK_STAT_HB_OK : Fld := ⟨0x080, 1, 1⟩
def LINK_STAT_LINK_UP : Fld := ⟨0x080, 0, 0⟩
def LINK_CNT_RESENDS : Fld := ⟨0x084, 31, 16⟩
def LINK_CNT_LOSSES : Fld := ⟨0x084, 15, 8⟩
def LINK_CNT_HB_LOSSES : Fld := ⟨0x084, 7, 0⟩
def MIR_CRC_OWN : Fld := ⟨0x088, 31, 0⟩
def MIR_PEER_CRC_PEER : Fld := ⟨0x08C, 31, 0⟩
def MIR_CNT_OPS : Fld := ⟨0x090, 31, 16⟩
def MIR_CNT_SYNCS : Fld := ⟨0x090, 15, 0⟩
def MIR_SEL_PATH : Fld := ⟨0x0A0, 6, 0⟩
def MIR_AGE_AGE : Fld := ⟨0x0A4, 15, 0⟩
def MIR_RX_CTLE : Fld := ⟨0x0A8, 31, 0⟩
def MIR_DFE : Fld := ⟨0x0AC, 31, 0⟩
def MIR_TX_FIR0 : Fld := ⟨0x0B0, 31, 0⟩
def MIR_TX_FIR1 : Fld := ⟨0x0B4, 31, 0⟩
def MIR_FFE_TAP (i : Nat) : Fld := ⟨0x0B8 + 4 * i, 31, 0⟩
end TwinR

namespace FrameR
def FRAME_CTL_UM_DA_CHECK : Fld := ⟨0x040, 1, 1⟩
def FRAME_CTL_UM_EN : Fld := ⟨0x040, 0, 0⟩
def UM_ETYPE_ETYPE : Fld := ⟨0x044, 15, 0⟩
def UM_DEADLINE_DEADLINE : Fld := ⟨0x048, 15, 0⟩
def PORT_CTL_DEF_DEADLINE (i : Nat) : Fld := ⟨0x080 + 64 * i, 31, 16⟩
def PORT_CTL_DOMAIN (i : Nat) : Fld := ⟨0x080 + 64 * i, 15, 8⟩
def PORT_CTL_PTP_EXT (i : Nat) : Fld := ⟨0x080 + 64 * i, 2, 2⟩
def PORT_CTL_SNOOP (i : Nat) : Fld := ⟨0x080 + 64 * i, 1, 1⟩
def PORT_CTL_EN (i : Nat) : Fld := ⟨0x080 + 64 * i, 0, 0⟩
def MAC_HI_MAC (i : Nat) : Fld := ⟨0x084 + 64 * i, 15, 0⟩
def MAC_LO_MAC (i : Nat) : Fld := ⟨0x088 + 64 * i, 31, 0⟩
def PTP_ID_HI_CLOCK_ID (i : Nat) : Fld := ⟨0x08C + 64 * i, 31, 0⟩
def PTP_ID_LO_CLOCK_ID (i : Nat) : Fld := ⟨0x090 + 64 * i, 31, 0⟩
def PTP_PORTNUM_PORTNUM (i : Nat) : Fld := ⟨0x094 + 64 * i, 15, 0⟩
def TX_IDX_TX_HEAD (i : Nat) : Fld := ⟨0x098 + 64 * i, 21, 16⟩
def TX_IDX_TX_TAIL (i : Nat) : Fld := ⟨0x098 + 64 * i, 5, 0⟩
def RX_IDX_RX_HEAD (i : Nat) : Fld := ⟨0x09C + 64 * i, 21, 16⟩
def RX_IDX_RX_TAIL (i : Nat) : Fld := ⟨0x09C + 64 * i, 5, 0⟩
def PORT_STAT_UM_QUEUED (i : Nat) : Fld := ⟨0x0A0 + 64 * i, 26, 24⟩
def PORT_STAT_EXT_PATH (i : Nat) : Fld := ⟨0x0A0 + 64 * i, 22, 16⟩
def PORT_STAT_INS_PATH (i : Nat) : Fld := ⟨0x0A0 + 64 * i, 14, 8⟩
def PORT_STAT_INSERTING (i : Nat) : Fld := ⟨0x0A0 + 64 * i, 2, 2⟩
def PORT_STAT_EXT_READY (i : Nat) : Fld := ⟨0x0A0 + 64 * i, 1, 1⟩
def PORT_STAT_INS_READY (i : Nat) : Fld := ⟨0x0A0 + 64 * i, 0, 0⟩
def TX_CNT_DROPPED (i : Nat) : Fld := ⟨0x0A4 + 64 * i, 31, 16⟩
def TX_CNT_SENT (i : Nat) : Fld := ⟨0x0A4 + 64 * i, 15, 0⟩
def RX_CNT_NOBUF (i : Nat) : Fld := ⟨0x0A8 + 64 * i, 31, 16⟩
def RX_CNT_RECEIVED (i : Nat) : Fld := ⟨0x0A8 + 64 * i, 15, 0⟩
def UM_CNT0_AUTH_FAIL (i : Nat) : Fld := ⟨0x0AC + 64 * i, 31, 16⟩
def UM_CNT0_SERVED (i : Nat) : Fld := ⟨0x0AC + 64 * i, 15, 0⟩
def UM_CNT1_REFUSED (i : Nat) : Fld := ⟨0x0B0 + 64 * i, 31, 16⟩
def UM_CNT1_BAD (i : Nat) : Fld := ⟨0x0B0 + 64 * i, 15, 0⟩
end FrameR

namespace TwtR
def TWT_CFG_TMO : Fld := ⟨0x040, 31, 24⟩
def TWT_CFG_T_PROMPT : Fld := ⟨0x040, 23, 16⟩
def TWT_CFG_PROMPT_IDLE : Fld := ⟨0x040, 15, 8⟩
def TWT_CFG_T_FALL : Fld := ⟨0x040, 3, 0⟩
def TWT_STAT_POINTER : Fld := ⟨0x044, 31, 16⟩
def TWT_STAT_BUF_BYTES : Fld := ⟨0x044, 14, 8⟩
def TWT_STAT_PROMPTING : Fld := ⟨0x044, 4, 4⟩
def TWT_STAT_PROMPT_PEND : Fld := ⟨0x044, 3, 3⟩
def TWT_STAT_OPEN : Fld := ⟨0x044, 2, 2⟩
def TWT_STAT_SDA : Fld := ⟨0x044, 1, 1⟩
def TWT_STAT_SCL : Fld := ⟨0x044, 0, 0⟩
def TWT_LAST_RD_REGS : Fld := ⟨0x048, 31, 16⟩
def TWT_LAST_WR_REGS : Fld := ⟨0x048, 15, 0⟩
def TWT_CNT_TRANSFERS : Fld := ⟨0x04C, 31, 16⟩
def TWT_CNT_PROMPTS : Fld := ⟨0x04C, 15, 8⟩
def TWT_CNT_ABANDONED : Fld := ⟨0x04C, 7, 0⟩
end TwtR

namespace TwcR
def TWC_CFG_EN : Fld := ⟨0x040, 31, 31⟩
def TWC_CFG_RETRIES : Fld := ⟨0x040, 26, 24⟩
def TWC_CFG_TMO : Fld := ⟨0x040, 23, 16⟩
def TWC_CFG_SPEED : Fld := ⟨0x040, 9, 8⟩
def TWC_CFG_T_FALL : Fld := ⟨0x040, 3, 0⟩
def TWC_CMD_OP : Fld := ⟨0x044, 31, 28⟩
def TWC_CMD_ADDR : Fld := ⟨0x044, 22, 16⟩
def TWC_CMD_RLEN : Fld := ⟨0x044, 13, 8⟩
def TWC_CMD_WLEN : Fld := ⟨0x044, 5, 0⟩
def TWC_STAT_STATE : Fld := ⟨0x048, 31, 28⟩
def TWC_STAT_RESULT : Fld := ⟨0x048, 27, 24⟩
def TWC_STAT_NACK_INDEX : Fld := ⟨0x048, 23, 16⟩
def TWC_STAT_RD_DONE : Fld := ⟨0x048, 15, 8⟩
def TWC_STAT_ATTEMPTS : Fld := ⟨0x048, 7, 4⟩
def TWC_STAT_SDA_TMO : Fld := ⟨0x048, 3, 3⟩
def TWC_STAT_SCL_TMO : Fld := ⟨0x048, 2, 2⟩
def TWC_STAT_SDA : Fld := ⟨0x048, 1, 1⟩
def TWC_STAT_SCL : Fld := ⟨0x048, 0, 0⟩
def TWC_CNT_DONE : Fld := ⟨0x04C, 31, 16⟩
def TWC_CNT_ARB : Fld := ⟨0x04C, 15, 8⟩
def TWC_CNT_STUCK : Fld := ⟨0x04C, 7, 0⟩
def TWC_WBUF (i : Nat) : Fld := ⟨0x050 + 4 * i, 31, 0⟩
def TWC_RBUF (i : Nat) : Fld := ⟨0x070 + 4 * i, 31, 0⟩
end TwcR

namespace SpiR
def SPI_CFG_TMO : Fld := ⟨0x040, 15, 8⟩
def SPI_CFG_FLUSH : Fld := ⟨0x040, 0, 0⟩
def SPI_STAT_MODE : Fld := ⟨0x044, 8, 8⟩
def SPI_STAT_HEAD : Fld := ⟨0x044, 5, 4⟩
def SPI_STAT_PENDING : Fld := ⟨0x044, 2, 0⟩
def SPI_CNT_FRAMES : Fld := ⟨0x048, 31, 16⟩
def SPI_CNT_READ_ERRS : Fld := ⟨0x048, 15, 0⟩
end SpiR

namespace SecR
def SEC_STAT_GATED : Fld := ⟨0x040, 31, 31⟩
def SEC_STAT_RNG_OK : Fld := ⟨0x040, 30, 30⟩
def SEC_STAT_UM1 : Fld := ⟨0x040, 29, 28⟩
def SEC_STAT_UM0 : Fld := ⟨0x040, 27, 26⟩
def SEC_STAT_IMGKEY_REVOKED : Fld := ⟨0x040, 23, 20⟩
def SEC_STAT_IMGKEY_PRESENT : Fld := ⟨0x040, 19, 16⟩
def SEC_STAT_SVN_FLOOR : Fld := ⟨0x040, 6, 0⟩
def SEC_CTL_KEY : Fld := ⟨0x044, 31, 24⟩
def SEC_CTL_OP : Fld := ⟨0x044, 19, 16⟩
def SEC_CTL_VALUE : Fld := ⟨0x044, 15, 8⟩
def SEC_CTL_SLOT : Fld := ⟨0x044, 1, 0⟩
def SEC_OPSTAT_STATE : Fld := ⟨0x048, 31, 28⟩
def SEC_OPSTAT_RESULT : Fld := ⟨0x048, 27, 24⟩
def SEC_OPSTAT_SESSIONS : Fld := ⟨0x048, 23, 16⟩
def UM_KEY (i : Nat) : Fld := ⟨0x050 + 4 * i, 31, 0⟩
def IMG_STAT_SLOT1_RES : Fld := ⟨0x070, 31, 28⟩
def IMG_STAT_SLOT0_RES : Fld := ⟨0x070, 27, 24⟩
def IMG_STAT_KEY_ID : Fld := ⟨0x070, 17, 16⟩
def IMG_STAT_IMAGE : Fld := ⟨0x070, 15, 0⟩
def SESS_CFG_TMO : Fld := ⟨0x074, 15, 0⟩
def SESS_STAT_LAST_OPENED : Fld := ⟨0x078, 31, 16⟩
def SESS_STAT_OPEN : Fld := ⟨0x078, 3, 0⟩
def SEC_CNT_TAG_FAILS : Fld := ⟨0x07C, 31, 16⟩
def SEC_CNT_REPLAYS : Fld := ⟨0x07C, 15, 8⟩
def SEC_CNT_SESSION_FAILS : Fld := ⟨0x07C, 7, 0⟩
def SESS_VALID (i : Nat) : Fld := ⟨0x080 + 4 * i, 31, 31⟩
def SESS_SLOT (i : Nat) : Fld := ⟨0x080 + 4 * i, 30, 30⟩
def SESS_AGE_S (i : Nat) : Fld := ⟨0x080 + 4 * i, 29, 16⟩
def SESS_SESSION (i : Nat) : Fld := ⟨0x080 + 4 * i, 15, 0⟩
end SecR

namespace GroupR
def PLLA_CFG_N : Fld := ⟨0x040, 12, 4⟩
def PLLB_CFG_N : Fld := ⟨0x048, 12, 4⟩
def PLLA_CFG_EN : Fld := ⟨0x040, 0, 0⟩
def PLLB_CFG_EN : Fld := ⟨0x048, 0, 0⟩
def PLLA_FRAC_FRAC : Fld := ⟨0x044, 23, 0⟩
def PLLB_FRAC_FRAC : Fld := ⟨0x04C, 23, 0⟩
def PLL_STAT_B_BAND : Fld := ⟨0x050, 15, 10⟩
def PLL_STAT_A_BAND : Fld := ⟨0x050, 9, 4⟩
def PLL_STAT_B_HOLD : Fld := ⟨0x050, 3, 3⟩
def PLL_STAT_A_HOLD : Fld := ⟨0x050, 2, 2⟩
def PLL_STAT_B_LOCK : Fld := ⟨0x050, 1, 1⟩
def PLL_STAT_A_LOCK : Fld := ⟨0x050, 0, 0⟩
def REF_STAT_REF_VALID : Fld := ⟨0x054, 2, 2⟩
def REF_STAT_CHANGING : Fld := ⟨0x054, 1, 1⟩
def REF_STAT_REF_SEL : Fld := ⟨0x054, 0, 0⟩
def PLL_CNT_B_UNLOCKS : Fld := ⟨0x058, 31, 16⟩
def PLL_CNT_A_UNLOCKS : Fld := ⟨0x058, 15, 0⟩
def PLL_USE_BA_B : Fld := ⟨0x05C, 15, 8⟩
def PLL_USE_AB_B : Fld := ⟨0x05C, 7, 0⟩
def ENG_BIND_GO : Fld := ⟨0x280, 9, 9⟩
def ENG_BIND_AUTO_SWING : Fld := ⟨0x280, 8, 8⟩
def ENG_BIND_TARGET : Fld := ⟨0x280, 3, 0⟩
def MIG_STAT_LAST_US : Fld := ⟨0x284, 31, 16⟩
def MIG_STAT_CAUSE : Fld := ⟨0x284, 15, 12⟩
def MIG_STAT_FROM : Fld := ⟨0x284, 11, 8⟩
def MIG_STAT_TO : Fld := ⟨0x284, 7, 4⟩
def MIG_STAT_STATE : Fld := ⟨0x284, 2, 0⟩
def MIG_CNT_REFUSED : Fld := ⟨0x288, 31, 16⟩
def MIG_CNT_DONE : Fld := ⟨0x288, 15, 0⟩
def CKPT_STAT_AGE : Fld := ⟨0x28C, 31, 16⟩
def CKPT_STAT_SIZE : Fld := ⟨0x28C, 15, 0⟩
def PWR_CTL_MARK_WAKE : Fld := ⟨0x100, 13, 13⟩
def PWR_CTL_AUTO_EN : Fld := ⟨0x100, 12, 12⟩
def PWR_CTL_WAKE_HOLD : Fld := ⟨0x100, 8, 8⟩
def PWR_CTL_WAKE_NOW : Fld := ⟨0x100, 4, 4⟩
def PWR_CTL_REQ : Fld := ⟨0x100, 1, 0⟩
def IDLE_CFG_UNIT : Fld := ⟨0x104, 17, 16⟩
def IDLE_CFG_MANT : Fld := ⟨0x104, 13, 0⟩
def PWR_STAT_LAST_ENTRY : Fld := ⟨0x108, 15, 12⟩
def PWR_STAT_LAST_EXIT : Fld := ⟨0x108, 11, 8⟩
def PWR_STAT_LEVEL_WAKE : Fld := ⟨0x108, 7, 7⟩
def PWR_STAT_IDLE : Fld := ⟨0x108, 6, 6⟩
def PWR_STAT_PENDING : Fld := ⟨0x108, 5, 4⟩
def PWR_STAT_STATE : Fld := ⟨0x108, 2, 0⟩
def PWR_CNT_ENTRIES : Fld := ⟨0x10C, 31, 16⟩
def PWR_CNT_REPLACED : Fld := ⟨0x10C, 15, 0⟩
def PWR_TIME_LAST_EXIT_US : Fld := ⟨0x110, 31, 16⟩
def PWR_TIME_LAST_ENTRY_US : Fld := ⟨0x110, 15, 0⟩
def BIAS_STAT_PLL_MODE : Fld := ⟨0x114, 5, 4⟩
def BIAS_STAT_SRAM_MODE : Fld := ⟨0x114, 3, 2⟩
def BIAS_STAT_DSP_BIAS : Fld := ⟨0x114, 1, 0⟩
def CAL_DT_DT : Fld := ⟨0x180, 5, 0⟩
def CAL_CTL_PERIOD : Fld := ⟨0x184, 31, 24⟩
def CAL_CTL_BLOCKS : Fld := ⟨0x184, 13, 8⟩
def CAL_CTL_RAMP : Fld := ⟨0x184, 2, 2⟩
def CAL_CTL_APPLY_MODE : Fld := ⟨0x184, 1, 1⟩
def CAL_CTL_TEMP_EN : Fld := ⟨0x184, 0, 0⟩
def CAL_CMD_ABORT : Fld := ⟨0x188, 2, 2⟩
def CAL_CMD_APPLY : Fld := ⟨0x188, 1, 1⟩
def CAL_CMD_RUN : Fld := ⟨0x188, 0, 0⟩
def CAL_STAT_PEND_PATHS : Fld := ⟨0x18C, 31, 16⟩
def CAL_STAT_LAST_TRIG : Fld := ⟨0x18C, 15, 12⟩
def CAL_STAT_BLOCK : Fld := ⟨0x18C, 11, 8⟩
def CAL_STAT_TRIG_PEND : Fld := ⟨0x18C, 3, 3⟩
def CAL_STAT_STATE : Fld := ⟨0x18C, 2, 0⟩
def CAL_TEMP_RUN_T : Fld := ⟨0x190, 27, 16⟩
def CAL_TEMP_NOW_T : Fld := ⟨0x190, 11, 0⟩
def CAL_CNT_RUNS : Fld := ⟨0x194, 31, 20⟩
def CAL_CNT_FAILS : Fld := ⟨0x194, 19, 10⟩
def CAL_CNT_SUPERSEDED : Fld := ⟨0x194, 9, 0⟩
def CAL_FAIL_INFO_CAUSE : Fld := ⟨0x198, 31, 28⟩
def CAL_FAIL_INFO_BLOCK : Fld := ⟨0x198, 27, 24⟩
def CAL_FAIL_INFO_SLICE : Fld := ⟨0x198, 23, 16⟩
def CAL_FAIL_INFO_PATH : Fld := ⟨0x198, 3, 0⟩
def CAL_LAST_DUR_10US : Fld := ⟨0x19C, 31, 16⟩
def CAL_LAST_CHANGED : Fld := ⟨0x19C, 15, 0⟩
def CAL_DISRUPT_SKEW : Fld := ⟨0x1A0, 16, 16⟩
def CAL_DISRUPT_PATHS : Fld := ⟨0x1A0, 15, 0⟩
def CAL_DISRUPT_STAT_DONE : Fld := ⟨0x1A4, 31, 16⟩
def CAL_DISRUPT_STAT_NEED : Fld := ⟨0x1A4, 15, 0⟩
def CAL_PSEL_PATH : Fld := ⟨0x1A8, 3, 0⟩
def CAL_PTRIM0_TX_TERM : Fld := ⟨0x1AC, 31, 24⟩
def CAL_PTRIM0_RX_TERM : Fld := ⟨0x1AC, 23, 16⟩
def CAL_PTRIM0_TX_DAC : Fld := ⟨0x1AC, 15, 8⟩
def CAL_PTRIM0_TEMP : Fld := ⟨0x1AC, 7, 0⟩
def CAL_PTRIM1_CTLE_OFS : Fld := ⟨0x1B0, 15, 0⟩
def CAL_PTRIM2_RX_PI : Fld := ⟨0x1B4, 31, 0⟩
def CAL_PTRIM3_TX_PI : Fld := ⟨0x1B8, 31, 0⟩
def CAL_PPEND_BLOCKS : Fld := ⟨0x1BC, 4, 0⟩
def GRP_REH_STAT_DUR_MS : Fld := ⟨0x200, 31, 16⟩
def GRP_REH_STAT_REPAIRS : Fld := ⟨0x200, 15, 8⟩
def GRP_REH_STAT_LAST : Fld := ⟨0x200, 2, 0⟩
def GRP_REH_RES : Fld := ⟨0x204, 31, 0⟩
def GRP_REH_FAIL_PATHS : Fld := ⟨0x208, 15, 0⟩
end GroupR

namespace StageR
def ENG_CTL_SLOT : Fld := ⟨0x040, 8, 8⟩
def ENG_CTL_LOAD : Fld := ⟨0x040, 2, 2⟩
def ENG_CTL_STOP : Fld := ⟨0x040, 1, 1⟩
def ENG_CTL_START : Fld := ⟨0x040, 0, 0⟩
def ENG_STAT_FAULT_CAUSE : Fld := ⟨0x044, 19, 16⟩
def ENG_STAT_GROUP : Fld := ⟨0x044, 11, 8⟩
def ENG_STAT_STATE : Fld := ⟨0x044, 2, 0⟩
def IMG_ID_IMAGE : Fld := ⟨0x048, 31, 16⟩
def IMG_ID_VER_MAJ : Fld := ⟨0x048, 15, 8⟩
def IMG_ID_VER_MIN : Fld := ⟨0x048, 7, 0⟩
def IMG_FMT_SLOT : Fld := ⟨0x04C, 16, 16⟩
def IMG_FMT_STATE_FMT : Fld := ⟨0x04C, 15, 8⟩
def IMG_FMT_ACCEPT_MIN : Fld := ⟨0x04C, 7, 0⟩
def ENG_SPEED_OPS_MIN : Fld := ⟨0x050, 31, 16⟩
def ENG_SPEED_OPS : Fld := ⟨0x050, 15, 0⟩
def WDOG_CTL_EN : Fld := ⟨0x054, 8, 8⟩
def WDOG_CTL_TMO : Fld := ⟨0x054, 3, 0⟩
def WDOG_STAT_EXPIRIES : Fld := ⟨0x058, 31, 16⟩
def WDOG_STAT_AGE : Fld := ⟨0x058, 15, 0⟩
def ENG_CNT_COMMANDS : Fld := ⟨0x060, 31, 16⟩
def ENG_CNT_SCENE_FAILS : Fld := ⟨0x060, 15, 0⟩
def CMDQ_WORD (i : Nat) : Fld := ⟨0x080 + 4 * i, 31, 0⟩
def CMDQ_WORD3 : Fld := ⟨0x08C, 31, 0⟩
def CMDQ_STAT_DISCARDED : Fld := ⟨0x090, 31, 16⟩
def CMDQ_STAT_FULL : Fld := ⟨0x090, 5, 5⟩
def CMDQ_STAT_COUNT : Fld := ⟨0x090, 4, 0⟩
def RSPQ_WORD (i : Nat) : Fld := ⟨0x0A0 + 4 * i, 31, 0⟩
def RSPQ_STAT_NOTICE_LOST : Fld := ⟨0x0B0, 31, 16⟩
def RSPQ_STAT_COUNT : Fld := ⟨0x0B0, 4, 0⟩
end StageR

namespace PathR
def RX_CTLE_VGA : Fld := ⟨0x040, 22, 16⟩
def RX_CTLE_POLE : Fld := ⟨0x040, 9, 8⟩
def RX_CTLE_PEAK : Fld := ⟨0x040, 5, 0⟩
def RX_TERM_TERM_OK : Fld := ⟨0x044, 8, 8⟩
def RX_TERM_TERM_TRIM : Fld := ⟨0x044, 4, 0⟩
def RX_SD_SD_FILT : Fld := ⟨0x048, 10, 8⟩
def RX_SD_SD_HYST : Fld := ⟨0x048, 5, 4⟩
def RX_SD_SD_THR : Fld := ⟨0x048, 3, 0⟩
def RX_STAT_LOS_CNT : Fld := ⟨0x04C, 31, 16⟩
def RX_STAT_CDR_LOCK : Fld := ⟨0x04C, 1, 1⟩
def RX_STAT_SD : Fld := ⟨0x04C, 0, 0⟩
def LINE_CFG_TX_POL : Fld := ⟨0x050, 17, 17⟩
def LINE_CFG_RX_POL : Fld := ⟨0x050, 16, 16⟩
def LINE_CFG_MOD : Fld := ⟨0x050, 8, 8⟩
def LINE_CFG_DIV : Fld := ⟨0x050, 5, 4⟩
def LINE_CFG_PLL_SEL : Fld := ⟨0x050, 0, 0⟩
def ADC_MAP_PH3 (i : Nat) : Fld := ⟨0x080 + 4 * i, 29, 24⟩
def ADC_MAP_PH2 (i : Nat) : Fld := ⟨0x080 + 4 * i, 21, 16⟩
def ADC_MAP_PH1 (i : Nat) : Fld := ⟨0x080 + 4 * i, 13, 8⟩
def ADC_MAP_PH0 (i : Nat) : Fld := ⟨0x080 + 4 * i, 5, 0⟩
def SWING_STAT_ROT_PHASE : Fld := ⟨0x0A0, 28, 24⟩
def SWING_STAT_ROT_STATE : Fld := ⟨0x0A0, 22, 20⟩
def SWING_STAT_AVAIL : Fld := ⟨0x0A0, 17, 16⟩
def SWING_STAT_SW1 : Fld := ⟨0x0A0, 13, 8⟩
def SWING_STAT_SW0 : Fld := ⟨0x0A0, 5, 0⟩
def SWING_CTL_MATCH_LEN : Fld := ⟨0x0A4, 26, 24⟩
def SWING_CTL_SKEW_TOL : Fld := ⟨0x0A4, 23, 16⟩
def SWING_CTL_GAIN_TOL : Fld := ⟨0x0A4, 15, 12⟩
def SWING_CTL_OFS_TOL : Fld := ⟨0x0A4, 11, 8⟩
def SWING_CTL_ROT_PERIOD : Fld := ⟨0x0A4, 7, 4⟩
def SWING_CTL_SWAP_ON_FORCE : Fld := ⟨0x0A4, 3, 3⟩
def SWING_CTL_ABANDON : Fld := ⟨0x0A4, 2, 2⟩
def SWING_CTL_FORCE : Fld := ⟨0x0A4, 1, 1⟩
def SWING_CTL_ROT_EN : Fld := ⟨0x0A4, 0, 0⟩
def SWING_CNT_ROT_ABORT : Fld := ⟨0x0A8, 31, 16⟩
def SWING_CNT_ROT_DONE : Fld := ⟨0x0A8, 15, 0⟩
def SWING_LAST_ABORT_CAUSE : Fld := ⟨0x0AC, 26, 24⟩
def SWING_LAST_SKEW_DIFF : Fld := ⟨0x0AC, 23, 16⟩
def SWING_LAST_GAIN_DIFF : Fld := ⟨0x0AC, 15, 8⟩
def SWING_LAST_OFS_DIFF : Fld := ⟨0x0AC, 7, 0⟩
def SLICE_RET0_RET : Fld := ⟨0x0B0, 31, 0⟩
def SLICE_RET1_RET : Fld := ⟨0x0B4, 1, 0⟩
def SLICE_SEL_SLICE : Fld := ⟨0x0B8, 5, 0⟩
def SLICE_TRIM_FAILS : Fld := ⟨0x0BC, 27, 24⟩
def SLICE_TRIM_SKEW : Fld := ⟨0x0BC, 23, 16⟩
def SLICE_TRIM_GAIN : Fld := ⟨0x0BC, 15, 8⟩
def SLICE_TRIM_OFFSET : Fld := ⟨0x0BC, 7, 0⟩
def FFE_TAP_HI (i : Nat) : Fld := ⟨0x100 + 4 * i, 25, 16⟩
def FFE_TAP_LO (i : Nat) : Fld := ⟨0x100 + 4 * i, 9, 0⟩
def DFE_TAP_DFE1 : Fld := ⟨0x140, 7, 0⟩
def RX_LVL_L3 : Fld := ⟨0x144, 31, 24⟩
def RX_LVL_L2 : Fld := ⟨0x144, 23, 16⟩
def RX_LVL_L1 : Fld := ⟨0x144, 15, 8⟩
def RX_LVL_L0 : Fld := ⟨0x144, 7, 0⟩
def EQ_QUAL_EYE_MIN : Fld := ⟨0x148, 23, 16⟩
def EQ_QUAL_SNR : Fld := ⟨0x148, 9, 0⟩
def CDR_CFG_FREQ_HOLD : Fld := ⟨0x180, 8, 8⟩
def CDR_CFG_BW : Fld := ⟨0x180, 2, 0⟩
def CDR_STAT_FREQ_OFS : Fld := ⟨0x184, 31, 16⟩
def CDR_STAT_FREQ_LIM : Fld := ⟨0x184, 1, 1⟩
def CDR_STAT_LOCK : Fld := ⟨0x184, 0, 0⟩
def CDR_PI_UI_COUNT : Fld := ⟨0x188, 31, 8⟩
def CDR_PI_PHASE : Fld := ⟨0x188, 5, 0⟩
def ELASTIC_STAT_FILL : Fld := ⟨0x18C, 6, 0⟩
def ADAPT_CTL_CTLE_PERIOD : Fld := ⟨0x054, 19, 16⟩
def ADAPT_CTL_DFE_INT : Fld := ⟨0x054, 14, 12⟩
def ADAPT_CTL_FFE_INT : Fld := ⟨0x054, 10, 8⟩
def ADAPT_CTL_FRZ_LVL : Fld := ⟨0x054, 4, 4⟩
def ADAPT_CTL_FRZ_DFE : Fld := ⟨0x054, 3, 3⟩
def ADAPT_CTL_FRZ_FFE : Fld := ⟨0x054, 2, 2⟩
def ADAPT_CTL_FRZ_VGA : Fld := ⟨0x054, 1, 1⟩
def ADAPT_CTL_FRZ_CTLE : Fld := ⟨0x054, 0, 0⟩
def ADAPT_STAT_CAUSE : Fld := ⟨0x058, 19, 16⟩
def ADAPT_STAT_CDR_HELD : Fld := ⟨0x058, 5, 5⟩
def ADAPT_STAT_LVL_FRZ : Fld := ⟨0x058, 4, 4⟩
def ADAPT_STAT_DFE_FRZ : Fld := ⟨0x058, 3, 3⟩
def ADAPT_STAT_FFE_FRZ : Fld := ⟨0x058, 2, 2⟩
def ADAPT_STAT_VGA_FRZ : Fld := ⟨0x058, 1, 1⟩
def ADAPT_STAT_CTLE_FRZ : Fld := ⟨0x058, 0, 0⟩
def TX_FIR0_C_M3 : Fld := ⟨0x1C0, 31, 24⟩
def TX_FIR0_C_M2 : Fld := ⟨0x1C0, 23, 16⟩
def TX_FIR0_C_M1 : Fld := ⟨0x1C0, 15, 8⟩
def TX_FIR0_C_0 : Fld := ⟨0x1C0, 7, 0⟩
def TX_FIR1_C_P1 : Fld := ⟨0x1C4, 15, 8⟩
def TX_FIR1_C_P2 : Fld := ⟨0x1C4, 7, 0⟩
def TX_AMP_AMP : Fld := ⟨0x1C8, 6, 0⟩
def TX_CTL_FORCE_IDLE : Fld := ⟨0x1CC, 0, 0⟩
def TX_STAT_DAC_PEAK : Fld := ⟨0x1D0, 22, 16⟩
def TX_STAT_IDLE_CAUSE : Fld := ⟨0x1D0, 6, 4⟩
def TX_STAT_ACTIVE : Fld := ⟨0x1D0, 0, 0⟩
def CAP_CTL_STOP : Fld := ⟨0x0E0, 25, 25⟩
def CAP_CTL_START : Fld := ⟨0x0E0, 24, 24⟩
def CAP_CTL_LEN : Fld := ⟨0x0E0, 17, 8⟩
def CAP_CTL_TRIG : Fld := ⟨0x0E0, 5, 4⟩
def CAP_CTL_SRC : Fld := ⟨0x0E0, 1, 0⟩
def CAP_STAT_OLDEST : Fld := ⟨0x0E4, 26, 18⟩
def CAP_STAT_WRITTEN : Fld := ⟨0x0E4, 17, 8⟩
def CAP_STAT_CONFLICT : Fld := ⟨0x0E4, 2, 2⟩
def CAP_STAT_STATE : Fld := ⟨0x0E4, 1, 0⟩
def TRN_PAIR_PORT_W : Fld := ⟨0x200, 17, 16⟩
def TRN_PAIR_AN_EN : Fld := ⟨0x200, 8, 8⟩
def TRN_PAIR_IEEE_EN : Fld := ⟨0x200, 4, 4⟩
def TRN_PAIR_AUTO_RESTART : Fld := ⟨0x200, 1, 1⟩
def TRN_CTL_PRECODE_REQ : Fld := ⟨0x204, 5, 4⟩
def TRN_CTL_HOLD_READY : Fld := ⟨0x204, 1, 1⟩
def TRN_CTL_RESTART : Fld := ⟨0x204, 0, 0⟩
def TRN_TIMER_RESTART_DLY : Fld := ⟨0x208, 15, 12⟩
def TRN_TIMER_TMO_STATIC : Fld := ⟨0x208, 11, 8⟩
def TRN_TIMER_TMO_WX : Fld := ⟨0x208, 7, 4⟩
def TRN_TIMER_TMO_IEEE : Fld := ⟨0x208, 3, 0⟩
def TRN_RXQ_SNR_MIN_NRZ : Fld := ⟨0x20C, 25, 16⟩
def TRN_RXQ_SNR_MIN_PAM4 : Fld := ⟨0x20C, 9, 0⟩
def AN_MASK_MASK : Fld := ⟨0x210, 31, 0⟩
def AN_STAT_PAGES_BA : Fld := ⟨0x214, 31, 24⟩
def AN_STAT_PAGES_AB : Fld := ⟨0x214, 23, 16⟩
def AN_STAT_HCD : Fld := ⟨0x214, 13, 8⟩
def AN_STAT_AN_STATE : Fld := ⟨0x214, 2, 0⟩
def AN_AUTOMASK_AUTOMASK : Fld := ⟨0x218, 31, 0⟩
def AN_LP_BASE_HI_BASE : Fld := ⟨0x21C, 15, 0⟩
def AN_LP_BASE_LO_BASE : Fld := ⟨0x220, 31, 0⟩
def TRN_STAT_PRECODE_RX : Fld := ⟨0x224, 23, 23⟩
def TRN_STAT_PRECODE_TX : Fld := ⟨0x224, 22, 22⟩
def TRN_STAT_USER_BAD : Fld := ⟨0x224, 21, 21⟩
def TRN_STAT_METHOD : Fld := ⟨0x224, 19, 16⟩
def TRN_STAT_LAST_CAUSE : Fld := ⟨0x224, 15, 12⟩
def TRN_STAT_OTHER_TRAINED : Fld := ⟨0x224, 8, 8⟩
def TRN_STAT_FRAME_LOCK : Fld := ⟨0x224, 7, 7⟩
def TRN_STAT_READY_SENT : Fld := ⟨0x224, 6, 6⟩
def TRN_STAT_LP_READY : Fld := ⟨0x224, 5, 5⟩
def TRN_STAT_LOCAL_DONE : Fld := ⟨0x224, 4, 4⟩
def TRN_STAT_STATE : Fld := ⟨0x224, 3, 0⟩
def TRN_LP_CTRL_CTRL : Fld := ⟨0x228, 31, 0⟩
def TRN_LP_STS_STS : Fld := ⟨0x22C, 31, 0⟩
def TRN_TX_CTRL_CTRL : Fld := ⟨0x230, 31, 0⟩
def TRN_TX_STS_STS : Fld := ⟨0x234, 31, 0⟩
def TRN_CNT0_FRAME_ERR : Fld := ⟨0x238, 31, 16⟩
def TRN_CNT0_REQ_DONE : Fld := ⟨0x238, 15, 0⟩
def TRN_CNT1_NO_ANSWER : Fld := ⟨0x23C, 31, 24⟩
def TRN_CNT1_RESTARTS : Fld := ⟨0x23C, 23, 12⟩
def TRN_CNT1_IGNORED : Fld := ⟨0x23C, 11, 0⟩
def TRN_LAST_USEC : Fld := ⟨0x240, 31, 0⟩
def PRESET_SEL_MAP5 : Fld := ⟨0x244, 26, 24⟩
def PRESET_SEL_MAP4 : Fld := ⟨0x244, 22, 20⟩
def PRESET_SEL_MAP3 : Fld := ⟨0x244, 18, 16⟩
def PRESET_SEL_MAP2 : Fld := ⟨0x244, 14, 12⟩
def PRESET_SEL_MAP1 : Fld := ⟨0x244, 10, 8⟩
def PRESET_SEL_STATIC_PRESET : Fld := ⟨0x244, 6, 4⟩
def PRESET_SEL_INIT_PRESET : Fld := ⟨0x244, 2, 0⟩
def USER_FIR0_C_M3 : Fld := ⟨0x248, 31, 24⟩
def USER_FIR0_C_M2 : Fld := ⟨0x248, 23, 16⟩
def USER_FIR0_C_M1 : Fld := ⟨0x248, 15, 8⟩
def USER_FIR0_C_0 : Fld := ⟨0x248, 7, 0⟩
def USER_FIR1_C_P1 : Fld := ⟨0x24C, 15, 8⟩
def USER_FIR1_C_P2 : Fld := ⟨0x24C, 7, 0⟩
def WX_LANE_CHECK_ID : Fld := ⟨0x250, 16, 16⟩
def WX_LANE_EXP_ID : Fld := ⟨0x250, 15, 8⟩
def WX_LANE_TX_ID : Fld := ⟨0x250, 7, 0⟩
def LAT_TARGET_TARGET : Fld := ⟨0x2C0, 19, 0⟩
def PIN_CTL_MARK_GRACE : Fld := ⟨0x2C4, 19, 16⟩
def PIN_CTL_WIN : Fld := ⟨0x2C4, 15, 8⟩
def PIN_CTL_SLEW : Fld := ⟨0x2C4, 6, 4⟩
def PIN_CTL_FRZ : Fld := ⟨0x2C4, 0, 0⟩
def PIN_STAT_UNV_CAUSE : Fld := ⟨0x2C8, 14, 12⟩
def PIN_STAT_LOST_CAUSE : Fld := ⟨0x2C8, 10, 8⟩
def PIN_STAT_VERIFIED : Fld := ⟨0x2C8, 7, 7⟩
def PIN_STAT_MARGIN : Fld := ⟨0x2C8, 6, 6⟩
def PIN_STAT_AT_LIMIT : Fld := ⟨0x2C8, 5, 5⟩
def PIN_STAT_PENDING : Fld := ⟨0x2C8, 4, 4⟩
def PIN_STAT_STATE : Fld := ⟨0x2C8, 2, 0⟩
def PIN_MEAS_MEAS : Fld := ⟨0x2CC, 23, 0⟩
def PIN_ERR_ERR : Fld := ⟨0x2D0, 15, 0⟩
def PIN_ADJ_STEP_FS : Fld := ⟨0x2D4, 31, 16⟩
def PIN_ADJ_ADJ : Fld := ⟨0x2D4, 8, 0⟩
def PIN_PLACE_PHASE : Fld := ⟨0x2D8, 21, 16⟩
def PIN_PLACE_READ_OFS : Fld := ⟨0x2D8, 13, 0⟩
def PIN_MIN_MIN : Fld := ⟨0x2DC, 19, 0⟩
def PIN_MAX_MAX : Fld := ⟨0x2E0, 19, 0⟩
def PIN_FIXED_FIXED : Fld := ⟨0x2E4, 19, 0⟩
def PIN_HELD_HELD : Fld := ⟨0x2E8, 19, 0⟩
def PIN_CNT_PLACES : Fld := ⟨0x2EC, 31, 16⟩
def PIN_CNT_LOSTS : Fld := ⟨0x2EC, 15, 0⟩
def PIN_ERRMAX_ERRMAX : Fld := ⟨0x2F0, 15, 0⟩
def PIN_MARK_ZERO_AGE : Fld := ⟨0x2F4, 31, 16⟩
def PIN_MARK_MISS_RUN : Fld := ⟨0x2F4, 11, 8⟩
def PIN_MARK_ZERO_OK : Fld := ⟨0x2F4, 0, 0⟩
def PIN_TWIN_VALID : Fld := ⟨0x2F8, 16, 16⟩
def PIN_TWIN_DIFF : Fld := ⟨0x2F8, 15, 0⟩
def PROF_CFG_ERR_MARK : Fld := ⟨0x340, 16, 16⟩
def PROF_CFG_PHY : Fld := ⟨0x340, 10, 8⟩
def PROF_CFG_FEC : Fld := ⟨0x340, 6, 4⟩
def PROF_CFG_PROFILE : Fld := ⟨0x340, 1, 0⟩
def PROF_STAT_SENDING : Fld := ⟨0x344, 13, 12⟩
def PROF_STAT_FRM : Fld := ⟨0x344, 9, 8⟩
def PROF_STAT_PROFILE : Fld := ⟨0x344, 1, 0⟩
def CONV_CFG_E_M1 : Fld := ⟨0x350, 15, 8⟩
def CONV_CFG_SH_CHECK : Fld := ⟨0x350, 1, 0⟩
def CONV_STAT_EMB_LOCK : Fld := ⟨0x354, 2, 2⟩
def CONV_STAT_MB_LOCK : Fld := ⟨0x354, 1, 1⟩
def CONV_STAT_SH_LOCK : Fld := ⟨0x354, 0, 0⟩
def CONV_EMB_VALID : Fld := ⟨0x358, 31, 31⟩
def CONV_EMB_SYM_OFS : Fld := ⟨0x358, 23, 0⟩
def WX_STAT_LANE_ID_RX : Fld := ⟨0x360, 31, 24⟩
def WX_STAT_MB_PHASE : Fld := ⟨0x360, 19, 17⟩
def WX_STAT_ID_OK : Fld := ⟨0x360, 16, 16⟩
def WX_STAT_PERIOD : Fld := ⟨0x360, 15, 0⟩
def ETH_STAT_BLOCK_LOCK : Fld := ⟨0x370, 2, 2⟩
def ETH_STAT_CW_LOCK : Fld := ⟨0x370, 1, 1⟩
def ETH_STAT_AM_LOCK : Fld := ⟨0x370, 0, 0⟩
def CNT_CTL_SNAP_SEQ : Fld := ⟨0x380, 31, 16⟩
def CNT_CTL_CLR_ON_SNAP : Fld := ⟨0x380, 1, 1⟩
def CNT_CTL_SNAP : Fld := ⟨0x380, 0, 0⟩
def FEC_CW_HI_CW : Fld := ⟨0x384, 15, 0⟩
def FEC_CW_LO_CW : Fld := ⟨0x388, 31, 0⟩
def FEC_CORR_CW_CORR_CW : Fld := ⟨0x38C, 31, 0⟩
def FEC_UNCORR_CW_UNCORR_CW : Fld := ⟨0x390, 31, 0⟩
def FEC_CORR_SYM_CORR_SYM : Fld := ⟨0x394, 31, 0⟩
def CODE_ERR_CRC_FCS : Fld := ⟨0x398, 31, 16⟩
def CODE_ERR_BLOCK : Fld := ⟨0x398, 15, 0⟩
def LINK_ERR_ECC_ERR : Fld := ⟨0x39C, 31, 16⟩
def LINK_ERR_FRM_LOSS : Fld := ⟨0x39C, 15, 0⟩
def FEC_HIST (i : Nat) : Fld := ⟨0x3A0 + 4 * i, 31, 0⟩
def FEC_DEG_CFG_UNC_DEG : Fld := ⟨0x3E0, 31, 31⟩
def FEC_DEG_CFG_WIN : Fld := ⟨0x3E0, 27, 24⟩
def FEC_DEG_CFG_THR : Fld := ⟨0x3E0, 19, 0⟩
def FEC_DEG_STAT_DEGRADED : Fld := ⟨0x3E4, 20, 20⟩
def FEC_DEG_STAT_LAST : Fld := ⟨0x3E4, 19, 0⟩
def PRBS_GEN_INV : Fld := ⟨0x3F0, 8, 8⟩
def PRBS_CHK_INV : Fld := ⟨0x3F4, 8, 8⟩
def PRBS_GEN_PAT : Fld := ⟨0x3F0, 7, 4⟩
def PRBS_CHK_PAT : Fld := ⟨0x3F4, 7, 4⟩
def PRBS_GEN_EN : Fld := ⟨0x3F0, 0, 0⟩
def PRBS_CHK_EN : Fld := ⟨0x3F4, 0, 0⟩
def PRBS_STAT_LOCK : Fld := ⟨0x3F8, 0, 0⟩
def PRBS_BITS_HI_BITS : Fld := ⟨0x3FC, 15, 0⟩
def PRBS_BITS_LO_BITS : Fld := ⟨0x400, 31, 0⟩
def PRBS_ERR_ERR : Fld := ⟨0x404, 31, 0⟩
def ERR_INJ_INTERVAL : Fld := ⟨0x410, 31, 16⟩
def ERR_INJ_POS : Fld := ⟨0x410, 14, 8⟩
def ERR_INJ_MODE : Fld := ⟨0x410, 5, 4⟩
def ERR_INJ_SIDE : Fld := ⟨0x410, 3, 3⟩
def ERR_INJ_FIRE : Fld := ⟨0x410, 0, 0⟩
def ERR_INJ_PAT_NSYM : Fld := ⟨0x414, 20, 16⟩
def ERR_INJ_PAT_XOR : Fld := ⟨0x414, 9, 0⟩
def ERR_INJ_CNT_DONE : Fld := ⟨0x418, 31, 0⟩
def PTP_CFG_IPV4_EN : Fld := ⟨0x440, 2, 2⟩
def PTP_CFG_L2_EN : Fld := ⟨0x440, 1, 1⟩
def PTP_CFG_EN : Fld := ⟨0x440, 0, 0⟩
def PTP_ASYM_ASYM : Fld := ⟨0x444, 19, 0⟩
def PTP_CORR_CORR : Fld := ⟨0x448, 31, 0⟩
def PTP_STAT_ACTIVE : Fld := ⟨0x44C, 0, 0⟩
def PTP_CNT0_CORR : Fld := ⟨0x450, 31, 0⟩
def PTP_CNT1_UNV : Fld := ⟨0x454, 31, 16⟩
def PTP_CNT1_IPV6 : Fld := ⟨0x454, 15, 0⟩
def PTP_CNT2_PDELAY : Fld := ⟨0x458, 31, 16⟩
def PTP_CNT2_SKIP : Fld := ⟨0x458, 15, 0⟩
def FP_BIND_INS_EN : Fld := ⟨0x480, 6, 6⟩
def FP_BIND_INS_PORT : Fld := ⟨0x480, 5, 4⟩
def FP_BIND_EXT_EN : Fld := ⟨0x480, 2, 2⟩
def FP_BIND_EXT_PORT : Fld := ⟨0x480, 1, 0⟩
def FP_STAT_MAX_LEN : Fld := ⟨0x484, 26, 16⟩
def FP_STAT_INSERTING : Fld := ⟨0x484, 2, 2⟩
def FP_STAT_INS_ACTIVE : Fld := ⟨0x484, 1, 1⟩
def FP_STAT_EXT_ACTIVE : Fld := ⟨0x484, 0, 0⟩
def FP_CNT0_EXTRACTED : Fld := ⟨0x488, 31, 16⟩
def FP_CNT0_INSERTED : Fld := ⟨0x488, 15, 0⟩
def FP_CNT1_COPIED : Fld := ⟨0x48C, 31, 16⟩
def FP_CNT1_UNCORR_HDR : Fld := ⟨0x48C, 15, 0⟩
def FP_RUN_RUN_MAX : Fld := ⟨0x490, 7, 0⟩
def SVC_CTL_OOS_PWRDN : Fld := ⟨0x4C0, 4, 4⟩
def SVC_CTL_SD_WAKE : Fld := ⟨0x4C0, 0, 0⟩
def SVC_STAT_TO_PINNED_US : Fld := ⟨0x4C4, 31, 16⟩
def SVC_STAT_POWERED : Fld := ⟨0x4C4, 8, 8⟩
def SVC_STAT_STATE : Fld := ⟨0x4C4, 2, 0⟩
def REH_PRES_RETIRED : Fld := ⟨0x4E0, 31, 24⟩
def REH_PRES_BAD_SLICES : Fld := ⟨0x4E0, 23, 16⟩
def REH_PRES_TERM : Fld := ⟨0x4E0, 15, 12⟩
def REH_PRES_ADC : Fld := ⟨0x4E0, 11, 8⟩
def REH_PRES_PROBE : Fld := ⟨0x4E0, 7, 4⟩
def REH_PRES_LOOP : Fld := ⟨0x4E0, 3, 0⟩
def REH_PLOOP_ERR : Fld := ⟨0x4E4, 31, 0⟩
def REH_PPROBE_DIFF : Fld := ⟨0x4E8, 15, 0⟩
end PathR

def rowsHdr0 : List Row := [
  { fld := Hdr.PAGE_ID_TYPE, acc := .ro, rst := 0x0 },
  { fld := Hdr.PAGE_ID_INST, acc := .ro, rst := 0x0 },
  { fld := Hdr.PAGE_ID_LAYOUT, acc := .ro, rst := 0x1 },
  { fld := Hdr.PAGE_CAP_PROF_ETH, acc := .ro, rst := 0x0 },
  { fld := Hdr.PAGE_CAP_PROF_WX, acc := .ro, rst := 0x0 },
  { fld := Hdr.PAGE_CAP_PROF_CONV, acc := .ro, rst := 0x0 },
  { fld := Hdr.PAGE_CAP_PROF_TRANSP, acc := .ro, rst := 0x0 },
  { fld := Hdr.PAGE_CAP_MIGRATE, acc := .ro, rst := 0x0 },
  { fld := Hdr.PAGE_CAP_OWNABLE, acc := .ro, rst := 0x0 },
  { fld := Hdr.PAGE_CAP_HOLD, acc := .ro, rst := 0x0 },
  { fld := Hdr.PAGE_CAP_OOS, acc := .ro, rst := 0x0 },
  { fld := Hdr.PAGE_CAP_FAULT, acc := .ro, rst := 0x0 },
  { fld := Hdr.PAGE_CAP_EVT, acc := .ro, rst := 0x0 },
  { fld := Hdr.PAGE_CTL_HOLD, acc := .rw, rst := 0x0 },
  { fld := Hdr.PAGE_CTL_OOS, acc := .rw, rst := 0x0 },
  { fld := Hdr.PAGE_STAT_IN_HOLD, acc := .ro, rst := 0x0 },
  { fld := Hdr.PAGE_STAT_BUSY, acc := .ro, rst := 0x0 },
  { fld := Hdr.EVT_RAW_FAULT, acc := .w1c, rst := 0x0 },
  { fld := Hdr.EVT_RAW_EVENT, acc := .w1c, rst := 0x0 },
  { fld := Hdr.EVT_EN_EN, acc := .rw, rst := 0x0 },
  { fld := Hdr.EVT_PEND_PEND, acc := .ro, rst := 0x0 },
  { fld := Hdr.EVT_INJ_INJ, acc := .w1s, rst := 0x0 },
  { fld := Hdr.VIOL_0_TIMING, acc := .cnt, rst := 0x0 },
  { fld := Hdr.VIOL_0_ACCESS, acc := .cnt, rst := 0x0 },
  { fld := Hdr.VIOL_1_CONSISTENCY, acc := .cnt, rst := 0x0 },
  { fld := Hdr.VIOL_1_PROTOCOL, acc := .cnt, rst := 0x0 },
  { fld := Hdr.VIOL_INJ_INJ, acc := .w1s, rst := 0x0 },
  { fld := Hdr.WING_STAT_ENG_OPEN, acc := .ro, rst := 0x0 },
  { fld := Hdr.WING_STAT_HOST_ENTRIES, acc := .ro, rst := 0x0 },
  { fld := Hdr.EPOCH, acc := .ro, rst := 0x0 }]

def rowsHdr1 : List Row := [
  { fld := Hdr.OWNER, acc := .ro, rst := 0x0 },
  { fld := Hdr.LOCK_SCENE_ID, acc := .ro, rst := 0x0 },
  { fld := Hdr.LOCK_SCENE, acc := .ro, rst := 0x0 },
  { fld := Hdr.LOCK_WLOCK, acc := .rw, rst := 0x0 }]

/-- The fields of the page header (R28). -/
def rowsHdr : List Row := rowsHdr0 ++ rowsHdr1

def rowsHouse0 : List Row := [
  { fld := HouseR.DEV_ID_PART, acc := .ro, rst := 0x6412 },
  { fld := HouseR.DEV_ID_MOD_REV, acc := .ro, rst := 0xB1 },
  { fld := HouseR.DEV_ID_LANE_DIE_REV, acc := .ro, rst := 0x3 },
  { fld := HouseR.DEV_ID_POWER_DIE_REV, acc := .ro, rst := 0x2 },
  { fld := HouseR.VENDOR_ID_VENDOR, acc := .ro, rst := 0xC7A },
  { fld := HouseR.SERIAL_HI_SERIAL, acc := .ro, rst := 0x0 },
  { fld := HouseR.SERIAL_LO_SERIAL, acc := .ro, rst := 0x0 },
  { fld := HouseR.STRAP_BOOTSEL, acc := .ro, rst := 0x0 },
  { fld := HouseR.STRAP_TWIN_ID, acc := .ro, rst := 0x0 },
  { fld := HouseR.STRAP_ADDR, acc := .ro, rst := 0x0 },
  { fld := HouseR.TWT_WINDOW_WINDOW, acc := .rw, rst := 0x0 },
  { fld := HouseR.FAB_SPEED_RATE_MIN, acc := .ro, rst := 0xFFFF },
  { fld := HouseR.FAB_SPEED_RATE, acc := .ro, rst := 0x0 },
  { fld := HouseR.FAB_SEQ_SEQ, acc := .ro, rst := 0x0 },
  { fld := HouseR.FAB_CTL_MIN_CLR, acc := .w1s, rst := 0x0 },
  { fld := HouseR.FAB_LIMIT_RATE_FLOOR, acc := .ro, rst := 0x2EE },
  { fld := HouseR.ADM_Q_BUDGET, acc := .ro, rst := 0x0 },
  { fld := HouseR.ADM_Q_Q, acc := .ro, rst := 0x0 },
  { fld := HouseR.ADM_PEAK_PEAK, acc := .cnt, rst := 0x0 },
  { fld := HouseR.ADM_CTL_TEST_FLOOR, acc := .rw, rst := 0x0 },
  { fld := HouseR.SCRATCH, acc := .rw, rst := 0x0 },
  { fld := HouseR.EVT_SUM_HI_SUM, acc := .ro, rst := 0x0 },
  { fld := HouseR.EVT_SUM_LO_SUM, acc := .ro, rst := 0x0 },
  { fld := HouseR.ATTN_EN_HI_ATTN_EN, acc := .rw, rst := 0x0 },
  { fld := HouseR.ATTN_EN_LO_ATTN_EN, acc := .rw, rst := 0x0 },
  { fld := HouseR.PROMPT_EN_HI_PROMPT_EN, acc := .rw, rst := 0x0 },
  { fld := HouseR.PROMPT_EN_LO_PROMPT_EN, acc := .rw, rst := 0x0 },
  { fld := HouseR.ATTN_CTL_PROMPT_GAP, acc := .rw, rst := 0xA },
  { fld := HouseR.ATTN_CTL_PROMPT_ON, acc := .rw, rst := 0x1 },
  { fld := HouseR.ATTN_CTL_ATTN_ON, acc := .rw, rst := 0x1 }]

def rowsHouse1 : List Row := [
  { fld := HouseR.ATTN_STAT_FIRST_VALID, acc := .ro, rst := 0x0 },
  { fld := HouseR.ATTN_STAT_FIRST, acc := .ro, rst := 0x0 },
  { fld := HouseR.ATTN_STAT_PROMPT_REQ, acc := .ro, rst := 0x0 },
  { fld := HouseR.ATTN_STAT_ATTN, acc := .ro, rst := 0x0 },
  { fld := HouseR.VIOL_TOT_ACC_ACCESS, acc := .cnt, rst := 0x0 },
  { fld := HouseR.VIOL_TOT_TIM_TIMING, acc := .cnt, rst := 0x0 },
  { fld := HouseR.VIOL_TOT_PROT_PROTOCOL, acc := .cnt, rst := 0x0 },
  { fld := HouseR.VIOL_TOT_CONS_CONSISTENCY, acc := .cnt, rst := 0x0 },
  { fld := HouseR.VIOL_UNMAPPED_UNMAPPED, acc := .cnt, rst := 0x0 },
  { fld := HouseR.VIOL_LAST_INJ, acc := .ro, rst := 0x0 },
  { fld := HouseR.VIOL_LAST_KIND, acc := .ro, rst := 0x0 },
  { fld := HouseR.VIOL_LAST_PAGE, acc := .ro, rst := 0x0 },
  { fld := HouseR.INJ_CTL_KEY, acc := .rw, rst := 0x0 },
  { fld := HouseR.INJ_CTL_SENSOR, acc := .rw, rst := 0x8, legal := [(0, 8)] },
  { fld := HouseR.INJ_CTL_ARM, acc := .rw, rst := 0x0 },
  { fld := HouseR.INJ_CNT_GUARDED, acc := .cnt, rst := 0x0 },
  { fld := HouseR.INJ_CNT_INJECTIONS, acc := .cnt, rst := 0x0 },
  { fld := HouseR.SOFT_EVT_SET, acc := .w1s, rst := 0x0 },
  { fld := HouseR.SOFT_EVT_CODE, acc := .rw, rst := 0x0 },
  { fld := HouseR.ECC_INJ_ARM, acc := .rw, rst := 0x0 },
  { fld := HouseR.ECC_INJ_NBITS, acc := .rw, rst := 0x1, legal := [(1, 2)] },
  { fld := HouseR.ECC_INJ_MACRO, acc := .rw, rst := 0x0, legal := [(0, 271)] },
  { fld := HouseR.ECC_INJ_COLUMN, acc := .rw, rst := 0x0, legal := [(0, 136)] },
  { fld := HouseR.ECC_CNT_UNCORR, acc := .cnt, rst := 0x0 },
  { fld := HouseR.ECC_CNT_CORR, acc := .cnt, rst := 0x0 },
  { fld := HouseR.ECC_LAST_UNC, acc := .ro, rst := 0x0 },
  { fld := HouseR.ECC_LAST_ROW, acc := .ro, rst := 0x0 },
  { fld := HouseR.ECC_LAST_MACRO, acc := .ro, rst := 0x0 },
  { fld := HouseR.GRP_PEND_FAULT_PATHS 0, acc := .ro, rst := 0x0, n := 8, stride := 4 },
  { fld := HouseR.GRP_PEND_EVT_PATHS 0, acc := .ro, rst := 0x0, n := 8, stride := 4 }]

def rowsHouse2 : List Row := [
  { fld := HouseR.RESET_CTL_KEY, acc := .rw, rst := 0x0 },
  { fld := HouseR.RESET_CTL_OP, acc := .rw, rst := 0x0, legal := [(0, 3)] },
  { fld := HouseR.RESET_CTL_TARGET, acc := .rw, rst := 0x0 },
  { fld := HouseR.RESET_STAT_STATE, acc := .ro, rst := 0x0 },
  { fld := HouseR.RESET_STAT_LAST_OP, acc := .ro, rst := 0x0 },
  { fld := HouseR.RESET_STAT_LAST_TARGET, acc := .ro, rst := 0x0 },
  { fld := HouseR.RESET_STAT_CONFLICT, acc := .ro, rst := 0x0 },
  { fld := HouseR.RESET_CAUSE_FULL_CAUSE, acc := .ro, rst := 0x1 },
  { fld := HouseR.RESET_CAUSE_HOUSE_CAUSE, acc := .ro, rst := 0x0 },
  { fld := HouseR.RESET_CNT_HOUSE_RESETS, acc := .cnt, rst := 0x0 },
  { fld := HouseR.RESET_CNT_GROUP_RESETS, acc := .cnt, rst := 0x0 },
  { fld := HouseR.RESET_CNT_PATH_RESETS, acc := .cnt, rst := 0x0 },
  { fld := HouseR.START_STAT_KIND, acc := .ro, rst := 0x0 },
  { fld := HouseR.START_STAT_CFG, acc := .ro, rst := 0x0 },
  { fld := HouseR.START_STAT_IMG, acc := .ro, rst := 0x0 },
  { fld := HouseR.START_STAT_CAL, acc := .ro, rst := 0x0 },
  { fld := HouseR.START_STAT_PHASE, acc := .ro, rst := 0x0 },
  { fld := HouseR.START_STAT_READY_MS, acc := .ro, rst := 0xFFFF },
  { fld := HouseR.START_CFG_REQ_FULL, acc := .rw, rst := 0x0 },
  { fld := HouseR.START_CFG_IMG_SLOT, acc := .rw, rst := 0x0, nvm := true }]

/-- The fields of HOUSE. -/
def rowsHouse : List Row := rowsHouse0 ++ rowsHouse1 ++ rowsHouse2

def rowsSupply0 : List Row := [
  { fld := SupplyR.SUP_THR_B_THR, acc := .rw, rst := 0x55, legal := [(80, 550)], nvm := true },
  { fld := SupplyR.SUP_THR_A_THR, acc := .rw, rst := 0x55, legal := [(80, 550)], nvm := true },
  { fld := SupplyR.SUP_CTL_FORCE_B, acc := .rw, rst := 0x0 },
  { fld := SupplyR.SUP_CTL_RET_DLY, acc := .rw, rst := 0xA, legal := [(1, 255)], nvm := true },
  { fld := SupplyR.SUP_STAT_RET_WAIT, acc := .ro, rst := 0x0 },
  { fld := SupplyR.SUP_STAT_B_SEEN, acc := .ro, rst := 0x0 },
  { fld := SupplyR.SUP_STAT_A_SEEN, acc := .ro, rst := 0x1 },
  { fld := SupplyR.SUP_STAT_B_GOOD, acc := .ro, rst := 0x0 },
  { fld := SupplyR.SUP_STAT_A_GOOD, acc := .ro, rst := 0x1 },
  { fld := SupplyR.SUP_STAT_SEL, acc := .ro, rst := 0x0 },
  { fld := SupplyR.SUP_VIN_VINA, acc := .ro, rst := 0x0 },
  { fld := SupplyR.SUP_VIN_VINB, acc := .ro, rst := 0x0 },
  { fld := SupplyR.SUP_PWR_P_IN, acc := .ro, rst := 0x0 },
  { fld := SupplyR.SUP_PWR_HUP, acc := .ro, rst := 0x0 },
  { fld := SupplyR.SUP_CNT_SWITCHES, acc := .cnt, rst := 0x0 },
  { fld := SupplyR.SUP_CNT_A_LOSSES, acc := .cnt, rst := 0x0 },
  { fld := SupplyR.SUP_CNT_B_LOSSES, acc := .cnt, rst := 0x0 },
  { fld := SupplyR.RAIL_STAT_IN_WIN, acc := .ro, rst := 0x3F },
  { fld := SupplyR.HUP_CFG_CHG_EN, acc := .rw, rst := 0x1 },
  { fld := SupplyR.HUP_CFG_LOW_MJ, acc := .rw, rst := 0xD5 },
  { fld := SupplyR.HUP_CFG_TARGET, acc := .rw, rst := 0x28, legal := [(20, 45)], nvm := true },
  { fld := SupplyR.HUP_CAP_RESULT, acc := .ro, rst := 0x0 },
  { fld := SupplyR.HUP_CAP_AGE, acc := .ro, rst := 0xFFF },
  { fld := SupplyR.HUP_CAP_CAP, acc := .ro, rst := 0x0 },
  { fld := SupplyR.HUP_ENERGY_E_AVAIL, acc := .ro, rst := 0x0 },
  { fld := SupplyR.HUP_CTL_MEASURE, acc := .w1s, rst := 0x0 }]

/-- The fields of SUPPLY. -/
def rowsSupply : List Row := rowsSupply0

def rowsPstate0 : List Row := [
  { fld := PstateR.DEV_CTL_KEY, acc := .rw, rst := 0x0 },
  { fld := PstateR.DEV_CTL_DARK, acc := .w1s, rst := 0x0 },
  { fld := PstateR.DEV_STAT_DARK_EXITS, acc := .ro, rst := 0x0 },
  { fld := PstateR.DEV_STAT_FROM_DARK, acc := .ro, rst := 0x0 },
  { fld := PstateR.GRP_SUM_PEND0, acc := .ro, rst := 0x0 },
  { fld := PstateR.GRP_SUM_PEND1, acc := .ro, rst := 0x0 },
  { fld := PstateR.GRP_SUM_PEND2, acc := .ro, rst := 0x0 },
  { fld := PstateR.GRP_SUM_PEND3, acc := .ro, rst := 0x0 },
  { fld := PstateR.GRP_SUM_PEND4, acc := .ro, rst := 0x0 },
  { fld := PstateR.GRP_SUM_PEND5, acc := .ro, rst := 0x0 },
  { fld := PstateR.GRP_SUM_PEND6, acc := .ro, rst := 0x0 },
  { fld := PstateR.GRP_SUM_PEND7, acc := .ro, rst := 0x0 },
  { fld := PstateR.GRP_SUM_STATE0, acc := .ro, rst := 0x0 },
  { fld := PstateR.GRP_SUM_STATE1, acc := .ro, rst := 0x0 },
  { fld := PstateR.GRP_SUM_STATE2, acc := .ro, rst := 0x0 },
  { fld := PstateR.GRP_SUM_STATE3, acc := .ro, rst := 0x0 },
  { fld := PstateR.GRP_SUM_STATE4, acc := .ro, rst := 0x0 },
  { fld := PstateR.GRP_SUM_STATE5, acc := .ro, rst := 0x0 },
  { fld := PstateR.GRP_SUM_STATE6, acc := .ro, rst := 0x0 },
  { fld := PstateR.GRP_SUM_STATE7, acc := .ro, rst := 0x0 },
  { fld := PstateR.GRP_REQ_MASK, acc := .rw, rst := 0x0 },
  { fld := PstateR.GRP_REQ_REQ, acc := .rw, rst := 0x0 }]

/-- The fields of PSTATE. -/
def rowsPstate : List Row := rowsPstate0

def rowsNvm0 : List Row := [
  { fld := NvmR.NVM_CMD_OP, acc := .rw, rst := 0x0, legal := [(0, 4)] },
  { fld := NvmR.NVM_CMD_REGION, acc := .rw, rst := 0x0 },
  { fld := NvmR.NVM_ADDR_ADDR, acc := .rw, rst := 0x0 },
  { fld := NvmR.NVM_LEN_LEN, acc := .rw, rst := 0x0 },
  { fld := NvmR.NVM_STAT_STATE, acc := .ro, rst := 0x0 },
  { fld := NvmR.NVM_STAT_LAST_OP, acc := .ro, rst := 0x0 },
  { fld := NvmR.NVM_STAT_LAST_REGION, acc := .ro, rst := 0x0 },
  { fld := NvmR.NVM_STAT_RESULT, acc := .ro, rst := 0x0 },
  { fld := NvmR.NVM_ECHK_E_AVAIL, acc := .ro, rst := 0x0 },
  { fld := NvmR.NVM_ECHK_E_REQ, acc := .ro, rst := 0x0 },
  { fld := NvmR.NVM_ECHK_KIND, acc := .ro, rst := 0x0 },
  { fld := NvmR.NVM_ECHK_PASS, acc := .ro, rst := 0x0 },
  { fld := NvmR.NVM_CNT_DONE, acc := .cnt, rst := 0x0 },
  { fld := NvmR.NVM_CNT_REFUSED, acc := .cnt, rst := 0x0 },
  { fld := NvmR.REC_SEL_REGION, acc := .rw, rst := 0x3, legal := [(3, 7)] },
  { fld := NvmR.REC_STAT_A_VALID, acc := .ro, rst := 0x0 },
  { fld := NvmR.REC_STAT_B_VALID, acc := .ro, rst := 0x0 },
  { fld := NvmR.REC_STAT_ACTIVE, acc := .ro, rst := 0x0 },
  { fld := NvmR.REC_STAT_FREE, acc := .ro, rst := 0x0 },
  { fld := NvmR.REC_SEQ_SEQ, acc := .ro, rst := 0x0 },
  { fld := NvmR.REC_TIME_TIME, acc := .ro, rst := 0x0 },
  { fld := NvmR.NVM_BUF 0, acc := .rw, rst := 0x0, n := 256, stride := 4 }]

/-- The fields of NVM. -/
def rowsNvm : List Row := rowsNvm0

def rowsCal0 : List Row := [
  { fld := CalR.CAL_CFG_STORE_INT, acc := .rw, rst := 0x18, legal := [(1, 255)] },
  { fld := CalR.CAL_CFG_RAMP_PACE, acc := .rw, rst := 0x2, legal := [(0, 10)] },
  { fld := CalR.CAL_CFG_AUTO_STORE, acc := .rw, rst := 0x1 },
  { fld := CalR.CAL_CFG_CAL_CHECK, acc := .rw, rst := 0x0, nvm := true },
  { fld := CalR.CAL_STAT_STORING, acc := .ro, rst := 0x0 },
  { fld := CalR.CAL_STAT_DIRTY, acc := .ro, rst := 0x0 },
  { fld := CalR.CAL_STAT_SUSPENDED, acc := .ro, rst := 0x0 },
  { fld := CalR.CAL_STAT_PENDING, acc := .ro, rst := 0x0 },
  { fld := CalR.CAL_STAT_RUNNING, acc := .ro, rst := 0x0 },
  { fld := CalR.BG_MON_MAX, acc := .cnt, rst := 0x0 },
  { fld := CalR.BG_MON_DIFF, acc := .ro, rst := 0x0 },
  { fld := CalR.CAL_STORE_AGE_H, acc := .ro, rst := 0x0 },
  { fld := CalR.CAL_STORE_STORES, acc := .ro, rst := 0x0 }]

/-- The fields of CAL. -/
def rowsCal : List Row := rowsCal0

def rowsReh0 : List Row := [
  { fld := RehR.REH_CTL_OP, acc := .rw, rst := 0x0, legal := [(0, 5)] },
  { fld := RehR.REH_CTL_TARGET, acc := .rw, rst := 0x0 },
  { fld := RehR.REH_CTL_FORCE, acc := .rw, rst := 0x0 },
  { fld := RehR.REH_TESTS_MASK, acc := .rw, rst := 0xFFFF },
  { fld := RehR.REH_STAT_STATE, acc := .ro, rst := 0x0 },
  { fld := RehR.REH_STAT_SCOPE, acc := .ro, rst := 0x0 },
  { fld := RehR.REH_STAT_TARGET, acc := .ro, rst := 0x0 },
  { fld := RehR.REH_STAT_TEST, acc := .ro, rst := 0x0 },
  { fld := RehR.REH_STAT_LAST, acc := .ro, rst := 0x0 },
  { fld := RehR.REH_STAT_CAUSE, acc := .ro, rst := 0x0 },
  { fld := RehR.REH_STAT_LOG_LOST, acc := .ro, rst := 0x0 },
  { fld := RehR.REH_STAT_PROGRESS, acc := .ro, rst := 0x0 },
  { fld := RehR.REH_CFG_MAXAGE, acc := .rw, rst := 0x2D0, legal := [(1, 65535)], nvm := true },
  { fld := RehR.ONTIME_MIN, acc := .ro, rst := 0x0 },
  { fld := RehR.QS_STAT_QUICK, acc := .ro, rst := 0x0 },
  { fld := RehR.QS_STAT_WHY, acc := .ro, rst := 0x0 },
  { fld := RehR.QS_STAT_AGE_H, acc := .ro, rst := 0xFFFF },
  { fld := RehR.REH_RES_RESULT 0, acc := .ro, rst := 0x0, n := 16, stride := 4 },
  { fld := RehR.REH_RES_COINC 0, acc := .ro, rst := 0x0, n := 16, stride := 4 },
  { fld := RehR.REH_RES_VOID 0, acc := .ro, rst := 0x0, n := 16, stride := 4 },
  { fld := RehR.REH_RES_COV 0, acc := .ro, rst := 0x0, n := 16, stride := 4 },
  { fld := RehR.REH_RES_DUR 0, acc := .ro, rst := 0x0, n := 16, stride := 4 },
  { fld := RehR.REP_STAT_SOFT, acc := .ro, rst := 0x0 },
  { fld := RehR.REP_STAT_FUSED, acc := .ro, rst := 0x0 },
  { fld := RehR.REP_STAT_UNSTORED, acc := .ro, rst := 0x0 },
  { fld := RehR.REP_STAT_UNREPAIRED, acc := .ro, rst := 0x0 },
  { fld := RehR.REP_STAT_ENG_RET_V, acc := .ro, rst := 0x0 },
  { fld := RehR.REP_STAT_ENG_RET, acc := .ro, rst := 0x0 },
  { fld := RehR.TESTLAND_DRIVEN, acc := .ro, rst := 0x0 }]

/-- The fields of REH. -/
def rowsReh : List Row := rowsReh0

def rowsTherm0 : List Row := [
  { fld := ThermR.THERM_T_MAX 0, acc := .ro, rst := 0x800, n := 9, stride := 4 },
  { fld := ThermR.THERM_T_NOW 0, acc := .ro, rst := 0x0, n := 9, stride := 4 },
  { fld := ThermR.OT_CFG_HYST, acc := .rw, rst := 0x5, legal := [(1, 15)] },
  { fld := ThermR.OT_CFG_WARN_THR, acc := .rw, rst := 0x6E },
  { fld := ThermR.OT_CFG_OT_THR, acc := .rw, rst := 0x76, legal := [(0, 125)] },
  { fld := ThermR.THERM_STAT_WARN, acc := .ro, rst := 0x0 },
  { fld := ThermR.THERM_STAT_OVER, acc := .ro, rst := 0x0 },
  { fld := ThermR.THERM_CTL_MAX_CLR, acc := .w1s, rst := 0x0 }]

/-- The fields of THERM. -/
def rowsTherm : List Row := rowsTherm0

def rowsTime0 : List Row := [
  { fld := TimeR.SEC_HI_SEC, acc := .ro, rst := 0x0 },
  { fld := TimeR.SEC_LO_SEC, acc := .ro, rst := 0x0 },
  { fld := TimeR.NS, acc := .ro, rst := 0x0 },
  { fld := TimeR.FRAC, acc := .ro, rst := 0x0 },
  { fld := TimeR.FRAC_QUAL, acc := .ro, rst := 0x0 },
  { fld := TimeR.TIME_CTL_AUTO_REARM, acc := .rw, rst := 0x1 },
  { fld := TimeR.TIME_CTL_SRC, acc := .rw, rst := 0x0, legal := [(0, 2)] },
  { fld := TimeR.TIME_CTL_HOLD_REQ, acc := .w1s, rst := 0x0 },
  { fld := TimeR.TIME_CTL_ARM, acc := .w1s, rst := 0x0 },
  { fld := TimeR.TIME_CTL_STEP, acc := .w1s, rst := 0x0 },
  { fld := TimeR.TIME_RATE_RATE, acc := .rw, rst := 0x0 },
  { fld := TimeR.TIME_STAT_HOLD_AGE, acc := .ro, rst := 0x0 },
  { fld := TimeR.TIME_STAT_STEPS, acc := .ro, rst := 0x0 },
  { fld := TimeR.TIME_STAT_UNC_HIGH, acc := .ro, rst := 0x1 },
  { fld := TimeR.TIME_STAT_KEEPALIVE, acc := .ro, rst := 0x0 },
  { fld := TimeR.TIME_STAT_BRIDGE, acc := .ro, rst := 0x0 },
  { fld := TimeR.TIME_STAT_HOLDOVER, acc := .ro, rst := 0x0 },
  { fld := TimeR.TIME_STAT_ARMED, acc := .ro, rst := 0x1 },
  { fld := TimeR.TIME_STAT_VALID, acc := .ro, rst := 0x0 },
  { fld := TimeR.TIME_UNC_UNC, acc := .cnt, rst := 0xFFFFFFFF },
  { fld := TimeR.STEP_SEC_HI_STEP_SEC, acc := .rw, rst := 0x0 },
  { fld := TimeR.STEP_SEC_LO_STEP_SEC, acc := .rw, rst := 0x0 },
  { fld := TimeR.STEP_NS, acc := .rw, rst := 0x0, legal := [(0, 999999999)] },
  { fld := TimeR.STEP_FRAC, acc := .rw, rst := 0x0 },
  { fld := TimeR.HOLD_CFG_HOLD_UNC, acc := .rw, rst := 0x32 },
  { fld := TimeR.HOLD_CFG_HOLD_TMO, acc := .rw, rst := 0x20, legal := [(1, 255)] },
  { fld := TimeR.UNC_CFG_UNC_THR, acc := .rw, rst := 0x3E8 },
  { fld := TimeR.UNC_CFG_UNC_KA, acc := .rw, rst := 0x64, legal := [(1, 255)] },
  { fld := TimeR.KA_PERIOD, acc := .ro, rst := 0x77359400 },
  { fld := TimeR.KA_CYCLES, acc := .ro, rst := 0x0 }]

def rowsTime1 : List Row := [
  { fld := TimeR.REF_CFG_BACKUP_EN, acc := .sc .refclk, rst := 0x0, nvm := true },
  { fld := TimeR.REF_CFG_PRIMARY, acc := .rw, rst := 0x0, nvm := true },
  { fld := TimeR.REF0_FREQ_FREQ, acc := .sc .refclk, rst := 0x1D4C0000, nvm := true },
  { fld := TimeR.REF1_FREQ_FREQ, acc := .sc .refclk, rst := 0x1D4C0000, nvm := true },
  { fld := TimeR.REF_STAT_CHANGES, acc := .ro, rst := 0x0 },
  { fld := TimeR.REF_STAT_CHANGING, acc := .ro, rst := 0x0 },
  { fld := TimeR.REF_STAT_REF1_OK, acc := .ro, rst := 0x0 },
  { fld := TimeR.REF_STAT_REF0_OK, acc := .ro, rst := 0x0 },
  { fld := TimeR.REF_STAT_IN_USE, acc := .ro, rst := 0x0 },
  { fld := TimeR.MARK_CFG_MODE, acc := .rw, rst := 0x2, legal := [(0, 2)], nvm := true },
  { fld := TimeR.MARK_PERIOD_P, acc := .rw, rst := 0x258000, legal := [(256, 4294967295)], nvm := true },
  { fld := TimeR.MARK_STAT_MOVED, acc := .ro, rst := 0x0 },
  { fld := TimeR.MARK_STAT_INTERNAL, acc := .ro, rst := 0x0 },
  { fld := TimeR.MARK_STAT_MARKS, acc := .ro, rst := 0x0 },
  { fld := TimeR.MARK_TS 0, acc := .ro, rst := 0x0, n := 4, stride := 4 },
  { fld := TimeR.PPS_CTL_WIDTH, acc := .rw, rst := 0x2710, legal := [(1, 65535)] },
  { fld := TimeR.PPS_CTL_IN_EN, acc := .rw, rst := 0x1 },
  { fld := TimeR.PPS_CTL_OUT_EN, acc := .rw, rst := 0x1 },
  { fld := TimeR.PPS_OFS_OFS, acc := .rw, rst := 0x0 },
  { fld := TimeR.PPS_STAT_IGNORED, acc := .ro, rst := 0x0 },
  { fld := TimeR.PPS_STAT_IN_CNT, acc := .ro, rst := 0x0 },
  { fld := TimeR.PPS_IN_TS 0, acc := .ro, rst := 0x0, n := 4, stride := 4 }]

/-- The fields of TIME. -/
def rowsTime : List Row := rowsTime0 ++ rowsTime1

def rowsCue0 : List Row := [
  { fld := CueR.CUE_CTL_LOW_THR, acc := .rw, rst := 0x100, legal := [(0, 4096)] },
  { fld := CueR.CUE_OP_OP, acc := .rw, rst := 0x0, legal := [(0, 2)] },
  { fld := CueR.CUE_OP_CUE, acc := .rw, rst := 0x0 },
  { fld := CueR.OPEN_OP_OP, acc := .rw, rst := 0x0, legal := [(0, 3)] },
  { fld := CueR.OPEN_OP_SCENE, acc := .rw, rst := 0x0 },
  { fld := CueR.OPEN_OP_BASE, acc := .rw, rst := 0x0 },
  { fld := CueR.OPEN_STAT_CLOSING, acc := .ro, rst := 0x0 },
  { fld := CueR.OPEN_STAT_OVERFLOW, acc := .ro, rst := 0x0 },
  { fld := CueR.OPEN_STAT_ENTRIES, acc := .ro, rst := 0x0 },
  { fld := CueR.OPEN_STAT_LAST_OP, acc := .ro, rst := 0x0 },
  { fld := CueR.OPEN_STAT_RESULT, acc := .ro, rst := 0x0 },
  { fld := CueR.OPEN_STAT_CAUSE, acc := .ro, rst := 0x0 },
  { fld := CueR.SCENE_SEL_SCENE, acc := .rw, rst := 0x0 },
  { fld := CueR.SCENE_DESC_BASE, acc := .rw, rst := 0x0 },
  { fld := CueR.SCENE_DESC_LEN, acc := .rw, rst := 0x0 },
  { fld := CueR.SCENE_STAT_RESULT, acc := .ro, rst := 0x0 },
  { fld := CueR.SCENE_STAT_CAUSE, acc := .ro, rst := 0x0 },
  { fld := CueR.SCENE_STAT_ENTRY, acc := .ro, rst := 0x0 },
  { fld := CueR.SCENE_STAT_COMMITS, acc := .ro, rst := 0x0 },
  { fld := CueR.FREE_CUES_FREE, acc := .ro, rst := 0x1000 },
  { fld := CueR.FAIL_INFO_CAUSE, acc := .ro, rst := 0x0 },
  { fld := CueR.FAIL_INFO_ENTRY, acc := .ro, rst := 0x0 },
  { fld := CueR.FAIL_INFO_SCENE, acc := .ro, rst := 0x0 },
  { fld := CueR.FAIL_CUE_VIA_CUE, acc := .ro, rst := 0x0 },
  { fld := CueR.FAIL_CUE_CUE, acc := .ro, rst := 0x0 },
  { fld := CueR.FAIL_ADDR_ADDR, acc := .ro, rst := 0x0 },
  { fld := CueR.FAIL_CNT_ENG_FAILS, acc := .cnt, rst := 0x0 },
  { fld := CueR.FAIL_CNT_HOST_FAILS, acc := .cnt, rst := 0x0 },
  { fld := CueR.LAST_FIRED_VALID, acc := .ro, rst := 0x0 },
  { fld := CueR.LAST_FIRED_CUE, acc := .ro, rst := 0x0 }]

def rowsCue1 : List Row := [
  { fld := CueR.CHK_STAT_LOAD, acc := .ro, rst := 0x0 },
  { fld := CueR.CHK_STAT_DEFERRED, acc := .ro, rst := 0x0 },
  { fld := CueR.CHK_STAT_SLOTS_FULL, acc := .ro, rst := 0x0 }]

/-- The fields of CUE. -/
def rowsCue : List Row := rowsCue0 ++ rowsCue1

def rowsTwin0 : List Row := [
  { fld := TwinR.TWIN_CFG_REENTRY_TMO, acc := .rw, rst := 0x4, legal := [(0, 7)] },
  { fld := TwinR.TWIN_CFG_REENTRY_WIN, acc := .rw, rst := 0x4, legal := [(1, 15)] },
  { fld := TwinR.TWIN_CFG_MATCH_TOL, acc := .rw, rst := 0x10, legal := [(1, 255)] },
  { fld := TwinR.TWIN_CFG_MATCH_RUN, acc := .rw, rst := 0x2, legal := [(1, 15)] },
  { fld := TwinR.TWIN_CFG_PROMOTE_DLY, acc := .rw, rst := 0x3, legal := [(0, 10)] },
  { fld := TwinR.TWIN_CFG_SRC_ALONE, acc := .rw, rst := 0x1, legal := [(0, 1)] },
  { fld := TwinR.TWIN_CFG_SEED_EN, acc := .rw, rst := 0x1 },
  { fld := TwinR.TWIN_CFG_TIME_EN, acc := .rw, rst := 0x1 },
  { fld := TwinR.TWIN_CFG_WORK_HALF, acc := .rw, rst := 0x0, nvm := true },
  { fld := TwinR.TWIN_CFG_EN, acc := .rw, rst := 0x0, nvm := true },
  { fld := TwinR.TWIN_STAT_ROLE_CHANGES, acc := .ro, rst := 0x0 },
  { fld := TwinR.TWIN_STAT_WORK_SAME, acc := .ro, rst := 0x0 },
  { fld := TwinR.TWIN_STAT_SYNCING, acc := .ro, rst := 0x0 },
  { fld := TwinR.TWIN_STAT_PEER_SD, acc := .ro, rst := 0x0 },
  { fld := TwinR.TWIN_STAT_PEER_TWIN_ID, acc := .ro, rst := 0x0 },
  { fld := TwinR.TWIN_STAT_ROLE, acc := .ro, rst := 0x0 },
  { fld := TwinR.TWIN_STAT_STATE, acc := .ro, rst := 0x0 },
  { fld := TwinR.PEER_SERIAL_HI_SERIAL, acc := .ro, rst := 0x0 },
  { fld := TwinR.PEER_SERIAL_LO_SERIAL, acc := .ro, rst := 0x0 },
  { fld := TwinR.SD_CTL_FORCE, acc := .w1s, rst := 0x0 },
  { fld := TwinR.SD_CTL_CANCEL, acc := .w1s, rst := 0x0 },
  { fld := TwinR.SD_CTL_REPLACE, acc := .w1s, rst := 0x0 },
  { fld := TwinR.SD_CTL_REENTER, acc := .w1s, rst := 0x0 },
  { fld := TwinR.SD_CTL_CONFIRM, acc := .w1s, rst := 0x0 },
  { fld := TwinR.SD_CTL_REQ, acc := .w1s, rst := 0x0 },
  { fld := TwinR.SD_STAT_BLOCK_WHY, acc := .ro, rst := 0x0 },
  { fld := TwinR.SD_STAT_BLOCK_LP, acc := .ro, rst := 0x0 },
  { fld := TwinR.SD_STAT_CAUSE, acc := .ro, rst := 0x0 },
  { fld := TwinR.SD_STAT_SD_STATE, acc := .ro, rst := 0x0 },
  { fld := TwinR.SEL_OK_LO_SEL_OK, acc := .ro, rst := 0x0 }]

def rowsTwin1 : List Row := [
  { fld := TwinR.SEL_OK_HI_SEL_OK, acc := .ro, rst := 0x0 },
  { fld := TwinR.PIN_MIS_LO_PIN_MIS, acc := .ro, rst := 0x0 },
  { fld := TwinR.PIN_MIS_HI_PIN_MIS, acc := .ro, rst := 0x0 },
  { fld := TwinR.CFG_MIS_LO_CFG_MIS, acc := .ro, rst := 0x0 },
  { fld := TwinR.CFG_MIS_HI_CFG_MIS, acc := .ro, rst := 0x0 },
  { fld := TwinR.TT_ASYM_ASYM, acc := .rw, rst := 0x0, nvm := true },
  { fld := TwinR.TT_OFS_OFS, acc := .ro, rst := 0x0 },
  { fld := TwinR.TT_DELAY_DELAY, acc := .ro, rst := 0x0 },
  { fld := TwinR.TT_STAT_EXCHANGES, acc := .ro, rst := 0x0 },
  { fld := TwinR.TT_STAT_STEPPED, acc := .ro, rst := 0x0 },
  { fld := TwinR.TT_STAT_LOCKED, acc := .ro, rst := 0x0 },
  { fld := TwinR.LINK_STAT_LANE_LOCK, acc := .ro, rst := 0x0 },
  { fld := TwinR.LINK_STAT_HB_OK, acc := .ro, rst := 0x0 },
  { fld := TwinR.LINK_STAT_LINK_UP, acc := .ro, rst := 0x0 },
  { fld := TwinR.LINK_CNT_RESENDS, acc := .cnt, rst := 0x0 },
  { fld := TwinR.LINK_CNT_LOSSES, acc := .cnt, rst := 0x0 },
  { fld := TwinR.LINK_CNT_HB_LOSSES, acc := .cnt, rst := 0x0 },
  { fld := TwinR.MIR_CRC_OWN, acc := .ro, rst := 0x0 },
  { fld := TwinR.MIR_PEER_CRC_PEER, acc := .ro, rst := 0x0 },
  { fld := TwinR.MIR_CNT_OPS, acc := .ro, rst := 0x0 },
  { fld := TwinR.MIR_CNT_SYNCS, acc := .ro, rst := 0x0 },
  { fld := TwinR.MIR_SEL_PATH, acc := .rw, rst := 0x0 },
  { fld := TwinR.MIR_AGE_AGE, acc := .ro, rst := 0xFFFF },
  { fld := TwinR.MIR_RX_CTLE, acc := .ro, rst := 0x0 },
  { fld := TwinR.MIR_DFE, acc := .ro, rst := 0x0 },
  { fld := TwinR.MIR_TX_FIR0, acc := .ro, rst := 0x0 },
  { fld := TwinR.MIR_TX_FIR1, acc := .ro, rst := 0x0 },
  { fld := TwinR.MIR_FFE_TAP 0, acc := .ro, rst := 0x0, n := 16, stride := 4 }]

/-- The fields of TWIN. -/
def rowsTwin : List Row := rowsTwin0 ++ rowsTwin1

def rowsFrame0 : List Row := [
  { fld := FrameR.FRAME_CTL_UM_DA_CHECK, acc := .rw, rst := 0x0, nvm := true },
  { fld := FrameR.FRAME_CTL_UM_EN, acc := .rw, rst := 0x1, nvm := true },
  { fld := FrameR.UM_ETYPE_ETYPE, acc := .rw, rst := 0x88B5, legal := [(0x0600, 0x07FF), (0x0801, 0x80FF), (0x8101, 0x86DC), (0x86DE, 0x88A7), (0x88A9, 0x88F6), (0x88F8, 0xFFFF)], nvm := true },
  { fld := FrameR.UM_DEADLINE_DEADLINE, acc := .rw, rst := 0x32, legal := [(1, 65535)], nvm := true },
  { fld := FrameR.PORT_CTL_DEF_DEADLINE 0, acc := .rw, rst := 0x3E8, n := 4, stride := 64, legal := [(1, 65535)] },
  { fld := FrameR.PORT_CTL_DOMAIN 0, acc := .rw, rst := 0x18, n := 4, stride := 64 },
  { fld := FrameR.PORT_CTL_PTP_EXT 0, acc := .rw, rst := 0x1, n := 4, stride := 64 },
  { fld := FrameR.PORT_CTL_SNOOP 0, acc := .rw, rst := 0x0, n := 4, stride := 64 },
  { fld := FrameR.PORT_CTL_EN 0, acc := .rw, rst := 0x0, n := 4, stride := 64 },
  { fld := FrameR.MAC_HI_MAC 0, acc := .rw, rst := 0x0, n := 4, stride := 64, nvm := true },
  { fld := FrameR.MAC_LO_MAC 0, acc := .rw, rst := 0x0, n := 4, stride := 64, nvm := true },
  { fld := FrameR.PTP_ID_HI_CLOCK_ID 0, acc := .rw, rst := 0x0, n := 4, stride := 64, nvm := true },
  { fld := FrameR.PTP_ID_LO_CLOCK_ID 0, acc := .rw, rst := 0x0, n := 4, stride := 64, nvm := true },
  { fld := FrameR.PTP_PORTNUM_PORTNUM 0, acc := .rw, rst := 0x0, n := 4, stride := 64, nvm := true },
  { fld := FrameR.TX_IDX_TX_HEAD 0, acc := .ro, rst := 0x0, n := 4, stride := 64 },
  { fld := FrameR.TX_IDX_TX_TAIL 0, acc := .rw, rst := 0x0, n := 4, stride := 64 },
  { fld := FrameR.RX_IDX_RX_HEAD 0, acc := .ro, rst := 0x0, n := 4, stride := 64 },
  { fld := FrameR.RX_IDX_RX_TAIL 0, acc := .rw, rst := 0x0, n := 4, stride := 64 },
  { fld := FrameR.PORT_STAT_UM_QUEUED 0, acc := .ro, rst := 0x0, n := 4, stride := 64 },
  { fld := FrameR.PORT_STAT_EXT_PATH 0, acc := .ro, rst := 0x7F, n := 4, stride := 64 },
  { fld := FrameR.PORT_STAT_INS_PATH 0, acc := .ro, rst := 0x7F, n := 4, stride := 64 },
  { fld := FrameR.PORT_STAT_INSERTING 0, acc := .ro, rst := 0x0, n := 4, stride := 64 },
  { fld := FrameR.PORT_STAT_EXT_READY 0, acc := .ro, rst := 0x0, n := 4, stride := 64 },
  { fld := FrameR.PORT_STAT_INS_READY 0, acc := .ro, rst := 0x0, n := 4, stride := 64 },
  { fld := FrameR.TX_CNT_DROPPED 0, acc := .cnt, rst := 0x0, n := 4, stride := 64 },
  { fld := FrameR.TX_CNT_SENT 0, acc := .cnt, rst := 0x0, n := 4, stride := 64 },
  { fld := FrameR.RX_CNT_NOBUF 0, acc := .cnt, rst := 0x0, n := 4, stride := 64 },
  { fld := FrameR.RX_CNT_RECEIVED 0, acc := .cnt, rst := 0x0, n := 4, stride := 64 },
  { fld := FrameR.UM_CNT0_AUTH_FAIL 0, acc := .cnt, rst := 0x0, n := 4, stride := 64 },
  { fld := FrameR.UM_CNT0_SERVED 0, acc := .cnt, rst := 0x0, n := 4, stride := 64 }]

def rowsFrame1 : List Row := [
  { fld := FrameR.UM_CNT1_REFUSED 0, acc := .cnt, rst := 0x0, n := 4, stride := 64 },
  { fld := FrameR.UM_CNT1_BAD 0, acc := .cnt, rst := 0x0, n := 4, stride := 64 }]

/-- The fields of FRAME. -/
def rowsFrame : List Row := rowsFrame0 ++ rowsFrame1

def rowsTwt0 : List Row := [
  { fld := TwtR.TWT_CFG_TMO, acc := .rw, rst := 0x19, legal := [(1, 100)] },
  { fld := TwtR.TWT_CFG_T_PROMPT, acc := .rw, rst := 0xA, legal := [(1, 50)] },
  { fld := TwtR.TWT_CFG_PROMPT_IDLE, acc := .rw, rst := 0x14, legal := [(1, 255)] },
  { fld := TwtR.TWT_CFG_T_FALL, acc := .rw, rst := 0x4, legal := [(0, 10)] },
  { fld := TwtR.TWT_STAT_POINTER, acc := .ro, rst := 0x0 },
  { fld := TwtR.TWT_STAT_BUF_BYTES, acc := .ro, rst := 0x0 },
  { fld := TwtR.TWT_STAT_PROMPTING, acc := .ro, rst := 0x0 },
  { fld := TwtR.TWT_STAT_PROMPT_PEND, acc := .ro, rst := 0x0 },
  { fld := TwtR.TWT_STAT_OPEN, acc := .ro, rst := 0x0 },
  { fld := TwtR.TWT_STAT_SDA, acc := .ro, rst := 0x0 },
  { fld := TwtR.TWT_STAT_SCL, acc := .ro, rst := 0x0 },
  { fld := TwtR.TWT_LAST_RD_REGS, acc := .ro, rst := 0x0 },
  { fld := TwtR.TWT_LAST_WR_REGS, acc := .ro, rst := 0x0 },
  { fld := TwtR.TWT_CNT_TRANSFERS, acc := .cnt, rst := 0x0 },
  { fld := TwtR.TWT_CNT_PROMPTS, acc := .cnt, rst := 0x0 },
  { fld := TwtR.TWT_CNT_ABANDONED, acc := .cnt, rst := 0x0 }]

/-- The fields of TWT. -/
def rowsTwt : List Row := rowsTwt0

def rowsTwc0 : List Row := [
  { fld := TwcR.TWC_CFG_EN, acc := .rw, rst := 0x0 },
  { fld := TwcR.TWC_CFG_RETRIES, acc := .rw, rst := 0x0 },
  { fld := TwcR.TWC_CFG_TMO, acc := .rw, rst := 0x19, legal := [(1, 100)] },
  { fld := TwcR.TWC_CFG_SPEED, acc := .rw, rst := 0x1, legal := [(0, 2)] },
  { fld := TwcR.TWC_CFG_T_FALL, acc := .rw, rst := 0x4, legal := [(0, 10)] },
  { fld := TwcR.TWC_CMD_OP, acc := .rw, rst := 0x0, legal := [(0, 2)] },
  { fld := TwcR.TWC_CMD_ADDR, acc := .rw, rst := 0x0 },
  { fld := TwcR.TWC_CMD_RLEN, acc := .rw, rst := 0x0 },
  { fld := TwcR.TWC_CMD_WLEN, acc := .rw, rst := 0x0 },
  { fld := TwcR.TWC_STAT_STATE, acc := .ro, rst := 0x0 },
  { fld := TwcR.TWC_STAT_RESULT, acc := .ro, rst := 0x0 },
  { fld := TwcR.TWC_STAT_NACK_INDEX, acc := .ro, rst := 0x0 },
  { fld := TwcR.TWC_STAT_RD_DONE, acc := .ro, rst := 0x0 },
  { fld := TwcR.TWC_STAT_ATTEMPTS, acc := .ro, rst := 0x0 },
  { fld := TwcR.TWC_STAT_SDA_TMO, acc := .ro, rst := 0x0 },
  { fld := TwcR.TWC_STAT_SCL_TMO, acc := .ro, rst := 0x0 },
  { fld := TwcR.TWC_STAT_SDA, acc := .ro, rst := 0x0 },
  { fld := TwcR.TWC_STAT_SCL, acc := .ro, rst := 0x0 },
  { fld := TwcR.TWC_CNT_DONE, acc := .cnt, rst := 0x0 },
  { fld := TwcR.TWC_CNT_ARB, acc := .cnt, rst := 0x0 },
  { fld := TwcR.TWC_CNT_STUCK, acc := .cnt, rst := 0x0 },
  { fld := TwcR.TWC_WBUF 0, acc := .rw, rst := 0x0, n := 8, stride := 4 },
  { fld := TwcR.TWC_RBUF 0, acc := .ro, rst := 0x0, n := 8, stride := 4 }]

/-- The fields of TWC. -/
def rowsTwc : List Row := rowsTwc0

def rowsSpi0 : List Row := [
  { fld := SpiR.SPI_CFG_TMO, acc := .rw, rst := 0x19, legal := [(1, 100)] },
  { fld := SpiR.SPI_CFG_FLUSH, acc := .w1s, rst := 0x0 },
  { fld := SpiR.SPI_STAT_MODE, acc := .ro, rst := 0x0 },
  { fld := SpiR.SPI_STAT_HEAD, acc := .ro, rst := 0x0 },
  { fld := SpiR.SPI_STAT_PENDING, acc := .ro, rst := 0x0 },
  { fld := SpiR.SPI_CNT_FRAMES, acc := .cnt, rst := 0x0 },
  { fld := SpiR.SPI_CNT_READ_ERRS, acc := .cnt, rst := 0x0 }]

/-- The fields of SPI. -/
def rowsSpi : List Row := rowsSpi0

def rowsSec0 : List Row := [
  { fld := SecR.SEC_STAT_GATED, acc := .ro, rst := 0x0 },
  { fld := SecR.SEC_STAT_RNG_OK, acc := .ro, rst := 0x0 },
  { fld := SecR.SEC_STAT_UM1, acc := .ro, rst := 0x0 },
  { fld := SecR.SEC_STAT_UM0, acc := .ro, rst := 0x0 },
  { fld := SecR.SEC_STAT_IMGKEY_REVOKED, acc := .ro, rst := 0x0 },
  { fld := SecR.SEC_STAT_IMGKEY_PRESENT, acc := .ro, rst := 0x0 },
  { fld := SecR.SEC_STAT_SVN_FLOOR, acc := .ro, rst := 0x0 },
  { fld := SecR.SEC_CTL_KEY, acc := .rw, rst := 0x0 },
  { fld := SecR.SEC_CTL_OP, acc := .rw, rst := 0x0, legal := [(0, 4)] },
  { fld := SecR.SEC_CTL_VALUE, acc := .rw, rst := 0x0 },
  { fld := SecR.SEC_CTL_SLOT, acc := .rw, rst := 0x0 },
  { fld := SecR.SEC_OPSTAT_STATE, acc := .ro, rst := 0x0 },
  { fld := SecR.SEC_OPSTAT_RESULT, acc := .ro, rst := 0x0 },
  { fld := SecR.SEC_OPSTAT_SESSIONS, acc := .ro, rst := 0x0 },
  { fld := SecR.UM_KEY 0, acc := .rw, rst := 0x0, n := 8, stride := 4 },
  { fld := SecR.IMG_STAT_SLOT1_RES, acc := .ro, rst := 0x0 },
  { fld := SecR.IMG_STAT_SLOT0_RES, acc := .ro, rst := 0x0 },
  { fld := SecR.IMG_STAT_KEY_ID, acc := .ro, rst := 0x0 },
  { fld := SecR.IMG_STAT_IMAGE, acc := .ro, rst := 0x0 },
  { fld := SecR.SESS_CFG_TMO, acc := .rw, rst := 0x12C, legal := [(1, 65535)] },
  { fld := SecR.SESS_STAT_LAST_OPENED, acc := .ro, rst := 0x0 },
  { fld := SecR.SESS_STAT_OPEN, acc := .ro, rst := 0x0 },
  { fld := SecR.SEC_CNT_TAG_FAILS, acc := .cnt, rst := 0x0 },
  { fld := SecR.SEC_CNT_REPLAYS, acc := .cnt, rst := 0x0 },
  { fld := SecR.SEC_CNT_SESSION_FAILS, acc := .cnt, rst := 0x0 },
  { fld := SecR.SESS_VALID 0, acc := .ro, rst := 0x0, n := 8, stride := 4 },
  { fld := SecR.SESS_SLOT 0, acc := .ro, rst := 0x0, n := 8, stride := 4 },
  { fld := SecR.SESS_AGE_S 0, acc := .ro, rst := 0x0, n := 8, stride := 4 },
  { fld := SecR.SESS_SESSION 0, acc := .ro, rst := 0x0, n := 8, stride := 4 }]

/-- The fields of SEC. -/
def rowsSec : List Row := rowsSec0

def rowsGroup0 : List Row := [
  { fld := GroupR.PLLA_CFG_N, acc := .sc .rate, rst := 0x0, nvm := true },
  { fld := GroupR.PLLB_CFG_N, acc := .sc .rate, rst := 0x0, nvm := true },
  { fld := GroupR.PLLA_CFG_EN, acc := .sc .rate, rst := 0x0, nvm := true },
  { fld := GroupR.PLLB_CFG_EN, acc := .sc .rate, rst := 0x0, nvm := true },
  { fld := GroupR.PLLA_FRAC_FRAC, acc := .sc .rate, rst := 0x0, nvm := true },
  { fld := GroupR.PLLB_FRAC_FRAC, acc := .sc .rate, rst := 0x0, nvm := true },
  { fld := GroupR.PLL_STAT_B_BAND, acc := .ro, rst := 0x0 },
  { fld := GroupR.PLL_STAT_A_BAND, acc := .ro, rst := 0x0 },
  { fld := GroupR.PLL_STAT_B_HOLD, acc := .ro, rst := 0x0 },
  { fld := GroupR.PLL_STAT_A_HOLD, acc := .ro, rst := 0x0 },
  { fld := GroupR.PLL_STAT_B_LOCK, acc := .ro, rst := 0x0 },
  { fld := GroupR.PLL_STAT_A_LOCK, acc := .ro, rst := 0x0 },
  { fld := GroupR.REF_STAT_REF_VALID, acc := .ro, rst := 0x0 },
  { fld := GroupR.REF_STAT_CHANGING, acc := .ro, rst := 0x0 },
  { fld := GroupR.REF_STAT_REF_SEL, acc := .ro, rst := 0x0 },
  { fld := GroupR.PLL_CNT_B_UNLOCKS, acc := .cnt, rst := 0x0 },
  { fld := GroupR.PLL_CNT_A_UNLOCKS, acc := .cnt, rst := 0x0 },
  { fld := GroupR.PLL_USE_BA_B, acc := .ro, rst := 0x0 },
  { fld := GroupR.PLL_USE_AB_B, acc := .ro, rst := 0x0 },
  { fld := GroupR.ENG_BIND_GO, acc := .w1s, rst := 0x0 },
  { fld := GroupR.ENG_BIND_AUTO_SWING, acc := .rw, rst := 0x1 },
  { fld := GroupR.ENG_BIND_TARGET, acc := .rw, rst := 0x0, nvm := true },
  { fld := GroupR.MIG_STAT_LAST_US, acc := .ro, rst := 0x0 },
  { fld := GroupR.MIG_STAT_CAUSE, acc := .ro, rst := 0x0 },
  { fld := GroupR.MIG_STAT_FROM, acc := .ro, rst := 0x0 },
  { fld := GroupR.MIG_STAT_TO, acc := .ro, rst := 0x0 },
  { fld := GroupR.MIG_STAT_STATE, acc := .ro, rst := 0x0 },
  { fld := GroupR.MIG_CNT_REFUSED, acc := .cnt, rst := 0x0 },
  { fld := GroupR.MIG_CNT_DONE, acc := .cnt, rst := 0x0 },
  { fld := GroupR.CKPT_STAT_AGE, acc := .ro, rst := 0xFFFF }]

def rowsGroup1 : List Row := [
  { fld := GroupR.CKPT_STAT_SIZE, acc := .ro, rst := 0x0 },
  { fld := GroupR.PWR_CTL_MARK_WAKE, acc := .rw, rst := 0x0 },
  { fld := GroupR.PWR_CTL_AUTO_EN, acc := .rw, rst := 0x1 },
  { fld := GroupR.PWR_CTL_WAKE_HOLD, acc := .rw, rst := 0x0 },
  { fld := GroupR.PWR_CTL_WAKE_NOW, acc := .w1s, rst := 0x0 },
  { fld := GroupR.PWR_CTL_REQ, acc := .rw, rst := 0x0 },
  { fld := GroupR.IDLE_CFG_UNIT, acc := .rw, rst := 0x1, legal := [(0, 1)] },
  { fld := GroupR.IDLE_CFG_MANT, acc := .rw, rst := 0xA, legal := [(1, 10000)] },
  { fld := GroupR.PWR_STAT_LAST_ENTRY, acc := .ro, rst := 0x0 },
  { fld := GroupR.PWR_STAT_LAST_EXIT, acc := .ro, rst := 0x0 },
  { fld := GroupR.PWR_STAT_LEVEL_WAKE, acc := .ro, rst := 0x0 },
  { fld := GroupR.PWR_STAT_IDLE, acc := .ro, rst := 0x0 },
  { fld := GroupR.PWR_STAT_PENDING, acc := .ro, rst := 0x0 },
  { fld := GroupR.PWR_STAT_STATE, acc := .ro, rst := 0x0 },
  { fld := GroupR.PWR_CNT_ENTRIES, acc := .cnt, rst := 0x0 },
  { fld := GroupR.PWR_CNT_REPLACED, acc := .cnt, rst := 0x0 },
  { fld := GroupR.PWR_TIME_LAST_EXIT_US, acc := .ro, rst := 0x0 },
  { fld := GroupR.PWR_TIME_LAST_ENTRY_US, acc := .ro, rst := 0x0 },
  { fld := GroupR.BIAS_STAT_PLL_MODE, acc := .ro, rst := 0x0 },
  { fld := GroupR.BIAS_STAT_SRAM_MODE, acc := .ro, rst := 0x0 },
  { fld := GroupR.BIAS_STAT_DSP_BIAS, acc := .ro, rst := 0x0 },
  { fld := GroupR.CAL_DT_DT, acc := .rw, rst := 0x10, legal := [(4, 60)] },
  { fld := GroupR.CAL_CTL_PERIOD, acc := .rw, rst := 0x0 },
  { fld := GroupR.CAL_CTL_BLOCKS, acc := .rw, rst := 0x3F },
  { fld := GroupR.CAL_CTL_RAMP, acc := .rw, rst := 0x0 },
  { fld := GroupR.CAL_CTL_APPLY_MODE, acc := .rw, rst := 0x0 },
  { fld := GroupR.CAL_CTL_TEMP_EN, acc := .rw, rst := 0x1 },
  { fld := GroupR.CAL_CMD_ABORT, acc := .w1s, rst := 0x0 },
  { fld := GroupR.CAL_CMD_APPLY, acc := .w1s, rst := 0x0 },
  { fld := GroupR.CAL_CMD_RUN, acc := .w1s, rst := 0x0 }]

def rowsGroup2 : List Row := [
  { fld := GroupR.CAL_STAT_PEND_PATHS, acc := .ro, rst := 0x0 },
  { fld := GroupR.CAL_STAT_LAST_TRIG, acc := .ro, rst := 0x0 },
  { fld := GroupR.CAL_STAT_BLOCK, acc := .ro, rst := 0x0 },
  { fld := GroupR.CAL_STAT_TRIG_PEND, acc := .ro, rst := 0x0 },
  { fld := GroupR.CAL_STAT_STATE, acc := .ro, rst := 0x0 },
  { fld := GroupR.CAL_TEMP_RUN_T, acc := .ro, rst := 0x0 },
  { fld := GroupR.CAL_TEMP_NOW_T, acc := .ro, rst := 0x0 },
  { fld := GroupR.CAL_CNT_RUNS, acc := .cnt, rst := 0x0 },
  { fld := GroupR.CAL_CNT_FAILS, acc := .cnt, rst := 0x0 },
  { fld := GroupR.CAL_CNT_SUPERSEDED, acc := .cnt, rst := 0x0 },
  { fld := GroupR.CAL_FAIL_INFO_CAUSE, acc := .ro, rst := 0x0 },
  { fld := GroupR.CAL_FAIL_INFO_BLOCK, acc := .ro, rst := 0x0 },
  { fld := GroupR.CAL_FAIL_INFO_SLICE, acc := .ro, rst := 0x0 },
  { fld := GroupR.CAL_FAIL_INFO_PATH, acc := .ro, rst := 0x0 },
  { fld := GroupR.CAL_LAST_DUR_10US, acc := .ro, rst := 0x0 },
  { fld := GroupR.CAL_LAST_CHANGED, acc := .ro, rst := 0x0 },
  { fld := GroupR.CAL_DISRUPT_SKEW, acc := .rw, rst := 0x0 },
  { fld := GroupR.CAL_DISRUPT_PATHS, acc := .w1s, rst := 0x0 },
  { fld := GroupR.CAL_DISRUPT_STAT_DONE, acc := .ro, rst := 0x0 },
  { fld := GroupR.CAL_DISRUPT_STAT_NEED, acc := .ro, rst := 0x0 },
  { fld := GroupR.CAL_PSEL_PATH, acc := .rw, rst := 0x0 },
  { fld := GroupR.CAL_PTRIM0_TX_TERM, acc := .ro, rst := 0x0 },
  { fld := GroupR.CAL_PTRIM0_RX_TERM, acc := .ro, rst := 0x0 },
  { fld := GroupR.CAL_PTRIM0_TX_DAC, acc := .ro, rst := 0x0 },
  { fld := GroupR.CAL_PTRIM0_TEMP, acc := .ro, rst := 0x0 },
  { fld := GroupR.CAL_PTRIM1_CTLE_OFS, acc := .ro, rst := 0x0 },
  { fld := GroupR.CAL_PTRIM2_RX_PI, acc := .ro, rst := 0x0 },
  { fld := GroupR.CAL_PTRIM3_TX_PI, acc := .ro, rst := 0x0 },
  { fld := GroupR.CAL_PPEND_BLOCKS, acc := .ro, rst := 0x0 },
  { fld := GroupR.GRP_REH_STAT_DUR_MS, acc := .ro, rst := 0x0 }]

def rowsGroup3 : List Row := [
  { fld := GroupR.GRP_REH_STAT_REPAIRS, acc := .ro, rst := 0x0 },
  { fld := GroupR.GRP_REH_STAT_LAST, acc := .ro, rst := 0x0 },
  { fld := GroupR.GRP_REH_RES, acc := .ro, rst := 0x0 },
  { fld := GroupR.GRP_REH_FAIL_PATHS, acc := .ro, rst := 0x0 }]

/-- The fields of GROUP. -/
def rowsGroup : List Row := rowsGroup0 ++ rowsGroup1 ++ rowsGroup2 ++ rowsGroup3

def rowsStage0 : List Row := [
  { fld := StageR.ENG_CTL_SLOT, acc := .rw, rst := 0x0 },
  { fld := StageR.ENG_CTL_LOAD, acc := .w1s, rst := 0x0 },
  { fld := StageR.ENG_CTL_STOP, acc := .w1s, rst := 0x0 },
  { fld := StageR.ENG_CTL_START, acc := .w1s, rst := 0x0 },
  { fld := StageR.ENG_STAT_FAULT_CAUSE, acc := .ro, rst := 0x0 },
  { fld := StageR.ENG_STAT_GROUP, acc := .ro, rst := 0x0 },
  { fld := StageR.ENG_STAT_STATE, acc := .ro, rst := 0x0 },
  { fld := StageR.IMG_ID_IMAGE, acc := .ro, rst := 0x0 },
  { fld := StageR.IMG_ID_VER_MAJ, acc := .ro, rst := 0x0 },
  { fld := StageR.IMG_ID_VER_MIN, acc := .ro, rst := 0x0 },
  { fld := StageR.IMG_FMT_SLOT, acc := .ro, rst := 0x0 },
  { fld := StageR.IMG_FMT_STATE_FMT, acc := .ro, rst := 0x0 },
  { fld := StageR.IMG_FMT_ACCEPT_MIN, acc := .ro, rst := 0x0 },
  { fld := StageR.ENG_SPEED_OPS_MIN, acc := .ro, rst := 0x0 },
  { fld := StageR.ENG_SPEED_OPS, acc := .ro, rst := 0x0 },
  { fld := StageR.WDOG_CTL_EN, acc := .rw, rst := 0x1 },
  { fld := StageR.WDOG_CTL_TMO, acc := .rw, rst := 0x3, legal := [(0, 10)] },
  { fld := StageR.WDOG_STAT_EXPIRIES, acc := .cnt, rst := 0x0 },
  { fld := StageR.WDOG_STAT_AGE, acc := .ro, rst := 0x0 },
  { fld := StageR.ENG_CNT_COMMANDS, acc := .cnt, rst := 0x0 },
  { fld := StageR.ENG_CNT_SCENE_FAILS, acc := .cnt, rst := 0x0 },
  { fld := StageR.CMDQ_WORD 0, acc := .rw, rst := 0x0, n := 3, stride := 4 },
  { fld := StageR.CMDQ_WORD3, acc := .rw, rst := 0x0 },
  { fld := StageR.CMDQ_STAT_DISCARDED, acc := .cnt, rst := 0x0 },
  { fld := StageR.CMDQ_STAT_FULL, acc := .ro, rst := 0x0 },
  { fld := StageR.CMDQ_STAT_COUNT, acc := .ro, rst := 0x0 },
  { fld := StageR.RSPQ_WORD 0, acc := .ro, rst := 0x0, n := 4, stride := 4 },
  { fld := StageR.RSPQ_STAT_NOTICE_LOST, acc := .cnt, rst := 0x0 },
  { fld := StageR.RSPQ_STAT_COUNT, acc := .ro, rst := 0x0 }]

/-- The fields of STAGE. -/
def rowsStage : List Row := rowsStage0

def rowsPath0 : List Row := [
  { fld := PathR.RX_CTLE_VGA, acc := .rw, rst := 0x18, legal := [(0, 72)] },
  { fld := PathR.RX_CTLE_POLE, acc := .rw, rst := 0x2 },
  { fld := PathR.RX_CTLE_PEAK, acc := .rw, rst := 0x10, legal := [(0, 40)] },
  { fld := PathR.RX_TERM_TERM_OK, acc := .ro, rst := 0x0 },
  { fld := PathR.RX_TERM_TERM_TRIM, acc := .ro, rst := 0x0 },
  { fld := PathR.RX_SD_SD_FILT, acc := .rw, rst := 0x3 },
  { fld := PathR.RX_SD_SD_HYST, acc := .rw, rst := 0x1 },
  { fld := PathR.RX_SD_SD_THR, acc := .rw, rst := 0x4 },
  { fld := PathR.RX_STAT_LOS_CNT, acc := .ro, rst := 0x0 },
  { fld := PathR.RX_STAT_CDR_LOCK, acc := .ro, rst := 0x0 },
  { fld := PathR.RX_STAT_SD, acc := .ro, rst := 0x0 },
  { fld := PathR.LINE_CFG_TX_POL, acc := .rw, rst := 0x0 },
  { fld := PathR.LINE_CFG_RX_POL, acc := .rw, rst := 0x0 },
  { fld := PathR.LINE_CFG_MOD, acc := .sc .rate, rst := 0x1, nvm := true },
  { fld := PathR.LINE_CFG_DIV, acc := .sc .rate, rst := 0x0, legal := [(0, 2)], nvm := true },
  { fld := PathR.LINE_CFG_PLL_SEL, acc := .sc .rate, rst := 0x0, nvm := true },
  { fld := PathR.ADC_MAP_PH3 0, acc := .ro, rst := 0x0, n := 8, stride := 4 },
  { fld := PathR.ADC_MAP_PH2 0, acc := .ro, rst := 0x0, n := 8, stride := 4 },
  { fld := PathR.ADC_MAP_PH1 0, acc := .ro, rst := 0x0, n := 8, stride := 4 },
  { fld := PathR.ADC_MAP_PH0 0, acc := .ro, rst := 0x0, n := 8, stride := 4 },
  { fld := PathR.SWING_STAT_ROT_PHASE, acc := .ro, rst := 0x0 },
  { fld := PathR.SWING_STAT_ROT_STATE, acc := .ro, rst := 0x0 },
  { fld := PathR.SWING_STAT_AVAIL, acc := .ro, rst := 0x2 },
  { fld := PathR.SWING_STAT_SW1, acc := .ro, rst := 0x21 },
  { fld := PathR.SWING_STAT_SW0, acc := .ro, rst := 0x20 },
  { fld := PathR.SWING_CTL_MATCH_LEN, acc := .rw, rst := 0x4 },
  { fld := PathR.SWING_CTL_SKEW_TOL, acc := .rw, rst := 0xF },
  { fld := PathR.SWING_CTL_GAIN_TOL, acc := .rw, rst := 0x4 },
  { fld := PathR.SWING_CTL_OFS_TOL, acc := .rw, rst := 0x4 },
  { fld := PathR.SWING_CTL_ROT_PERIOD, acc := .rw, rst := 0x0 }]

def rowsPath1 : List Row := [
  { fld := PathR.SWING_CTL_SWAP_ON_FORCE, acc := .rw, rst := 0x0 },
  { fld := PathR.SWING_CTL_ABANDON, acc := .w1s, rst := 0x0 },
  { fld := PathR.SWING_CTL_FORCE, acc := .w1s, rst := 0x0 },
  { fld := PathR.SWING_CTL_ROT_EN, acc := .rw, rst := 0x1 },
  { fld := PathR.SWING_CNT_ROT_ABORT, acc := .cnt, rst := 0x0 },
  { fld := PathR.SWING_CNT_ROT_DONE, acc := .cnt, rst := 0x0 },
  { fld := PathR.SWING_LAST_ABORT_CAUSE, acc := .ro, rst := 0x0 },
  { fld := PathR.SWING_LAST_SKEW_DIFF, acc := .ro, rst := 0x0 },
  { fld := PathR.SWING_LAST_GAIN_DIFF, acc := .ro, rst := 0x0 },
  { fld := PathR.SWING_LAST_OFS_DIFF, acc := .ro, rst := 0x0 },
  { fld := PathR.SLICE_RET0_RET, acc := .ro, rst := 0x0 },
  { fld := PathR.SLICE_RET1_RET, acc := .ro, rst := 0x0 },
  { fld := PathR.SLICE_SEL_SLICE, acc := .rw, rst := 0x0 },
  { fld := PathR.SLICE_TRIM_FAILS, acc := .ro, rst := 0x0 },
  { fld := PathR.SLICE_TRIM_SKEW, acc := .ro, rst := 0x0 },
  { fld := PathR.SLICE_TRIM_GAIN, acc := .ro, rst := 0x0 },
  { fld := PathR.SLICE_TRIM_OFFSET, acc := .ro, rst := 0x0 },
  { fld := PathR.FFE_TAP_HI 0, acc := .rw, rst := 0x0, n := 16, stride := 4 },
  { fld := PathR.FFE_TAP_LO 0, acc := .rw, rst := 0x0, n := 16, stride := 4 },
  { fld := PathR.DFE_TAP_DFE1, acc := .rw, rst := 0x0 },
  { fld := PathR.RX_LVL_L3, acc := .ro, rst := 0x0 },
  { fld := PathR.RX_LVL_L2, acc := .ro, rst := 0x0 },
  { fld := PathR.RX_LVL_L1, acc := .ro, rst := 0x0 },
  { fld := PathR.RX_LVL_L0, acc := .ro, rst := 0x0 },
  { fld := PathR.EQ_QUAL_EYE_MIN, acc := .ro, rst := 0x0 },
  { fld := PathR.EQ_QUAL_SNR, acc := .ro, rst := 0x0 },
  { fld := PathR.CDR_CFG_FREQ_HOLD, acc := .rw, rst := 0x0 },
  { fld := PathR.CDR_CFG_BW, acc := .rw, rst := 0x4 },
  { fld := PathR.CDR_STAT_FREQ_OFS, acc := .ro, rst := 0x0 },
  { fld := PathR.CDR_STAT_FREQ_LIM, acc := .ro, rst := 0x0 }]

def rowsPath2 : List Row := [
  { fld := PathR.CDR_STAT_LOCK, acc := .ro, rst := 0x0 },
  { fld := PathR.CDR_PI_UI_COUNT, acc := .ro, rst := 0x0 },
  { fld := PathR.CDR_PI_PHASE, acc := .ro, rst := 0x0 },
  { fld := PathR.ELASTIC_STAT_FILL, acc := .ro, rst := 0x0 },
  { fld := PathR.ADAPT_CTL_CTLE_PERIOD, acc := .rw, rst := 0x4, legal := [(0, 10)] },
  { fld := PathR.ADAPT_CTL_DFE_INT, acc := .rw, rst := 0x4 },
  { fld := PathR.ADAPT_CTL_FFE_INT, acc := .rw, rst := 0x4 },
  { fld := PathR.ADAPT_CTL_FRZ_LVL, acc := .rw, rst := 0x0 },
  { fld := PathR.ADAPT_CTL_FRZ_DFE, acc := .rw, rst := 0x0 },
  { fld := PathR.ADAPT_CTL_FRZ_FFE, acc := .rw, rst := 0x0 },
  { fld := PathR.ADAPT_CTL_FRZ_VGA, acc := .rw, rst := 0x0 },
  { fld := PathR.ADAPT_CTL_FRZ_CTLE, acc := .rw, rst := 0x0 },
  { fld := PathR.ADAPT_STAT_CAUSE, acc := .ro, rst := 0x0 },
  { fld := PathR.ADAPT_STAT_CDR_HELD, acc := .ro, rst := 0x0 },
  { fld := PathR.ADAPT_STAT_LVL_FRZ, acc := .ro, rst := 0x0 },
  { fld := PathR.ADAPT_STAT_DFE_FRZ, acc := .ro, rst := 0x0 },
  { fld := PathR.ADAPT_STAT_FFE_FRZ, acc := .ro, rst := 0x0 },
  { fld := PathR.ADAPT_STAT_VGA_FRZ, acc := .ro, rst := 0x0 },
  { fld := PathR.ADAPT_STAT_CTLE_FRZ, acc := .ro, rst := 0x0 },
  { fld := PathR.TX_FIR0_C_M3, acc := .sc .txfir, rst := 0x0 },
  { fld := PathR.TX_FIR0_C_M2, acc := .sc .txfir, rst := 0x0 },
  { fld := PathR.TX_FIR0_C_M1, acc := .sc .txfir, rst := 0xFA },
  { fld := PathR.TX_FIR0_C_0, acc := .sc .txfir, rst := 0x34 },
  { fld := PathR.TX_FIR1_C_P1, acc := .sc .txfir, rst := 0xFA },
  { fld := PathR.TX_FIR1_C_P2, acc := .sc .txfir, rst := 0x0 },
  { fld := PathR.TX_AMP_AMP, acc := .rw, rst := 0x3C, legal := [(0, 80)] },
  { fld := PathR.TX_CTL_FORCE_IDLE, acc := .rw, rst := 0x0 },
  { fld := PathR.TX_STAT_DAC_PEAK, acc := .ro, rst := 0x0 },
  { fld := PathR.TX_STAT_IDLE_CAUSE, acc := .ro, rst := 0x0 },
  { fld := PathR.TX_STAT_ACTIVE, acc := .ro, rst := 0x0 }]

def rowsPath3 : List Row := [
  { fld := PathR.CAP_CTL_STOP, acc := .w1s, rst := 0x0 },
  { fld := PathR.CAP_CTL_START, acc := .w1s, rst := 0x0 },
  { fld := PathR.CAP_CTL_LEN, acc := .rw, rst := 0x0, legal := [(0, 511)] },
  { fld := PathR.CAP_CTL_TRIG, acc := .rw, rst := 0x0, legal := [(0, 2)] },
  { fld := PathR.CAP_CTL_SRC, acc := .rw, rst := 0x0, legal := [(0, 2)] },
  { fld := PathR.CAP_STAT_OLDEST, acc := .ro, rst := 0x0 },
  { fld := PathR.CAP_STAT_WRITTEN, acc := .ro, rst := 0x0 },
  { fld := PathR.CAP_STAT_CONFLICT, acc := .ro, rst := 0x0 },
  { fld := PathR.CAP_STAT_STATE, acc := .ro, rst := 0x0 },
  { fld := PathR.TRN_PAIR_PORT_W, acc := .sc .trnport, rst := 0x0 },
  { fld := PathR.TRN_PAIR_AN_EN, acc := .rw, rst := 0x1 },
  { fld := PathR.TRN_PAIR_IEEE_EN, acc := .rw, rst := 0x1 },
  { fld := PathR.TRN_PAIR_AUTO_RESTART, acc := .rw, rst := 0x1 },
  { fld := PathR.TRN_CTL_PRECODE_REQ, acc := .rw, rst := 0x2, legal := [(0, 2)] },
  { fld := PathR.TRN_CTL_HOLD_READY, acc := .rw, rst := 0x0 },
  { fld := PathR.TRN_CTL_RESTART, acc := .w1s, rst := 0x0 },
  { fld := PathR.TRN_TIMER_RESTART_DLY, acc := .rw, rst := 0x3, legal := [(0, 14)] },
  { fld := PathR.TRN_TIMER_TMO_STATIC, acc := .rw, rst := 0x5, legal := [(0, 14)] },
  { fld := PathR.TRN_TIMER_TMO_WX, acc := .rw, rst := 0x5, legal := [(0, 14)] },
  { fld := PathR.TRN_TIMER_TMO_IEEE, acc := .rw, rst := 0xB, legal := [(0, 14)] },
  { fld := PathR.TRN_RXQ_SNR_MIN_NRZ, acc := .rw, rst := 0x78 },
  { fld := PathR.TRN_RXQ_SNR_MIN_PAM4, acc := .rw, rst := 0xB4 },
  { fld := PathR.AN_MASK_MASK, acc := .rw, rst := 0xFFFFFFFF },
  { fld := PathR.AN_STAT_PAGES_BA, acc := .ro, rst := 0x0 },
  { fld := PathR.AN_STAT_PAGES_AB, acc := .ro, rst := 0x0 },
  { fld := PathR.AN_STAT_HCD, acc := .ro, rst := 0x3F },
  { fld := PathR.AN_STAT_AN_STATE, acc := .ro, rst := 0x0 },
  { fld := PathR.AN_AUTOMASK_AUTOMASK, acc := .ro, rst := 0x0 },
  { fld := PathR.AN_LP_BASE_HI_BASE, acc := .ro, rst := 0x0 },
  { fld := PathR.AN_LP_BASE_LO_BASE, acc := .ro, rst := 0x0 }]

def rowsPath4 : List Row := [
  { fld := PathR.TRN_STAT_PRECODE_RX, acc := .ro, rst := 0x0 },
  { fld := PathR.TRN_STAT_PRECODE_TX, acc := .ro, rst := 0x0 },
  { fld := PathR.TRN_STAT_USER_BAD, acc := .ro, rst := 0x0 },
  { fld := PathR.TRN_STAT_METHOD, acc := .ro, rst := 0x0 },
  { fld := PathR.TRN_STAT_LAST_CAUSE, acc := .ro, rst := 0x0 },
  { fld := PathR.TRN_STAT_OTHER_TRAINED, acc := .ro, rst := 0x0 },
  { fld := PathR.TRN_STAT_FRAME_LOCK, acc := .ro, rst := 0x0 },
  { fld := PathR.TRN_STAT_READY_SENT, acc := .ro, rst := 0x0 },
  { fld := PathR.TRN_STAT_LP_READY, acc := .ro, rst := 0x0 },
  { fld := PathR.TRN_STAT_LOCAL_DONE, acc := .ro, rst := 0x0 },
  { fld := PathR.TRN_STAT_STATE, acc := .ro, rst := 0x0 },
  { fld := PathR.TRN_LP_CTRL_CTRL, acc := .ro, rst := 0x0 },
  { fld := PathR.TRN_LP_STS_STS, acc := .ro, rst := 0x0 },
  { fld := PathR.TRN_TX_CTRL_CTRL, acc := .ro, rst := 0x0 },
  { fld := PathR.TRN_TX_STS_STS, acc := .ro, rst := 0x0 },
  { fld := PathR.TRN_CNT0_FRAME_ERR, acc := .cnt, rst := 0x0 },
  { fld := PathR.TRN_CNT0_REQ_DONE, acc := .cnt, rst := 0x0 },
  { fld := PathR.TRN_CNT1_NO_ANSWER, acc := .cnt, rst := 0x0 },
  { fld := PathR.TRN_CNT1_RESTARTS, acc := .cnt, rst := 0x0 },
  { fld := PathR.TRN_CNT1_IGNORED, acc := .cnt, rst := 0x0 },
  { fld := PathR.TRN_LAST_USEC, acc := .ro, rst := 0x0 },
  { fld := PathR.PRESET_SEL_MAP5, acc := .rw, rst := 0x5, legal := [(0, 6)] },
  { fld := PathR.PRESET_SEL_MAP4, acc := .rw, rst := 0x4, legal := [(0, 6)] },
  { fld := PathR.PRESET_SEL_MAP3, acc := .rw, rst := 0x3, legal := [(0, 6)] },
  { fld := PathR.PRESET_SEL_MAP2, acc := .rw, rst := 0x2, legal := [(0, 6)] },
  { fld := PathR.PRESET_SEL_MAP1, acc := .rw, rst := 0x1, legal := [(0, 6)] },
  { fld := PathR.PRESET_SEL_STATIC_PRESET, acc := .rw, rst := 0x2, legal := [(1, 6)] },
  { fld := PathR.PRESET_SEL_INIT_PRESET, acc := .rw, rst := 0x2, legal := [(1, 6)] },
  { fld := PathR.USER_FIR0_C_M3, acc := .rw, rst := 0x0, legal := [(0, 8), (248, 255)] },
  { fld := PathR.USER_FIR0_C_M2, acc := .rw, rst := 0x0, legal := [(0, 12), (244, 255)] }]

def rowsPath5 : List Row := [
  { fld := PathR.USER_FIR0_C_M1, acc := .rw, rst := 0xFA, legal := [(0, 24), (232, 255)] },
  { fld := PathR.USER_FIR0_C_0, acc := .rw, rst := 0x34, legal := [(16, 64)] },
  { fld := PathR.USER_FIR1_C_P1, acc := .rw, rst := 0xFA, legal := [(0, 32), (224, 255)] },
  { fld := PathR.USER_FIR1_C_P2, acc := .rw, rst := 0x0, legal := [(0, 16), (240, 255)] },
  { fld := PathR.WX_LANE_CHECK_ID, acc := .rw, rst := 0x0 },
  { fld := PathR.WX_LANE_EXP_ID, acc := .rw, rst := 0x0 },
  { fld := PathR.WX_LANE_TX_ID, acc := .rw, rst := 0x0 },
  { fld := PathR.LAT_TARGET_TARGET, acc := .sc .latency, rst := 0x0, nvm := true },
  { fld := PathR.PIN_CTL_MARK_GRACE, acc := .rw, rst := 0x3 },
  { fld := PathR.PIN_CTL_WIN, acc := .rw, rst := 0x14, legal := [(12, 255)] },
  { fld := PathR.PIN_CTL_SLEW, acc := .rw, rst := 0x3 },
  { fld := PathR.PIN_CTL_FRZ, acc := .rw, rst := 0x0 },
  { fld := PathR.PIN_STAT_UNV_CAUSE, acc := .ro, rst := 0x0 },
  { fld := PathR.PIN_STAT_LOST_CAUSE, acc := .ro, rst := 0x0 },
  { fld := PathR.PIN_STAT_VERIFIED, acc := .ro, rst := 0x0 },
  { fld := PathR.PIN_STAT_MARGIN, acc := .ro, rst := 0x0 },
  { fld := PathR.PIN_STAT_AT_LIMIT, acc := .ro, rst := 0x0 },
  { fld := PathR.PIN_STAT_PENDING, acc := .ro, rst := 0x0 },
  { fld := PathR.PIN_STAT_STATE, acc := .ro, rst := 0x0 },
  { fld := PathR.PIN_MEAS_MEAS, acc := .ro, rst := 0x0 },
  { fld := PathR.PIN_ERR_ERR, acc := .ro, rst := 0x0 },
  { fld := PathR.PIN_ADJ_STEP_FS, acc := .ro, rst := 0x0 },
  { fld := PathR.PIN_ADJ_ADJ, acc := .ro, rst := 0x0 },
  { fld := PathR.PIN_PLACE_PHASE, acc := .ro, rst := 0x0 },
  { fld := PathR.PIN_PLACE_READ_OFS, acc := .ro, rst := 0x0 },
  { fld := PathR.PIN_MIN_MIN, acc := .ro, rst := 0x0 },
  { fld := PathR.PIN_MAX_MAX, acc := .ro, rst := 0x0 },
  { fld := PathR.PIN_FIXED_FIXED, acc := .ro, rst := 0x0 },
  { fld := PathR.PIN_HELD_HELD, acc := .ro, rst := 0x0 },
  { fld := PathR.PIN_CNT_PLACES, acc := .cnt, rst := 0x0 }]

def rowsPath6 : List Row := [
  { fld := PathR.PIN_CNT_LOSTS, acc := .cnt, rst := 0x0 },
  { fld := PathR.PIN_ERRMAX_ERRMAX, acc := .cnt, rst := 0x0 },
  { fld := PathR.PIN_MARK_ZERO_AGE, acc := .ro, rst := 0xFFFF },
  { fld := PathR.PIN_MARK_MISS_RUN, acc := .ro, rst := 0x0 },
  { fld := PathR.PIN_MARK_ZERO_OK, acc := .ro, rst := 0x0 },
  { fld := PathR.PIN_TWIN_VALID, acc := .ro, rst := 0x0 },
  { fld := PathR.PIN_TWIN_DIFF, acc := .ro, rst := 0x0 },
  { fld := PathR.PROF_CFG_ERR_MARK, acc := .rw, rst := 0x1 },
  { fld := PathR.PROF_CFG_PHY, acc := .sc .profile, rst := 0x0, legal := [(0, 3)], nvm := true },
  { fld := PathR.PROF_CFG_FEC, acc := .sc .profile, rst := 0x0, legal := [(0, 2)], nvm := true },
  { fld := PathR.PROF_CFG_PROFILE, acc := .sc .profile, rst := 0x0, nvm := true },
  { fld := PathR.PROF_STAT_SENDING, acc := .ro, rst := 0x0 },
  { fld := PathR.PROF_STAT_FRM, acc := .ro, rst := 0x0 },
  { fld := PathR.PROF_STAT_PROFILE, acc := .ro, rst := 0x0 },
  { fld := PathR.CONV_CFG_E_M1, acc := .rw, rst := 0x0 },
  { fld := PathR.CONV_CFG_SH_CHECK, acc := .rw, rst := 0x0, legal := [(0, 2)] },
  { fld := PathR.CONV_STAT_EMB_LOCK, acc := .ro, rst := 0x0 },
  { fld := PathR.CONV_STAT_MB_LOCK, acc := .ro, rst := 0x0 },
  { fld := PathR.CONV_STAT_SH_LOCK, acc := .ro, rst := 0x0 },
  { fld := PathR.CONV_EMB_VALID, acc := .ro, rst := 0x0 },
  { fld := PathR.CONV_EMB_SYM_OFS, acc := .ro, rst := 0x0 },
  { fld := PathR.WX_STAT_LANE_ID_RX, acc := .ro, rst := 0x0 },
  { fld := PathR.WX_STAT_MB_PHASE, acc := .ro, rst := 0x0 },
  { fld := PathR.WX_STAT_ID_OK, acc := .ro, rst := 0x0 },
  { fld := PathR.WX_STAT_PERIOD, acc := .ro, rst := 0x0 },
  { fld := PathR.ETH_STAT_BLOCK_LOCK, acc := .ro, rst := 0x0 },
  { fld := PathR.ETH_STAT_CW_LOCK, acc := .ro, rst := 0x0 },
  { fld := PathR.ETH_STAT_AM_LOCK, acc := .ro, rst := 0x0 },
  { fld := PathR.CNT_CTL_SNAP_SEQ, acc := .ro, rst := 0x0 },
  { fld := PathR.CNT_CTL_CLR_ON_SNAP, acc := .rw, rst := 0x1 }]

def rowsPath7 : List Row := [
  { fld := PathR.CNT_CTL_SNAP, acc := .w1s, rst := 0x0 },
  { fld := PathR.FEC_CW_HI_CW, acc := .ro, rst := 0x0 },
  { fld := PathR.FEC_CW_LO_CW, acc := .ro, rst := 0x0 },
  { fld := PathR.FEC_CORR_CW_CORR_CW, acc := .ro, rst := 0x0 },
  { fld := PathR.FEC_UNCORR_CW_UNCORR_CW, acc := .ro, rst := 0x0 },
  { fld := PathR.FEC_CORR_SYM_CORR_SYM, acc := .ro, rst := 0x0 },
  { fld := PathR.CODE_ERR_CRC_FCS, acc := .ro, rst := 0x0 },
  { fld := PathR.CODE_ERR_BLOCK, acc := .ro, rst := 0x0 },
  { fld := PathR.LINK_ERR_ECC_ERR, acc := .ro, rst := 0x0 },
  { fld := PathR.LINK_ERR_FRM_LOSS, acc := .ro, rst := 0x0 },
  { fld := PathR.FEC_HIST 0, acc := .ro, rst := 0x0, n := 16, stride := 4 },
  { fld := PathR.FEC_DEG_CFG_UNC_DEG, acc := .rw, rst := 0x1 },
  { fld := PathR.FEC_DEG_CFG_WIN, acc := .rw, rst := 0x6, legal := [(0, 10)] },
  { fld := PathR.FEC_DEG_CFG_THR, acc := .rw, rst := 0xDED },
  { fld := PathR.FEC_DEG_STAT_DEGRADED, acc := .ro, rst := 0x0 },
  { fld := PathR.FEC_DEG_STAT_LAST, acc := .ro, rst := 0x0 },
  { fld := PathR.PRBS_GEN_INV, acc := .rw, rst := 0x0 },
  { fld := PathR.PRBS_CHK_INV, acc := .rw, rst := 0x0 },
  { fld := PathR.PRBS_GEN_PAT, acc := .rw, rst := 0x0, legal := [(0, 5)] },
  { fld := PathR.PRBS_CHK_PAT, acc := .rw, rst := 0x0, legal := [(0, 5)] },
  { fld := PathR.PRBS_GEN_EN, acc := .rw, rst := 0x0 },
  { fld := PathR.PRBS_CHK_EN, acc := .rw, rst := 0x0 },
  { fld := PathR.PRBS_STAT_LOCK, acc := .ro, rst := 0x0 },
  { fld := PathR.PRBS_BITS_HI_BITS, acc := .ro, rst := 0x0 },
  { fld := PathR.PRBS_BITS_LO_BITS, acc := .ro, rst := 0x0 },
  { fld := PathR.PRBS_ERR_ERR, acc := .ro, rst := 0x0 },
  { fld := PathR.ERR_INJ_INTERVAL, acc := .rw, rst := 0x0 },
  { fld := PathR.ERR_INJ_POS, acc := .rw, rst := 0x0 },
  { fld := PathR.ERR_INJ_MODE, acc := .rw, rst := 0x0 },
  { fld := PathR.ERR_INJ_SIDE, acc := .rw, rst := 0x0 }]

def rowsPath8 : List Row := [
  { fld := PathR.ERR_INJ_FIRE, acc := .w1s, rst := 0x0 },
  { fld := PathR.ERR_INJ_PAT_NSYM, acc := .rw, rst := 0x10, legal := [(1, 16)] },
  { fld := PathR.ERR_INJ_PAT_XOR, acc := .rw, rst := 0x1, legal := [(1, 1023)] },
  { fld := PathR.ERR_INJ_CNT_DONE, acc := .cnt, rst := 0x0 },
  { fld := PathR.PTP_CFG_IPV4_EN, acc := .rw, rst := 0x1 },
  { fld := PathR.PTP_CFG_L2_EN, acc := .rw, rst := 0x1 },
  { fld := PathR.PTP_CFG_EN, acc := .rw, rst := 0x1 },
  { fld := PathR.PTP_ASYM_ASYM, acc := .rw, rst := 0x0, nvm := true },
  { fld := PathR.PTP_CORR_CORR, acc := .ro, rst := 0x0 },
  { fld := PathR.PTP_STAT_ACTIVE, acc := .ro, rst := 0x0 },
  { fld := PathR.PTP_CNT0_CORR, acc := .ro, rst := 0x0 },
  { fld := PathR.PTP_CNT1_UNV, acc := .ro, rst := 0x0 },
  { fld := PathR.PTP_CNT1_IPV6, acc := .ro, rst := 0x0 },
  { fld := PathR.PTP_CNT2_PDELAY, acc := .ro, rst := 0x0 },
  { fld := PathR.PTP_CNT2_SKIP, acc := .ro, rst := 0x0 },
  { fld := PathR.FP_BIND_INS_EN, acc := .sc .fpbind, rst := 0x0, nvm := true },
  { fld := PathR.FP_BIND_INS_PORT, acc := .sc .fpbind, rst := 0x0, nvm := true },
  { fld := PathR.FP_BIND_EXT_EN, acc := .sc .fpbind, rst := 0x0, nvm := true },
  { fld := PathR.FP_BIND_EXT_PORT, acc := .sc .fpbind, rst := 0x0, nvm := true },
  { fld := PathR.FP_STAT_MAX_LEN, acc := .ro, rst := 0x0 },
  { fld := PathR.FP_STAT_INSERTING, acc := .ro, rst := 0x0 },
  { fld := PathR.FP_STAT_INS_ACTIVE, acc := .ro, rst := 0x0 },
  { fld := PathR.FP_STAT_EXT_ACTIVE, acc := .ro, rst := 0x0 },
  { fld := PathR.FP_CNT0_EXTRACTED, acc := .ro, rst := 0x0 },
  { fld := PathR.FP_CNT0_INSERTED, acc := .ro, rst := 0x0 },
  { fld := PathR.FP_CNT1_COPIED, acc := .ro, rst := 0x0 },
  { fld := PathR.FP_CNT1_UNCORR_HDR, acc := .ro, rst := 0x0 },
  { fld := PathR.FP_RUN_RUN_MAX, acc := .ro, rst := 0x0 },
  { fld := PathR.SVC_CTL_OOS_PWRDN, acc := .rw, rst := 0x1 },
  { fld := PathR.SVC_CTL_SD_WAKE, acc := .rw, rst := 0x1 }]

def rowsPath9 : List Row := [
  { fld := PathR.SVC_STAT_TO_PINNED_US, acc := .ro, rst := 0x0 },
  { fld := PathR.SVC_STAT_POWERED, acc := .ro, rst := 0x0 },
  { fld := PathR.SVC_STAT_STATE, acc := .ro, rst := 0x0 },
  { fld := PathR.REH_PRES_RETIRED, acc := .ro, rst := 0x0 },
  { fld := PathR.REH_PRES_BAD_SLICES, acc := .ro, rst := 0x0 },
  { fld := PathR.REH_PRES_TERM, acc := .ro, rst := 0x0 },
  { fld := PathR.REH_PRES_ADC, acc := .ro, rst := 0x0 },
  { fld := PathR.REH_PRES_PROBE, acc := .ro, rst := 0x0 },
  { fld := PathR.REH_PRES_LOOP, acc := .ro, rst := 0x0 },
  { fld := PathR.REH_PLOOP_ERR, acc := .ro, rst := 0x0 },
  { fld := PathR.REH_PPROBE_DIFF, acc := .ro, rst := 0x0 }]

/-- The fields of PATH. -/
def rowsPath : List Row := rowsPath0 ++ rowsPath1 ++ rowsPath2 ++ rowsPath3 ++ rowsPath4 ++ rowsPath5 ++ rowsPath6 ++ rowsPath7 ++ rowsPath8 ++ rowsPath9

/-- The rows of a page: the header's and the block's (R28). -/
def pageRows (p : Page) : List Row :=
  match p with
  | .house => rowsHdr ++ rowsHouse
  | .supply => rowsHdr ++ rowsSupply
  | .pstate => rowsHdr ++ rowsPstate
  | .nvm => rowsHdr ++ rowsNvm
  | .cal => rowsHdr ++ rowsCal
  | .reh => rowsHdr ++ rowsReh
  | .therm => rowsHdr ++ rowsTherm
  | .time => rowsHdr ++ rowsTime
  | .cue => rowsHdr ++ rowsCue
  | .twin => rowsHdr ++ rowsTwin
  | .frame => rowsHdr ++ rowsFrame
  | .twt => rowsHdr ++ rowsTwt
  | .twc => rowsHdr ++ rowsTwc
  | .spi => rowsHdr ++ rowsSpi
  | .sec => rowsHdr ++ rowsSec
  | .group _ => rowsHdr ++ rowsGroup
  | .stage _ => rowsHdr ++ rowsStage
  | .path _ => rowsHdr ++ rowsPath

/-- Whether a row (with its repeats) has a field in the register at `off`. -/
def rowCovers (off : Nat) (r : Row) : Bool :=
  r.fld.off ≤ off && (off - r.fld.off) % r.stride == 0 && decide ((off - r.fld.off) / r.stride < r.n)

/-- The registers of a PATH_BA page that are RO mirrors of those of PATH_AB: TRN_PAIR, AN_MASK, AN_STAT and AN_AUTOMASK
(R109). -/
def mirrorReg (p : Page) (off : Nat) : Bool :=
  match p with
  | .path q => decide (64 ≤ q.val) && (off == 0x200 || off == 0x210 || off == 0x214 || off == 0x218)
  | _ => false

/-- The rows with a field in the register at `off` of page `p`. -/
def rowsAt (p : Page) (off : Nat) : List Row :=
  let l := (pageRows p).filter (rowCovers off)
  if mirrorReg p off then l.map (fun r => { r with acc := .ro }) else l

/-- The page number of R23. -/
def pageNum (p : Page) : Nat :=
  match p with
  | .house => 0 | .supply => 1 | .pstate => 2 | .nvm => 3 | .cal => 4 | .reh => 5 | .therm => 6 | .time => 7
  | .cue => 8 | .twin => 9 | .frame => 10 | .twt => 11 | .twc => 12 | .spi => 13 | .sec => 14
  | .group g => 0x010 + g.val
  | .stage e => 0x020 + e.val
  | .path p => 0x100 + p.val

/-- The page with a given number (R23), if there is one. -/
def pageOf (n : Nat) : Option Page :=
  if n = 0 then some .house else if n = 1 then some .supply else if n = 2 then some .pstate
  else if n = 3 then some .nvm else if n = 4 then some .cal else if n = 5 then some .reh
  else if n = 6 then some .therm else if n = 7 then some .time else if n = 8 then some .cue
  else if n = 9 then some .twin else if n = 10 then some .frame else if n = 11 then some .twt
  else if n = 12 then some .twc else if n = 13 then some .spi else if n = 14 then some .sec
  else if h : 0x010 ≤ n ∧ n < 0x018 then some (.group ⟨n - 0x010, by omega⟩)
  else if h : 0x020 ≤ n ∧ n < 0x029 then some (.stage ⟨n - 0x020, by omega⟩)
  else if h : 0x100 ≤ n ∧ n < 0x180 then some (.path ⟨n - 0x100, by omega⟩)
  else none

/-- PAGE_ID.TYPE of a page (R29). -/
def pageType (p : Page) : Nat :=
  match p with
  | .group _ => 0x10
  | .stage _ => 0x20
  | .path p => if p.val < 64 then 0x40 else 0x41
  | q => pageNum q + 1

/-- PAGE_ID.INST of a page: the group, engine or lane pair number. -/
def pageInst (p : Page) : Nat :=
  match p with
  | .group g => g.val
  | .stage e => e.val
  | .path p => p.val % 64
  | _ => 0

/-- PAGE_CAP of a page (R30). -/
def pageCap (p : Page) : Nat :=
  match p with
  | .path _ => 0x000F003F
  | .group _ => 0x0000003F
  | .stage _ => 0x00000007
  | _ => 0x00000003

/-- The group of a path (R3). -/
def pathGrp (p : Path) : Grp := ⟨p.val % 64 / 8, by omega⟩

/-- The reset value of the register at `off` of page `p`: its rows' reset values, and the values that depend on the
page: PAGE_ID, PAGE_CAP, OWNER (R37), PAGE_CTL.OOS (R471), the WX lane identities, the identity slice map and
FFE_TAP4. -/
def regResetOf (p : Page) (off : Nat) : Nat :=
  let base := (rowsAt p off).foldl (fun acc r => acc ||| (r.rst <<< r.fld.lo)) 0
  if off = 0x000 then (pageType p <<< 24) ||| (pageInst p <<< 16) ||| 0x0100
  else if off = 0x004 then pageCap p
  else if off = 0x034 then
    match p with
    | .group g => g.val
    | .path q => (pathGrp q).val
    | _ => 0xF
  else match p with
    | .path q =>
      if off = 0x008 then 1
      else if off = 0x250 then (q.val % 64) * 0x101
      else if off = 0x110 then 0x100
      else if 0x080 ≤ off ∧ off < 0x0A0 ∧ off % 4 = 0 then 0x03020100 + (off - 0x080) * 0x01010101
      else base
    | .group g => if off = 0x280 then 0x100 + g.val else base
    | _ => base

/-- The reset value of the register at byte address `a`; 0 outside the pages. -/
def regReset (a : Nat) : Word :=
  match pageOf (a / 4096) with
  | some p => BitVec.ofNat 32 (regResetOf p (a % 4096))
  | none => 0

end Sys2Proof.Machine
end

