-- ==== Sys2Proof/Machine/State.lean ====
section
/-!
DEFINITION. Machine/State.lean: the state of the module, as plain data. Every register of the manual stands in `regs` under its
byte address (Machine/RegMap.lean gives its fields and what it reads as after reset); the memory windows stand in
`mem`; the structures below hold what the manual gives the machine beyond its registers.
-/
namespace Sys2Proof.Machine

/-- Why a step stops with a fault: never. The manual gives every command its effect, and one that its state does not allow has
none. Safe. -/
inductive Fault where
  deriving DecidableEq, Repr

/-- Why a step is refused. -/
inductive Refusal where
  /-- The command has no meaning yet in this model. Raised by an arm of `exec` only. Safe: nothing is claimed. -/
  | notModelled (mnemonic : String)
  deriving DecidableEq, Repr

/-- A management operation in the access queue (R14 to R16), with its cost. A 32-bit operation has its word in the low bits of
`data` and its byte mask in the low four bits of `mask`, byte 0 the most significant; a quad fills both. LAUNCH has its CUE
in `addr` and its SCENE in `data`. -/
structure Access where
  src : Src
  kind : AccKind
  addr : BitVec 32
  data : BitVec 128 := 0
  mask : BitVec 16 := 0xFFFF
  cost : Nat
  /-- The frame port of a Umatan command. -/
  port : Port := 0
  /-- Elapsed time of its admission (R236). -/
  at_ : Nat := 0
  deriving DecidableEq, Repr

/-- A 66-bit block: a control block, whose first byte is its type, or a data block (R231, R234). -/
structure Block66 where
  control : Bool
  bytes : List Byte
  deriving DecidableEq, Repr

/-- A read in the SPI return queue (R424): its address, whether it is a quad, and, once ready, its data (none: ERROR). -/
structure SpiRet where
  addr : BitVec 32
  quad : Bool
  ready : Option (Option (BitVec 128)) := none
  deriving DecidableEq, Repr

/-- The SPI target (R420 to R426). -/
structure SpiSt where
  /-- Reads accepted and not wholly returned, oldest first. -/
  ret : List SpiRet := []
  /-- The write whose frame is open and whose data is not complete: its cost is a reservation (R420). -/
  open_ : Option Access := none
  /-- What SDO carried from byte 5 on in the last frame: the status byte and a return. -/
  out : List Byte := []
  deriving DecidableEq, Repr

/-- What a two-wire transfer addressed to the module is (R428). -/
inductive TwtXfer where
  | none | write | read
  deriving DecidableEq, Repr

/-- The two-wire target (R427 to R437). -/
structure TwtSt where
  xfer : TwtXfer := .none
  /-- WINDOW in force at the START of the open transfer (R48). -/
  window : BitVec 16 := 0
  /-- The page buffer: bytes by position in the block of pointer space; that block's base; a data byte has come; the position of the
  next byte, and that of the last byte placed (R431). -/
  buf : List (Nat × Byte) := []
  base : Nat := 0
  seen : Bool := false
  next : Nat := 0
  last : Nat := 0
  /-- Elapsed time at which the buffer's first data byte was admitted (R420). -/
  at_ : Nat := 0
  /-- Whole registers delivered by the open read, and whether the target drives no further bit in it (R430). -/
  regs : Nat := 0
  mute : Bool := false
  /-- The target ignores the bus until a STOP or an idle bus (R435). -/
  deaf : Bool := false
  deriving DecidableEq, Repr

/-- The two-wire controller (R438 to R443): the bytes copied at GO, and the retries made. -/
structure TwcSt where
  wbuf : List Byte := []
  /-- RLEN of the transaction. -/
  rlen : Nat := 0
  retries : Nat := 0
  /-- ABORT has been asked for: the transaction ends after the bit in progress (R438). -/
  abort : Bool := false
  /-- EN has gone from 0 to 1 and the check of the bus has not ended (R442). -/
  check : Bool := false
  /-- BUS_STUCK holds: SDA has stayed low after a recovery (R442). -/
  stuck : Bool := false
  deriving DecidableEq, Repr

/-- Trims and failure count of one ADC slice (R96, SLICE_TRIM). -/
structure SliceSt where
  skew : Byte := 0
  gain : Byte := 0
  ofs : Byte := 0
  fails : Nat := 0
  deriving DecidableEq, Repr

/-- What a segment keeps beyond its training registers. The segment of page PATH_ABn is segment A (R108). -/
structure SegSt where
  /-- IEEE_EN and AN_EN of the lane pair as they last took effect (TRN_PAIR), kept on segment A: both segments use the same method
  (R110). -/
  ieeeEn : Bool := true
  anEn : Bool := true
  /-- Consecutive valid frames, while frame lock is not held, and consecutive bad ones while it is (R133). -/
  okRun : Nat := 0
  badRun : Nat := 0
  /-- REQ_SEQ of the last request answered (R134). -/
  lastAns : Option Nat := none
  /-- REQ_SEQ of the last valid frame (R129). -/
  lastSeq : Option Nat := none
  /-- A request decided and not yet answered in a frame: RESP and REQ_SEQ (R123, R134). -/
  req : Option (Nat × Nat) := none
  /-- RESP and ACK_SEQ being sent (R134). -/
  resp : Nat := 0
  ackSeq : Nat := 0
  /-- The last decoded IEEE request was not hold, so a repeat of it is no new request. -/
  ieeeBusy : Bool := false
  /-- The module's own request outstanding: PRESET, TAP and REQ bits of its control field; and its REQ_SEQ (R126). -/
  modReq : Option Nat := none
  modSeq : Nat := 0
  /-- The image's choice of precoding request for PRECODE_REQ = 2 (R510): a free value of this training. -/
  preWant : Bool := false
  /-- The partner asks for precoded data, and precodes its own (R125). -/
  preAsked : Bool := false
  preOn : Bool := false
  /-- A frame with another LANE_ID than EXP_ID was seen in this training (R136). -/
  idBad : Bool := false
  /-- Elapsed time at entry to TRAIN_INIT or ACQUIRE (TRN_LAST). -/
  entered : Nat := 0
  /-- The training pattern's generator at the start of the frame being sent, and the elapsed time of that start (R132). -/
  gen : BitVec 13 := 0
  frameAt : Nat := 0
  /-- COUNTDOWN of the closing frame being sent; 16: the closing frames begin with the next frame; 0: not ending (R135). -/
  closing : Nat := 0
  /-- The page being sent on this segment's transmitter (R118). -/
  pageOut : Option (BitVec 48) := none
  /-- The last base page decoded since AN_RELAY began, and whether the last page acknowledged (R119). -/
  basePage : Option (BitVec 48) := none
  pageAck : Bool := false
  /-- The resolved technology whose set-up is under way, kept on segment A of the lane pair (R119). -/
  setup : Option AnResult := none
  /-- The technology that auto-negotiation resolved, by modulation and symbol rate in kBd, kept likewise (R122). -/
  tech : Option (Bool × Nat) := none
  /-- A preset that waits for a scene's lock on TXFIR (R124). -/
  presetWait : Option Nat := none
  deriving DecidableEq, Repr

/-- What a path keeps beyond its registers. -/
structure PathSt where
  /-- The elastic stage is placed (R99), and has been since the record of placements was cleared (R328, R329). -/
  placed : Bool := false
  record : Bool := false
  /-- The place, SW0 or SW1, of the swing slice in use or last used by a rotation (R92, R97). -/
  rotSlot : Nat := 1
  /-- Slices under release (R92, step 4). -/
  rel : List Nat := []
  /-- A capture is to end at the next beat boundary (R106), and the elapsed time at which it began to write. -/
  capStop : Bool := false
  capAt : Nat := 0
  /-- CDR_PI as clock recovery last held it (R98, R101). -/
  piHeld : Word := 0
  /-- Rotations completed and abandoned since the path's last reset (R294). -/
  rotsDone : Nat := 0
  rotsCut : Nat := 0
  /-- A sweep is in progress, its next phase, and whether another is due when it ends (R97). -/
  sweep : Bool := false
  sweepNext : Nat := 0
  sweepDue : Bool := false
  /-- Elapsed time at which the rotation guard ends (R92, R505). -/
  guardEnd : Nat := 0
  /-- A disruptive window runs (R389), and the elapsed time at which its aftermath ends. -/
  disrupt : Bool := false
  disruptEnd : Nat := 0
  /-- The codeword being received holds symbols of a disruptive window (R389). -/
  cwHit : Bool := false
  /-- Cause for which the probe is paused: 0 running, else as PIN_STAT.UNV_CAUSE (R155, R156, R158). -/
  pause : Nat := 5
  /-- Consecutive missing or moved marks, in full, and whether one of them was moved (R155, R156). -/
  miss : Nat := 0
  moved : Bool := false
  /-- Elapsed time of the last zeroing mark (PIN_MARK.ZERO_AGE). -/
  zeroAt : Option Nat := none
  /-- Runs of good and of bad windows, and windows ended since the placement (R164). -/
  good : Nat := 0
  bad : Nat := 0
  wins : Nat := 0
  /-- A window has ended since full reset, so PIN_FIXED is measured (R153). -/
  fixedOk : Bool := false
  /-- Samples of the present window and their sum in 1/16 ps (R152). -/
  samples : Nat := 0
  sum : Nat := 0
  /-- ADJ moved in a slew since the last sample (R152). -/
  adjMoved : Bool := false
  /-- Steps of a slew not yet taken, signed (R165). -/
  slewLeft : Int := 0
  /-- Frames and codewords: corrected symbols, uncorrectable seen and codewords in the present window (R193). -/
  degSym : Nat := 0
  degUnc : Bool := false
  degN : Nat := 0
  /-- Consecutive invalid alignment markers, while framing-locked (R184). -/
  badMarks : Nat := 0
  /-- Number of the next codeword in its alignment period, and the multiblock phase of its first WX block by the tag sequence (R183,
  R184). -/
  cwPos : Nat := 0
  tagPhase : Nat := 0
  /-- The symbols from a zeroing mark to the next extended multiblock, and the reference cycle of that mark, while the lock it was
  found under lasts (R180). -/
  embOfs : Option (Nat × Nat) := none
  /-- A one-shot error injection is due (R197). -/
  injDue : Bool := false
  /-- Receive-side injected symbols that the next codeword or block will carry (R196, R197). -/
  injSyms : Nat := 0
  /-- The last injection made: MODE, SIDE, and POS, or NSYM and XOR (R196). -/
  injLast : Option (Nat × Bool × Nat × Nat) := none
  /-- The last alignment marker the path sent (fields A and B), and whether the last codeword left marked (R185, R189). -/
  sentMarker : Option (BitVec 64 × BitVec 64) := none
  sentBad : Bool := false
  /-- The last frame the path changed or inserted, as it left, from destination address to frame check sequence (R222, R234), and the
blocks that carried an inserted frame, or the idle blocks that took the place of an extracted one; none: a block of an uncorrectable
codeword, left as it was (R231, R234). -/
  sentFrame : List Byte := []
  sentBlocks : List (Option Block66) := []
  seg : SegSt := {}
  deriving DecidableEq, Repr

/-- A calibration run of a group, and the one that waits (R383 to R387). -/
structure CalSt where
  /-- Blocks of the run; blocks still to run, the present one among them; ramped; CAL_CHECK as it was at the start of the present
  block. -/
  blocks : Nat := 0
  mask : Nat := 0
  ramp : Bool := false
  check : Bool := false
  /-- Trigger of the run, as LAST_TRIG codes it, and elapsed time of its start. -/
  trig : Nat := 0
  startAt : Nat := 0
  /-- Trims changed by the run. -/
  changed : Nat := 0
  /-- The pending run: trigger, ramped and block mask (R386, R508). -/
  pend : Option (Nat × Bool × Nat) := none
  /-- No run has been made since a full reset that restored no record, so no change limit applies (R388). -/
  first : Bool := false
  /-- Disruptive ADC runs asked for while the group was down, by path index (R390). -/
  disrupt : List Nat := []
  /-- The owning engine was stopped by a house reset, so its return to RUNNING triggers a recovery run (R387, R508). -/
  recover : Bool := false
  deriving DecidableEq, Repr

/-- What a group keeps beyond its registers. -/
structure GroupSt where
  /-- Who holds the group's capture buffer: a path 0 to 127, or 128 + an engine (R106). -/
  cap : Option Nat := none
  /-- PLL A or B relocks after an enable or a change of N or FRAC (R86). -/
  relockA : Bool := false
  relockB : Bool := false
  /-- Elapsed time at which the last exit began (R369), and at which the last transition began (PWR_TIME). -/
  exitAt : Nat := 0
  transAt : Nat := 0
  /-- The last exit began in OFF (R358). -/
  fromOff : Bool := false
  /-- The target of the transition in progress, and whether a host request began it (R362). -/
  target : Nat := 0
  byHost : Bool := false
  /-- The pending request, and whether it is a host's (R363). -/
  pend : Option (Nat × Nat × Bool) := none
  /-- Elapsed time at which the last migration began (MIG_STAT.LAST_US). -/
  migAt : Nat := 0
  cal : CalSt := {}
  deriving DecidableEq, Repr

/-- What calibration keeps for the device: the twin link's trims (R379, R393: 32 bytes for each of its 8 lanes, of which bytes
0 to 2 are used), the centre sensor's reading at their last measurement, the elapsed time since which |DIFF| has been
at or below 0.20% (R376), and the sensors' runs at OT_THR (R382). -/
structure CalDevSt where
  twinTerm : List (Nat × Byte) := []
  twinOfs : List (Nat × BitVec 16) := []
  centre : BitVec 12 := 0
  bgOkAt : Option Nat := none
  hot : List (Nat × Nat) := []
  deriving DecidableEq, Repr

/-- The trims in use of a path (R377), but for its ADC slices. -/
structure TrimSt where
  rxTerm : Byte := 16
  txTerm : Byte := 16
  ctle : BitVec 16 := 0
  rxPi : Word := 0
  txPi : Word := 0
  txDac : Byte := 0
  /-- Group sensor at the last measurement, in signed degrees. -/
  temp : Byte := 0
  /-- The factory delays d_in and d_out at 25 °C, in 0.1 ps (R152, R391). -/
  dIn : BitVec 16 := 0
  dOut : BitVec 16 := 0
  deriving DecidableEq, Repr

/-- A long command in progress (R296): the command, the epoch at its taking, elapsed time of its start and the swing slice
it holds. -/
structure LongSt where
  cmd : BitVec 128
  epoch : Nat
  startAt : Nat
  stamp : BitVec 128 := 0
  /-- The rotations completed and abandoned on its paths before it began (R294). -/
  rots : Nat × Nat := (0, 0)
  /-- The calibration run it began has ended: completed (true) or abandoned (false). -/
  ended : Option Bool := none
  deriving DecidableEq, Repr

/-- A published checkpoint (R302): its group, its state format and its size. -/
structure CkptSt where
  grp : Nat
  fmt : Nat
  size : Nat
  at_ : Nat
  deriving DecidableEq, Repr

/-- What an engine keeps beyond its registers. -/
structure EngSt where
  cmdq : List (BitVec 128) := []
  rspq : List (BitVec 128) := []
  /-- Command answers held for want of room (R293). -/
  held : List (BitVec 128) := []
  long : Option LongSt := none
  /-- The group left in a migration, and its EPOCH before it: answers about it are stale (R301). -/
  left : Option (Nat × Nat) := none
  /-- The image was valid when OOS was set (R287), and is valid now. -/
  imgOk : Bool := false
  /-- Elapsed time of the last heartbeat. -/
  hbAt : Nat := 0
  ckpt : Option CkptSt := none
  /-- An image load is in the flash queue or running. -/
  loading : Bool := false
  deriving DecidableEq, Repr

/-- A flash operation or fuse burn of the NVM controller's queue (R351). -/
inductive FlashOp where
  /-- The host's NVM_CMD: OP, REGION, ADDR and LEN (R350). -/
  | host (op region addr len : Nat)
  /-- The module's own calibration record store (R392). -/
  | calStore
  /-- A soft repair map store, with its payload (R412). -/
  | repairStore (payload : List Byte)
  /-- A session of the repair fuses (R413). -/
  | fuseSession
  /-- Erase of a fall sector (R349). -/
  | fallErase (sector : Nat)
  /-- An append to the rehearsal log: KIND, overall result, duration and cause (R414, R415); and the erase of the sector it
  needs. -/
  | logAppend (kind overall dur cause : Nat)
  | logErase (sector : Nat)
  /-- An engine load (R286). -/
  | load (e : Eng) (slot : Nat)
  /-- A key operation that burns fuses (R476). -/
  | keyOp
  deriving DecidableEq, Repr

/-- The flash die and its controller (chapter 13). -/
structure FlashSt where
  /-- The flash, byte by byte; an unlisted byte is erased. -/
  bytes : List (Nat × Byte) := []
  /-- Sectors whose erase or program was cut by a full reset (R353). -/
  cut : List Nat := []
  /-- Operations waiting, oldest first, and the one that runs, with the bytes it programs. -/
  queue : List FlashOp := []
  run : Option (FlashOp × List Byte) := none
  /-- The head of the queue waits for a capacitance test (R340). -/
  wait : Bool := false
  /-- Active slot of each two-slot region: 1 A, 2 B (R348). -/
  active : List (Nat × Nat) := []
  /-- No trim has changed since the running store of a calibration record began (R392). -/
  clean : Bool := false
  /-- A fall sector erase is owed (R349). -/
  eraseDue : Bool := false
  /-- ONTIME minutes when the active calibration record became active (R512). -/
  calSince : Nat := 0
  deriving DecidableEq, Repr

/-- The power die (chapter 13). -/
structure SupplySt where
  /-- Cause the next full reset from power-off records: 1 power-up, 3 rail fault, 4 return after power failure (R344). -/
  cause : Nat := 1
  /-- The power failure in progress was declared for a rail (R338). -/
  rail : Bool := false
  /-- A capacitance test runs; the first test after full reset or exit from DARK has been made. -/
  testing : Bool := false
  tested : Bool := false
  /-- An injected HUP_LOW takes E_AVAIL as 0 (R354). -/
  hupZero : Bool := false
  testAt : Nat := 0
  /-- Payload of the fall record to be written, and the flash operation that ran at the declaration: its KIND and region
  (R349). -/
  fall : List Byte := []
  ran : Option (Nat × Nat) := none
  deriving DecidableEq, Repr

/-- An entry of the soft repair map (R410, R411): the repair word, FUSED, and the test that found the fault. -/
structure RepairSt where
  word : Word
  fused : Bool
  test : Nat
  deriving DecidableEq, Repr

/-- Rehearsal and repair (chapter 16). -/
structure RehSt where
  /-- The soft repair map in force, and the words burned into the lane die's fuses (R410, R413). -/
  soft : List RepairSt := []
  fuses : List Word := []
  /-- Registers saved when the pages became BUSY (R403). -/
  saved : List (Nat × Word) := []
  /-- At the start of the run: elapsed time, timestamp and FALL_SEQ (R415). -/
  startAt : Nat := 0
  stamp : BitVec 128 := 0
  fallSeq : Nat := 0
  /-- Entries added by the run, and by the run in each group. -/
  added : Nat := 0
  addedG : List (Nat × Nat) := []
  /-- Tests that have ended, by 16 × group + test with 8 for the house, with their results; and failing elements by test. -/
  done : List (Nat × Nat) := []
  elems : List (Nat × Nat) := []
  /-- The start-up rehearsal has run, and its start-up reset is due or under way (R468). -/
  startRun : Bool := false
  /-- Test 4 runs, so no management operation is served (R404). -/
  mute : Bool := false
  /-- The first entry of the map that the session of fuses now burning covers, and how many entries it holds (R413). -/
  fuseAt : Nat := 0
  burning : List Nat := []
  /-- Scope and target of the run whose opening entry is queued (R397); the run has been admitted and is not over (R398, R402);
  DARK follows its end (R398). -/
  ask : Nat × Nat := (0, 0)
  opened : Bool := false
  toDark : Bool := false
  deriving DecidableEq, Repr

/-- An open Umatan session (R478, R479): its place in SESSk, its number, key slot, session key, last accepted SEQ and the
elapsed time of the last accepted request. -/
structure SessSt where
  place : Nat
  num : Nat
  slot : Nat
  key : List Byte
  lastSeq : Nat := 0
  at_ : Nat
  deriving DecidableEq, Repr

/-- A Umatan key slot of the OTP bank (R475): its key, and whether anything is burned, VALID and REVOKED. -/
structure UmSlotSt where
  key : List Byte := []
  burned : Bool := false
  valid : Bool := false
  revoked : Bool := false
  deriving DecidableEq, Repr

/-- The key bank and the sessions (chapter 19). -/
structure SecSt where
  um0 : UmSlotSt := {}
  um1 : UmSlotSt := {}
  /-- REVOKED fuses of the image keys, and the thermometer. -/
  imgRev : BitVec 4 := 0
  svn : Nat := 0
  /-- The Umatan keys held in house logic, by slot (R475). -/
  loaded : List (Nat × List Byte) := []
  sessions : List SessSt := []
  /-- Number given to the last session opened. -/
  lastNum : Nat := 0
  /-- Module nonces drawn. -/
  nonces : Nat := 0
  /-- The key operation in progress: OP, VALUE and SLOT, and the key staged for it. -/
  op : Option (Nat × Nat × Nat × List Byte) := none
  deriving DecidableEq, Repr

/-- A message this module has sent over the twin link (R312). Pin reports (PIN_MEAS, PIN_HELD and PIN_STAT.STATE), configurations and
coefficients are of every path, in the order of their numbers. -/
inductive TwinMsg where
  | hello (h : TwinHello)
  | time (stamp : BitVec 128)
  | pins (l : List (Word × Word × BitVec 3))
  | config (l : List TwinCfg)
  | coefs (l : List TwinCoef)
  | mirror (op : MirOp)
  | crc (w : Word)
  deriving DecidableEq, Repr

/-- Twin operation (chapter 12), beyond its registers. Tables are by path. -/
structure TwinSt where
  /-- The module has been PAIRED since the last full reset or enable (R330). -/
  paired : Bool := false
  /-- Consecutive windows beyond tolerance and matched (R324), matched windows since RE_ENTERING began (R329), and the paths in
  mismatch. -/
  beyond : List (Nat × Nat) := []
  matched : List (Nat × Nat) := []
  reRun : List (Nat × Nat) := []
  mis : List Nat := []
  /-- What the twin last reported: PIN_MEAS, PIN_STAT.STATE and PIN_HELD; its configuration; its coefficients and the elapsed
  time of their arrival. -/
  pins : List (Nat × (Nat × Nat × Nat)) := []
  cfg : List (Nat × Option TwinCfg) := []
  coefs : List (Nat × Option (TwinCoef × Nat)) := []
  /-- The last message sent. -/
  sent : Option TwinMsg := none
  deriving DecidableEq, Repr

/-- The timebase, its uncertainty and the mark grid (chapter 08). -/
structure TimeSt where
  /-- The timebase value in units of 2^-48 ns, and the remainder of the nominal part carried modulo F (R202). -/
  tb : Nat := 0
  rem : Nat := 0
  /-- The selected reference has been declared present since the full reset, so the timebase counts (R210). -/
  counting : Bool := false
  /-- TIME_UNC in 10^-24 s; none: unknown (R209). -/
  unc : Option Nat := none
  /-- Cycles of the selected reference since full reset, on which marks are sampled. -/
  refCount : Nat := 0
  /-- The count at which the next mark is expected (R155, R156). -/
  expect : Option Nat := none
  /-- A write of MODE or P has taken effect and no mark has come since: the next one starts a new grid (R216). -/
  newGrid : Bool := false
  /-- MARK_FAULT has been raised in the present run of missing or moved marks, or no zeroing mark has come (R157). -/
  faultDone : Bool := true
  /-- Elapsed time at which the present holdover began. -/
  holdAt : Nat := 0
  /-- Timebase at the start of the keep-alive window, and whether the window is to be discarded (R213). -/
  kaStart : Nat := 0
  kaDirty : Bool := false
  /-- Keep-alive edges counted in the present period of keep-alive counting (R212). -/
  kaEdges : Nat := 0
  /-- Elapsed time of the last PPS_IN edge captured (R218). -/
  ppsInAt : Option Nat := none
  /-- A change of selection of the second kind of R22 waits for its hand-over. -/
  kaChange : Bool := false
  /-- The keep-alive counting began at entry to DARK (R214). -/
  fromDark : Bool := false
  /-- The selected reference has been declared lost and not present since (R22, R210). -/
  refGone : Bool := false
  /-- While the timebase counts on a bridge PLL: its held ratio N + FRAC / 2^24 in units of 2^-24, and how far its cycles are into
  one of the reference (R211). -/
  bridge : Nat := 0
  bridgePh : Nat := 0
  /-- Counting has reached a whole second plus PPS_OFS and PPS_OUT has not risen for it yet (R217). -/
  ppsDue : Bool := false
  deriving DecidableEq, Repr

/-- One answer of a Umatan request: opcode, ST, the address (or CUE and SCENE), and the data of a read once it is ready. -/
structure UmAns where
  op : Byte
  st : Byte
  word : BitVec 32
  data : List Byte := []
  /-- The command has been admitted and its answer is not ready. -/
  open_ : Bool := false
  deriving DecidableEq, Repr

/-- A Umatan request in execution: its place in the session table, the Ethernet header of the response, SEQ and the
answers so far (R246). -/
structure UmTxn where
  sess : Nat
  /-- Number and key of the session, with which it is answered. -/
  num : Nat
  key : List Byte
  eth : List Byte
  seq : Word
  answers : List UmAns
  /-- The command area of the answer to a session-open request (R478). -/
  area : List Byte := []
  tooBig : Bool := false
  deriving DecidableEq, Repr

/-- What a frame port keeps beyond its registers. -/
structure PortSt where
  /-- Elapsed time of the admission of the TX_TAIL write that posted each descriptor, by descriptor (R236). -/
  posted : List (Nat × Nat) := []
  /-- Elapsed time at which the write of the FRAME page that takes effect was admitted (R236). -/
  tailAt : Nat := 0
  /-- Queued Umatan responses, oldest first: response slot and elapsed time of queueing (R235). -/
  um : List (Nat × Nat) := []
  /-- The next response slot. -/
  umSlot : Nat := 0
  /-- The frame fetched into the path: a Umatan slot (true) or a ring descriptor (false) (R235). -/
  next : Option (Bool × Nat) := none
  /-- Frames delivered, modulo 65,536 (R243). -/
  seq : Nat := 0
  /-- Extracted Umatan requests not yet served, oldest first (R246). -/
  reqs : List RxFrame := []
  /-- Requests in execution, oldest first. -/
  txns : List UmTxn := []
  deriving DecidableEq, Repr

/-- Where a scene's work stands. -/
inductive Phase where
  /-- Armed and not yet due for validation (R259). -/
  | armed
  /-- Due for validation. -/
  | due
  /-- Deferred (R262). -/
  | deferred
  /-- Staged (R265). -/
  | staged
  deriving DecidableEq, Repr

/-- An armed cue, or an open-scene COMMIT, with the scene work done for it. -/
structure JobSt where
  job : Job
  scene : Nat
  phase : Phase
  /-- Order in which it became due, or was deferred (R259, R262). -/
  seq : Nat
  /-- The staged final values: register address and value (R265). -/
  vals : List (Nat × Word) := []
  /-- The bits of those registers that entries write. -/
  masks : List (Nat × Word) := []
  /-- The locked registers, by address (R261). -/
  locks : List Nat := []
  /-- The trigger has come: elapsed time of T_c (R271). -/
  trig : Option Nat := none
  /-- The occurrence is late and fires at the end of its staging (R274). -/
  late : Bool := false
  /-- LATE_BY of a late occurrence, in 100 ns units (R274). -/
  lateBy : Nat := 0
  /-- The next occurrence of a time cue, in 2^-48 ns of the timebase; of a mark cue, the expected-mark number. -/
  next : Nat := 0
  /-- Expected marks counted since arming (R278). -/
  marks : Nat := 0
  /-- The occurrence that follows a pending one, where it is not the next of the grid: a step has passed some (R276), or marks have
  come meanwhile (R278). -/
  after : Option Nat := none
  /-- Elapsed times of the marks of a FIRE_LATE cue that came while an earlier occurrence was pending (R274, R278). -/
  missed : List Nat := []
  /-- A reset cleared the cue's line and the directory after T_c was reached (R268, R283), and whether the line asked for NOTIFY. -/
  gone : Option Bool := none
  deriving DecidableEq, Repr

/-- A STORE that the checker has not yet copied (R257): the open scene, the target scene, BASE and the order of admission. -/
structure StoreSt where
  src : Nat
  scene : Nat
  base : Nat
  seq : Nat
  deriving DecidableEq, Repr

/-- The scene checker and the open scenes. -/
structure SceneSt where
  jobs : List JobSt := []
  seq : Nat := 0
  /-- Extent of each stored scene, by scene number: (BASE, LEN) (R255). -/
  desc : List (Nat × (Nat × Nat)) := []
  /-- Entries in each open scene, by scene number 1,008 to 1,023 (R39). -/
  openLen : List (Nat × Nat) := []
  /-- Overflow marks of the open scenes (R42). -/
  overflow : List Nat := []
  /-- The STOREs that the checker has not yet copied, oldest first (R257). -/
  storing : List StoreSt := []
  /-- SCENE_STAT of each scene, by scene number. -/
  stat : List (Nat × Word) := []
  /-- Highest staging-slot use on a page since the last read of CHK_STAT. -/
  slotsHigh : Nat := 0
  deriving DecidableEq, Repr

/-- Why a page is BUSY (R34). -/
inductive Busy where
  | no | rehearsal | migration
  /-- A group reset runs, and its pages are treated as BUSY (R459). -/
  | reset
  deriving DecidableEq, Repr

/-- Where the device stands between resets. -/
inductive Device where
  /-- In full reset. -/
  | fullReset
  /-- At a step of the start-up sequence (R467). -/
  | starting
  /-- Lanes are ready (R469). -/
  | ready
  /-- Entering DARK, and in DARK (R370). -/
  | enteringDark
  | dark
  /-- A declared power failure runs (R344), and every rail is off. -/
  | failing
  | off
  deriving DecidableEq, Repr

/-- What the output lands do that no register shows. -/
structure LandSt where
  /-- VIO is above 1.6 V (R65). -/
  vio : Bool := true
  /-- The two-wire target has seen a STOP, and the SPI target a high SPI_CS_N, since VIO returned (R65). -/
  twtArmed : Bool := true
  spiArmed : Bool := true
  /-- PPS_OUT is high (R217). -/
  pps : Bool := false
  /-- A boundary-scan instruction has taken the lanes out of service (R67). -/
  scan : Bool := false
  /-- HRST_N is low (R69, R70). -/
  hrst : Bool := false
  deriving DecidableEq, Repr
/-- The state of the module. Lists of pairs are tables in canonical form (Machine/Operands.lean). -/
structure State where
  /-- Every register, by byte address; an unlisted one reads as `regReset`. -/
  regs : List (Nat × Word) := []
  /-- The memory windows of R24, byte by byte; an unlisted byte reads as 0 (log 4). -/
  mem : List Host.Cell := []
  /-- SRAM words that hold an inverted column, by 1,024 × macro + row: 256 × NBITS + COLUMN (R457). -/
  ecc : List (Nat × Nat) := []
  /-- Time since State.reset, in femtoseconds: the base of ages and of commit instants between ticks. -/
  elapsed : Nat := 0
  /-- MODEL'S OWN: how many free values have been drawn (Config.freeWord). -/
  free : Nat := 0
  /-- The access queue, oldest first (R14). -/
  access : List Access := []
  /-- Latched and staged words, one copy a source (R44), by source and word. -/
  latch : List (Nat × Word) := []
  /-- The data last returned to each source, by source. -/
  readData : List (Nat × BitVec 128) := []
  /-- Which pages are BUSY and why, by page number (R34). -/
  busy : List (Nat × Busy) := []
  /-- ADC slices, by 64 × path + slice. -/
  slices : List (Nat × SliceSt) := []
  paths : List (Nat × PathSt) := []
  groups : List (Nat × GroupSt) := []
  /-- The running counters of the paths (R191, R192), by 64 × path + counter. -/
  ctrs : List (Nat × Nat) := []
  scene : SceneSt := {}
  /-- Trims in use, by path (R377); pending results and ramp targets, by path: block and codes (R384, R387). -/
  trims : List (Nat × TrimSt) := []
  pends : List (Nat × List (Nat × List Int)) := []
  ramps : List (Nat × List (Nat × List Int)) := []
  cal : CalDevSt := {}
  engines : List (Nat × EngSt) := []
  flash : FlashSt := {}
  supply : SupplySt := {}
  reh : RehSt := {}
  security : SecSt := {}
  twin : TwinSt := {}
  time : TimeSt := {}
  ports : List (Nat × PortSt) := []
  spi : SpiSt := {}
  twt : TwtSt := {}
  twc : TwcSt := {}
  device : Device := .fullReset
  /-- Elapsed time at the end of the last full reset, from which READY_MS counts (R469). -/
  startAt : Nat := 0
  /-- A house reset is running (R462). -/
  houseReset : Bool := false
  /-- What registers with an NVM reset value received at the last start, by byte address (R461). -/
  start : List (Nat × Word) := []
  land : LandSt := {}
  /-- The commands that wait, first in, first out. -/
  pending : List Instr := []
  deriving DecidableEq, Repr

/-- The module at the end of a full reset, before START_UP runs. -/
def State.reset : State := {}

end Sys2Proof.Machine
end

