-- ==== Sys2Proof/Machine/Ops.lean ====
section
/-!
DEFINITION. Machine/Ops.lean: the named operations over registers, memory windows and the tables of State, and the shared
detector operations: raising an event, counting a violation, asking for ATTN_N and a prompt.
-/
namespace Sys2Proof.Machine

/-! ### Registers -/

/-- Byte address of the register at `off` of a page (R23). -/
def pageAddr (p : Page) (off : Nat) : Nat := pageNum p * 4096 + off

/-- The stored word of the register at byte address `a`. -/
def State.rd (s : State) (a : Nat) : Word := tabGet regReset s.regs a

/-- Store a register's word. -/
def State.wr (s : State) (a : Nat) (v : Word) : State := { s with regs := tabSet regReset s.regs a v }

/-- A field's code. -/
def State.f (s : State) (p : Page) (x : Fld) : Nat := fget (s.rd (pageAddr p x.off)) x.hi x.lo

/-- A one-bit field as a truth value. -/
def State.on (s : State) (p : Page) (x : Fld) : Bool := s.f p x != 0

/-- A field as a signed number. -/
def State.sf (s : State) (p : Page) (x : Fld) : Int := sx (x.hi + 1 - x.lo) (s.f p x)

/-- Set a field, leaving the other bits of its register. -/
def State.setF (s : State) (p : Page) (x : Fld) (v : Nat) : State :=
  s.wr (pageAddr p x.off) (fset (s.rd (pageAddr p x.off)) x.hi x.lo v)

/-- Set a one-bit field. -/
def State.setB (s : State) (p : Page) (x : Fld) (b : Bool) : State := s.setF p x (b2n b)

/-- Set a field to the code of a signed number. -/
def State.setS (s : State) (p : Page) (x : Fld) (i : Int) : State := s.setF p x (enc (x.hi + 1 - x.lo) i)

/-- Add to a field, saturating at its largest code. -/
def State.add (s : State) (p : Page) (x : Fld) (n : Nat) : State := s.setF p x (satNat (fldTop x) (s.f p x + n))

/-- Count one, saturating. -/
def State.inc (s : State) (p : Page) (x : Fld) : State := s.add p x 1

/-- Count one, modulo the field's width. -/
def State.incW (s : State) (p : Page) (x : Fld) : State := s.setF p x (s.f p x + 1)

/-- Set the register at `off` to its reset value. -/
def State.rstReg (s : State) (p : Page) (off : Nat) : State := s.wr (pageAddr p off) (regReset (pageAddr p off))

/-- Set the registers of `p` at offsets from `lo` to `hi` (a multiple of 4 each) to their reset values. -/
def State.rstRange (s : State) (p : Page) (lo hi : Nat) : State :=
  { s with regs := s.regs.filter (fun e => !(decide (pageAddr p lo ≤ e.1) && decide (e.1 ≤ pageAddr p hi))) }

/-! ### Memory windows -/

/-- What a byte of a memory window reads as while nothing has written it (log 4). -/
def memReset (_ : Nat) : Byte := 0

/-- A byte of a memory window. -/
def State.mget (s : State) (a : Nat) : Byte := tabGet memReset s.mem a

/-- Write a byte of a memory window. -/
def State.mset (s : State) (a : Nat) (v : Byte) : State := { s with mem := tabSet memReset s.mem a v }

/-- The 32-bit word at `a`, most significant byte first (R4). -/
def State.mword (s : State) (a : Nat) : Word :=
  s.mget a ++ s.mget (a + 1) ++ s.mget (a + 2) ++ s.mget (a + 3)

/-- Write bytes from `a` upward, without the SRAM's error columns. -/
def State.msetRaw (s : State) (a : Nat) : List Byte → State
  | [] => s
  | b :: bs => (s.mset a b).msetRaw (a + 1) bs

/-- The SRAM macro and row of a window address, as 1,024 × macro + row (R400, R457): rows of 16 bytes in address order
(log 35). An engine has 64 KB of instruction memory and 32 KB of data memory in its six macros. None: in no window that SRAM
holds. -/
def sramRow (a : Nat) : Option Nat :=
  let row (first base : Nat) : Option Nat := some (1024 * first + (a - base) / 16)
  let e := (a - 0x00200000) / 0x20000
  if 0x00200000 ≤ a ∧ a < 0x00320000 then
    if (a - 0x00200000) % 0x20000 < 0x18000 then row (6 * e) (0x00200000 + 0x20000 * e) else none
  else if 0x00400000 ≤ a ∧ a < 0x00500000 then row 54 0x00400000
  else if 0x00500000 ≤ a ∧ a < 0x00540000 then row 126 0x00500000
  else if 0x00600000 ≤ a ∧ a < 0x00680000 then row 142 0x00600000
  else if 0x00700000 ≤ a ∧ a < 0x00720000 then row 118 0x00700000
  else none

/-- A write to an SRAM row: it stores a good word, or, if ECC_INJ is armed for its macro, one with inverted columns (R457). -/
def State.sramWrite (s : State) (row : Nat) : State :=
  if s.on .house HouseR.ECC_INJ_ARM && s.f .house HouseR.ECC_INJ_MACRO == row / 1024 then
    { s.setF .house HouseR.ECC_INJ_ARM 0 with
      ecc := tabSet (fun _ => 0) s.ecc row
        (256 * s.f .house HouseR.ECC_INJ_NBITS + s.f .house HouseR.ECC_INJ_COLUMN) }
  else { s with ecc := tabSet (fun _ => 0) s.ecc row 0 }

/-- The SRAM rows of `n` bytes from `a` upward. -/
def sramRows (a n : Nat) : List Nat := (List.range ((a % 16 + n + 15) / 16)).filterMap (fun i => sramRow (a / 16 * 16 + 16 * i))

/-- The row of the page storage that holds the register at `a`, as 1,024 × macro + row (R400, log 158). -/
def pageRow (a : Nat) : Nat := 1024 * 174 + Config.pageRow (a / 16) % 10240

/-- A register of the page storage is written: its row is stored anew (R457). -/
def State.pageStored (s : State) (a : Nat) : State :=
  if s.ecc.isEmpty && !s.on .house HouseR.ECC_INJ_ARM then s else s.sramWrite (pageRow a)

/-- Write a list of bytes from `a` upward. -/
def State.msetList (s : State) (a : Nat) (l : List Byte) : State :=
  (sramRows a l.length).foldl State.sramWrite (s.msetRaw a l)

/-- Write the 32-bit word at `a`, most significant byte first. -/
def State.mwordSet (s : State) (a : Nat) (w : Word) : State := s.msetList a (wordBytes w)

/-- Bits of the 32-bit word at `a`. -/
def State.mfield (s : State) (a hi lo : Nat) : Nat := fget (s.mword a) hi lo

/-- Set bits of the 32-bit word at `a`. -/
def State.mfieldSet (s : State) (a hi lo v : Nat) : State := s.mwordSet a (fset (s.mword a) hi lo v)

/-- The list of `n` bytes from `a` upward. -/
def State.mbytes (s : State) (a n : Nat) : List Byte := (List.range n).map (fun i => s.mget (a + i))

/-! ### Tables of records -/

/-- The record of a path. -/
def State.path (s : State) (p : Path) : PathSt := tabGet (fun _ => {}) s.paths p.val

/-- Replace the record of a path. -/
def State.setPath (s : State) (p : Path) (v : PathSt) : State :=
  { s with paths := tabSet (fun _ => ({} : PathSt)) s.paths p.val v }

/-- The training segment whose registers are in page `p` (R108). -/
def State.seg (s : State) (p : Path) : SegSt := (s.path p).seg

/-- Replace a segment's record. -/
def State.setSeg (s : State) (p : Path) (v : SegSt) : State := s.setPath p { s.path p with seg := v }

/-- The record of a group. -/
def State.grp (s : State) (g : Grp) : GroupSt := tabGet (fun _ => {}) s.groups g.val

/-- Replace the record of a group. -/
def State.setGrp (s : State) (g : Grp) (v : GroupSt) : State :=
  { s with groups := tabSet (fun _ => ({} : GroupSt)) s.groups g.val v }

/-- An ADC slice of a path. -/
def State.slice (s : State) (p : Path) (k : Nat) : SliceSt := tabGet (fun _ => {}) s.slices (64 * p.val + k)

/-- Replace an ADC slice's record. -/
def State.setSlice (s : State) (p : Path) (k : Nat) (v : SliceSt) : State :=
  { s with slices := tabSet (fun _ => ({} : SliceSt)) s.slices (64 * p.val + k) v }

/-- Why a page is BUSY. -/
def State.busyOf (s : State) (p : Page) : Busy := tabGet (fun _ => .no) s.busy (pageNum p)

/-- Make a page BUSY, or clear it. -/
def State.setBusy (s : State) (p : Page) (b : Busy) : State :=
  { s with busy := tabSet (fun _ => Busy.no) s.busy (pageNum p) b }

/-- A source's place in the tables of latched words and returned data. -/
def srcCode : Src → Nat
  | .spi => 0
  | .twt => 1
  | .um k => 2 + k.val
  | .eng e => 10 + e.val

/-- A latched or staged word of a source (R44); 0 while it has none. -/
def State.latched (s : State) (c : Src) (slot : Nat) : Word := tabGet (fun _ => 0) s.latch (1024 * srcCode c + slot)

/-- Latch or stage a word for a source. -/
def State.setLatch (s : State) (c : Src) (slot : Nat) (w : Word) : State :=
  { s with latch := tabSet (fun _ => (0 : Word)) s.latch (1024 * srcCode c + slot) w }

/-- Forget every word latched or staged by a source. -/
def State.dropLatches (s : State) (c : Src) : State :=
  { s with latch := s.latch.filter (fun e => e.1 / 1024 != srcCode c) }

/-- Return read data to a source. -/
def State.answer (s : State) (c : Src) (d : BitVec 128) : State :=
  { s with readData := tabSet (fun _ => (0 : BitVec 128)) s.readData (srcCode c) d }

/-- Change the security record. -/
def State.modSec (s : State) (f : SecSt → SecSt) : State := { s with security := f s.security }

/-- Draw a free value: the model's own counter advances (log 1). -/
def State.draw (s : State) : Word × State := (Config.freeWord s.free, { s with free := s.free + 1 })

/-! ### Mirror operations (R314) -/

/-- The lead sends a mirror operation while PAIRED. -/
def State.mirSent (s : State) (op : MirOp) : State :=
  if s.f .twin TwinR.TWIN_STAT_ROLE == 1 && s.f .twin TwinR.TWIN_STAT_STATE == 2 then
    let s := s.incW .twin TwinR.MIR_CNT_OPS
    { s with twin := { s.twin with sent := some (.mirror op) } }
  else s

/-- Likewise, of an operation on a mirrored cue. -/
def State.mirCue (s : State) (c : BitVec 12) (op : MirOp) : State := if c.toNat < 2048 then s.mirSent op else s

/-! ### Pool entries (R253, R254) -/

/-- A pool entry. -/
structure SEntry where
  addr : Nat
  mask : BitVec 16
  data : BitVec 128
  deriving DecidableEq, Repr

/-- Address of pool entry `i`. -/
def poolAddr (i : Nat) : Nat := 0x00400000 + 32 * i

/-- The bytes of pool entry `i` that hold `e`. -/
def entryBytes (e : SEntry) : List Byte :=
  beBytes 4 e.addr ++ beBytes 4 e.mask.toNat ++ List.replicate 8 0 ++ (List.range 16).map (quadByte e.data)

/-! ### Instances -/

/-- Page of a path, group or engine. -/
abbrev pp (p : Path) : Page := .path p
abbrev gp (g : Grp) : Page := .group g
abbrev ep (e : Eng) : Page := .stage e

/-- The lane pair of a path, and its two paths (R3). -/
def laneOf (p : Path) : Lane := ⟨p.val % 64, by omega⟩
def pathAB (n : Lane) : Path := ⟨n.val, by omega⟩
def pathBA (n : Lane) : Path := ⟨n.val + 64, by omega⟩

/-- The other path of the lane pair. -/
def otherPath (p : Path) : Path := ⟨(p.val + 64) % 128, by omega⟩

/-- The 16 paths of a group, in the order of CAL_STAT.PEND_PATHS: AB 8g + i, then BA 8g + i (R447). -/
def grpPaths (g : Grp) : List Path :=
  (List.finRange 8).map (fun i => (⟨8 * g.val + i.val, by omega⟩ : Path)) ++
  (List.finRange 8).map (fun i => (⟨64 + 8 * g.val + i.val, by omega⟩ : Path))

/-- Path index within its group, as CAL_STAT.PEND_PATHS codes it. -/
def pathIdx (p : Path) : Nat := p.val % 8 + (if p.val < 64 then 0 else 8)

/-- The group page and the 16 path pages of a group. -/
def grpPages (g : Grp) : List Page := .group g :: (grpPaths g).map .path

def allGroups : List Grp := List.finRange 8
def allPaths : List Path := List.finRange 128
def allLanes : List Lane := List.finRange 64
def allEngs : List Eng := List.finRange 9

/-- Every page of R23. -/
def allPages : List Page :=
  [.house, .supply, .pstate, .nvm, .cal, .reh, .therm, .time, .cue, .twin, .frame, .twt, .twc, .spi, .sec] ++
  allGroups.map .group ++ allEngs.map .stage ++ allPaths.map .path

/-! ### Violations (R451 to R453) -/

/-- The page counter of a kind of violation. -/
def violFld : Viol → Fld
  | .access => Hdr.VIOL_0_ACCESS
  | .timing => Hdr.VIOL_0_TIMING
  | .protocol => Hdr.VIOL_1_PROTOCOL
  | .consistency => Hdr.VIOL_1_CONSISTENCY

/-- The device-wide total of a kind of violation. -/
def violTot : Viol → Fld
  | .access => HouseR.VIOL_TOT_ACC_ACCESS
  | .timing => HouseR.VIOL_TOT_TIM_TIMING
  | .protocol => HouseR.VIOL_TOT_PROT_PROTOCOL
  | .consistency => HouseR.VIOL_TOT_CONS_CONSISTENCY

/-- VIOL_LAST.KIND of a kind of violation. -/
def violCode : Viol → Nat
  | .access => 0
  | .timing => 1
  | .protocol => 2
  | .consistency => 3

/-- Record the latest violation (R453). -/
def State.violLast (s : State) (k : Viol) (page : Nat) (inj : Bool) : State :=
  ((s.setF .house HouseR.VIOL_LAST_KIND (violCode k)).setF .house HouseR.VIOL_LAST_PAGE page).setB
    .house HouseR.VIOL_LAST_INJ inj

/-- Count one violation in a page, in the matching total and in VIOL_LAST (R452). `inj`: an injected one (R456). -/
def State.violI (s : State) (p : Page) (k : Viol) (inj : Bool) : State :=
  ((s.inc p (violFld k)).inc .house (violTot k)).violLast k (pageNum p) inj

/-- Count one violation (R452). -/
def State.viol (s : State) (p : Page) (k : Viol) : State := s.violI p k false

/-- Count one violation if a condition holds. -/
def State.violIf (s : State) (b : Bool) (p : Page) (k : Viol) : State := if b then s.viol p k else s

/-- Count one ACCESS violation at an unmapped address: no page counts it (R25, R452). -/
def State.violUnmapped (s : State) : State :=
  ((s.inc .house HouseR.VIOL_TOT_ACC_ACCESS).inc .house HouseR.VIOL_UNMAPPED_UNMAPPED).violLast .access 0x1FF false

end Sys2Proof.Machine
end

