-- ==== Sys2Proof/Machine/Flags.lean ====
section
/-!
DEFINITION. Machine/Flags.lean: the event and fault flags: the roll-up into EVT_SUM (R446, R447), ATTN_N and the prompt request
(R449, R450), the cue lines an event triggers (R271, R274, R279, R504), and the one operation by which a detector sets
its EVT_RAW bit.
-/
namespace Sys2Proof.Machine

/-! ### EVT_SUM -/

/-- One bit of EVT_SUM if a condition holds. -/
def srcBit (b : Bool) (n : Nat) : BitVec 64 := if b then 1#64 <<< n else 0

/-- Whether any of the listed bits of a word is 1. -/
def anyBit (w : Word) (l : List Nat) : Bool := l.any (fun b => w.getLsbD b)

/-- The EVT_SUM sources that a page's pending bits feed (R446, R447). -/
def pageSources (p : Page) (w : Word) : BitVec 64 :=
  match p with
  | .group g => srcBit (fget w 15 0 != 0) g.val ||| srcBit (fget w 31 16 != 0) (8 + g.val)
  | .path q => srcBit (fget w 15 0 != 0 || w.getLsbD 24) (pathGrp q).val |||
      srcBit (fget w 23 16 != 0 || fget w 31 25 != 0) (8 + (pathGrp q).val)
  | .stage e => srcBit (w != 0) (16 + e.val) ||| srcBit (w.getLsbD 16) 59
  | .supply => srcBit (w.getLsbD 16) 25 ||| srcBit (w.getLsbD 17) 26 ||| srcBit (w.getLsbD 0) 27 ||| srcBit (w.getLsbD 18) 28
  | .nvm => srcBit (w.getLsbD 0) 29 ||| srcBit (w.getLsbD 16) 30
  | .cal => srcBit (w.getLsbD 0) 31 ||| srcBit (anyBit w [16, 17]) 32 ||| srcBit (w.getLsbD 18) 37
  | .therm => srcBit (fget w 7 0 != 0) 33 ||| srcBit (anyBit w [16, 17]) 34
  | .reh => srcBit (w.getLsbD 0) 35 ||| srcBit (w.getLsbD 16) 36 ||| srcBit (w.getLsbD 17) 37
  | .time => srcBit (w.getLsbD 0) 38 ||| srcBit (anyBit w [1, 5]) 39 ||| srcBit (w.getLsbD 2) 40 |||
      srcBit (anyBit w [3, 4, 16, 17, 18]) 41
  | .cue => srcBit (w.getLsbD 0) 42 ||| srcBit (w.getLsbD 16) 43 ||| srcBit (w.getLsbD 1) 44
  | .twin => srcBit (anyBit w [5, 16, 17]) 45 ||| srcBit (anyBit w [18, 19, 21]) 46 |||
      srcBit (anyBit w [0, 1, 2, 3, 4, 20]) 47
  | .twt => srcBit (anyBit w [16, 17, 18]) 48
  | .twc => srcBit (w.getLsbD 0) 49 ||| srcBit (anyBit w [16, 17, 18, 19]) 50
  | .spi => srcBit (anyBit w [16, 17]) 51
  | .frame => srcBit (anyBit w [0, 4, 8, 12]) 52 ||| srcBit (anyBit w [1, 5, 9, 13]) 53 |||
      srcBit (anyBit w [2, 3, 6, 7, 10, 11, 14, 15]) 54
  | .pstate => srcBit (w.getLsbD 0) 55 ||| srcBit (w.getLsbD 1) 56
  | .house => srcBit (w.getLsbD 1) 57 ||| srcBit (w.getLsbD 16) 58 ||| srcBit (w.getLsbD 17) 61 ||| srcBit (w.getLsbD 0) 62 |||
      srcBit (w.getLsbD 2) 63
  | .sec => srcBit (w != 0) 60

/-- EVT_PEND of a page: EVT_RAW AND EVT_EN (R28). -/
def State.evtPend (s : State) (p : Page) : Word := s.rd (pageAddr p 0x010) &&& s.rd (pageAddr p 0x014)

/-- HOUSE.EVT_SUM (R446). Only pages whose EVT_RAW differs from its reset value 0 are listed in `regs`, so the roll-up
goes over those. -/
def State.evtSum (s : State) : BitVec 64 :=
  s.regs.foldl (fun acc e =>
    if e.1 % 4096 = 0x010 then
      match pageOf (e.1 / 4096) with
      | some p => acc ||| pageSources p (s.evtPend p)
      | none => acc
    else acc) 0

/-- A 64-bit mask held in two registers of the HOUSE page, the upper half first. -/
def State.houseMask (s : State) (off : Nat) : BitVec 64 := s.rd off ++ s.rd (off + 4)

/-- The lowest set bit of a 64-bit word. -/
def lowBit (w : BitVec 64) : Nat := ((List.range 64).find? (fun b => w.getLsbD b)).getD 0

/-- Whether the module may drive ATTN_N: not in full reset, in house reset or in DARK (R68, R449). -/
def State.attnAllowed (s : State) : Bool :=
  !s.houseReset && (s.device == .ready || s.device == .starting || s.device == .enteringDark)

/-- (EVT_SUM AND ATTN_EN) and (EVT_SUM AND PROMPT_EN). -/
def State.attnView (s : State) : BitVec 64 × BitVec 64 :=
  (s.evtSum &&& s.houseMask 0x088, s.evtSum &&& s.houseMask 0x090)

/-- Bring ATTN_N, FIRST and the prompt request up to date, given the view before the change (R449, R450). -/
def State.attnUpdate (s : State) (before : BitVec 64 × BitVec 64) : State :=
  let now := s.attnView
  let low := s.attnAllowed && s.on .house HouseR.ATTN_CTL_ATTN_ON && now.1 != 0
  let s :=
    if low && !s.on .house HouseR.ATTN_STAT_ATTN then
      let rose := now.1 &&& ~~~before.1
      ((s.setF .house HouseR.ATTN_STAT_FIRST (lowBit (if rose = 0 then now.1 else rose))).setF
        .house HouseR.ATTN_STAT_FIRST_VALID 1).setF .house HouseR.ATTN_STAT_ATTN 1
    else s.setB .house HouseR.ATTN_STAT_ATTN low
  let pOn := s.on .house HouseR.ATTN_CTL_PROMPT_ON
  if !pOn || now.2 == 0 then s.setF .house HouseR.ATTN_STAT_PROMPT_REQ 0
  else if (now.2 &&& ~~~before.2) != 0 && s.attnAllowed then s.setF .house HouseR.ATTN_STAT_PROMPT_REQ 1
  else s

/-- Make a change and bring ATTN_N and the prompt request up to date. -/
def State.withEvt (s : State) (f : State → State) : State := (f s).attnUpdate s.attnView

/-! ### The cue sheet (R270) -/

/-- Address of the first word of cue `c`. -/
def cueAddr (c : BitVec 12) : Nat := 0x00700000 + 32 * c.toNat

/-- TRIG, LATE, ANCHOR, REPEAT, NOTIFY and SCENE of a cue's entry. -/
def State.cueTrig (s : State) (c : BitVec 12) : Nat := s.mfield (cueAddr c) 31 28
def State.cueFireLate (s : State) (c : BitVec 12) : Bool := s.mfield (cueAddr c) 27 27 != 0
def State.cueAnchor (s : State) (c : BitVec 12) : Bool := s.mfield (cueAddr c) 26 26 != 0
def State.cueRepeat (s : State) (c : BitVec 12) : Bool := s.mfield (cueAddr c) 25 25 != 0
def State.cueNotify (s : State) (c : BitVec 12) : Bool := s.mfield (cueAddr c) 24 24 != 0
def State.cueScene (s : State) (c : BitVec 12) : Nat := s.mfield (cueAddr c) 9 0

/-- Whether an event cue names a page and bit. -/
def State.cueOn (s : State) (c : BitVec 12) (page bit : Nat) : Bool :=
  s.cueTrig c == 3 && s.mfield (cueAddr c + 8) 24 16 == page && s.mfield (cueAddr c + 8) 4 0 == bit

/-- Write STATE of a cue (R272). -/
def State.cueSetState (s : State) (c : BitVec 12) (st : Nat) : State := s.mfieldSet (cueAddr c + 0x18) 31 28 st

/-- Write OUTCOME of a cue. -/
def State.cueOutcome (s : State) (c : BitVec 12) (o : Nat) : State := s.mfieldSet (cueAddr c + 0x18) 27 24 o

/-- The scene work of a job, if it has any. -/
def State.job? (s : State) (j : Job) : Option JobSt := s.scene.jobs.find? (fun x => x.job == j)

/-- Replace a job's record. -/
def State.setJob (s : State) (x : JobSt) : State :=
  { s with scene := { s.scene with jobs := s.scene.jobs.map (fun y => if y.job == x.job then x else y) } }

/-- Remove a job. -/
def State.dropJob (s : State) (j : Job) : State :=
  { s with scene := { s.scene with jobs := s.scene.jobs.filter (fun y => y.job != j) } }

/-- One more job, after those there are. -/
def State.addJob (s : State) (x : JobSt) : State :=
  { s with scene := { s.scene with jobs := s.scene.jobs ++ [x] } }

/-- 40 ns in femtoseconds: the delay of an event cue (R271). -/
def eventDelay : Nat := 40000000

/-- A cue's line ends in a state with an outcome, and its scene work with it. -/
def State.endCue (s : State) (c : BitVec 12) (st o : Nat) : State :=
  ((s.cueSetState c st).cueOutcome c o).dropJob (.cue c)

/-- What a late event occurrence does under its policy (R274, R504): TIMING counts in the CUE page; DROP ends a one-shot cue DROPPED
with OUTCOME 3, and leaves the work of a repeating one to the following trigger; FIRE_LATE marks the occurrence to fire at the end of
its staging, no earlier than `tc`. -/
def State.lateOccurrence (s : State) (x : JobSt) (c : BitVec 12) (tc : Nat) : State :=
  let s := s.viol .cue .timing
  if s.cueFireLate c then s.setJob { x with late := true, trig := some tc }
  else if s.cueRepeat c then (s.setJob { x with trig := none }).cueOutcome c 3
  else s.endCue c 6 3

/-- What a setting of an EVT_RAW bit brings one job: an event cue that names the bit is triggered (R271, R279, R504). -/
def State.cueEvent (p : Page) (bit : Nat) (s : State) (x : JobSt) : State :=
  match x.job with
  | .cue c =>
    if s.cueOn c (pageNum p) bit then
      if x.phase == .staged then
        match x.trig with
        | none => s.setJob { x with trig := some (s.elapsed + eventDelay) }
        | some _ => if s.cueRepeat c then (s.viol .cue .timing).cueOutcome c 3 else s
      else s.lateOccurrence x c (s.elapsed + eventDelay)
    else s
  | _ => s

/-- A setting of an EVT_RAW bit triggers the event cues that name it. -/
def State.trigEvent (s : State) (p : Page) (bit : Nat) : State := s.scene.jobs.foldl (State.cueEvent p bit) s

/-! ### Detectors -/

/-- A detector sets its EVT_RAW bit: the bit, the roll-up, ATTN_N, the prompt request and the event cues. While the page is
BUSY for rehearsal its detectors set no bit (R402, R454). -/
def State.raise (s : State) (p : Page) (bit : Nat) : State :=
  if s.busyOf p == .rehearsal then s
  else (s.withEvt (fun s => s.wr (pageAddr p 0x010) (s.rd (pageAddr p 0x010) ||| (1#32 <<< bit)))).trigEvent p bit

/-- Set an EVT_RAW bit if a condition holds. -/
def State.raiseIf (s : State) (b : Bool) (p : Page) (bit : Nat) : State := if b then s.raise p bit else s

/-! ### ECC (R9) -/

/-- A read meets an ECC error in an SRAM row: corrected and written back, or detected (R9). -/
def State.eccError (s : State) (row : Nat) (double : Bool) : State :=
  let s := ((s.setB .house HouseR.ECC_LAST_UNC double).setF .house HouseR.ECC_LAST_MACRO (row / 1024)).setF
    .house HouseR.ECC_LAST_ROW (row % 1024)
  if double then (s.inc .house HouseR.ECC_CNT_UNCORR).raise .house 16
  else ({ s with ecc := tabSet (fun _ => 0) s.ecc row 0 }.inc .house HouseR.ECC_CNT_CORR).raise .house 1

/-- One row is read: what its error brings, and whether it, or one of the rows before it, was uncorrectable. -/
def State.rowRead (r : State × Bool) (row : Nat) : State × Bool :=
  let e := tabGet (fun _ => 0) r.1.ecc row
  if e = 0 then r else (r.1.eccError row (decide (512 ≤ e)), r.2 || decide (512 ≤ e))

/-- A read of `n` bytes of a window from `a`: whether it met an uncorrectable error, and what each error brings. -/
def State.sramRead (s : State) (a n : Nat) : State × Bool := (sramRows a n).foldl State.rowRead (s, false)

/-- A read of the register at `a` from the page storage. -/
def State.pageRead (s : State) (a : Nat) : State × Bool :=
  if s.ecc.isEmpty then (s, false) else State.rowRead (s, false) (pageRow a)

/-- GRP_PENDg (R447). -/
def State.grpPend (s : State) (g : Grp) : Word :=
  (grpPaths g).foldl (fun acc q =>
    let w := s.evtPend (.path q)
    let acc := if fget w 15 0 != 0 || w.getLsbD 24 then acc ||| (1#32 <<< pathIdx q) else acc
    if fget w 23 16 != 0 || fget w 31 25 != 0 then acc ||| (1#32 <<< (16 + pathIdx q)) else acc) 0

end Sys2Proof.Machine
end

