-- ==== Sys2Proof/Machine/Coupled.lean ====
section
/-!
DEFINITION. Machine/Coupled.lean: rates (R84), target limits (R148, R149) and the rules of the coupled sets (R264), over a
valuation `v` of the registers: the present values, or the values a scene would leave. Frequencies are kept exact:
`fvco` is f_VCO in units of 2^-25 Hz, and a symbol rate is `fvco / (2^24 × D)` Hz.
-/
namespace Sys2Proof.Machine

/-- A field under a valuation. -/
def vf (v : Nat → Word) (p : Page) (x : Fld) : Nat := fget (v (pageAddr p x.off)) x.hi x.lo

/-- The declared frequency of the selected reference, in 0.5 Hz (R84). -/
def vRef (v : Nat → Word) : Nat :=
  if vf v .time TimeR.REF_STAT_IN_USE = 0 then vf v .time TimeR.REF0_FREQ_FREQ else vf v .time TimeR.REF1_FREQ_FREQ

/-- Whether PLL A (false) or B (true) of a group is enabled. -/
def vPllEn (v : Nat → Word) (g : Grp) (b : Bool) : Bool :=
  vf v (gp g) (if b then GroupR.PLLB_CFG_EN else GroupR.PLLA_CFG_EN) != 0

/-- f_VCO of a PLL, in 2^-25 Hz (R84). -/
def vFvco (v : Nat → Word) (g : Grp) (b : Bool) : Nat :=
  vRef v * (vf v (gp g) (if b then GroupR.PLLB_CFG_N else GroupR.PLLA_CFG_N) * 2 ^ 24 +
    vf v (gp g) (if b then GroupR.PLLB_FRAC_FRAC else GroupR.PLLA_FRAC_FRAC))

/-- The PLL a path selects, its divider and its modulation. -/
def vSel (v : Nat → Word) (p : Path) : Bool := vf v (pp p) PathR.LINE_CFG_PLL_SEL != 0
def vDiv (v : Nat → Word) (p : Path) : Nat := 2 ^ vf v (pp p) PathR.LINE_CFG_DIV
def vPam4 (v : Nat → Word) (p : Path) : Bool := vf v (pp p) PathR.LINE_CFG_MOD != 0

/-- f_VCO of the PLL a path selects. -/
def vPathFvco (v : Nat → Word) (p : Path) : Nat := vFvco v (pathGrp p) (vSel v p)

/-- The path's symbol rate lies from `lo` to `hi` kHz. -/
def vRateIn (v : Nat → Word) (p : Path) (lo hi : Nat) : Bool :=
  let u := 2 ^ 24 * vDiv v p * 1000
  decide (lo * u ≤ vPathFvco v p ∧ vPathFvco v p ≤ hi * u)

/-- The path's symbol rate lies within ±100 ppm of `k` kHz (R175). -/
def vRateAt (v : Nat → Word) (p : Path) (k : Nat) : Bool :=
  let t : Nat := 2 ^ 24 * vDiv v p * 1000 * k
  decide (((vPathFvco v p : Int) - (t : Int)).natAbs * 10000 ≤ t)

/-- The path's own PAGE_CTL.OOS bit, which the coupled checks use (R360). -/
def vOos (v : Nat → Word) (p : Path) : Bool := vf v (pp p) Hdr.PAGE_CTL_OOS != 0

/-- The symbol rate is in the range of R84 for the path's modulation. -/
def vRateLegal (v : Nat → Word) (p : Path) : Bool :=
  if vPam4 v p then vRateIn v p 26562500 56250000 else vRateIn v p 8000000 32500000

/-- R175: the profile fields, the modulation, the symbol rate and PORT_W match a row of the table. -/
def vProfileRow (v : Nat → Word) (p : Path) : Bool :=
  let prof := vf v (pp p) PathR.PROF_CFG_PROFILE
  let phy := vf v (pp p) PathR.PROF_CFG_PHY
  let fec := vf v (pp p) PathR.PROF_CFG_FEC
  let pam := vPam4 v p
  let w := vf v (pp (pathAB (laneOf p))) PathR.TRN_PAIR_PORT_W
  (prof == 0 && phy == 0 && fec == 0 && vRateLegal v p) ||
  (prof == 1 && phy == 0 && fec == 0 && !pam && vRateLegal v p) ||
  (prof == 2 && phy == 0 && fec == 2 && pam && (vRateAt v p 48660480 || vRateAt v p 54067200)) ||
  (prof == 3 && phy == 1 && fec == 0 && !pam && w == 0 && (vRateAt v p 10312500 || vRateAt v p 25781250)) ||
  (prof == 3 && phy == 1 && fec == 1 && !pam && w == 0 && vRateAt v p 25781250) ||
  (prof == 3 && phy == 2 && fec == 2 && pam && w == 0 && vRateAt v p 26562500) ||
  (prof == 3 && phy == 3 && fec == 2 && pam && w == 0 && (vRateAt v p 53125000 || vRateAt v p 56250000))

/-- R148: (c in 0.1 ns, n, floor in ns) of a profile and modulation. -/
def minConsts (prof : Nat) (pam : Bool) : Nat × Nat × Nat :=
  if prof = 0 then (if pam then (58, 15, 0) else (80, 10, 0))
  else if prof = 1 then (80, 11, 0)
  else if prof = 2 then (60, 69, 190)
  else if pam then (60, 69, 190) else (60, 40, 190)

/-- PIN_MIN in ps: 1,000 × ceil((c + n × T_beat) / 1 ns), no less than the floor (R148). 0 while no rate is set. -/
def vPinMin (v : Nat → Word) (p : Path) : Nat :=
  let k := minConsts (vf v (pp p) PathR.PROF_CFG_PROFILE) (vPam4 v p)
  let fv := vPathFvco v p
  if fv = 0 then 0
  else
    let num := k.1 * fv + k.2.1 * 1280 * 1000000000 * 2 ^ 24 * vDiv v p
    let ns := (num + 10 * fv - 1) / (10 * fv)
    1000 * (if ns < k.2.2 then k.2.2 else ns)

/-- PIN_MAX in ps (R149). -/
def vPinMax (v : Nat → Word) (p : Path) : Nat := vPinMin v p + 200000

/-- R149 for one path. -/
def vTargetOk (v : Nat → Word) (p : Path) : Bool :=
  vOos v p || (decide (vPinMin v p ≤ vf v (pp p) PathR.LAT_TARGET_TARGET) &&
    decide (vf v (pp p) PathR.LAT_TARGET_TARGET ≤ vPinMax v p))

/-- R84 for one PLL: disabled, or f_VCO from 14.0 GHz to 28.125 GHz. -/
def vPllOk (v : Nat → Word) (g : Grp) (b : Bool) : Bool :=
  !vPllEn v g b || (decide (14000000000 * 2 ^ 25 ≤ vFvco v g b) && decide (vFvco v g b ≤ 28125000000 * 2 ^ 25))

/-- The first three conditions of R85 for a group. -/
def vRateOk (v : Nat → Word) (g : Grp) : Bool :=
  vPllOk v g false && vPllOk v g true &&
  (grpPaths g).all (fun p => vOos v p || (vPllEn v g (vSel v p) && vRateLegal v p && vProfileRow v p))

/-- All of R85: also every target at or above its minimum. -/
def vR85 (v : Nat → Word) (g : Grp) : Bool :=
  vRateOk v g &&
  (grpPaths g).all (fun p => vOos v p || decide (vPinMin v p ≤ vf v (pp p) PathR.LAT_TARGET_TARGET))

/-- The six taps (C_M3, C_M2, C_M1, C_0, C_P1, C_P2) of a path's transmitter. -/
def vTaps (v : Nat → Word) (p : Path) : List Int :=
  [sx 8 (vf v (pp p) PathR.TX_FIR0_C_M3), sx 8 (vf v (pp p) PathR.TX_FIR0_C_M2), sx 8 (vf v (pp p) PathR.TX_FIR0_C_M1),
   sx 8 (vf v (pp p) PathR.TX_FIR0_C_0), sx 8 (vf v (pp p) PathR.TX_FIR1_C_P1), sx 8 (vf v (pp p) PathR.TX_FIR1_C_P2)]

/-- The range of each tap in TX_FIR0 and TX_FIR1. -/
def tapRange : List (Int × Int) := [(-8, 8), (-12, 12), (-24, 24), (16, 64), (-32, 32), (-16, 16)]

/-- Each tap is within its range. -/
def tapsInRange (t : List Int) : Bool := (t.zip tapRange).all (fun x => decide (x.2.1 ≤ x.1 ∧ x.1 ≤ x.2.2))

/-- R103: ranges, main cursor and magnitude sum. -/
def tapsOk (t : List Int) : Bool :=
  tapsInRange t && decide ((t.map Int.natAbs).sum ≤ 64)

/-- R121 for a group: all lane pairs of each port hold the same PORT_W. -/
def vPortsOk (v : Nat → Word) (g : Grp) : Bool :=
  let w (i : Nat) : Nat := vf v (.path ⟨(8 * g.val + i) % 64, by omega⟩) PathR.TRN_PAIR_PORT_W
  (List.range 8).all (fun i => w (i / 2 ^ w i * 2 ^ w i) == w i) &&
  (List.range 8).all (fun i => (List.range (2 ^ w i)).all (fun k => w (i / 2 ^ w i * 2 ^ w i + k) == w i))

/-- R174: both paths of a lane pair hold the same PROFILE, PHY and FEC. -/
def vPairOk (v : Nat → Word) (n : Lane) : Bool :=
  let f (x : Fld) : Bool := vf v (pp (pathAB n)) x == vf v (pp (pathBA n)) x
  f PathR.PROF_CFG_PROFILE && f PathR.PROF_CFG_PHY && f PathR.PROF_CFG_FEC

/-- The paths bound for extraction, or for insertion, to a port. -/
def vBound (v : Nat → Word) (ins : Bool) (k : Nat) : List Path :=
  allPaths.filter (fun p =>
    if ins then vf v (pp p) PathR.FP_BIND_INS_EN != 0 && vf v (pp p) PathR.FP_BIND_INS_PORT == k
    else vf v (pp p) PathR.FP_BIND_EXT_EN != 0 && vf v (pp p) PathR.FP_BIND_EXT_PORT == k)

/-- R227. -/
def vBindOk (v : Nat → Word) : Bool :=
  (List.range 4).all (fun k =>
    let e := vBound v false k
    let i := vBound v true k
    decide (e.length ≤ 1) && decide (i.length ≤ 1) &&
    e.all (fun p => i.all (fun q => q == otherPath p)) &&
    (e ++ i).all (fun p => vf v (pp p) PathR.PROF_CFG_PROFILE == 3))

/-- R215. -/
def vRefOk (v : Nat → Word) : Bool :=
  let ok (n : Nat) : Bool := decide (200000000 ≤ n ∧ n ≤ 1000000000)
  let f0 := vf v .time TimeR.REF0_FREQ_FREQ
  let f1 := vf v .time TimeR.REF1_FREQ_FREQ
  ok f0 && ok f1 && (vf v .time TimeR.REF_CFG_BACKUP_EN == 0 || f0 == f1) && allGroups.all (vR85 v)

/-! ### The sets a scene touches (R261, R264) -/

/-- An instance of a coupled set: the set, and its group, lane pair or path. -/
abbrev SetInst := CSet × Nat

/-- A path of the lane pair is bound to a frame port (R227). -/
def vPairBound (v : Nat → Word) (n : Lane) : Bool :=
  [pathAB n, pathBA n].any (fun p => vf v (pp p) PathR.FP_BIND_EXT_EN != 0 || vf v (pp p) PathR.FP_BIND_INS_EN != 0)

/-- The instances a member of set `c` in page `p` belongs to, or whose rule the naming of it brings in: RATE members belong to the
LATENCY set of each of the group's paths; PROFILE members to those of their two paths, and they are validated under R85 for their
group and, where the lane pair is bound under `v`, under R227 (R149, R174). -/
def setInsts (v : Nat → Word) (c : CSet) (p : Page) : List SetInst :=
  match c, p with
  | .rate, .group g => (.rate, g.val) :: (grpPaths g).map (fun q => (.latency, q.val))
  | .rate, .path q => (.rate, (pathGrp q).val) :: (grpPaths (pathGrp q)).map (fun r => (.latency, r.val))
  | .txfir, .path q => [(.txfir, q.val)]
  | .trnport, .path q => [(.trnport, (pathGrp q).val)]
  | .latency, .path q => [(.latency, q.val)]
  | .profile, .path q => (.profile, (laneOf q).val) :: (.rate, (pathGrp q).val) ::
      ((grpPaths (pathGrp q)).map (fun r => (CSet.latency, r.val)) ++ (if vPairBound v (laneOf q) then [(.fpbind, 0)] else []))
  | .fpbind, _ => [(.fpbind, 0)]
  | .refclk, _ => [(.refclk, 0)]
  | _, _ => []

/-- A group, lane pair or path by number. -/
def grpAt (n : Nat) : Grp := ⟨n % 8, by omega⟩
def laneAt (n : Nat) : Lane := ⟨n % 64, by omega⟩
def pathAt (n : Nat) : Path := ⟨n % 128, by omega⟩

/-- The registers of a group's RATE set (R85). -/
def rateRegs (g : Grp) : List Nat :=
  [pageAddr (gp g) 0x040, pageAddr (gp g) 0x044, pageAddr (gp g) 0x048, pageAddr (gp g) 0x04C] ++
  (grpPaths g).map (fun p => pageAddr (pp p) 0x050)

/-- The registers that hold the reference frequencies R85 reads. -/
def refRegs : List Nat := [pageAddr .time 0x080, pageAddr .time 0x084, pageAddr .time 0x088]

/-- TRN_PAIR of a group's lane pairs, read by R175. -/
def portRegs (g : Grp) : List Nat :=
  (List.range 8).map (fun i => pageAddr (.path (pathAt (8 * g.val + i))) 0x200)

/-- PROF_CFG, LAT_TARGET and PAGE_CTL of a group's paths. -/
def profRegs (g : Grp) : List Nat := (grpPaths g).map (fun p => pageAddr (pp p) 0x340)
def targetRegs (g : Grp) : List Nat := (grpPaths g).map (fun p => pageAddr (pp p) 0x2C0)
def oosRegs (g : Grp) : List Nat := (grpPaths g).map (fun p => pageAddr (pp p) 0x008)

/-- Everything R85 reads for a group. -/
def r85Regs (g : Grp) : List Nat := rateRegs g ++ refRegs ++ portRegs g ++ profRegs g ++ targetRegs g ++ oosRegs g

/-- The registers of a set instance, and those its rule reads (R261, items 2 and 3). -/
def instRegs (i : SetInst) : List Nat :=
  match i.1 with
  | .rate => r85Regs (grpAt i.2)
  | .txfir => [pageAddr (pp (pathAt i.2)) 0x1C0, pageAddr (pp (pathAt i.2)) 0x1C4]
  | .trnport => portRegs (grpAt i.2) ++ rateRegs (grpAt i.2) ++ refRegs ++ profRegs (grpAt i.2) ++ oosRegs (grpAt i.2)
  | .latency => rateRegs (pathGrp (pathAt i.2)) ++ refRegs ++
      [pageAddr (pp (pathAt i.2)) 0x2C0, pageAddr (pp (pathAt i.2)) 0x340, pageAddr (pp (pathAt i.2)) 0x008]
  | .profile => [pageAddr (pp (pathAB (laneAt i.2))) 0x340, pageAddr (pp (pathBA (laneAt i.2))) 0x340] ++
      r85Regs (pathGrp (pathAB (laneAt i.2)))
  | .fpbind => allPaths.map (fun p => pageAddr (pp p) 0x480) ++ allPaths.map (fun p => pageAddr (pp p) 0x340)
  | .refclk => refRegs ++ allGroups.flatMap r85Regs

/-- The rule of a set instance (R264). -/
def instOk (v : Nat → Word) (i : SetInst) : Bool :=
  match i.1 with
  | .rate => vRateOk v (grpAt i.2)
  | .txfir => tapsOk (vTaps v (pathAt i.2))
  | .trnport => vPortsOk v (grpAt i.2) && (grpPaths (grpAt i.2)).all (fun p => vOos v p || vProfileRow v p)
  | .latency => vTargetOk v (pathAt i.2)
  | .profile => vPairOk v (laneAt i.2) &&
      [pathAB (laneAt i.2), pathBA (laneAt i.2)].all (fun p => vOos v p || vProfileRow v p)
  | .fpbind => vBindOk v
  | .refclk => vRefOk v

/-- The cause of a broken rule: 6 RANGE for LATENCY, 7 COUPLING for the others (R264). -/
def instCause (i : SetInst) : Nat := match i.1 with | .latency => 6 | _ => 7

/-! ### Rates of a path as the machine stands -/

/-- The present values. -/
def State.now (s : State) : Nat → Word := s.rd

/-- The symbol rate of a path, times 2^24 × D (the exact `fvco`), and 2^24 × D. -/
def State.fv (s : State) (p : Path) : Nat := vPathFvco s.now p
def State.fd (s : State) (p : Path) : Nat := 2 ^ 24 * vDiv s.now p

/-- A beat of the path in femtoseconds, rounded up (128 symbols); 0 while no rate is set. -/
def State.beatFs (s : State) (p : Path) : Nat :=
  if s.fv p = 0 then 0 else (128 * 10 ^ 15 * s.fd p + s.fv p - 1) / s.fv p

/-- PIN_ADJ.STEP_FS: UI / 64 in fs, rounded to the nearest (log 20). -/
def State.stepFs (s : State) (p : Path) : Nat :=
  if s.fv p = 0 then 0 else (2 * 10 ^ 15 * s.fd p + 64 * s.fv p) / (128 * s.fv p)

/-- A signed quotient rounded to the nearest integer, halves away from zero. -/
def roundDiv (n : Int) (d : Nat) : Int :=
  if d = 0 then 0
  else if n ≥ 0 then (2 * n + d) / (2 * (d : Int)) else -((2 * (-n) + d) / (2 * (d : Int)))

/-- A difference of `x` ps as a number of steps of UI / 64 (R159, R165). -/
def State.psToSteps (s : State) (p : Path) (x : Int) : Int := roundDiv (x * 64 * (s.fv p : Int)) (s.fd p * 10 ^ 12)

end Sys2Proof.Machine
end

