-- ==== Sys2Proof/Machine/Pin.lean ====
section
/-!
DEFINITION. Machine/Pin.lean: pinned latency (chapter 06): the electrical-idle conditions of R104 that discard the elastic
stage, placement, the probe and its windows, the pin loop, the pin states, marks and target changes.
-/
namespace Sys2Proof.Machine

/-! ### Pin states (R163) -/

def pinIdle : Nat := 0
def pinPlacing : Nat := 1
def pinPinned : Nat := 2
def pinUnverified : Nat := 3
def pinLost : Nat := 4
def pinSlewing : Nat := 5

/-- PIN_STAT.STATE of a path. -/
def State.pin (s : State) (p : Path) : Nat := s.f (pp p) PathR.PIN_STAT_STATE

/-- Whether the path's pin is verified (R163). -/
def State.verified (s : State) (p : Path) : Bool := s.pin p == pinPinned

/-- Update a path's record. -/
def State.modPath (s : State) (p : Path) (f : PathSt → PathSt) : State := s.setPath p (f (s.path p))

/-- Forget the window in progress (R152). -/
def State.newWindow (s : State) (p : Path) : State :=
  s.modPath p (fun x => { x with samples := 0, sum := 0, adjMoved := false })

/-- Enter a pin state: the runs of good and bad windows start again. -/
def State.pinTo (s : State) (p : Path) (st : Nat) : State :=
  (s.setF (pp p) PathR.PIN_STAT_STATE st).modPath p (fun x => { x with good := 0, bad := 0 })

/-- Microseconds between two elapsed times in fs. -/
def usec (fs : Nat) : Nat := fs / 1000000000

/-- SVC_STAT.TO_PINNED_US takes the time from the group's last exit to the first PINNED after it (R369). -/
def State.toPinned (s : State) (p : Path) : State :=
  if s.f (pp p) PathR.SVC_STAT_TO_PINNED_US = 0xFFFF then
    s.setF (pp p) PathR.SVC_STAT_TO_PINNED_US (satNat 0xFFFF (usec (s.elapsed - (s.grp (pathGrp p)).exitAt)))
  else s

/-- Enter PINNED: PIN_DONE, UNV_CAUSE = 0 (R164, R173). -/
def State.enterPinned (s : State) (p : Path) : State :=
  (((s.pinTo p pinPinned).setF (pp p) PathR.PIN_STAT_UNV_CAUSE 0).toPinned p).raise (pp p) 8

/-- Enter LOST with a cause: LOSTS counts and PIN_LOST is set (R164, R173). -/
def State.enterLost (s : State) (p : Path) (cause : Nat) : State :=
  (((s.pinTo p pinLost).setF (pp p) PathR.PIN_STAT_LOST_CAUSE cause).inc (pp p) PathR.PIN_CNT_LOSTS).raise (pp p) 21

/-- LOST_CAUSE of the PINNED row of R164. -/
def State.lostCause (s : State) (p : Path) : Nat :=
  if s.on (pp p) PathR.PIN_STAT_AT_LIMIT then 1 else if s.on (pp p) PathR.PIN_CTL_FRZ then 2 else 4

/-- Enter UNVERIFIED with a cause; the steps of a slew not yet taken are abandoned (R164, R166, R173). -/
def State.enterUnverified (s : State) (p : Path) (cause : Nat) : State :=
  (((s.pinTo p pinUnverified).setF (pp p) PathR.PIN_STAT_UNV_CAUSE cause).modPath p
    (fun x => { x with slewLeft := 0 })).raise (pp p) 10

/-- Set ADJ, and with it AT_LIMIT, MARGIN and the PIN_MARGIN event (R160, R162). -/
def State.setAdj (s : State) (p : Path) (a : Int) : State :=
  let was := s.on (pp p) PathR.PIN_STAT_MARGIN
  let margin := decide (a.natAbs > 192)
  (((s.setS (pp p) PathR.PIN_ADJ_ADJ a).setB (pp p) PathR.PIN_STAT_AT_LIMIT (decide (a.natAbs ≥ 255))).setB
    (pp p) PathR.PIN_STAT_MARGIN margin).raiseIf (margin && !was) (pp p) 9

/-- Move ADJ by `d`, no further than ±255 (R160). -/
def State.moveAdj (s : State) (p : Path) (d : Int) : State :=
  if d = 0 then s else s.setAdj p (clampInt 255 (s.sf (pp p) PathR.PIN_ADJ_ADJ + d))

/-! ### Electrical idle (R104) and the disabling conditions (R141) -/

/-- A group in INTERMISSION or OFF, or entering or leaving one (R356, R365). -/
def State.grpDown (s : State) (g : Grp) : Bool := decide (2 ≤ s.f (gp g) GroupR.PWR_STAT_STATE)

/-- The path acts as out of service: its own bit or its group's (R360). -/
def State.oos (s : State) (p : Path) : Bool :=
  s.on (pp p) Hdr.PAGE_CTL_OOS || s.on (gp (pathGrp p)) Hdr.PAGE_CTL_OOS

/-- The device serves its lanes: lanes are ready and it is not in full reset or DARK. -/
def State.live (s : State) : Bool := s.device == .ready || s.device == .enteringDark

/-- The PLL a path selects is locked (R86, R87). -/
def State.pllLock (s : State) (g : Grp) (b : Bool) : Bool :=
  s.on (gp g) (if b then GroupR.PLL_STAT_B_LOCK else GroupR.PLL_STAT_A_LOCK)
def State.pathPll (s : State) (p : Path) : Bool := s.pllLock (pathGrp p) (vSel s.now p)

/-- Signal detect, and clock-recovery lock. -/
def State.sd (s : State) (p : Path) : Bool := s.on (pp p) PathR.RX_STAT_SD
def State.lock (s : State) (p : Path) : Bool := s.on (pp p) PathR.RX_STAT_CDR_LOCK

/-- Clock recovery stops turning the interpolator: the phase it holds, and the UI it has counted, are measured, so a free value (R98,
log 1). -/
def State.piHold (s : State) (p : Path) : State := s.draw.2.modPath p (fun x => { x with piHeld := s.draw.1 &&& 0xFFFFFF3F#32 })

/-- TX_STAT.IDLE_CAUSE: the lowest-numbered condition of R104 in force, 0 for none. Boundary scan acts as condition 1
(log 21). -/
def State.idleCause (s : State) (p : Path) : Nat :=
  if s.oos p || !s.live || s.land.scan then 1
  else if s.grpDown (pathGrp p) then 2
  else if s.on (pp p) PathR.TX_CTL_FORCE_IDLE then 3
  else if !s.pathPll p then 4
  else if !s.sd p then 5
  else if !s.lock p then 6
  else if !(s.path p).placed then 7
  else 0

/-- A disabling condition of R141 holds for lane pair `n`. -/
def State.disabling (s : State) (n : Lane) : Bool :=
  s.oos (pathAB n) || s.oos (pathBA n) ||
  s.busyOf (pp (pathAB n)) == .rehearsal || s.busyOf (pp (pathBA n)) == .rehearsal ||
  s.grpDown (pathGrp (pathAB n)) || !s.live || s.land.scan

/-- The elastic stage of a path is discarded (R99, R164): conditions 1 to 6 of R104, or a disabling condition. It holds line-rate data
only, so it is not placed in page mode (R117, log 169). -/
def State.stageGone (s : State) (p : Path) : Bool :=
  (s.idleCause p != 0 && s.idleCause p != 7) || s.disabling (laneOf p) || s.f (pp p) PathR.TRN_STAT_STATE == 2

/-! ### Placement (R159) -/

/-- Discard the elastic stage: the path is idle, and a slew ends. -/
def State.discard (s : State) (p : Path) : State :=
  (((s.modPath p (fun x => { x with placed := false, slewLeft := 0, wins := 0 })).newWindow p).pinTo p pinIdle)

/-- PIN_FIXED: F as modelled at the latest window, before the first one F(25 °C) from the calibration record (R153). -/
def State.pinFixed (s : State) (p : Path) : Nat :=
  if (s.path p).fixedOk then s.f (pp p) PathR.PIN_FIXED_FIXED
  else
    let t : TrimSt := tabGet (fun _ => {}) s.trims p.val
    (Config.fixedAt25 p.val t.dIn t.dOut).toNat

/-- PIN_HELD − PIN_FIXED in steps of UI / 64, rounded (R159). -/
def State.placeSteps (s : State) (p : Path) (held : Nat) : Int := s.psToSteps p ((held : Int) - (s.pinFixed p : Int))

/-- ELASTIC_STAT.FILL: the minimum fill of 256 symbols and READ_OFS, in whole beats of 128 (R99, R150). -/
def State.elasticFill (s : State) (p : Path) : Nat :=
  if (s.path p).placed then satNat 96 ((256 + s.f (pp p) PathR.PIN_PLACE_READ_OFS) / 128) else 0

/-- Place the stage (R159). The path enters PLACING, or UNVERIFIED while its probe has seen no zeroing mark or is paused
(R164; log 22 for a paused probe). -/
def State.place (s : State) (p : Path) : State :=
  let held := s.f (pp p) PathR.LAT_TARGET_TARGET
  let st := s.placeSteps p held
  let s := (((((s.setF (pp p) PathR.PIN_HELD_HELD held).setF (pp p) PathR.PIN_STAT_PENDING 0).setF
    (pp p) PathR.PIN_PLACE_READ_OFS (enc 14 (st / 64))).setF (pp p) PathR.PIN_PLACE_PHASE (enc 6 (st % 64))).setAdj p 0).inc
    (pp p) PathR.PIN_CNT_PLACES
  let s := (s.modPath p (fun x => { x with placed := true, record := true, slewLeft := 0, wins := 0 })).newWindow p
  if (s.path p).pause = 0 then s.pinTo p pinPlacing else s.enterUnverified p (s.path p).pause

/-- Bring a path's stage in line with the conditions: discarded while one holds, placed at the first boundary at which none
does (R99, R159, R164). -/
def State.settleStage (s : State) (p : Path) : State :=
  if s.stageGone p then (if (s.path p).placed || s.pin p != pinIdle then s.discard p else s)
  else if (s.path p).placed then s else s.place p

/-! ### The probe (R152 to R158) -/

/-- A window has ended invalid: it counts towards the 64 windows of PLACING and nothing else (R164). -/
def State.windowInvalid (s : State) (p : Path) : State :=
  let s := (s.modPath p (fun x => { x with wins := x.wins + 1 })).newWindow p
  if s.pin p == pinPlacing && decide ((s.path p).wins ≥ 64) then s.enterLost p 3 else s

/-- One sample of the probe, in 1/16 ps (R152). No sample is taken while the path is idle or its probe is paused; one taken
while ADJ moved ends its window invalid. -/
def State.probeSample (s : State) (p : Path) (l : Nat) : State :=
  let x := s.path p
  if s.pin p == pinIdle || x.pause != 0 || decide (x.samples ≥ 256) then s
  else if x.adjMoved then s.windowInvalid p
  else s.setPath p { x with samples := x.samples + 1, sum := x.sum + l }

/-- |ERR| in 1/16 ps exceeds half a step of UI / 64. -/
def State.overHalfStep (s : State) (p : Path) (e : Int) : Bool :=
  decide (e.natAbs * 128 * s.fv p > s.fd p * 16000000000000)

/-- How far the loop moves ADJ at the end of a valid window with error `e` in 1/16 ps (R160, R161). After the last step of
a slew the loop acts as in PINNED (log 23). -/
def State.loopMove (s : State) (p : Path) (e : Int) : Int :=
  let st := s.pin p
  if s.on (pp p) PathR.PIN_CTL_FRZ then 0
  else if st == pinPlacing || st == pinUnverified then
    clampInt 16 (-roundDiv (e * 64 * (s.fv p : Int)) (s.fd p * 16000000000000))
  else if st == pinPinned || st == pinLost || (st == pinSlewing && (s.path p).slewLeft == 0) then
    (if s.overHalfStep p e then (if e > 0 then -1 else 1) else 0)
  else 0

/-- The table of R164 at the end of a valid window, from the runs of good and bad windows as they now stand. -/
def State.pinStep (s : State) (p : Path) : State :=
  let st := s.pin p
  let x := s.path p
  if st == pinPlacing then
    if x.good ≥ 2 then s.enterPinned p else if x.wins ≥ 64 then s.enterLost p 3 else s
  else if st == pinUnverified then
    if x.good ≥ 2 then s.enterPinned p else if x.bad ≥ 4 then s.enterLost p (s.lostCause p) else s
  else if st == pinPinned then (if x.bad ≥ 4 then s.enterLost p (s.lostCause p) else s)
  else if st == pinLost then (if x.good ≥ 4 then s.enterPinned p else s)
  else if st == pinSlewing && x.slewLeft == 0 then
    if x.good ≥ 1 then s.enterPinned p else if x.bad ≥ 4 then s.enterLost p (s.lostCause p) else s
  else s

/-- The end of a window of 256 samples (R152, R153, R160, R164): MEAS, ERR, FIXED, ERRMAX, the loop and the pin state. ERRMAX takes
any valid window, and one that ends in the state PINNED is one that finds the path so (log 172). -/
def State.windowEnd (s : State) (p : Path) (fixed : Nat) : State :=
  let x := s.path p
  let mean := (2 * x.sum + 256) / 512
  let held := s.f (pp p) PathR.PIN_HELD_HELD
  let e := clampInt 0x7FFF ((mean : Int) - 16 * (held : Int))
  let good := decide (e.natAbs ≤ 24)
  let bad := decide (e.natAbs > 4 * s.f (pp p) PathR.PIN_CTL_WIN)
  let s := ((s.setF (pp p) PathR.PIN_MEAS_MEAS mean).setS (pp p) PathR.PIN_ERR_ERR e).setF (pp p) PathR.PIN_FIXED_FIXED fixed
  let s := if s.pin p == pinPinned && decide (s.f (pp p) PathR.PIN_ERRMAX_ERRMAX < e.natAbs) then
      s.setF (pp p) PathR.PIN_ERRMAX_ERRMAX e.natAbs else s
  let d := s.loopMove p e
  let s := (s.moveAdj p d).modPath p (fun x =>
    { x with fixedOk := true, wins := x.wins + 1, good := if good then x.good + 1 else 0, bad := if bad then x.bad + 1 else 0 })
  (s.newWindow p).pinStep p

/-- PROBE_WINDOW_END: acts when the window's 256 samples have been taken (R152). -/
def State.probeWindow (s : State) (p : Path) (fixed : Nat) : State :=
  if s.pin p == pinIdle || (s.path p).pause != 0 || (s.path p).samples != 256 then s else s.windowEnd p fixed

/-- The probe of a path pauses for a cause (R155, R156, R158). Every probe pauses with cause 3 at a change of reference; else one
already paused keeps its cause (log 24). -/
def State.pauseProbe (s : State) (p : Path) (cause : Nat) : State :=
  let x := s.path p
  if x.pause != 0 && cause != 3 then s
  else
    let s := (s.setPath p { x with pause := cause }).newWindow p
    let st := s.pin p
    if st == pinIdle then s
    else if st == pinUnverified then s.setF (pp p) PathR.PIN_STAT_UNV_CAUSE cause
    else s.enterUnverified p cause

/-- The probe of a path resumes: a new window starts (R152). -/
def State.resumeProbe (s : State) (p : Path) : State :=
  ((s.modPath p (fun x => { x with pause := 0, good := 0, bad := 0 })).newWindow p)

/-- A zeroing mark at one path (R154 to R156): MISS_RUN clears and a probe paused for a mark cause or a reference change resumes,
but not during such a change (R158). -/
def State.zeroPath (s : State) (p : Path) : State :=
  let s := (s.modPath p (fun x => { x with miss := 0, moved := false, zeroAt := some s.elapsed })).setF
    (pp p) PathR.PIN_MARK_MISS_RUN 0
  let c := (s.path p).pause
  if c != 0 && c != 4 && !s.on .time TimeR.REF_STAT_CHANGING then s.resumeProbe p else s

/-- A missing or moved mark at one path (R155, R156): beyond MARK_GRACE the probe pauses. -/
def State.missPath (s : State) (moved : Bool) (p : Path) : State :=
  let s := s.modPath p (fun x => { x with miss := x.miss + 1, moved := x.moved || moved })
  let s := s.setF (pp p) PathR.PIN_MARK_MISS_RUN (satNat 15 (s.path p).miss)
  if (s.path p).miss > s.f (pp p) PathR.PIN_CTL_MARK_GRACE then
    s.pauseProbe p (if (s.path p).moved then 2 else 1) else s

/-! ### Slews and target changes (R165, R166, R511) -/

/-- One step of a slew (R165); none while FRZ = 1 (R166). -/
def State.slewStep (s : State) (p : Path) : State :=
  let x := s.path p
  if s.pin p != pinSlewing || x.slewLeft == 0 || s.on (pp p) PathR.PIN_CTL_FRZ then s
  else
    let d : Int := if x.slewLeft > 0 then 1 else -1
    (s.setPath p { x with slewLeft := x.slewLeft - d, adjMoved := true, good := 0, bad := 0 }).moveAdj p d

/-- A commit has changed TARGET of a path (R165, R166, R511). -/
def State.targetChange (s : State) (p : Path) : State :=
  let new := s.f (pp p) PathR.LAT_TARGET_TARGET
  let take (s : State) := (s.setF (pp p) PathR.PIN_HELD_HELD new).setF (pp p) PathR.PIN_STAT_PENDING 0
  let st := s.pin p
  if st == pinIdle then take s
  else
    let k := s.psToSteps p ((new : Int) - (s.f (pp p) PathR.PIN_HELD_HELD : Int))
    let s := s.modPath p (fun x => { x with slewLeft := 0 })
    if k = 0 then take s
    else if (s.sf (pp p) PathR.PIN_ADJ_ADJ + k).natAbs ≤ 192 then
      if st == pinPlacing || st == pinUnverified then take s
      else ((take s).pinTo p pinSlewing).modPath p (fun x => { x with slewLeft := k })
    else s.setF (pp p) PathR.PIN_STAT_PENDING 1

/-- The registers of chapter 06 at a path or group reset: LAT_TARGET and PIN_CTL keep their values, and the path is idle
(R172). PIN_FIXED goes on showing what R153 says. -/
def State.pinReset (s : State) (p : Path) : State :=
  ((((s.discard p).rstRange (pp p) 0x2C8 0x2E0).rstRange (pp p) 0x2E8 0x2F8).modPath p (fun x => { x with miss := 0, moved := false, zeroAt := none })).setF
    (pp p) PathR.PIN_HELD_HELD (s.f (pp p) PathR.LAT_TARGET_TARGET)

end Sys2Proof.Machine
end

