-- ==== Sys2Proof/Machine/Time.lean ====
section
/-!
DEFINITION. Machine/Time.lean: the timebase (R200 to R215): counting, the one step, rates and holdover, the uncertainty bound,
reference loss and change, and the keep-alive oscillator. The timebase is kept in units of 2^-48 ns.
-/
namespace Sys2Proof.Machine

/-- One second, and one nanosecond, in units of 2^-48 ns. -/
def tbNs : Nat := 281474976710656
def tbSec : Nat := 1000000000 * tbNs

/-- Replace the time record. -/
def State.setTime (s : State) (t : TimeSt) : State := { s with time := t }

/-- Bit 64 to 48 of the seconds are 0, so SEC is the whole seconds of the timebase (R201). -/
def State.sec (s : State) : Nat := s.time.tb / tbSec
def State.nsOf (s : State) : Nat := s.time.tb % tbSec / tbNs
def State.frac16 (s : State) : Nat := s.time.tb % tbNs / 2 ^ 32

/-- QUAL: VALID and not UNC_HIGH (R200). -/
def State.qual (s : State) : Bool := s.on .time TimeR.TIME_STAT_VALID && !s.on .time TimeR.TIME_STAT_UNC_HIGH

/-- The timestamp quad of a timebase value (R200). -/
def State.stampOf (s : State) (tb : Nat) : BitVec 128 :=
  quadOf (BitVec.ofNat 32 (tb / tbSec / 2 ^ 32)) (BitVec.ofNat 32 (tb / tbSec)) (BitVec.ofNat 32 (tb % tbSec / tbNs))
    (BitVec.ofNat 32 (tb % tbNs / 2 ^ 32 * 65536 + b2n s.qual))

/-- The timestamp of the present instant. -/
def State.stamp (s : State) : BitVec 128 := s.stampOf s.time.tb

/-- What the timebase adds at one cycle of the selected reference (R202), in 2^-48 ns, rounded down: the period to which edges are
interpolated. -/
def State.refPeriod (s : State) : Nat :=
  if s.on .time TimeR.TIME_STAT_KEEPALIVE || vRef s.now == 0 then 0 else 2000000000 * tbNs / vRef s.now

/-- The timestamp of an edge that falls within the present cycle, `ofs` later (2^-48 ns): interpolated to 1/64 of its period (R204).
Where in the cycle it falls is a free value (log 160); on the keep-alive oscillator nothing is interpolated (R212). -/
def State.edgeStamp (s : State) (ofs : Nat) : State × BitVec 128 :=
  let d := s.draw
  (d.2, s.stampOf (s.time.tb + d.1.toNat % 64 * s.refPeriod / 64 + ofs))

/-- Write a timestamp quad into four registers of the TIME page. -/
def State.stampRegs (s : State) (off : Nat) (q : BitVec 128) : State :=
  (List.range 4).foldl (fun s i => s.wr (pageAddr .time (off + 4 * i)) (quadWord q i)) s

/-! ### Counting (R202, R212) -/

/-- The declared frequency of the selected reference, in 0.5 Hz. -/
def State.refF (s : State) : Nat := vRef s.now

/-- The timebase counts on the keep-alive oscillator. -/
def State.onKa (s : State) : Bool := s.on .time TimeR.TIME_STAT_KEEPALIVE

/-- Growth of TIME_UNC, in 10^-24 s, over `fs` femtoseconds (R209). -/
def State.uncGrowth (s : State) (fs : Nat) : Nat :=
  (if s.on .time TimeR.TIME_STAT_HOLDOVER || s.f .time TimeR.TIME_CTL_SRC == 0 then
    fs * s.f .time TimeR.HOLD_CFG_HOLD_UNC else 0) +
  (if s.on .time TimeR.TIME_STAT_BRIDGE then fs * 20 * 1000 else 0) +
  (if s.onKa then fs * s.f .time TimeR.UNC_CFG_UNC_KA * 1000 else 0)

/-- TIME_UNC in whole nanoseconds, rounded up and saturated; all ones while unknown. -/
def uncNs : Option Nat → Nat
  | none => 0xFFFFFFFF
  | some u => satNat 0xFFFFFFFF ((u + 10 ^ 15 - 1) / 10 ^ 15)

/-- Set TIME_UNC. UNC_HIGH falls with it at once; its rise is the event UNC_THRESHOLD_CROSSED. -/
def State.setUnc (s : State) (u : Option Nat) : State :=
  let s := (s.setTime { s.time with unc := u }).setF .time TimeR.TIME_UNC_UNC (uncNs u)
  if uncNs u ≤ s.f .time TimeR.UNC_CFG_UNC_THR then s.setF .time TimeR.TIME_STAT_UNC_HIGH 0 else s

/-- Let TIME_UNC grow by `d` (10^-24 s). -/
def State.growUnc (s : State) (d : Nat) : State := s.setUnc (s.time.unc.map (· + d))

/-- A handover between the reference and the bridge PLL or the keep-alive oscillator adds 10 ns (R209). -/
def State.handoverUnc (s : State) : State := s.growUnc (10 * 10 ^ 15)

/-- Make the rise of TIME_UNC above UNC_THR, if it has risen (R206, R209). -/
def State.uncCross (s : State) : State :=
  if decide (uncNs s.time.unc > s.f .time TimeR.UNC_CFG_UNC_THR) && !s.on .time TimeR.TIME_STAT_UNC_HIGH then
    let s := s.setF .time TimeR.TIME_STAT_UNC_HIGH 1
    let s := if s.on .time TimeR.TIME_CTL_AUTO_REARM then s.setF .time TimeR.TIME_STAT_ARMED 1 else s
    s.raise .time 3
  else s

/-- The rate part of one reference cycle, in 2^-48 ns, rounded down (R202). -/
def State.ratePart (s : State) : Int :=
  s.sf .time TimeR.TIME_RATE_RATE * 2000000000 * 2 ^ 8 / (s.refF : Int)

/-- The signed offset of the PPS_OUT edge from the whole second, in 2^-48 ns (R217). -/
def State.ppsOfs (s : State) : Int := s.sf .time TimeR.PPS_OFS_OFS * (tbNs : Int)

/-- Counting takes the timebase to `tb`: where that reaches a whole second plus PPS_OFS, and PPS_OUT is driven, a pulse is due
(R217). -/
def State.countTo (s : State) (tb : Nat) : State :=
  let second (t : Nat) : Int := ((t : Int) - s.ppsOfs) / (tbSec : Int)
  let due := s.on .time TimeR.PPS_CTL_OUT_EN && s.on .time TimeR.TIME_STAT_VALID && decide (second s.time.tb < second tb)
  s.setTime { s.time with tb := tb, ppsDue := s.time.ppsDue || due }

/-- One cycle of the selected reference (R202). -/
def State.refCycle (s : State) : State :=
  let f := s.refF
  let num := 2000000000 * tbNs + s.time.rem
  let fs := 2000000000000000 / f
  let s := s.growUnc (s.uncGrowth fs)
  let s := s.countTo (((s.time.tb + num / f : Nat) : Int) + s.ratePart).toNat
  { s with
    elapsed := s.elapsed + fs,
    time := { s.time with rem := num % f, refCount := s.time.refCount + 1 } }

/-- One cycle of the bridge PLL (R211): what one cycle of the reference adds, scaled by the held N and FRAC. The newly selected
reference goes on meanwhile, so its cycles are counted in the same proportion. -/
def State.bridgeCycle (s : State) : State :=
  let f := s.refF * s.time.bridge
  let num := 2000000000 * tbNs * 2 ^ 24 + s.time.rem
  let fs := 2000000000000000 * 2 ^ 24 / f
  let s := s.growUnc (s.uncGrowth fs)
  let s := s.countTo (((s.time.tb + num / f : Nat) : Int) + s.ratePart * 2 ^ 24 / (s.time.bridge : Int)).toNat
  let ph := s.time.bridgePh + 2 ^ 24
  let wrap := decide (s.time.bridge ≤ ph)
  { s with
    elapsed := s.elapsed + fs,
    time := { s.time with
      rem := num % f, bridgePh := if wrap then ph - s.time.bridge else ph, refCount := s.time.refCount + b2n wrap } }

/-- 1 / 32,768 s in femtoseconds. -/
def kaFs : Nat := 30517578125

/-- One edge of the keep-alive oscillator while the timebase counts on it: KA_PERIOD is added (R212), and it is the time for which the
bound grows (R209, R214). -/
def State.kaEdge (s : State) : State :=
  let per := s.f .time TimeR.KA_PERIOD
  let fs := per * 1000000 / 65536
  let s := s.growUnc (s.uncGrowth fs)
  let s := s.countTo (s.time.tb + per * 2 ^ 32)
  { s with elapsed := s.elapsed + fs, time := { s.time with kaEdges := s.time.kaEdges + 1 } }

/-- What happens by itself at a step with no command waiting (log 5): one edge of what the timebase counts. Before the
selected reference is first present the timebase does not count (R210), and the time of one keep-alive period passes. -/
def State.clockTick (s : State) : State :=
  if s.onKa then s.kaEdge
  else if s.on .time TimeR.TIME_STAT_BRIDGE && s.refF * s.time.bridge != 0 then s.bridgeCycle
  else if s.time.counting && s.refF != 0 then s.refCycle
  else { s with elapsed := s.elapsed + kaFs }

/-! ### The step and the rate (R205, R208) -/

/-- The offset of TIME_STEP in 2^-48 ns (R205). -/
def State.stepOffset (s : State) : Int :=
  sx 48 (s.f .time TimeR.STEP_SEC_HI_STEP_SEC * 2 ^ 32 + s.f .time TimeR.STEP_SEC_LO_STEP_SEC) * (tbSec : Int) +
  ((s.f .time TimeR.STEP_NS * tbNs + s.f .time TimeR.STEP_FRAC * 2 ^ 32 : Nat) : Int)

/-- The result of the step lies within 0 to `top` seconds (R205, R207). -/
def stepInRange (r : Int) (top : Nat) : Bool := decide (0 ≤ r ∧ r ≤ (top : Int) * (tbSec : Int))

/-- Begin holdover, unless the timebase is in holdover (R208, R225). -/
def State.holdoverBegin (s : State) : State :=
  if s.on .time TimeR.TIME_STAT_HOLDOVER then s
  else ((s.setF .time TimeR.TIME_STAT_HOLDOVER 1).setTime { s.time with holdAt := s.elapsed }).raise .time 1

/-- Whole seconds of the present holdover, or of the last one. -/
def State.holdAge (s : State) : Nat :=
  if s.on .time TimeR.TIME_STAT_HOLDOVER then satNat 0xFFFF ((s.elapsed - s.time.holdAt) / 10 ^ 15)
  else s.f .time TimeR.TIME_STAT_HOLD_AGE

/-- End holdover, if there is one (R208, R225). -/
def State.holdoverEnd (s : State) : State :=
  if s.on .time TimeR.TIME_STAT_HOLDOVER then
    ((s.setF .time TimeR.TIME_STAT_HOLD_AGE s.holdAge).setF .time TimeR.TIME_STAT_HOLDOVER 0).raise .time 5
  else s

/-- Write TIME_RATE: the rate applies from the next cycle, a keep-alive window under way is discarded, and holdover sourced
by the host ends (R203, R208, R213). -/
def State.rateWrite (s : State) (rate : Nat) : State :=
  let s := if s.f .time TimeR.TIME_RATE_RATE = rate % 2 ^ 32 then s
    else s.setTime { s.time with kaDirty := true }
  let s := s.setF .time TimeR.TIME_RATE_RATE rate
  if s.f .time TimeR.TIME_CTL_SRC = 1 then s.holdoverEnd else s

/-- A change of TIME_CTL.SRC has taken effect: a change to 0 ends holdover (R208). -/
def State.srcChange (s : State) : State := if s.f .time TimeR.TIME_CTL_SRC = 0 then s.holdoverEnd else s

/-! ### References (R22, R87, R210 to R212) -/

/-- Whether a reference is declared present, and the presence field of one. -/
def refOkFld (r : Bool) : Fld := if r then TimeR.REF_STAT_REF1_OK else TimeR.REF_STAT_REF0_OK
def State.refOk (s : State) (r : Bool) : Bool := s.on .time (refOkFld r)

/-- The selected reference: true for REFCLK1. -/
def State.refSel (s : State) : Bool := s.on .time TimeR.REF_STAT_IN_USE

/-- A PLL's fields. -/
def pllEnFld (b : Bool) : Fld := if b then GroupR.PLLB_CFG_EN else GroupR.PLLA_CFG_EN
def pllLockFld (b : Bool) : Fld := if b then GroupR.PLL_STAT_B_LOCK else GroupR.PLL_STAT_A_LOCK
def pllHoldFld (b : Bool) : Fld := if b then GroupR.PLL_STAT_B_HOLD else GroupR.PLL_STAT_A_HOLD

/-- The selected reference is lost: each enabled and locked PLL of a group holds its tuning, and REF_HOLD is raised (R87). -/
def State.pllHold (s : State) (g : Grp) : State :=
  let can (b : Bool) := s.on (gp g) (pllEnFld b) && s.on (gp g) (pllLockFld b) && !s.on (gp g) (pllHoldFld b)
  let a := can false
  let b := can true
  let s := if a then s.setF (gp g) GroupR.PLL_STAT_A_HOLD 1 else s
  let s := if b then s.setF (gp g) GroupR.PLL_STAT_B_HOLD 1 else s
  s.raiseIf (a || b) (gp g) 0

/-- A PLL's held ratio N + FRAC / 2^24, in units of 2^-24 (R84). -/
def State.pllRatio (s : State) (g : Grp) (b : Bool) : Nat :=
  if b then s.f (gp g) GroupR.PLLB_CFG_N * 2 ^ 24 + s.f (gp g) GroupR.PLLB_FRAC_FRAC
  else s.f (gp g) GroupR.PLLA_CFG_N * 2 ^ 24 + s.f (gp g) GroupR.PLLA_FRAC_FRAC

/-- A PLL is enabled and holding. -/
def State.pllHolds (s : State) (b : Bool) (g : Grp) : Bool := s.on (gp g) (pllEnFld b) && s.on (gp g) (pllHoldFld b)

/-- The bridge PLL (R211): PLL A of the lowest-numbered group whose PLL A is enabled and holding, else PLL B likewise. -/
def State.bridgePll (s : State) : Option (Grp × Bool) :=
  match allGroups.find? (s.pllHolds false) with
  | some g => some (g, false)
  | none => (allGroups.find? (s.pllHolds true)).map (fun g => (g, true))

/-- Every probe pauses for a cause (R158). -/
def State.pauseAll (s : State) (cause : Nat) : State := forAll allPaths (fun p s => s.pauseProbe p cause) s

/-- The selection moves to the other reference (R22, R158). -/
def State.refSwitch (s : State) : State :=
  ((((s.setB .time TimeR.REF_STAT_IN_USE (!s.refSel)).inc .time TimeR.REF_STAT_CHANGES).setF
    .time TimeR.REF_STAT_CHANGING 1).setTime { s.time with refGone := false }).pauseAll 3

/-- The timebase begins to count on the keep-alive oscillator (R209, R212). -/
def State.kaBegin (s : State) : State :=
  if s.onKa then s
  else
    (((s.setF .time TimeR.TIME_STAT_KEEPALIVE 1).setF .time TimeR.TIME_STAT_BRIDGE 0).setTime
      { s.time with kaEdges := 0, kaDirty := true, rem := 0 }).handoverUnc.raise .time 3

/-- The timebase begins to count on a bridge PLL, or on the keep-alive oscillator where none holds (R211, R212). What is carried
modulo the divisor starts afresh, which is less than 2^-48 ns. -/
def State.bridgeBegin (s : State) : State :=
  if s.on .time TimeR.TIME_STAT_BRIDGE || s.onKa then s
  else
    match s.bridgePll with
    | some x => ((s.setF .time TimeR.TIME_STAT_BRIDGE 1).setTime
        { s.time with kaDirty := true, rem := 0, bridge := s.pllRatio x.1 x.2, bridgePh := 0 }).handoverUnc
    | none => s.kaBegin

/-- A reference is declared lost (R22, R87, R158, R210 to R212). -/
def State.refLost (s : State) (r : Bool) : State :=
  let s := (s.setF .time (refOkFld r) 0).raise .time (if r then 17 else 16)
  if s.refSel != r then s
  else
    let s := forAll allGroups (fun g s => s.pllHold g) (s.setTime { s.time with refGone := true })
    if s.on .time TimeR.REF_CFG_BACKUP_EN && s.refOk (!r) then s.refSwitch.bridgeBegin
    else ((s.setF .time TimeR.REF_STAT_CHANGING 0).kaBegin.pauseAll 4).raise .time 18

/-- While the selected input is lost, as declared under R210, and the timebase counts on the keep-alive oscillator, a present and
enabled other reference is selected (R22, second case). -/
def State.refSecond (s : State) : State :=
  if s.onKa && s.time.refGone && s.refOk (!s.refSel) && s.on .time TimeR.REF_CFG_BACKUP_EN then
    s.refSwitch.setTime { s.refSwitch.time with kaChange := true }
  else s

/-- A reference is declared present (R22, R158, R210). -/
def State.refPresent (s : State) (r : Bool) : State :=
  let s := s.setF .time (refOkFld r) 1
  if s.refSel != r then s.refSecond
  else
    let s := s.setTime { s.time with refGone := false, counting := s.time.counting || (!s.onKa && s.device != .fullReset) }
    forAll allPaths (fun p s => if (s.path p).pause == 4 then s.resumeProbe p else s) s

/-- The group PLLs have relocked: none holds any more (R87). -/
def State.relocked (s : State) : Bool := allGroups.all (fun g => !s.pllHolds false g && !s.pllHolds true g)

/-- The timebase hands over from the bridge PLL to the new reference, which is present, once the group PLLs have relocked to it
(R211). -/
def State.bridgeEnd (s : State) : State :=
  if s.on .time TimeR.TIME_STAT_BRIDGE && s.refOk s.refSel && s.relocked then
    (((s.setF .time TimeR.TIME_STAT_BRIDGE 0).setF .time TimeR.REF_STAT_CHANGING 0).setTime
      { s.time with kaDirty := true, rem := 0, bridge := 0, bridgePh := 0 }).handoverUnc.raise .time 4
  else s

/-- The timebase hands back from the keep-alive oscillator to the selected reference, once that is present (R212); after DARK the
bound is uncertain, and a sourced timebase is in holdover (R214). -/
def State.kaReturn (s : State) : State :=
  if s.onKa && s.refOk s.refSel then
    let changed := s.on .time TimeR.REF_STAT_CHANGING
    let dark := s.time.fromDark
    let s := (((s.setF .time TimeR.TIME_STAT_KEEPALIVE 0).setF .time TimeR.REF_STAT_CHANGING 0).setF
      .time TimeR.KA_CYCLES (satNat 0xFFFFFFFF s.time.kaEdges)).setTime
      { s.time with kaDirty := true, counting := true, kaChange := false, fromDark := false }
    let s := s.handoverUnc.raiseIf changed .time 4
    if dark then
      let s := s.raise .time 3
      if s.f .time TimeR.TIME_CTL_SRC = 0 then s else s.holdoverBegin
    else s
  else s

/-- A keep-alive window ends (R213): KA_PERIOD takes the timebase time elapsed in it over 32,768, rounded to the nearest
(log 25), unless the window is discarded. -/
def State.kaWindow (s : State) : State :=
  if s.onKa || s.on .time TimeR.TIME_STAT_BRIDGE || !s.time.counting then s
  else
    let d := s.time.tb - s.time.kaStart
    let s := if s.time.kaDirty then s else s.setF .time TimeR.KA_PERIOD ((d + 2 ^ 46) / 2 ^ 47)
    s.setTime { s.time with kaStart := s.time.tb, kaDirty := false }

end Sys2Proof.Machine
end

