-- ==== Sys2Proof/Machine/Frame.lean ====
section
/-!
DEFINITION. Machine/Frame.lean: the frame ports (chapter 09): the frames themselves, descriptors and their write-back, delivery to
the receive ring, and insertion. Also the running counters of a path (R191, R192), which insertion counts in.
-/
namespace Sys2Proof.Machine

/-! ### Running counters of a path (R191) -/

/-- Numbers of the running counters; FEC_HISTk is `ctrHist + k`. -/
def ctrCw : Nat := 0
def ctrCorrCw : Nat := 1
def ctrUncorr : Nat := 2
def ctrCorrSym : Nat := 3
def ctrBlock : Nat := 4
def ctrCheck : Nat := 5
def ctrFrmLoss : Nat := 6
def ctrEcc : Nat := 7
def ctrPrbsBits : Nat := 8
def ctrPrbsErr : Nat := 9
def ctrPtpCorr : Nat := 10
def ctrPtpUnv : Nat := 11
def ctrPtpV6 : Nat := 12
def ctrPtpPdelay : Nat := 13
def ctrPtpSkip : Nat := 14
def ctrExtracted : Nat := 15
def ctrInserted : Nat := 16
def ctrCopied : Nat := 17
def ctrUncorrHdr : Nat := 18
def ctrRunMax : Nat := 19
def ctrHist : Nat := 32

/-- The all-ones value at which a counter saturates (R191, R224, FP_RUN). -/
def ctrTop (i : Nat) : Nat :=
  if i = ctrCw || i = ctrPrbsBits then 2 ^ 48 - 1
  else if i = ctrRunMax then 255
  else if (4 ≤ i ∧ i ≤ 7) || (11 ≤ i ∧ i ≤ 18) then 0xFFFF
  else 0xFFFFFFFF

/-- The running value of counter `i` of a path. -/
def State.ctr (s : State) (p : Path) (i : Nat) : Nat := tabGet (fun _ => 0) s.ctrs (64 * p.val + i)

/-- Set a running counter. -/
def State.setCtr (s : State) (p : Path) (i v : Nat) : State :=
  { s with ctrs := tabSet (fun _ => 0) s.ctrs (64 * p.val + i) v }

/-- Add to a running counter, saturating. -/
def State.addCtr (s : State) (p : Path) (i n : Nat) : State := s.setCtr p i (satNat (ctrTop i) (s.ctr p i + n))

/-- Restart every running counter of a path from zero. -/
def State.zeroCtrs (s : State) (p : Path) : State :=
  { s with ctrs := s.ctrs.filter (fun e => e.1 / 64 != p.val) }

/-! ### Frames -/

/-- Byte `k` of a frame; 0 beyond its end. -/
def fb (l : List Byte) (k : Nat) : Nat := ((l[k]?).getD 0).toNat

/-- The big-endian number of `n` bytes at `k`. -/
def fbe (l : List Byte) (k n : Nat) : Nat := (List.range n).foldl (fun acc i => acc * 256 + fb l (k + i)) 0

/-- Replace bytes from `k` upward. -/
def putBytes (l : List Byte) (k : Nat) (bs : List Byte) : List Byte := l.take k ++ bs ++ l.drop (k + bs.length)

/-- Offset of the EtherType: after the source address and no, one or two tags (R221, R230). -/
def etherOfs (l : List Byte) : Nat :=
  let tag (k : Nat) : Bool := fbe l k 2 == 0x8100 || fbe l k 2 == 0x88A8
  if tag 12 then (if tag 16 then 20 else 16) else 12

/-- How a PTP message is carried (R221). -/
inductive PtpMap where
  | l2 | v4 | v6
  deriving DecidableEq, Repr

/-- A recognised PTP message: its mapping, the offset of its header, and whether it is the first fragment of a fragmented
datagram. -/
structure PtpMsg where
  map : PtpMap
  off : Nat
  mf : Bool
  deriving DecidableEq, Repr

/-- The PTP message a path recognises in a frame (R221). -/
def State.ptpMsg (s : State) (p : Path) (l : List Byte) : Option PtpMsg :=
  let e := etherOfs l
  let ty := fbe l e 2
  let ip := e + 2
  if ty = 0x88F7 then (if s.on (pp p) PathR.PTP_CFG_L2_EN then some ⟨.l2, ip, false⟩ else none)
  else if ty = 0x0800 then
    let udp := ip + 4 * (fb l ip % 16)
    if fb l (ip + 9) = 17 ∧ fbe l (ip + 6) 2 % 8192 = 0 ∧ fbe l (udp + 2) 2 = 319 ∧ s.on (pp p) PathR.PTP_CFG_IPV4_EN then
      some ⟨.v4, udp + 8, decide (fbe l (ip + 6) 2 / 8192 % 2 = 1)⟩
    else none
  else if ty = 0x86DD then
    if fb l (ip + 6) = 17 ∧ fbe l (ip + 42) 2 = 319 then some ⟨.v6, ip + 48, false⟩ else none
  else none

/-- messageType of a PTP message. -/
def ptpType (l : List Byte) (m : PtpMsg) : Nat := fb l m.off % 16

/-- A frame with its frame check sequence, as it is sent (IEEE 802.3, R222, R234, R237). -/
def withFcs (l : List Byte) : List Byte := l ++ (wordBytes (crc32 l)).reverse

/-- The idle block of R231: type 0x1E, with all eight characters idle. -/
def idleBlock : Block66 := ⟨true, 0x1E :: List.replicate 7 0⟩

/-- The start block of R234: type 0x78, six preamble octets and the SFD. -/
def startBlock : Block66 := ⟨true, 0x78 :: (List.replicate 6 0x55 ++ [0xD5])⟩

/-- Types of the terminate blocks that carry 0 to 7 bytes (IEEE 802.3; log 162). -/
def termType (n : Nat) : Byte := ([0x87, 0x99, 0xAA, 0xB4, 0xCC, 0xD2, 0xE1, 0xFF] : List Byte).getD n 0xFF

/-- The blocks of a frame, given from destination address to frame check sequence: start, data and terminate (R234). -/
def frameBlocks (l : List Byte) : List Block66 :=
  let n := l.length / 8
  startBlock :: ((List.range n).map (fun i => ⟨false, (l.drop (8 * i)).take 8⟩) ++
    [⟨true, termType (l.length % 8) :: (l.drop (8 * n) ++ List.replicate (7 - l.length % 8) 0)⟩])

/-- The idle blocks that frame of N bytes needs: itself, and two on each side (R234). -/
def runNeeded (n : Nat) : Nat := n / 8 + 6

/-- The run of idle blocks that a frame takes, as it is sent. -/
def runSent (l : List Byte) : List Block66 := [idleBlock, idleBlock] ++ frameBlocks l ++ [idleBlock, idleBlock]

/-! ### Ports -/

/-- The record of a port. -/
def State.port (s : State) (k : Port) : PortSt := tabGet (fun _ => {}) s.ports k.val

/-- Replace the record of a port. -/
def State.setPort (s : State) (k : Port) (v : PortSt) : State :=
  { s with ports := tabSet (fun _ => ({} : PortSt)) s.ports k.val v }

/-- The 64 KB region of a port, and its descriptors (R239, R240). -/
def portBase (k : Port) : Nat := 0x00500000 + k.val * 0x10000
def txDesc (k : Port) (i : Nat) : Nat := portBase k + 32 * i
def rxDesc (k : Port) (i : Nat) : Nat := portBase k + 0x800 + 32 * i
def umDesc (k : Port) (i : Nat) : Nat := portBase k + 0x1000 + 32 * i
def umBufOfs (i : Nat) : Nat := 0x1800 + 1536 * i

/-- The path bound to a port for extraction, and for insertion (R227). -/
def State.extPath (s : State) (k : Port) : Option Path := (vBound s.now false k.val).head?
def State.insPath (s : State) (k : Port) : Option Path := (vBound s.now true k.val).head?

/-- The path holds framing lock: PROF_STAT.FRM reads 2. Without it a path that sees framing hunts, and FRM reads 1 (R178). -/
def State.framed (s : State) (p : Path) : Bool := s.f (pp p) PathR.PROF_STAT_FRM == 2

/-- The segment whose registers are in page `p` is in DATA. -/
def State.inData (s : State) (p : Path) : Bool := s.f (pp p) PathR.TRN_STAT_STATE == 9

/-- PROF_STAT.SENDING (R116, R178, R194). The output of path `p` belongs to the segment of the other path's page. It reads 3
whenever the generator is enabled, while training frames or electrical idle are sent too (DESIGN CHOICE, log 174). -/
def State.sending (s : State) (p : Path) : Nat :=
  let prof := s.f (pp p) PathR.PROF_CFG_PROFILE
  if s.on (pp p) PathR.PRBS_GEN_EN then 3
  else if prof == 3 && s.inData (otherPath p) && !s.inData p then 2
  else if (prof == 2 || prof == 3) && s.framed p then 0 else 1

/-- EXT_READY of a port (R228), and INS_READY (R229). -/
def State.extReady (s : State) (k : Port) : Bool :=
  s.on .frame (FrameR.PORT_CTL_EN k.val) && (s.extPath k).any (fun p => s.framed p)
def State.insReady (s : State) (k : Port) : Bool :=
  s.on .frame (FrameR.PORT_CTL_EN k.val) &&
  (s.insPath k).any (fun p => s.inData p && s.framed p && s.sending p == 0 && s.verified p)

/-- FP_STAT.MAX_LEN of a path (R234). -/
def State.maxLen (s : State) (p : Path) : Nat :=
  if s.f (pp p) PathR.PROF_CFG_PROFILE != 3 then 0
  else if s.f (pp p) PathR.PROF_CFG_PHY == 1 then 464
  else if s.f (pp p) PathR.PROF_CFG_PHY == 2 || s.f (pp p) PathR.PROF_CFG_PHY == 3 then 1522 else 0

/-- The look-ahead window in blocks (R234). -/
def State.window (s : State) (p : Path) : Nat := if s.f (pp p) PathR.PROF_CFG_PHY == 1 then 64 else 200

/-- The port's next frame (R235): the oldest queued Umatan response (true), else the head of the ring if it is posted. -/
def State.portNext (s : State) (k : Port) : Option (Bool × Nat) :=
  match (s.port k).um with
  | (slot, _) :: _ => some (true, slot)
  | [] =>
    let h := s.f .frame (FrameR.TX_IDX_TX_HEAD k.val)
    if h = s.f .frame (FrameR.TX_IDX_TX_TAIL k.val) then none else some (false, h)

/-- Address of the descriptor of a frame. -/
def frameDesc (k : Port) (x : Bool × Nat) : Nat := if x.1 then umDesc k x.2 else txDesc k x.2

/-- Elapsed time at which a frame's deadline started, and the deadline in µs (R236). -/
def State.frameStart (s : State) (k : Port) (x : Bool × Nat) : Nat :=
  if x.1 then (((s.port k).um.find? (fun e => e.1 == x.2)).map (·.2)).getD s.elapsed
  else tabGet (fun _ => 0) (s.port k).posted x.2
def State.frameDeadline (s : State) (k : Port) (x : Bool × Nat) : Nat :=
  if x.1 then s.f .frame FrameR.UM_DEADLINE_DEADLINE
  else
    let d := s.mfield (txDesc k x.2 + 8) 15 0
    if d = 0 then s.f .frame (FrameR.PORT_CTL_DEF_DEADLINE k.val) else d

/-- Statuses of a written-back descriptor (R241). -/
def txSent : Nat := 0
def txDeadline : Nat := 1
def txAborted : Nat := 2
def txDisabled : Nat := 3
def txBad : Nat := 4

/-- Write back the descriptor of a frame with a status and a transmit timestamp, and serve the next (R240, R241, R248,
R251). -/
def State.txDone (s : State) (k : Port) (x : Bool × Nat) (status : Nat) (ts : BitVec 128) : State :=
  let a := frameDesc k x
  let wait := satNat 0xFFFFFFFF ((s.elapsed - s.frameStart k x) / 1000000)
  let s := ((s.mfieldSet a 31 31 0).mfieldSet a 27 24 status).mwordSet (a + 0xC) (BitVec.ofNat 32 wait)
  let s := s.msetList (a + 0x10) ((List.range 16).map (quadByte ts))
  let s := if x.1 then s.setPort k { s.port k with um := (s.port k).um.filter (fun e => e.1 != x.2), next := none }
    else (s.incW .frame (FrameR.TX_IDX_TX_HEAD k.val)).setPort k { s.port k with next := none }
  let s := if status = txSent then s.inc .frame (FrameR.TX_CNT_SENT k.val) else s.inc .frame (FrameR.TX_CNT_DROPPED k.val)
  (s.raise .frame (4 * k.val + 1)).raiseIf (status != txSent) .frame (4 * k.val + 2)

/-- A transmit descriptor is refused (R242). -/
def State.txRefused (s : State) (k : Port) (i : Nat) : Bool :=
  let a := txDesc k i
  let len := s.mfield a 10 0
  let buf := s.mfield (a + 4) 31 16
  s.mfield a 31 31 == 0 || decide (len < 14) || decide (len > 1518) ||
  (s.insPath k).any (fun p => decide (len + 4 > s.maxLen p)) ||
  decide (buf < 0x3000) || decide (buf + len > 0x10000) ||
  (s.mfield a 30 30 == 1 && decide (s.mfield (a + 4) 7 0 + 44 > len))

/-- The deadline of a frame has passed (R236). -/
def State.frameLate (s : State) (k : Port) (x : Bool × Nat) : Bool :=
  decide (s.elapsed - s.frameStart k x > s.frameDeadline k x * 1000000000)

/-- The port's next frame is fetched into the path (R235): one whose deadline has passed is dropped, a bad descriptor is
refused. A bad descriptor at the head is refused at once even while the port is disabled (R242). -/
def State.frameFetch (s : State) (k : Port) : State :=
  if (s.port k).next.isSome then s
  else
    match s.portNext k with
    | none => s
    | some x =>
      if s.frameLate k x then s.txDone k x txDeadline 0
      else if !x.1 && s.txRefused k x.2 then (s.txDone k x txBad 0).viol .frame .consistency
      else if s.on .frame (FrameR.PORT_CTL_EN k.val) then s.setPort k { s.port k with next := some x }
      else s

/-- A frame is dropped at its deadline (R236). -/
def State.frameExpire (s : State) (k : Port) : State :=
  match (s.port k).next with
  | some x => s.txDone k x txDeadline 0
  | none => match s.portNext k with
    | some x => s.txDone k x txDeadline 0
    | none => s

/-- The correctionField sum, saturating at the largest value (R222, R223). -/
def corrSum (a c : Int) : Int :=
  if a = 0x7FFFFFFFFFFFFFFF || a + c > 0x7FFFFFFFFFFFFFFF then 0x7FFFFFFFFFFFFFFF else a + c

/-- Add to the correctionField of a PTP header at `off`. -/
def addCorr (l : List Byte) (off : Nat) (c : Int) : List Byte :=
  putBytes l (off + 8) (beBytes 8 (enc 64 (corrSum (sx 64 (fbe l (off + 8) 8)) c)))

/-- The one-step stamp (R237). -/
def stampFrame (l : List Byte) (off : Nat) (ts : BitVec 128) : List Byte :=
  let sec := (quadWord ts 0).toNat * 2 ^ 32 + (quadWord ts 1).toNat
  let l := putBytes l (off + 34) (beBytes 6 sec ++ beBytes 4 (quadWord ts 2).toNat)
  addCorr l off ((quadWord ts 3).toNat / 65536)

/-- The bytes of a frame to be sent, padded to 60 (R234). -/
def State.frameBytes (s : State) (k : Port) (x : Bool × Nat) : List Byte :=
  let a := frameDesc k x
  let l := s.mbytes (portBase k + s.mfield (a + 4) 31 16) (s.mfield a 10 0)
  l ++ List.replicate (60 - l.length) 0

/-- The fetched frame meets an idle run of `run` blocks in the look-ahead window (R234): long enough, it is placed, stamped and
written back SENT; the longest run is kept for FP_RUN. Past its deadline it is dropped (R236). The transmit timestamp is that of the
run, PIN_HELD later (R238). -/
def State.frameInsert (s : State) (k : Port) (run : Nat) : State :=
  match s.insPath k with
  | none => s
  | some p =>
    let r := satNat (s.window p) run
    let s := s.setCtr p ctrRunMax (max (s.ctr p ctrRunMax) r)
    match (s.port k).next with
    | none => s
    | some x =>
      let l := s.frameBytes k x
      if s.frameLate k x then s.txDone k x txDeadline 0
      else if s.insReady k && decide (runNeeded (l.length + 4) ≤ r) && decide (l.length + 4 ≤ s.maxLen p) then
        let e := s.edgeStamp (s.f (pp p) PathR.PIN_HELD_HELD * tbNs / 1000)
        let s := e.1
        let oneStep := !x.1 && s.mfield (txDesc k x.2) 30 30 == 1
        let out := withFcs (if oneStep then stampFrame l (s.mfield (txDesc k x.2 + 4) 7 0) e.2 else l)
        ((s.modPath p (fun y => { y with sentFrame := out, sentBlocks := (runSent out).map some })).addCtr p ctrInserted 1).txDone
          k x txSent e.2
      else s

/-- Lock is lost while the fetched frame of the port that inserts into path `p` is being inserted (R236). -/
def State.insertCut (s : State) (p : Path) : State :=
  (List.finRange 4).foldl (fun s k =>
    if s.insPath k == some p then
      match (s.port k).next with
      | some x => s.txDone k x txAborted 0
      | none => s
    else s) s

/-- The lock of path `p` is lost otherwise than by a command that says whether a frame was being inserted: whether one was, of those
that could be, is a free value (R236, log 1). -/
def State.insertLoss (s : State) (p : Path) : State :=
  (List.finRange 4).foldl (fun s k =>
    if s.insPath k == some p && s.insReady k then
      match (s.port k).next with
      | some x => if s.draw.1.getLsbD 0 then s.draw.2.txDone k x txAborted 0 else s.draw.2
      | none => s
    else s) s

/-- A write of 0 to PORTp_CTL.EN (R249): every queued frame is written back DISABLED, and TX_HEAD moves to TX_TAIL. -/
def State.portDisable (s : State) (k : Port) : State :=
  let s := s.setF .frame (FrameR.PORT_CTL_EN k.val) 0
  let s := (s.port k).um.foldl (fun s e => s.txDone k (true, e.1) txDisabled 0) s
  let h := s.f .frame (FrameR.TX_IDX_TX_HEAD k.val)
  let n := (s.f .frame (FrameR.TX_IDX_TX_TAIL k.val) + 64 - h) % 64
  (List.range n).foldl (fun s i => s.txDone k (false, (h + i) % 64) txDisabled 0) s

/-- A write of TX_TAIL posts descriptors; their deadlines run from its admission (R236, R240). -/
def State.txTail (s : State) (k : Port) (tail : Nat) : State :=
  let old := s.f .frame (FrameR.TX_IDX_TX_TAIL k.val)
  let n := (tail % 64 + 64 - old) % 64
  let posted := (List.range n).foldl (fun t i => tabSet (fun _ => 0) t ((old + i) % 64) (s.port k).tailAt) (s.port k).posted
  (s.setPort k { s.port k with posted := posted }).setF .frame (FrameR.TX_IDX_TX_TAIL k.val) tail

/-! ### Extraction (R230 to R233, R243) -/

/-- Deliver a frame to the receive ring. The command stands at the instant at which the first bit after the SFD crosses the input pin
plane, which its timestamp names (R238, log 160). Descriptors with a bad buffer are skipped (`fuel` of them at most). -/
def State.rxDeliver (fuel : Nat) (k : Port) (reason : Nat) (fr : RxFrame) (s : State) : State :=
  match fuel with
  | 0 => s
  | fuel + 1 =>
    let h := s.f .frame (FrameR.RX_IDX_RX_HEAD k.val)
    let a := rxDesc k h
    if h = s.f .frame (FrameR.RX_IDX_RX_TAIL k.val) ∨ s.mfield a 31 31 = 0 then
      (s.inc .frame (FrameR.RX_CNT_NOBUF k.val)).raise .frame (4 * k.val + 3)
    else
      let buf := s.mfield (a + 4) 31 16
      let s := (s.mfieldSet a 31 31 0).mfieldSet a 27 24 reason
      let s := s.incW .frame (FrameR.RX_IDX_RX_HEAD k.val)
      if buf < 0x3000 ∨ buf + 1536 > 0x10000 then
        ((s.mfieldSet a 10 0 0).viol .frame .consistency).rxDeliver fuel k reason fr
      else
        let l := fr.bytes.take 1518
        let s := ((s.mfieldSet a 23 23 (b2n fr.fcsErr)).mfieldSet a 22 22
          (b2n (fr.cut || decide (fr.bytes.length > 1518)))).mfieldSet a 21 21 (b2n fr.uncorr)
        let s := ((s.mfieldSet a 10 0 l.length).mfieldSet (a + 8) 15 0 (s.port k).seq).msetList (portBase k + buf) l
        let e := s.edgeStamp 0
        let s := e.1.msetList (a + 0x10) ((List.range 16).map (quadByte e.2))
        let s := s.setPort k { s.port k with seq := ((s.port k).seq + 1) % 65536 }
        (s.inc .frame (FrameR.RX_CNT_RECEIVED k.val)).raise .frame (4 * k.val)

/-- The port's MAC address, and its port identity of ten bytes (R230). -/
def State.portMac (s : State) (k : Port) : Nat :=
  s.f .frame (FrameR.MAC_HI_MAC k.val) * 2 ^ 32 + s.f .frame (FrameR.MAC_LO_MAC k.val)
def State.portIdent (s : State) (k : Port) : Nat :=
  (s.f .frame (FrameR.PTP_ID_HI_CLOCK_ID k.val) * 2 ^ 32 + s.f .frame (FrameR.PTP_ID_LO_CLOCK_ID k.val)) * 2 ^ 16 +
    s.f .frame (FrameR.PTP_PORTNUM_PORTNUM k.val)

/-- The reason code under which a frame is addressed to a port (R230). -/
def State.addressed (s : State) (k : Port) (p : Path) (l : List Byte) : Option Nat :=
  let da := fbe l 0 6
  if fbe l (etherOfs l) 2 = s.f .frame FrameR.UM_ETYPE_ETYPE ∧
      (s.on .frame FrameR.FRAME_CTL_UM_DA_CHECK = false ∨ da = s.portMac k) then some 3
  else
    let toPort : Bool := match s.ptpMsg p l with
      | some m =>
        let ty := ptpType l m
        s.on .frame (FrameR.PORT_CTL_PTP_EXT k.val) && m.map != .v6 &&
        ((ty == 9 && fbe l (m.off + 44) 10 == s.portIdent k) ||
          ((ty == 12 || ty == 13) && fbe l (m.off + 34) 10 == s.portIdent k))
      | none => false
    if toPort then some 2
    else if da = s.portMac k ∧ da / 2 ^ 40 % 2 = 0 then some 1 else none

/-- A Sync, Follow_Up or Announce of the port's domain (R232). -/
def State.snooped (s : State) (k : Port) (p : Path) (l : List Byte) : Bool :=
  s.on .frame (FrameR.PORT_CTL_SNOOP k.val) &&
  (match s.ptpMsg p l with
   | some m => (ptpType l m == 0 || ptpType l m == 8 || ptpType l m == 11) &&
       fb l (m.off + 4) == s.f .frame (FrameR.PORT_CTL_DOMAIN k.val)
   | none => false)

/-- A frame on path `p` is one that a port takes out of its stream (R230, R231). -/
def State.extracts (s : State) (p : Path) (fr : RxFrame) : Bool :=
  !fr.hdrUncorr && (List.finRange 4).any (fun k => s.extPath k == some p && s.extReady k && (s.addressed k p fr.bytes).isSome)

/-- Every block of an addressed frame is replaced by an idle block; which of them lie in an uncorrectable codeword, and are left, is a
free value (R231, log 1). -/
def State.idleOut (s : State) (p : Path) (fr : RxFrame) : State :=
  let n := (fr.bytes.length + 4) / 8 + 2
  let blocks := (List.range n).map (fun i =>
    if fr.uncorr && (Config.freeWord (s.free + i)).getLsbD 0 then none else some idleBlock)
  { s with free := s.free + (if fr.uncorr then n else 0) }.modPath p (fun x => { x with sentFrame := [], sentBlocks := blocks })

/-- A frame is examined on the extraction path of a port (R230 to R233). -/
def State.frameExtract (s : State) (k : Port) (fr : RxFrame) : State :=
  match s.extPath k with
  | none => s
  | some p =>
    if !s.extReady k then s
    else if fr.hdrUncorr then s.addCtr p ctrUncorrHdr 1
    else
      match s.addressed k p fr.bytes with
      | some r =>
        let s := (s.addCtr p ctrExtracted 1).idleOut p fr
        if r = 3 ∧ s.on .frame FrameR.FRAME_CTL_UM_EN then
          s.setPort k { s.port k with reqs := (s.port k).reqs ++ [fr] }
        else s.rxDeliver 64 k r fr
      | none => if s.snooped k p fr.bytes then (s.addCtr p ctrCopied 1).rxDeliver 64 k 4 fr else s

/-- House reset of the ports (R250): disabled, queues dropped without write-back, ring indices 0. -/
def State.portHouseReset (s : State) (k : Port) : State :=
  let s := (s.setF .frame (FrameR.PORT_CTL_EN k.val) 0).setPort k { seq := (s.port k).seq }
  (((s.setF .frame (FrameR.TX_IDX_TX_HEAD k.val) 0).setF .frame (FrameR.TX_IDX_TX_TAIL k.val) 0).setF
    .frame (FrameR.RX_IDX_RX_HEAD k.val) 0).setF .frame (FrameR.RX_IDX_RX_TAIL k.val) 0

end Sys2Proof.Machine
end

