-- ==== Sys2Proof/Machine/Profile.lean ====
section
/-!
DEFINITION. Machine/Profile.lean: profiles and coding (chapter 07) and the transparent clock of a path (R219 to R223): framing lock,
the locks of a Converter path, codewords and markers, PTP event messages, snapshots, the degrade window, the PRBS checker and
error injection.
-/
namespace Sys2Proof.Machine

/-- The profile of a path. -/
def State.profile (s : State) (p : Path) : Nat := s.f (pp p) PathR.PROF_CFG_PROFILE

/-- The path decodes FEC codewords. -/
def State.hasFec (s : State) (p : Path) : Bool :=
  (s.profile p == 2 || s.profile p == 3) && s.f (pp p) PathR.PROF_CFG_FEC != 0

/-- The counting of a degrade window starts again (R193). -/
def State.degClear (s : State) (p : Path) : State :=
  s.modPath p (fun x => { x with degSym := 0, degUnc := false, degN := 0 })

/-! ### Framing lock (R178, R179, R184, R188) -/

/-- PROF_STAT.FRM: 0 where the profile sees no framing, 1 while the path hunts, 2 in lock (R178). -/
def State.frmNow (s : State) (p : Path) : Nat := if s.profile p = 0 then 0 else if s.framed p then 2 else 1

/-- PROF_STAT.FRM becomes 2: FRM_LOCK (R199). -/
def State.framingGet (s : State) (p : Path) : State :=
  if s.framed p then s else (s.setF (pp p) PathR.PROF_STAT_FRM 2).raise (pp p) 11

/-- Framing lock is lost: the count, FRM_LOSS, and the cut of a degrade window (R191, R193, R199). -/
def State.framingLose (s : State) (p : Path) : State :=
  if s.framed p then
    ((((s.setF (pp p) PathR.PROF_STAT_FRM 0).addCtr p ctrFrmLoss 1).degClear p).modPath p
      (fun x => { x with badMarks := 0 })).raise (pp p) 22
  else s

/-- ETH_STAT of an Ethernet-aware path. With FRM = 2 the locks that make it up stand: alignment markers and codewords on lanes with
FEC, blocks on lanes without; without it one of them has gone. CW_LOCK and AM_LOCK stay 0 on lanes without FEC (R188). -/
def State.ethStat (s : State) (p : Path) (e : BitVec 3) (frm : Bool) : State :=
  if s.profile p != 3 then s
  else
    let fec := s.hasFec p
    let cw := if frm then true else e.getLsbD 1
    let am := if frm then true else e.getLsbD 0 && !e.getLsbD 1
    let blk := if fec then e.getLsbD 2 else frm
    ((s.setB (pp p) PathR.ETH_STAT_BLOCK_LOCK blk).setB (pp p) PathR.ETH_STAT_CW_LOCK (cw && fec)).setB
      (pp p) PathR.ETH_STAT_AM_LOCK (am && fec)

/-- Fields of a WX marker (R183). -/
def markerLane (m : Marker) : Nat := m.a.toNat / 2 ^ 24 % 256
def markerPeriod (m : Marker) : Nat := m.a.toNat % 65536
def markerPhase (m : Marker) : Nat := m.b.toNat / 2 ^ 61

/-- 128 bits that a hunting path takes as a marker (R184). -/
def markerCand (m : Marker) : Bool := m.a.toNat / 2 ^ 32 == 0xC3A55A3C && m.na == ~~~m.a

/-- The fixed bits and inverses of a marker match (R183, R184). -/
def markerGood (m : Marker) : Bool :=
  markerCand m && !m.b0 && m.a.toNat / 2 ^ 16 % 256 == 0x10 && m.nb == ~~~m.b && m.b.toNat % 2 ^ 61 == 0

/-- A second candidate exactly one alignment period after the first, with PERIOD increased by 1: lock (R184). -/
def findLocks (w : WxFind) : Bool :=
  markerCand w.first && markerCand w.second && w.gap == 2785280 &&
  markerPeriod w.second == (markerPeriod w.first + 1) % 65536

/-- WX_STAT from a marker whose fixed bits are valid. -/
def State.wxStat (s : State) (p : Path) (m : Marker) : State :=
  (((s.setF (pp p) PathR.WX_STAT_LANE_ID_RX (markerLane m)).setF (pp p) PathR.WX_STAT_MB_PHASE (markerPhase m)).setB
    (pp p) PathR.WX_STAT_ID_OK (markerLane m == s.f (pp p) PathR.WX_LANE_EXP_ID)).setF (pp p) PathR.WX_STAT_PERIOD (markerPeriod m)

/-- WX blocks of a codeword: the marker takes position 0 of codeword 0 (R183). -/
def wxBlocks (pos : Nat) : Nat := if pos = 0 then 19 else 20

/-- A WX path acquires lock on the marker of codeword 0, so the next codeword is number 1 (R183, R184). PERIOD is that of the marker,
with which the next is compared. -/
def State.wxAcquired (s : State) (p : Path) (m : Marker) : State :=
  let s := if markerGood m then s.wxStat p m else s.setF (pp p) PathR.WX_STAT_PERIOD (markerPeriod m)
  (s.modPath p (fun x => { x with badMarks := 0, cwPos := 1, tagPhase := (markerPhase m + wxBlocks 0) % 8 })).framingGet p

/-- The path acquires framing lock (R178, R184, R188). `w`: what a WX path has found. -/
def State.framingAcquired (s : State) (p : Path) (e : BitVec 3) (w : Option WxFind) : State :=
  if s.profile p = 0 ∨ !s.lock p then s
  else if s.profile p = 2 then
    match w with
    | some w => if findLocks w && !s.framed p then s.wxAcquired p w.second else s
    | none => s
  else
    let s := s.ethStat p e true
    (if s.profile p = 1 then s.setF (pp p) PathR.CONV_STAT_SH_LOCK 1 else s).framingGet p

/-- The locks of a Converter path are lost from `from_` down: SH_LOCK 0, MB_LOCK 1, EMB_LOCK 2 (R179). -/
def State.convLose (s : State) (p : Path) (from_ : Nat) : State :=
  let s := (s.setF (pp p) PathR.CONV_STAT_EMB_LOCK 0).modPath p (fun x => { x with embOfs := none })
  let s := if from_ ≤ 1 then s.setF (pp p) PathR.CONV_STAT_MB_LOCK 0 else s
  if from_ = 0 then (s.setF (pp p) PathR.CONV_STAT_SH_LOCK 0).framingLose p else s

/-- Framing lock is lost, whatever the profile; `cut`: a frame was being inserted into the path (R178, R236). -/
def State.framingLost (s : State) (p : Path) (e : BitVec 3) (cut : Bool) : State :=
  let s := if s.profile p = 1 then s.convLose p 0 else (s.ethStat p e false).framingLose p
  if cut then s.insertCut p else s

/-- The multiblocks of an extended multiblock (R179). -/
def State.embE (s : State) (p : Path) : Nat := s.f (pp p) PathR.CONV_CFG_E_M1 + 1

/-- The criterion of a lock of a Converter path (R179). Gained: 64 consecutive valid headers at 66 bits, 4 indications at 32 blocks,
or 2 at E multiblocks; lost: 16 invalid headers among 64, 4 missing or misplaced indications, or 2. `run` counts them, `gap` is their
spacing. -/
def State.convMet (s : State) (p : Path) (which : Nat) (gain : Bool) (run gap : Nat) : Bool :=
  if which = 0 then (if gain then decide (64 ≤ run) && gap == 66 else decide (16 ≤ run))
  else if which = 1 then decide (4 ≤ run) && (!gain || gap == 32)
  else decide (2 ≤ run) && (!gain || gap == s.embE p)

/-- A Converter path gains or loses one of its locks (R179). A lock is gained only over the one it rests on. -/
def State.convChange (s : State) (p : Path) (which : Fin 3) (gain : Bool) (run gap : Nat) : State :=
  if s.profile p != 1 || !s.convMet p which.val gain run gap then s
  else if !gain then s.convLose p which.val
  else if which = 0 then (if s.lock p then (s.setF (pp p) PathR.CONV_STAT_SH_LOCK 1).framingGet p else s)
  else if which = 1 then
    (if s.on (pp p) PathR.CONV_STAT_SH_LOCK then s.setF (pp p) PathR.CONV_STAT_MB_LOCK 1 else s)
  else if s.on (pp p) PathR.CONV_STAT_MB_LOCK then s.setF (pp p) PathR.CONV_STAT_EMB_LOCK 1 else s

/-- What the profile of a path has shown is gone with it: its locks, without a count (R176). -/
def State.profGone (s : State) (p : Path) : State :=
  ((((s.setF (pp p) PathR.PROF_STAT_FRM 0).rstReg (pp p) 0x354).rstReg (pp p) 0x370).degClear p).modPath p (fun x => { x with
    badMarks := 0, embOfs := none, injSyms := 0 })

/-! ### Codewords (R184, R185, R187, R189, R191) -/

/-- The regenerated marker: received PERIOD and MB_PHASE, with TX_ID of the segment that sends the stream (R185). -/
def State.regenMarker (s : State) (p : Path) (m : Marker) : BitVec 64 × BitVec 64 :=
  (BitVec.ofNat 64 (0xC3A55A3C * 2 ^ 32 + s.f (pp (otherPath p)) PathR.WX_LANE_TX_ID * 2 ^ 24 + 2 ^ 20 + markerPeriod m),
   BitVec.ofNat 64 (markerPhase m * 2 ^ 61))

/-- A marker in lock (R184): its check, the counts, loss after four, and its regeneration. After a marker with bad fixed bits the
next is compared with the PERIOD of the last good one, and such a marker counts an MB_PHASE mismatch too but no LANE_ID violation
(log 164). -/
def State.wxMarker (s : State) (p : Path) (m : Marker) : State :=
  let good := markerGood m
  let idBad := s.on (pp p) PathR.WX_LANE_CHECK_ID && markerLane m != s.f (pp p) PathR.WX_LANE_EXP_ID
  let seqOk := markerPeriod m == (s.f (pp p) PathR.WX_STAT_PERIOD + 1) % 65536
  let valid := good && seqOk && !idBad
  let s := s.violIf (good && idBad) (pp p) .protocol
  let s := if markerPhase m != (s.path p).tagPhase then s.addCtr p ctrBlock 1 else s
  let s := if good then s.wxStat p m else s
  let out := s.regenMarker p m
  let s := s.modPath p (fun x => { x with sentMarker := some out, badMarks := if valid then 0 else x.badMarks + 1 })
  let s := if valid then s else s.addCtr p ctrBlock 1
  if (s.path p).badMarks ≥ 4 then s.framingLose p else s

/-! ### Injected errors in what is decoded (R196, R197) -/

/-- RS symbols that a code corrects in a codeword. -/
def State.rsCap (s : State) (p : Path) : Nat := if s.f (pp p) PathR.PROF_CFG_FEC = 1 then 7 else 15

/-- A codeword with the symbols that receive-side injection has put into it: together with those of the line they are corrected, or
make it uncorrectable. How many fall on symbols that the line had already hit is a free value (log 1). -/
def State.injected (s : State) (p : Path) (c : Codeword) : State × Codeword :=
  let k := (s.path p).injSyms
  if k = 0 then (s, c)
  else
    let s := s.modPath p (fun x => { x with injSyms := 0 })
    let n := c.corr.toNat
    let d := if n = 0 then (0, s) else (s.draw.1.toNat % (min k n + 1), s.draw.2)
    let sum := n + k - d.1
    (d.2, if s.rsCap p < sum then { c with uncorr := true } else { c with corr := BitVec.ofNat 4 sum })

/-- A block on a lane without FEC with injected errors: how many of them break a block, and how many a check, is a free value
(log 1). -/
def State.injectedRaw (s : State) (p : Path) (c : Codeword) : State × Codeword :=
  let k := (s.path p).injSyms
  if k = 0 then (s, c)
  else
    let s := s.modPath p (fun x => { x with injSyms := 0 })
    let d := s.draw
    (d.2, { c with badBlocks := c.badBlocks + BitVec.ofNat 8 (d.1.toNat % (k + 1))
                   badChecks := c.badChecks + BitVec.ofNat 8 (d.1.toNat / 256 % (k + 1)) })

/-- The FEC counters of one codeword (R191, R193). -/
def State.fecCount (s : State) (p : Path) (c : Codeword) : State :=
  let n := c.corr.toNat
  let s := s.addCtr p ctrCw 1
  let s := if c.uncorr then s.addCtr p ctrUncorr 1
    else
      let s := if n > 0 then (s.addCtr p ctrCorrCw 1).addCtr p ctrCorrSym n else s
      if s.f (pp p) PathR.PROF_CFG_FEC = 1 ∧ n ≥ 8 then s else s.addCtr p (ctrHist + n) 1
  s.modPath p (fun x => { x with
    degSym := x.degSym + (if c.uncorr then 0 else n), degUnc := x.degUnc || c.uncorr, degN := x.degN + 1,
    sentBad := c.uncorr && s.on (pp p) PathR.PROF_CFG_ERR_MARK })

/-- A codeword of a WX path (R183, R184): its tags, the marker in codeword 0, and the place of the next one. Content that is no marker
where one belongs is an invalid one. -/
def State.wxCodeword (s : State) (p : Path) (c : Codeword) : State :=
  let pos := (s.path p).cwPos
  let n := wxBlocks pos
  let s := (s.fecCount p c).addCtr p ctrBlock (min c.badTags.toNat (((s.path p).tagPhase + n) / 8))
  let s := if pos = 0 then s.wxMarker p (c.marker.getD ⟨false, 0, 0, 0, 0⟩) else s
  s.modPath p (fun x => { x with cwPos := (pos + 1) % 1024, tagPhase := (x.tagPhase + n) % 8 })

/-- One codeword or block (R187). Counters count only while FRM = 2. -/
def State.codeword (s : State) (p : Path) (c : Codeword) : State :=
  if !s.framed p then s
  else
    let i := if s.hasFec p then s.injected p c else s.injectedRaw p c
    -- the codewords that a disruptive ADC run falls in are uncorrectable (R389)
    let c := if (s.path p).cwHit && s.hasFec p then { i.2 with uncorr := true } else i.2
    let s := i.1.modPath p (fun x => { x with cwHit := x.disrupt })
    if s.profile p = 1 then
      let s := s.addCtr p ctrBlock c.badBlocks.toNat
      if s.on (pp p) PathR.CONV_STAT_MB_LOCK && s.f (pp p) PathR.CONV_CFG_SH_CHECK != 0 then
        s.addCtr p ctrCheck c.badChecks.toNat else s
    else if s.profile p = 2 then s.wxCodeword p c
    else if s.profile p = 3 then
      let s := if s.hasFec p then s.fecCount p c else s
      let s := if c.uncorr then s else s.addCtr p ctrBlock c.badBlocks.toNat
      s.addCtr p ctrCheck c.badChecks.toNat
    else s

/-! ### The transparent clock (R219 to R223) -/

/-- The correction c of R220, signed, in 2^-16 ns. -/
def State.ptpCorr (s : State) (p : Path) : Int :=
  roundDiv (((s.f (pp p) PathR.PIN_HELD_HELD : Int) + s.sf (pp p) PathR.PTP_ASYM_ASYM) * 65536) 1000

/-- PTP_STAT.ACTIVE. -/
def State.ptpActive (s : State) (p : Path) : Bool :=
  s.profile p == 3 && s.on (pp p) PathR.PTP_CFG_EN && s.verified p

/-- The cases in which an event message passes unmodified and counts in SKIP (R222). -/
def ptpSkipped (fr : RxFrame) (m : PtpMsg) : Bool :=
  let v := fb fr.bytes (m.off + 1)
  fr.fcsErr || decide (fr.bytes.length + 4 > 512) || fr.uncorr || v % 16 != 2 || decide (v / 16 > 1) || m.mf

/-- The frame with c added to its correctionField, and a zero UDP checksum in UDP/IPv4 (R221, R222). -/
def State.ptpFix (s : State) (p : Path) (l : List Byte) (m : PtpMsg) : List Byte :=
  let l := addCorr l m.off (s.ptpCorr p)
  if m.map == .v4 then putBytes l (m.off - 2) [0, 0] else l

/-- A PTP message on a path (R219 to R223). One that a port extracts is neither corrected nor counted (R222, R231). With EN = 0
nothing is counted, the messages that R221 only counts among them (log 163). -/
def State.ptpMessage (s : State) (p : Path) (fr : RxFrame) : State :=
  if !(s.profile p == 3 && s.on (pp p) PathR.PTP_CFG_EN && s.framed p) || s.extracts p fr then s
  else
    match s.ptpMsg p fr.bytes with
    | none => s
    | some m =>
      let ty := ptpType fr.bytes m
      if ty > 3 then s
      else if m.map = .v6 then s.addCtr p ctrPtpV6 1
      else if ty ≥ 2 then s.addCtr p ctrPtpPdelay 1
      else if ptpSkipped fr m then s.addCtr p ctrPtpSkip 1
      else if !s.verified p then (s.addCtr p ctrPtpUnv 1).raise (pp p) 14
      else
        let out := withFcs (s.ptpFix p fr.bytes m)
        (s.addCtr p ctrPtpCorr 1).modPath p (fun x => { x with sentFrame := out, sentBlocks := [] })

/-! ### Snapshots and the degrade window (R192, R193) -/

/-- The counter registers take the running counts. -/
def State.snapRegs (s : State) (p : Path) : State :=
  let c := s.ctr p
  let put (s : State) (x : Fld) (v : Nat) : State := s.setF (pp p) x v
  let s := put (put s PathR.FEC_CW_HI_CW (c ctrCw / 2 ^ 32)) PathR.FEC_CW_LO_CW (c ctrCw)
  let s := put (put s PathR.FEC_CORR_CW_CORR_CW (c ctrCorrCw)) PathR.FEC_UNCORR_CW_UNCORR_CW (c ctrUncorr)
  let s := put (put s PathR.FEC_CORR_SYM_CORR_SYM (c ctrCorrSym)) PathR.CODE_ERR_BLOCK (c ctrBlock)
  let s := put (put s PathR.CODE_ERR_CRC_FCS (c ctrCheck)) PathR.LINK_ERR_FRM_LOSS (c ctrFrmLoss)
  let s := put (put s PathR.LINK_ERR_ECC_ERR (c ctrEcc)) PathR.PRBS_ERR_ERR (c ctrPrbsErr)
  let s := put (put s PathR.PRBS_BITS_HI_BITS (c ctrPrbsBits / 2 ^ 32)) PathR.PRBS_BITS_LO_BITS (c ctrPrbsBits)
  let s := put (put s PathR.PTP_CNT0_CORR (c ctrPtpCorr)) PathR.PTP_CNT1_UNV (c ctrPtpUnv)
  let s := put (put s PathR.PTP_CNT1_IPV6 (c ctrPtpV6)) PathR.PTP_CNT2_PDELAY (c ctrPtpPdelay)
  let s := put (put s PathR.PTP_CNT2_SKIP (c ctrPtpSkip)) PathR.FP_CNT0_EXTRACTED (c ctrExtracted)
  let s := put (put s PathR.FP_CNT0_INSERTED (c ctrInserted)) PathR.FP_CNT1_COPIED (c ctrCopied)
  let s := put (put s PathR.FP_CNT1_UNCORR_HDR (c ctrUncorrHdr)) PathR.FP_RUN_RUN_MAX (c ctrRunMax)
  (List.range 16).foldl (fun s k => put s (PathR.FEC_HIST k) (c (ctrHist + k))) s

/-- A snapshot (R192). `bits` and `errs`: what the PRBS checker, while locked, has compared and found wrong since its counts
were last brought up to date. -/
def State.snapshot (s : State) (p : Path) (bits errs : Nat) : State :=
  let s := if s.on (pp p) PathR.PRBS_STAT_LOCK then (s.addCtr p ctrPrbsBits bits).addCtr p ctrPrbsErr errs else s
  let s := (s.snapRegs p).incW (pp p) PathR.CNT_CTL_SNAP_SEQ
  if s.on (pp p) PathR.CNT_CTL_CLR_ON_SNAP then s.zeroCtrs p else s

/-- The length of a degrade window in codewords. -/
def State.degLen (s : State) (p : Path) : Nat := 2 ^ (10 + s.f (pp p) PathR.FEC_DEG_CFG_WIN)

/-- The end of a degrade window (R193); nothing before its last codeword. -/
def State.degEnd (s : State) (p : Path) : State :=
  let x := s.path p
  if x.degN < s.degLen p then s
  else
    let bad := decide (x.degSym > s.f (pp p) PathR.FEC_DEG_CFG_THR) || (s.on (pp p) PathR.FEC_DEG_CFG_UNC_DEG && x.degUnc)
    let was := s.on (pp p) PathR.FEC_DEG_STAT_DEGRADED
    (((s.setF (pp p) PathR.FEC_DEG_STAT_LAST (satNat 0xFFFFF x.degSym)).setB
      (pp p) PathR.FEC_DEG_STAT_DEGRADED bad).degClear p).raiseIf (bad && !was) (pp p) 23

/-! ### PRBS and error injection (R194 to R197) -/

/-- The PRBS checker locks (R195). -/
def State.prbsLock (s : State) (p : Path) : State :=
  if s.on (pp p) PathR.PRBS_CHK_EN && !s.on (pp p) PathR.PRBS_STAT_LOCK then
    (s.setF (pp p) PathR.PRBS_STAT_LOCK 1).raise (pp p) 12 else s

/-- The PRBS checker loses lock, with the bits it compared and the errors it found since its counts were brought up to
date. -/
def State.prbsLose (s : State) (p : Path) (bits errs : Nat) : State :=
  if s.on (pp p) PathR.PRBS_STAT_LOCK then
    ((s.addCtr p ctrPrbsBits bits).addCtr p ctrPrbsErr errs).setF (pp p) PathR.PRBS_STAT_LOCK 0 else s

/-- FIRE (R197): in MODE 0 there is no error to make (R196). -/
def State.injFire (s : State) (p : Path) : State :=
  if s.f (pp p) PathR.ERR_INJ_INTERVAL = 0 ∧ s.f (pp p) PathR.ERR_INJ_MODE ≠ 0 then
    s.modPath p (fun x => { x with injDue := true }) else s

/-- The state of the segment that owns the transmitter of path `p` (R108). -/
def State.txSeg (s : State) (p : Path) : Nat := s.f (pp (otherPath p)) PathR.TRN_STAT_STATE

/-- The transmitter of a path is in electrical idle (R104, R113), in AN_RELAY until the first page is decoded (R118). Condition 7
does not apply to training frames, to pages and to local idles. -/
def State.txIdle (s : State) (p : Path) : Bool :=
  let c := s.idleCause p
  let st := s.txSeg p
  (c != 0 && c != 7) || st == 0 || st == 1 || st == 3 || st == 10 || st == 12 || (st == 2 && (s.seg (otherPath p)).pageOut.isNone) ||
  (c == 7 && (st == 9 || st == 11) && s.sending p != 2)

/-- An injection is made (R196): a transmit-side one leaves on the line; a receive-side one enters the decoder, as one symbol or as
NSYM of them in the next codeword, and the checker, as one bit or, for a PAM4 symbol exchanged in both Gray bits, as two. -/
def State.injMake (s : State) (p : Path) (mode : Nat) (side : Bool) : State :=
  let nsym := s.f (pp p) PathR.ERR_INJ_PAT_NSYM
  let what := if mode = 3 then (mode, side, nsym, s.f (pp p) PathR.ERR_INJ_PAT_XOR) else (mode, side, s.f (pp p) PathR.ERR_INJ_POS, 0)
  let s := s.modPath p (fun x => { x with injLast := some what })
  if !side then s
  else
    let s := if s.framed p then s.modPath p (fun x => { x with injSyms := x.injSyms + (if mode = 3 then nsym else 1) }) else s
    if mode != 3 && s.on (pp p) PathR.PRBS_STAT_LOCK then
      s.addCtr p ctrPrbsErr (if mode == 2 && vPam4 s.now p then 2 else 1) else s

/-- An injection falls due (R197): made and counted, or skipped. -/
def State.injDueNow (s : State) (p : Path) : State :=
  let mode := s.f (pp p) PathR.ERR_INJ_MODE
  let side := s.on (pp p) PathR.ERR_INJ_SIDE
  let oneShot := s.f (pp p) PathR.ERR_INJ_INTERVAL == 0
  if mode = 0 ∨ (oneShot && !(s.path p).injDue) then s
  else
    let skip := s.txIdle p || (mode == 3 && (if side then !s.framed p else s.sending p != 0))
    let s := if oneShot then s.modPath p (fun x => { x with injDue := false }) else s
    if skip then s else ((s.injMake p mode side).inc (pp p) PathR.ERR_INJ_CNT_DONE).raiseIf oneShot (pp p) 13

/-- The registers of chapter 07 at a path or group reset (R198, R224, R250): the configurations are kept. -/
def State.profReset (s : State) (p : Path) : State :=
  let s1 := s.zeroCtrs p
  let s1 := ((((((s1.rstRange (pp p) 0x344 0x344).rstRange (pp p) 0x354 0x3DC).rstRange (pp p) 0x3E4 0x3E4).rstRange
    (pp p) 0x3F8 0x404).rstRange (pp p) 0x418 0x418).rstRange (pp p) 0x450 0x458).rstRange (pp p) 0x484 0x490
  s1.modPath p (fun x => { x with
    degSym := 0, degUnc := false, degN := 0, badMarks := 0, cwPos := 0, tagPhase := 0, embOfs := none, injDue := false,
    injSyms := 0, injLast := none,
    sentMarker := none, sentBad := false, sentFrame := [], sentBlocks := [] })

end Sys2Proof.Machine
end

