-- ==== Sys2Proof/Machine/Rotation.lean ====
section
/-!
DEFINITION. Machine/Rotation.lean: hold (R33), swing-slice rotation (R91 to R97), the adaptation loops and when they freeze (R100
to R102, R505), and captures (R105, R106).
-/
namespace Sys2Proof.Machine

/-! ### Ownership and hold (R33, R289) -/

/-- OWNER of a group's pages: an engine number, or 0xF. -/
def State.owner (s : State) (g : Grp) : Nat := s.f (gp g) Hdr.OWNER

/-- State of an engine (R285). -/
def State.eng (s : State) (e : Eng) : Nat := s.f (ep e) StageR.ENG_STAT_STATE

/-- The engine with a number, if there is one. -/
def engAt (n : Nat) : Option Eng := if h : n < 9 then some ⟨n, h⟩ else none

/-- The owning engine of a group is lost (R289). -/
def State.ownerLost (s : State) (g : Grp) : Bool :=
  match engAt (s.owner g) with
  | some e => s.eng e != 4
  | none => true

/-- PAGE_STAT.IN_HOLD (R33). -/
def State.inHold (s : State) (p : Page) : Bool :=
  s.on p Hdr.PAGE_CTL_HOLD ||
  (match p with
   | .group g => s.ownerLost g
   | .path q => s.on (.group (pathGrp q)) Hdr.PAGE_CTL_HOLD || s.ownerLost (pathGrp q)
   | _ => false)

/-! ### Rotation -/

/-- SWING_STAT.ROT_STATE: 0 idle, 1 shadow, 2 match, 3 swap, 4 release, 5 wait. -/
def State.rot (s : State) (p : Path) : Nat := s.f (pp p) PathR.SWING_STAT_ROT_STATE

/-- A rotation in step 1 or 2. -/
def State.rotating (s : State) (p : Path) : Bool := s.rot p == 1 || s.rot p == 2 || s.rot p == 5

/-- ROT_STATE outside steps 1 and 2: release while a slice is under release. -/
def State.rotRest (s : State) (p : Path) : State :=
  s.setF (pp p) PathR.SWING_STAT_ROT_STATE (if (s.path p).rel.isEmpty then 0 else 4)

/-- A rotation is abandoned with a cause: the count, ROT_ABORT, and the end of the sweep (R95). -/
def State.rotAborted (s : State) (p : Path) (cause : Nat) : State :=
  ((((s.modPath p (fun x => {
      x with sweep := x.sweepDue, sweepNext := 0, sweepDue := false, rotsCut := x.rotsCut + 1 })).rotRest p).inc
    (pp p) PathR.SWING_CNT_ROT_ABORT).setF (pp p) PathR.SWING_LAST_ABORT_CAUSE cause).raise (pp p) 3

/-- Abandon the rotation of a path, if one is in step 1 or 2 (R95). -/
def State.rotAbandon (s : State) (p : Path) (cause : Nat) : State := if s.rotating p then s.rotAborted p cause else s

/-- ABANDON: a rotation in step 1 or 2, else the releases under way, whose slices become swing with their previous trims
(R95). Where both are under way only the former is abandoned (DESIGN CHOICE, log 154). -/
def State.rotAbandonAll (s : State) (p : Path) : State :=
  if s.rotating p then s.rotAborted p 4
  else (s.path p).rel.foldl (fun s _ => s.rotAborted p 4) (s.modPath p (fun x => { x with rel := [] }))

/-- Abandon the rotations of every held path of a group (R95). -/
def State.holdRot (s : State) (g : Grp) : State :=
  forAll (grpPaths g) (fun p s => if s.inHold (pp p) then s.rotAbandon p 2 else s) s

/-- The swing slices in SW0 and SW1; 0x3F is none. -/
def swFld (i : Nat) : Fld := if i = 0 then PathR.SWING_STAT_SW0 else PathR.SWING_STAT_SW1
def State.swing (s : State) (p : Path) (i : Nat) : Nat := s.f (pp p) (swFld i)

/-- A swing slice that a rotation can use: present and not under release. -/
def State.swingFree (s : State) (p : Path) (i : Nat) : Bool :=
  s.swing p i != 0x3F && !(s.path p).rel.contains (s.swing p i)

/-- The field of ADC_MAP for a phase. -/
def mapFld (ph : Nat) : Fld :=
  if ph % 4 = 0 then PathR.ADC_MAP_PH0 (ph / 4)
  else if ph % 4 = 1 then PathR.ADC_MAP_PH1 (ph / 4)
  else if ph % 4 = 2 then PathR.ADC_MAP_PH2 (ph / 4)
  else PathR.ADC_MAP_PH3 (ph / 4)

/-- A sweep falls due (R97): it starts from phase 0, or waits for the one that runs. None without an available swing slice,
with rotation disabled, or while calibration is suspended (R376). -/
def State.sweepBegin (s : State) (p : Path) : State :=
  if s.f (pp p) PathR.SWING_STAT_AVAIL = 0 ∨ !s.on (pp p) PathR.SWING_CTL_ROT_EN ∨ s.on .cal CalR.CAL_STAT_SUSPENDED then s
  else s.modPath p (fun x => if x.sweep then { x with sweepDue := true } else { x with sweep := true, sweepNext := 0 })

/-- The next phase of the sweep, or its end; a sweep that fell due meanwhile starts (R97). -/
def State.sweepStep (s : State) (p : Path) : State :=
  s.modPath p (fun x =>
    if x.sweepNext + 1 < 32 then { x with sweepNext := x.sweepNext + 1 }
    else { x with sweep := x.sweepDue, sweepDue := false, sweepNext := 0 })

/-- The swap (R92, R93): the phase is fed by the swing slice, the slice it relieves takes its place and is released, and the
rotation guard of two beats begins. -/
def State.rotSwap (s : State) (p : Path) : State :=
  let ph := s.f (pp p) PathR.SWING_STAT_ROT_PHASE
  let slot := (s.path p).rotSlot
  let old := s.f (pp p) (mapFld ph)
  let s := (s.setF (pp p) (mapFld ph) (s.swing p slot)).setF (pp p) (swFld slot) old
  let s := s.modPath p (fun x => { x with rel := x.rel ++ [old], guardEnd := s.elapsed + 2 * s.beatFs p })
  (s.sweepStep p).rotRest p

/-- Step 3 (R92): the swap is made at the beat boundary after the match. -/
def State.swapNow (s : State) (p : Path) : State := if s.rot p == 3 then s.rotSwap p else s

/-- A beat boundary of one path: a swing slice that shadows begins its match, and a swap is made (R92). -/
def State.rotBeat (s : State) (p : Path) : State :=
  if s.rot p == 1 then s.setF (pp p) PathR.SWING_STAT_ROT_STATE 2 else s.swapNow p

/-- Whether nothing stops a rotation from starting (R95, R101). -/
def State.rotAllowed (s : State) (p : Path) : Bool :=
  s.on (pp p) PathR.SWING_CTL_ROT_EN && s.sd p && s.lock p && !s.inHold (pp p) && s.busyOf (pp p) == .no &&
  !s.grpDown (pathGrp p) && !(s.path p).disrupt && !s.rotating p && (s.path p).sweep

/-- A calibrated swing slice is set to shadow the next phase of the sweep; with two, they alternate (R92, R97). -/
def State.rotStart (s : State) (p : Path) : State :=
  let other := 1 - (s.path p).rotSlot
  let slot := if s.swingFree p other then other else 1 - other
  if s.rotAllowed p && s.swingFree p slot then
    ((s.modPath p (fun x => { x with rotSlot := slot })).setF (pp p) PathR.SWING_STAT_ROT_PHASE
      (s.path p).sweepNext).setF (pp p) PathR.SWING_STAT_ROT_STATE 1
  else s

/-- ROTATION_START: a swap that is due at a beat boundary comes first. -/
def State.rotBegin (s : State) (p : Path) : State := (s.swapNow p).rotStart p

/-- A match result within the tolerances (R93). The codes of SWING_LAST and SWING_CTL have the same units. -/
def State.inTol (s : State) (p : Path) (ofs gain skew : Byte) : Bool :=
  decide (ofs.toInt.natAbs ≤ s.f (pp p) PathR.SWING_CTL_OFS_TOL) &&
  decide (gain.toInt.natAbs ≤ s.f (pp p) PathR.SWING_CTL_GAIN_TOL) &&
  decide (skew.toInt.natAbs ≤ s.f (pp p) PathR.SWING_CTL_SKEW_TOL)

/-- A match window ends (R92 to R94): SWING_LAST, and the swap, which the next beat boundary makes, or the wait. ROT_WAIT is set as
the wait begins. -/
def State.matchEnd (s : State) (p : Path) (ofs gain skew : Byte) : State :=
  if !s.rotating p then s
  else
    let s := ((s.setF (pp p) PathR.SWING_LAST_OFS_DIFF ofs.toNat).setF (pp p) PathR.SWING_LAST_GAIN_DIFF gain.toNat).setF
      (pp p) PathR.SWING_LAST_SKEW_DIFF skew.toNat
    if s.inTol p ofs gain skew && !s.on (pp p) PathR.SWING_CTL_SWAP_ON_FORCE then
      s.setF (pp p) PathR.SWING_STAT_ROT_STATE 3
    else if s.rot p == 5 then s
    else (s.setF (pp p) PathR.SWING_STAT_ROT_STATE 5).raise (pp p) 4

/-- FORCE swaps a waiting rotation at once, and does nothing in any other state (R94). -/
def State.rotForce (s : State) (p : Path) : State := if s.rot p == 5 then s.rotSwap p else s

/-- Whether a slice is retired, and its mark (R96). -/
def State.retired (s : State) (p : Path) (k : Nat) : Bool :=
  if k < 32 then (s.rd (pageAddr (pp p) 0x0B0)).getLsbD k else (s.rd (pageAddr (pp p) 0x0B4)).getLsbD (k - 32)
def State.retire (s : State) (p : Path) (k : Nat) : State :=
  let a := pageAddr (pp p) (if k < 32 then 0x0B0 else 0x0B4)
  s.wr a (s.rd a ||| (1#32 <<< (k % 32)))

/-- A slice leaves the swing slices for good: AVAIL falls, SLICE_FAIL, and SWING_LOW when none is left (R96, R97). -/
def State.sliceRetire (s : State) (p : Path) (k : Nat) : State :=
  let drop (s : State) (i : Nat) : State := if s.swing p i == k then s.setF (pp p) (swFld i) 0x3F else s
  let s := drop (drop (s.retire p k) 0) 1
  let n := s.f (pp p) PathR.SWING_STAT_AVAIL - 1
  ((s.setF (pp p) PathR.SWING_STAT_AVAIL n).raise (pp p) 18).raiseIf (n == 0) (pp p) 17

/-- The calibration of a released slice ends (R92, R95, R96): new trims on success; the third failure in a row retires the
slice. A swap that is due comes first. -/
def State.releaseEnd (s : State) (p : Path) (k : Nat) (ok : Bool) (ofs gain skew : Byte) : State :=
  let s := s.swapNow p
  if !(s.path p).rel.contains k then s
  else
    let s := s.modPath p (fun x => { x with rel := x.rel.filter (· != k), rotsDone := x.rotsDone + 1 })
    let s := if s.rot p == 4 then s.rotRest p else s
    let s := s.inc (pp p) PathR.SWING_CNT_ROT_DONE
    if ok then s.setSlice p k { skew := skew, gain := gain, ofs := ofs, fails := 0 }
    else
      let x := s.slice p k
      let s := s.setSlice p k { x with fails := satNat 15 (x.fails + 1) }
      if x.fails + 1 ≥ 3 then s.sliceRetire p k else s

/-! ### Freeze causes and adaptation (R100 to R102, R505) -/

/-- The causes of R101 in force at a path, apart from cause 1, lowest first. -/
def State.freezeCauses (s : State) (p : Path) : List Nat :=
  let q := pp p
  (if s.inHold q then [2] else []) ++ (if s.busyOf q != .no then [3] else []) ++ (if !s.sd p then [4] else []) ++
  (if s.sd p && !s.lock p then [5] else []) ++ (if decide (s.elapsed < (s.path p).guardEnd) then [6] else []) ++
  (if s.rotating p then [7] else []) ++ (if s.grpDown (pathGrp p) || !s.live then [8] else []) ++
  (if (s.path p).disrupt || decide (s.elapsed < (s.path p).disruptEnd) then [9] else [])

/-- The loops of ADAPT_STAT. -/
inductive Loop where
  | ctle | vga | ffe | dfe | lvl
  deriving DecidableEq, Repr

/-- The FRZ bit of a loop (cause 1). -/
def loopFrz : Loop → Fld
  | .ctle => PathR.ADAPT_CTL_FRZ_CTLE
  | .vga => PathR.ADAPT_CTL_FRZ_VGA
  | .ffe => PathR.ADAPT_CTL_FRZ_FFE
  | .dfe => PathR.ADAPT_CTL_FRZ_DFE
  | .lvl => PathR.ADAPT_CTL_FRZ_LVL

/-- Whether a cause of R101 freezes a loop, or skips its update. -/
def freezes (c : Nat) : Loop → Bool
  | .ctle | .vga => c == 2 || c == 3 || c == 4 || c == 7 || c == 8 || c == 9
  | .ffe | .dfe | .lvl => c == 2 || c == 3 || c == 4 || c == 5 || c == 6 || c == 8 || c == 9

/-- A loop is frozen (R101, R505). -/
def State.frozen (s : State) (p : Path) (l : Loop) : Bool :=
  s.on (pp p) (loopFrz l) || (s.freezeCauses p).any (fun c => freezes c l)

/-- ADAPT_STAT.CAUSE: the lowest-numbered cause in force. -/
def State.freezeCause (s : State) (p : Path) : Nat :=
  if [Loop.ctle, .vga, .ffe, .dfe, .lvl].any (fun l => s.on (pp p) (loopFrz l)) then 1
  else (s.freezeCauses p).headD 0

/-- CDR_HELD: clock recovery holding or stopped (R101, R505). -/
def State.cdrHeld (s : State) (p : Path) : Bool := (s.freezeCauses p).any (fun c => c == 4 || c == 8 || c == 9)

/-- One step of an `n`-bit signed tap, held within its code range. -/
def tapStep (n v : Nat) (up : Bool) : Nat :=
  let x := sx n v + (if up then 1 else -1)
  let top : Int := 2 ^ (n - 1)
  enc n (if x > top - 1 then top - 1 else if x < -top then -top else x)

/-- The steps of the FFE taps, tap 0 first: none leaves a tap. -/
def State.ffeSteps (s : State) (p : Path) (l : List (Option Bool)) : State :=
  ((List.range 32).zip l).foldl (fun s e =>
    match e.2 with
    | none => s
    | some up =>
      let x := if e.1 % 2 = 0 then PathR.FFE_TAP_LO (e.1 / 2) else PathR.FFE_TAP_HI (e.1 / 2)
      s.setF (pp p) x (tapStep 10 (s.f (pp p) x) up)) s

/-- A code moved by at most one, held at or below `top`. -/
def codeStep (top v : Nat) (st : Option Bool) : Nat :=
  match st with
  | none => v
  | some true => satNat top (v + 1)
  | some false => v - 1

/-- One code of the CTLE and VGA search, unless its loop is frozen. -/
def State.searchStep (s : State) (p : Path) (l : Loop) (x : Fld) (top : Nat) (st : Option Bool) : State :=
  if s.frozen p l then s else s.setF (pp p) x (codeStep top (s.f (pp p) x) st)

/-- One update of an adaptation loop (R100), discarded while the loop is frozen. -/
def State.adapt (s : State) (p : Path) (v : AdaptVal) : State :=
  match v with
  | .ctle peak pole vga =>
    ((s.searchStep p .ctle PathR.RX_CTLE_PEAK 40 peak).searchStep p .ctle PathR.RX_CTLE_POLE 3 pole).searchStep
      p .vga PathR.RX_CTLE_VGA 72 vga
  | .ffe l => if s.frozen p .ffe then s else s.ffeSteps p l
  | .dfe st =>
    match st with
    | some up => if s.frozen p .dfe then s
        else s.setF (pp p) PathR.DFE_TAP_DFE1 (tapStep 8 (s.f (pp p) PathR.DFE_TAP_DFE1) up)
    | none => s
  | .levels l3 l2 l1 l0 =>
    if s.frozen p .lvl then s
    else
      let pam := vPam4 s.now p
      (((s.setF (pp p) PathR.RX_LVL_L3 l3.toNat).setF (pp p) PathR.RX_LVL_L2 (if pam then l2.toNat else 0x80)).setF
        (pp p) PathR.RX_LVL_L1 (if pam then l1.toNat else 0x80)).setF (pp p) PathR.RX_LVL_L0 l0.toNat

/-! ### Captures (R105, R106) -/

/-- The capture buffer of a group. -/
def capBase (g : Grp) : Nat := 0x00600000 + g.val * 0x10000

/-- Beats to capture. -/
def State.capLen (s : State) (p : Path) : Nat :=
  let n := s.f (pp p) PathR.CAP_CTL_LEN
  if n = 0 then 512 else n

/-- The capture begins to write. -/
def State.capRun (s : State) (p : Path) : State :=
  (s.modPath p (fun x => { x with capAt := s.elapsed })).setF (pp p) PathR.CAP_STAT_STATE 2

/-- START (R106). WRITTEN and OLDEST read 0 from here until the capture writes (DESIGN CHOICE, log 155). -/
def State.capStart (s : State) (p : Path) : State :=
  let g := pathGrp p
  if (s.grp g).cap == none || (s.grp g).cap == some p.val then
    let s := ((((s.setGrp g { s.grp g with cap := some p.val }).modPath p (fun x => { x with capStop := false })).setF
      (pp p) PathR.CAP_STAT_CONFLICT 0).setF (pp p) PathR.CAP_STAT_WRITTEN 0).setF (pp p) PathR.CAP_STAT_OLDEST 0
    if s.f (pp p) PathR.CAP_CTL_TRIG = 1 then s.setF (pp p) PathR.CAP_STAT_STATE 1 else s.capRun p
  else (s.setF (pp p) PathR.CAP_STAT_CONFLICT 1).viol (pp p) .access

/-- A capture is armed or running. -/
def State.capOn (s : State) (p : Path) : Bool :=
  s.f (pp p) PathR.CAP_STAT_STATE == 1 || s.f (pp p) PathR.CAP_STAT_STATE == 2

/-- STOP: the capture ends at the next beat boundary, which CAPTURE_END brings (R106). -/
def State.capStopReq (s : State) (p : Path) : State :=
  if s.capOn p then s.modPath p (fun x => { x with capStop := true }) else s

/-- Beats the running capture has written: LEN at most, in which a capture on a fault goes round (R106). -/
def State.capWritten (s : State) (p : Path) : Nat :=
  if s.f (pp p) PathR.CAP_STAT_STATE = 2 ∧ s.beatFs p ≠ 0 then satNat (s.capLen p) ((s.elapsed - (s.path p).capAt) / s.beatFs p) else 0

/-- What a byte of a capture can hold: a code, or a decision (R105). -/
def State.capByte (s : State) (p : Path) (b : Byte) : Byte :=
  if s.f (pp p) PathR.CAP_CTL_SRC = 2 then (if vPam4 s.now p then b &&& 3 else b &&& 1) else b

/-- A capture with these bytes can end: after LEN beats, or at STOP; on a fault, LEN / 2 beats after it. One that is only armed has
written nothing. -/
def State.capOver (s : State) (p : Path) (data : List Byte) : Bool :=
  let x := s.path p
  if s.f (pp p) PathR.CAP_STAT_STATE == 1 then x.capStop
  else s.f (pp p) PathR.CAP_STAT_STATE == 2 &&
    (x.capStop || s.f (pp p) PathR.CAP_CTL_TRIG == 2 || decide (128 * s.capLen p ≤ data.length))

/-- A capture ends (R106): its bytes are in the buffer, `oldest` is the beat holding the oldest of them: 0, but where it went
round. -/
def State.capEnd (s : State) (p : Path) (data : List Byte) (oldest : Nat) : State :=
  if !s.capOver p data then s
  else
    let data := if s.f (pp p) PathR.CAP_STAT_STATE = 1 then [] else (data.take (128 * s.capLen p)).map (s.capByte p)
    let g := pathGrp p
    ((((((s.msetList (capBase g) data).setF (pp p) PathR.CAP_STAT_WRITTEN (data.length / 128)).setF
      (pp p) PathR.CAP_STAT_OLDEST (if s.f (pp p) PathR.CAP_CTL_TRIG = 2 then oldest else 0)).setF
      (pp p) PathR.CAP_STAT_STATE 3).setGrp g { s.grp g with cap := none }).modPath p
      (fun x => { x with capStop := false })).raise (pp p) 2

/-- The path that writes the capture buffer of a group. -/
def State.capPath (s : State) (g : Grp) : Option Path := (grpPaths g).find? (fun p => s.f (pp p) PathR.CAP_STAT_STATE == 2)

/-- Byte `k` of the buffer of group `g` has been written by the capture that runs. -/
def State.capFresh (s : State) (g : Grp) (k : Nat) : Bool :=
  match s.capPath g with
  | some p => decide (k / 128 < s.capWritten p)
  | none => false

/-- A mark starts the captures that wait for one (R106). -/
def State.capMark (s : State) (p : Path) : State :=
  if s.f (pp p) PathR.CAP_STAT_STATE == 1 then s.capRun p else s

end Sys2Proof.Machine
end

