-- ==== Sys2Proof/Machine/WxFrame.lean ====
section
/-!
DEFINITION. Machine/WxFrame.lean: the WX training frame, symbol by symbol (R127 to R132): its parts, the coding of a bit, the search for
the marker, the check and the training pattern.
-/
namespace Sys2Proof.Machine

/-- A PAM4 symbol, named by its level (R127). -/
abbrev Sym := BitVec 2

/-- The marker (R127). -/
def wxMarkerSyms : List Sym := List.replicate 32 3 ++ List.replicate 32 0

/-- A bit of a field, as 8 symbols (R128). -/
def wxBit (b : Bool) : List Sym := if b then [3, 3, 3, 3, 0, 0, 0, 0] else [0, 0, 0, 0, 3, 3, 3, 3]

/-- The lowest `n` bits of a number, the most significant first, and the number of such a list. -/
def bitsOf : Nat → Nat → List Bool
  | 0, _ => []
  | n + 1, v => v.testBit n :: bitsOf n v
def natOfBits (l : List Bool) : Nat := l.foldl (fun v b => 2 * v + b2n b) 0

/-- The 80 bits of a frame: control field, status field and check (R127, R131). -/
def wxBits (ctrl sts : Word) : List Bool := bitsOf 32 ctrl.toNat ++ bitsOf 32 sts.toNat ++ bitsOf 16 (crc16 ctrl sts).toNat

/-- Symbols 0 to 703 of a frame (R127). -/
def wxHead (ctrl sts : Word) : List Sym := wxMarkerSyms ++ (wxBits ctrl sts).flatMap wxBit

/-- Gray mapping of two bits, the first the most significant (R132). -/
def graySym : Bool → Bool → Sym
  | false, false => 0
  | false, true => 1
  | true, true => 2
  | true, false => 3

/-- The next bit of PRBS13, x^13 + x^12 + x^2 + x + 1: the generator holds its last 13 bits, the latest in bit 0 (R132, log 167). -/
def prbsNext (g : BitVec 13) : Bool := g.getLsbD 12 ^^ g.getLsbD 11 ^^ g.getLsbD 1 ^^ g.getLsbD 0
def prbsStep (g : BitVec 13) : BitVec 13 := g <<< 1 ||| BitVec.ofNat 13 (b2n (prbsNext g))

/-- The generator after `n` bits. -/
def prbsRun : Nat → BitVec 13 → BitVec 13
  | 0, g => g
  | n + 1, g => prbsRun n (prbsStep g)

/-- `n` symbols of the training pattern (R132). -/
def wxPattern : Nat → BitVec 13 → List Sym
  | 0, _ => []
  | n + 1, g => graySym (prbsNext g) (prbsNext (prbsStep g)) :: wxPattern n (prbsStep (prbsStep g))

/-- Where the generator starts at entry to TRAIN_INIT (R132). -/
def wxSeed (lane : Nat) : BitVec 13 := 0x1000#13 ||| BitVec.ofNat 13 lane

/-- The bits of the training pattern in one frame (R127, R132). -/
def wxPatternBits : Nat := 2 * 3392

/-- A whole frame of 4,096 symbols (R127). -/
def wxFrame (ctrl sts : Word) (g : BitVec 13) : List Sym := wxHead ctrl sts ++ wxPattern 3392 g

/-- The marker is found: at least 32 symbols of level 3, then exactly 36 of level 0 and one of level 3, the last five of which
belong to control bit 31 (R128). -/
def wxFound (l : List Sym) : Bool :=
  l.take 69 == List.replicate 32 (3 : Sym) ++ List.replicate 36 0 ++ [3]

/-- The bit that 8 symbols code, if they match a coding (R128). -/
def wxBitOf (l : List Sym) : Option Bool :=
  if l = wxBit true then some true else if l = wxBit false then some false else none

/-- The bits of the next 8 × `n` symbols; none where one is not coded correctly. -/
def wxBitsOf : Nat → List Sym → Option (List Bool)
  | 0, _ => some []
  | n + 1, l =>
    match wxBitOf (l.take 8), wxBitsOf n (l.drop 8) with
    | some b, some t => some (b :: t)
    | _, _ => none

/-- What a received frame comes to: whether it is absent, whether its bits are coded correctly, whether it is valid, and its fields.
-/
structure FrameIn where
  absent : Bool := false
  coded : Bool := true
  valid : Bool := false
  ctrl : Word := 0
  sts : Word := 0
  deriving DecidableEq, Repr

/-- The fields of a frame whose 80 bits are coded correctly (R127, R131). -/
def wxFields (b : List Bool) : FrameIn :=
  let ctrl := BitVec.ofNat 32 (natOfBits (b.take 32))
  let sts := BitVec.ofNat 32 (natOfBits ((b.drop 32).take 32))
  { valid := natOfBits ((b.drop 64).take 16) == (crc16 ctrl sts).toNat, ctrl := ctrl, sts := sts }

/-- The symbols that stand where a WX frame is expected (R128, R131). -/
def wxIn (l : List Sym) : FrameIn :=
  if !wxFound l then { absent := true }
  else
    match wxBitsOf 80 (l.drop 64) with
    | none => { coded := false }
    | some b => wxFields b

/-- Bits that are sent as 0, and reserved answer codes (R129, R130). -/
def wxReserved (f : FrameIn) : Bool :=
  f.ctrl.getLsbD 27 || fget f.ctrl 17 16 != 0 || fget f.sts 30 28 != 0 || fget f.sts 2 0 != 0 || decide (5 < fget f.sts 27 24)

end Sys2Proof.Machine
end

