-- ==== Sys2Proof/Machine/Training.lean ====
section
/-!
DEFINITION. Machine/Training.lean: taking part in link training (chapter 05): the segment states of R113 and R114, presets and
coefficient requests, auto-negotiation relay, training frames and restarts. A segment is named by the path whose page
holds its registers; its transmitter is the output of the other path of the lane pair (R108).
-/
namespace Sys2Proof.Machine

/-! ### Segment states (R113) -/

def sgDisabled : Nat := 0
def sgWait : Nat := 1
def sgRelay : Nat := 2
def sgSetup : Nat := 3
def sgInit : Nat := 4
def sgExch : Nat := 5
def sgHold : Nat := 6
def sgReady : Nat := 7
def sgEnding : Nat := 8
def sgData : Nat := 9
def sgFailed : Nat := 10
def sgAcquire : Nat := 11
def sgBreak : Nat := 12

/-- TRN_STAT.STATE of a segment. -/
def State.sg (s : State) (p : Path) : Nat := s.f (pp p) PathR.TRN_STAT_STATE

/-- Update a segment's record. -/
def State.modSeg (s : State) (p : Path) (f : SegSt → SegSt) : State := s.setSeg p (f (s.seg p))

/-- What a lane pair keeps for both its segments stands in the record of segment A. -/
def State.segA (s : State) (n : Lane) : SegSt := s.seg (pathAB n)

/-- Training method of a segment: 1 IEEE, 2 WX, 3 static (R110). -/
def State.method (s : State) (p : Path) : Nat :=
  let prof := s.profile p
  if prof = 2 then 2 else if (prof = 0 ∨ prof = 3) ∧ (s.segA (laneOf p)).ieeeEn then 1 else 3

/-- Auto-negotiation is relayed on the lane pair (R110). -/
def State.anOn (s : State) (p : Path) : Bool := s.method p == 1 && (s.segA (laneOf p)).anEn

/-- Held, or BUSY: the segment keeps its state and timers, goes on sending its last fields and answers nothing (R141). -/
def State.trnHeld (s : State) (p : Path) : Bool := s.inHold (pp p) || s.busyOf (pp p) != .no

/-- Width of the port a lane pair belongs to, and its leader (R121). -/
def State.portW (s : State) (n : Lane) : Nat := 2 ^ s.f (pp (pathAB n)) PathR.TRN_PAIR_PORT_W
def State.leader (s : State) (n : Lane) : Lane := laneAt (n.val / s.portW n * s.portW n)

/-- The lane pairs of a lane pair's port (R121). -/
def State.portLanes (s : State) (n : Lane) : List Lane :=
  (List.range (s.portW n)).map (fun i => laneAt ((s.leader n).val + i))

/-- A segment of every lane pair of a port. -/
def State.portSegs (s : State) (n : Lane) : List Path := (s.portLanes n).flatMap (fun m => [pathAB m, pathBA m])

/-! ### The governing technology (R122) -/

/-- The technologies whose training IEEE 802.3 defines, by modulation and symbol rate in kBd (PRESUMED, log 168). -/
def ieeeTechs : List (Bool × Nat) := [(false, 10312500), (false, 25781250), (true, 26562500), (true, 53125000)]

/-- The technology whose clause governs a segment's training: the resolved one, else the one inferred from rate and modulation. -/
def State.trnTech (s : State) (p : Path) : Bool × Nat :=
  let pam := vPam4 s.now p
  match if s.anOn p then (s.segA (s.leader (laneOf p))).tech else none with
  | some t => t
  | none => (ieeeTechs.find? (fun t => t.1 == pam && vRateAt s.now p t.2)).getD (if pam then (true, 53125000) else (false, 25781250))

/-- The coefficients that a technology's clause defines: −1 to +1 for NRZ, −2 to +1 at 26.5625 GBd, −3 to +1 above (PRESUMED, log
168). Taps are numbered as in R129. -/
def ieeeTapOk (t : Bool × Nat) (tap : Nat) : Bool :=
  decide (tap ≤ 5) && decide ((if !t.1 then 3 else if t.2 ≤ 30000000 then 2 else 1) ≤ tap)

/-! ### Presets (R124) -/

/-- The taps of a module preset; 6 is the host's, from the segment's page. -/
def State.presetTaps (s : State) (p : Path) (n : Nat) : List Int :=
  if n = 1 then [0, 0, 0, 64, 0, 0]
  else if n = 2 then [0, 0, -6, 52, -6, 0]
  else if n = 3 then [0, 0, -8, 44, -12, 0]
  else if n = 4 then [0, -2, -10, 40, -12, 0]
  else if n = 5 then [-2, -4, -10, 36, -10, -2]
  else [s.sf (pp p) PathR.USER_FIR0_C_M3, s.sf (pp p) PathR.USER_FIR0_C_M2, s.sf (pp p) PathR.USER_FIR0_C_M1,
    s.sf (pp p) PathR.USER_FIR0_C_0, s.sf (pp p) PathR.USER_FIR1_C_P1, s.sf (pp p) PathR.USER_FIR1_C_P2]

/-- The tap fields, in the order of `vTaps`. -/
def tapFlds : List Fld :=
  [PathR.TX_FIR0_C_M3, PathR.TX_FIR0_C_M2, PathR.TX_FIR0_C_M1, PathR.TX_FIR0_C_0, PathR.TX_FIR1_C_P1, PathR.TX_FIR1_C_P2]

/-- Set the taps of a path's transmitter. -/
def State.setTaps (s : State) (q : Path) (t : List Int) : State :=
  (tapFlds.zip t).foldl (fun s e => s.setS (pp q) e.1 e.2) s

/-- The registers of the TXFIR set of a path are locked by a scene (R261). -/
def State.locked (s : State) (a : Nat) : Bool :=
  s.scene.jobs.any (fun x => x.phase == .staged && x.locks.contains a)
def State.firLocked (s : State) (q : Path) : Bool :=
  s.locked (pageAddr (pp q) 0x1C0) || s.locked (pageAddr (pp q) 0x1C4)

/-- The house applies a preset to the segment's transmitter (R124): preset 2 in place of a preset 6 that breaks R103. -/
def State.presetNow (s : State) (p : Path) (n : Nat) : State :=
  let q := otherPath p
  let t := s.presetTaps p n
  if n = 6 ∧ !tapsOk t then (s.setTaps q (s.presetTaps p 2)).setF (pp p) PathR.TRN_STAT_USER_BAD 1
  else
    let s := s.setTaps q t
    if n = 6 then s.setF (pp p) PathR.TRN_STAT_USER_BAD 0 else s

/-- Apply a preset at entry to a state, or once a scene's lock on the set is released (R124). -/
def State.presetApply (s : State) (p : Path) (n : Nat) : State :=
  if s.firLocked (otherPath p) then s.modSeg p (fun x => { x with presetWait := some n })
  else (s.modSeg p (fun x => { x with presetWait := none })).presetNow p n

/-- Apply the presets whose lock has been released (R124). -/
def State.presetsDue (s : State) : State :=
  s.paths.foldl (fun s e =>
    match e.2.seg.presetWait with
    | some n => s.presetApply (pathAt e.1) n
    | none => s) s

/-! ### Entering a state (R113, R114, R139, R144) -/

/-- What a segment forgets when it leaves training or begins again. -/
def State.segClear (s : State) (p : Path) : State :=
  (((s.setF (pp p) PathR.TRN_STAT_LOCAL_DONE 0).setF (pp p) PathR.TRN_STAT_LP_READY 0).setF
    (pp p) PathR.TRN_STAT_FRAME_LOCK 0).modSeg p (fun x => { x with
      okRun := 0, badRun := 0, req := none, lastAns := none, lastSeq := none, resp := 0, ackSeq := 0, ieeeBusy := false, modReq := none,
      idBad := false, preAsked := false, preOn := false, closing := 0, pageOut := none, basePage := none, pageAck := false,
      presetWait := none })

/-- Enter a state, without what the entry brings. -/
def State.segSet (s : State) (p : Path) (st : Nat) : State := s.setF (pp p) PathR.TRN_STAT_STATE st

/-- A segment trains nothing: DISABLED, WAIT_SIGNAL, FAILED or BREAK. -/
def State.segIdle (s : State) (p : Path) : Bool := [sgDisabled, sgWait, sgFailed, sgBreak].contains (s.sg p)

/-- Entry to WAIT_SIGNAL (R114). A change of AN_EN or IEEE_EN takes effect (TRN_PAIR), for both segments together: once the other
trains nothing either (R110; DEDUCED, log 165). -/
def State.segWait (s : State) (p : Path) : State :=
  let a := pathAB (laneOf p)
  let t := (s.segClear p).segSet p sgWait
  if s.segIdle (otherPath p) then
    t.modSeg a (fun x => { x with ieeeEn := s.on (pp a) PathR.TRN_PAIR_IEEE_EN, anEn := s.on (pp a) PathR.TRN_PAIR_AN_EN })
  else t

/-- Entry to BREAK or FAILED with a cause: TRN_RESTART and RESTARTS; FAILED also sets TRN_FAIL (R139, R144). The stage is discarded
and placed afresh (R167, log 169). -/
def State.segStop (s : State) (p : Path) (st cause : Nat) : State :=
  let s := if (s.path p).placed then s.discard p else s
  (((((s.segClear p).segSet p st).setF (pp p) PathR.TRN_STAT_LAST_CAUSE cause).inc (pp p) PathR.TRN_CNT1_RESTARTS).raise
    (pp p) 6).raiseIf (st == sgFailed) (pp p) 19

/-- A restart reaches a segment: BREAK, unless it is in BREAK, WAIT_SIGNAL, FAILED or DISABLED (R139). -/
def State.segBreak (s : State) (cause : Nat) (p : Path) : State := if s.segIdle p then s else s.segStop p sgBreak cause

/-- A segment goes to BREAK with LAST_CAUSE 8 from every state but DISABLED (R114, R121). -/
def State.segForce (s : State) (p : Path) : State := if s.sg p == sgDisabled then s else s.segStop p sgBreak 8

/-- A restart of one segment under method `m` propagates to the rest of its port (R139); not under the static method (R137). -/
def State.propagateBy (s : State) (m : Nat) (p : Path) : State :=
  if m == 3 then s
  else forAll ((s.portSegs (laneOf p)).filter (· != p)) (fun q s => s.segBreak 7 q) s
def State.propagate (s : State) (p : Path) : State := s.propagateBy (s.method p) p

/-- The twin's coefficients of a path, if they arrived less than `ms` milliseconds ago (R316). -/
def State.twinCoef (s : State) (p : Path) (ms : Nat) : Option TwinCoef :=
  match tabGet (fun _ => none) s.twin.coefs p.val with
  | some (c, t) => if s.elapsed - t < ms * 10 ^ 12 then some c else none
  | none => none

/-- The search starts from the reset values, or from the twin's coefficients (R316). A held group makes no search (R141). -/
def State.seedRx (s : State) (p : Path) : State :=
  if s.inHold (pp p) then s
  else
    let s := ((s.rstReg (pp p) 0x040).rstRange (pp p) 0x100 0x13C).rstReg (pp p) 0x140
    match if s.on .twin TwinR.TWIN_CFG_SEED_EN then s.twinCoef p 10000 else none with
    | some c =>
      let s := (s.wr (pageAddr (pp p) 0x040) c.ctle).wr (pageAddr (pp p) 0x140) c.dfe
      ((List.range 16).zip c.ffe).foldl (fun s e => s.wr (pageAddr (pp p) (0x100 + 4 * e.1)) e.2) s
    | none => s

/-- Entry to TRAIN_INIT: the timers and the training pattern start and the initial preset is applied (R114, R124, R132, R138, R510).
-/
def State.segInit (s : State) (p : Path) : State :=
  let d := s.draw
  ((((d.2.segClear p).segSet p sgInit).modSeg p (fun x => { x with
    entered := s.elapsed, preWant := d.1.getLsbD 0, gen := wxSeed (s.f (pp p) PathR.WX_LANE_TX_ID), frameAt := s.elapsed })).seedRx p).presetApply
    p (s.f (pp p) PathR.PRESET_SEL_INIT_PRESET)

/-- Entry to ACQUIRE: the static preset is applied (R114, R137). -/
def State.segAcquire (s : State) (p : Path) : State :=
  (((s.segClear p).segSet p sgAcquire).modSeg p (fun x => { x with entered := s.elapsed })).presetApply
    p (s.f (pp p) PathR.PRESET_SEL_STATIC_PRESET)

/-- Entry to DATA: TRN_DONE, TRN_LAST and the precoding agreed (R114, R125). -/
def State.segData (s : State) (p : Path) : State :=
  let x := s.seg p
  let pre := s.method p != 3
  (((((s.segSet p sgData).setF (pp p) PathR.TRN_LAST_USEC (satNat 0xFFFFFFFF (usec (s.elapsed - x.entered)))).setB
    (pp p) PathR.TRN_STAT_PRECODE_TX (pre && x.preAsked)).setB (pp p) PathR.TRN_STAT_PRECODE_RX (pre && x.preOn)).modSeg p
    (fun x => { x with closing := 0 })).raise (pp p) 5

/-! ### The table of R114 -/

/-- A segment is trained (R111). -/
def State.trained (s : State) (p : Path) : Bool :=
  s.on (pp p) PathR.TRN_STAT_LOCAL_DONE && s.on (pp p) PathR.TRN_STAT_LP_READY

/-- The receiver-ready rule of R111. -/
def State.readyRule (s : State) (p : Path) : Bool :=
  s.on (pp p) PathR.TRN_STAT_LOCAL_DONE && s.trained (otherPath p) && !s.on (pp p) PathR.TRN_CTL_HOLD_READY

/-- The rows from WAIT_SIGNAL (R114), for one segment outside auto-negotiation. -/
def State.waitRow (s : State) (p : Path) : State :=
  if s.sg p != sgWait || !s.sd p || s.anOn p then s
  else if s.method p == 3 then s.segAcquire p
  else if s.sg (otherPath p) == sgBreak then s
  else s.segInit p

/-- The rows from TRAIN_INIT to ENDING (R114), which a held segment does not take (R141). The closing frames begin with the next frame
(R135). -/
def State.readyRow (s : State) (p : Path) : State :=
  if s.trnHeld p then s
  else
    let s := if s.sg p == sgInit && s.on (pp p) PathR.TRN_STAT_FRAME_LOCK then s.segSet p sgExch else s
    let st := s.sg p
    let s := if (st == sgExch || st == sgHold) && s.readyRule p then s.segSet p sgReady
      else if st == sgExch && s.on (pp p) PathR.TRN_STAT_LOCAL_DONE then s.segSet p sgHold else s
    if s.sg p == sgReady && s.on (pp p) PathR.TRN_STAT_LP_READY then
      (s.segSet p sgEnding).modSeg p (fun x => { x with closing := 16 }) else s

/-- The row from AN_SETUP to TRAIN_INIT (R114): the set-up has been committed and the selected PLL is locked. -/
def State.setupRow (s : State) (p : Path) : State :=
  if s.sg p == sgSetup && s.f (pp (pathAB (s.leader (laneOf p)))) PathR.AN_STAT_AN_STATE == 3 && s.pathPll p then s.segInit p else s

/-- A path out of service, in a group that is down, or of a device that is not live has no clock recovery: its lock is dropped
(R357, R359), with CDR_UNLOCK where the path is not out of service and signal detect is asserted (R98, log 26). -/
def State.dropLock (s : State) (p : Path) (fault : Bool) : State :=
  if !s.lock p then s
  else
    (((((s.setF (pp p) PathR.RX_STAT_CDR_LOCK 0).piHold p).rotAbandon p 1).framingLost p 0 false)).raiseIf
      (fault && s.sd p) (pp p) 16

/-- Enter AN_RELAY: page mode begins, so lock on the line rate ends (R117), and the page counts start from zero. -/
def State.relayBegin (s : State) (n : Lane) : State :=
  let a := pp (pathAB n)
  let s := (s.dropLock (pathAB n) false).dropLock (pathBA n) false
  (((((s.segSet (pathAB n) sgRelay).segSet (pathBA n) sgRelay).setF a PathR.AN_STAT_PAGES_AB 0).setF
    a PathR.AN_STAT_PAGES_BA 0).setF a PathR.AN_STAT_AN_STATE 1)

/-- The row from WAIT_SIGNAL to AN_RELAY, for both segments of a port leader together. -/
def State.relayRow (s : State) (n : Lane) : State :=
  let a := pathAB n
  let b := pathBA n
  if s.sg a == sgWait && s.sg b == sgWait && s.anOn a && s.leader n == n && (s.sd a || s.sd b) then s.relayBegin n else s

/-- The disabling condition of a lane pair and its end (R114, R141). -/
def State.disableRow (s : State) (p : Path) : State :=
  if s.disabling (laneOf p) then
    (if s.sg p == sgDisabled then s else (s.segClear p).segSet p sgDisabled)
  else if s.sg p == sgDisabled then s.segWait p else s

/-- Clock recovery cannot run on a path. -/
def State.noCdr (s : State) (p : Path) : Bool := s.oos p || s.grpDown (pathGrp p) || !s.live || s.busyOf (pp p) == .rehearsal

/-- Bring one path in line with its conditions: its lock, then its stage. -/
def State.settlePath (s : State) (p : Path) : State :=
  let s := if s.noCdr p then s.dropLock p (!s.oos p && s.live && s.busyOf (pp p) != .rehearsal) else s
  s.settleStage p

/-- The rows of R111 for a lane pair: each segment's readiness waits on the other's. -/
def State.readyPair (s : State) (n : Lane) : State :=
  (((s.readyRow (pathAB n)).readyRow (pathBA n)).readyRow (pathAB n)).readyRow (pathBA n)

/-- Bring a lane pair in line with its conditions (R99, R114, R141, R159): disabling, the rows that hold by themselves, and the
stages of its two paths. -/
def State.settle (s : State) (n : Lane) : State :=
  let a := pathAB n
  let b := pathBA n
  let s := (s.disableRow a).disableRow b
  let s := ((((s.relayRow n).waitRow a).waitRow b).setupRow a).setupRow b
  let s := s.readyPair n
  (s.settlePath a).settlePath b

/-- Bring a group, or every lane pair, in line. -/
def State.settleGrp (s : State) (g : Grp) : State := forAll (List.range 8) (fun i s => s.settle (laneAt (8 * g.val + i))) s
def State.settleAll (s : State) : State := forAll allLanes (fun n s => s.settle n) s
def State.settlePort (s : State) (n : Lane) : State := forAll (s.portLanes n) (fun m s => s.settle m) s

/-! ### What the rows act on -/

/-- Signal detect of the segment's receiver falls (R114). AN_STAT.AN_STATE keeps its last code (DESIGN CHOICE, log 170). -/
def State.segNoSignal (s : State) (p : Path) : State :=
  let st := s.sg p
  if (2 ≤ st ∧ st ≤ 9) ∨ st = 11 then
    ((s.segWait p).setF (pp p) PathR.TRN_STAT_LAST_CAUSE 3).propagateBy (s.method p) p
  else s

/-- Clock recovery of the receivers of some segments loses lock at one boundary (R114): the rows are those of the states in which it
finds them. -/
def State.segsNoLock (s : State) (l : List Path) : State :=
  let due := l.filter (fun p => s.sg p == sgData)
  let t := forAll due (fun p t =>
    (if s.method p == 3 then t.segAcquire p else t.segWait p).setF (pp p) PathR.TRN_STAT_LAST_CAUSE 6) s
  forAll due (fun p t => t.propagateBy (s.method p) p) t

/-- Paths act as on loss of clock-recovery lock (R86, R98, R176). -/
def State.locksLost (s : State) (l : List Path) : State := (forAll l (fun p s => s.dropLock p true) s).segsNoLock l
def State.lockLost (s : State) (p : Path) : State := s.locksLost [p]

/-- Both segments of a lane pair restart by the host's RESTART (R114, R139). -/
def State.restart (s : State) (n : Lane) : State :=
  let s := (s.segForce (pathAB n)).segForce (pathBA n)
  (s.propagate (pathAB n)).propagate (pathBA n)

/-- The training or static convergence timeout expires (R114, R136 to R138). -/
def State.timeout (s : State) (p : Path) : State :=
  let st := s.sg p
  if s.on (pp p) PathR.TRN_STAT_LOCAL_DONE then s
  else if st == sgInit || st == sgExch then
    ((s.segStop p sgFailed (if (s.seg p).idBad then 9 else 1)).propagate p).settlePort (laneOf p)
  else if st == sgAcquire then (s.setF (pp p) PathR.TRN_STAT_LAST_CAUSE 1).raise (pp p) 19
  else s

/-- Local convergence (R112): the engine's search has ended, clock recovery is locked and the SNR has held its minimum. The rows that
wait on it follow (R114). -/
def State.snrMin (s : State) (p : Path) : Nat :=
  s.f (pp p) (if vPam4 s.now p then PathR.TRN_RXQ_SNR_MIN_PAM4 else PathR.TRN_RXQ_SNR_MIN_NRZ)
def State.converge (s : State) (p : Path) (snr : Nat) : State :=
  let st := s.sg p
  if (st == sgInit || st == sgExch || st == sgAcquire) && s.lock p && !s.trnHeld p && decide (s.snrMin p ≤ snr % 1024) then
    let s := (s.setF (pp p) PathR.EQ_QUAL_SNR snr).setF (pp p) PathR.TRN_STAT_LOCAL_DONE 1
    if st == sgAcquire then s.segData p else s.readyPair (laneOf p)
  else s

/-- Frame lock is lost (R114, R133). -/
def State.frameLockLost (s : State) (p : Path) : State :=
  if 4 ≤ s.sg p ∧ s.sg p ≤ 8 then ((s.segStop p sgFailed 2).propagate p).settlePort (laneOf p) else s

/-! ### Coefficient requests (R123, R134) -/

/-- The decoded request of a WX control field (R129, R134). -/
def wxReq (c : Word) : TapReq :=
  let pre := fget c 26 24
  let tap := fget c 23 21
  let req := fget c 20 19
  if pre = 0 ∧ (tap = 0 ∨ req = 0) then .none
  else if fget c 31 28 ≠ 1 ∨ pre = 7 ∨ tap = 7 ∨ req = 3 ∨ (pre ≠ 0 ∧ tap ≠ 0) then .bad
  else if pre ≠ 0 then .preset (BitVec.ofNat 3 pre)
  else .step (BitVec.ofNat 3 tap) (req == 1)

/-- The answer to a request and the taps it leaves (R123, R134): RESP codes 1 updated, 2 at maximum, 3 at minimum,
4 equalisation limit, 5 not supported. -/
def State.answerReq (s : State) (p : Path) (r : TapReq) : Nat × Option (List Int) :=
  let t := vTaps s.now (otherPath p)
  match r with
  | .none => (0, none)
  | .bad => (5, none)
  | .preset n =>
    if n = 0 then (5, none)
    else
      let u := s.presetTaps p n.toNat
      if tapsOk u then (1, some u) else (4, none)
  | .step tap up =>
    let i := tap.toNat - 1
    if tap = 0 ∨ tap = 7 then (5, none)
    else
      let u := t.set i (t.getD i 0 + (if up then 1 else -1))
      if !tapsInRange u then
        -- C_0 below 16 is its range's lower end, and so at minimum
        ((if up then 2 else 3), none)
      else if !tapsOk u then (4, none)
      else (1, some u)

/-- A preset request that a clause does not define. -/
def ieeeReserved : TapReq → Bool
  | .preset n => n == 0 || n == 6 || n == 7
  | .bad => true
  | _ => false

/-- An IEEE preset request goes through PRESET_SEL; code 0 is not supported, nor is a coefficient that the clause does not define
(R123). -/
def State.mapPreset (s : State) (p : Path) (r : TapReq) : TapReq :=
  match r with
  | .preset n =>
    let x := if n = 1 then PathR.PRESET_SEL_MAP1 else if n = 2 then PathR.PRESET_SEL_MAP2
      else if n = 3 then PathR.PRESET_SEL_MAP3 else if n = 4 then PathR.PRESET_SEL_MAP4 else PathR.PRESET_SEL_MAP5
    if ieeeReserved r then .bad else .preset (BitVec.ofNat 3 (s.f (pp p) x))
  | .step tap up => if ieeeTapOk (s.trnTech p) tap.toNat then .step tap up else .bad
  | r => r

/-- The engine can serve requests of a segment: not held, not BUSY (R141), and the taps not locked by a scene (R142). -/
def State.serves (s : State) (p : Path) : Bool := !s.trnHeld p && !s.firLocked (otherPath p)

/-- An entry that writes one whole register. -/
def regEntry (a : Nat) (w : Word) : SEntry :=
  { addr := a / 16 * 16, mask := 0xF#16 <<< (4 * (a / 4 % 4)), data := quadOf w w w w }

/-- The owning engine writes entries to its open scene and the checker reads them (R123): whether an uncorrectable error, or an
overflow of the scene, fails it. -/
def State.engScene (s : State) (g : Grp) (l : List (Nat × Word)) : State × Bool :=
  match engAt (s.owner g) with
  | none => (s, true)
  | some e =>
    let n := tabGet (fun _ => 0) s.scene.openLen (1008 + e.val)
    let a := poolAddr (30208 + 256 * e.val + n)
    if 256 < n + l.length then (s, true)
    else (s.msetList a (l.flatMap (fun x => entryBytes (regEntry x.1 x.2)))).sramRead a (32 * l.length)

/-- The registers that hold the taps of a path, with the words that hold `t`. -/
def State.tapWords (s : State) (q : Path) (t : List Int) : List (Nat × Word) :=
  [0x1C0, 0x1C4].map (fun off => (pageAddr (pp q) off, (s.setTaps q t).rd (pageAddr (pp q) off)))

/-- A new request is decided, and its taps are set through the engine's scene; the answer waits for the frame that carries it. A
scene that fails leaves the taps and is answered not updated (R123). Preset 6, applied, clears USER_BAD (R124). -/
def State.takeReq (s : State) (p : Path) (r : TapReq) (seq : Nat) : State :=
  let a := s.answerReq p r
  let q := otherPath p
  let put (s : State) (resp : Nat) : State := s.modSeg p (fun x => { x with req := some (resp, seq) })
  match a.2 with
  | none => put s a.1
  | some t =>
    let v := s.engScene (pathGrp p) (s.tapWords q t)
    if v.2 then put v.1 0
    else put (if r == .preset 6 then (v.1.setTaps q t).setF (pp p) PathR.TRN_STAT_USER_BAD 0 else v.1.setTaps q t) a.1

/-- The answer is sent in a frame (R123, R134); a held segment goes on sending its last one (R141). -/
def State.reqAnswered (s : State) (p : Path) : State :=
  match (s.seg p).req with
  | none => s
  | some (resp, seq) =>
    if s.trnHeld p then s
    else
      (s.modSeg p (fun x => { x with req := none, lastAns := some seq, resp := resp, ackSeq := seq })).inc
        (pp p) PathR.TRN_CNT0_REQ_DONE

/-- A WX request that the module takes now (R134): new, as its REQ_SEQ differs from the last answered one, and none is being
answered. -/
def State.wxTakes (s : State) (p : Path) (c : Word) : Bool :=
  let x := s.seg p
  wxReq c != .none && x.lastAns != some (fget c 15 8) && x.req == none && s.serves p
def State.wxRequest (s : State) (p : Path) (c : Word) : State :=
  if s.wxTakes p c then s.takeReq p (wxReq c) (fget c 15 8) else s

/-- An IEEE request that the module takes now (R122, R123): a hold comes between requests (R126). -/
def State.ieeeTakes (s : State) (p : Path) (r : TapReq) : Bool :=
  r != .none && !(s.seg p).ieeeBusy && (s.seg p).req == none && s.serves p
def State.ieeeRequest (s : State) (p : Path) (r : TapReq) : State :=
  if r == .none then s.modSeg p (fun x => { x with ieeeBusy := false })
  else if s.ieeeTakes p r then (s.takeReq p (s.mapPreset p r) 0).modSeg p (fun x => { x with ieeeBusy := true })
  else s

/-- The taps the module can ask its partner to move. -/
def State.askTaps (s : State) (p : Path) : List Nat :=
  if s.method p == 2 then [1, 2, 3, 4, 5, 6] else [1, 2, 3, 4, 5].filter (ieeeTapOk (s.trnTech p))

/-- The module's own request (R126): at most one outstanding, and hold between two. Its content is the image's (a free value). -/
def State.ownRequest (s : State) (p : Path) (answered : Bool) : State :=
  let x := s.seg p
  if s.sg p != sgExch || s.trnHeld p then s
  else
    match x.modReq with
    | some _ => if answered then s.setSeg p { x with modReq := none } else s
    | none =>
      let d := s.draw
      let w := d.1.toNat
      let l := s.askTaps p
      if w % 2 = 0 then d.2
      else d.2.modSeg p (fun x => { x with
        modSeq := (x.modSeq + 1) % 256
        modReq := some (l.getD (w / 2 % l.length) 4 * 2 ^ 21 + (1 + w / 16 % 2) * 2 ^ 19) })

/-! ### Training frames sent (R122, R127 to R132, R135) -/

/-- A segment sends training frames. -/
def State.sendsFrames (s : State) (p : Path) : Bool := decide (sgInit ≤ s.sg p) && decide (s.sg p ≤ sgEnding)

/-- The module's own precoding request (R125, R510): in the Transparent profile the one last received on the other segment; under an
NRZ technology none. -/
def State.preReq (s : State) (p : Path) : Bool :=
  if s.profile p = 0 then (s.seg (otherPath p)).preAsked
  else
    let r := s.f (pp p) PathR.TRN_CTL_PRECODE_REQ
    (s.method p == 2 || (s.trnTech p).1) && (r == 1 || (r == 2 && (s.seg p).preWant))

/-- The control field being sent (R129); under the IEEE method the clause's own. -/
def State.txCtrl (s : State) (p : Path) : Word :=
  let x := s.seg p
  if s.method p != 2 then (Config.ieeeCtrl (s.trnTech p) (x.modReq.getD 0) (s.preReq p)).setWidth 32
  else 0x10000000#32 ||| BitVec.ofNat 32 (x.modReq.getD 0 + b2n (s.preReq p) * 2 ^ 18 + x.modSeq * 256 + s.f (pp p) PathR.WX_LANE_TX_ID)

/-- The status field being sent (R130, R135); under the IEEE method the clause's own. -/
def State.txSts (s : State) (p : Path) : Word :=
  let x := s.seg p
  let ready := s.sg p == sgReady || s.sg p == sgEnding
  let snr := satNat 255 (s.f (pp p) PathR.EQ_QUAL_SNR * 2 / 5)
  if s.method p != 2 then (Config.ieeeSts (s.trnTech p) ready x.resp x.preAsked).setWidth 32
  else BitVec.ofNat 32 (b2n ready * 2 ^ 31 + x.resp * 2 ^ 24 + x.ackSeq * 2 ^ 16 + snr * 256 + x.closing % 16 * 16 + b2n x.preAsked * 8)

/-- The WX frame being sent on a segment (R127). -/
def State.wxSent (s : State) (p : Path) : List Sym := wxFrame (s.txCtrl p) (s.txSts p) (s.seg p).gen

/-- The pattern and seed that a segment's IEEE frames carry, by its lane pair's position in the port (R121, R122). -/
def State.ieeeSeedOf (s : State) (p : Path) : Word :=
  Config.ieeeSeed (s.trnTech p) ((laneOf p).val - (s.leader (laneOf p)).val)

/-- The WX frames that have gone since a segment's last look (R127, R132, R135): the generator has run on over their patterns and
COUNTDOWN has fallen, to 1 at the least. While the transmitter is idle no frame goes. -/
def State.frameBeat (s : State) (p : Path) : State :=
  if !s.sendsFrames p || s.method p != 2 then s
  else
    let x := s.seg p
    let d := 32 * s.beatFs (otherPath p)
    let k := (s.elapsed - x.frameAt) / d
    if d = 0 || s.txIdle (otherPath p) then s.setSeg p { x with frameAt := s.elapsed }
    else if k = 0 then s
    else s.setSeg p { x with
      frameAt := x.frameAt + k * d
      gen := prbsRun (wxPatternBits * k % 8191) x.gen
      closing := if x.closing = 0 then 0 else if x.closing ≤ k then 1 else x.closing - k }

/-- One step with no command waiting (log 5): the timebase's edge, and the beat boundaries that pass meanwhile. -/
def State.tick (s : State) : State := forAll allPaths (fun p s => (s.rotBeat p).frameBeat p) s.clockTick

/-! ### Training frames received (R131 to R136) -/

/-- What a received frame comes to (R128, R131). -/
def State.frameIn (s : State) (p : Path) (f : TrnFrame) : FrameIn :=
  if s.method p == 2 then wxIn f.wx
  else { absent := f.absent, coded := f.coded, valid := !f.absent && f.coded, ctrl := f.ctrl, sts := f.sts }

/-- A frame is valid (R131). -/
def State.frameValid (s : State) (p : Path) (f : TrnFrame) : Bool := (s.frameIn p f).valid

/-- A valid frame carries another lane identity than the one expected (R136). -/
def State.idMismatch (s : State) (p : Path) (f : TrnFrame) : Bool :=
  s.method p == 2 && s.frameValid p f && s.on (pp p) PathR.WX_LANE_CHECK_ID &&
  fget (s.frameIn p f).ctrl 7 0 != s.f (pp p) PathR.WX_LANE_EXP_ID

/-- Frame lock after a frame (R133): `good` is a valid frame that counts. A WX frame that does not begin 4,096 symbols after the
previous one starts a new run, and one was absent at its expected position. -/
def State.frameLock (s : State) (p : Path) (f : TrnFrame) (good : Bool) : State :=
  let x := s.seg p
  let had := s.on (pp p) PathR.TRN_STAT_FRAME_LOCK
  let wx := s.method p == 2
  let off := wx && f.gap != 4096
  let s := s.setSeg p { x with
    okRun := if !good then 0 else if off then 1 else x.okRun + 1
    badRun := if good && !off then 0 else x.badRun + 1 }
  let get := !had && (if wx then decide ((s.seg p).okRun ≥ 3) else f.ieeeLock)
  let lose := had && (if wx then decide ((s.seg p).badRun ≥ 4) else !f.ieeeLock)
  if get then s.setF (pp p) PathR.TRN_STAT_FRAME_LOCK 1 else if lose then s.frameLockLost p else s

/-- A frame breaks a coding or field rule (R134, R136, R145): one PROTOCOL violation. A frame that only fails its check breaks none; a
request with a reserved code counts once, as it is taken (log 27). -/
def State.frameBreaks (s : State) (p : Path) (f : TrnFrame) : Bool :=
  let r := s.frameIn p f
  let c := r.ctrl
  let jump := match (s.seg p).lastSeq with
    | some q => fget c 15 8 != q && fget c 15 8 != (q + 1) % 256
    | none => false
  !r.absent && (!r.coded || (r.valid &&
    (if s.method p == 2 then wxReserved r || jump || s.idMismatch p f || (wxReq c == .bad && s.wxTakes p c)
     else ieeeReserved f.ieeeReq && s.ieeeTakes p f.ieeeReq)))

/-- What a valid frame carries (R114, R125, R129, R130). -/
def State.frameFields (s : State) (p : Path) (f : TrnFrame) : State :=
  let r := s.frameIn p f
  let wx := s.method p == 2
  let field (w : Word) : Nat := if wx then w.toNat else w.toNat % 65536
  let s := ((s.setF (pp p) PathR.TRN_LP_CTRL_CTRL (field r.ctrl)).setF (pp p) PathR.TRN_LP_STS_STS (field r.sts)).setB
    (pp p) PathR.TRN_STAT_LP_READY (if wx then r.sts.getLsbD 31 else f.ieeeReady)
  let held := s.trnHeld p
  let s := s.modSeg p (fun x => { x with
    lastSeq := some (fget r.ctrl 15 8)
    preAsked := if held then x.preAsked else if wx then r.ctrl.getLsbD 18 else f.ieeePreReq
    preOn := if wx then r.sts.getLsbD 3 else f.ieeePreOn })
  let s := if wx then s.wxRequest p r.ctrl else s.ieeeRequest p f.ieeeReq
  s.ownRequest p (if wx then fget r.sts 23 16 == (s.seg p).modSeq else f.ieeeAck)

/-- A training frame is received (R131 to R136, R145); the rows of R114 that it makes true follow. A frame with a wrong lane
identity does not count towards frame lock, and is neither invalid nor absent. -/
def State.trainFrame (s : State) (p : Path) (f : TrnFrame) : State :=
  if !s.sendsFrames p then s
  else
    let r := s.frameIn p f
    let idBad := s.idMismatch p f
    let breaks := s.frameBreaks p f
    let s := if r.valid || r.absent then s else s.inc (pp p) PathR.TRN_CNT0_FRAME_ERR
    let s := s.violIf breaks (pp p) .protocol
    let s := if r.valid then s.frameFields p f else s
    let s := if idBad then s.modSeg p (fun x => { x with idBad := true, okRun := 0, badRun := 0 }) else s.frameLock p f r.valid
    s.readyPair (laneOf p)

/-! ### Auto-negotiation (R117 to R120) -/

/-- The technology ability bits of a base page: A0 is bit 21 of the page (IEEE 802.3 Clause 73; log 28). -/
def anMasked (page : BitVec 48) (mask : Word) : BitVec 48 :=
  page &&& ~~~((((~~~mask).setWidth 48) &&& 0x7FFFFF#48) <<< 21)

/-- A page with a coding error: counted, not relayed (R118, R145). -/
def State.anPageBad (s : State) (p : Path) : State :=
  (s.inc (pp p) PathR.TRN_CNT0_FRAME_ERR).viol (pp p) .protocol

/-- The mask of relayed technology abilities (R118). -/
def State.anAbilities (s : State) (n : Lane) : Word :=
  let a := pp (pathAB n)
  s.rd (pageAddr a 0x210) &&& ~~~(s.rd (pageAddr a 0x218))

/-- A decoded page is relayed to the other segment's transmitter (R117, R118). Bit 14 acknowledges (IEEE 802.3 Clause 73; log 28). -/
def State.anRelay (s : State) (p : Path) (page : BitVec 48) (base : Bool) : State :=
  let a := pp (pathAB (laneOf p))
  let mask := s.anAbilities (laneOf p)
  let s := if s.lock p then s else (s.setF (pp p) PathR.RX_STAT_CDR_LOCK 1).raise (pp p) 1
  let s := if base then (s.setF (pp p) PathR.AN_LP_BASE_HI_BASE (page.toNat / 2 ^ 32)).setF
      (pp p) PathR.AN_LP_BASE_LO_BASE page.toNat else s
  let s := s.modSeg p (fun x => { x with pageAck := page.getLsbD 14, basePage := if base then some page else x.basePage })
  (s.modSeg (otherPath p) (fun x => { x with pageOut := some (if base then anMasked page mask else page) })).inc a
    (if p.val < 64 then PathR.AN_STAT_PAGES_AB else PathR.AN_STAT_PAGES_BA)

/-- A technology that both relayed base pages offer, after both endpoints have acknowledged each other's last page (R119). -/
def State.anCommon (s : State) (n : Lane) (hcd : Nat) : Bool :=
  let offers (p : Path) : Bool := match (s.seg p).basePage with
    | some w => (s.seg p).pageAck && (anMasked w (s.anAbilities n)).getLsbD (21 + hcd)
    | none => false
  offers (pathAB n) && offers (pathBA n)

/-- The enabled PLL and divider that meet a lane rate within ±100 ppm, PLL A first (R119). -/
def State.anChoose (s : State) (g : Grp) (kbd : Nat) : Option (Bool × Nat) :=
  [(false, 0), (false, 1), (false, 2), (true, 0), (true, 1), (true, 2)].find? (fun c =>
    let t : Nat := 2 ^ 24 * 2 ^ c.2 * 1000 * kbd
    vPllEn s.now g c.1 && decide ((((vFvco s.now g c.1 : Nat) : Int) - (t : Int)).natAbs * 10000 ≤ t))

/-- Set-up fails (R120): both segments of every lane pair of the port fail, AN_FAIL, and the technology is masked. -/
def State.anFail (s : State) (n : Lane) (cause : Nat) : State :=
  let a := pp (pathAB n)
  let hcd := s.f a PathR.AN_STAT_HCD
  let s := forAll (s.portSegs n) (fun q s => if s.sg q == sgSetup || s.sg q == sgRelay then s.segStop q sgFailed cause else s) s
  let s := (s.setF a PathR.AN_STAT_AN_STATE 4).wr (pageAddr a 0x218) (s.rd (pageAddr a 0x218) ||| (1#32 <<< hcd))
  (s.raise (pp (pathAB n)) 20).raise (pp (pathBA n)) 20

/-- LINE_CFG, and in the Ethernet-aware profile PHY and FEC, of a path as the set-up scene writes them (R119, R175). -/
def State.anWrites (s : State) (r : AnResult) (c : Bool × Nat) (p : Path) : List (Nat × Word) :=
  let line := s.rd (pageAddr (pp p) 0x050)
  let line := fset (fset (fset line 8 8 (b2n r.pam4)) 5 4 c.2) 0 0 (b2n c.1)
  let prof := s.rd (pageAddr (pp p) 0x340)
  (pageAddr (pp p) 0x050, line) ::
    (if s.profile p = 3 then [(pageAddr (pp p) 0x340, fset (fset prof 10 8 r.phy.toNat) 6 4 r.fec.toNat)] else [])

/-- Every write of the set-up scene of a port. -/
def State.anScene (s : State) (n : Lane) (r : AnResult) (c : Bool × Nat) : List (Nat × Word) :=
  (s.portSegs n).flatMap (fun p => s.anWrites r c p)

/-- A valuation with some registers replaced. -/
def overVal (v : Nat → Word) (l : List (Nat × Word)) (a : Nat) : Word := tabGet v l a

/-- The set-up scene passes validation: R85, R149 and R174 for the group after commit, and none of its registers is locked. -/
def State.anSceneOk (s : State) (n : Lane) (l : List (Nat × Word)) : Bool :=
  let v := overVal s.now l
  let g := pathGrp (pathAB n)
  vR85 v g && (grpPaths g).all (fun p => vTargetOk v p) && (s.portLanes n).all (fun m => vPairOk v m)

/-- LINE_CFG of every path of the port already gives the resolved technology, and PROF_CFG its PHY and FEC (R119). -/
def State.anMeets (s : State) (n : Lane) (r : AnResult) : Bool :=
  (s.portSegs n).all (fun p =>
    vPllEn s.now (pathGrp p) (vSel s.now p) && vPam4 s.now p == r.pam4 && vRateAt s.now p r.kbd.toNat &&
    (s.profile p != 3 || (s.f (pp p) PathR.PROF_CFG_PHY == r.phy.toNat && s.f (pp p) PathR.PROF_CFG_FEC == r.fec.toNat)))

/-- The set-up is committed, or needs no scene (R114, R119): AN_DONE in both pages of the leader; the segments of the port whose PLL
is locked enter TRAIN_INIT. -/
def State.anDone (s : State) (n : Lane) : State :=
  let s := (s.setF (pp (pathAB n)) PathR.AN_STAT_AN_STATE 3).modSeg (pathAB n) (fun x => { x with setup := none })
  let s := (s.raise (pp (pathAB n)) 7).raise (pp (pathBA n)) 7
  forAll (s.portSegs n) (fun q s => s.setupRow q) s

/-- Resolution is complete (R119): the leader and the other lane pairs of the port enter AN_SETUP. -/
def State.anResolve (s : State) (n : Lane) (r : AnResult) : State :=
  let a := pp (pathAB n)
  let s := (s.setF a PathR.AN_STAT_HCD r.hcd.toNat).setF a PathR.AN_STAT_AN_STATE 2
  let lanes := (s.portLanes n).filter (fun m => m == n || (s.sg (pathAB m) == sgWait && s.sg (pathBA m) == sgWait))
  let s := forAll lanes (fun m s => ((s.segClear (pathAB m)).segSet (pathAB m) sgSetup |>.segClear (pathBA m)).segSet
    (pathBA m) sgSetup) s
  -- page mode has ended: clock recovery acquires the line rate afresh
  let s := (s.dropLock (pathAB n) false).dropLock (pathBA n) false
  let s := s.modSeg (pathAB n) (fun x => { x with setup := some r, tech := some (r.pam4, r.kbd.toNat) })
  if s.anMeets n r then s.anDone n
  else if (s.anChoose (pathGrp (pathAB n)) r.kbd.toNat).isNone then s.anFail n 4
  else s

/-- A page arrives on a segment in AN_RELAY (R118, R119). Which of the common technologies is the highest IEEE 802.3 says (`res`). -/
def State.anPage (s : State) (p : Path) (page : BitVec 48) (base err : Bool) (res : Option AnResult) : State :=
  if s.sg p != sgRelay then s
  else if err then s.anPageBad p
  else
    let s := s.anRelay p page base
    match res with
    | some r => if s.anCommon (laneOf p) r.hcd.toNat then s.anResolve (laneOf p) r else s
    | none => s

/-- The registers of the training chapter at a reset of paths or of a group (R143): the segments begin from WAIT_SIGNAL, and the other
segments of their lane pairs and ports go to BREAK. -/
def State.trnReset (s : State) (l : List Path) : State :=
  let rest := (l.flatMap (fun p => s.portSegs (laneOf p))).dedup.filter (fun q => !l.contains q)
  let s := forAll rest (fun q s => s.segBreak 7 q) s
  forAll l (fun p s => ((s.rstRange (pp p) 0x200 0x250).setSeg p {}).segWait p) s

end Sys2Proof.Machine
end

