-- ==== Sys2Proof/Machine/Queue.lean ====
section
/-!
DEFINITION. Machine/Queue.lean: the command and response queues of the engines (R290 to R293, R297): answers, notices and
emptying.
-/
namespace Sys2Proof.Machine

/-- The record of an engine. -/
def State.engRec (s : State) (e : Eng) : EngSt := tabGet (fun _ => {}) s.engines e.val

/-- Replace the record of an engine. -/
def State.setEng (s : State) (e : Eng) (v : EngSt) : State :=
  { s with engines := tabSet (fun _ => ({} : EngSt)) s.engines e.val v }

/-- Update an engine's record. -/
def State.modEng (s : State) (e : Eng) (f : EngSt → EngSt) : State := s.setEng e (f (s.engRec e))

/-- The group an engine owns, if any (R288). -/
def State.engGrp (s : State) (e : Eng) : Option Grp := allGroups.find? (fun g => s.owner g == e.val)

/-- EPOCH of a group's page. -/
def State.epoch (s : State) (g : Grp) : Nat := s.f (gp g) Hdr.EPOCH

/-- The fields of a command (R291). -/
def cmdOp (c : BitVec 128) : Nat := fget (quadWord c 0) 31 24
def cmdTag (c : BitVec 128) : Nat := fget (quadWord c 0) 23 16
def cmdTarget (c : BitVec 128) : Nat := fget (quadWord c 0) 15 8
def cmdChk (c : BitVec 128) : Bool := fget (quadWord c 0) 0 0 != 0
def cmdEpoch (c : BitVec 128) : Nat := fget (quadWord c 1) 31 16
def cmdArg0 (c : BitVec 128) : Nat := fget (quadWord c 1) 15 0

/-- The group a legal TARGET names, and the path, if it names one (R291). -/
def targetGrp (t : Nat) : Option Grp :=
  if t < 0x80 then some (pathGrp (pathAt t)) else if t < 0x88 then some (grpAt (t - 0x80)) else none
def targetPath (t : Nat) : Option Path := if t < 0x80 then some (pathAt t) else none

/-- A response (R292). -/
def response (stale : Bool) (status tag target op epoch detail : Nat) (r0 r1 : Word) : BitVec 128 :=
  quadOf (BitVec.ofNat 32 (2 ^ 31 + b2n stale * 2 ^ 30 + status % 16 * 2 ^ 24 + tag % 256 * 2 ^ 16 + target % 256 * 2 ^ 8 +
    op % 256)) (BitVec.ofNat 32 (epoch % 65536 * 65536 + detail % 65536)) r0 r1

/-- Post a command answer: it is held while the queue is full (R293), and RSP is set once it is posted (R297). -/
def State.postAnswer (s : State) (e : Eng) (r : BitVec 128) : State :=
  let x := s.engRec e
  if x.rspq.length < 16 ∧ x.held = [] then (s.setEng e { x with rspq := x.rspq ++ [r] }).raise (ep e) 1
  else s.setEng e { x with held := x.held ++ [r] }

/-- The EPOCH with which an engine answers about a group that it has left in a migration, as STALE (R301): the one from before it, for
commands taken afterwards too (DEDUCED, log 176). -/
def State.staleEpoch (s : State) (e : Eng) (g : Option Grp) : Option Nat :=
  match (s.engRec e).left, g with
  | some l, some g => if l.1 = g.val then some l.2 else none
  | _, _ => none

/-- An engine's answer to a command, given the epoch at its taking. -/
def State.answerWord (s : State) (e : Eng) (c : BitVec 128) (epoch status detail : Nat) (r0 r1 : Word) : BitVec 128 :=
  let old := s.staleEpoch e (targetGrp (cmdTarget c))
  response old.isSome status (cmdTag c) (cmdTarget c) (cmdOp c) (old.getD epoch) detail r0 r1

/-- Answer a command, given the epoch at its taking. STARTED is no final answer, so ENG_CNT.COMMANDS does not count it
(log 29). -/
def State.answerCmd (s : State) (e : Eng) (c : BitVec 128) (epoch status detail : Nat) (r0 r1 : Word) : State :=
  let s := s.postAnswer e (s.answerWord e c epoch status detail r0 r1)
  if status = 1 then s else s.inc (ep e) StageR.ENG_CNT_COMMANDS

/-- EPOCH of the group a command names, or of nobody (R292). -/
def State.cmdGrpEpoch (s : State) (c : BitVec 128) : Nat :=
  match targetGrp (cmdTarget c) with
  | some g => s.epoch g
  | none => 0xFFFF

/-- A notice of an engine (R292, R297). -/
def State.noticeWord (s : State) (e : Eng) (code : Nat) (r0 r1 : Word) : BitVec 128 :=
  let g := s.engGrp e
  let old := s.staleEpoch e g
  response old.isSome 15 0 ((g.map (fun g => 0x80 + g.val)).getD 0xFF) 0xFE (old.getD ((g.map s.epoch).getD 0xFFFF)) code r0 r1

/-- Post a notice (R297); one that finds the queue full is lost (R293). `ev`: it has an event bit. -/
def State.notice (s : State) (e : Eng) (code : Nat) (r0 r1 : Word) (ev : Bool) : State :=
  let x := s.engRec e
  if x.rspq.length < 16 then
    (s.setEng e { x with rspq := x.rspq ++ [s.noticeWord e code r0 r1] }).raiseIf ev (ep e) 2
  else s.inc (ep e) StageR.RSPQ_STAT_NOTICE_LOST

/-- Remove the head of a response queue, and post an answer that was held for want of room (R293). -/
def State.popAnswer (s : State) (e : Eng) : BitVec 128 × State :=
  let x := s.engRec e
  match x.rspq with
  | [] => (0, s)
  | r :: t =>
    match x.held with
    | [] => (r, s.setEng e { x with rspq := t })
    | h :: hs => (r, (s.setEng e { x with rspq := t ++ [h], held := hs }).raise (ep e) 1)

/-- Empty an engine's command queue without answers (R290); an answer it held is lost too, uncounted (log 30), and a long
command ends with it. -/
def State.emptyCmdq (s : State) (e : Eng) : State :=
  let x := s.engRec e
  (s.setEng e { x with cmdq := [], held := [], long := none }).add (ep e) StageR.CMDQ_STAT_DISCARDED x.cmdq.length

/-- A long command of an engine releases what it holds (R295): its capture buffer. -/
def State.releaseLong (s : State) (e : Eng) : State :=
  forAll allGroups (fun g s => if (s.grp g).cap == some (128 + e.val) then s.setGrp g { s.grp g with cap := none } else s) s

/-- The long command in progress ends with an answer. -/
def State.endLong (s : State) (e : Eng) (status detail : Nat) (r0 r1 : Word) : State :=
  match (s.engRec e).long with
  | none => s
  | some l => ((s.modEng e (fun x => { x with long := none })).releaseLong e).answerCmd e l.cmd l.epoch status detail r0 r1

/-- The long command in progress ends ABORTED; its progress is the firmware's (a free value). -/
def State.abortLong (s : State) (e : Eng) : State :=
  let d := s.draw
  d.2.endLong e 7 (d.1.toNat % 65536) 0 0

end Sys2Proof.Machine
end

