-- ==== Sys2Proof/Machine/Flash.lean ====
section
/-!
DEFINITION. Machine/Flash.lean: the flash die, its records and its controller (R341 to R353): energy checks, stores, the payloads
of the records the module assembles, and the queue of operations.
-/
namespace Sys2Proof.Machine

/-! ### The flash die (R345, R353) -/

/-- What an unlisted flash byte reads as: erased, but for FACTORY, which is written at manufacture (log 31). -/
def flashReset (a : Nat) : Byte :=
  if 0x080000 ≤ a ∧ a < 0x090000 then Config.factoryByte (a - 0x080000) else 0xFF

/-- Change the flash record. -/
def State.modFlash (s : State) (f : FlashSt → FlashSt) : State := { s with flash := f s.flash }

/-- A flash byte. One in a sector cut by a full reset is undefined, and no two looks need agree (R353). -/
def State.flashGet (s : State) (a : Nat) : Byte :=
  if s.flash.cut.contains (a / 4096) then Config.cutByte s.free a else tabGet flashReset s.flash.bytes a

/-- `n` flash bytes from `a` upward, and the big-endian number they spell. -/
def State.flashBytes (s : State) (a n : Nat) : List Byte := (List.range n).map (fun i => s.flashGet (a + i))
def State.flashNum (s : State) (a n : Nat) : Nat := fbe (s.flashBytes a n) 0 n

/-- Write one flash byte. -/
def State.flashPut (s : State) (a : Nat) (b : Byte) : State :=
  s.modFlash (fun x => { x with bytes := tabSet flashReset x.bytes a b })

/-- Write flash bytes from `a` upward. -/
def State.flashWrite (s : State) (a : Nat) (l : List Byte) : State :=
  ((List.range l.length).zip l).foldl (fun s e => s.flashPut (a + e.1) e.2) s

/-- Erase `n` sectors from sector number `k`. -/
def State.flashErase (s : State) (k n : Nat) : State :=
  s.modFlash (fun x => { x with
    cut := x.cut.filter (fun c => !(decide (k ≤ c) && decide (c < k + n)))
    bytes := x.bytes.filter (fun e => !(decide (k * 4096 ≤ e.1) && decide (e.1 < (k + n) * 4096))) })

/-- Sectors whose erase or program was cut or failed: undefined (R353, log 178). -/
def State.flashUndef (s : State) (l : List Nat) : State :=
  s.modFlash (fun x => { x with cut := x.cut ++ l.filter (fun k => !x.cut.contains k) })

/-- Whether `n` bytes from `a` are all erased. -/
def State.flashBlank (s : State) (a n : Nat) : Bool := (s.flashBytes a n).all (· == 0xFF)

/-- Program bytes: a program can only clear bits. The read-back tells whether each byte took its value (R350). -/
def State.flashProgram (s : State) (a : Nat) (l : List Byte) : State × Bool :=
  let old := s.flashBytes a l.length
  (s.flashWrite a (List.zipWith (· &&& ·) old l), (List.zipWith (· &&& ·) old l) == l)

/-- Offset of a region, and its size (R345). -/
def regionBase (r : Nat) : Nat :=
  if r = 0 then 0 else if r = 1 then 0x040000 else if r = 2 then 0x080000 else if r = 3 then 0x090000
  else if r = 4 then 0x094000 else if r = 5 then 0x09C000 else if r = 6 then 0x09E000 else if r = 7 then 0x0A0000
  else 0x100000
def regionSize (r : Nat) : Nat :=
  if r ≤ 1 then 0x40000 else if r = 2 then 0x10000 else if r = 3 then 0x4000 else if r = 4 then 0x8000
  else if r ≤ 7 then 0x2000 else 0x100000

/-- Slot A (1) or B (2) of a two-slot region, and its size. -/
def slotBase (r slot : Nat) : Nat := regionBase r + (if slot = 2 then regionSize r / 2 else 0)
def slotSize (r : Nat) : Nat := regionSize r / 2

/-! ### Records (R346 to R349) -/

/-- The first 24 bytes of a record header. -/
def recHead (type seq len time : Nat) : List Byte :=
  beBytes 4 0x52454331 ++ beBytes 4 (type * 2 ^ 24 + 2 ^ 16) ++ beBytes 4 seq ++ beBytes 4 len ++ beBytes 4 time ++
  beBytes 4 0

/-- A whole committed record. -/
def recBytes (type seq time : Nat) (payload : List Byte) : List Byte :=
  let h := recHead type seq payload.length time
  h ++ beBytes 4 (crc32 (h ++ payload)).toNat ++ beBytes 4 0x5A5AA5A5 ++ payload

/-- A record at `a` of a region is valid, in a slot of `size` bytes (R346). -/
def State.recValid (s : State) (r a size : Nat) : Bool :=
  let len := s.flashNum (a + 0x0C) 4
  s.flashNum a 4 == 0x52454331 && s.flashNum (a + 4) 1 == r && s.flashNum (a + 5) 1 == 1 &&
  decide (len + 32 ≤ size) && s.flashNum (a + 0x1C) 4 == 0x5A5AA5A5 &&
  s.flashNum (a + 0x18) 4 == (crc32 (s.flashBytes a 24 ++ s.flashBytes (a + 32) len)).toNat

/-- SEQ, TIME and the payload of a record. -/
def State.recSeq (s : State) (a : Nat) : Nat := s.flashNum (a + 8) 4
def State.recTime (s : State) (a : Nat) : Nat := s.flashNum (a + 0x10) 4
def State.recPayload (s : State) (a : Nat) : List Byte := s.flashBytes (a + 32) (s.flashNum (a + 0x0C) 4)

/-- The serial order of R348: `x` is newer than `y`. -/
def serialNewer (x y : Nat) : Bool :=
  let d := (x + 2 ^ 32 - y) % 2 ^ 32
  d != 0 && decide (d < 2 ^ 31)

/-- The active slot the validation chooses: 0 none, 1 A, 2 B (R348). -/
def State.chooseSlot (s : State) (r : Nat) : Nat :=
  let a := s.recValid r (slotBase r 1) (slotSize r)
  let b := s.recValid r (slotBase r 2) (slotSize r)
  let sa := s.recSeq (slotBase r 1)
  let sb := s.recSeq (slotBase r 2)
  if a && b then (if serialNewer sa sb || sa == sb then 1 else 2) else if a then 1 else if b then 2 else 0

/-- The active slot of a two-slot region. -/
def State.activeSlot (s : State) (r : Nat) : Nat := tabGet (fun _ => 0) s.flash.active r
def State.setActive (s : State) (r slot : Nat) : State :=
  s.modFlash (fun x => { x with active := tabSet (fun _ => 0) x.active r slot })

/-- Validate every two-slot region (R348). -/
def State.validateRecords (s : State) : State := forAll [3, 4, 5, 6] (fun r s => s.setActive r (s.chooseSlot r)) s

/-- SEQ of the active record; 0 if none. -/
def State.activeSeq (s : State) (r : Nat) : Nat :=
  if s.activeSlot r = 0 then 0 else s.recSeq (slotBase r (s.activeSlot r))

/-- The slot a store writes, and its SEQ (R347). -/
def State.storeSlot (s : State) (r : Nat) : Nat := if s.activeSlot r = 1 then 2 else 1
def State.storeSeq (s : State) (r : Nat) : Nat :=
  if s.activeSlot r = 0 then 1 else (s.activeSeq r + 1) % 2 ^ 32

/-- SEC[31:0] of the timebase as a record's TIME; 0 while it is not valid (R346). -/
def State.recNow (s : State) : Nat := if s.on .time TimeR.TIME_STAT_VALID then s.sec % 2 ^ 32 else 0

/-- Bytes whose erase or program failed, or was cut, from `a` upward: what they read as is a free value (log 178). -/
def State.flashSpoil (s : State) (a n : Nat) : State :=
  let d := s.draw
  d.2.flashWrite a ((List.range n).map (fun i => Config.cutByte s.free (a + i)))

/-- A store that failed its read-back: whatever the slot holds, its record is not committed (R347). -/
def State.storeSpoil (s : State) (a n : Nat) : State :=
  let s := s.flashSpoil a n
  if s.flashNum (a + 0x1C) 4 = 0x5A5AA5A5 then s.flashWrite (a + 0x1C) (List.replicate 4 0xFF) else s

/-- The end of a store of a record into a two-slot region (R347): committed and active, or left invalid. -/
def State.storeRecord (s : State) (r : Nat) (rec : List Byte) (ok : Bool) : State :=
  let slot := s.storeSlot r
  let a := slotBase r slot
  let s := s.flashErase (a / 4096) (slotSize r / 4096)
  if ok then (s.flashWrite a rec).setActive r slot else s.storeSpoil a rec.length

/-- Address of fall slot `k` (R349), and the sector `h` of the region. -/
def fallSlot (k : Nat) : Nat := regionBase 7 + 256 * k
def State.fallValid (s : State) (k : Nat) : Bool := s.recValid 7 (fallSlot k) 256
def State.fallErased (s : State) (k : Nat) : Bool := s.flashBlank (fallSlot k) 256

/-- The newest valid of a list of record addresses, by the serial order of R348. -/
def State.newestOf (s : State) (l : List Nat) : Option Nat :=
  l.foldl (fun acc a =>
    match acc with
    | none => some a
    | some b => if serialNewer (s.recSeq a) (s.recSeq b) then some a else acc) none

/-- The newest valid fall record. -/
def State.fallNewest (s : State) : Option Nat :=
  s.newestOf (((List.range 32).filter (fun k => s.fallValid k)).map fallSlot)
def State.fallSeq (s : State) : Nat := (s.fallNewest.map s.recSeq).getD 0

/-- FREE of the FALL region: 0 while an erase is owed (R349). -/
def State.fallFree (s : State) : Nat :=
  if s.flash.eraseDue then 0 else ((List.range 32).filter (fun k => s.fallErased k)).length

/-- The sector (0 or 1) with the older fall records: the one that does not hold the newest (R349). -/
def State.fallOlder (s : State) : Nat :=
  match s.fallNewest with
  | some a => if a < fallSlot 16 then 1 else 0
  | none => 0

/-! ### Energy (R341, R342) -/

/-- E_AVAIL in mJ, from C in 0.1 µF and V_HUP in 10 mV. -/
def energyOf (c v : Nat) : Nat := if v ≤ 1400 then 0 else 475 * c * (v * v - 1960000) / 10 ^ 11

/-- E_AVAIL as HUP_ENERGY shows it. -/
def State.eAvail (s : State) : Nat := s.f .supply SupplyR.HUP_ENERGY_E_AVAIL

/-- One energy check of a kind, recorded in NVM_ECHK; a refusal counts and sets FAIL (R342, R352). -/
def State.energyCheck (s : State) (kind req : Nat) : State × Bool :=
  let pass := decide (req ≤ s.eAvail)
  let s := (((s.setF .nvm NvmR.NVM_ECHK_E_AVAIL s.eAvail).setF .nvm NvmR.NVM_ECHK_E_REQ req).setF .nvm NvmR.NVM_ECHK_KIND kind).setB
    .nvm NvmR.NVM_ECHK_PASS pass
  (if pass then s else (s.inc .nvm NvmR.NVM_CNT_REFUSED).raise .nvm 16, pass)

/-- KIND and E_REQ of an operation; none: no check. -/
def opCheck : FlashOp → Option (Nat × Nat)
  | .host op r _ _ =>
    if op = 1 then some (1, if r = 4 then 213 else if r = 3 then 116 else 68)
    else if op = 3 then some (1, 52) else if op = 4 then some (1, 19) else none
  | .calStore => some (6, 213)
  | .repairStore _ => some (2, 68)
  | .fuseSession => some (3, 105)
  | .fallErase _ => some (5, 52)
  | .logAppend _ _ _ _ => some (4, 17)
  | .logErase _ => some (4, 52)
  | .load _ _ => none
  | .keyOp => some (3, 105)

/-! ### Payloads -/

/-- An eighth-degree code as rounded whole degrees. -/
def degrees (x : Int) : Byte := BitVec.ofInt 8 (roundDiv x 8)

/-- The trims in use of a path. -/
def State.trim (s : State) (p : Path) : TrimSt := tabGet (fun _ => {}) s.trims p.val

/-- The path block of a calibration record (R393). -/
def State.calPathBlock (s : State) (p : Path) : List Byte :=
  let t := s.trim p
  (List.range 34).flatMap (fun k => let x := s.slice p k; [x.ofs, x.gain, x.skew]) ++ [t.rxTerm, t.txTerm] ++
  beBytes 2 t.ctle.toNat ++ [t.txDac, t.temp] ++ wordBytes t.rxPi ++ wordBytes t.txPi ++
  -- d_in and d_out, copied from FACTORY: where they stand in it is not laid down (log 32)
  (List.range 4).map (fun i => Config.factoryByte (4 * p.val + i))

/-- The twin link block of a calibration record (R393). -/
def State.twinBlock (s : State) : List Byte :=
  (List.range 8).flatMap (fun i =>
    [tabGet (fun _ => (16 : Byte)) s.cal.twinTerm i] ++
    (if i < 4 then beBytes 2 (tabGet (fun _ => (0 : BitVec 16)) s.cal.twinOfs i).toNat else [0, 0]) ++ List.replicate 29 0)

/-- The payload of a calibration record (R393). -/
def State.calPayload (s : State) : List Byte :=
  [BitVec.ofNat 8 (s.f .cal CalR.CAL_CFG_CAL_CHECK)] ++
  allGroups.map (fun g => degrees (s.sf (gp g) GroupR.CAL_TEMP_RUN_T)) ++ [degrees s.cal.centre.toInt] ++
  beBytes 2 (s.f .cal CalR.BG_MON_DIFF) ++ List.replicate 244 0 ++ allPaths.flatMap s.calPathBlock ++ s.twinBlock

/-- The registers of the configuration record, in ascending address order (R470). -/
def cfgRegs : List Nat :=
  [pageAddr .house 0x114, pageAddr .supply 0x040, pageAddr .supply 0x044, pageAddr .supply 0x060, pageAddr .cal 0x040,
   pageAddr .reh 0x04C, pageAddr .time 0x080, pageAddr .time 0x084, pageAddr .time 0x088] ++
  [pageAddr .time TimeR.MARK_CFG_MODE.off, pageAddr .time TimeR.MARK_PERIOD_P.off,
   pageAddr .twin TwinR.TWIN_CFG_EN.off, pageAddr .twin TwinR.TT_ASYM_ASYM.off,
   pageAddr .frame FrameR.FRAME_CTL_UM_EN.off, pageAddr .frame FrameR.UM_ETYPE_ETYPE.off,
   pageAddr .frame FrameR.UM_DEADLINE_DEADLINE.off] ++
  (List.range 4).flatMap (fun k => [pageAddr .frame (FrameR.MAC_HI_MAC k).off, pageAddr .frame (FrameR.MAC_LO_MAC k).off,
    pageAddr .frame (FrameR.PTP_ID_HI_CLOCK_ID k).off, pageAddr .frame (FrameR.PTP_ID_LO_CLOCK_ID k).off,
    pageAddr .frame (FrameR.PTP_PORTNUM_PORTNUM k).off]) ++
  allGroups.flatMap (fun g => [0x040, 0x044, 0x048, 0x04C, 0x280].map (pageAddr (gp g))) ++
  allPaths.flatMap (fun p => [0x008, 0x050, 0x2C0, 0x340, PathR.PTP_ASYM_ASYM.off, 0x480].map (pageAddr (pp p)))

/-- The payload of a configuration record (R470). -/
def State.cfgPayload (s : State) : List Byte :=
  beBytes 4 844 ++ beBytes 4 0xB1 ++ beBytes 8 0 ++ cfgRegs.flatMap (fun a => beBytes 4 a ++ wordBytes (s.rd a))

/-- The payload of the repair map (R411). -/
def State.repairPayload (s : State) : List Byte :=
  beBytes 4 s.reh.soft.length ++ beBytes 4 0 ++
  s.reh.soft.flatMap (fun e => wordBytes e.word ++ beBytes 4 (b2n e.fused * 2 ^ 31 + e.test * 65536))

def State.modReh (s : State) (f : RehSt → RehSt) : State := { s with reh := f s.reh }

/-- REH_STAT.STATE: 0 idle, 1 opening, 2 testing, 3 closing, 4 fusing; scope and target of the present or last run. -/
def State.rehState (s : State) : Nat := s.f .reh RehR.REH_STAT_STATE
def State.rehScope (s : State) : Nat := s.f .reh RehR.REH_STAT_SCOPE
def State.rehTarget (s : State) : Nat := s.f .reh RehR.REH_STAT_TARGET
def State.rehOn (s : State) : Bool := s.rehState == 2

/-- The groups a scope covers (R396). -/
def State.rehGroups (s : State) : List Grp :=
  if s.rehScope ≤ 1 then allGroups else if s.rehScope = 2 then [grpAt s.rehTarget] else []
/-! ### The log (R414, R415) -/

/-- Address of page `k` of the rehearsal log. -/
def logPage (k : Nat) : Nat := regionBase 8 + 256 * (k % 4096)

/-- The newest valid entry. -/
def State.logNewest (s : State) : Option Nat :=
  s.newestOf (((List.range 4096).map logPage).filter (fun a => s.recValid 8 a 256))

/-- A byte or number of the payload of the log entry at `a`; offsets are those of R415. -/
def State.logNum (s : State) (a off n : Nat) : Nat := s.flashNum (a + off) n

/-- The payload of an entry (R415). A group that the run does not cover has zeros (DESIGN CHOICE, log 179). -/
def State.logPayload (s : State) (kind overall dur cause : Nat) : List Byte :=
  let byte (n : Nat) : Byte := BitVec.ofNat 8 n
  let r := s.reh
  [byte kind, byte s.rehScope, byte (if s.rehScope ≤ 1 then 0xFF else s.rehTarget), byte overall] ++
  beBytes 4 (s.f .reh RehR.ONTIME_MIN) ++ beBytes 4 dur ++ beBytes 4 r.fallSeq ++ beBytes 4 (s.activeSeq 5) ++
  [byte cause, byte (s.f .reh RehR.TESTLAND_DRIVEN)] ++
  beBytes 2 r.added ++ List.replicate 8 0 ++ (List.range 16).map (fun i => quadByte r.stamp i) ++
  (List.range 16).flatMap (fun t =>
    [byte (s.f .reh (RehR.REH_RES_RESULT t)),
     byte (s.f .reh (RehR.REH_RES_COINC t) + 2 * s.f .reh (RehR.REH_RES_VOID t))] ++
    beBytes 2 (s.f .reh (RehR.REH_RES_COV t)) ++ beBytes 2 (s.f .reh (RehR.REH_RES_DUR t)) ++
    beBytes 2 (tabGet (fun _ => 0) r.elems t)) ++
  allGroups.flatMap (fun g => if s.rehGroups.contains g then
    [byte (s.f (gp g) GroupR.GRP_REH_STAT_LAST), byte (tabGet (fun _ => 0) r.addedG g.val)] ++
    beBytes 2 (s.f (gp g) GroupR.GRP_REH_FAIL_PATHS) else [0, 0, 0, 0]) ++
  List.replicate 16 0

/-- The page the next entry takes, and its SEQ: the page after the newest entry (R414). -/
def State.logPlace (s : State) : Nat × Nat :=
  match s.logNewest with
  | some a => (logPage ((a - regionBase 8) / 256 + 1), (s.recSeq a + 1) % 2 ^ 32)
  | none => (logPage 0, 1)

/-! ### The controller (R350 to R353) -/

/-- A byte of NVM_BUF. -/
def State.nvmBuf (s : State) (i : Nat) : Byte := wordByte (s.rd (pageAddr .nvm (0x400 + 4 * (i / 4)))) (i % 4)

/-- Put bytes into NVM_BUF from byte 0. -/
def State.nvmBufSet (s : State) (l : List Byte) : State :=
  (List.range (min 256 ((l.length + 3) / 4))).foldl (fun s i =>
    let old := s.rd (pageAddr .nvm (0x400 + 4 * i))
    let b (k : Nat) : Byte := (l[4 * i + k]?).getD (wordByte old k)
    s.wr (pageAddr .nvm (0x400 + 4 * i)) (b 0 ++ b 1 ++ b 2 ++ b 3)) s

/-- The host's command ends with a RESULT (R352). -/
def State.hostEnd (s : State) (res : Nat) : State :=
  let s := (s.setF .nvm NvmR.NVM_STAT_STATE 0).setF .nvm NvmR.NVM_STAT_RESULT res
  if res = 1 then (s.inc .nvm NvmR.NVM_CNT_DONE).raise .nvm 0
  else if res = 3 then s.raise .nvm 16 else s

/-- A key operation ends with a RESULT (R476): the staged key is cleared, and a BURN_UM slot that fails is left spent. -/
def State.keyEnd (s : State) (res : Nat) : State :=
  let spend (s : State) : State :=
    match s.security.op with
    | some (1, _, slot, _) =>
      { s with security := if slot = 0 then { s.security with um0 := { s.security.um0 with burned := true } }
          else { s.security with um1 := { s.security.um1 with burned := true } } }
    | _ => s
  let s := if res = 2 ∨ res = 3 then spend s else s
  let s := ((s.setF .sec SecR.SEC_OPSTAT_STATE 0).setF .sec SecR.SEC_OPSTAT_RESULT res).rstRange .sec 0x050 0x06C
  ({ s with security := { s.security with op := none } }).raiseIf (decide (2 ≤ res)) .sec 20

/-- A run is refused (R397). -/
def State.rehRefused (s : State) (cause : Nat) : State :=
  (s.setF .reh RehR.REH_STAT_CAUSE cause).viol .reh .consistency

/-- A run is over: its result entry has been appended, or lost (R415). -/
def State.rehOver (s : State) : State :=
  (s.setF .reh RehR.REH_STAT_STATE 0).modReh (fun x => { x with opened := false })

/-- A refused operation's own status (R342, R397, R412, R413, R414, R476). -/
def State.flashRefused (s : State) (op : FlashOp) : State :=
  match op with
  | .host _ _ _ _ => s.hostEnd 2
  | .calStore => s.setF .cal CalR.CAL_STAT_STORING 0
  | .repairStore _ => s.setF .reh RehR.REP_STAT_UNSTORED 1
  | .fuseSession => (s.setF .reh RehR.REH_STAT_STATE 0).setF .reh RehR.REH_STAT_CAUSE 4
  | .keyOp => s.keyEnd 2
  | .logAppend kind _ _ _ => if kind = 1 then (s.rehRefused 4).rehOver else (s.setF .reh RehR.REH_STAT_LOG_LOST 1).rehOver
  | _ => s

/-- The operation that comes first for one at the head of the queue: an append into a page that is not erased has its sector erased
first, under a check of its own (R414). -/
def State.flashFirst (s : State) (op : FlashOp) : FlashOp :=
  match op with
  | .logAppend _ _ _ _ => if s.flashBlank s.logPlace.1 256 then op else .logErase (s.logPlace.1 / 4096)
  | _ => op

/-- The bytes an operation starts with: the record a store will write. -/
def State.opBytes (s : State) (op : FlashOp) : List Byte :=
  match op with
  | .host 1 r _ len =>
    recBytes r (s.storeSeq r) s.recNow (if r = 3 then s.cfgPayload else if r = 4 then s.calPayload
      else (List.range len).map s.nvmBuf)
  | .calStore => recBytes 4 (s.storeSeq 4) s.recNow (s.calPayload)
  | .repairStore pl => recBytes 5 (s.storeSeq 5) s.recNow pl
  | .logAppend kind overall dur cause => recBytes 8 s.logPlace.2 s.recNow (s.logPayload kind overall dur cause)
  | _ => []

/-- A payload made for it is out of date once the values move on: DIRTY belongs to the values stored (R392). -/
def storesCal : FlashOp → Bool
  | .host 1 4 _ _ => true
  | .calStore => true
  | _ => false

/-- Start a queued operation (R351): the bytes it programs are taken now. -/
def State.flashStart (s : State) (op : FlashOp) (rest : List FlashOp) : State :=
  let s := s.modFlash (fun x => { x with
    queue := rest, wait := false, run := some (op, s.opBytes op), clean := storesCal op })
  match op with
  | .host _ _ _ _ => s.setF .nvm NvmR.NVM_STAT_STATE 3
  | _ => s

/-- The head of the queue waits for a capacitance test (R340). -/
def State.flashHold (s : State) (op : FlashOp) : State :=
  let s := s.modFlash (fun x => { x with wait := true })
  match op with
  | .host _ _ _ _ => s.setF .nvm NvmR.NVM_STAT_STATE 2
  | _ => s

/-- Start the next operation of the queue, if the controller is free: one that a check refuses ends at once and the next is
taken; one that needs a check waits while a capacitance test runs (R340, R342, R351). -/
def State.flashServeN : Nat → State → State
  | 0, s => s
  | fuel + 1, s =>
    match s.flash.run, s.flash.queue with
    | some _, _ => s
    | none, [] => s
    | none, op :: rest =>
      if s.device == .failing || s.device == .off || s.device == .fullReset || s.houseReset then s
      else
        let one := s.flashFirst op
        match opCheck one with
        | none => s.flashStart op rest
        | some (kind, req) =>
          if s.supply.testing then s.flashHold op
          else
            let r := s.energyCheck kind req
            if r.2 then r.1.flashStart one (if one = op then rest else op :: rest)
            else flashServeN fuel ((r.1.modFlash (fun x => { x with queue := rest, wait := false })).flashRefused op)

/-- Serve the queue. -/
def State.flashServe (s : State) : State := State.flashServeN (s.flash.queue.length + 1) s

/-- Queue an operation behind those ahead of it (R351). -/
def State.flashQueue (s : State) (op : FlashOp) : State :=
  (s.modFlash (fun x => { x with queue := x.queue ++ [op] })).flashServe

/-- A calibration record has committed: the values stored are those in use if no trim has moved meanwhile (R392, R512). -/
def State.calCommitted (s : State) : State :=
  let s := if s.flash.clean then s.setF .cal CalR.CAL_STAT_DIRTY 0 else s
  s.modFlash (fun x => { x with calSince := s.f .reh RehR.ONTIME_MIN, clean := false })

/-- A trim in use has changed (R392). -/
def State.calDirty (s : State) : State :=
  (s.setF .cal CalR.CAL_STAT_DIRTY 1).modFlash (fun x => { x with clean := false })

/-- The end of a host command, given whether the flash read back right (R347, R350, R352). -/
def State.hostOpEnd (s : State) (op r addr len : Nat) (rec : List Byte) (ok : Bool) : State :=
  if op = 1 then
    let s := s.storeRecord r rec ok
    let s := if ok ∧ r = 4 then s.calCommitted else s
    s.hostEnd (if ok then 1 else 3)
  else if op = 2 then ((s.nvmBufSet (s.flashBytes (regionBase r + addr) len)).draw.2).hostEnd 1
  else if op = 3 then
    (if ok then s.flashErase ((regionBase r + addr) / 4096) 1 else s.flashUndef [(regionBase r + addr) / 4096]).hostEnd
      (if ok then 1 else 3)
  else if ok then
    let w := s.flashProgram (regionBase r + addr) ((List.range len).map s.nvmBuf)
    w.1.hostEnd (if w.2 then 1 else 3)
  else (s.flashSpoil (regionBase r + addr) len).hostEnd 3

/-- FLASH_OPERATION_END for the operations that no other command ends (R351). -/
def State.flashEnd (s : State) (ok : Bool) : State :=
  let free (s : State) : State := (s.modFlash (fun x => { x with run := none })).flashServe
  match s.flash.run with
  | some (.host op r addr len, rec) => free (s.hostOpEnd op r addr len rec ok)
  | some (.calStore, rec) =>
    let s := (s.storeRecord 4 rec ok).setF .cal CalR.CAL_STAT_STORING 0
    free (if ok then s.calCommitted.inc .cal CalR.CAL_STORE_STORES else s.raise .nvm 16)
  | some (.repairStore _, rec) =>
    let s := s.storeRecord 5 rec ok
    free (if ok then s.setF .reh RehR.REP_STAT_UNSTORED 0 else (s.setF .reh RehR.REP_STAT_UNSTORED 1).raise .nvm 16)
  | some (.fallErase k, _) =>
    let s := if ok then (s.flashErase (regionBase 7 / 4096 + k) 1).modFlash (fun x => { x with eraseDue := false })
      else (s.flashUndef [regionBase 7 / 4096 + k]).raise .nvm 16
    free s
  | some (.logErase k, _) =>
    if ok then free (s.flashErase k 1)
    else
      -- the append that needed the sector is not made
      let s := (s.flashUndef [k]).raise .nvm 16
      match s.flash.queue with
      | op :: rest => free ((s.modFlash (fun x => { x with queue := rest })).flashRefused op)
      | [] => free s
  | some (.logAppend kind _ _ _, rec) =>
    let a := s.logPlace.1
    let s := if ok then s.flashWrite a rec else (s.flashSpoil a 256).raise .nvm 16
    free (if kind = 2 then s.rehOver else s)
  | _ => s

/-- The arguments of a host command are in their ranges (R350). -/
def cmdArgsOk (op r addr len : Nat) : Bool :=
  (op == 1 && (r == 3 || r == 4 || (r == 6 && decide (1 ≤ len) && decide (len ≤ 1024)))) ||
  (op == 2 && decide (r ≤ 8) && decide (1 ≤ len) && decide (len ≤ 1024) && decide (addr + len ≤ regionSize r)) ||
  (op == 3 && decide (r ≤ 1) && decide (addr < regionSize r) && addr % 4096 == 0) ||
  (op == 4 && decide (r ≤ 1) && decide (addr + len ≤ regionSize r) && addr % 256 == 0 &&
    (len == 256 || len == 512 || len == 768 || len == 1024))

/-- A write of OP to NVM_CMD (R350, R351). -/
def State.nvmCmd (s : State) (op r : Nat) : State :=
  if op = 0 then s
  else if s.f .nvm NvmR.NVM_STAT_STATE ≠ 0 then s.viol .nvm .consistency
  else
    let addr := s.f .nvm NvmR.NVM_ADDR_ADDR
    let len := s.f .nvm NvmR.NVM_LEN_LEN
    let s := (s.setF .nvm NvmR.NVM_STAT_LAST_OP op).setF .nvm NvmR.NVM_STAT_LAST_REGION r
    if cmdArgsOk op r addr len then (s.setF .nvm NvmR.NVM_STAT_STATE 1).flashQueue (.host op r addr len)
    else (s.hostEnd 4).viol .nvm .consistency

/-- Queued operations are dropped: the host's ends ABORTED, the module's own are left to their owners (R353). -/
def State.flashDrop (s : State) : State :=
  let host := s.flash.queue.any (fun op => match op with | .host _ _ _ _ => true | _ => false)
  let cal := s.flash.queue.contains .calStore
  let s := s.modFlash (fun x => { x with queue := [], wait := false })
  let s := if host then s.hostEnd 5 else s
  if cal then s.setF .cal CalR.CAL_STAT_STORING 0 else s

/-- The sectors the running operation erases or programs. -/
def State.runSectors (s : State) : List Nat :=
  let slot (r : Nat) : List Nat := (List.range (slotSize r / 4096)).map (· + slotBase r (s.storeSlot r) / 4096)
  match s.flash.run with
  | some (.host 1 r _ _, _) => slot r
  | some (.host 3 r addr _, _) => [(regionBase r + addr) / 4096]
  | some (.host 4 r addr len, _) => ([(regionBase r + addr) / 4096, (regionBase r + addr + len - 1) / 4096]).dedup
  | some (.calStore, _) => slot 4
  | some (.repairStore _, _) => slot 5
  | some (.fallErase k, _) => [regionBase 7 / 4096 + k]
  | some (.logErase k, _) => [k]
  | some (.logAppend _ _ _ _, _) => [s.logPlace.1 / 4096]
  | _ => []

/-- A full reset stops the controller at once: a sector being erased or programmed is left undefined (R353). -/
def State.flashCut (s : State) : State :=
  (s.flashUndef s.runSectors).modFlash (fun x => { x with
    queue := [], run := none, wait := false, clean := false, eraseDue := false })

end Sys2Proof.Machine
end

