-- ==== Sys2Proof/Machine/Trim.lean ====
section
/-!
DEFINITION. Machine/Trim.lean: trims and calibration runs (R377 to R390): starting, pending and abandoned runs, the results of a
block, their checks and application, ramps, released slices and the disruptive ADC run.
-/
namespace Sys2Proof.Machine

/-! ### Trims (R377) -/

/-- Replace what is kept of the trims of a path. -/
def State.putTrim (s : State) (p : Path) (t : TrimSt) : State :=
  { s with trims := tabSet (fun _ => ({} : TrimSt)) s.trims p.val t }

/-- Replace the trims in use of a path; a change makes the device DIRTY (R392). -/
def State.setTrim (s : State) (p : Path) (t : TrimSt) : State :=
  if s.trim p = t then s else (s.putTrim p t).calDirty

/-- The four interpolator coefficients of a word. -/
def piCodes (w : Word) : List Int := (wordBytes w).map BitVec.toInt
def piWord (l : List Int) : Word :=
  let b (i : Nat) : Byte := BitVec.ofInt 8 (l.getD i 0)
  b 0 ++ b 1 ++ b 2 ++ b 3

/-- The codes in use of block `b` (0 TERM to 4 TX_DAC), and their replacement. -/
def blockCodes (b : Nat) (t : TrimSt) : List Int :=
  if b = 0 then [(t.rxTerm.toNat : Int), (t.txTerm.toNat : Int)]
  else if b = 1 then [t.ctle.toInt]
  else if b = 2 then piCodes t.rxPi
  else if b = 3 then piCodes t.txPi
  else [t.txDac.toInt]
def setBlock (b : Nat) (l : List Int) (t : TrimSt) : TrimSt :=
  if b = 0 then { t with rxTerm := BitVec.ofInt 8 (l.getD 0 16), txTerm := BitVec.ofInt 8 (l.getD 1 16) }
  else if b = 1 then { t with ctle := BitVec.ofInt 16 (l.getD 0 0) }
  else if b = 2 then { t with rxPi := piWord l }
  else if b = 3 then { t with txPi := piWord l }
  else { t with txDac := BitVec.ofInt 8 (l.getD 0 0) }

/-- The codes a measurement reports, within the legal ranges of R377. -/
def resCodes (b : Nat) (w : Word) : List Int :=
  if b = 0 then [(fget w 12 8 : Int), (fget w 4 0 : Int)]
  else if b = 1 then [sx 12 (fget w 11 0)]
  else if b = 2 ∨ b = 3 then piCodes w
  else [sx 8 (fget w 7 0)]

/-- The forerunner's limits for a block (R388): lowest and highest code, and the largest change. -/
def checkLimits (b : Nat) : Int × Int × Nat :=
  if b = 0 then (4, 27, 4) else if b = 1 then (-400, 400, 80) else if b = 4 then (-64, 64, 8) else (-48, 48, 8)

/-- Codes within the limits of R388; `first`: no change limit applies. -/
def codesPlausible (b : Nat) (first : Bool) (old new : List Int) : Bool :=
  let l := checkLimits b
  (List.zip old new).all (fun x => decide (l.1 ≤ x.2) && decide (x.2 ≤ l.2.1) && (first || decide ((x.2 - x.1).natAbs ≤ l.2.2)))

/-- Pending results of a path, by block, and ramp targets. -/
def State.pend (s : State) (p : Path) : List (Nat × List Int) := tabGet (fun _ => []) s.pends p.val
def State.setPend (s : State) (p : Path) (v : List (Nat × List Int)) : State :=
  { s with pends := tabSet (fun _ => []) s.pends p.val v }
def State.ramp (s : State) (p : Path) : List (Nat × List Int) := tabGet (fun _ => []) s.ramps p.val
def State.setRamp (s : State) (p : Path) (v : List (Nat × List Int)) : State :=
  { s with ramps := tabSet (fun _ => []) s.ramps p.val v }

/-- Apply every pending result of a path in one step (R384). -/
def State.calApplyPath (s : State) (p : Path) : State :=
  (s.setTrim p ((s.pend p).foldl (fun t e => setBlock e.1 e.2 t) (s.trim p))).setPend p []

/-- Apply the pending results of a group (R384, R385). -/
def State.calApply (s : State) (g : Grp) : State := forAll (grpPaths g) (fun p s => s.calApplyPath p) s

/-! ### Runs (R383, R386, R508) -/

/-- CAL_STAT.STATE as stored: 0 no run, 1 blocks running, 2 trims still moving. -/
def State.calState (s : State) (g : Grp) : Nat := s.f (gp g) GroupR.CAL_STAT_STATE
def State.calOn (s : State) (g : Grp) : Bool := s.calState g != 0
def State.modCal (s : State) (g : Grp) (f : CalSt → CalSt) : State := s.setGrp g { s.grp g with cal := f (s.grp g).cal }
def State.calRec (s : State) (g : Grp) : CalSt := (s.grp g).cal

/-- A condition of R386 holds that abandons a run and keeps one pending. -/
def State.calBlocked (s : State) (g : Grp) : Bool :=
  s.inHold (gp g) || s.busyOf (gp g) != .no || s.grpDown g || s.on .cal CalR.CAL_STAT_SUSPENDED

/-- A path is measured by a run (R383). -/
def State.calMeasures (s : State) (p : Path) : Bool := !s.oos p && !s.grpDown (pathGrp p)

/-- NEED of a path (R390): no swing slice, and no disruptive run since its last calibration run. -/
def State.calNeed (s : State) (p : Path) : Bool :=
  s.f (pp p) PathR.SWING_STAT_AVAIL == 0 &&
  !(s.rd (pageAddr (gp (pathGrp p)) 0x1A4)).getLsbD (16 + pathIdx p)

/-- DISRUPT and DISRUPT_NEEDED, where a NEED bit of the group has risen since `before` (R390). -/
def State.needRaise (s : State) (g : Grp) (before : List Bool) : State :=
  if (List.zip before ((grpPaths g).map s.calNeed)).any (fun x => !x.1 && x.2) then (s.raise (gp g) 26).raise .cal 18 else s

/-- Set a path's DONE bit of CAL_DISRUPT_STAT. -/
def State.setDone (s : State) (p : Path) (b : Bool) : State :=
  let a := pageAddr (gp (pathGrp p)) 0x1A4
  let w := s.rd a &&& ~~~(1#32 <<< (16 + pathIdx p))
  s.wr a (if b then w ||| (1#32 <<< (16 + pathIdx p)) else w)

/-- A pending run is joined by another trigger (R386, R508). -/
def joinPend (old : Option (Nat × Bool × Nat)) (trig : Nat) (ramp : Bool) (mask : Nat) : Option (Nat × Bool × Nat) :=
  match old with
  | none => some (trig, ramp, mask)
  | some (t, r, m) => some (if t = 3 then 3 else trig, r || ramp, m ||| mask)

/-- Age of the active calibration record in hours; 0xFFFF if there is none (R512). -/
def State.calAge (s : State) : Nat :=
  if s.activeSlot 4 = 0 then 0xFFFF
  else
    let t := s.recTime (slotBase 4 (s.activeSlot 4))
    satNat 0xFFFF (if t ≠ 0 ∧ s.on .time TimeR.TIME_STAT_VALID then (s.sec % 2 ^ 32 - t) / 3600
      else (s.f .reh RehR.ONTIME_MIN - s.flash.calSince) / 60)

/-- The module's own store after a completed run (R392). -/
def State.calAutoStore (s : State) : State :=
  if s.on .cal CalR.CAL_CFG_AUTO_STORE && s.on .cal CalR.CAL_STAT_DIRTY && !s.on .cal CalR.CAL_STAT_STORING &&
      (s.activeSlot 4 == 0 || decide (s.calAge > s.f .cal CalR.CAL_CFG_STORE_INT)) then
    (s.setF .cal CalR.CAL_STAT_STORING 1).flashQueue .calStore
  else s

/-- The run of a CAL_RUN command has ended: its final answer is due (R294, R296). -/
def State.calCmdEnd (s : State) (g : Grp) (done : Bool) : State :=
  forAll allEngs (fun e s =>
    match (s.engRec e).long with
    | some l =>
      if cmdOp l.cmd = 0x31 ∧ targetGrp (cmdTarget l.cmd) = some g ∧ l.ended = none then
        (if done then s.modEng e (fun x => { x with long := some { l with ended := some true } }) else s.abortLong e)
      else s
    | none => s) s

/-- A run completes (R383, R392). -/
def State.calComplete (s : State) (g : Grp) : State :=
  let c := s.calRec g
  let s := (((s.setF (gp g) GroupR.CAL_STAT_STATE 0).inc (gp g) GroupR.CAL_CNT_RUNS).setF (gp g) GroupR.CAL_LAST_DUR_10US
    (satNat 0xFFFF ((s.elapsed - c.startAt) / 10000000000))).setF (gp g) GroupR.CAL_LAST_CHANGED (satNat 0xFFFF c.changed)
  let s := ((s.modCal g (fun c => { c with first := false })).raise (gp g) 4).raise .cal 0
  (if c.trig = 3 then s.calCmdEnd g true else s).calAutoStore

/-- The blocks of a run are ended: the run is complete, or its trims are still moving (R387). -/
def State.calBlocksDone (s : State) (g : Grp) : State :=
  if (grpPaths g).any (fun p => !(s.ramp p).isEmpty) then s.setF (gp g) GroupR.CAL_STAT_STATE 2 else s.calComplete g

/-- The lowest block of a mask. -/
def lowBlock (m : Nat) : Nat := ((List.range 6).find? (fun b => m.testBit b)).getD 6

/-- The next block of the run starts: CAL_CHECK is taken, and the ADC block is a sweep (R383, R388, R97). -/
def State.calNext (s : State) (g : Grp) : State :=
  let b := lowBlock (s.calRec g).mask
  if b = 6 then s.calBlocksDone g
  else
    let s := (s.setF (gp g) GroupR.CAL_STAT_BLOCK b).modCal g (fun c => { c with check := s.on .cal CalR.CAL_CFG_CAL_CHECK })
    if b = 5 then
      forAll (grpPaths g) (fun p s => if s.calMeasures p && s.sd p && s.lock p then s.sweepBegin p else s) s
    else s

/-- A run starts (R381, R383). -/
def State.calStart (s : State) (g : Grp) (trig : Nat) (ramp : Bool) (mask : Nat) : State :=
  let mask := mask % 64
  let before := (grpPaths g).map s.calNeed
  let s := forAll ((grpPaths g).filter (fun p => s.calMeasures p)) (fun p s => s.setDone p false) s
  let s := ((s.setF (gp g) GroupR.CAL_TEMP_RUN_T (s.f .therm (ThermR.THERM_T_NOW g.val))).setF
    (gp g) GroupR.CAL_STAT_STATE 1).modCal g (fun c => { c with
      blocks := mask, mask := mask, ramp := ramp, trig := trig, startAt := s.elapsed, changed := 0 })
  (s.needRaise g before).calNext g

/-- A trigger of a run (R383, R386, R508): it starts, or waits as the one pending run. -/
def State.calTrigger (s : State) (g : Grp) (trig : Nat) (ramp : Bool) (mask : Nat) : State :=
  let s := s.setF (gp g) GroupR.CAL_STAT_LAST_TRIG trig
  if s.calBlocked g || s.calOn g then
    (s.modCal g (fun c => { c with pend := joinPend c.pend trig ramp mask })).setF (gp g) GroupR.CAL_STAT_TRIG_PEND 1
  else s.calStart g trig ramp mask

/-- The blocks that every trigger but CAL_RUN runs. -/
def State.calBlocks (s : State) (g : Grp) : Nat := s.f (gp g) GroupR.CAL_CTL_BLOCKS

/-- A recovery trigger (R387, R508). -/
def State.calRecover (s : State) (g : Grp) : State := s.calTrigger g 7 true (s.calBlocks g)

/-- The pending run starts once no condition of R386 holds. -/
def State.calPendStart (s : State) (g : Grp) : State :=
  match (s.calRec g).pend with
  | some (t, r, m) =>
    if s.calBlocked g || s.calOn g then s
    else ((s.modCal g (fun c => { c with pend := none })).setF (gp g) GroupR.CAL_STAT_TRIG_PEND 0).calStart g t r m
  | none => s

/-- A run is abandoned (R386, R387): ramped trims stay where they are; but for ABORT its trigger is kept as a pending run. -/
def State.calAbandon (s : State) (g : Grp) (keep : Bool) : State :=
  if !s.calOn g then s
  else
    let c := s.calRec g
    let s := forAll (grpPaths g) (fun p s => s.setRamp p []) (s.setF (gp g) GroupR.CAL_STAT_STATE 0)
    let s := if keep then
        (s.modCal g (fun x => { x with pend := joinPend x.pend c.trig c.ramp c.blocks })).setF
          (gp g) GroupR.CAL_STAT_TRIG_PEND 1
      else s
    if c.trig = 3 then s.calCmdEnd g false else s

/-- Abandon the run of a group if a condition of R386 has come to hold. -/
def State.calSettle (s : State) (g : Grp) : State := if s.calBlocked g then s.calAbandon g true else s

/-! ### The end of a block (R383, R385, R388) -/

/-- A failed measurement (R388). -/
def State.calFail (s : State) (p : Path) (b slice cause : Nat) : State :=
  let q := gp (pathGrp p)
  ((((((s.inc q GroupR.CAL_CNT_FAILS).setF q GroupR.CAL_FAIL_INFO_CAUSE cause).setF q GroupR.CAL_FAIL_INFO_BLOCK b).setF
    q GroupR.CAL_FAIL_INFO_SLICE slice).setF q GroupR.CAL_FAIL_INFO_PATH (pathIdx p)).raise q 25).raise .cal 16

/-- A path takes part in block `b` of a run (R383). -/
def State.calInBlock (s : State) (p : Path) (b : Nat) : Bool := s.calMeasures p && (b != 1 || (s.sd p && s.lock p))

/-- The result of a block on one path. A result equal to the codes in use leaves nothing to apply; one that replaces a
pending one counts in SUPERSEDED (R385). -/
def State.calResult (s : State) (p : Path) (b : Nat) (r : Option CalRes) : State :=
  let g := pathGrp p
  let c := s.calRec g
  match r with
  | none => s.calFail p b 0xFF 1
  | some r =>
    let old := blockCodes b (s.trim p)
    let new := resCodes b r.codes
    if !r.ok then s.calFail p b 0xFF 1
    else if c.check && !codesPlausible b c.first old new then s.calFail p b 0xFF 2
    else
      let n := ((List.zip old new).filter (fun x => x.1 != x.2)).length
      let s := s.modCal g (fun c => { c with changed := c.changed + n })
      let s := s.putTrim p { s.trim p with temp := degrees (s.sf .therm (ThermR.THERM_T_NOW g.val)) }
      if c.ramp then (if n = 0 then s else s.setRamp p (s.ramp p ++ [(b, new)]))
      else
        let had := (s.pend p).any (fun e => e.1 == b)
        let rest := (s.pend p).filter (fun e => e.1 != b)
        let s := if had then s.inc (gp g) GroupR.CAL_CNT_SUPERSEDED else s
        s.setPend p (if n = 0 then rest else rest ++ [(b, new)])

/-- The running block ends on every measured path (R383, R384, R390). A path with no result has not converged. -/
def State.calBlockEnd (s : State) (g : Grp) (l : List CalRes) : State :=
  if s.calState g != 1 then s
  else
    let b := lowBlock (s.calRec g).mask
    let before := (grpPaths g).map s.calNeed
    let s := if b = 5 then s
      else forAll ((grpPaths g).filter (fun p => s.calInBlock p b)) (fun p s =>
        s.calResult p b (l.find? (fun r => r.path.toNat == pathIdx p))) s
    let s := s.modCal g (fun c => { c with mask := c.mask - 2 ^ b })
    let s := if b < 5 && (s.calRec g).mask % 32 == 0 && !(s.calRec g).ramp && !s.on (gp g) GroupR.CAL_CTL_APPLY_MODE then
        s.calApply g else s
    (s.needRaise g before).calNext g

/-- One code of a ramp (R387). -/
def rampCode (x y : Int) : Int := if x < y then x + 1 else if x > y then x - 1 else x

/-- Every moving trim of a group advances by one code; the run completes when the last has arrived (R387). -/
def State.rampStep (s : State) (g : Grp) : State :=
  if !s.calOn g || !(grpPaths g).any (fun p => !(s.ramp p).isEmpty) then s
  else
    let s := forAll (grpPaths g) (fun p s =>
      let t := (s.ramp p).foldl (fun t e => setBlock e.1 (List.zipWith rampCode (blockCodes e.1 t) e.2) t) (s.trim p)
      (s.setTrim p t).setRamp p ((s.ramp p).filter (fun e => blockCodes e.1 t != e.2))) s
    if s.calState g == 2 then s.calBlocksDone g else s

/-! ### Suspension (R376) -/

/-- Calibration is suspended: every run is abandoned and its results are dropped. The cause is recorded (log 33). -/
def State.calSuspend (s : State) : State :=
  forAll allGroups (fun g s =>
    if s.calOn g then
      let b := s.f (gp g) GroupR.CAL_STAT_BLOCK
      let s := (s.calAbandon g true)
      let s := ((s.setF (gp g) GroupR.CAL_FAIL_INFO_CAUSE 3).setF (gp g) GroupR.CAL_FAIL_INFO_BLOCK b).setF
        (gp g) GroupR.CAL_FAIL_INFO_SLICE 0xFF
      forAll (grpPaths g) (fun p s => s.setPend p []) s
    else s) ((s.setF .cal CalR.CAL_STAT_SUSPENDED 1).raise .cal 17)

/-! ### Repair entries made in service (R96, R409 to R411) -/

/-- An element needs a spare that the map records as used, or the map is full (R411). -/
def State.repairFull (s : State) : Bool := decide (500 ≤ s.reh.soft.length)

/-- Add an entry to the soft repair map, unless it is full. -/
def State.addRepair (s : State) (w : Word) (test : Nat) : State :=
  if s.repairFull then s.setF .reh RehR.REP_STAT_UNREPAIRED 1
  else { s with reh := { s.reh with soft := s.reh.soft ++ [{ word := w, fused := false, test := test }] } }

/-- The repair word of an ADC slice (R410). -/
def sliceWord (p : Path) (k : Nat) : Word :=
  BitVec.ofNat 32 (2 ^ 31 + 2 ^ 28 + p.val * 2 ^ 21 + k % 64 * 2 ^ 15)

/-- A slice retired in service makes an entry of the map, which the module stores (R409). -/
def State.retireEntry (s : State) (p : Path) (k : Nat) : State :=
  let s := s.addRepair (sliceWord p k) 0xFF
  if s.repairFull then s else s.flashQueue (.repairStore s.repairPayload)

/-! ### Released slices (R92, R96, R388) -/

/-- A slice's new trims within the forerunner's limits (R388). -/
def slicePlausible (first : Bool) (old : SliceSt) (ofs gain skew : Byte) : Bool :=
  let ok (a c : Nat) (x y : Byte) : Bool :=
    decide (y.toInt.natAbs ≤ a) && (first || decide ((y.toInt - x.toInt).natAbs ≤ c))
  ok 64 16 old.ofs ofs && ok 80 20 old.gain gain && ok 80 20 old.skew skew

/-- CAL_CHECK as it stands for a released slice: in an ADC block, as at the block's start (R388). -/
def State.sliceCheck (s : State) (g : Grp) : Bool :=
  if s.calState g = 1 ∧ s.f (gp g) GroupR.CAL_STAT_BLOCK = 5 then (s.calRec g).check else s.on .cal CalR.CAL_CFG_CAL_CHECK

/-- The calibration of a released slice ends. While calibration is suspended the slice keeps its trims and its failure count
(R376); a failure sets CAL_FAIL, and retirement makes a repair entry. -/
def State.sliceReleased (s : State) (p : Path) (k : Nat) (ok : Bool) (ofs gain skew : Byte) : State :=
  if !(s.path p).rel.contains k then s
  else if s.on .cal CalR.CAL_STAT_SUSPENDED then
    let x := s.slice p k
    let f := s.releaseEnd p k true x.ofs x.gain x.skew
    f.setSlice p k x
  else
    let g := pathGrp p
    let c := s.calRec g
    let before := (grpPaths g).map s.calNeed
    let plausible := !s.sliceCheck g || slicePlausible c.first (s.slice p k) ofs gain skew
    let was := s.retired p k
    let old := s.slice p k
    let s := s.releaseEnd p k (ok && plausible) ofs gain skew
    let s := if ok && plausible then (if decide (s.slice p k = { old with fails := 0 }) then s else s.calDirty)
      else s.calFail p 5 k (if ok then 2 else 1)
    let s := if s.retired p k && !was then s.retireEntry p k else s
    s.needRaise g before

/-! ### The disruptive ADC run (R389, R390) -/

/-- The window of a disruptive run opens: the rotation in progress cannot be, clock recovery holds (R505), and the probe's window is
invalid. -/
def State.disruptOpen (s : State) (p : Path) : State :=
  (s.piHold p).modPath p (fun x => { x with disrupt := true, cwHit := true, adjMoved := true })

/-- A write of 1 to a bit of CAL_DISRUPT.PATHS. -/
def State.disruptAsk (s : State) (g : Grp) (i : Nat) : State :=
  match (grpPaths g)[i]? with
  | none => s
  | some p =>
    if s.f (pp p) PathR.SWING_STAT_AVAIL ≠ 0 then s.viol (gp g) .consistency
    else if s.grpDown g then s.modCal g (fun c => { c with disrupt := c.disrupt.filter (· != i) ++ [i] })
    else s.disruptOpen p

/-- The disruptive result of one working slice (R388, R389): applied if it is plausible, else the slice fails. -/
def State.disruptSlice (s : State) (p : Path) (skewed first : Bool) (l : List SliceRes) (k : Nat) : State :=
  let x := s.slice p k
  let bad (why : Nat) : State := (((s.setSlice p k { x with fails := satNat 15 (x.fails + 1) }).calFail p 5 k why).setF
    .reh RehR.REP_STAT_UNREPAIRED 1).raise .reh 17
  match l.find? (fun r => r.slice.toNat == k) with
  | some r =>
    let skew := if skewed then r.skew else x.skew
    if r.ok && (!s.on .cal CalR.CAL_CFG_CAL_CHECK || slicePlausible first x r.ofs r.gain skew) then
      let y : SliceSt := { skew := skew, gain := r.gain, ofs := r.ofs, fails := 0 }
      let t := s.setSlice p k y
      if decide (x.ofs = y.ofs ∧ x.gain = y.gain ∧ x.skew = y.skew) then t else t.calDirty
    else bad (if r.ok then 2 else 1)
  | none => bad 1

/-- The window of a disruptive run ends: new trims apply, skew only where it was measured; a slice that fails counts it, and
repair follows (R389, R409). -/
def State.disruptClose (s : State) (p : Path) (l : List SliceRes) : State :=
  if !(s.path p).disrupt then s
  else
    let g := pathGrp p
    let skewed := s.on (gp g) GroupR.CAL_DISRUPT_SKEW
    let first := (s.calRec g).first
    let working := (List.range 32).map (fun ph => s.f (pp p) (mapFld ph))
    let s := working.foldl (fun s k => s.disruptSlice p skewed first l k) s
    (s.modPath p (fun x => { x with disrupt := false, disruptEnd := s.elapsed + 64 * s.beatFs p, adjMoved := true })).setDone
      p true

/-- The disruptive runs asked for while the group was down open at its exit (R390). -/
def State.disruptExit (s : State) (g : Grp) : State :=
  let l := (s.calRec g).disrupt
  l.foldl (fun s i => match (grpPaths g)[i]? with | some p => s.disruptOpen p | none => s)
    (s.modCal g (fun c => { c with disrupt := [] }))

end Sys2Proof.Machine
end

