-- ==== Sys2Proof/Machine/Power.lean ====
section
/-!
DEFINITION. Machine/Power.lean: group power states (R356 to R369): requests, transitions, the idle condition and wakes; and what
holds with a group or path that stops: the loss of an owning engine (R289).
-/
namespace Sys2Proof.Machine

/-! ### States and requests -/

def pwRun : Nat := 0
def pwInt : Nat := 2
def pwOff : Nat := 3
def pwEnterInt : Nat := 4
def pwEnterOff : Nat := 5
def pwExit : Nat := 6

/-- Requests: 1 RUN, 2 INTERMISSION, 3 OFF. -/
def rqRun : Nat := 1
def rqInt : Nat := 2
def rqOff : Nat := 3

/-- PWR_STAT.STATE as stored: a running state is kept as 0, and reads ACTIVE or HOLD by IN_HOLD (R356). -/
def State.pw (s : State) (g : Grp) : Nat := s.f (gp g) GroupR.PWR_STAT_STATE

/-- A transition is in progress. -/
def State.pwMoving (s : State) (g : Grp) : Bool := decide (4 ≤ s.pw g)

/-- The request that names the state a group is in. -/
def rqOf (st : Nat) : Nat := if st = pwInt then rqInt else if st = pwOff then rqOff else rqRun

/-- A receiver counted for idleness and as a level wake (R364, R366). -/
def State.sdCounted (s : State) (p : Path) : Bool := !s.oos p && s.on (pp p) PathR.SVC_CTL_SD_WAKE

/-- The group is idle (R364). -/
def State.grpIdle (s : State) (g : Grp) : Bool := (grpPaths g).all (fun p => !(s.sdCounted p && s.sd p))

/-- A level wake holds (R366). -/
def State.levelWake (s : State) (g : Grp) : Bool := s.on (gp g) GroupR.PWR_CTL_WAKE_HOLD || !s.grpIdle g

/-- A sensor over temperature blocks RUN and INTERMISSION for a group (R382). -/
def State.overTemp (s : State) (g : Grp) : Bool :=
  let w := s.f .therm ThermR.THERM_STAT_OVER
  w.testBit g.val || w.testBit 8

/-! ### Transitions (R362, R365, R368) -/

/-- Signal detect is no longer evaluated: it reads 0, without a falling edge (R89). -/
def State.sdStop (s : State) (p : Path) : State := s.setF (pp p) PathR.RX_STAT_SD 0

/-- The PLLs of a group stop: neither a loss of lock nor a relock (R506). -/
def State.pllStop (s : State) (g : Grp) : State :=
  ((((s.setF (gp g) GroupR.PLL_STAT_A_LOCK 0).setF (gp g) GroupR.PLL_STAT_B_LOCK 0).setF (gp g) GroupR.PLL_STAT_A_HOLD 0).setF
    (gp g) GroupR.PLL_STAT_B_HOLD 0).setGrp g { s.grp g with relockA := false, relockB := false }

/-- Entry begins: rotations and the calibration run are abandoned, pending results are applied, captures end and the lane
pairs meet the disabling condition (R365, R385, R386). -/
def State.enterDown (s : State) (g : Grp) (st cause : Nat) : State :=
  let was := s.pw g == pwRun
  let s := (s.setF (gp g) GroupR.PWR_STAT_STATE st).setF (gp g) GroupR.PWR_STAT_LAST_ENTRY cause
  let s := s.setGrp g { s.grp g with transAt := s.elapsed }
  let s := if was then
      (forAll (grpPaths g) (fun p s => (s.rotAbandon p 3).capStopReq p) s |>.calAbandon g true).calApply g
    else s
  s.settleGrp g

/-- Exit begins (R368, R369). `wake`: a wake began it. -/
def State.exitBegin (s : State) (g : Grp) (cause : Nat) : State :=
  let off := s.pw g == pwOff
  let s := (s.setF (gp g) GroupR.PWR_STAT_STATE pwExit).setF (gp g) GroupR.PWR_STAT_LAST_EXIT cause
  let s := s.setGrp g { s.grp g with transAt := s.elapsed, exitAt := s.elapsed, fromOff := off }
  let s := forAll (grpPaths g) (fun p s => s.setF (pp p) PathR.SVC_STAT_TO_PINNED_US 0xFFFF) s
  let s := if cause ≥ 2 then (s.raise .pstate 1).raise (gp g) 3 else s
  if off then s.calRecover g else s

/-- Begin a transition from the state at rest to the one a request names. -/
def State.pwBegin (s : State) (g : Grp) (rq cause : Nat) (byHost : Bool) : State :=
  let s := s.setGrp g { s.grp g with target := rq, byHost := byHost }
  let st := s.pw g
  if st = pwRun then s.enterDown g (if rq = rqInt then pwEnterInt else pwEnterOff) cause
  else if st = pwInt ∧ rq = rqOff then s.enterDown g pwEnterOff cause
  else s.exitBegin g cause

/-- The single pending request (R363): a later one replaces it and counts. -/
def State.pwPend (s : State) (g : Grp) (rq cause : Nat) (byHost : Bool) : State :=
  let s := if (s.grp g).pend.isSome then s.inc (gp g) GroupR.PWR_CNT_REPLACED else s
  s.setGrp g { s.grp g with pend := some (rq, cause, byHost) }

/-- A power request for a group (R361, R363, R382). `cause` is as LAST_ENTRY or LAST_EXIT codes it. -/
def State.pwRequest (s : State) (g : Grp) (rq cause : Nat) (byHost : Bool) : State :=
  if rq = 0 then s
  else if rq ≠ rqOff ∧ s.overTemp g then s.viol (gp g) .consistency
  else if s.pwMoving g || s.busyOf (gp g) != .no then s.pwPend g rq cause byHost
  else if rq = rqOf (s.pw g) then s
  else s.pwBegin g rq cause byHost

/-- A host's request (R361). -/
def State.pwHost (s : State) (g : Grp) (rq : Nat) : State := s.pwRequest g rq 1 true

/-- The pending request is acted on, or discarded if it names the state reached (R363). -/
def State.pwTakePend (s : State) (g : Grp) : State :=
  match (s.grp g).pend with
  | none => s
  | some (rq, cause, byHost) =>
    let s := s.setGrp g { s.grp g with pend := none }
    if rq = rqOf (s.pw g) then s else s.pwRequest g rq cause byHost

/-- The cause code of a level wake. -/
def State.levelCause (s : State) (g : Grp) : Nat := if s.grpIdle g then 3 else 2

/-- A level wake has come to hold, or a transition into INTERMISSION has ended under one (R367). -/
def State.levelAct (s : State) (g : Grp) : State :=
  if s.pw g == pwInt && s.levelWake g && (s.grp g).pend == none && s.busyOf (gp g) == .no && s.live then
    s.pwBegin g rqRun (s.levelCause g) false
  else s

/-- The state a transition ends in is reached. From OFF to INTERMISSION it is one transition, whose entry has the cause of its exit
(R362). -/
def State.pwReach (s : State) (g : Grp) : State :=
  let us := satNat 0xFFFF (usec (s.elapsed - (s.grp g).transAt))
  let rq := (s.grp g).target
  if rq = rqRun then
    let s := ((s.setF (gp g) GroupR.PWR_STAT_STATE pwRun).setF (gp g) GroupR.PWR_TIME_LAST_EXIT_US us).disruptExit g
    s.settleGrp g
  else if rq = rqInt then
    let s := if s.pw g = pwExit then s.setF (gp g) GroupR.PWR_STAT_LAST_ENTRY (s.f (gp g) GroupR.PWR_STAT_LAST_EXIT) else s
    (((s.setF (gp g) GroupR.PWR_STAT_STATE pwInt).setF (gp g) GroupR.PWR_TIME_LAST_ENTRY_US us).inc
      (gp g) GroupR.PWR_CNT_ENTRIES).raise (gp g) 2
  else
    let s := (s.setF (gp g) GroupR.PWR_STAT_STATE pwOff).setF (gp g) GroupR.PWR_TIME_LAST_ENTRY_US us
    (forAll (grpPaths g) (fun p s => s.sdStop p) s).pllStop g

/-- A transition completes (R362, R363, R367): the pending request first, then a level wake. -/
def State.transEnd (s : State) (g : Grp) : State :=
  if !s.pwMoving g then s
  else
    let host := (s.grp g).byHost
    let s := (s.pwReach g).raiseIf host .pstate 0
    if s.device == .enteringDark then
      let s := s.setGrp g { s.grp g with pend := none }
      if s.pw g == pwOff then s else s.pwBegin g rqOff 3 false
    else (s.pwTakePend g).levelAct g

/-- The idle timer of a group reaches its time (R364). -/
def State.idleExpiry (s : State) (g : Grp) : State :=
  if s.pw g == pwRun && (s.grp g).pend == none && s.on (gp g) GroupR.PWR_CTL_AUTO_EN &&
      !s.on (gp g) GroupR.PWR_CTL_WAKE_HOLD && s.busyOf (gp g) == .no && s.grpIdle g && s.device == .ready then
    s.pwRequest g rqInt 2 false
  else s

/-- A pulse wake (R366, R367). One that meets the few nanoseconds of the wake handover during entry is lost; which one does is
a free value (log 34). -/
def State.pulseWake (s : State) (g : Grp) (cause : Nat) : State :=
  let st := s.pw g
  if st = pwInt then
    (if s.busyOf (gp g) == .no then s.pwBegin g rqRun cause false else s.pwPend g rqRun cause false)
  else if st = pwEnterInt then
    let d := s.draw
    if d.1.getLsbD 0 then d.2 else d.2.pwRequest g rqRun cause false
  else if st = pwEnterOff ∨ st = pwExit then s.pwRequest g rqRun cause false
  else s

/-- The marks that wake (R366). -/
def State.markWake (s : State) : State :=
  forAll allGroups (fun g s => if s.on (gp g) GroupR.PWR_CTL_MARK_WAKE then s.pulseWake g 5 else s) s

/-- What BUSY has held back of a group's power requests, once BUSY clears (R363). -/
def State.pwBusyEnd (s : State) (g : Grp) : State :=
  if s.busyOf (gp g) == .no && !s.pwMoving g then (s.pwTakePend g).levelAct g else s

/-! ### Hold, and the loss of an owning engine (R33, R289) -/

/-- A group's pages have come to hold: rotations and a calibration run are abandoned (R95, R386). -/
def State.holdBegun (s : State) (g : Grp) : State := (s.holdRot g).calSettle g

/-- An engine leaves RUNNING: its queue is emptied, and its group loses its owner. `fault`: by STOP, OOS or a fault, which
sets ENG_LOST (R289, R290). -/
def State.engHalt (s : State) (e : Eng) (st : Nat) : State :=
  let ran := s.eng e == 4
  let own := s.engGrp e
  let s := ((s.releaseLong e).emptyCmdq e).setF (ep e) StageR.ENG_STAT_STATE st
  match own with
  | some g => if ran then (s.raise (gp g) 24).holdBegun g else s
  | none => s

/-- A path's service changes: lock, stage and training follow, and results pending on a path that has gone out of service are
applied (R359, R385). -/
def State.oosChanged (s : State) (p : Path) : State :=
  let s := if s.oos p then s.calApplyPath p else s
  s.settle (laneOf p)

end Sys2Proof.Machine
end

