-- ==== Sys2Proof/Machine/Lane.lean ====
section
/-!
DEFINITION. Machine/Lane.lean: what happens on the lanes: group PLLs (R86, R87), signal detect (R89), clock recovery (R98), and
the marks and pulses of the lands (R154 to R158, R216 to R218).
-/
namespace Sys2Proof.Machine

/-! ### Group PLLs (R86, R87) -/

/-- A PLL's calibration band, its unlock counter and its relock flag. -/
def pllBandFld (b : Bool) : Fld := if b then GroupR.PLL_STAT_B_BAND else GroupR.PLL_STAT_A_BAND
def pllCntFld (b : Bool) : Fld := if b then GroupR.PLL_CNT_B_UNLOCKS else GroupR.PLL_CNT_A_UNLOCKS
def State.relock (s : State) (g : Grp) (b : Bool) : Bool := if b then (s.grp g).relockB else (s.grp g).relockA
def State.setRelock (s : State) (g : Grp) (b v : Bool) : State :=
  s.setGrp g (if b then { s.grp g with relockB := v } else { s.grp g with relockA := v })

/-- The PLLs of a group run: it is neither OFF nor on its way there, and the module serves its lanes. -/
def State.pllsRun (s : State) (g : Grp) : Bool := s.pw g != pwOff && s.pw g != pwEnterOff && (s.live || s.device == .starting)

/-- A PLL reaches lock: PLL_RELOCK after an enable or a change of N or FRAC (R86), but none while the group leaves OFF (R506). A
holding PLL needs the selected reference (R87). -/
def State.pllLocked (s : State) (g : Grp) (b : Bool) (band : BitVec 6) : State :=
  let held := s.on (gp g) (pllHoldFld b)
  if !s.on (gp g) (pllEnFld b) || !s.pllsRun g || !s.refOk s.refSel || (s.pllLock g b && !held) then s
  else
    let was := s.relock g b
    let s := ((s.setF (gp g) (pllLockFld b) 1).setF (gp g) (pllHoldFld b) 0).setF (gp g) (pllBandFld b) band.toNat
    (((s.setRelock g b false).raiseIf (was && !(s.pw g == pwExit && (s.grp g).fromOff)) (gp g) 1)).settleGrp g

/-- The paths that select a PLL act as on loss of lock (R86). -/
def State.pllPathsLose (s : State) (g : Grp) (b : Bool) : State :=
  (forAll ((grpPaths g).filter (fun p => vSel s.now p == b)) (fun p s => (s.insertLoss p).lockLost p) s).settleGrp g

/-- An enabled, unchanged PLL loses lock (R87). -/
def State.pllUnlock (s : State) (g : Grp) (b : Bool) : State :=
  let s := ((s.setF (gp g) (pllLockFld b) 0).setF (gp g) (pllHoldFld b) 0).inc (gp g) (pllCntFld b)
  (s.raise (gp g) (if b then 17 else 16)).pllPathsLose g b

/-- A loss of lock of a locked PLL. -/
def State.pllLoss (s : State) (g : Grp) (b : Bool) : State :=
  if s.pllLock g b && s.on (gp g) (pllEnFld b) then s.pllUnlock g b else s

/-- A PLL has held for 100 ms (R87). -/
def State.pllHoldEnd (s : State) (g : Grp) (b : Bool) : State :=
  if s.on (gp g) (pllHoldFld b) then s.pllUnlock g b else s

/-! ### Signal detect (R89) -/

/-- Signal detect is evaluated: not in OFF, in full reset or in DARK. -/
def State.sdEvaluated (s : State) (p : Path) : Bool :=
  s.pw (pathGrp p) != pwOff && (s.live || s.device == .starting)

/-- Signal detect changes level. -/
def State.sdChange (s : State) (p : Path) (level : Bool) : State :=
  if s.sd p == level || !s.sdEvaluated p then s
  else
    let s := (s.setB (pp p) PathR.RX_STAT_SD level).raise (pp p) 0
    if level then (s.settle (laneOf p)).levelAct (pathGrp p)
    else
      let s := s.inc (pp p) PathR.RX_STAT_LOS_CNT
      let s := ((s.insertLoss p).dropLock p true).segNoSignal p
      s.settlePort (laneOf p)

/-! ### Clock recovery (R98) -/

/-- Clock recovery ends an acquisition with a frequency offset, in units of 0.05 ppm. Beyond ±350 ppm it declares no lock. -/
def State.lockAcquire (s : State) (p : Path) (ofs : BitVec 16) : State :=
  if s.lock p || !s.sd p || s.noCdr p || !s.pathPll p || s.cdrHeld p || s.sg p == sgRelay then s
  else
    let s := s.setF (pp p) PathR.CDR_STAT_FREQ_OFS ofs.toNat
    if ofs.toInt.natAbs > 7000 then s.setF (pp p) PathR.CDR_STAT_FREQ_LIM 1
    else
      (((s.setF (pp p) PathR.CDR_STAT_FREQ_LIM 0).setF (pp p) PathR.RX_STAT_CDR_LOCK 1).raise (pp p) 1).settle (laneOf p)

/-- Clock recovery loses lock, perhaps while a frame is being inserted (R98, R236). In page mode it does so only with the signal
(R117), and in a disruptive window not at all (R389). -/
def State.lockLoss (s : State) (p : Path) (cut : Bool) : State :=
  if !s.lock p || s.sg p == sgRelay || (s.path p).disrupt then s
  else
    let s := if cut then s.insertCut p else s
    (s.lockLost p).settlePort (laneOf p)

/-! ### Marks (R154 to R157, R216) -/

/-- MARK_CFG.MODE: 0 periodic, 1 one-shot, 2 internal. -/
def State.markMode (s : State) : Nat := s.f .time TimeR.MARK_CFG_MODE
def State.markP (s : State) : Nat := s.f .time TimeR.MARK_PERIOD_P

/-- A recognised mark, zeroing or not: its timestamp, the count, the wakes and the captures that wait for it (R106, R216,
R366). -/
def State.markSeen (s : State) : State :=
  let s := (s.stampRegs (TimeR.MARK_TS 0).off s.stamp).incW .time TimeR.MARK_STAT_MARKS
  (forAll allPaths (fun p s => s.capMark p) s).markWake

/-- The symbols of an extended multiblock (R179): E multiblocks of 32 blocks of 66 bits, in NRZ. -/
def State.embSyms (s : State) (p : Path) : Nat := 2112 * s.embE p

/-- `n` reference cycles are a whole number of extended multiblocks (R180). -/
def State.embWhole (s : State) (p : Path) (n : Nat) : Bool :=
  2 * n * s.pllRatio (pathGrp p) (vSel s.now p) % (2 ^ 24 * 2 ^ vDiv s.now p * s.embSyms p) == 0

/-- CONV_EMB at a zeroing mark with EMB_LOCK = 1 (R180). SYM_OFS stays what it was where the marks are a whole number of extended
multiblocks apart; where they are not, or after a new lock, it is a free value below an extended multiblock (log 1). -/
def State.convRecord (s : State) (p : Path) : State :=
  if s.profile p != 1 || !s.on (pp p) PathR.CONV_STAT_EMB_LOCK then s
  else
    let now := s.time.refCount
    let r : Nat × State := match (s.path p).embOfs with
      | some (v, at_) => if s.embWhole p (now - at_) then (v, s) else (s.draw.1.toNat % s.embSyms p, s.draw.2)
      | none => (s.draw.1.toNat % s.embSyms p, s.draw.2)
    ((r.2.modPath p (fun x => { x with embOfs := some (r.1, now) })).setF (pp p) PathR.CONV_EMB_SYM_OFS r.1).setF
      (pp p) PathR.CONV_EMB_VALID 1

/-- A zeroing mark: the grid's next expected mark, the probes and the Converter paths (R154, R180). What a path measures at
the mark is a free value. -/
def State.zeroMark (s : State) : State :=
  let s := s.setTime { s.time with expect := some (s.time.refCount + s.markP), newGrid := false, faultDone := false }
  forAll allPaths (fun p s =>
    (s.zeroPath p).convRecord p) s

/-- A missing or moved mark at every path, and MARK_FAULT at the first of a run (R155 to R157). -/
def State.badMark (s : State) (moved : Bool) : State :=
  let s := forAll allPaths (fun p s => s.missPath moved p) s
  if s.time.faultDone then s else (s.setTime { s.time with faultDone := true }).raise .house 17

end Sys2Proof.Machine
end

