-- ==== Sys2Proof/Machine/Scenes.lean ====
section
/-!
DEFINITION. Machine/Scenes.lean: scenes (chapter 10): pool entries, final values, the lock set, the checks of validation,
staging and deferral, and the reports of an outcome. The commit itself is in Machine/Commit.lean.
-/
namespace Sys2Proof.Machine

/-- A list in the order of a key, equals in the order in which they stood. -/
def sortBy {α : Type} (k : α → Int) : List α → List α
  | [] => []
  | x :: t => let l := sortBy k t; l.takeWhile (fun y => decide (k y < k x)) ++ x :: l.dropWhile (fun y => decide (k y < k x))

/-! ### Entries (R253 to R256) -/

/-- Pool entry `i` (R254). -/
def State.entry (s : State) (i : Nat) : SEntry :=
  let a := poolAddr i
  { addr := (s.mword a).toNat, mask := (s.mword (a + 4)).setWidth 16,
    data := quadOf (s.mword (a + 0x10)) (s.mword (a + 0x14)) (s.mword (a + 0x18)) (s.mword (a + 0x1C)) }

/-- The bits of word `j` that a byte mask covers; mask bit k is byte k, the most significant byte of the quad first. -/
def quadMask (m : BitVec 16) (j : Nat) : Word :=
  let b (k : Nat) (w : Word) : Word := if m.getLsbD (4 * j + k) then w else 0
  b 0 0xFF000000 ||| b 1 0x00FF0000 ||| b 2 0x0000FF00 ||| b 3 0x000000FF

/-- The registers an entry writes: address, mask and data of each. -/
def entryWrites (e : SEntry) : List (Nat × Word × Word) :=
  (List.range 4).filterMap (fun j =>
    let m := quadMask e.mask j
    if m = 0 then none else some (e.addr / 16 * 16 + 4 * j, m, quadWord e.data j))

/-- First entry and length of a scene (R253, R255). -/
def State.extent (s : State) (n : Nat) : Nat × Nat :=
  if n ≤ 1007 then tabGet (fun _ => (0, 0)) s.scene.desc n
  else if n ≤ 1016 ∨ n = 1023 then (30208 + 256 * (n - 1008) - (if n = 1023 then 1536 else 0), tabGet (fun _ => 0) s.scene.openLen n)
  else (0, 0)

/-- The entries of a scene, with their index. An entry whose MASK is 0 names nothing. -/
def State.sceneEntries (s : State) (n : Nat) : List (Nat × SEntry) :=
  let x := s.extent n
  (List.range x.2).map (fun i => (i, s.entry (x.1 + i)))

/-- Put a value under an address. -/
def putVal (l : List (Nat × Word)) (a : Nat) (w : Word) : List (Nat × Word) := l.filter (fun e => e.1 != a) ++ [(a, w)]

/-- The final values of the registers that entries name, in the order they are first named (R256). -/
def State.finalVals (s : State) (es : List (Nat × SEntry)) : List (Nat × Word) :=
  (es.flatMap (fun e => entryWrites e.2)).foldl (fun l w => putVal l w.1 (merge (tabGet s.rd l w.1) w.2.2 w.2.1)) []

/-! ### Access codes (R5) -/

/-- The bits of a register that rows with an access code of a kind cover. -/
def accMask (p : Page) (off : Nat) (f : Acc → Bool) : Word :=
  (rowsAt p off).foldl (fun w r => if f r.acc then w ||| fldMask r.fld.hi r.fld.lo else w) 0

/-- PAGE_CTL bits that a page does not support act as RSV bits (R31). -/
def ctlUnsupported (p : Page) (off : Nat) : Word :=
  if off = 0x008 then
    (if (BitVec.ofNat 32 (pageCap p)).getLsbD 2 then 0 else 1#32) ||| (if (BitVec.ofNat 32 (pageCap p)).getLsbD 3 then 0 else 2#32)
  else 0

/-- The RO and RSV bits of a register. -/
def roMask (p : Page) (off : Nat) : Word := ~~~(accMask p off (fun a => a != .ro)) ||| ctlUnsupported p off

/-- A code of a row's field that R90 or the field's own rule calls legal, with the other fields as in `v`. Mode 3 injects into
codewords, so it needs a path with FEC (R196). -/
def fieldLegal (v : Nat → Word) (p : Page) (r : Row) (code : Nat) : Bool :=
  legalCode r.legal code &&
  !(r.fld == PathR.ERR_INJ_MODE && code == 3 && (match p with
    | .path q => !((vf v (pp q) PathR.PROF_CFG_PROFILE == 2 || vf v (pp q) PathR.PROF_CFG_PROFILE == 3) &&
        vf v (pp q) PathR.PROF_CFG_FEC != 0)
    | _ => false))

/-! ### The lock set (R261) -/

/-- The coupled-set instances that an entry's writes name or bring in, over the present values. -/
def entryInsts (v : Nat → Word) (e : SEntry) : List SetInst :=
  (entryWrites e).flatMap (fun w =>
    match pageOf (w.1 / 4096) with
    | some p => (rowsAt p (w.1 % 4096)).flatMap (fun r =>
        match r.acc with
        | .sc c => if w.2.1 &&& fldMask r.fld.hi r.fld.lo = 0 then [] else setInsts v c p
        | _ => [])
    | none => [])

/-- The instances of a scene, each once. -/
def sceneInsts (v : Nat → Word) (es : List (Nat × SEntry)) : List SetInst := (es.flatMap (fun e => entryInsts v e.2)).dedup

/-- TIME_STEP, which a scene that writes TIME_CTL.STEP locks (R207). -/
def stepRegs : List Nat := (List.range 4).map (fun i => pageAddr .time 0x060 + 4 * i)

/-- An entry writes 1 to TIME_CTL.STEP. -/
def writesStep (e : SEntry) : Bool :=
  (entryWrites e).any (fun w => w.1 == pageAddr .time TimeR.TIME_CTL_STEP.off && (w.2.1 &&& w.2.2).getLsbD TimeR.TIME_CTL_STEP.lo)

/-- The lock set of a scene. -/
def State.lockSet (s : State) (es : List (Nat × SEntry)) : List Nat :=
  let l := (es.flatMap (fun e => (entryWrites e.2).map (·.1)) ++ (sceneInsts s.rd es).flatMap instRegs ++
    (if es.any (fun e => writesStep e.2) then stepRegs else [])).dedup
  (l ++ (l.map (fun a => a / 4096 * 4096 + 8))).dedup

/-- The pages of a list of registers, by number. -/
def regPages (l : List Nat) : List Nat := (l.map (· / 4096)).dedup

/-- Staging slots of a page in use (R265). -/
def State.slotsUsed (s : State) (page : Nat) : Nat :=
  (s.scene.jobs.filter (fun x => x.phase == .staged && x.locks.any (fun a => a / 4096 == page))).length

/-- The byte address a position of the two-wire page buffer reaches (R47): pointers from 0xFFFC up are HOUSE.TWT_WINDOW. -/
def twtAddr (window ptr : Nat) : Nat := if 0xFFFC ≤ ptr % 65536 then 0x054 + ptr % 4 else window * 65536 + ptr % 65536

/-- The registers that the reserved writes will write (R420): the open SPI frame's and the two-wire page buffer's. -/
def State.reservedRegs (s : State) : List Nat :=
  (match s.spi.open_ with
   | some x => match x.kind with
     | .write32 => [x.addr.toNat / 4 * 4]
     | .write128 => (List.range 4).map (fun i => x.addr.toNat / 16 * 16 + 4 * i)
     | _ => []
   | none => []) ++
  s.twt.buf.map (fun b => twtAddr s.twt.window.toNat (s.twt.base + b.1) / 4 * 4)

/-- A scene with this lock set is deferred (R262). -/
def State.mustDefer (s : State) (locks : List Nat) : Bool :=
  locks.any (fun a => s.locked a) || s.reservedRegs.any (fun a => locks.contains a) ||
  (regPages locks).any (fun n =>
    (match pageOf n with
     | some p => s.busyOf p != .no
     | none => false) || decide (s.slotsUsed n ≥ 4))

/-! ### Validation (R263, R264) -/

/-- The engine whose scene it is; none: the host's. -/
def jobEng : Job → Option Eng
  | .eng e => some e
  | _ => none

/-- Check 3: the address. -/
def addrOk (e : SEntry) : Bool :=
  match pageOf (e.addr / 4096) with
  | some p => p != .house && p != .nvm && p != .cue && p != .sec && decide (e.addr % 4096 < 0x800)
  | none => false

/-- Check 4: header bytes. -/
def headerOk (e : SEntry) : Bool :=
  let q := e.addr % 4096 / 16
  if q = 0 then e.mask &&& 0xF0FF#16 == 0
  else if q = 1 then e.mask &&& 0xFF0F#16 == 0
  else !(q == 2 || q == 3)

/-- A module that is follow holds TIME_CTL.SRC at 2 while TIME_EN = 1 (R322). -/
def srcHeld (v : Nat → Word) : Bool :=
  vf v .twin TwinR.TWIN_STAT_ROLE == 2 && vf v .twin TwinR.TWIN_CFG_TIME_EN == 1

/-- A field that another chapter closes to the writer. To the host: TIME_RATE while the lead sources the rate (R208, R332), and
another SRC than 2 on a follow (R322). To an engine: the header, since it writes block registers only and HOLD is the host's to
release, and the block registers of a page whose HOLD is 1 (R32, R38). -/
def closedTo (w : Option Eng) (v : Nat → Word) (a : Nat) : Bool :=
  if w.isSome then decide (a % 4096 < 0x040) || wbit (v (a / 4096 * 4096 + 8)) 1
  else ((a == pageAddr .time TimeR.TIME_RATE_RATE.off && vf v .time TimeR.TIME_CTL_SRC == 2) ||
    (a == pageAddr .time TimeR.TIME_CTL_SRC.off && vf v .time TimeR.TIME_CTL_SRC != 2 && srcHeld v))

/-- Check 5: RO and RSV bits, and closed fields. -/
def accessOk (w : Option Eng) (v : Nat → Word) (e : SEntry) : Bool :=
  (entryWrites e).all (fun x =>
    match pageOf (x.1 / 4096) with
    | some p => x.2.1 &&& x.2.2 &&& roMask p (x.1 % 4096) == 0 && !closedTo w v x.1
    | none => false)

/-- Check 8: the final codes of the fields an entry names. -/
def rangeOk (v : Nat → Word) (e : SEntry) : Bool :=
  (entryWrites e).all (fun x =>
    match pageOf (x.1 / 4096) with
    | some p => (rowsAt p (x.1 % 4096)).all (fun r =>
        x.2.1 &&& fldMask r.fld.hi r.fld.lo == 0 || fieldLegal v p r (fget (v x.1) r.fld.hi r.fld.lo))
    | none => false)

/-- Checks 3 to 8 on one entry: the cause of the first that fails. `v`: the values after commit. -/
def State.entryCause (s : State) (w : Option Eng) (v : Nat → Word) (e : SEntry) : Option Nat :=
  if e.mask = 0 then none
  else if !addrOk e then some 2
  else if !headerOk e then some 3
  else if !accessOk w v e then some 3
  else
    match pageOf (e.addr / 4096) with
    | none => some 2
    | some p =>
      match w with
      | none => if s.on p Hdr.LOCK_WLOCK then some 4 else if rangeOk v e then none else some 6
      | some g => if s.f p Hdr.OWNER != g.val then some 5 else if rangeOk v e then none else some 6

/-- The entry checks, entries in order: cause and index of the first failure. Check 2 reads the entry. -/
def State.entryChecks (s : State) (w : Option Eng) (v : Nat → Word) (base : Nat) :
    List (Nat × SEntry) → State × Option (Nat × Nat)
  | [] => (s, none)
  | (i, e) :: t =>
    let r := s.sramRead (poolAddr (base + i)) 32
    if r.2 then (r.1, some (9, i))
    else match r.1.entryCause w v e with
      | some c => (r.1, some (c, i))
      | none => r.1.entryChecks w v base t

/-- The order in which R264 lists the sets. -/
def setOrder : List CSet := [.rate, .txfir, .trnport, .latency, .profile, .fpbind, .refclk]

/-- Check 9: the first broken rule, its cause and the first entry that names a member of the set, or of one that brought the rule in
(R281). `u`: the present values, `v`: those after commit. -/
def coupling (u v : Nat → Word) (es : List (Nat × SEntry)) : Option (Nat × Nat) :=
  let l := sceneInsts u es
  let l := setOrder.flatMap (fun c => l.filter (fun i => i.1 == c))
  (l.find? (fun i => !instOk v i)).map (fun i =>
    (instCause i, ((es.find? (fun e => (entryInsts u e.2).contains i)).map (·.1)).getD 0))

/-- The largest result of a step: the timebase stays below 2^48 s (R205, R207). -/
def stepTop : Nat := 2 ^ 48 - 2

/-- STEP_NS and the rest of TIME_STEP under a valuation. -/
def vStepOffset (v : Nat → Word) : Int :=
  sx 48 (vf v .time TimeR.STEP_SEC_HI_STEP_SEC * 2 ^ 32 + vf v .time TimeR.STEP_SEC_LO_STEP_SEC) * (tbSec : Int) +
  ((vf v .time TimeR.STEP_NS * tbNs + vf v .time TimeR.STEP_FRAC * 2 ^ 32 : Nat) : Int)

/-- Check 10: a step of the timebase needs ARMED = 1 and a result in range (R207). -/
def State.stateCheck (s : State) (v : Nat → Word) (es : List (Nat × SEntry)) : Option (Nat × Nat) :=
  let a := pageAddr .time TimeR.TIME_CTL_STEP.off
  let named := es.find? (fun e => (entryWrites e.2).any (fun w => w.1 == a && (w.2.1.getLsbD TimeR.TIME_CTL_STEP.lo)))
  match named with
  | none => none
  | some e =>
    if (v a).getLsbD TimeR.TIME_CTL_STEP.lo = false then none
    else if s.on .time TimeR.TIME_STAT_ARMED && stepInRange ((s.time.tb : Int) + vStepOffset v) stepTop then none
    else some (8, e.1)

/-- All the checks of R263 on a scene: the failure's cause and entry, if it fails. -/
def State.checkScene (s : State) (j : Job) (scene : Nat) : State × Option (Nat × Nat) :=
  let es := s.sceneEntries scene
  let vals := s.finalVals es
  let v := overVal s.rd vals
  if scene ≥ 1008 ∧ s.scene.overflow.contains scene then (s, some (1, 0))
  else
    let r := s.entryChecks (jobEng j) v (s.extent scene).1 es
    match r.2 with
    | some c => (r.1, some c)
    | none =>
      match coupling s.rd v es with
      | some c => (r.1, some c)
      | none => (r.1, r.1.stateCheck v es)

/-! ### Open scenes (R39 to R42, R257) -/

/-- The open scene of a writer. -/
def openScene : Option Eng → Nat
  | none => 1023
  | some e => 1008 + e.val

/-- Empty an open scene: its entries and its overflow mark. -/
def State.emptyOpen (s : State) (n : Nat) : State :=
  { s with scene := { s.scene with
    openLen := s.scene.openLen.filter (fun e => e.1 != n), overflow := s.scene.overflow.filter (· != n) } }

/-- A STORE or COMMIT of the open scene is in progress (R257). -/
def State.closing (s : State) (n : Nat) : Bool :=
  s.scene.storing.any (fun x => x.src == n) ||
  s.scene.jobs.any (fun x => x.scene == n && (match x.job with | .cue _ => false | _ => true))

/-- SCENE_STAT of a scene, and its replacement. -/
def State.sceneStat (s : State) (n : Nat) : Word := tabGet (fun _ => 0) s.scene.stat n
def State.setSceneStat (s : State) (n : Nat) (w : Word) : State :=
  { s with scene := { s.scene with stat := tabSet (fun _ => (0 : Word)) s.scene.stat n w } }

/-- Set RESULT of SCENE_STAT. -/
def State.sceneResult (s : State) (n r : Nat) : State := s.setSceneStat n (fset (s.sceneStat n) 31 28 r)

/-- OPEN_STAT takes a result, and a failure's cause: CAUSE is that of the last failure. -/
def State.openResult (s : State) (res cause : Nat) : State :=
  let s := s.setF .cue CueR.OPEN_STAT_RESULT res
  if res = 2 then s.setF .cue CueR.OPEN_STAT_CAUSE cause else s

/-! ### Cue bookkeeping (R270 to R274) -/

/-- T of a time cue and its period, in 2^-48 ns. -/
def State.cueT (s : State) (c : BitVec 12) : Nat :=
  let a := cueAddr c
  ((s.mfield (a + 4) 15 0 * 2 ^ 32 + (s.mword (a + 8)).toNat) * 1000000000 + s.mfield (a + 0xC) 29 0) * tbNs
def State.cueP (s : State) (c : BitVec 12) : Nat :=
  let a := cueAddr c
  s.mfield (a + 0x10) 15 0 * 2 ^ 32 + (s.mword (a + 0x14)).toNat

/-- EVERY and SKIP of a mark cue, and COUNT. -/
def State.cueEvery (s : State) (c : BitVec 12) : Nat := s.mfield (cueAddr c + 8) 31 16
def State.cueSkip (s : State) (c : BitVec 12) : Nat := s.mfield (cueAddr c + 8) 15 0
def State.cueCount (s : State) (c : BitVec 12) : Nat := s.mfield (cueAddr c + 4) 31 16

/-- A cue is free (R272). -/
def State.cueFree (s : State) (c : BitVec 12) : Bool := (s.job? (.cue c)).isNone

/-- Free cues. -/
def State.freeCues (s : State) : Nat :=
  4096 - (s.scene.jobs.filter (fun x => (match x.job with | .cue _ => true | _ => false) && x.gone.isNone)).length

/-- A repeating cue: periodic, or with REPEAT (R270). -/
def State.cueRepeats (s : State) (c : BitVec 12) : Bool :=
  let t := s.cueTrig c
  (t == 1 && s.cueP c != 0) || ((t == 2 || t == 3) && s.cueRepeat c)

/-- Add to SKIPPED, saturating. -/
def State.cueSkipped (s : State) (c : BitVec 12) (n : Nat) : State :=
  s.mfieldSet (cueAddr c + 0x1C) 31 16 (satNat 0xFFFF (s.mfield (cueAddr c + 0x1C) 31 16 + n))

/-- The next sequence number of the checker's work. -/
def State.nextSeq (s : State) : Nat × State := (s.scene.seq, { s with scene := { s.scene with seq := s.scene.seq + 1 } })

/-- A job's work becomes due (R259). -/
def State.jobDue (s : State) (x : JobSt) : State :=
  let n := s.nextSeq
  let s := n.2.setJob { x with phase := .due, seq := n.1, vals := [], locks := [] }
  match x.job with
  | .cue c => s.cueSetState c 1
  | _ => s

/-- A job that holds no work: armed, for its occurrence `next`. -/
def JobSt.idle (x : JobSt) (next : Nat) : JobSt :=
  { x with
    phase := .armed, vals := [], masks := [], locks := [], trig := none, late := false, lateBy := 0, next := next, after := none }

/-- The occurrence that follows the one a job works on. -/
def State.following (s : State) (x : JobSt) (c : BitVec 12) : Nat :=
  x.after.getD (x.next + (if s.cueTrig c = 1 then s.cueP c * tbNs else s.cueEvery c))

/-- A repeating cue returns to ARMED for its next occurrence (R272), which is already late where its mark has come (R278). -/
def State.rearm (s : State) (x : JobSt) (c : BitVec 12) : State :=
  if s.cueTrig c = 3 then s.jobDue (x.idle x.next)
  else
    match x.missed with
    | m :: t => s.jobDue { x.idle x.next with after := x.after, missed := t, late := true, trig := some m }
    | [] => (s.setJob (x.idle (s.following x c))).cueSetState c 1

/-- What a late occurrence of a time or mark cue does (R274). `outcome`: 3, or 5 for one that a step passed (R276). -/
def State.lateTime (s : State) (x : JobSt) (c : BitVec 12) (trig : Option Nat) (outcome : Nat) : State :=
  let s := if outcome = 3 then s.viol .cue .timing else s
  if s.cueFireLate c then
    let y := { x with late := true, trig := trig }
    if x.phase = .armed then s.jobDue y else s.setJob y
  else if s.cueRepeats c then (s.cueOutcome c outcome).rearm x c
  else s.endCue c 6 outcome

/-- The instant of a time cue's occurrence has come. -/
def State.timeReached (s : State) (x : JobSt) : Bool := decide (x.next ≤ s.time.tb)

/-! ### The checker's order (R259) -/

/-- Nanoseconds to the commit instant of a time or mark cue's occurrence, if it has one. -/
def State.leadNs (s : State) (x : JobSt) : Option Int :=
  match x.job with
  | .cue c =>
    let t := s.cueTrig c
    if t = 1 then some (((x.next : Int) - (s.time.tb : Int)) / (tbNs : Int))
    else if t = 2 ∧ s.refF ≠ 0 then
      s.time.expect.map (fun e =>
        ((e : Int) - (s.time.refCount : Int) + ((x.next : Int) - (x.marks : Int) - 1) * (s.markP : Int)) * 2000000000 / (s.refF : Int))
    else none
  | _ => none

/-- Nanoseconds of checker work for a scene at 0.60 handshakes per ns (R258, R259). -/
def State.checkNs (s : State) (scene : Nat) : Int := (((400 + 36 * (s.extent scene).2) * 10 + 5) / 6 : Nat)

/-- Pending time and mark validations, by commit instant: lead, duration and job. -/
def State.timed (s : State) : List (Int × Int × JobSt) :=
  sortBy (fun e => e.1) (s.scene.jobs.filterMap (fun x =>
    if x.phase = .armed then (s.leadNs x).map (fun l => (l, s.checkNs x.scene, x)) else none))

/-- The latest start of each, counted from the last backward: 20 µs ahead, earlier as later work needs, no earlier than
200 µs ahead. -/
def latestStarts : List (Int × Int × JobSt) → List (Int × JobSt)
  | [] => []
  | (l, d, x) :: t =>
    let rest := latestStarts t
    let st := match rest with
      | [] => l - 20000
      | (n, _) :: _ => min (l - 20000) (n - d)
    (max st (l - 200000), x) :: rest

/-- The first of the due validations, in the order in which they became due. -/
def State.dueFirst (s : State) : Option JobSt :=
  (s.scene.jobs.filter (fun y => y.phase == .due)).foldl (fun acc y =>
    match acc with
    | none => some y
    | some z => if y.seq < z.seq then some y else acc) none

/-- Nanoseconds of checker work for the copy of a STORE (R258, R259). -/
def State.storeNs (s : State) (x : StoreSt) : Int := (((100 + 12 * (s.extent x.src).2) * 10 + 5) / 6 : Nat)

/-- The latest start that comes next (R259): how far ahead, and the validation. -/
def State.nextStart (s : State) : Option (Int × JobSt) := (latestStarts s.timed).head?

/-- Immediate work of this length can finish before the next latest start. -/
def State.roomFor (s : State) (ns : Int) : Bool :=
  match s.nextStart with
  | some x => decide (0 < x.1) && decide (ns ≤ x.1)
  | none => true

/-- The validation the checker takes next: a timed one whose latest start has come, else the first due work of all, if it can finish
before the next latest start (R259). A STORE admitted before it goes first. -/
def State.nextWork (s : State) : Option JobSt :=
  let imm : Option JobSt :=
    match s.dueFirst with
    | some y => if s.roomFor (s.checkNs y.scene) && s.scene.storing.all (fun x => decide (y.seq < x.seq)) then some y else none
    | none => none
  match s.nextStart with
  | some x => if x.1 ≤ 0 then some x.2 else imm
  | none => imm

/-- The STORE whose copy the checker makes next, if no other work goes before it (R259). -/
def State.nextStore (s : State) : Option StoreSt :=
  match s.scene.storing with
  | [] => none
  | x :: _ => if s.roomFor (s.storeNs x) && s.dueFirst.all (fun y => decide (x.seq < y.seq)) then some x else none

/-! ### Outcomes (R281, R298) -/

/-- A host scene fails validation. -/
def State.hostFail (s : State) (x : JobSt) (cause entry addr : Nat) : State :=
  let viaCue := match x.job with | .cue c => some c | _ => none
  let s := s.setSceneStat x.scene (fset (fset (fset (s.sceneStat x.scene) 31 28 2) 27 24 cause) 23 16 entry)
  let s := ((s.setF .cue CueR.FAIL_INFO_CAUSE cause).setF .cue CueR.FAIL_INFO_ENTRY entry).setF .cue CueR.FAIL_INFO_SCENE x.scene
  let s := ((s.setB .cue CueR.FAIL_CUE_VIA_CUE viaCue.isSome).setF .cue CueR.FAIL_CUE_CUE ((viaCue.map (·.toNat)).getD 0)).setF
    .cue CueR.FAIL_ADDR_ADDR addr
  let s := s.inc .cue CueR.FAIL_CNT_HOST_FAILS
  let s := match viaCue with
    | some c =>
      let s := s.mfieldSet (cueAddr c + 0x18) 23 20 cause
      if s.cueRepeats c then (s.cueOutcome c 4).rearm x c else s.endCue c 7 4
    | none => ((s.openResult 2 cause).dropJob x.job).emptyOpen 1023
  s.raise .cue 16

/-- An engine's scene fails validation: the answer of the command it was made for, or a SCENE notice. While a long command runs, which
of the two is the image's to say: a free value. -/
def State.engSceneFail (s : State) (e : Eng) (cause entry addr : Nat) : State :=
  let s := (s.inc .cue CueR.FAIL_CNT_ENG_FAILS).inc (ep e) StageR.ENG_CNT_SCENE_FAILS
  let s := (s.dropJob (.eng e)).emptyOpen (1008 + e.val)
  if (s.engRec e).long.isSome && s.draw.1.getLsbD 0 then s.draw.2.endLong e 8 (cause * 4096 + entry % 256) 0 0
  else s.draw.2.notice e 2 (BitVec.ofNat 32 (cause * 2 ^ 28 + entry % 256)) (BitVec.ofNat 32 addr) false

/-- A scene fails validation. -/
def State.sceneFail (s : State) (x : JobSt) (cause entry : Nat) : State :=
  let addr := if cause = 1 then 0 else (s.entry ((s.extent x.scene).1 + entry)).addr
  match x.job with
  | .eng e => s.engSceneFail e cause entry addr
  | _ => s.hostFail x cause entry addr

/-! ### Validation, staging and deferral (R262 to R265) -/

/-- LATE_BY of a late occurrence at the end of its staging (R274). -/
def State.lateByNow (s : State) (x : JobSt) : Nat :=
  match x.job, x.trig with
  | .cue c, some t =>
    let tc := max t s.elapsed
    satNat 0xFFFF ((tc - (if s.cueTrig c = 3 then t - eventDelay else t)) / 100000000)
  | .cue c, none => if s.cueTrig c = 1 then satNat 0xFFFF ((s.time.tb - x.next) / (100 * tbNs)) else 0
  | _, _ => 0

/-- The bits of a register that the entries of a scene write. -/
def writtenBits (es : List (Nat × SEntry)) (a : Nat) : Word :=
  es.foldl (fun m e => (entryWrites e.2).foldl (fun m w => if w.1 = a then m ||| w.2.1 else m) m) 0

/-- A final value in which a counter field that the scene does not write 0 into every byte of is not 0, so that it keeps its
count (R36). -/
def keepCounts (es : List (Nat × SEntry)) (a : Nat) (v : Word) : Word :=
  match pageOf (a / 4096) with
  | some p =>
    let c := accMask p (a % 4096) (fun x => x == .cnt) &&& ~~~(writtenBits es a)
    v ||| c
  | none => v

/-- A scene that passes is staged (R265): its values, its locks and, for immediate work and late occurrences, its commit
instant. -/
def State.stage (s : State) (x : JobSt) (locks : List Nat) : State :=
  let es := s.sceneEntries x.scene
  let vals := (s.finalVals es).map (fun e => (e.1, keepCounts es e.1 e.2))
  let now := some s.elapsed
  let trig := match x.job with
    | .cue c =>
      if s.cueTrig c = 4 then now
      else if x.late then
        match x.trig with
        | some t => some (max t s.elapsed)
        | none => if s.cueTrig c = 1 ∧ s.timeReached x then now else none
      else x.trig
    | _ => now
  let y := { x with
    phase := .staged, vals := vals, masks := vals.map (fun e => (e.1, writtenBits es e.1)), locks := locks, trig := trig,
    lateBy := if x.late then s.lateByNow x else 0 }
  let s := (s.setJob y).sceneResult x.scene 3
  let s := { s with scene := { s.scene with
    slotsHigh := (regPages locks).foldl (fun m n => max m (s.slotsUsed n)) s.scene.slotsHigh } }
  match x.job with
  | .cue c => s.cueSetState c 4
  | _ => s

/-- A scene is deferred (R262). -/
def State.defer (s : State) (x : JobSt) : State :=
  let n := s.nextSeq
  let s := (n.2.setJob { x with phase := .deferred, seq := n.1, vals := [], locks := [] }).sceneResult x.scene 4
  match x.job with
  | .cue c => s.cueSetState c 2
  | _ => s

/-- The checks of R263 and their outcome. -/
def State.runChecks (s : State) (x : JobSt) (locks : List Nat) : State :=
  let s := forAll ((regPages locks).filterMap pageOf) (fun p s => s.setF p Hdr.LOCK_SCENE_ID x.scene) s
  let r := s.checkScene x.job x.scene
  match r.2 with
  | some c => r.1.sceneFail x c.1 c.2
  | none => r.1.stage x locks

/-- The commit instant of an occurrence has come and its scene is not staged (R262, R274): a time cue's T, or the instant of a trigger
after which the scene was unstaged. -/
def State.instantMissed (s : State) (x : JobSt) (c : BitVec 12) : Bool :=
  x.phase != .staged && !x.late &&
    (if s.cueTrig c = 1 then s.timeReached x else s.cueTrig c == 3 && x.trig.any (fun t => decide (t ≤ s.elapsed)))

/-- What that brings: the occurrence is late. -/
def State.instantLate (s : State) (x : JobSt) (c : BitVec 12) : State :=
  if s.cueTrig c = 1 then s.lateTime x c none 3 else s.lateOccurrence x c (x.trig.getD s.elapsed)

/-- The lock set of a job's scene. -/
def State.jobLocks (s : State) (x : JobSt) : List Nat := s.lockSet (s.sceneEntries x.scene)

/-- The checker defers a scene, or runs its checks (R262, R263). -/
def State.checkOrDefer (s : State) (x : JobSt) : State :=
  if s.mustDefer (s.jobLocks x) then s.defer x else s.runChecks x (s.jobLocks x)

/-- The checker takes a scene. An occurrence whose instant has come is late first: under DROP a time cue's work ends there, and a
repeating event cue's goes on for the following trigger (R274, R504). -/
def State.validateJob (s : State) (x : JobSt) : State :=
  match x.job with
  | .cue c =>
    if s.instantMissed x c then
      let s := s.instantLate x c
      match s.job? x.job with
      | some y => if y.late || s.cueTrig c == 3 then s.checkOrDefer y else s
      | none => s
    else s.checkOrDefer x
  | _ => s.checkOrDefer x

/-- SCENE_VALIDATE: the work item whose turn it is (R259). -/
def State.sceneValidate (s : State) : State :=
  match s.nextWork with
  | some x => s.validateJob x
  | none => s

/-- The first deferred scene for which no condition holds (R262). -/
def State.nextDeferred (s : State) : Option JobSt :=
  (sortBy (fun x => (x.seq : Int)) (s.scene.jobs.filter (fun x => x.phase == .deferred))).find? (fun x => !s.mustDefer (s.jobLocks x))

/-- DEFERRED_RESUME (R262). -/
def State.deferredResume (s : State) : State :=
  match s.nextDeferred with
  | some x => s.validateJob x
  | none => s

/-! ### Unstaging (R269) -/

/-- Bring about what waits for a lock (R124). -/
def State.locksFreed (s : State) : State := s.presetsDue

/-- T_c of a staged scene has been reached: it commits whatever happens (R268). -/
def State.tcReached (s : State) (x : JobSt) : Bool :=
  x.phase == .staged &&
  (match x.trig with
   | some t => decide (t ≤ s.elapsed)
   | none => match x.job with
     | .cue c => s.cueTrig c == 1 && s.timeReached x
     | _ => false)

/-- A COMMIT of an open scene that a reset unstages is not validated again (R269): the open scene is emptied, and the host's reads
failed (log 152). -/
def State.commitCut (s : State) (x : JobSt) : State :=
  match x.job with
  | .cue _ => s
  | .host => ((s.setF .cue CueR.OPEN_STAT_RESULT 2).dropJob .host).emptyOpen 1023
  | .eng e => (s.dropJob (.eng e)).emptyOpen (openScene (some e))

/-- The scenes that lock a register of a page are unstaged, unless T_c has been reached. They return to deferral, but for a COMMIT
where a reset is the reason. -/
def State.unstagePages (s : State) (pages : List Page) (reset : Bool) : State :=
  let ns := pages.map pageNum
  (s.scene.jobs.foldl (fun s x =>
    if x.phase == .staged && !s.tcReached x && x.locks.any (fun a => ns.contains (a / 4096)) then
      match x.job with
      | .cue _ => s.defer x
      | _ => if reset then s.commitCut x else s.defer x
    else s) s).locksFreed

/-- The scene checker meets an uncorrectable error in an SRAM row while it reads the entries of the scene it validates (R9, R263,
check 2). -/
def State.checkerEcc (s : State) (row : Nat) : State :=
  match s.nextWork with
  | some x =>
    let i := (row - 1024 * 54) / 2
    let e := s.extent x.scene
    if 1024 * 54 ≤ row ∧ row < 1024 * 118 ∧ e.1 ≤ i ∧ i < e.1 + e.2 ∧ !s.mustDefer (s.jobLocks x) then s.sceneFail x 9 (i - e.1)
    else s
  | none => s

end Sys2Proof.Machine
end

