-- ==== Sys2Proof/Machine/Cues.lean ====
section
/-!
DEFINITION. Machine/Cues.lean: cues (R270 to R284): arming, lateness, time steps, marks, the operations on open scenes and the
scene directory, and what resets leave of them.
-/
namespace Sys2Proof.Machine

/-! ### Arming (R273 to R275) -/

/-- The entry of a cue is legal (R273). -/
def State.cueLegal (s : State) (c : BitVec 12) : Bool :=
  let t := s.cueTrig c
  let a := cueAddr c
  decide (1 ≤ t ∧ t ≤ 4) && decide (s.cueScene c ≤ 1007) &&
  (t != 1 || (decide (s.mfield (a + 0xC) 29 0 ≤ 999999999) && (s.cueP c == 0 || decide (25000 ≤ s.cueP c)))) &&
  (t != 2 || decide (1 ≤ s.cueEvery c)) &&
  (t != 3 || (pageOf (s.mfield (a + 8) 24 16)).isSome)

/-- SHEET_LOW: free cues have fallen from LOW_THR or more to below it (R282). -/
def State.sheetLow (s : State) (before : Nat) : State :=
  let thr := s.f .cue CueR.CUE_CTL_LOW_THR
  s.raiseIf (decide (thr ≤ before) && decide (s.freeCues < thr)) .cue 1

/-- 20 µs in 2^-48 ns. -/
def leadTb : Nat := 20000 * tbNs

/-- The lead of a time cue at its arming (R274, R275): of the occurrences nearer than 20 µs, the latest is late and the earlier
ones are skipped. -/
def State.armTime (s : State) (x : JobSt) (c : BitVec 12) : State :=
  let lim := s.time.tb + leadTb
  if lim ≤ x.next then s
  else
    let p := s.cueP c * tbNs
    let n := if p = 0 then 0 else (lim - 1 - x.next) / p
    let x := { x with next := x.next + n * p }
    ((s.setJob x).cueSkipped c n).lateTime x c none 3

/-- The lead of a mark cue at its arming (R274). -/
def State.armMark (s : State) (x : JobSt) (c : BitVec 12) : State :=
  match s.leadNs x with
  | some l => if l < 20000 then s.lateTime x c none 3 else s
  | none => s

/-- CUE_OP ARM (R273). -/
def State.cueArm (s : State) (c : BitVec 12) : State :=
  if !s.cueFree c then s.viol .cue .consistency
  else if !s.cueLegal c then (s.cueOutcome c 7).viol .cue .consistency
  else
    let before := s.freeCues
    let t := s.cueTrig c
    let next := if t = 1 then s.cueT c else if t = 2 then s.cueSkip c + 1 else 0
    let x : JobSt := { job := .cue c, scene := s.cueScene c, phase := .armed, seq := 0, next := next }
    let s := (((s.addJob x).cueSetState c 1).mfieldSet (cueAddr c + 0x18) 15 0 0).mfieldSet (cueAddr c + 0x1C) 31 16 0
    let s := if t = 1 then s.armTime x c else if t = 2 then s.armMark x c else s.jobDue x
    s.sheetLow before

/-- The Umatan LAUNCH of a free cue (R273): its first word, and the arm. -/
def State.cueLaunch (s : State) (c : BitVec 12) (scene : Nat) : State :=
  if s.cueFree c then (s.mwordSet (cueAddr c) (BitVec.ofNat 32 (4 * 2 ^ 28 + scene % 1024))).cueArm c
  else s.viol .cue .consistency

/-! ### Time steps (R276) -/

/-- A step on one time cue on counted time (ANCHOR = 1): its grid moves with the timebase, pending occurrences with it. -/
def State.stepMove (s : State) (x : JobSt) (old : Nat) : State :=
  let mv (n : Nat) : Nat := ((n : Int) + ((s.time.tb : Int) - (old : Int))).toNat
  s.setJob { x with next := mv x.next, after := x.after.map mv }

/-- A staged cue that a forward step has passed fires at the step (R276). LATE_BY is in the stepped time. -/
def State.stepFire (s : State) (x : JobSt) : State :=
  s.setJob { x with
    late := true, trig := some s.elapsed, lateBy := satNat 0xFFFF ((s.time.tb - x.next) / (100 * tbNs)) }

/-- The first instant of a time cue's grid after the timebase (R276). -/
def State.gridNext (s : State) (c : BitVec 12) : Nat :=
  let p := s.cueP c * tbNs
  let t := s.cueT c
  if s.time.tb < t ∨ p = 0 then t else t + ((s.time.tb - t) / p + 1) * p

/-- A forward step on a cue on the timebase that passes its occurrence. -/
def State.stepForward (s : State) (x : JobSt) (c : BitVec 12) : State :=
  if s.time.tb < x.next then s
  else if s.cueP c = 0 then
    (if x.phase = .staged ∧ s.cueFireLate c then s.stepFire x else if x.late then s else s.lateTime x c none 5)
  else
    let n := (s.time.tb - x.next) / (s.cueP c * tbNs) + 1
    (((s.setJob (x.idle (x.next + n * (s.cueP c * tbNs)))).cueSetState c 1).cueSkipped c n).cueOutcome c 5

/-- A backward step on a cue on the timebase: work for an instant now more than 200 µs ahead, or for another occurrence, is
unstaged. -/
def State.stepBack (s : State) (x : JobSt) (c : BitVec 12) : State :=
  let next := if s.cueP c = 0 then x.next else s.gridNext c
  if x.phase = .armed then s.setJob { x with next := next }
  else if next = x.next ∧ next ≤ s.time.tb + 10 * leadTb then s
  else (s.setJob (x.idle next)).cueSetState c 1

/-- A step while an occurrence that came before it is pending, late or with its T_c reached, and stays so: of the cue's further
occurrences those that the step passes are skipped, or fired again. -/
def State.stepPending (s : State) (x : JobSt) (c : BitVec 12) (old : Nat) : State :=
  if s.cueP c = 0 then s
  else
    let nx := s.following x c
    let n := if old ≤ s.time.tb ∧ nx ≤ s.time.tb then (s.time.tb - nx) / (s.cueP c * tbNs) + 1 else 0
    let s := s.setJob { x with after := some (s.gridNext c) }
    if n = 0 then s else (s.cueSkipped c n).cueOutcome c 5

/-- The step's effect on one time cue (R276), after it; `old` is the timebase before. -/
def State.cueStepped (s : State) (x : JobSt) (c : BitVec 12) (old : Nat) : State :=
  let came := decide (x.next ≤ old)
  let y := if x.phase == .staged && came && x.trig.isNone then { x with trig := some s.elapsed } else x
  if s.cueAnchor c then (s.setJob y).stepMove y old
  else if came && (x.late || x.phase == .staged) && (decide (x.next ≤ s.time.tb) || y.trig.isSome) then
    (s.setJob y).stepPending y c old
  else if old ≤ s.time.tb then s.stepForward x c
  else s.stepBack x c

/-- The step's effect on every cue. -/
def State.cuesStepped (s : State) (old : Nat) : State :=
  (s.scene.jobs.foldl (fun s x =>
    match x.job with
    | .cue c => if s.cueTrig c == 1 && x.gone.isNone then s.cueStepped x c old else s
    | _ => s) s).locksFreed

/-- A step of the timebase by an offset in 2^-48 ns: refused unless armed and in range (R205). -/
def State.stepBy (s : State) (ofs : Int) : State :=
  let r := (s.time.tb : Int) + ofs
  if !s.on .time TimeR.TIME_STAT_ARMED || !stepInRange r (2 ^ 48 - 1) then s.viol .time .consistency
  else
    let old := s.time.tb
    let s := (s.setTime { s.time with tb := r.toNat, kaDirty := true }).setUnc (some 0)
    let s := (((s.setF .time TimeR.TIME_STAT_ARMED 0).setF .time TimeR.TIME_STAT_VALID 1).inc .time TimeR.TIME_STAT_STEPS).raise .time 0
    s.cuesStepped old

/-- The step of TIME_STEP (R205). -/
def State.timeStep (s : State) : State := s.stepBy s.stepOffset

/-! ### Marks (R154 to R157, R216, R278) -/

/-- The number of the mark that a mark cue's next occurrence falls on (R278): the one it works on until that mark has come. -/
def State.markDue (s : State) (x : JobSt) (c : BitVec 12) : Nat := if x.marks < x.next then x.next else s.following x c

/-- An expected mark comes to one mark cue: the occurrence that falls on it fires, or is late. One that comes while an earlier one is
pending is late too (R274), and waits for it under FIRE_LATE. -/
def State.markCue (s : State) (x : JobSt) (c : BitVec 12) : State :=
  let due := s.markDue x c
  let x := { x with marks := x.marks + 1 }
  let s := s.setJob x
  if x.marks != due then s
  else if due == x.next then
    if x.phase == .staged || x.late then s.setJob { x with trig := some s.elapsed }
    else s.lateTime x c (some s.elapsed) 3
  else
    let s := s.viol .cue .timing
    let x := { x with after := some (due + s.cueEvery c) }
    if !s.cueRepeats c then s
    else if s.cueFireLate c then s.setJob { x with missed := x.missed ++ [s.elapsed] }
    else (s.setJob x).cueOutcome c 3

/-- An expected mark is missing: the occurrence that would fall on it is not fired. -/
def State.markCueMiss (s : State) (x : JobSt) (c : BitVec 12) : State :=
  let due := s.markDue x c
  let x := { x with marks := x.marks + 1 }
  let s := s.setJob x
  if x.marks != due then s
  else if due != x.next then
    if !s.cueRepeats c then s else ((s.setJob { x with after := some (due + s.cueEvery c) }).cueSkipped c 1).cueOutcome c 8
  else
    let s := s.cueSkipped c 1
    (if s.cueRepeats c then (s.cueOutcome c 8).rearm x c else s.endCue c 6 8).locksFreed

/-- Every mark cue. -/
def State.markCues (s : State) (f : State → JobSt → BitVec 12 → State) : State :=
  s.scene.jobs.foldl (fun s x =>
    match x.job with
    | .cue c => if s.cueTrig c == 2 && x.gone.isNone then f s x c else s
    | _ => s) s

/-- An ALIGN mark (R154, R156, R216, R491). In internal mode it only anchors a new grid. -/
def State.alignMark (s : State) : State :=
  let newGrid := s.time.newGrid
  let m := s.markMode
  if m = 2 ∧ !newGrid then s
  else
    let s := s.setF .time TimeR.MARK_STAT_INTERNAL 0
    let moved := m == 0 && !newGrid && s.time.expect.any (fun e => e != s.time.refCount)
    let expected := newGrid || (m == 0 && s.time.expect.isSome && !moved)
    let s := (s.setB .time TimeR.MARK_STAT_MOVED moved).markSeen
    let s := if expected then s.markCues State.markCue else s
    if moved then (s.badMark true).setTime { (s.badMark true).time with expect := some (s.time.refCount + s.markP) }
    else if m = 2 then s.setTime { s.time with expect := some (s.time.refCount + s.markP), newGrid := false }
    else s.zeroMark

/-- An internal mark (R154): zeroing, and expected. -/
def State.internalMark (s : State) : State :=
  match s.time.expect with
  | none => s
  | some e =>
    if s.markMode = 0 then s
    else
      let s := ((s.setF .time TimeR.MARK_STAT_INTERNAL 1).markSeen.markCues State.markCue).zeroMark
      s.setTime { s.time with expect := some (e + s.markP) }

/-- A mark is missing (R155). -/
def State.markMissing (s : State) : State :=
  match s.time.expect with
  | none => s
  | some e =>
    if s.markMode ≠ 0 then s
    else
      let s := (s.badMark false).markCues State.markCueMiss
      s.setTime { s.time with expect := some (e + s.markP) }

/-- A write of MARK_CFG or MARK_PERIOD has changed MODE or P (R216): a new grid starts at the next mark, or, but in periodic mode,
at the write. -/
def State.markCfgChange (s : State) : State :=
  s.setTime { s.time with
    newGrid := true, expect := if s.markMode = 0 then none else some (s.time.refCount + s.markP) }

/-! ### Pulses on the lands (R217, R218) -/

/-- PPS_OUT rises for the whole second plus PPS_OFS that counting has reached. -/
def State.ppsRise (s : State) : State :=
  if s.time.ppsDue then
    { s with time := { s.time with ppsDue := false }, land := { s.land with pps := true } } else s

/-- PPS_OUT falls. -/
def State.ppsFall (s : State) : State := { s with land := { s.land with pps := false } }

/-- A rising edge on PPS_IN: captured, or ignored within 500 ms of the last captured one. Without VIO the input is ignored (R65), and
in full reset and DARK nothing captures it. -/
def State.ppsEdge (s : State) : State :=
  if !s.on .time TimeR.PPS_CTL_IN_EN || !s.land.vio || !(s.device == .ready || s.device == .starting) then s
  else if s.time.ppsInAt.any (fun t => decide (s.elapsed - t < 500000000000000)) then s.inc .time TimeR.PPS_STAT_IGNORED
  else
    let e := s.edgeStamp 0
    let s := e.1
    (((s.stampRegs (TimeR.PPS_IN_TS 0).off e.2).incW .time TimeR.PPS_STAT_IN_CNT).setTime
      { s.time with ppsInAt := some s.elapsed }).raise .time 2

/-! ### Open scenes and the directory (R255, R257) -/

/-- Entries of the open scene of a writer. -/
def State.openLen (s : State) (n : Nat) : Nat := tabGet (fun _ => 0) s.scene.openLen n

/-- OPEN_STAT.LAST_OP, RESULT and CAUSE of the host's operation; an engine's leaves no status there. -/
def State.openStat (s : State) (w : Option Eng) (op res cause : Nat) : State :=
  match w with
  | none => (s.setF .cue CueR.OPEN_STAT_LAST_OP op).openResult res cause
  | some _ => s

/-- STORE of the writer's open scene to scene `n` at `base` (R257). -/
def State.openStore (s : State) (w : Option Eng) (n base : Nat) : State :=
  let o := openScene w
  if s.closing o then s
  else
    let fail (cause : Nat) := (s.openStat w 1 2 cause).emptyOpen o
    if s.scene.overflow.contains o then fail 1
    else if n > 1007 ∨ base + s.openLen o > 30208 then fail 6
    else
      let q := (s.openStat w 1 3 0).nextSeq
      { q.2 with scene := { q.2.scene with storing := q.2.scene.storing ++ [{ src := o, scene := n, base := base, seq := q.1 }] } }

/-- The checker finishes the oldest copy, if no other work goes before it (R258, R259): the scene takes its new extent. -/
def State.storeEnd (s : State) : State :=
  match s.nextStore with
  | none => s
  | some x =>
    let e := s.extent x.src
    let l := (List.range e.2).map (fun i => s.mbytes (poolAddr (e.1 + i)) 32)
    let s := ((List.range e.2).zip l).foldl (fun s y => s.msetList (poolAddr (x.base + y.1)) y.2) s
    let s := { s with scene := { s.scene with
      storing := s.scene.storing.tail, desc := tabSet (fun _ => (0, 0)) s.scene.desc x.scene (x.base, e.2) } }
    let s := (if x.src = 1023 then s.openResult 1 0 else s).emptyOpen x.src
    if x.scene ≤ 503 ∨ x.base < 15104 then
      s.mirSent (.store (BitVec.ofNat 10 x.scene) (BitVec.ofNat 15 x.base) l.flatten)
    else s

/-- COMMIT of the writer's open scene: validated and committed as by an immediate cue (R257). -/
def State.openCommit (s : State) (w : Option Eng) : State :=
  let o := openScene w
  if s.closing o then s
  else
    let s := s.openStat w 2 3 0
    let n := s.nextSeq
    let j : Job := match w with
      | none => .host
      | some e => .eng e
    n.2.addJob { job := j, scene := o, phase := .due, seq := n.1 }

/-- DISCARD (R257). -/
def State.openDiscard (s : State) (w : Option Eng) : State :=
  let o := openScene w
  if s.closing o then s else (s.openStat w 3 1 0).emptyOpen o

/-- A scene under validation or a STORE's copy locks the directory entry (R260); a validation is whole within one command. -/
def State.descLocked (s : State) (n : Nat) : Bool := s.scene.storing.any (fun x => x.scene == n)

/-- A write of SCENE_DESC (R255); none: it is refused, or the scene is an open one, whose extent is read-only. -/
def State.descWrite (s : State) (base len : Nat) : Option State :=
  let n := s.f .cue CueR.SCENE_SEL_SCENE
  if n ≥ 1008 ∨ base + len > 30208 ∨ len > 256 then none
  else some { s with scene := { s.scene with desc := tabSet (fun _ => (0, 0)) s.scene.desc n (base, len) } }

/-! ### Resets (R283) -/

/-- A job whose T_c has been reached, once its cue's line is cleared (R268). -/
def State.jobGone (s : State) (x : JobSt) : JobSt :=
  { x with
    trig := some s.elapsed
    gone := match x.job with
      | .cue c => some (s.cueNotify c)
      | _ => none }

/-- The scenes whose T_c has not been reached are unstaged, and every cue and open scene is gone. A commit whose T_c has been reached
still completes, its cue IDLE by then (R268). A STORE or COMMIT of the host that is cut reads failed (log 152). -/
def State.scenesClear (s : State) : State :=
  let cut := s.closing 1023 && !s.scene.jobs.any (fun x => x.job == .host && s.tcReached x)
  let keep := (s.scene.jobs.filter (fun x => s.tcReached x)).map s.jobGone
  let s := { s with
    mem := s.mem.filter (fun e => !(decide (0x00700000 ≤ e.1) && decide (e.1 < 0x00720000)))
    scene := { s.scene with jobs := keep, desc := [], openLen := [], overflow := [], storing := [] } }
  if cut then s.setF .cue CueR.OPEN_STAT_RESULT 2 else s

/-- House reset (R283): the open scenes, the directory and the cue sheet. -/
def State.scenesHouseReset (s : State) : State := s.scenesClear

/-- DARK and full reset (R283): the pool and every CUE register too. -/
def State.scenesReset (s : State) : State :=
  let s := { s with
    mem := s.mem.filter (fun e => !(decide (0x00400000 ≤ e.1) && decide (e.1 < 0x00500000)) &&
      !(decide (0x00700000 ≤ e.1) && decide (e.1 < 0x00720000)))
    scene := {} }
  s.rstRange .cue 0x040 0x7FC

end Sys2Proof.Machine
end

