-- ==== Sys2Proof/Machine/Engines.lean ====
section
/-!
DEFINITION. Machine/Engines.lean: the stagehand engines (chapter 11): their states, the commands of R294, migration, faults and
take-over.
-/
namespace Sys2Proof.Machine

/-! ### States (R285 to R289) -/

def egOff : Nat := 0
def egLoading : Nat := 1
def egLoaded : Nat := 2
def egStarting : Nat := 3
def egRunning : Nat := 4
def egFaulted : Nat := 5
def egRetired : Nat := 6

/-- Set ENG_STAT.STATE. -/
def State.engSet (s : State) (e : Eng) (st : Nat) : State := s.setF (ep e) StageR.ENG_STAT_STATE st

/-- A LOAD is permitted (R286). -/
def State.loadOk (s : State) (e : Eng) : Bool :=
  let st := s.eng e
  !s.on (ep e) Hdr.PAGE_CTL_OOS && (st == egOff || st == egLoaded || st == egFaulted) && (s.engGrp e).isNone

/-- ENG_CTL.LOAD (R286): the load waits in the flash queue. -/
def State.engLoad (s : State) (e : Eng) : State :=
  if s.loadOk e then
    ((s.engSet e egLoading).modEng e (fun x => { x with loading := true })).flashQueue
      (.load e (s.f (ep e) StageR.ENG_CTL_SLOT))
  else s.viol (ep e) .consistency

/-- ENG_CTL.START (R286). -/
def State.engStart (s : State) (e : Eng) : State :=
  let st := s.eng e
  let c := s.f (ep e) StageR.ENG_STAT_FAULT_CAUSE
  if !s.on (ep e) Hdr.PAGE_CTL_OOS && (st == egLoaded || (st == egFaulted && (c == 1 || c == 4))) then s.engSet e egStarting
  else s.viol (ep e) .consistency

/-- An engine halts as by STOP (R286). -/
def State.engStopNow (s : State) (e : Eng) : State :=
  if s.eng e = egStarting ∨ s.eng e = egRunning then s.engHalt e egLoaded else s

/-- ENG_CTL.STOP (R286). -/
def State.engStop (s : State) (e : Eng) : State :=
  if s.eng e = egStarting ∨ s.eng e = egRunning then s.engHalt e egLoaded else s.viol (ep e) .consistency

/-- A write of PAGE_CTL.OOS of a STAGE page (R287). An image that holds an uncorrectable error is not valid: it needs a LOAD
(R286). -/
def State.engOos (s : State) (e : Eng) (v : Bool) : State :=
  let st := s.eng e
  if st = egRetired then s
  else if v then
    let ok := st == egLoaded || st == egStarting || st == egRunning ||
      (st == egFaulted && s.f (ep e) StageR.ENG_STAT_FAULT_CAUSE != 2)
    ((s.engStopNow e).modEng e (fun x => { x with imgOk := ok })).engSet e egOff
  else s.engSet e (if (s.engRec e).imgOk then egLoaded else egOff)

/-- An engine reaches RUNNING (R286, R297): its own view of its group begins afresh. After a house reset it calibrates it
(R387). -/
def State.engReady (s : State) (e : Eng) : State :=
  if s.eng e != egStarting then s
  else
    let s := (s.engSet e egRunning).modEng e (fun x => { x with left := none, hbAt := s.elapsed })
    let s := (s.raise (ep e) 0).notice e 1 0 0 true
    match s.engGrp e with
    | some g => if (s.calRec g).recover then (s.modCal g (fun c => { c with recover := false })).calRecover g else s
    | none => s

/-! ### Migration (R299 to R301, R303) -/

/-- MIG_STAT.STATE of a group. -/
def State.mig (s : State) (g : Grp) : Nat := s.f (gp g) GroupR.MIG_STAT_STATE

/-- A migration is in QUIESCE or TRANSFER. -/
def State.migrating (s : State) (g : Grp) : Bool := s.mig g == 1 || s.mig g == 2

/-- Source and target of a group's migration. -/
def State.migFrom (s : State) (g : Grp) : Nat := s.f (gp g) GroupR.MIG_STAT_FROM
def State.migTo (s : State) (g : Grp) : Nat := s.f (gp g) GroupR.MIG_STAT_TO

/-- An engine is a source or a target of a migration. -/
def State.inMigration (s : State) (n : Nat) : Bool :=
  n != 0xF && allGroups.any (fun g => s.migrating g && (s.migFrom g == n || s.migTo g == n))

/-- The target's image accepts a state format (R299). -/
def State.accepts (s : State) (t : Eng) (fmt : Nat) : Bool :=
  decide (s.f (ep t) StageR.IMG_FMT_ACCEPT_MIN ≤ fmt ∧ fmt ≤ s.f (ep t) StageR.IMG_FMT_STATE_FMT)

/-- The first cause of R299 that refuses a request, if any. -/
def State.migCause (s : State) (g : Grp) (t : Nat) : Option Nat :=
  let o := s.owner g
  if 9 ≤ t ∧ t ≤ 14 then some 7
  else if t = o then some 6
  else if (engAt t).any (fun e => s.eng e != egRunning) then some 1
  else if (engAt t).any (fun e => (s.engGrp e).isSome) then some 2
  else if (engAt t).any (fun e => (engAt o).any (fun f => !s.accepts e (s.f (ep f) StageR.IMG_FMT_STATE_FMT))) then some 3
  else if s.migrating g || s.inMigration t || s.inMigration o then some 4
  else if s.busyOf (gp g) == .rehearsal then some 5
  else none

/-- Answer MOVED to every queued command for the group (R301). -/
def State.answerMoved (s : State) (e : Eng) (g : Grp) : State :=
  let q := (s.engRec e).cmdq
  let moved := q.filter (fun c => targetGrp (cmdTarget c) == some g)
  let s := s.modEng e (fun x => { x with cmdq := q.filter (fun c => targetGrp (cmdTarget c) != some g) })
  moved.foldl (fun s c => s.answerCmd e c (s.cmdGrpEpoch c) 9 0 0 0) s

/-- The source quiesces (R300, R301): from now on its answers about the group are stale. -/
def State.quiesce (s : State) (e : Eng) (g : Grp) : State :=
  let s := s.modEng e (fun x => { x with left := some (g.val, s.epoch g) })
  let s := match (s.engRec e).long with
    | some l => if targetGrp (cmdTarget l.cmd) = some g then s.abortLong e else s
    | none => s
  s.answerMoved e g

/-- ENG_BIND.GO (R299). -/
def State.migGo (s : State) (g : Grp) : State :=
  let t := s.f (gp g) GroupR.ENG_BIND_TARGET
  match s.migCause g t with
  | some c =>
    (((s.setF (gp g) GroupR.MIG_STAT_STATE 4).setF (gp g) GroupR.MIG_STAT_CAUSE c).inc (gp g) GroupR.MIG_CNT_REFUSED).viol
      (gp g) .consistency
  | none =>
    let o := s.owner g
    let s := ((s.setF (gp g) GroupR.MIG_STAT_FROM o).setF (gp g) GroupR.MIG_STAT_TO t).setF (gp g) GroupR.MIG_STAT_STATE 1
    let s := (s.setF (gp g) GroupR.MIG_STAT_CAUSE 0).setGrp g { s.grp g with migAt := s.elapsed }
    match engAt o with
    | some e => s.quiesce e g
    | none => s

/-- The pages of a group become BUSY: its rotations and its calibration run are abandoned and the scenes that name them are
unstaged (R34, R95, R269, R386). -/
def State.grpBusy (s : State) (g : Grp) (b : Busy) : State :=
  let s := forAll (grpPages g) (fun p s => s.setBusy p b) s
  let s := forAll (grpPaths g) (fun p s => s.rotAbandon p 2) s
  (s.calSettle g).unstagePages (grpPages g) (decide (b = .reset))

/-- BUSY of a group's pages clears: what it held back goes on (R34, R363). It clears with the command, of which the beat boundary that
follows is a part (DESIGN CHOICE, log 5). -/
def State.grpFree (s : State) (g : Grp) : State :=
  ((forAll (grpPages g) (fun p s => s.setBusy p .no) s).settleGrp g).pwBusyEnd g

/-- The safe point (R300): the source's open scene is discarded (it may also commit it, which is a COMMIT of its own), the pages
become BUSY and the state record is copied. -/
def State.migSafe (s : State) (g : Grp) : State :=
  if s.mig g != 1 then s
  else
    let s := match engAt (s.migFrom g) with
      | some e => if s.closing (1008 + e.val) then s else s.emptyOpen (1008 + e.val)
      | none => s
    (s.setF (gp g) GroupR.MIG_STAT_STATE 2).grpBusy g .migration

/-- OWNER and EPOCH of the 17 pages change at one instant (R300). -/
def State.bind (s : State) (g : Grp) (t : Nat) : State :=
  forAll (grpPages g) (fun p s => (s.setF p Hdr.OWNER t).incW p Hdr.EPOCH) s

/-- The new owner's answers about the group are current again. -/
def State.unstale (s : State) (t : Nat) : State :=
  match engAt t with
  | some e => s.modEng e (fun x => { x with left := none })
  | none => s

/-- What remains in the source's open scene is discarded. -/
def State.dropOpen (s : State) (n : Nat) : State :=
  match engAt n with
  | some e => if s.closing (1008 + e.val) then s else s.emptyOpen (1008 + e.val)
  | none => s

/-- HANDOVER (R300). `st`: 3 done, 5 take-over, after which the new owner calibrates (R387). -/
def State.handover (s : State) (g : Grp) (st : Nat) : State :=
  let t := s.migTo g
  let s := ((s.bind g t).dropOpen (s.migFrom g)).unstale t
  let s := ((s.setF (gp g) GroupR.MIG_STAT_STATE st).inc (gp g) GroupR.MIG_CNT_DONE).setF (gp g) GroupR.MIG_STAT_LAST_US
    (satNat 0xFFFF (usec (s.elapsed - (s.grp g).migAt)))
  let s := (s.grpFree g).raise (gp g) 8
  if s.ownerLost g then s.holdBegun g else if st = 5 then s.calRecover g else s

/-- MIGRATION_HANDOVER: the record has been copied. -/
def State.migHandover (s : State) (g : Grp) : State := if s.mig g != 2 then s else s.handover g 3

/-- Take-over to SH8 (R303). -/
def State.takeOver (s : State) (e : Eng) : State :=
  let sh8 : Eng := 8
  match s.engGrp e with
  | none => s
  | some g =>
    if s.on (gp g) GroupR.ENG_BIND_AUTO_SWING && s.eng sh8 == egRunning && (s.engGrp sh8).isNone && !s.migrating g &&
        !s.inMigration 8 && (s.engRec e).ckpt.any (fun k => k.grp == g.val && s.accepts sh8 k.fmt) then
      let s := ((s.setF (gp g) GroupR.MIG_STAT_FROM e.val).setF (gp g) GroupR.MIG_STAT_TO 8).setF (gp g) GroupR.MIG_STAT_CAUSE 0
      let s := s.setGrp g { s.grp g with migAt := s.elapsed }
      (s.handover g 5).notice sh8 3 (BitVec.ofNat 32 e.val) 0 true
    else s

/-- The target of a migration has faulted before HANDOVER: it fails, which MIG_CNT.REFUSED counts too (R300). -/
def State.migFail (s : State) (g : Grp) : State :=
  let busy := s.mig g == 2
  let s := (s.setF (gp g) GroupR.MIG_STAT_STATE 4).setF (gp g) GroupR.MIG_STAT_CAUSE 8
  let s := (s.inc (gp g) GroupR.MIG_CNT_REFUSED).unstale (s.migFrom g)
  if busy then s.grpFree g else s

/-- What a fault of an engine does to a migration it takes part in, or to its group (R300, R303): a source that faults in
QUIESCE leaves a take-over with the same target. -/
def State.faultGroups (s : State) (e : Eng) : State :=
  match allGroups.find? (fun g => s.migrating g && s.migTo g == e.val) with
  | some g => s.migFail g
  | none =>
    match allGroups.find? (fun g => s.mig g == 1 && s.migFrom g == e.val) with
    | some g =>
      match engAt (s.migTo g) with
      | some t => (s.handover g 5).notice t 3 (BitVec.ofNat 32 e.val) 0 true
      | none => s
    | none => if allGroups.any (fun g => s.mig g == 2 && s.migFrom g == e.val) then s else s.takeOver e

/-- The house faults an engine (R302). -/
def State.engFault (s : State) (e : Eng) (cause : Nat) : State :=
  ((s.engHalt e egFaulted).setF (ep e) StageR.ENG_STAT_FAULT_CAUSE cause).faultGroups e

/-- The watchdog expires (R302). -/
def State.watchdog (s : State) (e : Eng) : State :=
  if s.eng e = egRunning ∧ s.on (ep e) StageR.WDOG_CTL_EN then
    ((s.inc (ep e) StageR.WDOG_STAT_EXPIRIES).raise (ep e) 16).engFault e 1 else s

/-- An uncorrectable error in an engine's memories (R302). -/
def State.engMemFault (s : State) (e : Eng) : State :=
  if s.eng e = egRunning ∨ s.eng e = egStarting then (s.raise (ep e) 17).engFault e 2 else s

/-- The image declares itself faulted (R302). -/
def State.imageFault (s : State) (e : Eng) (r0 r1 : Word) : State :=
  if s.eng e = egRunning then (s.notice e 4 r0 r1 true).engFault e 4 else s

/-- A heartbeat, with the size of the checkpoint it carries, if it carries one (R302). -/
def State.heartbeat (s : State) (e : Eng) (ckpt : Option (BitVec 14)) : State :=
  if s.eng e != egRunning then s
  else
    let x := { s.engRec e with hbAt := s.elapsed }
    match ckpt, s.engGrp e with
    | some n, some g =>
      s.setEng e { x with ckpt := some { grp := g.val, fmt := s.f (ep e) StageR.IMG_FMT_STATE_FMT, size := n.toNat, at_ := s.elapsed } }
    | _, _ => s.setEng e x

/-! ### Commands (R290 to R296) -/

/-- An append of a command (R290). The write to a full queue has been refused at its admission. -/
def State.cmdAppend (s : State) (e : Eng) (q : BitVec 128) : State :=
  if s.eng e != egRunning then s.viol (ep e) .consistency
  else if (s.engRec e).cmdq.length ≥ 16 then s
  else s.modEng e (fun x => { x with cmdq := x.cmdq ++ [q] })

/-- The opcodes of R294. -/
def knownOp (n : Nat) : Bool := [0x01, 0x10, 0x20, 0x30, 0x31, 0x70, 0x71, 0x72].contains n

/-- Take the head of the queue. -/
def State.cmdPop (s : State) (e : Eng) : State := s.modEng e (fun x => { x with cmdq := x.cmdq.tail })

/-- An engine serves its queue while it runs and holds no answer (R293). -/
def State.cmdServing (s : State) (e : Eng) : Bool := s.eng e == egRunning && (s.engRec e).held.isEmpty

/-- Answer the unknown opcodes at the head BAD_OPCODE (R292, R294). -/
def State.cmdSkip (e : Eng) : Nat → State → State
  | 0, s => s
  | n + 1, s =>
    match (s.engRec e).cmdq with
    | c :: _ =>
      if s.cmdServing e && !knownOp (cmdOp c) then
        State.cmdSkip e n ((s.cmdPop e).answerCmd e c (s.cmdGrpEpoch c) 2 0 0 0)
      else s
    | [] => s

/-- A TARGET a command accepts: any legal one (PING), a path, a group, or either (R291, R294). -/
def targetOk (op t : Nat) : Bool :=
  if op = 0x01 ∨ op = 0x30 ∨ op = 0x31 then (targetGrp t).isSome
  else if op = 0x10 ∨ op = 0x20 then (targetPath t).isSome
  else (targetGrp t).isSome && (targetPath t).isNone

/-- A long command. -/
def longOp (op : Nat) : Bool := op == 0x10 || op == 0x20 || op == 0x30 || op == 0x31

/-- The checks that come before a command's own: STATUS and DETAIL of the first that fails (R292, R294, R296). -/
def State.cmdCheck (s : State) (e : Eng) (c : BitVec 128) : Option (Nat × Nat) :=
  let op := cmdOp c
  if !targetOk op (cmdTarget c) then some (3, 0)
  else
    match targetGrp (cmdTarget c) with
    | none => some (3, 0)
    | some g =>
      if cmdChk c && cmdEpoch c != s.epoch g then some (5, s.epoch g)
      else if op != 0x01 && s.owner g != e.val then some (4, s.owner g)
      else if longOp op && (s.engRec e).long.isSome then some (6, 3)
      else none

/-- The state of a path that a command on it needs (R294). -/
def State.pathStateBad (s : State) (p : Path) : Option Nat :=
  if !(s.sd p && s.lock p) then some 1
  else if s.inHold (pp p) || s.busyOf (pp p) != .no then some 2 else none

/-- The arguments of EYE_SCAN (R295): the first bad word. -/
def State.eyeArgsBad (s : State) (c : BitVec 128) (p : Path) : Option Nat :=
  let a0 := quadWord c 1
  let a1 := quadWord c 2
  let v := fget a0 13 8
  let h := fget a0 5 0
  let eye := fget a1 9 8
  if fget a0 15 14 ≠ 0 ∨ fget a0 7 6 ≠ 0 ∨ !([1, 2, 4, 8, 16, 32].contains v) ∨ !([1, 2, 4, 8, 16].contains h) then some 1
  else if fget a1 31 10 ≠ 0 ∨ fget a1 7 5 ≠ 0 ∨ eye = 3 ∨ (!vPam4 s.now p && eye != 0) ∨ fget a1 4 0 > 10 then some 2
  else if quadWord c 3 ≠ 0 then some 3
  else none

/-- A command's own checks: STATUS and DETAIL of the first that fails. -/
def State.cmdOwnCheck (s : State) (e : Eng) (c : BitVec 128) : Option (Nat × Nat) :=
  let op := cmdOp c
  let path := targetPath (cmdTarget c)
  let st : Option (Nat × Nat) := match path with
    | some p => (s.pathStateBad p).map (fun d => (10, d))
    | none => none
  if op = 0x10 then
    match st with
    | some x => some x
    | none => if path.any (fun p => s.on (pp p) PathR.ADAPT_CTL_FRZ_CTLE || s.on (pp p) PathR.ADAPT_CTL_FRZ_VGA) then some (10, 3)
        else none
  else if op = 0x20 then
    match path with
    | none => some (3, 0)
    | some p =>
      if (s.grp (pathGrp p)).cap.isSome then some (6, 1)
      else if s.f (pp p) PathR.SWING_STAT_AVAIL = 0 then some (6, 2)
      else match s.eyeArgsBad c p with
        | some d => some (3, d)
        | none => let _ := e; st
  else if op = 0x31 then (if cmdArg0 c % 64 = 0 then some (3, 1) else st)
  else if op = 0x30 then st
  else none

/-- The paths a command on a path or a group acts on. -/
def cmdPaths (c : BitVec 128) : List Path :=
  match targetPath (cmdTarget c) with
  | some p => [p]
  | none => ((targetGrp (cmdTarget c)).map grpPaths).getD []

/-- The head of the queue, once unknown opcodes are answered, if it has this opcode and the engine serves it. -/
def State.cmdHead (s : State) (e : Eng) (op : Nat) : State × Option (BitVec 128) :=
  let s := State.cmdSkip e (s.engRec e).cmdq.length s
  match (s.engRec e).cmdq with
  | c :: _ => if s.cmdServing e && cmdOp c == op then (s, some c) else (s, none)
  | [] => (s, none)

/-- Serve the head of the queue if it is a command with this opcode: its checks, then its effect `f`, which is given the epoch at
its taking. -/
def State.cmdServe (s : State) (e : Eng) (op : Nat) (f : State → BitVec 128 → Nat → State) : State :=
  let h := s.cmdHead e op
  match h.2 with
  | none => h.1
  | some c =>
    let s := h.1.cmdPop e
    let ep' := s.cmdGrpEpoch c
    match s.cmdCheck e c with
    | some (st, d) => s.answerCmd e c ep' st d 0 0
    | none =>
      match s.cmdOwnCheck e c with
      | some (st, d) => s.answerCmd e c ep' st d 0 0
      | none => f s c ep'

/-- PING (R294): ENG_SPEED.OPS is what the house measures, a free value. -/
def State.cmdPing (s : State) (e : Eng) : State :=
  s.cmdServe e 0x01 (fun s c ep' =>
    s.draw.2.answerCmd e c ep' 0 0 (s.rd (pageAddr (ep e) 0x048))
      (BitVec.ofNat 32 (s.draw.1.toNat % 65536 * 65536 + (s.engRec e).cmdq.length)))

/-- The rotations completed and abandoned on the paths of a command (R294). -/
def State.cmdRots (s : State) (c : BitVec 128) : Nat × Nat :=
  (((cmdPaths c).map (fun p => (s.path p).rotsDone)).sum, ((cmdPaths c).map (fun p => (s.path p).rotsCut)).sum)

/-- A long command begins (R296). -/
def State.cmdStarted (s : State) (e : Eng) (c : BitVec 128) (ep' : Nat) : State :=
  (s.modEng e (fun x => { x with long := some {
    cmd := c, epoch := ep', startAt := s.elapsed, stamp := s.stamp, rots := s.cmdRots c } })).answerCmd e c ep' 1 0 0 0

/-- CTLE_SEARCH. -/
def State.cmdSearch (s : State) (e : Eng) : State := s.cmdServe e 0x10 (fun s c ep' => s.cmdStarted e c ep')

/-- EYE_SCAN: the capture buffer is held (R295). -/
def State.cmdEye (s : State) (e : Eng) : State :=
  s.cmdServe e 0x20 (fun s c ep' =>
    let s := match targetGrp (cmdTarget c) with
      | some g => s.setGrp g { s.grp g with cap := some (128 + e.val) }
      | none => s
    s.cmdStarted e c ep')

/-- SWEEP: a sweep of each path (R97, R294). -/
def State.cmdSweep (s : State) (e : Eng) : State :=
  s.cmdServe e 0x30 (fun s c ep' => (forAll (cmdPaths c) (fun p s => s.sweepBegin p) s).cmdStarted e c ep')

/-- CAL_RUN: a run of the whole group (R383, R387). -/
def State.cmdCal (s : State) (e : Eng) : State :=
  s.cmdServe e 0x31 (fun s c ep' =>
    let s := s.cmdStarted e c ep'
    match targetGrp (cmdTarget c) with
    | some g => s.calTrigger g 3 ((quadWord c 1).getLsbD 8) (cmdArg0 c % 64)
    | none => s)

/-- ABORT (R294). -/
def State.cmdAbort (s : State) (e : Eng) : State :=
  s.cmdServe e 0x70 (fun s c ep' =>
    let tag := cmdArg0 c % 256
    let x := s.engRec e
    if x.long.any (fun l => cmdTag l.cmd == tag) then (s.abortLong e).answerCmd e c ep' 0 0 0 0
    else match x.cmdq.find? (fun q => cmdTag q == tag) with
      | some q =>
        ((s.setEng e { x with cmdq := x.cmdq.erase q }).answerCmd e q (s.cmdGrpEpoch q) 7 0 0 0).answerCmd e c ep' 0 0 0 0
      | none => s.answerCmd e c ep' 3 1 0 0)

/-- FLUSH (R294, R296): the running long command ends too. -/
def State.cmdFlush (s : State) (e : Eng) : State :=
  s.cmdServe e 0x71 (fun s c ep' =>
    let q := (s.engRec e).cmdq
    let s := (s.abortLong e).modEng e (fun x => { x with cmdq := [] })
    (q.foldl (fun s d => s.answerCmd e d (s.cmdGrpEpoch d) 7 0 0 0) s).answerCmd e c ep' 0 q.length 0 0)

/-- CHECKPOINT: published at once (R294, R302). -/
def State.cmdCheckpoint (s : State) (e : Eng) (size : BitVec 14) : State :=
  s.cmdServe e 0x72 (fun s c ep' => (s.heartbeat e (some size)).answerCmd e c ep' 0 size.toNat 0 0)

/-! ### The end of a long command (R295, R296) -/

/-- The grid of a scan: phase and threshold steps. -/
def eyeNh (c : BitVec 128) : Nat := 64 / fget (quadWord c 1) 5 0
def eyeNv (c : BitVec 128) : Nat := 256 / fget (quadWord c 1) 13 8

/-- The capture buffer after a scan (R295). -/
def eyeBytes (e : Eng) (l : LongSt) (grid : List (BitVec 16)) : List Byte :=
  let c := l.cmd
  let cnt (k : Nat) : Nat := ((grid[k]?).map (·.toNat)).getD 0
  beBytes 4 0x45594531 ++
  [BitVec.ofNat 8 (cmdTarget c), BitVec.ofNat 8 (fget (quadWord c 2) 9 8), BitVec.ofNat 8 (fget (quadWord c 1) 5 0),
   BitVec.ofNat 8 (fget (quadWord c 1) 13 8)] ++
  beBytes 2 (eyeNh c) ++ beBytes 2 (eyeNv c) ++ beBytes 4 (10 + fget (quadWord c 2) 4 0) ++
  (List.range 16).map (quadByte l.stamp) ++ beBytes 4 (e.val * 65536 + l.epoch) ++ List.replicate 92 0 ++
  (List.range (eyeNh c * eyeNv c)).flatMap (fun k => beBytes 2 (cnt k))

/-- RESULT0 of a scan: width at threshold offset 0, height at phase offset 0 (R295). -/
def eyeResult (c : BitVec 128) (grid : List (BitVec 16)) : Word :=
  let nh := eyeNh c
  let nv := eyeNv c
  let zero (i j : Nat) : Bool := (grid[i * nv + j]?).all (· == 0)
  let w := ((List.range nh).filter (fun i => zero i (nv / 2))).length
  let h := ((List.range nv).filter (fun j => zero (nh / 2) j)).length
  BitVec.ofNat 32 (w * fget (quadWord c 1) 5 0 * 65536 + h * fget (quadWord c 1) 13 8)

/-- The rotations of a sweep command are over (R97). -/
def State.sweepOver (s : State) (c : BitVec 128) : Bool :=
  (cmdPaths c).all (fun p => !(s.path p).sweep && !s.rotating p && (s.path p).rel.isEmpty)

/-- LONG_COMMAND_END: the running long command ends DONE (R296). A CAL_RUN ends with its run, a SWEEP with its sweeps. -/
def State.longEnd (s : State) (e : Eng) (detail : BitVec 16) (r0 r1 : Word) (grid : List (BitVec 16)) : State :=
  match (s.engRec e).long with
  | none => s
  | some l =>
    let op := cmdOp l.cmd
    if s.eng e != egRunning then s
    else if op = 0x10 then
      match targetPath (cmdTarget l.cmd) with
      | some p => s.endLong e 0 detail.toNat (s.rd (pageAddr (pp p) 0x040))
          (BitVec.ofNat 32 (s.f (pp p) PathR.EQ_QUAL_SNR))
      | none => s
    else if op = 0x20 then
      match targetGrp (cmdTarget l.cmd) with
      | some g => (s.msetList (capBase g) (eyeBytes e l grid)).endLong e 0 (eyeNh l.cmd * eyeNv l.cmd) (eyeResult l.cmd grid)
          (BitVec.ofNat 32 (usec (s.elapsed - l.startAt)))
      | none => s
    else if op = 0x31 then (if l.ended = some true then s.endLong e 0 detail.toNat r0 r1 else s)
    else if s.sweepOver l.cmd then
      let n := s.cmdRots l.cmd
      s.endLong e 0 0 (BitVec.ofNat 32 (n.1 - l.rots.1)) (BitVec.ofNat 32 (n.2 - l.rots.2))
    else s

/-- A scan samples with a swing slice of the path, so no rotation starts on it (R295). -/
def State.scanning (s : State) (p : Path) : Bool :=
  allEngs.any (fun e => (s.engRec e).long.any (fun l => cmdOp l.cmd == 0x20 && targetPath (cmdTarget l.cmd) == some p))

/-- Long commands that name the pages of a reset end ABORTED (R304). -/
def State.longReset (s : State) (ps : List Path) : State :=
  forAll allEngs (fun e s =>
    match (s.engRec e).long with
    | some l => if (cmdPaths l.cmd).any (fun p => ps.contains p) then s.abortLong e else s
    | none => s) s

/-- House reset of the engines (R304). -/
def State.engHouseReset (s : State) : State :=
  let s := forAll allGroups (fun g s =>
    if s.mig g == 1 then s.setF (gp g) GroupR.MIG_STAT_STATE 0
    else if s.mig g == 2 then s.handover g 3 else s) s
  let s := forAll allGroups (fun g s =>
    match engAt (s.owner g) with
    | some e => if s.eng e = egStarting ∨ s.eng e = egRunning then s.modCal g (fun c => { c with recover := true }) else s
    | none => s) s
  forAll allEngs (fun e s =>
    ((s.engStopNow e).emptyCmdq e).modEng e (fun x => { x with rspq := [] })) s

end Sys2Proof.Machine
end

