-- ==== Sys2Proof/Machine/Twin.lean ====
section
/-!
DEFINITION. Machine/Twin.lean: twin operation (chapter 12): link, heartbeat and roles, the mirrored range, the time transfer, the
comparisons of pins and configuration, stand-down and re-entrance.
-/
namespace Sys2Proof.Machine

/-! ### States and roles (R318 to R322) -/

def twOff : Nat := 0
def twSeeking : Nat := 1
def twPaired : Nat := 2
def twLinkDown : Nat := 3
def twAlone : Nat := 4
def twConflict : Nat := 5

/-- TWIN_STAT.STATE and ROLE (1 lead, 2 follow), and SD_STATE. -/
def State.tw (s : State) : Nat := s.f .twin TwinR.TWIN_STAT_STATE
def State.role (s : State) : Nat := s.f .twin TwinR.TWIN_STAT_ROLE
def State.sdState (s : State) : Nat := s.f .twin TwinR.SD_STAT_SD_STATE
def State.follow (s : State) : Bool := s.role == 2
def State.linkUp (s : State) : Bool := s.on .twin TwinR.LINK_STAT_LINK_UP
def State.hbOk (s : State) : Bool := s.on .twin TwinR.LINK_STAT_HB_OK
def State.modTwin (s : State) (f : TwinSt → TwinSt) : State := { s with twin := f s.twin }

/-- Set TIME_CTL.SRC, with what a change of it brings (R208). -/
def State.setSrc (s : State) (v : Nat) : State :=
  if s.f .time TimeR.TIME_CTL_SRC = v then s else (s.setF .time TimeR.TIME_CTL_SRC v).srcChange

/-- Entry to FOLLOW, and leaving it (R322). -/
def State.enterFollow (s : State) : State :=
  let s := (s.setF .time TimeR.TIME_STAT_ARMED 1).setF .twin TwinR.TT_STAT_STEPPED 0
  if s.on .twin TwinR.TWIN_CFG_TIME_EN then s.setSrc 2 else s
def State.leaveFollow (s : State) : State :=
  (s.setF .twin TwinR.TT_STAT_LOCKED 0).setSrc (s.f .twin TwinR.TWIN_CFG_SRC_ALONE)

/-- The role changes (R319, R320, R327). -/
def State.setRole (s : State) (r : Nat) : State :=
  let old := s.role
  if old = r then s
  else
    let s := ((s.setF .twin TwinR.TWIN_STAT_ROLE r).inc .twin TwinR.TWIN_STAT_ROLE_CHANGES).raise .twin 0
    if r = 2 then s.enterFollow else if old = 2 then s.leaveFollow else s

/-- Set SD_STATE. At entry to RE_ENTERING the runs of matched windows begin (R329). -/
def State.setSd (s : State) (v : Nat) : State :=
  let s := s.setF .twin TwinR.SD_STAT_SD_STATE v
  if v = 3 then s.modTwin (fun x => { x with reRun := [] }) else s

/-- TWIN_ID as sampled. -/
def State.twinId (s : State) : Bool := s.on .house HouseR.STRAP_TWIN_ID

/-- CONFLICT (R321). -/
def State.conflict (s : State) : State :=
  if s.tw = twConflict then s
  else
    let was := s.follow
    let s := (((s.setF .twin TwinR.TWIN_STAT_STATE twConflict).setF .twin TwinR.TWIN_STAT_ROLE 0).setF
      .twin TwinR.TWIN_STAT_SYNCING 0).raise .twin 20
    if was then s.leaveFollow else s

/-- The role R319 gives: lead or follow. -/
def State.roleFrom (s : State) (h : TwinHello) : Nat :=
  let own := s.role == 1
  if own && !h.lead then 1 else if !own && h.lead then 2 else if !s.twinId then 1 else 2

/-- Both modules enter RE_ENTERING where the twin at a first pairing is not IN_SERVICE (R330): a module that is out of service
follows a twin that has just entered it (DEDUCED, log 107). `before`: the twin's SD_STATE in its last hello. -/
def State.joinReentry (s : State) (h : TwinHello) (before : Nat) : State :=
  if h.sd = 3 && before != 3 && s.sdState != 0 then s.setSd 3 else s

/-- Entry to PAIRED (R319, R330). -/
def State.enterPaired (s : State) (h : TwinHello) (before : Nat) : State :=
  let first := !s.twin.paired
  let s := (((s.setF .twin TwinR.TWIN_STAT_STATE twPaired).setRole (s.roleFrom h)).raise .twin 1).modTwin
    (fun x => { x with paired := true })
  if first then (if h.sd = 0 then s.setSd 2 else s.setSd 3) else s.joinReentry h before

/-- What a hello says of the twin. -/
def State.peerIs (s : State) (h : TwinHello) : State :=
  let s := ((s.setF .twin TwinR.PEER_SERIAL_HI_SERIAL (h.serial.toNat / 2 ^ 32)).setF .twin TwinR.PEER_SERIAL_LO_SERIAL
    h.serial.toNat).setF .twin TwinR.TWIN_STAT_PEER_SD h.sd.toNat
  let s := s.setB .twin TwinR.TWIN_STAT_PEER_TWIN_ID h.id
  let same := h.half == s.on .twin TwinR.TWIN_CFG_WORK_HALF
  let was := s.on .twin TwinR.TWIN_STAT_WORK_SAME
  (s.setB .twin TwinR.TWIN_STAT_WORK_SAME same).raiseIf (same && !was) .twin 19

/-- A hello (R319 to R321, R327). `resends`: attempts that failed before it arrived (R310). While PAIRED, a twin that has become
follow in a stand-down leaves the lead to this module. -/
def State.twinHello (s : State) (h : TwinHello) (resends : Nat) : State :=
  if !s.on .twin TwinR.TWIN_CFG_EN || !s.linkUp then s
  else
    let before := s.f .twin TwinR.TWIN_STAT_PEER_SD
    let s := (s.add .twin TwinR.LINK_CNT_RESENDS resends).peerIs h
    if h.id = s.twinId then s.conflict
    else if s.tw = twConflict then s
    else if s.tw = twPaired then (if s.role = 2 ∧ h.role = 2 ∧ h.sd ≠ 0 then s.setRole 1 else s).joinReentry h before
    else if s.hbOk then s.enterPaired h before else s

/-! ### Link and heartbeat (R309 to R311, R320) -/

/-- The state once link or heartbeat has changed (R318, R320). -/
def State.twSettle (s : State) : State :=
  let st := s.tw
  if st = twPaired ∨ st = twLinkDown ∨ st = twAlone then
    (if s.linkUp then s
     else if s.hbOk then s.setF .twin TwinR.TWIN_STAT_STATE twLinkDown
     else s.setF .twin TwinR.TWIN_STAT_STATE twAlone)
  else s

/-- The link comes up. -/
def State.twinUp (s : State) : State :=
  if s.on .twin TwinR.TWIN_CFG_EN && s.device != .dark && s.device != .fullReset then
    (s.setF .twin TwinR.LINK_STAT_LINK_UP 1).setF .twin TwinR.LINK_STAT_LANE_LOCK 0xF else s

/-- The link is lost: a lane has no block lock (`lanes` are those that have), or a message has failed four times, three of them
resends (R309, R310). A bulk sync ends with it. -/
def State.twinDown (s : State) (lanes : BitVec 4) (message : Bool) : State :=
  if !s.linkUp then s
  else
    let s := if message then s.add .twin TwinR.LINK_CNT_RESENDS 3 else s
    let s := ((s.setF .twin TwinR.LINK_STAT_LINK_UP 0).setF .twin TwinR.LINK_STAT_LANE_LOCK lanes.toNat).setF
      .twin TwinR.TWIN_STAT_SYNCING 0
    ((s.inc .twin TwinR.LINK_CNT_LOSSES).twSettle).raise .twin 17

/-- The twin's heartbeat is lost, or present (R311). -/
def State.hbLost (s : State) : State :=
  if !s.hbOk then s
  else (((s.setF .twin TwinR.LINK_STAT_HB_OK 0).inc .twin TwinR.LINK_CNT_HB_LOSSES).twSettle).raise .twin 16
def State.hbPresent (s : State) : State :=
  if s.on .twin TwinR.TWIN_CFG_EN && !s.hbOk then (s.setF .twin TwinR.LINK_STAT_HB_OK 1).twSettle else s

/-- The promotion delay ends (R320). -/
def State.promote (s : State) : State :=
  if s.tw = twAlone ∧ s.follow ∧ !s.linkUp ∧ !s.hbOk then s.setRole 1 else s

/-- A write of TWIN_CFG.EN (R318, R331). -/
def State.twinEn (s : State) (v : Bool) : State :=
  let was := s.on .twin TwinR.TWIN_CFG_EN
  let s := s.setB .twin TwinR.TWIN_CFG_EN v
  if v == was then s
  else if v then (s.setF .twin TwinR.TWIN_STAT_STATE twSeeking).modTwin (fun x => { x with paired := false })
  else
    let s := ((s.setF .twin TwinR.LINK_STAT_LINK_UP 0).setF .twin TwinR.LINK_STAT_LANE_LOCK 0).setF .twin TwinR.LINK_STAT_HB_OK 0
    let s := ((s.setF .twin TwinR.TWIN_STAT_STATE twOff).setF .twin TwinR.TWIN_STAT_SYNCING 0).setF .twin TwinR.TWIN_STAT_ROLE 0
    let s := (s.setF .twin TwinR.TT_STAT_LOCKED 0).setSd 0
    if s.f .time TimeR.TIME_CTL_SRC = 2 then s.setSrc (s.f .twin TwinR.TWIN_CFG_SRC_ALONE) else s

/-- A write of TWIN_CFG.TIME_EN has changed it (R322). -/
def State.timeEnChange (s : State) (v : Bool) : State :=
  if !s.follow then s else if v then s.setSrc 2 else s.leaveFollow

/-! ### Messages sent (R312) -/

/-- The hello this module sends. -/
def State.ownHello (s : State) : TwinHello :=
  { serial := s.rd (pageAddr .house 0x048) ++ s.rd (pageAddr .house 0x04C), id := s.twinId, role := BitVec.ofNat 2 s.role,
    lead := s.role == 1, half := s.on .twin TwinR.TWIN_CFG_WORK_HALF, sd := BitVec.ofNat 2 s.sdState }

/-- The bytes and the directory of the mirrored range (R313, R315). -/
def mirrored (a : Nat) : Bool :=
  (decide (0x00400000 ≤ a) && decide (a < poolAddr 15104)) ||
  (decide (0x00700000 ≤ a) && decide (a < 0x00710000) && decide (a % 32 < 24))
def State.mirCrc (s : State) : Word :=
  Config.mirrorCrc (s.mem.filter (fun e => mirrored e.1)) (s.scene.desc.filter (fun e => decide (e.1 ≤ 503)))

/-- What the messages of R312 carry of one path. -/
def State.ownPin (s : State) (p : Path) : Word × Word × BitVec 3 :=
  (BitVec.ofNat 32 (s.f (pp p) PathR.PIN_MEAS_MEAS), BitVec.ofNat 32 (s.f (pp p) PathR.PIN_HELD_HELD),
   BitVec.ofNat 3 (s.f (pp p) PathR.PIN_STAT_STATE))
def State.ownCfg (s : State) (p : Path) : TwinCfg :=
  { prof := s.rd (pageAddr (pp p) 0x340), pam4 := vPam4 s.now p, vco := BitVec.ofNat 64 (s.fv p),
    div := BitVec.ofNat 2 (s.f (pp p) PathR.LINE_CFG_DIV), target := s.rd (pageAddr (pp p) 0x2C0),
    asym := s.rd (pageAddr (pp p) PathR.PTP_ASYM_ASYM.off), oos := s.oos p }
def State.ownCoef (s : State) (p : Path) : TwinCoef :=
  let w (x : Fld) : Word := s.rd (pageAddr (pp p) x.off)
  { ctle := w PathR.RX_CTLE_PEAK, dfe := w PathR.DFE_TAP_DFE1, fir0 := w PathR.TX_FIR0_C_0,
    fir1 := w PathR.TX_FIR1_C_P1, ffe := (List.range 16).map (fun i => w (PathR.FFE_TAP_LO i)) }

/-- A periodic interval of R312 ends: 0 hello, 1 time exchange, 2 pin report, 3 configuration, 4 coefficients, else the CRC. -/
def State.twinSend (s : State) (item : BitVec 3) : State :=
  if !s.linkUp || (item.toNat != 0 && s.tw != twPaired) then s
  else
    let m : TwinMsg := match item.toNat with
      | 0 => .hello s.ownHello
      | 1 => .time s.stamp
      | 2 => .pins (allPaths.map s.ownPin)
      | 3 => .config (allPaths.map s.ownCfg)
      | 4 => .coefs (allPaths.map s.ownCoef)
      | _ => .crc s.mirCrc
    s.modTwin (fun x => { x with sent := some m })

/-! ### The mirrored range (R313); what writes it is in Machine/Mirror.lean -/

/-- A mirrored cue, scene or pool entry of a follow, which only mirror operations write. -/
def State.cueClosed (s : State) (c : BitVec 12) : Bool := s.follow && decide (c.toNat < 2048)
def State.descClosed (s : State) (n : Nat) : Bool := s.follow && decide (n ≤ 503)
def State.poolClosed (s : State) (i : Nat) : Bool := s.follow && decide (i < 15104)

/-! ### Time from the lead (R322, R323) -/

/-- A two-way exchange completes on the follow. `d21` and `d43`: t2 − t1 and t4 − t3 in ps. theta is kept in half picoseconds. -/
def State.timeExchange (s : State) (d21 d43 : BitVec 64) : State :=
  if !(s.follow && s.tw == twPaired && s.on .twin TwinR.TWIN_CFG_TIME_EN) then s
  else
    let th := d21.toInt - d43.toInt + s.sf .twin TwinR.TT_ASYM_ASYM
    let dl := d21.toInt + d43.toInt
    let s := s.setF .twin TwinR.TT_OFS_OFS (enc 32 (clampInt 0x7FFFFFFF (roundDiv th 2)))
    let s := s.setF .twin TwinR.TT_DELAY_DELAY (satNat 0xFFFF (roundDiv dl 2).toNat)
    let s := (s.incW .twin TwinR.TT_STAT_EXCHANGES).setB .twin TwinR.TT_STAT_LOCKED (decide (th.natAbs ≤ 2000))
    let s := s.holdoverEnd
    if decide (th.natAbs > 2000000) && s.on .time TimeR.TIME_STAT_ARMED then
      (s.stepBy (-roundDiv (th * (tbNs : Int)) 2000)).setF .twin TwinR.TT_STAT_STEPPED 1
    else s.rateWrite (enc 32 (clampInt 10995116 (-roundDiv (th * 2 ^ 40) 2000000000000)))

/-- The time transfer is lost (R323). -/
def State.transferLost (s : State) : State :=
  if s.f .time TimeR.TIME_CTL_SRC == 2 && !s.on .time TimeR.TIME_STAT_HOLDOVER then
    if s.follow then ((s.setF .twin TwinR.TT_STAT_LOCKED 0).holdoverBegin).raise .twin 5 else s.holdoverBegin
  else s

/-! ### Pins and configuration (R170, R317, R324) -/

/-- Set the lane pair's bit of one of the LO and HI registers. -/
def State.setLpBit (s : State) (off : Nat) (n : Lane) (b : Bool) : State :=
  let a := pageAddr .twin (if n.val < 32 then off else off + 4)
  let m := 1#32 <<< (n.val % 32)
  s.wr a (if b then s.rd a ||| m else s.rd a &&& ~~~m)
def State.lpBit (s : State) (off : Nat) (n : Lane) : Bool :=
  (s.rd (pageAddr .twin (if n.val < 32 then off else off + 4))).getLsbD (n.val % 32)

/-- The module judges a window whose comparison is valid (R324): the runs, and the lane pair's PIN_MIS bit. -/
def State.judgeWindow (s : State) (p : Path) (matched : Bool) : State :=
  let run := s.f .twin TwinR.TWIN_CFG_MATCH_RUN
  let x := s.twin
  let old := x.mis.contains p.val
  let up (t : List (Nat × Nat)) (b : Bool) := tabSet (fun _ => 0) t p.val (if b then tabGet (fun _ => 0) t p.val + 1 else 0)
  let x := { x with beyond := up x.beyond (!matched), matched := up x.matched matched, reRun := up x.reRun matched }
  let now := if decide (tabGet (fun _ => 0) x.beyond p.val ≥ run) then true
    else if decide (tabGet (fun _ => 0) x.matched p.val ≥ run) then false else old
  let s := s.modTwin (fun _ => { x with mis := if now then x.mis.filter (· != p.val) ++ [p.val] else x.mis.filter (· != p.val) })
  let n := laneOf p
  let was := s.lpBit 0x060 n
  let bit := now || s.twin.mis.contains (otherPath p).val
  (s.setLpBit 0x060 n bit).raiseIf (bit && !was) .twin 18

/-- A pin report of one path: the twin's PIN_MEAS, PIN_STAT.STATE and PIN_HELD (R170). A window whose comparison is not valid leaves
the runs of R324 alone, and ends the run of matched windows of R329, each of which is valid. A difference beyond the DIFF field
saturates at ±0x7FFF (DESIGN CHOICE, log 173). -/
def State.pinReport (s : State) (p : Path) (meas held : Word) (st : BitVec 3) : State :=
  if s.tw != twPaired then s
  else
    let s := s.modTwin (fun x => { x with pins := tabSet (fun _ => (0, 0, 0)) x.pins p.val (meas.toNat, st.toNat, held.toNat) })
    if s.verified p && st.toNat == pinPinned then
      let d := clampInt 0x7FFF ((s.f (pp p) PathR.PIN_MEAS_MEAS : Int) - (meas.toNat : Int))
      let s := (s.setS (pp p) PathR.PIN_TWIN_DIFF d).setF (pp p) PathR.PIN_TWIN_VALID 1
      s.judgeWindow p (decide (d.natAbs ≤ 4 * s.f .twin TwinR.TWIN_CFG_MATCH_TOL))
    else (s.setF (pp p) PathR.PIN_TWIN_VALID 0).modTwin (fun x => { x with reRun := tabSet (fun _ => 0) x.reRun p.val 0 })

/-- The path's configuration items agree with the twin's (R317). -/
def State.cfgAgree (s : State) (p : Path) (c : TwinCfg) : Bool :=
  s.rd (pageAddr (pp p) 0x340) == c.prof && vPam4 s.now p == c.pam4 &&
  decide (s.fv p * 2 ^ c.div.toNat = c.vco.toNat * vDiv s.now p) && s.rd (pageAddr (pp p) 0x2C0) == c.target &&
  s.rd (pageAddr (pp p) PathR.PTP_ASYM_ASYM.off) == c.asym

/-- The twin's configuration of a path. -/
def State.peerCfg (s : State) (p : Path) : Option TwinCfg := tabGet (fun _ => none) s.twin.cfg p.val

/-- A configuration report of one path (R317): the lane pair is compared while it is in service on both modules. -/
def State.cfgReport (s : State) (p : Path) (c : TwinCfg) : State :=
  if s.tw != twPaired then s
  else
    let s := s.modTwin (fun x => { x with cfg := tabSet (fun _ => none) x.cfg p.val (some c) })
    let n := laneOf p
    let both := [pathAB n, pathBA n]
    if both.any (fun q => s.oos q || (s.peerCfg q).all (·.oos)) then s
    else
      let bad := both.any (fun q => (s.peerCfg q).any (fun c => !s.cfgAgree q c))
      let was := s.lpBit 0x068 n
      (s.setLpBit 0x068 n bad).raiseIf (bad && !was) .twin 19

/-- A coefficient report of one path (R316). -/
def State.coefReport (s : State) (p : Path) (c : TwinCoef) : State :=
  if s.tw != twPaired then s
  else s.modTwin (fun x => { x with coefs := tabSet (fun _ => none) x.coefs p.val (some ({ c with ffe := c.ffe.take 16 }, s.elapsed)) })

/-! ### Stand-down and re-entrance (R325 to R330) -/

/-- A lane pair in service on this module. -/
def State.lpInService (s : State) (n : Lane) : Bool := !s.oos (pathAB n) && !s.oos (pathBA n)

/-- SEL_OK of a lane pair (R325). -/
def State.selOk (s : State) (n : Lane) : Bool :=
  s.sdState == 0 && s.lpInService n && s.verified (pathAB n) && s.verified (pathBA n) && !s.lpBit 0x068 n

/-- SEL_OK as the twin's reports show it. -/
def State.peerSelOk (s : State) (n : Lane) : Bool :=
  s.f .twin TwinR.TWIN_STAT_PEER_SD == 0 && !s.lpBit 0x068 n &&
  [pathAB n, pathBA n].all (fun q => (s.peerCfg q).any (fun c => !c.oos) &&
    (tabGet (fun _ => (0, 0, 0)) s.twin.pins q.val).2.1 == pinPinned)

/-- A refused stand-down operation. -/
def State.sdRefused (s : State) (cause : Nat) : State := (s.setF .twin TwinR.SD_STAT_CAUSE cause).viol .twin .consistency

/-- The first cause of R326 that refuses REQ. -/
def State.reqCause (s : State) (force : Bool) : Option Nat :=
  if s.tw ≠ twPaired then some 1
  else if s.f .twin TwinR.TWIN_STAT_PEER_SD ≠ 0 then some 2
  else if !force && allLanes.any (fun n => s.lpInService n && (!s.peerSelOk n || s.lpBit 0x060 n)) then some 3
  else if s.sdState ≠ 0 then some 4 else none

/-- SD_CTL.REQ (R326, R327). -/
def State.sdReq (s : State) (force : Bool) : State :=
  match s.reqCause force with
  | some c => s.sdRefused c
  | none =>
    let s := s.setSd 1
    if s.role = 1 then s.setRole 2 else s

/-- SD_CTL.CONFIRM (R328): the placement records are cleared. -/
def State.sdConfirm (s : State) : State :=
  if s.sdState ≠ 1 then s.sdRefused 4
  else forAll allPaths (fun p s => s.modPath p (fun x => { x with record := false })) ((s.setSd 2).raise .twin 3)

/-- SD_CTL.REENTER (R329). -/
def State.sdReenter (s : State) : State :=
  if s.sdState ≠ 2 then s.sdRefused 4
  else if s.tw = twAlone then s.setSd 3
  else if s.tw ≠ twPaired then s.sdRefused 1
  else if s.f .twin TwinR.TWIN_STAT_PEER_SD ≠ 0 then s.sdRefused 2
  else s.setSd 3

/-- SD_CTL.CANCEL (R328). -/
def State.sdCancel (s : State) : State :=
  if s.sdState = 1 then s.setSd 0 else if s.sdState = 2 then s.sdReenter else s.sdRefused 4

/-- SD_CTL.REPLACE (R329): placement of every path not yet placed since CONFIRM. -/
def State.sdReplace (s : State) : State :=
  forAll allLanes (fun n s =>
    let due := [pathAB n, pathBA n].filter (fun p => !(s.path p).record)
    if due.isEmpty then s
    else if s.method (pathAB n) == 3 then (forAll due (fun p s => s.lockLost p) s).settle n
    else (s.restart n).settlePort n) s

/-- The first condition of R329 that a lane pair fails: 1 not pinned, 2 not placed, 3 configuration mismatch, 4 no valid
comparison, 5 beyond tolerance; 0 none. -/
def State.reenterWhy (s : State) (n : Lane) : Nat :=
  let both := [pathAB n, pathBA n]
  let win := s.f .twin TwinR.TWIN_CFG_REENTRY_WIN
  if !s.lpInService n then 0
  else if both.any (fun p => !s.verified p) then 1
  else if both.any (fun p => !(s.path p).record) then 2
  else if s.lpBit 0x068 n then 3
  else if s.tw = twAlone then 0
  else if both.any (fun p => !s.on (pp p) PathR.PIN_TWIN_VALID) then 4
  else if both.any (fun p => decide (tabGet (fun _ => 0) s.twin.reRun p.val < win)) then 5 else 0

/-- The lane pair that holds re-entrance back, and why: BLOCK_LP and BLOCK_WHY. -/
def State.reenterBlock (s : State) : Option (Lane × Nat) :=
  (allLanes.find? (fun n => s.reenterWhy n != 0)).map (fun n => (n, s.reenterWhy n))

/-- Re-entrance completes once every lane pair meets its conditions (R329). -/
def State.reenterDone (s : State) : State :=
  if s.sdState = 3 ∧ s.reenterBlock = none then (s.setSd 0).raise .twin 4 else s

/-- Re-entrance times out (R329). -/
def State.reenterTimeout (s : State) : State :=
  if s.sdState = 3 then ((s.setSd 2).setF .twin TwinR.SD_STAT_CAUSE 8).raise .twin 21 else s

/-- Full reset and entry to DARK (R332): what is not a register. -/
def State.twinClear (s : State) : State := s.modTwin (fun _ => {})

end Sys2Proof.Machine
end

