-- ==== Sys2Proof/Machine/Supply.lean ====
section
/-!
DEFINITION. Machine/Supply.lean: the power die (R334 to R344): the inputs and their selection, the hold-up bank and its tests, the
energy figures, the erase of a fall sector and the payload of the fall record.
-/
namespace Sys2Proof.Machine

/-! ### Inputs and switch-over (R334 to R336) -/

/-- The fields of an input: `b` is VINB. -/
def goodFld (b : Bool) : Fld := if b then SupplyR.SUP_STAT_B_GOOD else SupplyR.SUP_STAT_A_GOOD
def seenFld (b : Bool) : Fld := if b then SupplyR.SUP_STAT_B_SEEN else SupplyR.SUP_STAT_A_SEEN
def lossFld (b : Bool) : Fld := if b then SupplyR.SUP_CNT_B_LOSSES else SupplyR.SUP_CNT_A_LOSSES
def State.good (s : State) (b : Bool) : Bool := s.on .supply (goodFld b)
def State.sel (s : State) : Nat := s.f .supply SupplyR.SUP_STAT_SEL
def State.forceB (s : State) : Bool := s.on .supply SupplyR.SUP_CTL_FORCE_B
def State.modSupply (s : State) (f : SupplySt → SupplySt) : State := { s with supply := f s.supply }

/-- The house is powered, so registers stand (R337). -/
def State.houseOn (s : State) : Bool := s.device != .dark && s.device != .off

/-- The power die may select an input: not while it feeds from HUP (R343), and not without rails. -/
def State.selects (s : State) : Bool := s.device != .failing && s.device != .off

/-- Select an input (R335): a change sets SWITCHOVER and counts. -/
def State.switchTo (s : State) (b : Bool) : State :=
  if s.sel = b2n b then s
  else
    let s := (s.setF .supply SupplyR.SUP_STAT_SEL (b2n b)).setF .supply SupplyR.SUP_STAT_RET_WAIT
      (if b then s.f .supply SupplyR.SUP_STAT_RET_WAIT else 0)
    if s.houseOn then (s.inc .supply SupplyR.SUP_CNT_SWITCHES).raise .supply 0 else s

/-- An input is lost, or an injected loss treats it so: the other is selected if it is good (R335, R509). -/
def State.inputGone (s : State) (b : Bool) : State :=
  let s := s.setF .supply (goodFld b) 0
  let s := if b then s else s.setF .supply SupplyR.SUP_STAT_RET_WAIT 0
  if s.selects && s.sel == b2n b && s.good (!b) then s.switchTo (!b) else s

/-- INPUT_QUALIFICATION_START (R335). -/
def State.inputQual (s : State) (b : Bool) : State :=
  if s.good b || b then s else s.setF .supply SupplyR.SUP_STAT_RET_WAIT 1

/-- INPUT_GOOD (R334 to R337). In power-off it is the power-up: the input is selected and the rails come into regulation; the full
reset follows. While the selected input is lost, the one that becomes good is selected (log 36). -/
def State.inputGood (s : State) (b : Bool) : State :=
  if s.good b then s
  else
    let s := (s.setF .supply (goodFld b) 1).setF .supply (seenFld b) 1
    if s.device == .off then
      ((s.setF .supply SupplyR.SUP_STAT_SEL (b2n b)).setF .supply SupplyR.RAIL_STAT_IN_WIN 0x3F).setF
        .supply SupplyR.SUP_STAT_RET_WAIT 0
    else if !s.selects then s
    else if s.sel == b2n (!b) && !s.good (!b) then s.switchTo b
    else if b then (if s.forceB then s.switchTo true else s)
    else s.setF .supply SupplyR.SUP_STAT_RET_WAIT (b2n (s.sel == 1))

/-- INPUT_LOST (R334, R335). An absent input, and one that has not become good again, is no loss. -/
def State.inputLost (s : State) (b : Bool) : State :=
  if !s.good b then (if b then s else s.setF .supply SupplyR.SUP_STAT_RET_WAIT 0)
  else
    let s := if s.houseOn then (s.inc .supply (lossFld b)).raise .supply (16 + b2n b) else s
    s.inputGone b

/-- RETURN_DELAY_EXPIRY (R335): FORCE_B keeps VINB while it is good (R336). -/
def State.returnExpiry (s : State) : State :=
  if s.selects && s.sel == 1 && s.good false && !(s.forceB && s.good true) then s.switchTo false else s

/-- A change of FORCE_B, which stood at `old` (R336). -/
def State.forceChange (s : State) (old : Bool) : State :=
  if s.forceB && s.good true then s.switchTo true
  else if !s.forceB && old && s.good false then s.switchTo false
  else s

/-! ### The hold-up bank (R340, R341) -/

/-- HUP_ENERGY from the capacitance and the HUP voltage; HUP_LOW as it falls below LOW_MJ (R341, R354). -/
def State.energyNow (s : State) : State × Bool :=
  let e := if s.supply.hupZero then 0
    else satNat 1023 (energyOf (s.f .supply SupplyR.HUP_CAP_CAP) (s.f .supply SupplyR.SUP_PWR_HUP))
  let low := s.f .supply SupplyR.HUP_CFG_LOW_MJ
  (s.setF .supply SupplyR.HUP_ENERGY_E_AVAIL e, decide (low ≤ s.eAvail ∧ e < low))

/-- ENERGY_UPDATE: the measurements of SUP_VIN and SUP_PWR and the energy (R341). -/
def State.energyUpdate (s : State) (vina vinb pin hup : BitVec 16) : State :=
  if !s.houseOn then s
  else
    let s := (((s.setF .supply SupplyR.SUP_VIN_VINA vina.toNat).setF .supply SupplyR.SUP_VIN_VINB vinb.toNat).setF
      .supply SupplyR.SUP_PWR_P_IN pin.toNat).setF .supply SupplyR.SUP_PWR_HUP hup.toNat
    s.energyNow.1.raiseIf s.energyNow.2 .supply 18

/-- A capacitance test starts (R340). -/
def State.testStart (s : State) : State :=
  if s.device == .failing || !s.houseOn then s else s.modSupply (fun x => { x with testing := true })

/-- The erase of the fall sector with the older records, where the other has no erased slot left (R349). A refused one is owed. -/
def State.fallErasure (s : State) : State :=
  let old := s.fallOlder
  let slots (h : Nat) : List Nat := (List.range 16).map (· + 16 * h)
  let busy := s.flash.queue.any (fun op => match op with | .fallErase _ => true | _ => false) ||
    (match s.flash.run with | some (.fallErase _, _) => true | _ => false)
  if busy then s
  else if !(slots (1 - old)).any (fun k => s.fallErased k) && !(slots old).all (fun k => s.fallErased k) then
    (s.modFlash (fun x => { x with eraseDue := true })).flashQueue (.fallErase old)
  else s

/-- A capacitance test ends (R340): `dvc` and `dvd` are the rise and the droop in 10 µV; `reached`: HUP has reached 16 V. What
waited for the test is served, and a fall erase that is owed is offered again (R349). -/
def State.testEnd (s : State) (dvc dvd : BitVec 24) (reached : Bool) : State :=
  if !s.supply.testing then s
  else
    let dv := dvc.toNat + dvd.toNat
    let c := if dv = 0 then 0xFFFF else satNat 0xFFFF (200000000 / dv)
    let res := if !reached || decide (dvc.toNat > 300000) then 2 else if 3300 ≤ c ∧ c ≤ 10000 then 1 else 3
    let s := (s.setF .supply SupplyR.HUP_CAP_RESULT res).setF .supply SupplyR.HUP_CAP_CAP (if res = 2 then 0 else c)
    let s := s.modSupply (fun x => { x with testing := false, tested := true, hupZero := false, testAt := s.elapsed })
    let r := s.energyNow
    let s := (r.1.raiseIf (r.2 || res != 1) .supply 18).flashServe
    if s.flash.eraseDue then s.fallErasure else s

/-! ### Power failure (R343, R344, R349) -/

/-- KIND and region of the flash operation that runs (R349): KIND as NVM_ECHK codes it; an engine load has none. -/
def State.ranNow (s : State) : Option (Nat × Nat) :=
  match s.flash.run with
  | some (.host _ r _ _, _) => some (1, r)
  | some (.calStore, _) => some (6, 4)
  | some (.repairStore _, _) => some (2, 5)
  | some (.fuseSession, _) => some (3, 0)
  | some (.keyOp, _) => some (3, 0)
  | some (.fallErase _, _) => some (5, 7)
  | some (.logErase _, _) => some (4, 8)
  | some (.logAppend _ _ _ _, _) => some (4, 8)
  | _ => none

/-- The payload of the fall record at declaration (R349), from +0x20; HUP after the record and the operation's end are filled in
when it is written. -/
def State.fallPayload (s : State) (cause : Nat) : List Byte :=
  let ran := s.ranNow.getD (0, 0)
  (List.range 16).map (fun i => quadByte s.stamp i) ++
  beBytes 4 (cause * 2 ^ 24 + s.sel * 65536 + s.f .supply SupplyR.SUP_PWR_P_IN) ++
  wordBytes (s.rd (pageAddr .supply SupplyR.SUP_VIN_VINA.off)) ++
  beBytes 2 (s.f .supply SupplyR.SUP_PWR_HUP) ++ beBytes 2 0 ++
  beBytes 2 (s.f .supply SupplyR.HUP_CAP_CAP) ++ beBytes 2 (s.f .supply SupplyR.RAIL_STAT_IN_WIN) ++
  beBytes 8 s.evtSum.toNat ++
  beBytes 4 (ran.1 * 2 ^ 28 + ran.2 * 2 ^ 24) ++
  beBytes 4 (s.tw * 2 ^ 28 + s.role * 2 ^ 26 + s.sdState * 2 ^ 24) ++
  (List.range 9).map (fun i => degrees (s.sf .therm (ThermR.THERM_T_NOW i))) ++ List.replicate 167 0

/-- The lowest-numbered erased slot of the FALL region, and the highest SEQ of its records (R349). -/
def State.fallSlotFree (s : State) : Option Nat :=
  if s.flash.eraseDue then none else (List.range 32).find? (fun k => s.fallErased k)
def State.fallTop (s : State) : Nat :=
  ((List.range 32).filter (fun k => s.fallValid k)).foldl (fun m k => max m (s.recSeq (fallSlot k))) 0

/-- The fall record, if a slot is free (R349): `hup` after the record was programmed, `cut`: the operation that ran did not
complete. -/
def State.fallWrite (s : State) (hup : BitVec 16) (cut : Bool) : State :=
  match (if s.f .supply SupplyR.HUP_CAP_RESULT = 2 then none else s.fallSlotFree) with
  | none => s
  | some k =>
    let pl := putBytes s.supply.fall 0x1A (beBytes 2 hup.toNat)
    let pl := match s.supply.ran with
      | some (kind, r) => putBytes pl 0x28 (beBytes 2 (kind * 4096 + r * 256 + (if cut then 0x20 else 0x10)))
      | none => pl
    s.flashWrite (fallSlot k) (recBytes 7 ((s.fallTop + 1) % 2 ^ 32) s.recNow pl)

end Sys2Proof.Machine
end

