-- ==== Sys2Proof/Machine/BlockReset.lean ====
section
/-!
DEFINITION. Machine/BlockReset.lean: path and group resets (R459 to R461), as each chapter's reset table gives them, and the repair
map's slices (R410, R411).
-/
namespace Sys2Proof.Machine

/-! ### ADC slices and the repair map (R411) -/

/-- The repair words in force: those burned, then the soft ones that no fuse covers. -/
def State.repairWords (s : State) : List Word :=
  s.reh.fuses ++ (s.reh.soft.map (·.word)).filter (fun w => !s.reh.fuses.contains w)

/-- KIND of a repair word, and the number of its element (R410). -/
def repKind (w : Word) : Nat := if w.getLsbD 31 then fget w 30 28 else 0

/-- The slices of a path that the map retires. -/
def State.mapSlices (s : State) (p : Path) : List Nat :=
  ((s.repairWords.filter (fun w => repKind w == 1 && fget w 27 21 == p.val)).map (fun w => fget w 20 15)).dedup

/-- Build ADC_MAP and SWING_STAT: phase p is fed from the p-th slice not retired, in ascending order, and the rest are swing
(R411). -/
def State.buildMap (s : State) (p : Path) : State :=
  let out := s.mapSlices p
  let use := (List.range 34).filter (fun k => !out.contains k)
  let s := (List.range 32).foldl (fun s ph => s.setF (pp p) (mapFld ph) ((use[ph]?).getD 0x3F)) s
  let s := (s.setF (pp p) PathR.SWING_STAT_SW0 ((use[32]?).getD 0x3F)).setF (pp p) PathR.SWING_STAT_SW1 ((use[33]?).getD 0x3F)
  let s := s.setF (pp p) PathR.SWING_STAT_AVAIL (use.length - 32)
  out.foldl (fun s k => s.retire p k) s

/-! ### Registers restored from the last start (R461) -/

/-- What a register received at the last start. -/
def State.startVal (s : State) (a : Nat) : Word := tabGet regReset s.start a

/-- Give a register its value of the last start. -/
def State.restart1 (s : State) (p : Page) (off : Nat) : State := s.wr (pageAddr p off) (s.startVal (pageAddr p off))

/-! ### A path (R82, R143, R172, R198, R224, R250, R373) -/

/-- The datapath chapter's registers and state of a path (R82). Trims stay (R394). Signal detect goes on being evaluated, so SD
keeps its level (R89). The counts of consecutive failures start again, as SLICE_TRIM.FAILS is a register of the chapter (DEDUCED,
log 156). -/
def State.laneReset (s : State) (p : Path) : State :=
  let sd := s.sd p
  let s := (((s.dropLock p false).rstRange (pp p) 0x040 0x1FC).restart1 (pp p) 0x050).setB (pp p) PathR.RX_STAT_SD sd
  let g := pathGrp p
  let s := if (s.grp g).cap = some p.val then s.setGrp g { s.grp g with cap := none } else s
  let s := s.modPath p (fun x => { x with
    rotSlot := 1, rel := [], capStop := false, capAt := 0, piHeld := 0, sweep := false, sweepNext := 0, sweepDue := false, guardEnd := 0,
    disrupt := false, disruptEnd := 0, cwHit := false })
  ((List.range 34).foldl (fun s k => s.setSlice p k { s.slice p k with fails := 0 }) s).buildMap p

/-- The comparisons of a path with the twin lapse (R332). -/
def State.twinLapse (s : State) (p : Path) : State :=
  s.modTwin (fun x => { x with
    beyond := tabSet (fun _ => 0) x.beyond p.val 0
    matched := tabSet (fun _ => 0) x.matched p.val 0
    reRun := tabSet (fun _ => 0) x.reRun p.val 0 })

/-- Everything a reset does to one path, but for its training. -/
def State.pathHw (s : State) (p : Path) : State :=
  ((((s.laneReset p).pinReset p).profReset p).setF (pp p) PathR.SVC_STAT_TO_PINNED_US 0).twinLapse p

/-- A calibration run is abandoned for a reset of its group or of a path of it, and a recovery run is triggered (R387, R394,
R508). -/
def State.calReset (s : State) (g : Grp) : State := (s.calAbandon g false).calRecover g

/-- A path reset takes effect. -/
def State.pathReset (s : State) (p : Path) : State :=
  let s := (s.unstagePages [pp p] true).longReset [p]
  (((s.trnReset [p]).pathHw p).calReset (pathGrp p)).settlePort (laneOf p)

/-! ### A group -/

/-- The PLL registers of a group (R82), and its PLLs start afresh. -/
def State.pllReset (s : State) (g : Grp) : State :=
  let s := [0x040, 0x044, 0x048, 0x04C].foldl (fun s off => s.restart1 (gp g) off) (s.rstRange (gp g) 0x040 0x05C)
  (s.setRelock g false (s.on (gp g) GroupR.PLLA_CFG_EN)).setRelock g true (s.on (gp g) GroupR.PLLB_CFG_EN)

/-- Everything a reset does to a group page and its 16 path pages, but for scenes and calibration (R373, R394). -/
def State.grpHw (s : State) (g : Grp) : State :=
  let s := forAll (grpPaths g) (fun p s => s.pathHw p) ((s.pllReset g).trnReset (grpPaths g))
  (s.rstRange (gp g) 0x10C 0x110).rstRange (gp g) 0x194 0x19C

/-- A group reset takes effect: its pages are BUSY until it ends (R459). -/
def State.grpReset (s : State) (g : Grp) : State :=
  let s := ((s.grpBusy g .reset).longReset (grpPaths g)).grpHw g
  (s.calReset g).settleGrp g

/-! ### RESET_CTL (R460) -/

def State.rstState (s : State) : Nat := s.f .house HouseR.RESET_STAT_STATE

/-- The lane pairs of a lane pair's port hold the same PORT_W (R121). -/
def State.portAgrees (s : State) (n : Lane) : Bool := (s.portLanes n).all (fun m => s.portW m == s.portW n)

/-- The coupled rules of R264 that a path in service is part of hold of it. -/
def State.pathAgrees (s : State) (p : Path) : Bool :=
  let v := s.now
  vPllEn v (pathGrp p) (vSel v p) && vPllOk v (pathGrp p) (vSel v p) && vRateLegal v p && vProfileRow v p &&
  vTargetOk v p && tapsOk (vTaps v p) && vPairOk v (laneOf p) && s.portAgrees (laneOf p)

/-- The paths whose sets disagree go out of service, and CONFLICT is set (R460). -/
def State.resetConflict (s : State) (g : Grp) : State :=
  let bad := (grpPaths g).filter (fun p => !s.oos p && !s.pathAgrees p)
  let s := s.setB .house HouseR.RESET_STAT_CONFLICT (!bad.isEmpty)
  forAll bad (fun p s => (s.setF (pp p) Hdr.PAGE_CTL_OOS 1).oosChanged p) s

/-- The group of the path or group that RESET_STAT names. -/
def State.resetGrp (s : State) : Grp :=
  let t := s.f .house HouseR.RESET_STAT_LAST_TARGET
  if s.f .house HouseR.RESET_STAT_LAST_OP = 1 then pathGrp (pathAt t) else grpAt t

/-- A page of the reset is BUSY. -/
def State.resetHeld (s : State) : Bool :=
  let t := s.f .house HouseR.RESET_STAT_LAST_TARGET
  if s.f .house HouseR.RESET_STAT_LAST_OP = 1 then s.busyOf (pp (pathAt t)) != .no
  else (grpPages (grpAt t)).any (fun p => s.busyOf p != .no)

/-- The reset takes effect. -/
def State.resetNow (s : State) : State :=
  let t := s.f .house HouseR.RESET_STAT_LAST_TARGET
  let s := s.setF .house HouseR.RESET_STAT_STATE 2
  if s.f .house HouseR.RESET_STAT_LAST_OP = 1 then (s.inc .house HouseR.RESET_CNT_PATH_RESETS).pathReset (pathAt t)
  else (s.inc .house HouseR.RESET_CNT_GROUP_RESETS).grpReset (grpAt t)

/-- RESET_CTL with OP 1 or 2 (R460): at once, or when BUSY clears. One already waits or runs: the write was refused (R2). -/
def State.resetAsk (s : State) (op target : Nat) : State :=
  if s.rstState ≠ 0 then s
  else if op = 2 ∧ 8 ≤ target then s.viol .house .access
  else
    let s := ((s.setF .house HouseR.RESET_STAT_LAST_OP op).setF .house HouseR.RESET_STAT_LAST_TARGET target).setF
      .house HouseR.RESET_STAT_STATE 1
    if s.resetHeld then s else s.resetNow

/-- RESET_WAIT_END (R460). -/
def State.resetWaitEnd (s : State) : State := if s.rstState = 1 ∧ !s.resetHeld then s.resetNow else s

/-- PATH_OR_GROUP_RESET_END (R460). -/
def State.resetEnd (s : State) : State :=
  if s.rstState ≠ 2 then s
  else
    let g := s.resetGrp
    let s := s.setF .house HouseR.RESET_STAT_STATE 0
    let s := if s.f .house HouseR.RESET_STAT_LAST_OP = 2 then s.grpFree g else s
    s.resetConflict g

end Sys2Proof.Machine
end

