-- ==== Sys2Proof/Machine/ViewBlock.lean ====
section
/-!
DEFINITION. Machine/ViewBlock.lean: what a read of the page header and of a group, engine or path page returns: the stored word,
overlaid by the fields whose value follows from other state, and by those that the manual gives no value for (a free
value at each read, log 1).
-/
namespace Sys2Proof.Machine

/-- The live fields of a register, and its free fields with a lowest code and a number of codes. -/
structure Live where
  known : List (Fld × Nat) := []
  free : List (Fld × Nat × Nat) := []
  deriving DecidableEq, Repr

/-- Live fields of which none is free. -/
def known (l : List (Fld × Nat)) : Live := { known := l }

/-- A word with fields replaced. -/
def putFlds (w : Word) (l : List (Fld × Nat)) : Word := l.foldl (fun w e => fset w e.1.hi e.1.lo e.2) w

/-- Draw the free fields of a register into a word. -/
def State.drawFlds (s : State) (w : Word) : List (Fld × Nat × Nat) → State × Word
  | [] => (s, w)
  | (x, lo, n) :: t => let d := s.draw; d.2.drawFlds (fset w x.hi x.lo (lo + d.1.toNat % n)) t

/-- A field all of whose codes are possible. -/
def anyCode (x : Fld) : Fld × Nat × Nat := (x, 0, fldTop x + 1)

/-- Milliseconds between now and an elapsed time. -/
def State.msSince (s : State) (t : Nat) : Nat := (s.elapsed - t) / 10 ^ 12

/-- The registers of a page that are locked (R20). -/
def State.pageLocked (s : State) (p : Page) : Bool :=
  s.scene.jobs.any (fun x => x.phase == .staged && x.locks.any (fun a => a / 4096 == pageNum p))

/-- The entries of an open scene that name a page. -/
def State.openNaming (s : State) (n : Nat) (p : Page) : Nat :=
  ((s.sceneEntries n).filter (fun e => e.2.addr / 4096 == pageNum p)).length

/-- Header fields (R28 to R38). -/
def State.liveHdr (s : State) (p : Page) (off : Nat) : List (Fld × Nat) :=
  if off = 0x00C then [(Hdr.PAGE_STAT_IN_HOLD, b2n (s.inHold p)), (Hdr.PAGE_STAT_BUSY, b2n (s.busyOf p != .no))]
  else if off = 0x018 then [(Hdr.EVT_PEND_PEND, (s.evtPend p).toNat)]
  else if off = 0x02C then
    [(Hdr.WING_STAT_ENG_OPEN, (List.range 9).foldl (fun m e => if s.openNaming (1008 + e) p = 0 then m else m + 2 ^ e) 0),
     (Hdr.WING_STAT_HOST_ENTRIES, s.openNaming 1023 p)]
  else if off = 0x038 then [(Hdr.LOCK_SCENE, b2n (s.pageLocked p))]
  else []

/-- PWR_STAT.STATE as it reads: ACTIVE and HOLD differ by IN_HOLD (R356). -/
def State.pwrState (s : State) (g : Grp) : Nat :=
  if s.pw g = pwRun then b2n (s.inHold (gp g)) else s.pw g

/-- PLL, SRAM and bias modes of R357; in a transition they are on their way. -/
def State.biasLive (s : State) (g : Grp) : Live :=
  let m (a b c : Nat) : Live :=
    known [(GroupR.BIAS_STAT_PLL_MODE, a), (GroupR.BIAS_STAT_SRAM_MODE, b), (GroupR.BIAS_STAT_DSP_BIAS, c)]
  let pll := b2n (s.on (gp g) GroupR.PLLA_CFG_EN || s.on (gp g) GroupR.PLLB_CFG_EN)
  if s.pw g = pwRun then m pll 0 1 else if s.pw g = pwInt then m (2 * pll) 1 2 else if s.pw g = pwOff then m 0 2 3
  else { free := [(GroupR.BIAS_STAT_PLL_MODE, 0, 3), (GroupR.BIAS_STAT_SRAM_MODE, 0, 3), (GroupR.BIAS_STAT_DSP_BIAS, 0, 4)] }

/-- A mask with a bit for each path of a list of paths that has a property. -/
def pathBits (f : Path → Bool) (l : List (Nat × Path)) : Nat := l.foldl (fun m x => if f x.2 then m + 2 ^ x.1 else m) 0

/-- The paths of a group with the bit that stands for each (R447). -/
def grpBits (g : Grp) : List (Nat × Path) := (grpPaths g).map (fun p => (pathIdx p, p))

/-- The path CAL_PSEL selects. -/
def State.calSel (s : State) (g : Grp) : Path := (grpPaths g).getD (s.f (gp g) GroupR.CAL_PSEL_PATH) ((grpPaths g).headD 0)

/-- Live fields of a group page. -/
def State.liveGroup (s : State) (g : Grp) (off : Nat) : Live :=
  let p := s.calSel g
  let t := s.trim p
  if off = 0x054 then
    known [(GroupR.REF_STAT_REF_VALID, b2n (s.refOk s.refSel)), (GroupR.REF_STAT_CHANGING, s.f .time TimeR.REF_STAT_CHANGING),
      (GroupR.REF_STAT_REF_SEL, b2n s.refSel)]
  else if off = 0x05C then
    let use (l : List (Nat × Path)) : Nat := pathBits (fun q => vSel s.now q) l
    known [(GroupR.PLL_USE_AB_B, use ((grpBits g).filter (fun x => decide (x.1 < 8)))),
      (GroupR.PLL_USE_BA_B, use (((grpBits g).filter (fun x => decide (8 ≤ x.1))).map (fun x => (x.1 - 8, x.2))))]
  else if off = 0x108 then
    known [(GroupR.PWR_STAT_LEVEL_WAKE, b2n (s.levelWake g)), (GroupR.PWR_STAT_IDLE, b2n (s.grpIdle g)),
      (GroupR.PWR_STAT_PENDING, ((s.grp g).pend.map (·.1)).getD 0), (GroupR.PWR_STAT_STATE, s.pwrState g)]
  else if off = 0x114 then s.biasLive g
  else if off = 0x18C then
    let m := pathBits (fun q => !(s.pend q).isEmpty) (grpBits g)
    known ((GroupR.CAL_STAT_PEND_PATHS, m) ::
      (if s.calState g = 0 ∧ m ≠ 0 then [(GroupR.CAL_STAT_STATE, 3)] else []))
  else if off = 0x190 then known [(GroupR.CAL_TEMP_NOW_T, s.f .therm (ThermR.THERM_T_NOW g.val))]
  else if off = 0x1A4 then known [(GroupR.CAL_DISRUPT_STAT_NEED, pathBits s.calNeed (grpBits g))]
  else if off = 0x1AC then
    known [(GroupR.CAL_PTRIM0_TX_TERM, t.txTerm.toNat), (GroupR.CAL_PTRIM0_RX_TERM, t.rxTerm.toNat),
      (GroupR.CAL_PTRIM0_TX_DAC, t.txDac.toNat), (GroupR.CAL_PTRIM0_TEMP, t.temp.toNat)]
  else if off = 0x1B0 then known [(GroupR.CAL_PTRIM1_CTLE_OFS, t.ctle.toNat)]
  else if off = 0x1B4 then known [(GroupR.CAL_PTRIM2_RX_PI, t.rxPi.toNat)]
  else if off = 0x1B8 then known [(GroupR.CAL_PTRIM3_TX_PI, t.txPi.toNat)]
  else if off = 0x1BC then
    known [(GroupR.CAL_PPEND_BLOCKS, ((s.pend p).map (fun x => 2 ^ x.1)).sum)]
  else if off = 0x28C then
    match engAt (s.owner g) with
    | some e =>
      match (s.engRec e).ckpt with
      | some k =>
        if k.grp = g.val then
          known [(GroupR.CKPT_STAT_AGE, satNat 0xFFFF (usec (s.elapsed - k.at_))), (GroupR.CKPT_STAT_SIZE, k.size)]
        else {}
      | none => {}
    | none => {}
  else {}

/-- Appends to an engine's command queue that are admitted and not yet made (R290). -/
def State.cmdAdmitted (s : State) (e : Eng) : Nat :=
  let a := pageAddr (ep e) 0x08C
  (s.access.filter (fun x => (x.kind == .write32 && x.addr.toNat / 4 * 4 == a) ||
    (x.kind == .write128 && x.addr.toNat / 16 * 16 == a - 12))).length +
  (s.reservedRegs.filter (fun r => r == a)).dedup.length

/-- Live fields of an engine's page. -/
def State.liveStage (s : State) (e : Eng) (off : Nat) : Live :=
  let x := s.engRec e
  if off = 0x044 then known [(StageR.ENG_STAT_GROUP, ((s.engGrp e).map (·.val)).getD 0xF)]
  else if off = 0x050 then { free := [anyCode StageR.ENG_SPEED_OPS_MIN, anyCode StageR.ENG_SPEED_OPS] }
  else if off = 0x058 then
    known [(StageR.WDOG_STAT_AGE, if s.eng e = egRunning then satNat 0xFFFF (usec (s.elapsed - x.hbAt)) else 0)]
  else if off = 0x090 then
    known [(StageR.CMDQ_STAT_FULL, b2n (decide (16 ≤ x.cmdq.length + s.cmdAdmitted e))), (StageR.CMDQ_STAT_COUNT, x.cmdq.length)]
  else if off = 0x0B0 then known [(StageR.RSPQ_STAT_COUNT, x.rspq.length)]
  else {}

/-- PATH.SVC_STAT.STATE (R358). -/
def State.svcState (s : State) (p : Path) : Nat :=
  let g := pathGrp p
  let st := s.pw g
  if st == pwOff || st == pwEnterOff || (st == pwExit && (s.grp g).fromOff) then 5
  else if st == pwInt || st == pwEnterInt || st == pwExit then 4
  else if s.oos p then 2
  else if s.busyOf (pp p) == .rehearsal then 3
  else if s.inHold (pp p) then 1
  else 0

/-- Live fields of a path page. -/
def State.livePath (s : State) (p : Path) (off : Nat) : Live :=
  let sel := s.slice p (s.f (pp p) PathR.SLICE_SEL_SLICE)
  if off = 0x044 then
    { known := [(PathR.RX_TERM_TERM_TRIM, (s.trim p).rxTerm.toNat)], free := [anyCode PathR.RX_TERM_TERM_OK] }
  else if off = 0x0BC then
    known [(PathR.SLICE_TRIM_FAILS, sel.fails), (PathR.SLICE_TRIM_SKEW, sel.skew.toNat), (PathR.SLICE_TRIM_GAIN, sel.gain.toNat),
      (PathR.SLICE_TRIM_OFFSET, sel.ofs.toNat)]
  else if off = 0x148 then { free := [anyCode PathR.EQ_QUAL_EYE_MIN] }
  else if off = 0x184 then known [(PathR.CDR_STAT_LOCK, b2n (s.lock p))]
  else if off = 0x188 then
    if (s.lock p || s.sd p) && !s.cdrHeld p then { free := [anyCode PathR.CDR_PI_UI_COUNT, anyCode PathR.CDR_PI_PHASE] }
    else known [(⟨0x188, 31, 0⟩, (s.path p).piHeld.toNat)]
  else if off = 0x0E4 then
    if s.f (pp p) PathR.CAP_STAT_STATE = 2 then known [(PathR.CAP_STAT_WRITTEN, s.capWritten p)] else {}
  else if off = 0x18C then known [(PathR.ELASTIC_STAT_FILL, s.elasticFill p)]
  else if off = 0x058 then
    known [(PathR.ADAPT_STAT_CAUSE, s.freezeCause p), (PathR.ADAPT_STAT_CDR_HELD, b2n (s.cdrHeld p)),
      (PathR.ADAPT_STAT_LVL_FRZ, b2n (s.frozen p .lvl)), (PathR.ADAPT_STAT_DFE_FRZ, b2n (s.frozen p .dfe)),
      (PathR.ADAPT_STAT_FFE_FRZ, b2n (s.frozen p .ffe)), (PathR.ADAPT_STAT_VGA_FRZ, b2n (s.frozen p .vga)),
      (PathR.ADAPT_STAT_CTLE_FRZ, b2n (s.frozen p .ctle))]
  else if off = 0x1D0 then
    { known := [(PathR.TX_STAT_IDLE_CAUSE, s.idleCause p), (PathR.TX_STAT_ACTIVE, b2n (!s.txIdle p))],
      free := [(PathR.TX_STAT_DAC_PEAK, 0, 64)] }
  else if off = 0x224 then
    known [(PathR.TRN_STAT_METHOD, if s.sg p = sgDisabled then 0 else s.method p),
      (PathR.TRN_STAT_OTHER_TRAINED, b2n (s.trained (otherPath p))),
      (PathR.TRN_STAT_READY_SENT, b2n (s.sg p == sgReady || s.sg p == sgEnding))]
  else if off = 0x230 then
    if s.sendsFrames p then known [(PathR.TRN_TX_CTRL_CTRL, (s.txCtrl p).toNat)] else {}
  else if off = 0x234 then
    if s.sendsFrames p then known [(PathR.TRN_TX_STS_STS, (s.txSts p).toNat)] else {}
  else if off = 0x2C8 then known [(PathR.PIN_STAT_VERIFIED, b2n (s.verified p))]
  else if off = 0x2D4 then known [(PathR.PIN_ADJ_STEP_FS, satNat 0xFFFF (s.stepFs p))]
  else if off = 0x2DC then known [(PathR.PIN_MIN_MIN, vPinMin s.now p)]
  else if off = 0x2E0 then known [(PathR.PIN_MAX_MAX, vPinMax s.now p)]
  else if off = 0x2E4 then known [(PathR.PIN_FIXED_FIXED, s.pinFixed p)]
  else if off = 0x2F4 then
    let z := (s.path p).zeroAt
    let c := (s.path p).pause
    known [(PathR.PIN_MARK_ZERO_AGE, match z with | some t => satNat 0xFFFF (s.msSince t) | none => 0xFFFF),
      (PathR.PIN_MARK_ZERO_OK, b2n (z.isSome && c != 1 && c != 2 && c != 5))]
  else if off = 0x344 then known [(PathR.PROF_STAT_SENDING, s.sending p), (PathR.PROF_STAT_FRM, s.frmNow p),
           (PathR.PROF_STAT_PROFILE, s.profile p)]
  else if off = 0x448 then known [(PathR.PTP_CORR_CORR, enc 32 (s.ptpCorr p))]
  else if off = 0x44C then known [(PathR.PTP_STAT_ACTIVE, b2n (s.ptpActive p))]
  else if off = 0x484 then
    let bound (ins : Bool) (ready : Port → Bool) : Nat :=
      b2n ((List.finRange 4).any (fun k => ready k && (vBound s.now ins k.val).contains p))
    known [(PathR.FP_STAT_MAX_LEN, s.maxLen p), (PathR.FP_STAT_INS_ACTIVE, bound true s.insReady),
      (PathR.FP_STAT_EXT_ACTIVE, bound false s.extReady)]
  else if off = 0x4C4 then
    known [(PathR.SVC_STAT_STATE, s.svcState p),
      (PathR.SVC_STAT_POWERED, b2n (s.pw (pathGrp p) == pwRun && !(s.oos p && s.on (pp p) PathR.SVC_CTL_OOS_PWRDN)))]
  else {}

/-- Live fields of a register of a group, engine or path page, or of a page header. -/
def State.liveBlock (s : State) (p : Page) (off : Nat) : Live :=
  if off < 0x040 then known (s.liveHdr p off)
  else if mirrorReg p off then
    match p with
    | .path q => known [(⟨off, 31, 0⟩, (s.rd (pageAddr (pp (pathAB (laneOf q))) off)).toNat)]
    | _ => {}
  else match p with
    | .group g => s.liveGroup g off
    | .stage e => s.liveStage e off
    | .path q => s.livePath q off
    | _ => {}

/-- What such a register reads as. -/
def State.viewBlock (s : State) (p : Page) (off : Nat) : State × Word :=
  let l := s.liveBlock p off
  s.drawFlds (putFlds (s.rd (pageAddr p off)) l.known) l.free

/-- The offsets of the block registers of a page. -/
def blockOffs (p : Page) : List Nat :=
  ((pageRows p).flatMap (fun r => (List.range r.n).map (fun i => r.fld.off + r.stride * i))).dedup.filter (fun o => decide (0x040 ≤ o))

/-- Save what every block register of a page reads as (R34, R403). -/
def State.savePage (s : State) (p : Page) : State × List (Nat × Word) :=
  (blockOffs p).foldl (fun r off =>
    let v := r.1.viewBlock p off
    (v.1, tabSet regReset r.2 (pageAddr p off) v.2)) (s, [])

end Sys2Proof.Machine
end

