-- ==== Sys2Proof/Machine/Admission.lean ====
section
/-!
DEFINITION. Machine/Admission.lean: the costs of management operations (R15, R25, R502), what the access queue holds (R14, R420)
and the test by which an operation is admitted.
-/
namespace Sys2Proof.Machine

/-- Where a byte address lies (R23, R24). -/
inductive Place where
  | page (p : Page) (off : Nat)
  | imem (e : Eng)
  | dmem (e : Eng)
  | pool
  | frames
  | trace
  | sheet
  | unmapped
  deriving DecidableEq, Repr

/-- The place of a byte address. -/
def placeOf (a : Nat) : Place :=
  match pageOf (a / 4096) with
  | some p => .page p (a % 4096)
  | none =>
    if h : 0x00200000 ≤ a ∧ a < 0x00320000 then
      let e : Eng := ⟨(a - 0x00200000) / 0x20000, by omega⟩
      let o := (a - 0x00200000) % 0x20000
      if o < 0x10000 then .imem e else if o < 0x18000 then .dmem e else .unmapped
    else if 0x00400000 ≤ a ∧ a < 0x00500000 then .pool
    else if 0x00500000 ≤ a ∧ a < 0x00540000 then .frames
    else if 0x00600000 ≤ a ∧ a < 0x00680000 then .trace
    else if 0x00700000 ≤ a ∧ a < 0x00720000 then .sheet
    else .unmapped

/-- The page of the block that owns a window address (R503). -/
def windowPage (a : Nat) : Option Page :=
  match placeOf a with
  | .imem e | .dmem e => some (ep e)
  | .pool | .sheet => some .cue
  | .frames => some .frame
  | .trace => some (gp ⟨(a - 0x00600000) / 0x10000 % 8, by omega⟩)
  | _ => none

/-- Device pages 0x000 to 0x00E. -/
def devicePage : Page → Bool
  | .group _ | .stage _ | .path _ => false
  | _ => true

/-- The cost of one operation by kind and address (R15): a write of CUE_OP or OPEN_OP at the largest cost it can have (R502). -/
def opCost (k : AccKind) (a : Nat) : Nat :=
  let quad := k == .write128 || k == .read128
  let write := k == .write32 || k == .write128
  if k == .launch then 150
  else
    match placeOf a with
    | .page p off =>
      let q := off / 16 * 16
      let op := p == .cue && write && (if quad then q == 0x040 else off / 4 * 4 == 0x044 || off / 4 * 4 == 0x048)
      if op then 150
      else if write && decide (0x800 ≤ off) then 90
      else if devicePage p then (if quad then 90 else 60) else (if quad then 220 else 180)
    | .unmapped => if quad then 90 else 60
    | _ => 120

/-- Whether a write of CUE_OP or OPEN_OP names an operation of cost 150: ARM, STORE or COMMIT (R502). -/
def costlyOp (off : Nat) (w : Word) (opWritten : Bool) : Bool :=
  let op := fget w 31 28
  opWritten && ((off == 0x044 && op == 1) || (off == 0x048 && (op == 1 || op == 2)))

/-- The cost at which a write joins the queue, its data being known (R502). `mask`: bit 3 of a 32-bit write, bits 11 and 7 of the
quad, is the byte of OP. -/
def joinCost (x : Access) : Nat :=
  let a := x.addr.toNat
  match placeOf a with
  | .page .cue off =>
    if x.kind == .write32 && (off / 4 * 4 == 0x044 || off / 4 * 4 == 0x048) then
      if costlyOp (off / 4 * 4) (x.data.setWidth 32) (x.mask.getLsbD 3) then 150 else 60
    else if x.kind == .write128 && off / 16 * 16 == 0x040 then
      if costlyOp 0x044 (quadWord x.data 1) true || costlyOp 0x048 (quadWord x.data 2) true then 150 else 90
    else opCost x.kind a
  | _ => opCost x.kind a

/-- The registers of which a two-wire page buffer holds at least one byte, in rising address order, with their bytes'
mask (bit 3 the first byte) and word (R431, R432). -/
def bufWrites (window base : Nat) (buf : List (Nat × Byte)) : List (Nat × BitVec 4 × Word) :=
  (List.range 16).filterMap (fun r =>
    let bs := (List.range 4).map (fun k => (buf.find? (fun b => b.1 == 4 * r + k)).map (·.2))
    if bs.all Option.isNone then none
    else
      let m := bs.foldl (fun m b => m * 2 + b2n b.isSome) 0
      let w := bs.foldl (fun w b => w * 256 + (b.getD 0).toNat) 0
      some (twtAddr window (base + 4 * r), BitVec.ofNat 4 m, BitVec.ofNat 32 w))

/-- The cost of a page buffer as it stands (R431). -/
def bufCost (window base : Nat) (buf : List (Nat × Byte)) : Nat :=
  ((bufWrites window base buf).map (fun x => opCost .write32 x.1)).sum

/-- Handshakes reserved (R420). -/
def State.reserved (s : State) : Nat :=
  (match s.spi.open_ with
   | some x => x.cost
   | none => 0) + bufCost s.twt.window.toNat s.twt.base s.twt.buf

/-- Q: handshakes admitted and not yet complete (R14, R420). -/
def State.admQ (s : State) : Nat := (s.access.map (·.cost)).sum + s.reserved

/-- BUDGET: floor(RATE × 1.52), or that of the floor while TEST_FLOOR is 1 (R14, R49, R51). -/
def State.budget (s : State) : Nat :=
  (if s.on .house HouseR.ADM_CTL_TEST_FLOOR then 750 else s.f .house HouseR.FAB_SPEED_RATE) * 152 / 100

/-- R14: an operation of cost `c` is admitted beside the Q given. -/
def State.admits (s : State) (q c : Nat) : Bool := decide (q + c ≤ s.budget)

/-- ADM_PEAK takes the highest Q + C of any admitted operation. -/
def State.peak (s : State) (v : Nat) : State :=
  s.setF .house HouseR.ADM_PEAK_PEAK (satNat 0xFFFF (max v (s.f .house HouseR.ADM_PEAK_PEAK)))

end Sys2Proof.Machine
end

