-- ==== Sys2Proof/Machine/Rehearsal.lean ====
section
/-!
DEFINITION. Machine/Rehearsal.lean: rehearsal (R396 to R419): starting and refusing a run, isolation, the tests and their results,
repair, runs cut short, closing, the rehearsal log and the repair fuses.
-/
namespace Sys2Proof.Machine

/-! ### Scopes, units and results -/

/-- The test units of a run: none is the house, or the engine of an engine scope; some g a group (R396). -/
def State.rehUnits (s : State) : List (Option Grp) :=
  if s.rehScope ≤ 1 then none :: allGroups.map some
  else if s.rehScope = 2 then [some (grpAt s.rehTarget)] else [none]

/-- The tests of a scope on a unit. -/
def scopeTests (scope : Nat) (u : Option Grp) : List Nat :=
  match u with
  | some _ => [8, 9, 10, 11, 12, 13, 14, 15]
  | none => if scope = 3 then [3, 5] else [0, 1, 2, 3, 4, 5, 6, 7]

def unitNum (u : Option Grp) : Nat := match u with | some g => g.val | none => 8

/-- The result of a test on a unit in this run: 0 while it has none. -/
def State.rehRes (s : State) (u : Option Grp) (t : Nat) : Nat := tabGet (fun _ => 0) s.reh.done (16 * unitNum u + t)

/-- The test that a unit runs or would run next. -/
def State.rehNext (s : State) (u : Option Grp) : Option Nat :=
  (scopeTests s.rehScope u).find? (fun t => s.rehRes u t == 0)

/-- A test that is skipped: masked in a host-started scope, or without the reference it needs (R396, R399). -/
def State.rehMasked (s : State) (t : Nat) : Bool := s.rehScope != 0 && !(s.rd (pageAddr .reh 0x044)).getLsbD t
def State.rehSkips (s : State) (t : Nat) : Bool :=
  s.rehMasked t || ([7, 8, 11, 15].contains t && !s.refOk s.refSel)

/-- Stated coverage of a test in 0.1%; of a scan test, its stuck-at figure. -/
def statedCov (t : Nat) : Nat := if t = 4 then 965 else if t = 5 then 970 else if t = 14 then 975 else 1000

/-- Order of results, the worst highest (R401). -/
def resRank (r : Nat) : Nat :=
  if r = 3 then 6 else if r = 4 then 5 else if r = 6 then 4 else if r = 5 then 3 else if r = 2 then 2 else if r = 1 then 1 else 0

/-- Record the result of a test on a unit: REH_RESt shows the worst over the groups run. -/
def State.rehRecord (s : State) (u : Option Grp) (t res cov dur n : Nat) (coinc : Bool) : State :=
  let s := s.modReh (fun x => { x with
    done := tabSet (fun _ => 0) x.done (16 * unitNum u + t) res
    elems := tabSet (fun _ => 0) x.elems t (tabGet (fun _ => 0) x.elems t + n) })
  let old := s.f .reh (RehR.REH_RES_RESULT t)
  let s := if resRank res < resRank old then s
    else (s.setF .reh (RehR.REH_RES_RESULT t) res).setF .reh (RehR.REH_RES_COV t)
      (if old = 0 then cov else min cov (s.f .reh (RehR.REH_RES_COV t)))
  let s := s.setF .reh (RehR.REH_RES_DUR t) (max dur (s.f .reh (RehR.REH_RES_DUR t)))
  let s := if coinc then s.setF .reh (RehR.REH_RES_COINC t) 1 else s
  let s := s.setB .reh (RehR.REH_RES_VOID t) (s.f .reh RehR.TESTLAND_DRIVEN != 0)
  match u with
  | some g =>
    let a := pageAddr (gp g) GroupR.GRP_REH_RES.off
    s.wr a (fset (s.rd a) (4 * (t - 8) + 3) (4 * (t - 8)) res)
  | none => s

/-! ### Secrets (R404) -/

/-- A session closes: its place's latched and returned data go with it (R44, R479). -/
def State.sessDrop (s : State) (f : SessSt → Bool) : State :=
  let out := s.security.sessions.filter f
  let s := s.modSec (fun x => { x with sessions := x.sessions.filter (fun e => !f e) })
  out.foldl (fun s e =>
    let c : Src := .um ⟨e.place % 8, Nat.mod_lt _ (by decide)⟩
    { (s.dropLatches c) with readData := s.readData.filter (fun r => r.1 != srcCode c) }) s

/-- The Umatan keys and session keys are cleared, the sessions close (R479), and the key bank is gated. -/
def State.secretsGate (s : State) : State :=
  let s := (s.sessDrop (fun _ => true)).modSec (fun x => { x with loaded := [] })
  (s.rstRange .sec 0x050 0x06C).setF .sec SecR.SEC_STAT_GATED 1

/-- Skip what is skipped, and make ready for the test that is next: the secrets before a scan, and the access queue during the
house scan (R404). -/
def State.rehAdvance (s : State) : State :=
  let skip (u : Option Grp) (s : State) : State := (List.range 8).foldl (fun s _ =>
    match s.rehNext u with
    | some t => if s.rehSkips t then s.rehRecord u t 5 0 0 0 false else s
    | none => s) s
  let s := forAll s.rehUnits skip s
  let next := if s.rehUnits.contains none then s.rehNext none else none
  let s := if next = some 4 ∨ next = some 5 then (if s.on .sec SecR.SEC_STAT_GATED then s else s.secretsGate) else s
  let s := s.modReh (fun x => { x with mute := decide (next = some 4) })
  match next with
  | some t => s.setF .reh RehR.REH_STAT_TEST t
  | none => s

/-! ### Starting a run (R397, R398, R402) -/

/-- The pages a scope covers. -/
def State.rehPages (s : State) : List Page :=
  s.rehGroups.flatMap grpPages ++
  (if s.rehScope ≤ 1 then allEngs.map .stage else if s.rehScope = 3 then (engAt s.rehTarget).toList.map .stage else [])

/-- The first cause of R397 that refuses a run, without the opening entry. -/
def State.rehCause (s : State) (scope target : Nat) (force : Bool) : Option Nat :=
  let two : Bool :=
    if scope = 2 then decide (8 ≤ target) || s.grpDown (grpAt target) || s.busyOf (gp (grpAt target)) != .no
    else if scope = 3 then
      match engAt target with
      | none => true
      | some e => (s.engGrp e).isSome || s.eng e == egRetired || s.eng e == egStarting || s.eng e == egRunning ||
          s.inMigration target
    else decide (8 < target)
  if s.rehState ≠ 0 then some 1
  else if two then some 2
  else if scope ≤ 2 ∧ (s.tw = twPaired ∨ s.tw = twLinkDown) ∧ s.sdState ≠ 2 ∧ !force then some 3
  else none

/-- What a run begins with (R415). -/
def RehSt.begun (x : RehSt) (at_ : Nat) (stamp : BitVec 128) (fallSeq : Nat) : RehSt :=
  { x with
    startAt := at_, stamp := stamp, fallSeq := fallSeq, added := 0, addedG := [], done := [], elems := [], mute := false
    opened := true, toDark := false }

/-- The registers of a run: its scope and target, its results and those of the groups it covers cleared (log 179), its test lands
sensed. What a board drives on TEST0 to TEST3 is outside the module, so it is a free value (R408, log 1). -/
def State.rehHeader (s : State) (scope target : Nat) : State :=
  let d := s.draw
  let s := (d.2.rstRange .reh 0x060 0x09C).setF .reh RehR.TESTLAND_DRIVEN (d.1.toNat % 16)
  let s := ((s.setF .reh RehR.REH_STAT_SCOPE scope).setF .reh RehR.REH_STAT_TARGET target).setF .reh RehR.REH_STAT_LOG_LOST 0
  let s := forAll s.rehGroups (fun g s =>
    forAll (grpPaths g) (fun p s => s.rstRange (pp p) 0x4E0 0x4E8) (s.rstRange (gp g) 0x200 0x208)) s
  s.modReh (fun x => x.begun s.elapsed s.stamp s.fallSeq)

/-- The pages of the run become BUSY and their registers are saved (R402, R403). -/
def State.rehIsolate (s : State) : State :=
  let v := s.rehPages.foldl (fun (r : State × List (Nat × Word)) p =>
    let w := r.1.savePage p
    (w.1, r.2 ++ w.2)) (s, [])
  let s := v.1.modReh (fun x => { x with saved := v.2 })
  let s := forAll s.rehGroups (fun g s =>
    (s.grpBusy g .rehearsal |> forAll (grpPaths g) (fun p s => s.capStopReq p)).settleGrp g) s
  forAll (s.rehPages.filter (fun p => match p with | .stage _ => true | _ => false)) (fun p s => s.setBusy p .rehearsal) s

/-- What the curtain and start-up scopes stop (R398): cues, open scenes, frame ports and engines; groups in INTERMISSION or OFF
come to a running state. A STORE that the discard cuts reads failed, as at a reset (log 152). -/
def State.curtainStops (s : State) : State :=
  let s := s.scene.jobs.foldl (fun s x =>
    if s.tcReached x then s else match x.job with | .cue c => s.endCue c 0 6 | _ => s.commitCut x) s
  let s := if s.scene.storing.any (fun x => x.src == 1023) then s.setF .cue CueR.OPEN_STAT_RESULT 2 else s
  let s := { s with scene := { s.scene with openLen := [], overflow := [], storing := [] } }.locksFreed
  let s := forAll (List.finRange 4) (fun k s => s.portDisable k) s
  let s := forAll allGroups (fun g s => if s.migrating g then s.migFail g else s) s
  forAll allEngs (fun e s => s.engStopNow e) s

/-- A group that is down, or on its way there, is brought to a running state. -/
def State.rehPower (s : State) (g : Grp) : State :=
  if s.pw g = pwRun ∨ s.pw g = pwExit then s
  else (s.setGrp g { s.grp g with target := rqRun, byHost := false, pend := none }).exitBegin g 1

/-- What the admission of a run stops and isolates (R398, R402). -/
def State.rehAdmit (s : State) (scope target : Nat) : State :=
  let s := s.rehHeader scope target
  (if s.rehScope ≤ 1 then forAll allGroups (fun g s => s.rehPower g) s.curtainStops else s).rehIsolate

/-- The tests begin. -/
def State.rehBegin (s : State) : State := (s.setF .reh RehR.REH_STAT_STATE 2).rehAdvance

/-- An opening entry is being written: its check has passed, so the run is admitted (R397, R398, R415). -/
def State.rehOpening (s : State) : Bool :=
  s.rehState == 1 && !s.reh.opened && (match s.flash.run with | some (.logAppend 1 _ _ _, _) => true | _ => false)

/-- The run whose opening entry the controller has begun is admitted, and the entry tells of it; an admitted run begins its tests
once its entry has been written. -/
def State.rehGoOn (s : State) : State :=
  if s.rehOpening then
    let s := s.rehAdmit s.reh.ask.1 s.reh.ask.2
    s.modFlash (fun x => { x with run := x.run.map (fun r => (r.1, s.opBytes r.1)) })
  else if s.rehState == 1 && s.reh.opened && !(match s.flash.run with | some (.logAppend 1 _ _ _, _) => true | _ => false) then s.rehBegin
  else s

/-- CURTAIN, GROUP or ENGINE (R397): refused, or queued with its opening entry (R351, R415). -/
def State.rehStart (s : State) (scope target : Nat) (force : Bool) : State :=
  match s.rehCause scope target force with
  | some c => s.rehRefused c
  | none =>
    let s := (s.setF .reh RehR.REH_STAT_STATE 1).modReh (fun x => { x with ask := (scope, target), opened := false })
    (s.flashQueue (.logAppend 1 0 0 0)).rehGoOn

/-! ### Tests and repair (R399, R400, R407, R409 to R411) -/

/-- The next spare of an SRAM macro: a row (of 4) or a column (of 2). -/
def State.macroUsed (s : State) (kind mac : Nat) : Nat :=
  (s.repairWords.filter (fun w => repKind w == kind && fget w 27 19 == mac)).length

/-- Whether the map retires an engine already. -/
def State.mapEngine (s : State) : Option Nat := (s.repairWords.find? (fun w => repKind w == 4)).map (fun w => fget w 3 0)

/-- The repair word for a failing element (R410): none where no spare is left. -/
def State.repairWord (s : State) (x : RehElem) : Option Word :=
  match x with
  | .slice p k => if (s.mapSlices p).length < 2 then some (sliceWord p k.toNat) else none
  | .row m r =>
    let n := s.macroUsed 2 m.toNat
    if n < 4 then some (BitVec.ofNat 32 (2 ^ 31 + 2 * 2 ^ 28 + m.toNat % 512 * 2 ^ 19 + n * 2 ^ 17 + r.toNat * 2 ^ 7)) else none
  | .column m c =>
    let n := s.macroUsed 3 m.toNat
    if n < 2 then some (BitVec.ofNat 32 (2 ^ 31 + 3 * 2 ^ 28 + m.toNat % 512 * 2 ^ 19 + n * 2 ^ 18 + c.toNat * 2 ^ 10)) else none
  | .engine e =>
    if e.val < 8 ∧ s.mapEngine = none then some (BitVec.ofNat 32 (2 ^ 31 + 4 * 2 ^ 28 + e.val)) else none
  | _ => none

/-- The engine whose memories an SRAM macro belongs to (R400). -/
def macroEng (m : Nat) : Option Eng := if m < 54 then engAt (m / 6) else none

/-- One more entry of the map by the run. -/
def State.rehAdd (s : State) (u : Option Grp) (w : Word) (t : Nat) : State :=
  (s.addRepair w t).modReh (fun x => { x with
    added := x.added + 1
    addedG := match u with
      | some g => tabSet (fun _ => 0) x.addedG g.val (tabGet (fun _ => 0) x.addedG g.val + 1)
      | none => x.addedG })

/-- An engine without a spare: an entry of kind 5, the test fails and REPAIR is set (R409). -/
def State.engineOut (s : State) (u : Option Grp) (e : Eng) (t : Nat) : State :=
  (s.rehAdd u (BitVec.ofNat 32 (2 ^ 31 + 5 * 2 ^ 28 + e.val)) t).raise .reh 17

/-- An engine fails: it is retired and SH8 takes its place, or there is no spare (R409). In the engine scope it is RETIRED at
once. -/
def State.engineFails (s : State) (u : Option Grp) (e : Eng) (t : Nat) : State × Bool :=
  if s.repairFull then ((s.setF .reh RehR.REP_STAT_UNREPAIRED 1).raise .reh 17, false)
  else match s.repairWord (.engine e) with
    | some w =>
      let s := s.rehAdd u w t
      (if s.rehScope = 3 then s.engSet e egRetired else s, true)
    | none => (s.engineOut u e t, false)

/-- Repair of one failing element: the state, and whether it has been replaced by a spare that meets the limit (R409, R411). -/
def State.rehRepair (s : State) (u : Option Grp) (t : Nat) (f : RehFail) : State × Bool :=
  match f.elem with
  | .path _ => (s, false)
  | .other => (s, false)
  | .engine e => s.engineFails u e t
  | x =>
    match s.repairWord x with
    | some w =>
      if s.repairFull then ((s.setF .reh RehR.REP_STAT_UNREPAIRED 1).raise .reh 17, false) else (s.rehAdd u w t, f.fixed)
    | none =>
      match x with
      | .row m _ => (match macroEng m.toNat with
          | some e => s.engineFails u e t
          | none => ((s.setF .reh RehR.REP_STAT_UNREPAIRED 1).raise .reh 17, false))
      | .column m _ => (match macroEng m.toNat with
          | some e => s.engineFails u e t
          | none => ((s.setF .reh RehR.REP_STAT_UNREPAIRED 1).raise .reh 17, false))
      | _ => ((s.setF .reh RehR.REP_STAT_UNREPAIRED 1).raise .reh 17, false)

/-- The path of a failing element. -/
def elemPath : RehElem → Option Path
  | .slice p _ => some p
  | .path p => some p
  | _ => none

/-- The per-path results of tests 9, 10, 11 and 15 (REH_PRES, REH_PLOOP, REH_PPROBE). `l`: the failing elements of the path with
whether each was repaired. -/
def State.rehPathRes (s : State) (t : Nat) (r : RehRes) (l : List (RehFail × Bool)) (p : Path) : State :=
  let mine := l.filter (fun x => elemPath x.1.elem == some p)
  let res := if mine.isEmpty then 1 else if mine.all (·.2) then 2 else 3
  if t = 9 then s.setF (pp p) PathR.REH_PRES_TERM res
  else if t = 10 then
    ((s.setF (pp p) PathR.REH_PRES_ADC res).setF (pp p) PathR.REH_PRES_BAD_SLICES mine.length).setF
      (pp p) PathR.REH_PRES_RETIRED (mine.filter (·.2)).length
  else if t = 11 then
    (s.setF (pp p) PathR.REH_PRES_PROBE res).setF (pp p) PathR.REH_PPROBE_DIFF
      (((r.diffs.find? (fun x => x.1 == p)).map (fun x => x.2.toNat)).getD 0)
  else if t = 15 then
    (s.setF (pp p) PathR.REH_PRES_LOOP res).setF (pp p) PathR.REH_PLOOP_ERR
      (((r.errs.find? (fun x => x.1 == p)).map (fun x => x.2.toNat)).getD 0)
  else s

/-- REH_TEST_END: the test a unit runs ends with its result (R399, R400). A group still on its way to a running state runs none. -/
def State.rehTestEnd (s : State) (u : Option Grp) (t : Nat) (r : RehRes) : State :=
  if !s.rehOn || !s.rehUnits.contains u || s.rehNext u != some t || u.any (fun g => s.pw g != pwRun) then s
  else
    let x := r.fails.foldl (fun (a : State × List (RehFail × Bool)) f =>
      let y := a.1.rehRepair u t f
      (y.1, a.2 ++ [(f, y.2)])) (s, [])
    let l := x.2
    let res := if l.isEmpty then 1 else if l.all (·.2) then 2 else 3
    let s := x.1.rehRecord u t res (statedCov t) r.dur.toNat l.length false
    let s : State := match u with
      | some g =>
        let s := forAll (grpPaths g) (fun p (s : State) => s.rehPathRes t r l p) s
        let bad := (grpPaths g).filter (fun p => l.any (fun y => !y.2 && elemPath y.1.elem == some p))
        bad.foldl (fun (s : State) p => s.setF (gp g) GroupR.GRP_REH_FAIL_PATHS
          ((BitVec.ofNat 32 (s.f (gp g) GroupR.GRP_REH_FAIL_PATHS) ||| (1#32 <<< pathIdx p)).toNat)) s
      | none => s
    s.rehAdvance

/-- Every test of the run has its result. -/
def State.rehAllDone (s : State) : Bool := s.rehUnits.all (fun u => (s.rehNext u).isNone)

/-- R401: the overall result of a list of results. -/
def rehOverall (l : List Nat) : Nat :=
  if l.contains 3 then 3 else if l.any (fun r => r == 4 || r == 5 || r == 6) then 4 else if l.contains 2 then 2 else 1

/-- The results of the run, and of a group's tests. -/
def State.rehResults (s : State) (u : Option Grp) : List Nat := (scopeTests s.rehScope u).map (fun t => s.rehRes u t)

/-! ### Closing (R403, R412, R415, R419) -/

/-- The registers of a page are restored: its RW and SC fields and its counters, as they were saved. -/
def State.rehRestore (s : State) (p : Page) : State :=
  let n := pageNum p
  let keep (off : Nat) : Word := accMask p off (fun a => match a with | .rw => true | .sc _ => true | .cnt => true | _ => false)
  let addrs := ((s.reh.saved.map (·.1) ++ s.regs.map (·.1)).filter (fun a => a / 4096 == n && decide (0x040 ≤ a % 4096))).dedup
  addrs.foldl (fun s a => s.wr a (merge (s.rd a) (tabGet regReset s.reh.saved a) (keep (a % 4096)))) s

/-- The pages of the run are restored and freed; each group's datapath starts afresh, and a ramped calibration run follows. -/
def State.rehReturn (s : State) : State :=
  let gs := s.rehGroups
  let pages := s.rehPages
  let s := forAll gs (fun g s =>
    let s := forAll (grpPages g) (fun p s => s.rehRestore p) (s.grpHw g)
    -- the PLLs start afresh with the restored settings
    (s.setRelock g false (s.on (gp g) GroupR.PLLA_CFG_EN)).setRelock g true (s.on (gp g) GroupR.PLLB_CFG_EN)) s
  let s := forAll pages (fun p s => s.setBusy p .no) s
  let s := s.modReh (fun x => { x with saved := [], mute := false })
  let s := forAll gs (fun g s => (s.grpFree g).calTrigger g 6 true (s.calBlocks g)) s
  forAll gs (fun g s =>
    let s := (s.raise (gp g) 5).raiseIf ((s.rehResults (some g)).contains 3) (gp g) 27
    forAll (grpPaths g) (fun p s =>
      let w := s.rd (pageAddr (pp p) 0x4E0)
      let bad := [fget w 15 12, fget w 11 8, fget w 7 4, fget w 3 0].contains 3
      (s.raise (pp p) 15).raiseIf bad (pp p) 24) s) s

/-- The groups' own registers of the run. -/
def State.rehGrpRegs (s : State) : State :=
  forAll s.rehGroups (fun g s =>
    ((s.setF (gp g) GroupR.GRP_REH_STAT_LAST (rehOverall (s.rehResults (some g)))).setF (gp g) GroupR.GRP_REH_STAT_REPAIRS
      (tabGet (fun _ => 0) s.reh.addedG g.val)).setF (gp g) GroupR.GRP_REH_STAT_DUR_MS
      (satNat 0xFFFF ((s.elapsed - s.reh.startAt) / 10 ^ 12))) s

/-- A run closes: its pages and groups return, its results stand, and its events are set; the map, if it has more entries, and the
result entry are queued (R351, R403, R412, R415, R419). `cause`: what cut it, or 0. -/
def State.rehClose (s : State) (cause : Nat) : State :=
  let overall := rehOverall (s.rehUnits.flatMap s.rehResults)
  let dur := (s.elapsed - s.reh.startAt) / 10 ^ 9
  let s := (s.rehGrpRegs.setF .reh RehR.REH_STAT_LAST overall).rehReturn
  let s := (s.setF .reh RehR.REH_STAT_STATE 3).modReh (fun x => { x with
    opened := cause == 0, toDark := s.rehScope == 1 && cause == 0 })
  let s := s.raise .reh (if overall ≤ 2 then 0 else 16)
  let s := if s.reh.added = 0 then s else s.flashQueue (.repairStore s.repairPayload)
  s.flashQueue (.logAppend 2 overall dur cause)

/-- The test a unit runs is INCOMPLETE, with the part of its coverage done, and those not begun are NOT_REACHED (R407). How far a
test had come, and whether a partial signature chances to equal the factory's, is a free value within its bounds. -/
def State.rehCutUnit (s : State) (u : Option Grp) : State :=
  let run := if u.any (fun g => s.pw g != pwRun) then none else s.rehNext u
  (scopeTests s.rehScope u).foldl (fun s t =>
    if s.rehRes u t ≠ 0 then s
    else if s.rehMasked t then s.rehRecord u t 5 0 0 0 false
    else if run = some t then
      let d := s.draw
      d.2.rehRecord u t 4 (fget d.1 15 0 % (statedCov t + 1)) (fget d.1 31 16) 0
        ([4, 5, 14].contains t && d.1.getLsbD 0)
    else s.rehRecord u t 6 0 0 0 false) s

/-- A run stops short: what it had still to do is INCOMPLETE or NOT_REACHED, and REH_STAT.CAUSE says why (R406, R407). -/
def State.rehStop (s : State) (cause : Nat) : State :=
  (forAll s.rehUnits (fun u s => s.rehCutUnit u) s).setF .reh RehR.REH_STAT_CAUSE cause

/-- A run that tests or is opening. -/
def State.rehRuns (s : State) : Bool := s.reh.opened && (s.rehState == 1 || s.rehState == 2)

/-- A run is cut short with a closing (R406, R407): causes 8, 9, 11 and 13. One whose opening entry still waits is withdrawn with
it. -/
def State.rehCut (s : State) (cause : Nat) : State :=
  if s.rehRuns then (s.rehStop cause).rehClose cause
  else if s.rehState = 1 then
    let isOpen (op : FlashOp) : Bool := match op with | .logAppend _ _ _ _ => true | _ => false
    ((s.modFlash (fun x => { x with queue := x.queue.filter (fun op => !isOpen op) })).setF .reh RehR.REH_STAT_CAUSE cause).rehOver
  else s

/-- A power failure cuts a run without a closing, and nothing more is written of it (R406, cause 12). -/
def State.rehFail (s : State) : State :=
  let s := if s.rehRuns then s.rehStop 12 else s
  if s.rehState = 0 ∨ s.rehState = 4 then s else s.rehOver.modReh (fun x => { x with toDark := false })

/-! ### The fuses (R413) -/

/-- The entries of the next session: unfused ones from entry `k` in order, as many whole words as fit 64 fuses and the bank. -/
def State.fuseSession (s : State) (k : Nat) : List Nat :=
  let ones (w : Word) : Nat := (onesBelow 32 w).length
  let cand := (List.range s.reh.soft.length).filter (fun i => decide (k ≤ i) && ((s.reh.soft[i]?).any (fun e => !e.fused)))
  ((cand.foldl (fun (a : List Nat × Nat × Bool) i =>
    let n := ((s.reh.soft[i]?).map (fun e => ones e.word)).getD 0
    if a.2.2 || decide (64 < a.2.1 + n) || decide (256 ≤ s.reh.fuses.length + a.1.length) then (a.1, a.2.1, true)
    else (a.1 ++ [i], a.2.1 + n, false)) ([], 0, false))).1

/-- A session is queued, or the operation is over. -/
def State.fuseNext (s : State) (k : Nat) : State :=
  let l := s.fuseSession k
  if l.isEmpty then s.setF .reh RehR.REH_STAT_STATE 0
  else (s.modReh (fun x => { x with burning := l, fuseAt := k })).flashQueue .fuseSession

/-- FUSE. -/
def State.rehFuse (s : State) : State :=
  if s.rehState ≠ 0 then s.rehRefused 1
  else if (s.fuseSession 0).isEmpty then s
  else (s.setF .reh RehR.REH_STAT_STATE 4).fuseNext 0

/-- FUSE_SESSION_END: `bad` are the words of the session whose read-back differs. The map is stored and the next session is
checked. -/
def State.fuseSessionEnd (s : State) (bad : List Nat) : State :=
  match s.flash.run with
  | some (.fuseSession, _) =>
    let l := s.reh.burning
    let isBad (i : Nat) : Bool := bad.any (fun b => l[b]? == some i)
    let words := l.map (fun i => if isBad i then (0 : Word) else ((s.reh.soft[i]?).map (·.word)).getD 0)
    let soft := (List.range s.reh.soft.length).zip s.reh.soft |>.map (fun e =>
      if l.contains e.1 && !isBad e.1 then { e.2 with fused := true } else e.2)
    let s := s.modReh (fun x => { x with fuses := x.fuses ++ words, soft := soft, burning := [] })
    let s := if l.any isBad then (s.setF .reh RehR.REP_STAT_UNREPAIRED 1).raise .reh 16 else s
    let s := (s.modFlash (fun x => { x with run := none })).flashQueue (.repairStore s.repairPayload)
    s.fuseNext ((l.foldl max 0) + 1)
  | _ => s

end Sys2Proof.Machine
end

