-- ==== Sys2Proof/Machine/Calib.lean ====
section
/-!
DEFINITION. Machine/Calib.lean: what calibration and the thermal sensors do on their own (R376, R379 to R382).
-/
namespace Sys2Proof.Machine

def State.modCalDev (s : State) (f : CalDevSt → CalDevSt) : State := { s with cal := f s.cal }

/-! ### The band-gap comparison (R376) -/

/-- BANDGAP_COMPARE: `diff` is main minus second reference in 10 ppm. Above 0.30% calibration is suspended; it resumes once the
difference has stayed within 0.20% for 1 s. -/
def State.bgCompare (s : State) (diff : BitVec 16) : State :=
  let m := diff.toInt.natAbs
  let s := (s.setF .cal CalR.BG_MON_DIFF diff.toNat).setF .cal CalR.BG_MON_MAX (max m (s.f .cal CalR.BG_MON_MAX))
  let s := s.modCalDev (fun x => { x with
    bgOkAt := if m ≤ 200 then (match x.bgOkAt with | some t => some t | none => some s.elapsed) else none })
  if m > 300 then (if s.on .cal CalR.CAL_STAT_SUSPENDED then s.raise .cal 17 else s.calSuspend)
  else match s.cal.bgOkAt with
    | some t => if t + 10 ^ 15 ≤ s.elapsed then s.setF .cal CalR.CAL_STAT_SUSPENDED 0 else s
    | none => s

/-! ### Over-temperature (R382) -/

/-- The protective action of an over-temperature: OFF for the sensor's group, or for all eight if it is the centre sensor. A
rehearsal of such a group is cut short (R406). -/
def State.otAction (s : State) (i : Nat) : State :=
  let gs := if i < 8 then [grpAt i] else allGroups
  let s := if s.rehRuns && gs.any (fun g => s.rehGroups.contains g) then s.rehCut 13 else s
  forAll gs (fun g s => s.pwRequest g rqOff 4 false) s

/-- Set or clear the bit of sensor `i` in WARN or OVER. -/
def State.thermBit (s : State) (x : Fld) (i : Nat) (b : Bool) : State :=
  let w := s.rd (pageAddr .therm x.off) &&& ~~~(1#32 <<< (x.lo + i))
  s.wr (pageAddr .therm x.off) (if b then w ||| (1#32 <<< (x.lo + i)) else w)

/-- What a mean does to a sensor's warning and over-temperature (R382). -/
def State.overMean (s : State) (i : Nat) (t : Int) : State :=
  let warn := decide ((8 * s.f .therm ThermR.OT_CFG_WARN_THR : Int) ≤ t)
  let thr : Int := s.f .therm ThermR.OT_CFG_OT_THR
  let hyst : Int := s.f .therm ThermR.OT_CFG_HYST
  let hot := decide (8 * thr ≤ t)
  let n := if hot then tabGet (fun _ => 0) s.cal.hot i + 1 else 0
  let s := s.modCalDev (fun x => { x with hot := tabSet (fun _ => 0) x.hot i (satNat 3 n) })
  let s := (s.thermBit ThermR.THERM_STAT_WARN i warn).raiseIf warn .therm 17
  let s := if hot then s.thermBit ThermR.THERM_STAT_OVER i true
    else if t < 8 * (thr - hyst) then s.thermBit ThermR.THERM_STAT_OVER i false else s
  if n = 2 then (s.raise .therm 16).otAction i else s

/-! ### The sensors (R379 to R381) -/

/-- The temperature trigger of a group (R381). -/
def State.tempTrigger (s : State) (g : Grp) (t : Int) : State :=
  if (t - s.sf (gp g) GroupR.CAL_TEMP_RUN_T).natAbs > 2 * s.f (gp g) GroupR.CAL_DT_DT && s.on (gp g) GroupR.CAL_CTL_TEMP_EN &&
      !s.calOn g && (s.calRec g).pend.isNone then
    (s.raise .therm g.val).calTrigger g 1 false (s.calBlocks g)
  else s

/-- The twin link's trims are measured anew once the centre sensor has moved more than 4.0 °C (R379): receivers 0 to 3 and
transmitters 4 to 7, each with TERM and, for a receiver, CTLE_OFS. -/
def State.twinTrims (s : State) (reading : BitVec 12) (l : List (BitVec 3 × Byte × BitVec 16)) : State :=
  if (reading.toInt - s.cal.centre.toInt).natAbs ≤ 32 ∨ s.on .cal CalR.CAL_STAT_SUSPENDED then s
  else
    let c := l.foldl (fun (c : CalDevSt) e => { c with
      twinTerm := tabSet (fun _ => (16 : Byte)) c.twinTerm e.1.toNat e.2.1
      twinOfs := if e.1.toNat < 4 then tabSet (fun _ => (0 : BitVec 16)) c.twinOfs e.1.toNat e.2.2 else c.twinOfs }) s.cal
    let s' := s.modCalDev (fun _ => { c with centre := reading })
    if c.twinTerm = s.cal.twinTerm ∧ c.twinOfs = s.cal.twinOfs then s' else s'.calDirty

/-- SENSOR_MEAN: sensor `i` publishes its 1 ms mean (R380). -/
def State.sensorMean (s : State) (i : Fin 9) (reading : BitVec 12) (twl : List (BitVec 3 × Byte × BitVec 16)) : State :=
  let x := ThermR.THERM_T_MAX i.val
  let s := s.setF .therm (ThermR.THERM_T_NOW i.val) reading.toNat
  let s := if s.sf .therm x < reading.toInt then s.setF .therm x reading.toNat else s
  let s := s.overMean i.val reading.toInt
  if i.val < 8 then s.tempTrigger (grpAt i.val) reading.toInt else s.twinTrims reading twl

/-- THERM_CTL.MAX_CLR. -/
def State.maxClr (s : State) : State :=
  (List.range 9).foldl (fun s i => s.setF .therm (ThermR.THERM_T_MAX i) (s.f .therm (ThermR.THERM_T_NOW i))) s

end Sys2Proof.Machine
end

