-- ==== Sys2Proof/Machine/Controller.lean ====
section
/-!
DEFINITION. Machine/Controller.lean: the two-wire controller (R438 to R444). A transaction is one command from GO to its end, so
the bytes it reads arrive in TWC_RBUF with that end; STATE is stored 3 from GO to the end, and reads 2 or 3.
-/
namespace Sys2Proof.Machine

def State.modTwc (s : State) (f : TwcSt → TwcSt) : State := { s with twc := f s.twc }

/-- The controller runs a transaction. -/
def State.twcOn (s : State) : Bool := s.f .twc TwcR.TWC_STAT_STATE == 3

/-- A result of R443: RESULT, its event and its counter. -/
def State.twcResult (s : State) (res : Nat) : State :=
  let s := s.setF .twc TwcR.TWC_STAT_RESULT res
  let s := if res = 1 then s.inc .twc TwcR.TWC_CNT_DONE else if res = 5 then s.inc .twc TwcR.TWC_CNT_STUCK else s
  match res with
  | 1 => s.raise .twc 0
  | 2 => s.raise .twc 16
  | 3 => s.raise .twc 16
  | 4 => s.raise .twc 17
  | 5 => s.raise .twc 18
  | 6 => s.raise .twc 19
  | _ => s

/-- The running transaction ends with a result, after `starts` STARTs. -/
def State.twcEnd (s : State) (res starts : Nat) : State :=
  let s := (s.setF .twc TwcR.TWC_STAT_STATE (if s.twc.check then 1 else 0)).setF .twc TwcR.TWC_STAT_ATTEMPTS (satNat 15 starts)
  (s.modTwc (fun x => { x with wbuf := [], rlen := 0, retries := 0, abort := false })).twcResult res

/-- The bytes a transaction has read go into TWC_RBUF. -/
def State.twcRead (s : State) (l : List Byte) : State :=
  let l := l.take (min s.twc.rlen 32)
  let put (k : Nat) (b : Byte) (s : State) : State :=
    s.setF .twc ⟨0x070 + 4 * (k / 4), 31 - 8 * (k % 4), 24 - 8 * (k % 4)⟩ b.toNat
  (forAll l.zipIdx (fun e s => put e.2 e.1 s) s).setF .twc TwcR.TWC_STAT_RD_DONE l.length

/-- BUS_STUCK: SDA is still low after a recovery (R442). -/
def State.twcStuck (s : State) : State := s.twcResult 5

/-- The registers of a transaction or recovery at its start. -/
def State.twcClear (s : State) : State :=
  s.wr (pageAddr .twc 0x048) (fset (s.rd (pageAddr .twc 0x048)) 27 2 0)

/-- GO (R438), the registers of TWC_CMD being written. After a BUS_STUCK whether SDA has stayed low is a level of the bus, so it
is a free value (log 1). -/
def State.twcGo (s : State) : State :=
  let wlen := s.f .twc TwcR.TWC_CMD_WLEN
  let rlen := s.f .twc TwcR.TWC_CMD_RLEN
  if !s.on .twc TwcR.TWC_CFG_EN || s.twcOn || decide (wlen > 32) || decide (rlen > 32) then s.viol .twc .consistency
  else
    let r := if s.twc.stuck then s.draw else (0, s)
    let s := r.2.twcClear
    if wbit r.1 0 then s.twcStuck
    else
      let wbuf := (List.range wlen).map (fun k => BitVec.ofNat 8 (s.f .twc ⟨0x050 + 4 * (k / 4), 31 - 8 * (k % 4), 24 - 8 * (k % 4)⟩))
      let s := s.modTwc (fun x => { x with wbuf := wbuf, rlen := rlen, retries := 0, abort := false, stuck := false })
      s.setF .twc TwcR.TWC_STAT_STATE 3

/-- ABORT (R438): the running transaction ends after the bit in progress, which TWC_TRANSACTION_END brings. -/
def State.twcAbort (s : State) : State := if s.twcOn then s.modTwc (fun x => { x with abort := true }) else s

/-- How a transaction ends on the bus (R443). -/
def State.twcFinish (s : State) (res index : Nat) (read : List Byte) : State :=
  if !s.twcOn then s
  else
    let s := s.twcRead read
    let starts := s.twc.retries + 1
    if s.twc.abort then s.twcEnd 7 starts
    else if res = 3 then (s.setF .twc TwcR.TWC_STAT_NACK_INDEX index).twcEnd 3 starts
    else s.twcEnd res starts

/-- A house reset cuts the transaction (R444): how far it had come, and the bytes read so far, are free values (log 1). -/
def State.twcCut (s : State) : State :=
  let n := s.draw
  let a := n.2.draw
  let bytes : State × List Byte := (List.range (n.1.toNat % (s.twc.rlen + 1))).foldl (fun r _ =>
    let d := r.1.draw
    (d.2, r.2 ++ [d.1.setWidth 8])) (a.2, [])
  (bytes.1.twcRead bytes.2).twcEnd 7 (s.twc.retries + a.1.toNat % 2)

/-- ARBITRATION_LOST (R440): a retry, or the end. -/
def State.twcArb (s : State) : State :=
  if !s.twcOn then s
  else
    let s := s.inc .twc TwcR.TWC_CNT_ARB
    if s.twc.abort then s.twcEnd 7 (s.twc.retries + 1)
    else if s.twc.retries < s.f .twc TwcR.TWC_CFG_RETRIES then s.modTwc (fun x => { x with retries := x.retries + 1 })
    else s.twcEnd 4 (s.twc.retries + 1)

/-- TWC_TIMEOUT (R441, R442): `sda` tells the line, `started` whether a START of the present attempt had been made. After a
BUS_STUCK the SDA timeout fires once more. -/
def State.twcTimeout (s : State) (sda started : Bool) : State :=
  let bit := if sda then TwcR.TWC_STAT_SDA_TMO else TwcR.TWC_STAT_SCL_TMO
  if s.twcOn then ((s.setB .twc bit true).modTwc (fun x => { x with check := false })).twcEnd 6 (s.twc.retries + b2n started)
  else if s.twc.check then
    (((s.setB .twc bit true).modTwc (fun x => { x with check := false })).setF .twc TwcR.TWC_STAT_STATE 0).twcResult 6
  else if s.twc.stuck && sda && !s.on .twc bit then (s.setB .twc bit true).raise .twc 19
  else s

/-- A write of TWC_CFG has changed EN from `old` (R442): the check of the bus begins, or the controller is disabled, which lets a
running transaction end. -/
def State.twcEn (s : State) (old : Bool) : State :=
  let v := s.on .twc TwcR.TWC_CFG_EN
  if v && !old then
    let s := (s.modTwc (fun x => { x with check := true, stuck := false }))
    if s.twcOn then s else s.twcClear.setF .twc TwcR.TWC_STAT_STATE 1
  else s

/-- BUS_RECOVERY: the check of the bus ends (R442). `freed`: SDA was high, or became high within nine pulses. A GO made
meanwhile goes on after a free bus, and ends BUS_STUCK with the recovery otherwise. -/
def State.twcRecovery (s : State) (freed : Bool) : State :=
  if !s.twc.check then s
  else
    let s := s.modTwc (fun x => { x with check := false })
    let s := if s.twcOn then s else s.setF .twc TwcR.TWC_STAT_STATE 0
    if freed then s
    else
      let s := s.modTwc (fun x => { x with stuck := true })
      if s.twcOn then s.twcEnd 5 s.twc.retries else s.twcStuck

end Sys2Proof.Machine
end

