-- ==== Sys2Proof/Machine/Inject.lean ====
section
/-!
DEFINITION. Machine/Inject.lean: injection (R454 to R457) and the software event.
-/
namespace Sys2Proof.Machine

/-- The EVT_RAW bits of a page that have a detector, as the chapters name them. -/
def detectors : Page → List Nat
  | .house => [0, 1, 2, 16, 17]
  | .supply => [0, 16, 17, 18]
  | .pstate => [0, 1]
  | .nvm => [0, 16]
  | .cal => [0, 16, 17, 18]
  | .reh => [0, 16, 17]
  | .therm => [0, 1, 2, 3, 4, 5, 6, 7, 16, 17]
  | .time => [0, 1, 2, 3, 4, 5, 16, 17, 18]
  | .cue => [0, 1, 16]
  | .twin => [0, 1, 2, 3, 4, 5, 16, 17, 18, 19, 20, 21]
  | .frame => List.range 16
  | .twt => [16, 17, 18]
  | .twc => [0, 16, 17, 18, 19]
  | .spi => [16, 17]
  | .sec => [16, 17, 18, 19, 20]
  | .group _ => [0, 1, 2, 3, 4, 5, 8, 16, 17, 24, 25, 26, 27]
  | .stage _ => [0, 1, 2, 3, 16, 17, 18]
  | .path _ => [0, 1, 2, 3, 4, 5, 6, 7, 8, 9, 10, 11, 12, 13, 15, 16, 17, 18, 19, 20, 21, 22, 23, 24]

/-- A guarded injection takes its action: ARM clears and GUARDED counts (R455). -/
def State.guardedTaken (s : State) : State :=
  (s.setF .house HouseR.INJ_CTL_ARM 0).inc .house HouseR.INJ_CNT_GUARDED

/-- The protective action of an armed A_LOSS (R455, R509): VINA is treated as lost if VINB is good, and its qualification starts
again. -/
def State.injA (s : State) : State :=
  if s.good true then
    let was := s.good false
    let s := s.guardedTaken.inputGone false
    if was then s.setF .supply SupplyR.SUP_STAT_RET_WAIT 1 else s
  else s

/-- The protective action of an armed B_LOSS. -/
def State.injB (s : State) : State :=
  if s.sel == 1 && s.good false then s.guardedTaken.inputGone true else s

/-- The protective action of an armed HUP_LOW: E_AVAIL is taken as 0 until the next capacitance test. -/
def State.injHup (s : State) : State :=
  (s.guardedTaken.modSupply (fun x => { x with hupZero := true })).setF .supply SupplyR.HUP_ENERGY_E_AVAIL 0

/-- The protective action of an armed OVERTEMP, for the sensor of INJ_CTL. -/
def State.injOt (s : State) : State :=
  let i := s.f .house HouseR.INJ_CTL_SENSOR
  (s.guardedTaken.thermBit ThermR.THERM_STAT_OVER i true).otAction i

/-- The guarded action of a detector, if it has one and is armed (R455). -/
def State.injGuarded (s : State) (p : Page) (bit : Nat) : State :=
  if !s.on .house HouseR.INJ_CTL_ARM then s
  else match p, bit with
    | .supply, 16 => s.injA
    | .supply, 17 => s.injB
    | .supply, 18 => s.injHup
    | .therm, 16 => s.injOt
    | _, _ => s

/-- One bit with a detector written to EVT_INJ (R454). -/
def State.injBit (s : State) (p : Page) (bit : Nat) : State :=
  ((s.inc .house HouseR.INJ_CNT_INJECTIONS).raise p bit).injGuarded p bit

/-- A write to EVT_INJ (R454): nothing happens in a page that is BUSY for rehearsal. Bits without a detector count one ACCESS
violation a write, as RSV bits do (R5, log 48). -/
def State.evtInject (s : State) (p : Page) (w : Word) : State :=
  if s.busyOf p == .rehearsal then s
  else
    let has (b : Nat) : Bool := (detectors p).contains b
    (forAll ((onesBelow 32 w).filter has) (fun b s => s.injBit p b) s).violIf ((onesBelow 32 w).any (fun b => !has b)) p .access

/-- A write to VIOL_INJ (R456): bits 0 ACCESS, 1 TIMING, 2 PROTOCOL, 3 CONSISTENCY. -/
def State.violInject (s : State) (p : Page) (w : Word) : State :=
  let one (b : Nat) (k : Viol) (s : State) : State := if w.getLsbD b then s.violI p k true else s
  one 3 .consistency (one 2 .protocol (one 1 .timing (one 0 .access s)))

/-- A write to `row` of the macro that ECC_INJ names, from any source (R457). -/
def State.eccInject (s : State) (row : BitVec 10) : State :=
  if s.on .house HouseR.ECC_INJ_ARM then s.sramWrite (1024 * s.f .house HouseR.ECC_INJ_MACRO + row.toNat) else s

/-- SOFT_EVT.SET (R447). -/
def State.softEvent (s : State) : State := s.raise .house 2

end Sys2Proof.Machine
end

