-- ==== Sys2Proof/Machine/Security.lean ====
section
/-!
DEFINITION. Machine/Security.lean: Phizo images and their loads (R286, R472 to R474), the key bank and its operations (R475, R476),
and the sessions (R478, R479).
-/
namespace Sys2Proof.Machine

/-- The key bank is gated (R404). -/
def State.gated (s : State) : Bool := s.on .sec SecR.SEC_STAT_GATED

/-! ### Images (R472, R473) -/

/-- The fields of the image header in a slot: slots 0 and 1 are the flash regions 0 and 1. -/
def imgAt (slot : Nat) : Nat := regionBase (slot % 2)
def State.imgImem (s : State) (slot : Nat) : Nat := s.flashNum (imgAt slot + 0x10) 4
def State.imgDmem (s : State) (slot : Nat) : Nat := s.flashNum (imgAt slot + 0x14) 4
def State.imgKey (s : State) (slot : Nat) : Nat := s.flashNum (imgAt slot + 0x18) 4

/-- The form of an image header is in range (code 2). -/
def State.imgForm (s : State) (slot : Nat) : Bool :=
  s.flashNum (imgAt slot) 4 == 0x50485A31 && s.imgImem slot % 16 == 0 && s.imgDmem slot % 16 == 0 &&
  decide (s.imgImem slot ≤ 65536) && decide (s.imgDmem slot ≤ 32768) && decide (s.imgKey slot ≤ 3) &&
  decide (0x200 + s.imgImem slot + s.imgDmem slot ≤ regionSize 0)

/-- An image key is present and not revoked. -/
def State.imgKeyOk (s : State) (k : Nat) : Bool := Config.imgKeyPresent k && !s.security.imgRev.getLsbD k

/-- The checks of R473, in order: the code of the first that fails, or 1. -/
def State.imgCheck (s : State) (slot : Nat) : Nat :=
  let a := imgAt slot
  let pub := s.flashBytes (a + 0x50) 96
  if s.gated then 8
  else if !s.imgForm slot then 2
  else if !s.imgKeyOk (s.imgKey slot) then 3
  else if Config.sha384 pub ≠ Config.imgKeyHash (s.imgKey slot) then 4
  else if !Config.ecdsaP384 pub (s.flashBytes a 0xB0) (s.flashBytes (a + 0xB0) 96) then 5
  else if beBytes 48 (Config.sha384 (s.flashBytes (a + 0x200) (s.imgImem slot + s.imgDmem slot))).toNat ≠ s.flashBytes (a + 0x20) 48 then 6
  else if s.flashNum (a + 0x0C) 4 < s.security.svn then 7
  else 1

/-- Authenticate the image in a slot: the result goes to IMG_STAT, and a failure raises IMG_AUTH (R473). The header is not read
while the gate is closed. -/
def State.imgTry (s : State) (slot : Nat) : State × Nat :=
  let r := s.imgCheck slot
  let s1 := s.setF .sec (if slot % 2 = 1 then SecR.IMG_STAT_SLOT1_RES else SecR.IMG_STAT_SLOT0_RES) r
  let s1 := if r = 8 then s1
    else (s1.setF .sec SecR.IMG_STAT_KEY_ID (s.imgKey slot)).setF .sec SecR.IMG_STAT_IMAGE (s.flashNum (imgAt slot + 4) 2)
  (s1.raiseIf (r != 1) .sec 19, r)

/-- First window address of an engine's instruction memory, and of its data memory. -/
def engImem (e : Eng) : Nat := 0x00200000 + 0x20000 * e.val
def engDmem (e : Eng) : Nat := engImem e + 0x10000

/-- An authenticated image is written into an engine's memories; IMG_ID and IMG_FMT come from its header (R472). -/
def State.imgInstall (s : State) (e : Eng) (slot : Nat) : State :=
  let a := imgAt slot
  let i := s.imgImem slot
  let s' := (s.msetRaw (engImem e) (s.flashBytes (a + 0x200) i)).msetRaw (engDmem e) (s.flashBytes (a + 0x200 + i) (s.imgDmem slot))
  let s' := s'.wr (pageAddr (ep e) 0x048) (BitVec.ofNat 32 (s.flashNum (a + 4) 4))
  ((s'.setF (ep e) StageR.IMG_FMT_STATE_FMT (s.flashNum (a + 0x0A) 1)).setF (ep e) StageR.IMG_FMT_ACCEPT_MIN
    (s.flashNum (a + 0x0B) 1)).setF (ep e) StageR.IMG_FMT_SLOT (slot % 2)

/-- LOAD_DONE (R286): the load that runs has copied and judged the image. An engine that has left LOADING, by OOS, stays as it
is. -/
def State.loadDone (s : State) (e : Eng) : State :=
  match s.flash.run with
  | some (.load f slot, _) =>
    if f ≠ e then s
    else
      let r := s.imgTry slot
      let s := r.1.modEng e (fun x => { x with loading := false })
      let s :=
        if s.eng e ≠ egLoading then s
        else if r.2 = 1 then ((s.imgInstall e slot).engSet e egLoaded).raise (ep e) 3
        else ((((s.engSet e egOff).setF (ep e) StageR.ENG_STAT_FAULT_CAUSE 3).rstReg (ep e) 0x048).rstReg (ep e) 0x04C).raise (ep e) 18
      (s.modFlash (fun x => { x with run := none })).flashServe
  | _ => s

/-! ### The key bank (R475, R476) -/

/-- State of a Umatan key slot: 0 blank, 1 usable, 2 revoked, 3 spent. -/
def umState (k : UmSlotSt) : Nat := if k.revoked then 2 else if k.valid then 1 else if k.burned then 3 else 0
def State.umSlot (s : State) (n : Nat) : UmSlotSt := if n = 0 then s.security.um0 else s.security.um1
def State.setUm (s : State) (n : Nat) (v : UmSlotSt) : State :=
  s.modSec (fun x => if n = 0 then { x with um0 := v } else { x with um1 := v })

/-- The staged key. -/
def State.umKey (s : State) : List Byte := (List.range 8).flatMap (fun i => wordBytes (s.rd (pageAddr .sec (0x050 + 4 * i))))

/-- The ones of a list of bytes: the fuses a key takes. -/
def keyOnes (l : List Byte) : Nat := l.foldl (fun n b => n + ((List.range 8).filter (fun i => b.getLsbD i)).length) 0

/-- The condition of an operation (R476). -/
def State.keyOpOk (s : State) (op value slot : Nat) : Bool :=
  if op = 1 then decide (slot ≤ 1) && umState (s.umSlot slot) == 0
  else if op = 2 then decide (slot ≤ 1)
  else if op = 3 then !(s.imgKeyOk slot && !(List.range 4).any (fun k => k != slot && s.imgKeyOk k))
  else decide (s.security.svn < value) && decide (value ≤ 64)

/-- SEC_CTL performs `op` (R476). A refused one ends with RESULT 4 (R481), so the staged key is cleared (DEDUCED, log 141). -/
def State.keyOp (s : State) (op value slot : Nat) : State :=
  if s.gated || s.security.op.isSome || s.rehState == 4 || !s.keyOpOk op value slot then
    (((s.setF .sec SecR.SEC_OPSTAT_RESULT 4).viol .sec .consistency).raise .sec 20).rstRange .sec 0x050 0x06C
  else
    let s := s.modSec (fun x => { x with op := some (op, value, slot, s.umKey) })
    (((s.setF .sec SecR.SEC_OPSTAT_STATE 1).setF .sec SecR.SEC_OPSTAT_RESULT 0).setF .sec SecR.SEC_OPSTAT_SESSIONS 0).flashQueue .keyOp

/-! ### Sessions (R478, R479) -/

/-- SESSION_TIMEOUT of the session in a place (R479). -/
def State.sessTimeout (s : State) (place : Fin 8) : State := s.sessDrop (fun e => e.place == place.val)

/-! ### The end of a key operation -/

/-- The sessions of at most 64 fuses that an operation takes: for BURN_UM those of the key, and one for VALID. -/
def keySessions (op : Nat) (key : List Byte) : Nat := if op = 1 then (keyOnes key + 63) / 64 + 1 else 1

/-- The energy checks of the sessions after the first: how many sessions were run. -/
def State.keyChecks : Nat → Nat → State → State × Nat × Bool
  | 0, done, s => (s, done, true)
  | n + 1, done, s =>
    let r := s.energyCheck 3 105
    if r.2 then State.keyChecks n (done + 1) r.1 else (r.1, done, false)

/-- The fuses of an operation have been burned. -/
def State.keyBurn (s : State) (op value slot : Nat) (key : List Byte) : State :=
  if op = 1 then s.setUm slot { s.umSlot slot with key := key, burned := true, valid := true }
  else if op = 2 then
    ((s.setUm slot { s.umSlot slot with revoked := true }).sessDrop (fun e => e.slot == slot)).modSec (fun x =>
      { x with loaded := x.loaded.filter (fun e => e.1 != slot) })
  else if op = 3 then s.modSec (fun x => { x with imgRev := x.imgRev ||| BitVec.ofNat 4 (2 ^ slot) })
  else s.modSec (fun x => { x with svn := max x.svn value })

/-- A read-back that differs: of the thermometer, how far it has come is a free value (log 178). -/
def State.keyPart (s : State) (op value : Nat) : State :=
  if op = 4 then
    let d := s.draw
    d.2.modSec (fun x => { x with svn := x.svn + d.1.toNat % (max 1 (value - x.svn)) })
  else s

/-- KEY_OP_END (R476); `ok`: the read-back agreed. The VALID session of a burn comes after the read-back. -/
def State.keyOpEnd (s : State) (ok : Bool) : State :=
  match s.flash.run, s.security.op with
  | some (.keyOp, _), some (op, value, slot, key) =>
    let n := keySessions op key
    let r := State.keyChecks ((if ok then n else max 1 (if op = 1 then n - 1 else n)) - 1) 1 s
    let s := r.1.setF .sec SecR.SEC_OPSTAT_SESSIONS r.2.1
    let s := if !r.2.2 then s.keyEnd 2 else if ok then (s.keyBurn op value slot key).keyEnd 1
      else (s.keyPart op value).keyEnd 3
    (s.modFlash (fun x => { x with run := none })).flashServe
  | _, _ => s

end Sys2Proof.Machine
end

