-- ==== Sys2Proof/Machine/Start.lean ====
section
/-!
DEFINITION. Machine/Start.lean: the start-up sequence (R465 to R474) and the full resets that lead to it (R70, R459, R467, R468).
-/
namespace Sys2Proof.Machine

/-! ### Full reset (R459) -/

/-- PTP_CFG and PTP_ASYM of a path page. -/
def ptpKept (a : Nat) : Bool :=
  match pageOf (a / 4096) with
  | some (.path _) => a % 4096 == 0x440 || a % 4096 == 0x444
  | _ => false

/-- The bits of a register that a full reset keeps: the live measurements of the power die, and the keep-alive domain (the latched
straps, REQ_FULL, DARK_EXITS and ONTIME). A start-up reset also keeps what the start under way has decided (R468), and an
exit from DARK the TIME page (R372) and the settings of the transparent clock (R224, log 161). -/
def resetKeeps (cause a : Nat) : Word :=
  if a = pageAddr .supply 0x048 ∨ a = pageAddr .supply 0x04C ∨ a = pageAddr .supply 0x050 ∨ a = pageAddr .supply 0x058 then 0xFFFFFFFF
  else if a = pageAddr .house 0x050 then 0xFFFFFFFF
  else if a = pageAddr .house 0x114 then 2
  else if a = pageAddr .pstate 0x044 then (if cause = 6 then 0xFFFF0001 else 0xFFFF0000)
  else if a = pageAddr .reh 0x050 then 0xFFFFFFFF
  else if cause = 6 ∧ a = pageAddr .reh 0x054 then 0xFFFFFFFF
  else if cause = 6 ∧ a = pageAddr .house 0x110 then 0xC0000000
  else if cause = 5 ∧ (a / 4096 = pageNum .time ∨ ptpKept a) then 0xFFFFFFFF
  else 0

/-- The registers after a full reset. -/
def keptRegs (cause : Nat) (l : List (Nat × Word)) : List (Nat × Word) :=
  l.filterMap (fun e =>
    let v := merge (regReset e.1) e.2 (resetKeeps cause e.1)
    if v = regReset e.1 then none else some (e.1, v))

/-- A full reset: everything is as at first power-up, except the keep-alive domain, the flash and what is burned (R459). An input
that is not good has not been seen since it (SUP_STAT). A key burn cut by it leaves its slot burned or not, as far as it had come (a
free value, log 1). -/
def State.fullResetWith (s : State) (cause : Nat) : State :=
  let s := s.flashCut
  let d := s.draw
  let um := match s.security.op with
    | some (1, _, slot, _) => (d.2.setUm slot { s.umSlot slot with burned := d.1.getLsbD 0 || (s.umSlot slot).burned }).security
    | _ => s.security
  let seen := 32 * fget (s.rd (pageAddr .supply 0x048)) 4 3
  State.setF {
    regs := tabSet regReset (keptRegs cause s.regs) (pageAddr .supply 0x048)
      (merge (s.rd (pageAddr .supply 0x048)) (BitVec.ofNat 32 seen) 0x60)
    elapsed := s.elapsed
    free := d.2.free
    flash := { bytes := s.flash.bytes, cut := s.flash.cut }
    supply := { cause := s.supply.cause }
    reh := { fuses := s.reh.fuses }
    security := { um0 := um.um0, um1 := um.um1, imgRev := um.imgRev, svn := um.svn, nonces := um.nonces }
    time := if cause = 5 then s.time else {}
    land := { s.land with pps := false, scan := false }
    startAt := s.elapsed
    pending := s.pending } .house HouseR.RESET_CAUSE_FULL_CAUSE cause

/-- FULL_RESET (R70): PORST_N, a VIO input (R65), while the module is in FULL or starting; from power-off, once an input is good,
the reset that the power-up or the end of a power failure brings (R337, R344), with the keep-alive domain lost. DARK does not watch
PORST_N, and a declared power failure is never abandoned. -/
def State.fullReset (s : State) : State :=
  match s.device with
  | .off =>
    if s.good false || s.good true then
      let c := s.supply.cause
      let s := ((s.rstReg .pstate 0x044).rstReg .reh 0x050).rstReg .house 0x114
      let s := { (s.fullResetWith c) with supply := {} }
      (s.setF .supply SupplyR.RAIL_STAT_IN_WIN 0x3F).setF .supply SupplyR.SUP_STAT_SEL (b2n (!s.good false))
    else s
  | .dark | .failing => s
  | _ => if s.land.vio then s.fullResetWith 2 else s

/-! ### Steps 1 to 3 (R467) -/

/-- The level of a strap that three samples latch (R73): lands BOOTSEL, TWIN_ID, ADDR1 and ADDR0 in bits 3 to 0. -/
def strapMajority (a b c : BitVec 4) : BitVec 4 := (a &&& b) ||| (a &&& c) ||| (b &&& c)

/-- ONTIME at a power-up: that of the newest valid log entry, or 0 (R416). -/
def State.ontimeRestore (s : State) : State :=
  s.setF .reh RehR.ONTIME_MIN ((s.logNewest.map (fun a => s.logNum a 0x24 4)).getD 0)

/-- An engine out of the repair map: KIND 4 has SH8 in its place, KIND 5 has nobody (R409 to R411). -/
def State.repairEngine (s : State) (w : Word) : State :=
  match engAt (fget w 3 0) with
  | none => s
  | some e =>
    if repKind w = 4 then
      let s := s.engSet e egRetired
      match s.engGrp e with
      | some g => (s.bind g 8).setF (gp g) GroupR.ENG_BIND_TARGET 8
      | none => s
    else if repKind w = 5 then
      let s := s.setF (ep e) Hdr.PAGE_CTL_OOS 1
      match s.engGrp e with
      | some g => (s.bind g 0xF).setF (gp g) GroupR.ENG_BIND_TARGET 0xF
      | none => s
    else s

/-- Step 2: the repair map is read, and repairs are applied (R411). -/
def State.startRepair (s : State) : State :=
  let s := s.validateRecords
  let pl := if s.activeSlot 5 = 0 then [] else s.recPayload (slotBase 5 (s.activeSlot 5))
  let soft := (List.range (satNat 500 (fbe pl 0 4))).map (fun j =>
    ({ word := BitVec.ofNat 32 (fbe pl (8 + 8 * j) 4), fused := decide (128 ≤ fb pl (12 + 8 * j)), test := fb pl (13 + 8 * j) } : RepairSt))
  let s := s.modReh (fun x => { x with soft := soft })
  let s := forAll (allPaths.filter (fun p => !(s.mapSlices p).isEmpty)) (fun p s => s.buildMap p) s
  s.repairWords.foldl State.repairEngine s

/-- The OTP key bank is read and the gate opens (R404, R475). -/
def State.startKeys (s : State) : State :=
  let key (n : Nat) : List (Nat × List Byte) := if umState (s.umSlot n) = 1 then [(n, (s.umSlot n).key)] else []
  (s.modSec (fun x => { x with loaded := key 0 ++ key 1 })).setF .sec SecR.SEC_STAT_GATED 0

/-- The fields of a register that the configuration record restores (R471). -/
def cfgMask (a : Nat) : Word :=
  match pageOf (a / 4096) with
  | none => 0
  | some p =>
    (rowsAt p (a % 4096)).foldl (fun w r => if r.nvm then w ||| fldMask r.fld.hi r.fld.lo else w)
      (match p with | .path _ => if a % 4096 = 0x008 then 1 else 0 | _ => 0)

/-- The fields restored into a register have legal codes. -/
def cfgLegal (v : Nat → Word) (a : Nat) : Bool :=
  match pageOf (a / 4096) with
  | none => false
  | some p => (rowsAt p (a % 4096)).all (fun r => !r.nvm || fieldLegal v p r (fget (v a) r.fld.hi r.fld.lo))

/-- Every instance of every coupled set (R264). -/
def allInsts : List SetInst :=
  allGroups.map (fun g => (CSet.rate, g.val)) ++ allPaths.map (fun p => (CSet.txfir, p.val)) ++
  allGroups.map (fun g => (CSet.trnport, g.val)) ++ allPaths.map (fun p => (CSet.latency, p.val)) ++
  allLanes.map (fun n => (CSet.profile, n.val)) ++ [(CSet.fpbind, 0), (CSet.refclk, 0)]

/-- The values of the active configuration record, by address; none: rejected (R471). -/
def State.cfgRead (s : State) : Option (List (Nat × Word)) :=
  let b := slotBase 3 (s.activeSlot 3) + 32
  let n := (List.range cfgRegs.length).zip cfgRegs
  if s.flashNum (b - 32 + 0x0C) 4 ≠ 0x1A70 ∨ s.flashNum b 4 ≠ 844 ∨ n.any (fun e => s.flashNum (b + 0x10 + 8 * e.1) 4 != e.2) then
    none
  else
    let l := n.map (fun e => (e.2, merge (regReset e.2) (BitVec.ofNat 32 (s.flashNum (b + 0x14 + 8 * e.1) 4)) (cfgMask e.2)))
    let v := overVal regReset l
    if l.all (fun e => cfgLegal v e.1) && allInsts.all (instOk v) then some l else none

/-- The configuration is applied: what registers receive is kept for path and group resets (R461). An exit from DARK leaves the
TIME page (R372) and the transparent clock's settings (R224) as they are. -/
def State.cfgApply (s : State) (l : List (Nat × Word)) (dark : Bool) : State :=
  let l := if dark then l.filter (fun e => e.1 / 4096 != pageNum .time && !ptpKept e.1) else l
  l.foldl (fun s e =>
    let v := merge (s.rd e.1) e.2 (cfgMask e.1)
    let s := { s.wr e.1 v with start := tabSet regReset s.start e.1 v }
    -- the held target is the target while no change of it is pending (R147)
    match pageOf (e.1 / 4096) with
    | some (.path _) => if e.1 % 4096 = 0x2C0 then s.wr (e.1 + 0x28) (v &&& 0xFFFFF#32) else s
    | _ => s) s

/-- Step 3, the configuration record (R471). The timebase counts once the reference it selects is present (R210), and internal marks
are counted from the end of full reset (R154). After DARK the mark grid is the one before it (R156; DESIGN CHOICE, log 171). -/
def State.startConfig (s : State) (dark : Bool) : State :=
  let s := if s.on .house HouseR.STRAP_BOOTSEL then s.setF .house HouseR.START_STAT_CFG 3
    else if s.activeSlot 3 = 0 then s.setF .house HouseR.START_STAT_CFG 1
    else match s.cfgRead with
      | some l => (s.cfgApply l dark).setF .house HouseR.START_STAT_CFG 0
      | none => s.setF .house HouseR.START_STAT_CFG 2
  if dark then s
  else
    let s := s.setF .time TimeR.REF_STAT_IN_USE (s.f .time TimeR.REF_CFG_PRIMARY)
    s.setTime { s.time with
      counting := s.refOk s.refSel
      expect := if s.f .time TimeR.MARK_CFG_MODE = 2 then some (s.time.refCount + s.f .time TimeR.MARK_PERIOD_P) else none }

/-- The trims of a path, from its block of a calibration record (R393). -/
def State.calPathRestore (s : State) (pl : List Byte) (p : Path) : State :=
  let o := 256 + 120 * p.val
  let b (k : Nat) : Byte := BitVec.ofNat 8 (fb pl (o + k))
  let s := (List.range 34).foldl (fun s k =>
    s.setSlice p k { s.slice p k with ofs := b (3 * k), gain := b (3 * k + 1), skew := b (3 * k + 2) }) s
  s.putTrim p {
    rxTerm := b 102, txTerm := b 103, ctle := BitVec.ofNat 16 (fbe pl (o + 104) 2), txDac := b 106, temp := b 107,
    rxPi := BitVec.ofNat 32 (fbe pl (o + 108) 4), txPi := BitVec.ofNat 32 (fbe pl (o + 112) 4),
    dIn := BitVec.ofNat 16 (fbe pl (o + 116) 2), dOut := BitVec.ofNat 16 (fbe pl (o + 118) 2) }

/-- The factory delays of a path, from the FACTORY region: where in it they stand is not laid down (log 32). -/
def State.factoryDelays (s : State) (p : Path) : State :=
  let w (k : Nat) : BitVec 16 := BitVec.ofNat 16 (fbe ((List.range 4).map (fun i => Config.factoryByte (4 * p.val + i))) k 2)
  s.putTrim p { s.trim p with dIn := w 0, dOut := w 2 }

/-- Step 3, the calibration record (R391). -/
def State.startCal (s : State) : State :=
  if s.activeSlot 4 = 0 then
    let s := forAll allPaths (fun p s => s.factoryDelays p) s
    (forAll allGroups (fun g s => (s.setF (gp g) GroupR.CAL_TEMP_RUN_T 0x800).modCal g (fun c => { c with first := true })) s).setF
      .house HouseR.START_STAT_CAL 1
  else
    let pl := s.recPayload (slotBase 4 (s.activeSlot 4))
    let sg (k : Nat) : Int := 8 * sx 8 (fb pl k)
    let s := forAll allGroups (fun g s => s.setS (gp g) GroupR.CAL_TEMP_RUN_T (sg (1 + g.val))) s
    let s := forAll allPaths (fun p s => s.calPathRestore pl p) s
    let t := 256 + 120 * 128
    let s := s.modCalDev (fun c => { c with
      centre := BitVec.ofInt 12 (sg 9)
      twinTerm := (List.range 8).foldl (fun l i => tabSet (fun _ => (16 : Byte)) l i (BitVec.ofNat 8 (fb pl (t + 32 * i)))) []
      twinOfs := (List.range 4).foldl (fun l i => tabSet (fun _ => (0 : BitVec 16)) l i (BitVec.ofNat 16 (fbe pl (t + 32 * i + 1) 2))) [] })
    (s.modFlash (fun x => { x with calSince := s.f .reh RehR.ONTIME_MIN })).setF .house HouseR.START_STAT_CAL 0

/-- Step 3, the units that start with their settings: enabled PLLs relock, and an enabled twin seeks (R467). -/
def State.startUnits (s : State) : State :=
  let s := forAll allGroups (fun g s =>
    (s.setRelock g false (s.on (gp g) GroupR.PLLA_CFG_EN)).setRelock g true (s.on (gp g) GroupR.PLLB_CFG_EN)) s
  if s.on .twin TwinR.TWIN_CFG_EN then s.setF .twin TwinR.TWIN_STAT_STATE twSeeking else s

/-! ### Step 5: the kind of start (R417, R465, R466) -/

/-- R466: a full start is required whatever R417 gives. -/
def State.fullNeeded (s : State) : Bool :=
  s.on .house HouseR.START_CFG_REQ_FULL || s.activeSlot 4 == 0 || s.f .house HouseR.START_STAT_CFG == 2

/-- The first condition of R417 that fails, for the log entry at `a`; 0: none. -/
def State.quickFail (s : State) (a : Nat) : Nat :=
  let overall := s.logNum a 0x23 1
  let voids := (List.range 16).any (fun t => s.logNum a (0x51 + 8 * t) 1 / 2 % 2 == 1)
  if s.logNum a 0x20 1 ≠ 2 ∨ s.logNum a 0x21 1 ≠ 1 then 1
  else if !(overall == 1 || overall == 2) || voids then 2
  else if s.f .reh RehR.REH_CFG_MAXAGE * 60 ≤ s.f .reh RehR.ONTIME_MIN - s.logNum a 0x24 4 then 3
  else if s.logNum a 0x2C 4 ≠ s.fallSeq then 4
  else if s.logNum a 0x30 4 ≠ s.activeSeq 5 then 5
  else 0

/-- QS_STAT: the first failed condition, and the age of the curtain entry at the decision (R417). REQ_FULL is cleared by the
start it forces. -/
def State.startDecide (s : State) : State × Nat :=
  let why := if s.fullNeeded then 6 else match s.logNewest with
    | some a => s.quickFail a
    | none => 1
  let age := match s.logNewest with
    | some a => if s.logNum a 0x20 1 = 2 ∧ s.logNum a 0x21 1 = 1
        then satNat 0xFFFF ((s.f .reh RehR.ONTIME_MIN - s.logNum a 0x24 4) / 60) else 0xFFFF
    | none => 0xFFFF
  let s := ((s.setB .reh RehR.QS_STAT_QUICK (why == 0)).setF .reh RehR.QS_STAT_WHY why).setF .reh RehR.QS_STAT_AGE_H age
  (s.setF .house HouseR.START_CFG_REQ_FULL 0, why)

/-- After a quick start REH_RES show the curtain entry's results (R417). -/
def State.quickResults (s : State) : State :=
  match s.logNewest with
  | none => s
  | some a => (List.range 16).foldl (fun s t =>
      let n (o : Nat) (k : Nat) : Nat := s.logNum a (0x50 + 8 * t + o) k
      (((s.setF .reh (RehR.REH_RES_RESULT t) (n 0 1)).setF .reh (RehR.REH_RES_COINC t) (n 1 1)).setF .reh (RehR.REH_RES_VOID t)
        (n 1 1 / 2)).setF .reh (RehR.REH_RES_COV t) (n 2 2) |>.setF .reh (RehR.REH_RES_DUR t) (n 4 2)) s

/-! ### Steps 6 to 8 (R474, R467) -/

/-- The image of a slot goes into every engine that is not RETIRED and is in service, and each starts (R474, R286). -/
def State.startEngines (s : State) (slot : Nat) : State :=
  forAll allEngs (fun e s =>
    if s.eng e = egRetired ∨ s.on (ep e) Hdr.PAGE_CTL_OOS then s else (s.imgInstall e slot).engSet e egStarting) s

/-- Step 6 and 7: the named slot, else the other. -/
def State.startImage (s : State) : State :=
  let n := s.f .house HouseR.START_CFG_IMG_SLOT
  let r := s.imgTry n
  if r.2 = 1 then (r.1.setF .house HouseR.START_STAT_IMG 0).startEngines n
  else
    let q := r.1.imgTry (1 - n)
    if q.2 = 1 then (q.1.setF .house HouseR.START_STAT_IMG 1).startEngines (1 - n) else q.1.setF .house HouseR.START_STAT_IMG 2

/-- Steps 6 to 8: the start-up calibration run of every group is ramped (R387). -/
def State.startRun (s : State) : State :=
  let s := s.startImage.setF .house HouseR.START_STAT_PHASE 8
  forAll allGroups (fun g s => s.calTrigger g 5 true (s.calBlocks g)) s

/-- The start-up rehearsal (R396, R468): scope 0, without an opening entry (R415). -/
def State.startRehearsal (s : State) : State :=
  let s := (s.setF .house HouseR.START_STAT_PHASE 10).modReh (fun x => { x with startRun := true })
  (s.rehAdmit 0 0).rehBegin

/-- Steps 2 to 5 of a start. -/
def State.startFirst (s : State) (dark : Bool) : State :=
  ((((s.startRepair.startKeys).startConfig dark).startCal).startUnits).setF .house HouseR.START_STAT_PHASE 5

/-- Internal power-good (R70): an input is good and every rail is in regulation. -/
def State.powerGood (s : State) : Bool :=
  (s.good false || s.good true) && s.f .supply SupplyR.RAIL_STAT_IN_WIN == 0x3F

/-- The straps of a start (R73): `a`, `b` and `c` are their three samples. An exit from DARK keeps the latched ones. -/
def State.startStraps (s : State) (a b c : BitVec 4) : State :=
  let s := { s with startAt := s.elapsed }
  if s.f .house HouseR.RESET_CAUSE_FULL_CAUSE = 5 then s else s.wr (pageAddr .house 0x050) ((strapMajority a b c).setWidth 32)

/-- The steps of a start that follow the straps (R465, R467). A later house reset or command finds the module starting. -/
def State.startSteps (s : State) : State :=
  let cause := s.f .house HouseR.RESET_CAUSE_FULL_CAUSE
  let s := { s with device := .starting }
  let s := (if cause = 1 ∨ cause = 3 ∨ cause = 4 then s.ontimeRestore else s).startFirst (cause == 5)
  if s.on .house HouseR.STRAP_BOOTSEL then s.setF .house HouseR.START_STAT_KIND 2
  else
    let d := s.startDecide
    if d.2 = 0 then ((d.1.setF .house HouseR.START_STAT_KIND 0).quickResults).startRun
    else (d.1.setF .house HouseR.START_STAT_KIND 1).startRehearsal

/-- START_UP_RESET (R468): due once the start-up rehearsal has ended; the decision stands and the straps are not sampled again. -/
def State.startUpReset (s : State) : State :=
  if s.device == .starting && s.reh.startRun && s.rehState == 0 then
    let at_ := s.startAt
    ({ s.fullResetWith 6 with device := .starting, startAt := at_ }.startFirst false).startRun
  else s

/-- LANES_READY (R469): every step of the start has ended. -/
def State.lanesReady (s : State) : State :=
  if s.device == .starting && !s.reh.startRun && !allGroups.any (fun g => s.calOn g) then
    let s := { s with device := .ready }
    let s := (s.setF .house HouseR.START_STAT_PHASE 0).setF .house HouseR.START_STAT_READY_MS
      (satNat 0xFFFF ((s.elapsed - s.startAt) / 10 ^ 12))
    (s.settleAll.raise .house 0).fallErasure
  else s

end Sys2Proof.Machine
end

