-- ==== Sys2Proof/Machine/Resets.lean ====
section
/-!
DEFINITION. Machine/Resets.lean: house reset (R462, R463), DARK (R370, R371), power failure (R343, R344), VIO (R65) and the
boundary-scan port (R67).
-/
namespace Sys2Proof.Machine

/-- Every management operation that is admitted and has not taken effect is discarded, with what the sources latched (R16,
R44). -/
def State.dropAccess (s : State) : State :=
  { s with access := [], latch := [], readData := [], spi := { out := s.spi.out }, twt := {} }

/-- A change of the device's state, with ATTN_N following (R449). -/
def State.toDevice (s : State) (d : Device) : State := s.withEvt (fun s => { s with device := d })

/-! ### House reset -/

/-- The management ports at a house reset (R444). -/
def State.busHouseReset (s : State) : State :=
  let run := s.f .twc TwcR.TWC_STAT_STATE == 3
  let s := s.dropAccess.rstReg .twt 0x044
  let s := s.setF .twc TwcR.TWC_CFG_EN 0
  let s := if run then s.twcCut else s.setF .twc TwcR.TWC_STAT_STATE 0
  { s with twc := {} }

/-- Queued flash commands of the host end ABORTED; those of the module are served after a house reset, and before DARK (R353,
log 115). -/
def State.flashHostDrop (s : State) : State :=
  let isHost (op : FlashOp) : Bool := match op with | .host _ _ _ _ => true | _ => false
  let host := s.flash.queue.any isHost
  let s := s.modFlash (fun x => { x with queue := x.queue.filter (fun op => !isHost op), wait := false })
  if host then s.hostEnd 5 else s

/-- The effects of a house reset (R462) and its record. -/
def State.houseEffects (s : State) (cause : Nat) : State :=
  let s := (s.setF .house HouseR.RESET_CAUSE_HOUSE_CAUSE cause).inc .house HouseR.RESET_CNT_HOUSE_RESETS
  let s := (s.scenesHouseReset).mirSent .clear
  let s := forAll allGroups (fun g s => (s.setF (gp g) Hdr.PAGE_CTL_HOLD 1).setGrp g { s.grp g with pend := none }) s.engHouseReset
  let s := forAll allGroups (fun g s => s.holdBegun g) s
  let s := forAll (List.finRange 4) (fun k s => s.portHouseReset k) s
  let s := (s.sessDrop (fun _ => true)).rstRange .sec 0x050 0x06C
  let s := (s.flashHostDrop.setF .house HouseR.INJ_CTL_ARM 0).setF .house HouseR.ECC_INJ_ARM 0
  let s := (s.setF .house HouseR.ATTN_STAT_PROMPT_REQ 0).busHouseReset
  (s.setF .house HouseR.FAB_SEQ_SEQ 0).setF .house HouseR.FAB_SPEED_RATE_MIN (s.f .house HouseR.FAB_SPEED_RATE)

/-- HOUSE_RESET (R459, R462, R463), by HRST_N (cause 1) or RESET_CTL (cause 2): a rehearsal closes (R406), and a path or group reset
that waits or runs completes first. One that begins during another extends it. -/
def State.houseReset1 (s : State) (cause : Nat) : State :=
  if s.device != .ready && s.device != .starting then s
  else
    let s := s.rehCut 9
    let s := if s.rstState = 1 then s.resetNow else s
    let s := if s.rstState = 2 then s.resetEnd else s
    (s.houseEffects cause).withEvt (fun s => { s with houseReset := true })

/-- HRST_N goes low (R69, R70): a house reset, or, during a full reset, one that holds the module after the straps. -/
def State.hrstLow (s : State) : State :=
  if s.land.vio then ({ s with land := { s.land with hrst := true } }).houseReset1 1 else s

/-- START_UP (R465, R467), at the end of a full reset: it ends with power-good and VIO (R70). With HRST_N low the straps are sampled
and the module remains in house reset. -/
def State.startUp (s : State) (a b c : BitVec 4) : State :=
  if s.device != .fullReset || s.houseReset || !s.land.vio || !s.powerGood then s
  else
    let s := s.startStraps a b c
    if s.land.hrst then (s.houseEffects 1).withEvt (fun s => { s with houseReset := true }) else s.startSteps

/-! ### DARK -/

/-- The twin stops: STATE, ROLE and SD_STATE take their reset values (R332), and a follow leaves FOLLOW (R322). -/
def State.twinStop (s : State) : State :=
  let s := (if s.follow then s.leaveFollow else s).setSd 0
  (((s.rstReg .twin TwinR.TWIN_STAT_STATE.off).rstReg .twin TwinR.LINK_STAT_LINK_UP.off).setF .twin TwinR.TT_STAT_LOCKED 0).twinClear

/-- Scenes and cues at DARK (R283): a commit whose T_c has been reached still completes. -/
def State.scenesDark (s : State) : State :=
  let s := s.scenesClear
  ({ s with
    mem := s.mem.filter (fun e => !(decide (0x00400000 ≤ e.1) && decide (e.1 < 0x00500000)))
    scene := { jobs := s.scene.jobs, seq := s.scene.seq } }).rstRange .cue 0x040 0x7FC

/-- Every group goes to OFF; a transition in progress completes first, and what is pending is discarded (R370, step 2). -/
def State.darkGroup (s : State) (g : Grp) : State :=
  let s := if s.migrating g then s.migFail g else s
  let s := s.setGrp g { s.grp g with pend := none }
  if s.pwMoving g || s.pw g == pwOff then s else s.pwBegin g rqOff 3 false

/-- Entry to DARK from step 2 (R370). -/
def State.darkEnter (s : State) : State :=
  let s := s.toDevice .enteringDark
  let s := forAll (List.finRange 4) (fun k s => s.portDisable k) s
  let s := forAll allGroups (fun g s => s.darkGroup g) s
  let s := forAll allEngs (fun e s => s.engStopNow e) s
  let s := (s.scenesDark.twinStop).sessDrop (fun _ => true)
  s.flashHostDrop

/-- What the end or the start of a flash operation brings a rehearsal: its admission, its tests, or the DARK that ends a curtain
(R398, R415). -/
def State.flashThen (s : State) : State :=
  let s := s.rehGoOn
  if s.rehState = 0 ∧ s.reh.toDark then (s.modReh (fun x => { x with toDark := false })).darkEnter else s

/-- HOUSE_RESET_END (R462): HRST_N has risen and the reset ends; the queue of the flash is served again. Where it held a start, the
start goes on (R70). -/
def State.houseResetEnd (s : State) : State :=
  let s := { s with land := { s.land with hrst := false } }
  if s.houseReset then
    let s := (s.withEvt (fun s => { s with houseReset := false })).raise .house 0
    if s.device == .fullReset then s.startSteps else s.flashServe.flashThen
  else s

/-- DEV_CTL with its key (R370): accepted in FULL; a rehearsal is cut short first (R406). -/
def State.darkAsk (s : State) : State :=
  if s.device == .ready || s.device == .starting then
    (s.rehCut 11).darkEnter
  else s

/-- DARK_REACHED (R370, steps 4 to 6): every group is OFF and the flash is idle. -/
def State.darkReached (s : State) : State :=
  if s.device == .enteringDark && allGroups.all (fun g => s.pw g == pwOff) && s.flash.run.isNone && s.flash.queue.isEmpty then
    let s := s.kaBegin
    let s := (s.setTime { s.time with fromDark := true, refGone := false, ppsDue := false }).dropAccess
    let s := (s.setF .time TimeR.REF_STAT_REF0_OK 0).setF .time TimeR.REF_STAT_REF1_OK 0
    let s := (s.setF .supply SupplyR.RAIL_STAT_IN_WIN 1).modSupply (fun x => { x with testing := false })
    { s.toDevice .dark with land := { s.land with pps := false } }
  else s

/-- DARK_WAKE (R71, R372): `porst`: PORST_N is low, so the wake proceeds as a full reset. -/
def State.darkWake (s : State) (porst : Bool) : State :=
  if s.device != .dark then s
  else
    let s := s.setF .supply SupplyR.RAIL_STAT_IN_WIN 0x3F
    if porst then s.fullResetWith 2
    else ((s.fullResetWith 5).setF .pstate PstateR.DEV_STAT_FROM_DARK 1).inc .pstate PstateR.DEV_STAT_DARK_EXITS

/-! ### Power failure -/

/-- The declaration (R343, R344, steps 1 and 2): the record's payload is taken, the house feeds from HUP, engines stop, queued
flash operations are discarded and the lane rails go off. `cause`: 1 both inputs lost, 2 a rail. -/
def State.failDeclare (s : State) (cause : Nat) : State :=
  let pl := s.fallPayload cause
  let ran := s.ranNow
  let s := s.modSupply (fun x => { x with fall := pl, ran := ran, rail := cause == 2, testing := false })
  let s := forAll allEngs (fun e s => s.engStopNow e) (s.setF .supply SupplyR.SUP_STAT_SEL 2)
  let s := s.flashDrop.rehFail.dropAccess.toDevice .failing
  (s.settleAll).setF .supply SupplyR.RAIL_STAT_IN_WIN (s.f .supply SupplyR.RAIL_STAT_IN_WIN % 8)

/-- The devices in which a failure is declared: not in DARK (R343), and not once more. -/
def State.failable (s : State) : Bool := s.device != .dark && s.device != .failing && s.device != .off

/-- POWER_FAILURE (R343). -/
def State.powerFailure (s : State) : State :=
  if s.failable && !s.good false && !s.good true then s.failDeclare 1 else s

/-- RAIL_FAULT (R338) of the rail with that bit in RAIL_STAT, while an input is good. -/
def State.railFault (s : State) (r : Fin 6) : State :=
  if s.failable && (s.good false || s.good true) then
    (s.setF .supply SupplyR.RAIL_STAT_IN_WIN (s.f .supply SupplyR.RAIL_STAT_IN_WIN &&& (0x3F ^^^ 2 ^ r.val))).failDeclare 2
  else s

/-- FALL_RECORD_WRITE (R344, R349): after the running operation has ended, or been cut as the energy ran out, the record is
written and every rail goes off. -/
def State.fallRecord (s : State) (hup : BitVec 16) : State :=
  if s.device != .failing then s
  else
    let cut := s.flash.run.isSome
    let s := (if cut then s.flashCut else s).fallWrite hup cut
    let c := if s.supply.rail then 3 else 4
    { (s.setF .supply SupplyR.RAIL_STAT_IN_WIN 0).toDevice .off with supply := { cause := c } }

/-- VKA_LOST (R343, R344): in DARK with both inputs lost, or after a power failure, HUP has fallen to 14 V: the next start is a
power-up. -/
def State.vkaLost (s : State) : State :=
  if s.device == .dark && !s.good false && !s.good true then
    { (s.setF .supply SupplyR.RAIL_STAT_IN_WIN 0) with device := .off, supply := { cause := 1 } }
  else if s.device == .off then s.modSupply (fun x => { x with cause := 1 })
  else s

/-! ### VIO and the test access port -/

/-- VIO_LOSS (R65): transfers cut short are forgotten, with their reservations (R420); the controller's lines are released
(R444). -/
def State.vioLoss (s : State) : State :=
  let s := { s with land := { s.land with vio := false, twtArmed := false, spiArmed := false } }
  let s := { s with spi := { s.spi with open_ := none }, twt := {} }
  (s.setF .twt TwtR.TWT_STAT_OPEN 0).setF .twt TwtR.TWT_STAT_BUF_BYTES 0

/-- VIO_RETURN (R65): the two-wire target answers after the next STOP; the SPI target once SPI_CS_N is high, which it is at the return
or will be at the end of the frame under way: a level of the pin, so a free value (log 1). -/
def State.vioReturn (s : State) : State :=
  if s.land.vio then s
  else
    let d := s.draw
    { d.2 with land := { s.land with vio := true, twtArmed := false, spiArmed := d.1.getLsbD 0 } }

/-- BOUNDARY_SCAN_INSTRUCTION (R67), through VIO inputs (R65): the lanes go out of service and pinning stops until the next full
reset. -/
def State.boundaryScan (s : State) : State :=
  if s.land.vio then ({ s with land := { s.land with scan := true } }).settleAll else s

end Sys2Proof.Machine
end

