-- ==== Sys2Proof/Machine/Actions.lean ====
section
/-!
DEFINITION. Machine/Actions.lean: what a write does to a register by its access codes (R5, R36, R90), and what the writes of
the pages that a scene may name bring about. `old` is the register's word before the write, `act` the ones written to
its W1S bits, `wrote` the bits the write covers. Where one write makes several actions of a register, they act from the
highest bit down (log 40).
-/
namespace Sys2Proof.Machine

/-- What a write of one register comes to: its word, whether it touched RO or RSV bits or gave an illegal code (ACCESS), whether
it touched an SC field (CONSISTENCY), the ones written to W1S bits, and the bits of the RW fields that kept their codes because the
ones written are illegal (R90). -/
structure WrOut where
  word : Word
  access : Bool := false
  cons : Bool := false
  act : Word := 0
  bad : Word := 0
  deriving DecidableEq, Repr

/-- The effect of a write on one field (R5). `scene`: a commit, which may set SC fields. -/
def writeRow (v : Nat → Word) (scene : Bool) (p : Page) (old data mask : Word) (o : WrOut) (r : Row) : WrOut :=
  let m := fldMask r.fld.hi r.fld.lo
  if mask &&& m == 0 then o
  else
    let code := fget (merge old data mask) r.fld.hi r.fld.lo
    match r.acc with
    | .ro => o
    | .rw =>
      if fieldLegal v p r code && !(r.fld == TimeR.TIME_CTL_SRC && code != 2 && srcHeld v) then
        { o with word := fset o.word r.fld.hi r.fld.lo code }
      else { o with access := true, bad := o.bad ||| m }
    | .sc _ =>
      if code == fget old r.fld.hi r.fld.lo then o
      else if scene then { o with word := fset o.word r.fld.hi r.fld.lo code }
      else { o with cons := true }
    | .cnt => if mask &&& m == m && data &&& m == 0 then { o with word := o.word &&& ~~~m } else o
    | .w1c => { o with word := o.word &&& ~~~(data &&& mask &&& m) }
    | .w1s => { o with act := o.act ||| (data &&& mask &&& m) }

/-- The effect of a write on a register's fields. Bits of PAGE_CTL that the page has not are ignored as RSV bits are (R31). -/
def writeOut (v : Nat → Word) (scene : Bool) (p : Page) (off : Nat) (data mask : Word) : WrOut :=
  let old := v (pageAddr p off)
  (rowsAt p off).foldl (writeRow v scene p old data (mask &&& ~~~ctlUnsupported p off))
    { word := old, access := data &&& mask &&& roMask p off != 0 }

/-- Registers whose word feeds EVT_SUM or the masks of ATTN_N and the prompt (R446, R449, R450). -/
def feedsSum (p : Page) (off : Nat) : Bool :=
  off == 0x010 || off == 0x014 || (p == .house && decide (0x088 ≤ off) && decide (off ≤ 0x098))

/-- Store the outcome of a write: the word, then at most one violation of each kind (R5). -/
def State.regStore (s : State) (p : Page) (off : Nat) (o : WrOut) : State :=
  let put (s : State) : State := s.wr (pageAddr p off) o.word
  let s := if feedsSum p off then s.withEvt put else put s
  (s.violIf o.access p .access).violIf o.cons p .consistency

/-- A key that a write needs is missing (R370, R455, R462, R476): the write has no effect. `d`: the bits written as ones. What it
writes to RO and RSV bits, and an illegal code, still count (R5, log 47). -/
def keyRefused (p : Page) (off : Nat) (d : Word) : Bool :=
  match p with
  | .house => (off == 0x0B8 && wbit d 0 && fget d 31 24 != 0xA5) || (off == 0x100 && fget d 11 8 == 3 && fget d 31 24 != 0xC3)
  | .pstate => off == 0x040 && wbit d 0 && fget d 15 8 != 0xDA
  | .sec => off == 0x044 && fget d 19 16 != 0 && fget d 31 24 != 0x3C
  | _ => false

/-- Whether a write covers a field, given the bits that it wrote and that were taken. -/
def covers (wrote : Word) (x : Fld) : Bool := wrote &&& fldMask x.hi x.lo != 0

/-- A page's PAGE_CTL has been written (R33, R56, R95, R359, R360, R386). -/
def State.effPageCtl (s : State) (p : Page) (old : Word) : State :=
  let hold := s.on p Hdr.PAGE_CTL_HOLD && !wbit old 1
  let oosNew := s.on p Hdr.PAGE_CTL_OOS
  let oos := oosNew != wbit old 0
  match p with
  | .group g =>
    let s := if hold then s.holdBegun g else s
    let s := if oos then forAll (grpPaths g) (fun q s => s.oosChanged q) s else s
    s.settleGrp g
  | .path q =>
    let s := if hold then s.rotAbandon q 2 else s
    if oos then s.oosChanged q else s.settle (laneOf q)
  | .stage e => if oos then s.engOos e oosNew else s
  | _ => s

def State.effSupply (s : State) (off : Nat) (old act : Word) : State :=
  if off = 0x044 then
    let was := fget old 8 8 == 1
    if was == s.forceB then s else s.forceChange was
  else if off = 0x06C then (if wbit act 0 then s.testStart else s)
  else s

/-- A write of GRP_REQ asks every group of MASK, in turn (R361). -/
def State.effPstate (s : State) (off : Nat) (act wrote : Word) : State :=
  if off = 0x040 then (if wbit act 0 then s.darkAsk else s)
  else if off = 0x04C then
    let rq := s.f .pstate PstateR.GRP_REQ_REQ
    let m := BitVec.ofNat 32 (s.f .pstate PstateR.GRP_REQ_MASK)
    if rq = 0 || !covers wrote PstateR.GRP_REQ_REQ then s
    else forAll (allGroups.filter (fun g => wbit m g.val)) (fun g s => s.pwHost g rq) s
  else s

/-- REH_CTL.OP (R397, R406, R413): 1 CURTAIN, 2 GROUP, 3 ENGINE, 4 ABORT, 5 FUSE. -/
def State.effReh (s : State) (off : Nat) (wrote : Word) : State :=
  if off = 0x040 && covers wrote RehR.REH_CTL_OP then
    let t := s.f .reh RehR.REH_CTL_TARGET
    let force := s.on .reh RehR.REH_CTL_FORCE
    match s.f .reh RehR.REH_CTL_OP with
    | 1 => s.rehStart 1 t force
    | 2 => s.rehStart 2 t force
    | 3 => s.rehStart 3 t force
    | 4 => s.rehCut 8
    | 5 => s.rehFuse
    | _ => s
  else s

def State.effTherm (s : State) (off : Nat) (act : Word) : State := if off = 0x06C && wbit act 0 then s.maxClr else s

/-- The TIME page (R203 to R209, R216). A write that takes UNC_THR below TIME_UNC is a crossing, as a rise of TIME_UNC is (R206;
DESIGN CHOICE, log 175). -/
def State.effTime (s : State) (off : Nat) (old act wrote : Word) : State :=
  if off = 0x050 then
    let s := if fget old 5 4 = s.f .time TimeR.TIME_CTL_SRC then s else s.srcChange
    let s := if wbit act 2 && s.f .time TimeR.TIME_CTL_SRC == 1 then s.holdoverBegin else s
    let s := if wbit act 1 then s.setF .time TimeR.TIME_STAT_ARMED 1 else s
    if wbit act 0 then s.timeStep else s
  else if off = 0x054 then
    let new := s.f .time TimeR.TIME_RATE_RATE
    (s.wr (pageAddr .time 0x054) old).rateWrite new
  else if off = 0x05C then
    if wrote == ~~~0#32 && s.rd (pageAddr .time 0x05C) == 0 then s.setUnc (some 0) else s
  else if off = 0x074 then (s.setUnc s.time.unc).uncCross
  else if off = 0x080 then s.refSecond
  else if off = 0x090 then (if fget old 1 0 = s.markMode then s else s.markCfgChange)
  else if off = 0x094 then (if old == s.rd (pageAddr .time 0x094) then s else s.markCfgChange)
  else s

/-- SD_CTL and TWIN_CFG (R322, R326 to R331). -/
def State.effTwin (s : State) (off : Nat) (old act : Word) : State :=
  if off = 0x040 then
    let en := s.on .twin TwinR.TWIN_CFG_EN
    let timeEn := s.on .twin TwinR.TWIN_CFG_TIME_EN
    let s := (s.setF .twin TwinR.TWIN_CFG_EN (fget old 0 0)).twinEn en
    if timeEn == wbit old 2 then s else s.timeEnChange timeEn
  else if off = 0x050 then
    let s := if wbit act 4 then s.sdCancel else s
    let s := if wbit act 3 then s.sdReplace else s
    let s := if wbit act 2 then s.sdReenter else s
    let s := if wbit act 1 then s.sdConfirm else s
    if wbit act 0 then s.sdReq (wbit act 5) else s
  else s

/-- PORT_CTL and TX_IDX of the frame ports (R240, R249). -/
def State.effFrame (s : State) (off : Nat) (old wrote : Word) : State :=
  forAll (List.finRange 4) (fun k s =>
    if off = 0x080 + 64 * k.val then
      if covers wrote (FrameR.PORT_CTL_EN k.val) && !s.on .frame (FrameR.PORT_CTL_EN k.val) then s.portDisable k else s
    else if off = 0x098 + 64 * k.val then
      let new := s.f .frame (FrameR.TX_IDX_TX_TAIL k.val)
      (s.setF .frame (FrameR.TX_IDX_TX_TAIL k.val) (fget old 5 0)).txTail k new
    else s) s

def State.effTwc (s : State) (off : Nat) (old wrote : Word) : State :=
  if off = 0x040 then s.twcEn (wbit old 31)
  else if off = 0x044 && covers wrote TwcR.TWC_CMD_OP then
    match s.f .twc TwcR.TWC_CMD_OP with
    | 1 => s.twcGo
    | 2 => s.twcAbort
    | _ => s
  else s

/-- SPI_CFG.FLUSH (R425). A read admitted before it is discarded as its data becomes ready. -/
def State.spiFlush (s : State) : State := { s with spi := { s.spi with ret := [] } }

def State.effSpi (s : State) (off : Nat) (act : Word) : State := if off = 0x040 && wbit act 0 then s.spiFlush else s

/-- A group page: power requests (R361, R366), calibration (R383 to R390) and engine binding (R299). -/
def State.effGroup (s : State) (g : Grp) (off : Nat) (act wrote : Word) : State :=
  if off = 0x100 then
    let rq := s.f (gp g) GroupR.PWR_CTL_REQ
    let s := if s.on (gp g) GroupR.PWR_CTL_WAKE_HOLD && covers wrote GroupR.PWR_CTL_WAKE_HOLD then s.levelAct g else s
    let s := if wbit act 4 then s.pulseWake g 4 else s
    if rq ≠ 0 ∧ covers wrote GroupR.PWR_CTL_REQ then s.pwHost g rq else s
  else if off = 0x188 then
    let s := if wbit act 2 then s.calAbandon g false else s
    let s := if wbit act 1 then s.calApply g else s
    if wbit act 0 then s.calTrigger g 2 (s.on (gp g) GroupR.CAL_CTL_RAMP) (s.calBlocks g) else s
  else if off = 0x1A0 then forAll (onesBelow 16 act) (fun i s => s.disruptAsk g i) s
  else if off = 0x280 then (if wbit act 9 then s.migGo g else s)
  else s

/-- ENG_CTL (R286): more than one of LOAD, STOP and START in one write is a CONSISTENCY violation without effect. -/
def State.effStage (s : State) (e : Eng) (off : Nat) (act : Word) : State :=
  if off = 0x040 then
    match onesBelow 3 act with
    | [0] => s.engStart e
    | [1] => s.engStop e
    | [2] => s.engLoad e
    | [] => s
    | _ => s.viol (ep e) .consistency
  else s

/-- What the PRBS checker has compared and found wrong since its counts were last brought up to date: measured, so free values
(log 1), the errors no more than the bits. -/
def State.drawPrbs (s : State) : State × Nat × Nat :=
  let a := s.draw
  let b := a.2.draw
  (b.2, a.1.toNat, b.1.toNat % (a.1.toNat + 1))

/-- A path page. -/
def State.effPath (s : State) (p : Path) (off : Nat) (old act : Word) : State :=
  if off = 0x0A4 then
    let s := if wbit old 0 && !s.on (pp p) PathR.SWING_CTL_ROT_EN then s.rotAbandon p 5 else s
    let s := if wbit act 2 then s.rotAbandonAll p else s
    if wbit act 1 then s.rotForce p else s
  else if off = 0x0E0 then
    let s := if wbit act 25 then s.capStopReq p else s
    if wbit act 24 then s.capStart p else s
  else if off = 0x1CC then s.settle (laneOf p)
  else if off = 0x200 then s.settle (laneOf p)
  else if off = 0x204 then
    let s := if wbit act 0 then s.restart (laneOf p) else s
    s.settle (laneOf p)
  else if off = 0x210 then s.wr (pageAddr (pp p) 0x218) 0
  else if off = 0x380 then
    if wbit act 0 then
      let d := s.drawPrbs
      d.1.snapshot p d.2.1 d.2.2
    else s
  else if off = 0x3F4 then
    if wbit old 0 && !s.on (pp p) PathR.PRBS_CHK_EN then
      let d := s.drawPrbs
      d.1.prbsLose p d.2.1 d.2.2
    else s
  else if off = 0x410 then (if wbit act 0 then s.injFire p else s)
  else if off = 0x4C0 then s.levelAct (pathGrp p)
  else s

/-- The header of a page: PAGE_CTL, EVT_INJ and VIOL_INJ. -/
def State.effHeader (s : State) (p : Page) (off : Nat) (old act : Word) : State :=
  if off = 0x008 then s.effPageCtl p old
  else if off = 0x01C then s.evtInject p act
  else if off = 0x028 then s.violInject p act
  else s

/-- What a write of a register brings about, in the pages that a scene may name. -/
def State.effect (s : State) (p : Page) (off : Nat) (old act wrote : Word) : State :=
  if off < 0x040 then s.effHeader p off old act
  else
    match p with
    | .supply => s.effSupply off old act
    | .pstate => s.effPstate off act wrote
    | .reh => s.effReh off wrote
    | .therm => s.effTherm off act
    | .time => s.effTime off old act wrote
    | .twin => s.effTwin off old act
    | .frame => s.effFrame off old wrote
    | .twc => s.effTwc off old wrote
    | .spi => s.effSpi off act
    | .group g => s.effGroup g off act wrote
    | .stage e => s.effStage e off act
    | .path q => s.effPath q off old act
    | _ => s

end Sys2Proof.Machine
end

