-- ==== Sys2Proof/Machine/Commit.lean ====
section
/-!
DEFINITION. Machine/Commit.lean: the commit of a staged scene (R266 to R268). Every register takes its final value first; then what
the change brings about follows, so that each consequence sees the whole scene (log 41).
-/
namespace Sys2Proof.Machine

/-- Whether two valuations differ in a register. -/
def differs (v w : Nat → Word) (a : Nat) : Bool := v a != w a

/-- A PLL whose settings have changed relocks, or stops (R86). -/
def State.pllChanged (s : State) (g : Grp) (b : Bool) : State :=
  let s := ((s.setF (gp g) (pllLockFld b) 0).setF (gp g) (pllHoldFld b) 0).setRelock g b (s.on (gp g) (pllEnFld b))
  s.pllPathsLose g b

/-- The PLLs of a group after a commit: `v` holds the values before it. A change of the selected reference's frequency relocks
every enabled PLL (R215). -/
def State.commitPlls (s : State) (v : Nat → Word) (g : Grp) : State :=
  let refNew := vRef v != vRef s.now
  [false, true].foldl (fun s b =>
    let cfg : Nat := pageAddr (gp g) (if b then 0x048 else 0x040)
    let frac : Nat := pageAddr (gp g) (if b then 0x04C else 0x044)
    let was := fget (v cfg) 0 0
    let on := s.on (gp g) (pllEnFld b)
    let moved := fget (v cfg) 12 4 != fget (s.rd cfg) 12 4 || fget (v frac) 23 0 != fget (s.rd frac) 23 0
    if was != b2n on || (on && (moved || refNew)) then s.pllChanged g b else s) s

/-- The fields of a path's registers that belong to a coupled set. -/
def setMask (c : CSet) (p : Page) (off : Nat) : Word := accMask p off (fun a => a == .sc c)

/-- A member of a coupled set in page `p` has changed. -/
def State.setChanged (s : State) (v : Nat → Word) (c : CSet) (p : Page) (l : List Nat) : Bool :=
  l.any (fun a => a / 4096 == pageNum p && (v a ^^^ s.rd a) &&& setMask c p (a % 4096) != 0)

/-- PLL_SEL, DIV or MOD of a path has changed: its clock recovery starts again (R86). -/
def State.commitLine (s : State) (v : Nat → Word) (p : Path) : State :=
  let a := pageAddr (pp p) PathR.LINE_CFG_MOD.off
  if vSel v p != vSel s.now p || vDiv v p != vDiv s.now p || fget (v a) 8 8 != fget (s.rd a) 8 8 then (s.insertLoss p).lockLost p else s

/-- A lane pair's port has changed: every segment of it goes to BREAK with LAST_CAUSE 8 (R121). The valuation of PORT_W before the
commit is `v`. -/
def State.commitPort (s : State) (v : Nat → Word) (n : Lane) : State :=
  let w (u : Nat → Word) : Nat := 2 ^ vf u (pp (pathAB n)) PathR.TRN_PAIR_PORT_W
  if w v != w s.now then (s.segForce (pathAB n)).segForce (pathBA n) else s

/-- A change of a lane pair's PROFILE set needs no further action (R176). -/
def State.profStill (s : State) (n : Lane) : Bool :=
  [pathAB n, pathBA n].all (fun p => [sgDisabled, sgWait, sgSetup, sgFailed, sgBreak].contains (s.sg p))

/-- The lane pairs whose PROFILE set a scene changes, given the values after it. -/
def State.profLanes (s : State) (v : Nat → Word) (l : List Nat) : List Lane :=
  let paths := ((regPages l).filterMap pageOf).filterMap (fun p => match p with | .path q => some q | _ => none)
  (paths.map laneOf).dedup.filter (fun n => s.setChanged v .profile (pp (pathAB n)) l || s.setChanged v .profile (pp (pathBA n)) l)

/-- The framing of a lane pair's two paths is lost under the profile that is left, as its clock-recovery lock is (R176): `v` holds the
values after the commit. -/
def State.profLeave (s : State) (v : Nat → Word) (l : List Nat) : State :=
  forAll (s.profLanes v l) (fun n s =>
    if s.profStill n then (s.profGone (pathAB n)).profGone (pathBA n)
    else
      let one (p : Path) (s : State) : State := ((s.insertLoss p).framingLost p 0 false).profGone p
      one (pathBA n) (one (pathAB n) s)) s

/-- A member of a lane pair's PROFILE set has changed (R176): both paths lose their lock at one boundary, and the rows of R114 for
both segments are those of the states in which it finds them. -/
def State.commitProfile (s : State) (n : Lane) : State :=
  if s.profStill n then s else s.locksLost [pathAB n, pathBA n]

/-- What the changes of a commit bring about (R86, R121, R165, R176, R215), registers `l`, values before it `v`. -/
def State.commitSets (s : State) (v : Nat → Word) (l : List Nat) : State :=
  let pages := (regPages l).filterMap pageOf
  let paths := pages.filterMap (fun p => match p with | .path q => some q | _ => none)
  let lanes := (paths.map laneOf).dedup
  let prof := s.profLanes v l
  let refs := vRef v != vRef s.now
  let grps := allGroups.filter (fun g => refs || pages.contains (gp g))
  let s := forAll grps (fun g s => s.commitPlls v g) s
  let s := forAll paths (fun p s => s.commitLine v p) s
  let s := forAll lanes (fun n s => s.commitPort v n) s
  let s := forAll prof (fun n s => s.commitProfile n) s
  let s := forAll paths (fun p s =>
    if fget (v (pageAddr (pp p) 0x2C0)) 19 0 = s.f (pp p) PathR.LAT_TARGET_TARGET then s else s.targetChange p) s
  forAll lanes (fun n s => s.settle n) s

/-- Words 0 to 3 of a page's command entry, as the scene names them: a scene's staged words are its own (log 42). -/
def sceneCmd (vals : List (Nat × Word)) (e : Eng) : Option (BitVec 128) :=
  let a (i : Nat) : Nat := pageAddr (ep e) (0x080 + 4 * i)
  let w (i : Nat) : Word := (vals.find? (fun x => x.1 == a i)).elim 0 (·.2)
  if vals.any (fun x => x.1 == a 3) then some (quadOf (w 0) (w 1) (w 2) (w 3)) else none

/-- A register of a command entry. -/
def isCmdWord (p : Page) (off : Nat) : Bool :=
  match p with
  | .stage _ => decide (0x080 ≤ off) && decide (off < 0x08C)
  | _ => false

/-- One register of a commit is stored: the state, with the register's old word, the ones of its actions and the bits that were
written; none where a key is missing. -/
def State.commitReg (s : State) (p : Page) (off : Nat) (data mask : Word) : State × Option (Word × Word × Word) :=
  if isCmdWord p off then (s, none)
  else if keyRefused p off (data &&& mask) then (s.viol p .consistency, none)
  else
    let o := writeOut s.rd true p off data mask
    ((s.pageStored (pageAddr p off)).regStore p off o, some (s.rd (pageAddr p off), o.act, mask &&& ~~~o.bad))

/-- Every register of a staged scene is stored. -/
def State.commitStore (s : State) (x : JobSt) : State × List (Page × Nat × Word × Word × Word) :=
  x.vals.foldl (fun (r : State × List (Page × Nat × Word × Word × Word)) e =>
    match pageOf (e.1 / 4096) with
    | none => r
    | some p =>
      let off := e.1 % 4096
      let mask := tabGet (fun _ => (0 : Word)) x.masks e.1
      let c := r.1.commitReg p off e.2 mask
      (c.1, match c.2 with
        | some o => r.2 ++ [(p, off, o)]
        | none => r.2)) (s, [])

/-- The values of a staged scene are applied (R266, R268). -/
def State.applyScene (s : State) (x : JobSt) : State :=
  let v := s.rd
  let s := s.profLeave (overVal v x.vals) (x.vals.map (·.1))
  let r := s.commitStore x
  let s := r.2.foldl (fun s e => s.effect e.1 e.2.1 e.2.2.1 e.2.2.2.1 e.2.2.2.2) r.1
  let s := forAll allEngs (fun e s =>
    match sceneCmd x.vals e with
    | some q => s.cmdAppend e q
    | none => s) s
  s.commitSets v (x.vals.map (·.1))

/-- SCENE_STAT counts the commit, and what waits for the locks follows (R268). -/
def State.commitDone (s : State) (x : JobSt) : State :=
  let w := s.sceneStat x.scene
  (s.setSceneStat x.scene (fset (fset w 31 28 1) 15 0 (fget w 15 0 + 1))).locksFreed

/-- A cue fires (R268, R270): FIRES, OUTCOME and LATE_BY. -/
def State.cueFires (s : State) (x : JobSt) (c : BitVec 12) : State :=
  let a := cueAddr c
  let s := (s.mfieldSet (a + 0x18) 15 0 (s.mfield (a + 0x18) 15 0 + 1)).cueOutcome c (if x.late then 2 else 1)
  if x.late then s.mfieldSet (a + 0x1C) 15 0 (satNat 0xFFFF x.lateBy) else s

/-- What follows a cue's fire: a repeating cue returns to ARMED until COUNT is reached (R272); `last`: the cue has been disarmed
(R280). Its locks and its staging slots are released. -/
def State.cueAfter (s : State) (x : JobSt) (c : BitVec 12) (last : Bool) : State :=
  let n := s.mfield (cueAddr c + 0x18) 15 0
  if last then (s.cueSetState c 0).dropJob (.cue c)
  else if s.cueRepeats c && !(s.cueCount c != 0 && decide (n ≥ s.cueCount c)) then s.rearm x c
  else (s.cueSetState c 5).dropJob (.cue c)

/-- CUE_FIRED of a cue that asks for it (R268, R281). -/
def State.cueNotified (s : State) (c : BitVec 12) (on : Bool) : State :=
  if on then ((s.setF .cue CueR.LAST_FIRED_VALID 1).setF .cue CueR.LAST_FIRED_CUE c.toNat).raise .cue 0 else s

/-- The commit of a scene whose T_c has been reached. A cue stands for its next occurrence before the values apply, so that an event
bit that the commit itself sets, CUE_FIRED among them, is its next trigger (R279). A cue whose line a reset has cleared stays IDLE;
after DARK has begun nothing of the CUE page is left to report in (R283). -/
def State.commitJob (s : State) (x : JobSt) (last : Bool) : State :=
  match x.job, x.gone with
  | .cue c, none =>
    let notify := s.cueNotify c
    (((((s.cueFires x c).cueAfter x c last).applyScene x).commitDone x)).cueNotified c notify
  | .cue c, some notify =>
    let t := (s.dropJob (.cue c)).applyScene x
    if s.device == .ready || s.device == .starting then (t.commitDone x).cueNotified c notify else t
  | .host, _ => ((((s.dropJob .host).applyScene x).commitDone x).openResult 1 0).emptyOpen 1023
  | .eng e, _ => (((s.dropJob (.eng e)).applyScene x).commitDone x).emptyOpen (1008 + e.val)

/-- SCENE_COMMIT: at T_c (R266). An occurrence whose scene is not staged when its instant comes is late (R274). -/
def State.sceneCommit (s : State) (j : Job) : State :=
  match s.job? j with
  | none => s
  | some x =>
    if s.tcReached x then s.commitJob x false
    else
      match j with
      | .cue c => if s.instantMissed x c then s.instantLate x c else s
      | _ => s

/-- A cue is disarmed (R280): where T_c has been reached, its commit is made and is the last. -/
def State.cueDisarmNow (s : State) (c : BitVec 12) : State :=
  if s.cueFree c then s
  else
    match s.job? (.cue c) with
    | none => s
    | some x => if s.tcReached x then s.commitJob x true else (s.endCue c 0 6).locksFreed

/-- CUE_OP.DISARM (R280, R313). -/
def State.cueDisarm (s : State) (c : BitVec 12) : State :=
  if s.cueClosed c then s.viol .cue .consistency else (s.cueDisarmNow c).mirCue c (.disarm c)

end Sys2Proof.Machine
end

