-- ==== Sys2Proof/Machine/View.lean ====
section
/-!
DEFINITION. Machine/View.lean: what a read of any register returns (R5, R12), with what the read itself does: the latch of
TIME_NOW (R204), the response exit of an engine (R293), the slot record of CHK_STAT.
-/
namespace Sys2Proof.Machine

/-- Handshakes of checker work waiting (R258, R259): validations that are due and copies of STOREs. -/
def State.checkLoad (s : State) : Nat :=
  ((s.scene.jobs.filter (fun x => x.phase == .due)).map (fun x => 400 + 36 * (s.extent x.scene).2)).sum +
  (s.scene.storing.map (fun x => 100 + 12 * s.openLen x.src)).sum

/-- The highest number of staging slots in use on a page now (R265). -/
def State.slotsNow (s : State) : Nat :=
  (regPages (s.scene.jobs.flatMap (fun x => if x.phase == .staged then x.locks else []))).foldl (fun m n => max m (s.slotsUsed n)) 0

/-- Live fields of the HOUSE page. -/
def State.liveHouse (s : State) (off : Nat) : Live :=
  if off = 0x048 then known [(HouseR.SERIAL_HI_SERIAL, (Config.serial >>> 32).toNat)]
  else if off = 0x04C then known [(HouseR.SERIAL_LO_SERIAL, Config.serial.toNat)]
  else if off = 0x068 then known [(HouseR.ADM_Q_BUDGET, s.budget), (HouseR.ADM_Q_Q, satNat 0xFFFF s.admQ)]
  else if off = 0x080 then known [(HouseR.EVT_SUM_HI_SUM, (s.evtSum >>> 32).toNat)]
  else if off = 0x084 then known [(HouseR.EVT_SUM_LO_SUM, s.evtSum.toNat)]
  else if 0x0E0 ≤ off ∧ off < 0x100 then known [(⟨off, 31, 0⟩, (s.grpPend (grpAt ((off - 0x0E0) / 4))).toNat)]
  else {}

/-- REC_STAT, REC_SEQ and REC_TIME of the region REC_SEL selects (R346, R348, R349). -/
def State.liveNvm (s : State) (off : Nat) : Live :=
  let r := s.f .nvm NvmR.REC_SEL_REGION
  let fall := r == 7
  let act := s.activeSlot r
  let rec_ : Option Nat := if fall then s.fallNewest else if act = 0 then none else some (slotBase r act)
  if off = 0x05C then
    known [(NvmR.REC_STAT_A_VALID, b2n (if fall then rec_.isSome else s.recValid r (slotBase r 1) (slotSize r))),
      (NvmR.REC_STAT_B_VALID, b2n (!fall && s.recValid r (slotBase r 2) (slotSize r))),
      (NvmR.REC_STAT_ACTIVE, if fall then b2n rec_.isSome else act), (NvmR.REC_STAT_FREE, if fall then s.fallFree else 0)]
  else if off = 0x060 then known [(NvmR.REC_SEQ_SEQ, (rec_.map s.recSeq).getD 0)]
  else if off = 0x064 then known [(NvmR.REC_TIME_TIME, (rec_.map s.recTime).getD 0)]
  else {}

/-- Live fields of the CUE page. -/
def State.liveCue (s : State) (off : Nat) : Live :=
  let n := s.f .cue CueR.SCENE_SEL_SCENE
  if off = 0x04C then
    known [(CueR.OPEN_STAT_CLOSING, b2n (s.closing 1023)), (CueR.OPEN_STAT_OVERFLOW, b2n (s.scene.overflow.contains 1023)),
      (CueR.OPEN_STAT_ENTRIES, s.openLen 1023)]
  else if off = 0x054 then known [(CueR.SCENE_DESC_BASE, (s.extent n).1), (CueR.SCENE_DESC_LEN, (s.extent n).2)]
  else if off = 0x058 then known [(⟨0x058, 31, 0⟩, (s.sceneStat n).toNat)]
  else if off = 0x05C then known [(CueR.FREE_CUES_FREE, s.freeCues)]
  else if off = 0x074 then
    known [(CueR.CHK_STAT_LOAD, satNat 0xFFFF s.checkLoad),
      (CueR.CHK_STAT_DEFERRED, satNat 0xFF (s.scene.jobs.filter (fun x => x.phase == .deferred)).length),
      (CueR.CHK_STAT_SLOTS_FULL, satNat 4 s.scene.slotsHigh)]
  else {}

/-- Live fields of the TWIN page. -/
def State.liveTwin (s : State) (off : Nat) : Live :=
  let sel (k : Nat) : Nat := (List.range 32).foldl (fun m i => if s.selOk (laneAt (k + i)) then m + 2 ^ i else m) 0
  let c : Option (TwinCoef × Nat) := tabGet (fun _ => none) s.twin.coefs (s.f .twin TwinR.MIR_SEL_PATH)
  let w (f : TwinCoef → Word) : Live := known [(⟨off, 31, 0⟩, ((c.map (fun x => f x.1)).getD 0).toNat)]
  if off = 0x054 then
    match if s.sdState = 3 then s.reenterBlock else none with
    | some b => known [(TwinR.SD_STAT_BLOCK_LP, b.1.val), (TwinR.SD_STAT_BLOCK_WHY, b.2)]
    | none => {}
  else if off = 0x058 then known [(TwinR.SEL_OK_LO_SEL_OK, sel 0)]
  else if off = 0x05C then known [(TwinR.SEL_OK_HI_SEL_OK, sel 32)]
  else if off = 0x088 then known [(TwinR.MIR_CRC_OWN, s.mirCrc.toNat)]
  else if off = 0x0A4 then
    known [(TwinR.MIR_AGE_AGE, match c with | some x => satNat 0xFFFF (s.msSince x.2) | none => 0xFFFF)]
  else if off = 0x0A8 then w (·.ctle)
  else if off = 0x0AC then w (·.dfe)
  else if off = 0x0B0 then w (·.fir0)
  else if off = 0x0B4 then w (·.fir1)
  else if 0x0B8 ≤ off ∧ off ≤ 0x0F4 then w (fun x => x.ffe.getD ((off - 0x0B8) / 4) 0)
  else {}

/-- PORT_STAT of a frame port. -/
def State.portStat (s : State) (k : Port) : Live :=
  let code (p : Option Path) : Nat := (p.map (·.val)).getD 0x7F
  known [(FrameR.PORT_STAT_UM_QUEUED k.val, (s.port k).um.length), (FrameR.PORT_STAT_EXT_PATH k.val, code (s.extPath k)),
    (FrameR.PORT_STAT_INS_PATH k.val, code (s.insPath k)), (FrameR.PORT_STAT_EXT_READY k.val, b2n (s.extReady k)),
    (FrameR.PORT_STAT_INS_READY k.val, b2n (s.insReady k))]

/-- SPI_STAT (R423): the RETURN code of the head, and the reads pending. -/
def State.spiHead (s : State) : Nat :=
  match s.spi.ret with
  | [] => 0
  | x :: _ => match x.ready with
    | none => 2
    | some none => 3
    | some (some _) => 1

/-- Live fields of the SEC page. -/
def State.liveSec (s : State) (off : Nat) : Live :=
  if off = 0x040 then
    known [(SecR.SEC_STAT_RNG_OK, b2n Config.rngOk), (SecR.SEC_STAT_UM1, umState s.security.um1),
      (SecR.SEC_STAT_UM0, umState s.security.um0), (SecR.SEC_STAT_IMGKEY_REVOKED, s.security.imgRev.toNat),
      (SecR.SEC_STAT_IMGKEY_PRESENT, (List.range 4).foldl (fun m k => if Config.imgKeyPresent k then m + 2 ^ k else m) 0),
      (SecR.SEC_STAT_SVN_FLOOR, s.security.svn)]
  else if off = 0x078 then
    known [(SecR.SESS_STAT_LAST_OPENED, s.security.lastNum), (SecR.SESS_STAT_OPEN, s.security.sessions.length)]
  else if 0x080 ≤ off ∧ off < 0x0A0 then
    let k := (off - 0x080) / 4
    match s.security.sessions.find? (fun e => e.place == k) with
    | some e =>
      known [(SecR.SESS_VALID k, 1), (SecR.SESS_SLOT k, e.slot), (SecR.SESS_AGE_S k, satNat 0x3FFF ((s.elapsed - e.at_) / 10 ^ 15)),
        (SecR.SESS_SESSION k, e.num)]
    | none => {}
  else {}

/-- Live fields of a register of a device page. -/
def State.liveDev (s : State) (p : Page) (off : Nat) : Live :=
  match p with
  | .house => s.liveHouse off
  | .supply =>
    if off = 0x064 then
      known [(SupplyR.HUP_CAP_AGE, if s.supply.tested then satNat 0xFFF ((s.elapsed - s.supply.testAt) / (6 * 10 ^ 16)) else 0xFFF)]
    else {}
  | .pstate =>
    if off = 0x048 then
      known (allGroups.flatMap (fun g => [((⟨0x048, 4 * g.val + 3, 4 * g.val + 3⟩ : Fld), b2n (s.grp g).pend.isSome),
        ((⟨0x048, 4 * g.val + 2, 4 * g.val⟩ : Fld), s.pwrState g)]))
    else {}
  | .nvm => s.liveNvm off
  | .cal =>
    if off = 0x044 then
      known [(CalR.CAL_STAT_PENDING,
         allGroups.foldl (fun m g => if (grpPaths g).any (fun q => !(s.pend q).isEmpty) then m + 2 ^ g.val else m) 0),
        (CalR.CAL_STAT_RUNNING, allGroups.foldl (fun m g => if s.calOn g then m + 2 ^ g.val else m) 0)]
    else if off = 0x04C then known [(CalR.CAL_STORE_AGE_H, s.calAge)]
    else {}
  | .reh =>
    if off = 0x048 then
      if s.f .reh RehR.REH_STAT_STATE = 2 then { free := [(RehR.REH_STAT_PROGRESS, 0, 101)] } else {}
    else if off = 0x0A0 then
      known [(RehR.REP_STAT_SOFT, s.reh.soft.length), (RehR.REP_STAT_FUSED, s.reh.fuses.length),
        (RehR.REP_STAT_ENG_RET_V, b2n s.mapEngine.isSome), (RehR.REP_STAT_ENG_RET, s.mapEngine.getD 0)]
    else {}
  | .time => if off = 0x058 then known [(TimeR.TIME_STAT_HOLD_AGE, s.holdAge)] else {}
  | .cue => s.liveCue off
  | .twin => s.liveTwin off
  | .frame =>
    if 0x080 ≤ off ∧ off < 0x180 ∧ (off - 0x080) % 64 = 0x20 then s.portStat ⟨(off - 0x080) / 64 % 4, by omega⟩ else {}
  | .twt =>
    if off = 0x044 then
      let req := s.on .house HouseR.ATTN_STAT_PROMPT_REQ
      { known := [(TwtR.TWT_STAT_PROMPT_PEND, b2n req)],
        free := (if req && s.twt.xfer == .none then [anyCode TwtR.TWT_STAT_PROMPTING] else []) ++
          [anyCode TwtR.TWT_STAT_SDA, anyCode TwtR.TWT_STAT_SCL] }
    else {}
  | .twc =>
    if off = 0x048 then
      { free := (if s.f .twc TwcR.TWC_STAT_STATE = 3 then
            [(TwcR.TWC_STAT_STATE, 2, 2), (TwcR.TWC_STAT_ATTEMPTS, s.twc.retries, 2)] else []) ++
          [anyCode TwcR.TWC_STAT_SDA, anyCode TwcR.TWC_STAT_SCL] }
    else {}
  | .spi => if off = 0x044 then known [(SpiR.SPI_STAT_HEAD, s.spiHead), (SpiR.SPI_STAT_PENDING, s.spi.ret.length)] else {}
  | .sec => s.liveSec off
  | _ => {}

/-- The fields of a register that are live, of whatever page. -/
def State.live? (s : State) (p : Page) (off : Nat) : Live :=
  if off < 0x040 || !devicePage p then s.liveBlock p off else s.liveDev p off

/-- What a register holds, with its live fields but for the free ones. -/
def State.view (s : State) (p : Page) (off : Nat) : Word := putFlds (s.rd (pageAddr p off)) (s.live? p off).known

/-- Whether a read of a block register returns what was saved at BUSY (R34). -/
def State.readsSaved (s : State) (p : Page) (off : Nat) : Bool := decide (0x040 ≤ off) && s.busyOf p == .rehearsal

/-- Slots of a source's copies (R44): words 1 to 3 of TIME_NOW; the staged command words, and the response words, of each
engine. -/
def timeSlot (i : Nat) : Nat := i
def cmdSlot (e : Eng) (i : Nat) : Nat := 16 + 8 * e.val + i
def rspSlot (e : Eng) (i : Nat) : Nat := 16 + 8 * e.val + 4 + i

/-- A read of TIME_NOW word `i` (R204): word 0 latches the others for its source. -/
def State.readTimeNow (s : State) (c : Src) (i : Nat) : State × Word :=
  if i = 0 then
    let q := s.stamp
    (((s.setLatch c (timeSlot 1) (quadWord q 1)).setLatch c (timeSlot 2) (quadWord q 2)).setLatch c (timeSlot 3) (quadWord q 3),
      quadWord q 0)
  else (s, s.latched c (timeSlot i))

/-- A read of RSPQ word `i` (R293): word 0 removes the head and latches its other words for its source. -/
def State.readRspq (s : State) (c : Src) (e : Eng) (i : Nat) : State × Word :=
  if i = 0 then
    let r := s.popAnswer e
    let q := r.1
    (((r.2.setLatch c (rspSlot e 1) (quadWord q 1)).setLatch c (rspSlot e 2) (quadWord q 2)).setLatch c (rspSlot e 3) (quadWord q 3),
      quadWord q 0)
  else (s, s.latched c (rspSlot e i))

/-- A read of the register at `off` of page `p` by a source: its value and what the read does. -/
def State.readReg (s : State) (c : Src) (p : Page) (off : Nat) : State × Word :=
  if s.readsSaved p off then (s, tabGet regReset s.reh.saved (pageAddr p off))
  else
    match p with
    | .time =>
      if 0x040 ≤ off ∧ off < 0x050 then s.readTimeNow c ((off - 0x040) / 4) else s.drawFlds (s.view p off) (s.live? p off).free
    | .stage e =>
      if 0x080 ≤ off ∧ off < 0x08C then (s, s.latched c (cmdSlot e ((off - 0x080) / 4)))
      else if 0x0A0 ≤ off ∧ off < 0x0B0 then s.readRspq c e ((off - 0x0A0) / 4)
      else s.drawFlds (s.view p off) (s.live? p off).free
    | .cue =>
      let w := s.view p off
      if off = 0x074 then ({ s with scene := { s.scene with slotsHigh := s.slotsNow } }, w) else (s, w)
    | _ => s.drawFlds (s.view p off) (s.live? p off).free

end Sys2Proof.Machine
end

