-- ==== Sys2Proof/Machine/Writes.lean ====
section
/-!
DEFINITION. Machine/Writes.lean: a direct write of a register (R5, R20, R38), and what the writes of the pages that no scene names
bring about: HOUSE, NVM, CUE and SEC.
-/
namespace Sys2Proof.Machine

/-- The HOUSE page: FAB_CTL, SOFT_EVT and RESET_CTL (R49, R447, R460, R462). -/
def State.effHouse (s : State) (off : Nat) (act wrote : Word) : State :=
  if off = 0x060 then (if wbit act 0 then s.setF .house HouseR.FAB_SPEED_RATE_MIN (s.f .house HouseR.FAB_SPEED_RATE) else s)
  else if off = 0x0C0 then (if wbit act 31 then s.softEvent else s)
  else if off = 0x100 && covers wrote HouseR.RESET_CTL_OP then
    match s.f .house HouseR.RESET_CTL_OP with
    | 1 => s.resetAsk 1 (s.f .house HouseR.RESET_CTL_TARGET)
    | 2 => s.resetAsk 2 (s.f .house HouseR.RESET_CTL_TARGET)
    | 3 => s.houseReset1 2
    | _ => s
  else s

def State.effNvm (s : State) (off : Nat) (wrote : Word) : State :=
  if off = 0x040 && covers wrote NvmR.NVM_CMD_OP && s.f .nvm NvmR.NVM_CMD_OP != 0 then
    s.nvmCmd (s.f .nvm NvmR.NVM_CMD_OP) (s.f .nvm NvmR.NVM_CMD_REGION)
  else s

def State.effSec (s : State) (off : Nat) (wrote : Word) : State :=
  if off = 0x044 && covers wrote SecR.SEC_CTL_OP && s.f .sec SecR.SEC_CTL_OP != 0 then
    s.keyOp (s.f .sec SecR.SEC_CTL_OP) (s.f .sec SecR.SEC_CTL_VALUE) (s.f .sec SecR.SEC_CTL_SLOT)
  else s

/-- STORE of the host's open scene: on a follow one into the mirrored range fails with the range cause (R313). -/
def State.hostStore (s : State) (w : Option Eng) (n base : Nat) : State :=
  if s.closing (openScene w) then s
  else if s.follow && (decide (n ≤ 503) || decide (base < 15104)) && !s.scene.overflow.contains (openScene w) then
    (s.openStat w 1 2 6).emptyOpen (openScene w)
  else s.openStore w n base

/-- CUE_OP.ARM (R273, R313). -/
def State.armOp (s : State) (c : BitVec 12) : State :=
  if s.cueClosed c then s.viol .cue .consistency
  else (s.cueArm c).mirCue c (.arm c)

/-- CUE_OP and OPEN_OP (R257, R273, R280). -/
def State.effCue (s : State) (off : Nat) (wrote : Word) : State :=
  if off = 0x044 && covers wrote CueR.CUE_OP_OP then
    let c : BitVec 12 := BitVec.ofNat 12 (s.f .cue CueR.CUE_OP_CUE)
    match s.f .cue CueR.CUE_OP_OP with
    | 1 => s.armOp c
    | 2 => s.cueDisarm c
    | _ => s
  else if off = 0x048 && covers wrote CueR.OPEN_OP_OP then
    match s.f .cue CueR.OPEN_OP_OP with
    | 1 => s.hostStore none (s.f .cue CueR.OPEN_OP_SCENE) (s.f .cue CueR.OPEN_OP_BASE)
    | 2 => s.openCommit none
    | 3 => s.openDiscard none
    | _ => s
  else s

/-- A write of SCENE_DESC sets the extent of the scene in SCENE_SEL (R255, R313); one that the rules refuse, or that touches RSV
bits, counts one ACCESS violation. -/
def State.descReg (s : State) (data mask : Word) : State :=
  let n := s.f .cue CueR.SCENE_SEL_SCENE
  let w := merge (s.view .cue 0x054) data mask
  let t := if s.descClosed n then none else s.descWrite (fget w 30 16) (fget w 8 0)
  let touched := if n < 1008 then data &&& mask &&& roMask .cue 0x054 else data &&& mask
  let s := (t.getD s).violIf ((t.isNone && decide (n < 1008)) || touched != 0) .cue .access
  if t.isSome && decide (n ≤ 503) then
    s.mirSent (.desc (BitVec.ofNat 10 n) (BitVec.ofNat 15 (fget w 30 16)) (BitVec.ofNat 9 (fget w 8 0)))
  else s

/-- Every effect of a direct write. -/
def State.directEffect (s : State) (p : Page) (off : Nat) (old act wrote : Word) : State :=
  if off < 0x040 then s.effHeader p off old act
  else
    match p with
    | .house => s.effHouse off act wrote
    | .nvm => s.effNvm off wrote
    | .cue => s.effCue off wrote
    | .sec => s.effSec off wrote
    | _ => s.effect p off old act wrote

/-- Whether an engine may write a page: one that it owns and that is not held (R32, R38). -/
def State.engineWrites (s : State) (e : Eng) (p : Page) : Bool :=
  (match p with
   | .group g => s.owner g == e.val
   | .path q => s.owner (pathGrp q) == e.val
   | _ => false) && !s.inHold p

/-- A direct write without effect, and the violation it counts (R38, R208, R476 and the keyed registers): none where it takes
effect. `d`: the ones written. -/
def State.noWrite (s : State) (c : Src) (p : Page) (off : Nat) (d : Word) : Option Viol :=
  let closed : Bool := match c with
    | .eng e => decide (off < 0x040) || !s.engineWrites e p
    | .um _ => p == .sec || (decide (0x040 ≤ off) && s.on p Hdr.LOCK_WLOCK)
    | _ => decide (0x040 ≤ off) && s.on p Hdr.LOCK_WLOCK
  let lead : Bool := match c with
    | .eng _ => false
    | _ => p == .time && off == 0x054 && s.f .time TimeR.TIME_CTL_SRC == 2
  if closed || lead then some .access else if keyRefused p off d then some .consistency else none

/-- A staged word, and the append that the last word makes (R44, R290). -/
def State.cmdWord (s : State) (c : Src) (e : Eng) (off : Nat) (data mask : Word) : State :=
  s.setLatch c (cmdSlot e ((off - 0x080) / 4)) (merge (s.latched c (cmdSlot e ((off - 0x080) / 4))) data mask)

/-- The append made by a write of word 0x08C. -/
def State.cmdLast (s : State) (c : Src) (p : Page) (off : Nat) : State :=
  match p with
  | .stage e =>
    if off = 0x08C then
      s.cmdAppend e (quadOf (s.latched c (cmdSlot e 0)) (s.latched c (cmdSlot e 1)) (s.latched c (cmdSlot e 2))
        (s.rd (pageAddr p 0x08C)))
    else s
  | _ => s

/-- How the register at `off` of page `p` takes a direct write: by the extent of a scene, as a staged command word, or by the
access codes of its fields. -/
inductive WrKind where
  | desc
  | staged (e : Eng)
  | fields
  deriving DecidableEq, Repr

def wrKind (p : Page) (off : Nat) : WrKind :=
  if p == .cue && off == 0x054 then .desc
  else
    match (if isCmdWord p off then p else .house) with
    | .stage e => .staged e
    | _ => .fields

/-- What a direct write of one register stores, before anything it brings about: its fields, or a staged word, and the violations
it counts. Whether it has an effect at all, and what its fields held, is as in `u`. -/
def State.regPut (u : State) (c : Src) (p : Page) (off : Nat) (data mask : Word) (s : State) : State :=
  match u.noWrite c p off (data &&& mask) with
  | some .access => s.viol p .access
  | some k => (s.violIf (writeOut u.rd false p off data mask).access p .access).viol p k
  | none =>
    let s := s.pageStored (pageAddr p off)
    match wrKind p off with
    | .desc => s
    | .staged e => s.cmdWord c e off data mask
    | .fields => s.regStore p off (writeOut u.rd false p off data mask)

/-- What a direct write of one register brings about once it is stored. An RW field that kept its code (R90) starts nothing. -/
def State.regAct (u : State) (c : Src) (p : Page) (off : Nat) (data mask : Word) (s : State) : State :=
  match u.noWrite c p off (data &&& mask) with
  | some _ => s
  | none =>
    match wrKind p off with
    | .desc => s.descReg data mask
    | .staged _ => s
    | .fields =>
      let o := writeOut u.rd false p off data mask
      (s.directEffect p off (u.rd (pageAddr p off)) o.act (mask &&& ~~~o.bad)).cmdLast c p off

/-- A direct write of the register at `off` of page `p` takes effect. -/
def State.regWrite (s : State) (c : Src) (p : Page) (off : Nat) (data mask : Word) : State :=
  State.regAct s c p off data mask (State.regPut s c p off data mask s)

/-- A direct write of the registers of a quad takes effect: all of them are stored before any of them acts (R4). -/
def State.quadWrite (s : State) (c : Src) (p : Page) (ws : List (Nat × Word × Word)) : State :=
  let put := forAll ws (fun w t => State.regPut s c p w.1 w.2.1 w.2.2 t) s
  forAll ws (fun w t => State.regAct s c p w.1 w.2.1 w.2.2 t) put

end Sys2Proof.Machine
end

