-- ==== Sys2Proof/Machine/Fabric.lean ====
section
/-!
DEFINITION. Machine/Fabric.lean: the access queue. Which operations are refused when offered (R2), and what an admitted one does when
it takes effect: registers, wings (R39 to R43) and memory windows (R24 to R26).
-/
namespace Sys2Proof.Machine

/-- The registers a write covers, with their bits: up to four words from an aligned address. -/
structure WordWrite where
  addr : Nat
  data : Word
  mask : Word
  deriving DecidableEq, Repr

def isQuad (k : AccKind) : Bool := k == .write128 || k == .read128
def isWrite (k : AccKind) : Bool := k == .write32 || k == .write128
/-- The size of an access in bytes, and its aligned address (R26). -/
def accSize (k : AccKind) : Nat := if isQuad k then 16 else 4
def accAddr (x : Access) : Nat := x.addr.toNat / accSize x.kind * accSize x.kind

/-- The words of an access, one for each register it covers. -/
def accWords (x : Access) : List WordWrite :=
  if isQuad x.kind then
    (List.range 4).map (fun i =>
      ⟨accAddr x + 4 * i, quadWord x.data i, byteMask ((x.mask >>> (12 - 4 * i)).setWidth 4 : BitVec 4)⟩)
  else [{ addr := accAddr x, data := x.data.setWidth 32, mask := byteMask (x.mask.setWidth 4) }]

/-! ### Refusals -/

/-- A write of a register waits in the access queue, with a word of some kind. -/
def State.waits (s : State) (p : Page) (off : Nat) (f : Word → Bool) : Bool :=
  s.access.any (fun x => isWrite x.kind && (accWords x).any (fun w => w.addr == pageAddr p off && f (w.data &&& w.mask)))

/-- The request for DARK (R370). -/
def isDark (w : Word) : Bool := wbit w 0 && fget w 15 8 == 0xDA

/-- Management serves no operation: test 4, DARK and its admission, a house reset, and a device that has not reached step 3 of
its start (R2, R370, R404, R462, R467). -/
def State.closedToAll (s : State) : Bool :=
  s.reh.mute || s.houseReset || !(s.device == .ready || s.device == .starting) || s.waits .pstate 0x040 isDark

/-- The open scene of a source (R39). -/
def srcScene : Src → Nat
  | .eng e => openScene (some e)
  | _ => openScene none

/-- A host's open scene is closing from the admission of STORE or COMMIT (R257). -/
def State.hostClosing (s : State) : Bool :=
  s.closing 1023 || s.waits .cue 0x048 (fun w => fget w 31 28 == 1 || fget w 31 28 == 2)

def State.sceneClosing (s : State) (c : Src) : Bool :=
  match c with
  | .eng e => s.closing (openScene (some e))
  | _ => s.hostClosing

/-- A curtain or a start-up rehearsal refuses every write but those to REH_CTL; one of another OP than ABORT is then refused under
R397 (R398, R423, R468). -/
def State.rehRefuses (s : State) (a : Nat) : Bool :=
  s.reh.opened && decide (s.rehScope ≤ 1) && a != pageAddr .reh 0x040

/-- A register write is refused (R2, R20, R34, R257, R260, R290, R351, R460, R467). -/
def State.regRefused (s : State) (p : Page) (off : Nat) : Bool :=
  let lanes : Bool := match p with | .group _ | .path _ => true | _ => false
  let block : Bool := off == 0x008 || decide (0x040 ≤ off)
  (s.device == .starting && lanes) ||
  (block && s.busyOf p != .no) ||
  s.locked (pageAddr p off) ||
  (p == .house && off == 0x100 && s.rstState != 0) ||
  (p == .nvm && decide (0x400 ≤ off) && (s.f .nvm NvmR.NVM_STAT_STATE != 0 || s.waits .nvm 0x040 (fun w => fget w 31 28 != 0))) ||
  (p == .cue && off == 0x048 && s.hostClosing) ||
  (match p with
   | .stage e => off == 0x08C && decide ((s.engRec e).cmdq.length + s.cmdAdmitted e ≥ 16)
   | _ => false)

/-- A write of one word is refused when it is offered. -/
def State.wordRefused (s : State) (c : Src) (a : Nat) : Bool :=
  s.rehRefuses a ||
  (match placeOf a with
   | .page p off => if off < 0x800 then s.regRefused p off else s.sceneClosing c ||
       (s.device == .starting && (match p with | .group _ | .path _ => true | _ => false))
   | _ => false)

/-- An operation is refused whatever the fabric's load. -/
def State.refuses (s : State) (x : Access) : Bool :=
  s.closedToAll || (isWrite x.kind && (accWords x).any (fun w => w.mask != 0 && s.wordRefused x.src w.addr))

/-! ### Wings -/

/-- The byte mask of an entry: bit k is byte k of the quad (R39). -/
def wingMask (x : Access) : BitVec 16 :=
  if isQuad x.kind then x.mask.reverse
  else (((x.mask.setWidth 4 : BitVec 4).reverse.setWidth 16 : BitVec 16)) <<< (x.addr.toNat / 4 % 4 * 4)

/-- The data of an entry: the written bytes, zero elsewhere. -/
def wingData (x : Access) : BitVec 128 :=
  let w (i : Nat) : Word :=
    if isQuad x.kind then quadWord x.data i &&& byteMask (((x.mask >>> (12 - 4 * i)).setWidth 4 : BitVec 4))
    else if x.addr.toNat / 4 % 4 = i then x.data.setWidth 32 &&& byteMask (x.mask.setWidth 4) else 0
  quadOf (w 0) (w 1) (w 2) (w 3)

/-- A wing write (R39 to R42): one entry more in the writer's open scene. -/
def State.wingWrite (s : State) (x : Access) (p : Page) (off : Nat) : State :=
  let n := srcScene x.src
  let o := off - 0x800
  if o < 0x40 && (isQuad x.kind || (o != 0x008 && o != 0x014)) then s.viol p .access
  else if s.openLen n ≥ 256 then
    { s with scene := { s.scene with overflow := s.scene.overflow.filter (· != n) ++ [n] } }.viol p .access
  else
    let e : SEntry := { addr := pageAddr p (o / 16 * 16), mask := wingMask x, data := wingData x }
    let s := s.msetList (poolAddr ((s.extent n).1 + s.openLen n)) (entryBytes e)
    { s with scene := { s.scene with openLen := tabSet (fun _ => 0) s.scene.openLen n (s.openLen n + 1) } }

/-- The present value of a register whose direct read does something, for a read that does not (R43): the time now, the source's
own copies (R44), and the head of a response queue, which stays (log 151). -/
def State.peek (s : State) (c : Src) (p : Page) (off : Nat) : Option Word :=
  match p with
  | .time => if 0x040 ≤ off ∧ off < 0x050 then some (quadWord s.stamp ((off - 0x040) / 4)) else none
  | .stage e =>
    if 0x080 ≤ off ∧ off < 0x08C then some (s.latched c (cmdSlot e ((off - 0x080) / 4)))
    else if 0x0A0 ≤ off ∧ off < 0x0B0 then some (s.readRspq c e ((off - 0x0A0) / 4)).2
    else none
  | _ => none

/-- A wing read of one register (R43): its value, with the reader's entries laid over it. -/
def State.wingRead (s : State) (c : Src) (p : Page) (off : Nat) : State × Word :=
  let r := if s.readsSaved p off then (s, tabGet regReset s.reh.saved (pageAddr p off))
    else
      match s.peek c p off with
      | some w => (s, w)
      | none => s.drawFlds (s.view p off) (s.live? p off).free
  (r.1, (s.sceneEntries (srcScene c)).foldl (fun w e =>
    (entryWrites e.2).foldl (fun w y => if y.1 = pageAddr p off then merge w y.2.2 y.2.1 else w) w) r.2)

/-! ### Memory windows -/

/-- Bytes written into a window: those that the mask covers. -/
def State.windowPut (s : State) (ws : List WordWrite) : State :=
  forAll ws (fun w s =>
    let new := merge (s.mword w.addr) w.data w.mask
    if new == s.mword w.addr then s.msetList w.addr (wordBytes new)
    else
      let s := s.msetList w.addr (wordBytes new)
      if mirrored w.addr then s.mirSent (.write (BitVec.ofNat 32 w.addr) (wordBytes new)) else s) s

/-- Ranges of a port's region that the host only reads (R239). -/
def frameRo (a : Nat) : Bool := let o := a % 0x10000; decide (0x1000 ≤ o) && decide (o < 0x3000)

/-- A window write (R24, R253, R270, R273, R284, R313). -/
def State.windowWrite (s : State) (x : Access) : State :=
  let a := accAddr x
  let ws := (accWords x).filter (fun w => w.mask != 0)
  match placeOf a with
  | .imem e | .dmem e => s.viol (ep e) .access
  | .frames => if frameRo a then s.viol .frame .access else s.windowPut ws
  | .trace => s.windowPut ws
  | .pool =>
    let i := (a - 0x00400000) / 32
    if decide (i ≥ 30208) || s.poolClosed i then s.viol .cue .access else s.windowPut ws
  | .sheet =>
    let c : BitVec 12 := BitVec.ofNat 12 ((a - 0x00700000) / 32)
    let mine := ws.filter (fun w => w.addr % 32 < 24)
    let shut := !s.cueFree c || s.cueClosed c
    let s := s.violIf (mine.length != ws.length || (shut && !mine.isEmpty)) .cue .access
    if shut then s else s.windowPut mine
  | _ => s.violUnmapped

/-- Bytes of the trace memory: those that a running capture has written so far hold what it captured, which is a free value until its
end gives the bytes (R106, log 1). -/
def State.traceBytes (s : State) (a n : Nat) : State × List Byte :=
  (List.range n).foldl (fun r i =>
    let o := a + i - 0x00600000
    if r.1.capFresh (grpAt (o / 0x10000)) (o % 0x10000) then (r.1.draw.2, r.2 ++ [r.1.draw.1.setWidth 8])
    else (r.1, r.2 ++ [r.1.mget (a + i)])) (s, [])

/-- The number that bytes spell, most significant first (R4). -/
def beNum (l : List Byte) : Nat := l.foldl (fun n b => n * 256 + b.toNat) 0

/-- A window read: its bytes as words, and whether it met an uncorrectable error (R9, R284). -/
def State.windowRead (s : State) (k : AccKind) (a : Nat) : State × List Word × Bool :=
  let n := accSize k
  let words := (List.range (n / 4)).map (fun i => s.mword (a + 4 * i))
  let zeros := words.map (fun _ => (0 : Word))
  match placeOf a with
  | .imem _ => (s, zeros, false)
  | .dmem e =>
    if [egRunning, egStarting, egLoading].contains (s.eng e) then (s.viol (ep e) .access, zeros, false)
    else
      let r := s.sramRead a n
      (r.1, if r.2 then zeros else words, r.2)
  | .unmapped => (s.violUnmapped, zeros, false)
  | .trace =>
    let r := s.sramRead a n
    if r.2 then (r.1, zeros, true)
    else
      let d := r.1.traceBytes a n
      (d.1, (List.range (n / 4)).map (fun i => BitVec.ofNat 32 (beNum (d.2.drop (4 * i) |>.take 4))), false)
  | _ =>
    let r := s.sramRead a n
    (r.1, if r.2 then zeros else words, r.2)

/-! ### Operations -/

/-- The violation of a misaligned access (R26, R503). -/
def State.alignCheck (s : State) (x : Access) : State :=
  if x.addr.toNat % accSize x.kind = 0 then s
  else
    match placeOf (accAddr x) with
    | .page p _ => s.viol p .access
    | _ =>
      match windowPage (accAddr x) with
      | some p => s.viol p .access
      | none => s.violUnmapped

/-- A write of the FRAME page keeps the time of its admission, from which the deadlines of the frames it posts run (R236). -/
def State.admittedAt (s : State) (p : Page) (t : Nat) : State :=
  if p = .frame then forAll (List.finRange 4) (fun k s => s.setPort k { s.port k with tailAt := t }) s else s

/-- An admitted write takes effect (R12). A quad is written atomically (R4); the violation of a misaligned write counts after what
it clears (R36). -/
def State.takeWrite (s : State) (x : Access) : State :=
  let t :=
    match placeOf (accAddr x) with
    | .page p off =>
      if off < 0x800 then
        (s.admittedAt p x.at_).quadWrite x.src p
          (((accWords x).filter (fun (w : WordWrite) => w.mask != 0)).map (fun (w : WordWrite) => (w.addr % 4096, w.data, w.mask)))
      else s.wingWrite x p off
    | _ => s.windowWrite x
  t.alignCheck x

/-- The words of a list as read data: a 32-bit read in the low bits. -/
def wordsData (l : List Word) : BitVec 128 := l.foldl (fun d w => (d <<< 32) ||| (w.setWidth 128)) 0

/-- What a read of a page meets in the page storage and, in a wing, in the reader's open scene (R9). -/
def State.pageMeets (s : State) (c : Src) (p : Page) (off : Nat) : State × Bool :=
  let m := s.pageRead (pageAddr p (off % 0x800))
  if off < 0x800 then m
  else
    let n := srcScene c
    let r := m.1.sramRead (poolAddr (m.1.extent n).1) (32 * m.1.openLen n)
    (r.1, m.2 || r.2)

/-- An admitted read samples its data (R12): the state, the data, and whether the access failed (R9). -/
def State.takeRead (s : State) (x : Access) : State × BitVec 128 × Bool :=
  let s := s.alignCheck x
  let a := accAddr x
  match placeOf a with
  | .page p off =>
    let m := s.pageMeets x.src p off
    let r := (List.range (accSize x.kind / 4)).foldl (fun (r : State × List Word) i =>
      let o := off + 4 * i
      let v := if o < 0x800 then r.1.readReg x.src p o else r.1.wingRead x.src p (o - 0x800)
      (v.1, r.2 ++ [v.2])) (m.1, [])
    if m.2 then (m.1, 0, true) else (r.1, wordsData r.2, false)
  | _ =>
    let r := s.windowRead x.kind a
    (r.1, wordsData r.2.1, r.2.2)

/-! ### Answers -/

/-- Read data for the SPI target: the oldest read that waits, unless a FLUSH has dropped it (R425). An access that failed forms an
ERROR return. -/
def State.spiReady (s : State) (d : BitVec 128) (bad : Bool) : State :=
  let queued := s.access.countP (fun x => x.src == .spi && !isWrite x.kind)
  if queued > s.spi.ret.countP (fun r => r.ready.isNone) then s
  else
    let ret := (s.spi.ret.foldl (fun (r : List SpiRet × Bool) e =>
      if e.ready.isNone && !r.2 then (r.1 ++ [{ e with ready := some (if bad then none else some d) }], true)
      else (r.1 ++ [e], r.2)) ([], false)).1
    let s := { s with spi := { s.spi with ret := ret } }
    if bad then (s.inc .spi SpiR.SPI_CNT_READ_ERRS).raise .spi 16 else s

/-- The first open answer of a session's requests at a port takes what its command gave (R246). -/
def fillAnswer (st : Byte) (data : List Byte) : List UmAns → Option (List UmAns)
  | [] => none
  | a :: t =>
    if a.open_ then some ({ a with st := st, data := data, open_ := false } :: t)
    else (fillAnswer st data t).map (fun t => a :: t)

/-- Likewise over the requests of a port. -/
def fillTxn (sess : Nat) (st : Byte) (data : List Byte) : List UmTxn → List UmTxn
  | [] => []
  | x :: t =>
    match (if x.sess = sess then fillAnswer st data x.answers else none) with
    | some l => { x with answers := l } :: t
    | none => x :: fillTxn sess st data t

/-- The answer of a Umatan command (R245): ST and data. -/
def State.umReady (s : State) (k : Port) (sess : Nat) (st : Byte) (data : List Byte) : State :=
  s.setPort k { s.port k with txns := fillTxn sess st data (s.port k).txns }

/-- The bytes of read data. -/
def dataBytes (k : AccKind) (d : BitVec 128) : List Byte :=
  (if isQuad k then [quadWord d 0, quadWord d 1, quadWord d 2] else []).flatMap wordBytes ++ wordBytes (quadWord d 3)

/-- A read's data goes to the source that asked for it. -/
def State.deliver (s : State) (x : Access) (d : BitVec 128) (bad : Bool) : State :=
  let s := s.answer x.src d
  match x.src with
  | .spi => s.spiReady d bad
  | .twt => if bad then { s with twt := { s.twt with mute := true } } else s
  | .um k => s.umReady x.port k.val (if bad then 2 else 0) (if bad then [] else dataBytes x.kind d)
  | .eng _ => s

/-- What LAUNCH does when it takes effect (R245, R273, R313): it is REFUSED unless the cue is armed by it. -/
def State.takeLaunch (s : State) (x : Access) : State :=
  let c : BitVec 12 := x.addr.setWidth 12
  let refused : Bool := decide (x.addr.toNat > 4095) || s.cueClosed c || !s.cueFree c || decide (x.data.toNat > 1007)
  let s := if refused then s.viol .cue .consistency
    else
      let s := s.cueLaunch c x.data.toNat
      (s.mirCue c (.write (BitVec.ofNat 32 (cueAddr c)) (s.mbytes (cueAddr c) 4))).mirCue c (.arm c)
  match x.src with
  | .um k => s.umReady x.port k.val (if refused then 4 else 0) []
  | _ => s

/-- The operation at the front of the access queue takes effect. -/
def State.takeAccess (s : State) (x : Access) : State :=
  match x.kind with
  | .launch => s.takeLaunch x
  | .write32 | .write128 =>
    let s := s.takeWrite x
    (match x.src with
     | .um k => s.umReady x.port k.val 0 []
     | _ => s)
  | .read32 | .read128 =>
    let r := s.takeRead x
    r.1.deliver x r.2.1 r.2.2

/-- OPERATION_TAKES_EFFECT (R12, R16): it counts in Q until it is complete. -/
def State.serveAccess (s : State) : State :=
  match s.access with
  | [] => s
  | x :: _ => let s := s.takeAccess x; { s with access := s.access.tail }

/-- An operation joins the access queue, admitted now, or earlier with a reservation (R14, R16, R420). -/
def State.enqueueAt (s : State) (x : Access) : State :=
  let s := s.peak (s.admQ + x.cost)
  { s with access := s.access ++ [x] }
def State.enqueue (s : State) (x : Access) : State := s.enqueueAt { x with at_ := s.elapsed }

/-! ### Operations that a command offers and that take effect with it (log 9) -/

/-- The queue is served to its end: no operation overtakes one that was admitted before it (R16). -/
def State.drain (s : State) : State := (List.range s.access.length).foldl (fun s _ => s.serveAccess) s

/-- A house or full reset discards what is admitted and has not taken effect (R16). -/
def State.opsLost (s : State) : Bool := s.houseReset || !(s.device == .ready || s.device == .starting)

/-- An operation of cost `c` is offered: none if it is not admitted (R14), or is lost to a reset before its turn; else the state at
its turn. -/
def State.offer (s : State) (c : Nat) : Option State :=
  if s.admits s.admQ c then
    let t := (s.peak (s.admQ + c)).drain
    if t.opsLost then none else some t
  else none

/-- What is left where an operation of cost `c` does not take effect: it was refused, or the operations before it took effect. -/
def State.offerElse (s : State) (c : Nat) : State := if s.admits s.admQ c then (s.peak (s.admQ + c)).drain else s

/-- A 32-bit write by a source. -/
def write32Of (c : Src) (a : Nat) (data mask : Word) : Access :=
  let m : BitVec 4 := ((if wbit mask 24 then 8#4 else 0) ||| (if wbit mask 16 then 4#4 else 0) |||
    (if wbit mask 8 then 2#4 else 0) ||| (if wbit mask 0 then 1#4 else 0))
  let x : Access := {
    src := c, kind := .write32, addr := BitVec.ofNat 32 a, data := data.setWidth 128, mask := m.setWidth 16, cost := 0 }
  { x with cost := joinCost x }

/-- A write offered and, unless it is refused, taken. -/
def State.offerAccess (s : State) (x : Access) : State :=
  if s.refuses x then s
  else
    match s.offer x.cost with
    | some t => t.takeWrite { x with at_ := s.elapsed }
    | none => s.offerElse x.cost

/-- A 32-bit write offered: the commands that stand for a whole write of one register. -/
def State.offerWrite (s : State) (c : Src) (a : Nat) (data mask : Word) : State := s.offerAccess (write32Of c a data mask)

end Sys2Proof.Machine
end

