-- ==== Sys2Proof/Machine/Offers.lean ====
section
/-!
DEFINITION. Machine/Offers.lean: the operations that the commands which stand for one access offer (R2, R5): a read, and a write of one
register, of one of its fields, or of an action bit.
-/
namespace Sys2Proof.Machine

/-- Every bit of a register. -/
def allOnes : Word := ~~~0#32

/-- A read offered and, unless it is refused, taken. -/
def State.offerRead (s : State) (c : Src) (k : AccKind) (a : Nat) : State :=
  let x : Access := { src := c, kind := k, addr := BitVec.ofNat 32 a, cost := opCost k a }
  if s.refuses x then s
  else
    match s.offer x.cost with
    | some t =>
      let r := t.takeRead x
      r.1.answer c r.2.1
    | none => s.offerElse x.cost

/-- The cost of an access of one register (R15, R502). -/
def readCost (p : Page) (off : Nat) : Nat := opCost .read32 (pageAddr p off)
def writeCost (c : Src) (p : Page) (off : Nat) (data mask : Word) : Nat := (write32Of c (pageAddr p off) data mask).cost

/-- A 32-bit read of one register, offered and, unless it is refused, taken. -/
def State.offerReadReg (s : State) (c : Src) (p : Page) (off : Nat) : State :=
  if s.closedToAll then s
  else
    match s.offer (readCost p off) with
    | some t =>
      let r := t.readReg c p off
      r.1.answer c (r.2.setWidth 128)
    | none => s.offerElse (readCost p off)

/-- A write of the register at `off` of page `p` is refused when it is offered (R2). -/
def State.regShut (s : State) (p : Page) (off : Nat) : Bool :=
  s.closedToAll || s.rehRefuses (pageAddr p off) || s.regRefused p off

/-- A write of the masked bits of one register, offered and, unless it is refused, taken. -/
def State.offerReg (s : State) (c : Src) (p : Page) (off : Nat) (data mask : Word) : State :=
  if s.regShut p off then s
  else
    match s.offer (writeCost c p off data mask) with
    | some t => t.regWrite c p off data mask
    | none => s.offerElse (writeCost c p off data mask)

/-- A write that gives one field a code and leaves the rest of its register. -/
def State.offerSet (s : State) (c : Src) (p : Page) (x : Fld) (v : Nat) : State :=
  s.offerReg c p x.off (fset 0 x.hi x.lo v) (fldMask x.hi x.lo)

/-- A write of 1 to an action bit. -/
def State.offerAct (s : State) (c : Src) (p : Page) (x : Fld) : State := s.offerSet c p x 1

end Sys2Proof.Machine
end

