-- ==== Sys2Proof/Machine/Ports.lean ====
section
/-!
DEFINITION. Machine/Ports.lean: the SPI target (R420 to R426) and the two-wire target (R427 to R437).
-/
namespace Sys2Proof.Machine

def State.modSpi (s : State) (f : SpiSt → SpiSt) : State := { s with spi := f s.spi }
def State.modTwt (s : State) (f : TwtSt → TwtSt) : State := { s with twt := f s.twt }

/-! ### SPI -/

/-- The SPI target hears a frame: not in full reset, in DARK, without VIO, or after its return without a high SPI_CS_N (R65, R68). -/
def State.spiHears (s : State) : Bool :=
  s.land.vio && s.land.spiArmed && !(s.device == .fullReset || s.device == .dark || s.device == .off)

/-- A frame that the SPI target does not hear ends with SPI_CS_N high, so the next is heard (R65). -/
def State.spiMissed (s : State) : State := { s with land := { s.land with spiArmed := s.land.spiArmed || s.land.vio } }

/-- The reservation of a write frame is released and nothing is written (R420). -/
def State.spiDrop (s : State) : State := s.modSpi (fun x => { x with open_ := none })

/-- A new frame begins in a mode. The frame before it has ended, so a write whose data never completed is a frame fault (R426). -/
def State.spiBegin (s : State) (mode3 : Bool) : State :=
  let s := if s.spi.open_.isSome then s.spiDrop.viol .spi .protocol else s
  s.setB .spi SpiR.SPI_STAT_MODE mode3

/-- The return of a queue entry: its address, then its data, zero for an error (R425). -/
def returnBytes (r : SpiRet) : List Byte :=
  let d : BitVec 128 := (r.ready.getD none).getD 0
  wordBytes r.addr ++ dataBytes (if r.quad then .read128 else .read32) d

/-- The status byte (R423): `head` is the RETURN code at the frame's status byte. -/
def statusByte (code head pending : Nat) : Byte := BitVec.ofNat 8 (code * 64 + head * 16 + pending)

/-- What SDO carries: the status byte, and in a read or status frame the return of a READY or ERROR head, which leaves the queue
once its last bit has been clocked out (R423 to R425). -/
def State.spiOut (s : State) (code head : Nat) (carries full : Bool) : State :=
  let st := statusByte code head s.spi.ret.length
  match s.spi.ret with
  | r :: t =>
    if carries && (head == 1 || head == 3) then
      s.modSpi (fun x => { x with out := st :: returnBytes r, ret := if full then t else x.ret })
    else s.modSpi (fun x => { x with out := [st] })
  | [] => s.modSpi (fun x => { x with out := [st] })

/-- A frame with an operation, up to its status byte: ADMIT is 1 ACCEPTED or 2 BUSY. -/
def State.spiFrame (s : State) (k : AccKind) (mode3 : Bool) (addr : BitVec 32) (full : Bool) : State :=
  if !s.spiHears then s.spiMissed
  else
    let s := s.spiBegin mode3
    let head := s.spiHead
    let x : Access := { src := .spi, kind := k, addr := addr, cost := opCost k addr.toNat }
    let busy := s.refuses x || !s.admits s.admQ x.cost || (!isWrite k && decide (s.spi.ret.length ≥ 4))
    if busy then s.spiOut 2 head (!isWrite k) full
    else
      let s := s.inc .spi SpiR.SPI_CNT_FRAMES
      if isWrite k then
        ((s.peak (s.admQ + x.cost)).modSpi (fun y => { y with open_ := some { x with at_ := s.elapsed } })).spiOut 1 head false false
      else
        ((s.enqueue x).modSpi (fun y => { y with ret := y.ret ++ [⟨addr, isQuad k, none⟩] })).spiOut 1 head true full

/-- A status frame (R423). -/
def State.spiStatus (s : State) (mode3 full : Bool) : State :=
  if !s.spiHears then s.spiMissed
  else
    let s := s.spiBegin mode3
    s.spiOut 0 s.spiHead true full

/-- WRITE_DATA_COMPLETE (R420, R502): the open write joins the access queue at the cost of what its data names. -/
def State.spiComplete (s : State) (data : BitVec 128) : State :=
  match s.spi.open_ with
  | none => s
  | some x =>
    let y := { x with data := data }
    s.spiDrop.enqueueAt { y with cost := joinCost y }

/-- SPI_FRAME_FAULT (R426): one PROTOCOL violation for the frame. -/
def State.spiFault (s : State) (f : SpiFault) (mode3 : Bool) : State :=
  if !s.spiHears then s.spiMissed
  else
    match f with
    | .short => (s.spiBegin mode3).viol .spi .protocol
    | .opcode =>
      let s := s.spiBegin mode3
      (s.viol .spi .protocol).spiOut 3 s.spiHead false false
    | .shortWrite => if s.spi.open_.isSome then s.spiDrop.viol .spi .protocol else s
    | .partialByte => s.spiDrop.viol .spi .protocol

/-- SPI_STALL_TIMEOUT (R426). -/
def State.spiStall (s : State) : State :=
  if s.spi.open_.isSome then (s.spiDrop.viol .spi .protocol).raise .spi 17 else s

/-! ### Two-wire target -/

/-- The two-wire target recognises its address (R427). -/
def State.twtHears (s : State) : Bool :=
  s.land.vio && s.land.twtArmed && !s.houseReset &&
    !(s.device == .fullReset || s.device == .dark || s.device == .enteringDark || s.device == .off)

/-- The two-wire pointer. -/
def State.twtPtr (s : State) : Nat := s.f .twt TwtR.TWT_STAT_POINTER

/-- The buffer of the open write transfer is discarded, with its reservation, or its transfer closes. -/
def State.twtClose (s : State) : State :=
  let deaf := s.twt.deaf
  ((s.modTwt (fun _ => { deaf := deaf })).setF .twt TwtR.TWT_STAT_OPEN 0).setF .twt TwtR.TWT_STAT_BUF_BYTES 0

/-- A STOP is seen: the target listens again (R65, R435). -/
def State.twtStop (s : State) : State :=
  { s.modTwt (fun x => { x with deaf := false }) with land := { s.land with twtArmed := s.land.twtArmed || s.land.vio } }

/-- TWT_BUFFER_APPLY (R432): the registers join the access queue together, in ascending order of address. -/
def State.twtApply (s : State) : State :=
  if s.twt.xfer != .write then s.twtStop
  else if s.twt.buf.isEmpty then s.twtClose.twtStop
  else
    let t := s.twt
    let ws := bufWrites t.window.toNat t.base t.buf
    let s := s.twtClose.twtStop
    let s := ws.foldl (fun s w =>
      let x : Access := {
        src := .twt, kind := .write32, addr := BitVec.ofNat 32 w.1, data := w.2.2.setWidth 128, mask := w.2.1.setWidth 16, cost := 0 }
      let x := { x with cost := joinCost x, at_ := t.at_ }
      { s with access := s.access ++ [x] }) s
    let s := (s.setF .twt TwtR.TWT_LAST_WR_REGS ws.length).inc .twt TwtR.TWT_CNT_TRANSFERS
    s.setF .twt TwtR.TWT_STAT_POINTER (t.base + (t.last + 1) % 64)

/-- TWT_READ_END (R433): RD_REGS takes the registers wholly delivered; `whole`: the last one was delivered to its fourth byte, so
the pointer stands at the register after it (log 43). -/
def State.twtReadEnd (s : State) (whole : Bool) : State :=
  if s.twt.xfer != .read then s.twtStop
  else
    let last := whole && !s.twt.mute
    let n := s.twt.regs + b2n last
    let s := if last then s.setF .twt TwtR.TWT_STAT_POINTER (s.twtPtr / 4 * 4 + 4) else s
    let s := (s.setF .twt TwtR.TWT_LAST_RD_REGS n).twtClose.twtStop
    if n = 0 then s else s.inc .twt TwtR.TWT_CNT_TRANSFERS

/-- A START addressed to the module: what is open ends as R433 says, and a write of TWT_WINDOW that waits takes effect first (R48). A
target that ignores the bus may have seen it idle for 10 µs meanwhile, which is a free value (R435, log 1). None: not heard. -/
def State.twtStart (s : State) : State × Bool :=
  if !s.twtHears then (s, false)
  else
    let d := if s.twt.deaf then s.draw else (1, s)
    if !wbit d.1 0 then (d.2, false)
    else
      let s := d.2.modTwt (fun x => { x with deaf := false })
      let s := match s.twt.xfer with
        | .write => s.twtApply
        | .read => s.twtReadEnd false
        | .none => s
      let s := (List.range s.access.length).foldl (fun s _ =>
        if s.waits .house 0x054 (fun _ => true) then s.serveAccess else s) s
      (s.modTwt (fun x => { x with window := BitVec.ofNat 16 (s.f .house HouseR.TWT_WINDOW_WINDOW) }), true)

/-- TWT_POINTER_SET (R428): a write transfer whose two pointer bytes have been acknowledged. -/
def State.twtPointer (s : State) (p : BitVec 16) : State :=
  let r := s.twtStart
  if !r.2 then r.1
  else
    let s := r.1.modTwt (fun x => { x with xfer := .write, buf := [], seen := false })
    (s.setF .twt TwtR.TWT_STAT_POINTER p.toNat).setF .twt TwtR.TWT_STAT_OPEN 1

/-- T_LEAD in ns (R429), from T_SCL and t_LOW in ns. -/
def State.twtLead (s : State) (tScl tLow : Nat) : Nat :=
  tScl + tLow - (20 + 10 * s.f .twt TwtR.TWT_CFG_T_FALL) - 100

/-- The lead rule (R429) beside R14, for a read of a cost. -/
def State.leadAdmits (s : State) (c lead : Nat) : Bool :=
  let f := if s.on .house HouseR.ADM_CTL_TEST_FLOOR then 750 else s.f .house HouseR.FAB_SPEED_RATE
  s.admits s.admQ c && (decide (lead > 1900) || decide ((s.admQ + c) * 1250 ≤ f * lead))

/-- The register read that the target offers at its pointer, and whether it is admitted. -/
def State.twtOffer (s : State) (lead : Nat) : State × Bool :=
  let a := twtAddr s.twt.window.toNat (s.twtPtr / 4 * 4) + s.twtPtr % 4
  let x : Access := { src := .twt, kind := .read32, addr := BitVec.ofNat 32 a, cost := opCost .read32 a }
  if s.refuses x || !s.leadAdmits x.cost lead then (s, false) else (s.enqueue x, true)

/-- TWT_ADDRESS_READ (R429): not acknowledged where the read is refused. -/
def State.twtRead (s : State) (tScl tLow : BitVec 16) : State :=
  let r := s.twtStart
  if !r.2 then r.1
  else
    let o := r.1.twtOffer (r.1.twtLead tScl.toNat tLow.toNat)
    if o.2 then (o.1.modTwt (fun x => { x with xfer := .read, regs := 0, mute := false })).setF .twt TwtR.TWT_STAT_OPEN 1 else o.1

/-- TWT_READ_CONTINUE (R430): the controller acknowledges a register's fourth byte. -/
def State.twtContinue (s : State) (tScl tLow : BitVec 16) : State :=
  if s.twt.xfer != .read || s.twt.mute then s
  else
    let s := (s.modTwt (fun x => { x with regs := x.regs + 1 })).setF .twt TwtR.TWT_STAT_POINTER (s.twtPtr / 4 * 4 + 4)
    let o := s.twtOffer (s.twtLead tScl.toNat tLow.toNat)
    if o.2 then o.1 else o.1.modTwt (fun x => { x with mute := true })

/-- Some register of a page buffer is refused whatever the load. -/
def State.bufRefused (s : State) (window base : Nat) (buf : List (Nat × Byte)) : Bool :=
  (bufWrites window base buf).any (fun w =>
    s.refuses {
      src := .twt, kind := .write32, addr := BitVec.ofNat 32 w.1, data := w.2.2.setWidth 128, mask := w.2.1.setWidth 16, cost := 0 })

/-- TWT_DATA_BYTE (R431): the byte is placed if the buffer as it would stand is admitted; every data byte counts a position. -/
def State.twtData (s : State) (b : Byte) : State :=
  if s.twt.xfer != .write then s
  else
    let t := s.twt
    let base := if t.seen then t.base else s.twtPtr / 64 * 64
    let pos := if t.seen then t.next else s.twtPtr % 64
    let buf := t.buf.filter (fun e => e.1 != pos) ++ [(pos, b)]
    let cost := bufCost t.window.toNat base buf
    let q := s.admQ - bufCost t.window.toNat t.base t.buf
    let ok := s.admits q cost && !s.bufRefused t.window.toNat base buf
    let s := s.modTwt (fun x => { x with base := base, seen := true, next := (pos + 1) % 64 })
    if ok then
      ((s.peak (q + cost)).modTwt (fun x => { x with buf := buf, last := pos, at_ := if t.buf.isEmpty then s.elapsed else t.at_ })).setF
        .twt TwtR.TWT_STAT_BUF_BYTES buf.length
    else s

/-- TWT_START_STOP_FAULT (R433): a START or STOP cuts a pointer or data byte of a write transfer. -/
def State.twtFault (s : State) : State :=
  if !s.twtHears || s.twt.deaf || s.twt.xfer == .read then s else s.twtClose.viol .twt .protocol

/-- TWT_TIMEOUT (R435). After a stall both lines are high already, so the target listens at once. -/
def State.twtTimeout (s : State) (k : TwtTmo) : State :=
  if !s.twtHears then s
  else
    let on := s.twt.xfer != .none
    let cut (s : State) : State := if on then s.twtClose.modTwt (fun x => { x with deaf := true }) else s
    match k with
    | .scl => (cut s).raise .twt 16
    | .sda => (cut s).raise .twt 17
    | .stall => if on then s.twtClose.raise .twt 18 else s

/-- The target may prompt: the event logic asks, and no transfer is open (R436, R450). -/
def State.promptDue (s : State) : Bool := s.twtHears && s.on .house HouseR.ATTN_STAT_PROMPT_REQ && s.twt.xfer == .none

/-- PROMPT (R436): a prompt is held to its end. -/
def State.prompt (s : State) : State :=
  if s.promptDue then (s.setF .house HouseR.ATTN_STAT_PROMPT_REQ 0).inc .twt TwtR.TWT_CNT_PROMPTS else s

/-- PROMPT_ABANDON (R437): `mine`, the transfer that begins addresses the module. -/
def State.promptAbandon (s : State) (mine : Bool) : State :=
  if s.promptDue then
    let s := s.inc .twt TwtR.TWT_CNT_ABANDONED
    if mine then s.setF .house HouseR.ATTN_STAT_PROMPT_REQ 0 else s
  else s

end Sys2Proof.Machine
end

