-- ==== Sys2Proof/Machine/BusesCmds.lean ====
section
/-!
DEFINITION. Machine/BusesCmds.lean: the meanings of the commands of the management buses (chapter 17).
-/
namespace Sys2Proof.Machine

/-- What the two-wire controller sees of its bus: nothing without VIO (R65, R444). -/
def State.onBus (s : State) (f : State → State) : State := if s.land.vio then f s else s

/-- A transaction of the two-wire controller ends (R443). -/
def State.twcTxnEnd (s : State) (fin : TwcEnd) (read : List Byte) : State :=
  match fin with
  | .done => s.twcFinish 1 0 read
  | .nackAddr => s.twcFinish 2 0 read
  | .nackData i => s.twcFinish 3 i.toNat read

/-- WRITE_32 (R422): An SPI write-32 frame is admitted at its last address bit and reserves its cost. -/
def execWrite32 (mode3 : Bool) (addr : BitVec 32) (s : State) : Host.Outcome State Fault Refusal :=
  .next (s.spiFrame .write32 mode3 addr false)

/-- READ_32 (R422): An SPI read-32 frame is admitted and joins the return queue, and may carry an earlier return. -/
def execRead32 (mode3 : Bool) (addr : BitVec 32) (full : Bool) (s : State) : Host.Outcome State Fault Refusal :=
  .next (s.spiFrame .read32 mode3 addr full)

/-- WRITE_128 (R422): An SPI write-128 frame is admitted at its last address bit and reserves its cost. -/
def execWrite128 (mode3 : Bool) (addr : BitVec 32) (s : State) : Host.Outcome State Fault Refusal :=
  .next (s.spiFrame .write128 mode3 addr false)

/-- READ_128 (R422): An SPI read-128 frame is admitted and joins the return queue. -/
def execRead128 (mode3 : Bool) (addr : BitVec 32) (full : Bool) (s : State) : Host.Outcome State Fault Refusal :=
  .next (s.spiFrame .read128 mode3 addr full)

/-- STATUS (R423): An SPI status frame reports the return queue and carries a ready return. -/
def execStatus (mode3 full : Bool) (s : State) : Host.Outcome State Fault Refusal :=
  .next (s.spiStatus mode3 full)

/-- WRITE_DATA_COMPLETE (R420): A reserved write's data completes and it joins the access queue at its true cost. -/
def execWriteDataComplete (data : BitVec 128) (s : State) : Host.Outcome State Fault Refusal :=
  .next (s.spiComplete data)

/-- SPI_FRAME_FAULT (R426): An SPI frame ends early or with a bad opcode, counting a PROTOCOL violation. -/
def execSpiFrameFault (f : SpiFault) (mode3 : Bool) (s : State) : Host.Outcome State Fault Refusal :=
  .next (s.spiFault f mode3)

/-- SPI_STALL_TIMEOUT (R426): No SCK edge for SPI_CFG.TMO while write data is incomplete abandons the frame and sets
STALL. -/
def execSpiStallTimeout (s : State) : Host.Outcome State Fault Refusal :=
  .next s.spiStall

/-- SPI_FLUSH (R425): A write of 1 to SPI_CFG.FLUSH empties the SPI return queue. -/
def execSpiFlush (c : Src) (s : State) : Host.Outcome State Fault Refusal :=
  .next (s.offerAct c .spi SpiR.SPI_CFG_FLUSH)

/-- TWT_POINTER_SET (R428): Two acknowledged pointer bytes set the two-wire register pointer. -/
def execTwtPointerSet (p : BitVec 16) (s : State) : Host.Outcome State Fault Refusal :=
  .next (s.twtPointer p)

/-- TWT_ADDRESS_READ (R429): A two-wire address byte with the read bit is acknowledged only if the first register read
is admitted under the lead rule. -/
def execTwtAddressRead (tScl tLow : BitVec 16) (s : State) : Host.Outcome State Fault Refusal :=
  .next (s.twtRead tScl tLow)

/-- TWT_READ_CONTINUE (R430): At the controller's acknowledge of a register's fourth byte, the next register read is
offered. -/
def execTwtReadContinue (tScl tLow : BitVec 16) (s : State) : Host.Outcome State Fault Refusal :=
  .next (s.twtContinue tScl tLow)

/-- TWT_DATA_BYTE (R431): A two-wire write data byte is acknowledged and placed only if the buffer as it would stand
is admitted. -/
def execTwtDataByte (b : Byte) (s : State) : Host.Outcome State Fault Refusal :=
  .next (s.twtData b)

/-- TWT_BUFFER_APPLY (R432): A STOP or repeated START after acknowledged data applies the page buffer as byte-masked
writes. -/
def execTwtBufferApply (s : State) : Host.Outcome State Fault Refusal :=
  .next s.twtApply

/-- TWT_START_STOP_FAULT (R433): A START or STOP at a cut byte or in place of an acknowledge discards the buffer and
counts PROTOCOL. -/
def execTwtStartStopFault (s : State) : Host.Outcome State Fault Refusal :=
  .next s.twtFault

/-- TWT_TIMEOUT (R435): A line held low, or an open transfer stalled, for TMO sets its fault and abandons the
transfer. -/
def execTwtTimeout (k : TwtTmo) (s : State) : Host.Outcome State Fault Refusal :=
  .next (s.twtTimeout k)

/-- PROMPT (R436): At an idle bus, the target holds SDA low for T_PROMPT and releases it. -/
def execPrompt (s : State) : Host.Outcome State Fault Refusal :=
  .next s.prompt

/-- PROMPT_ABANDON (R437): SCL falling during a prompt releases SDA and takes the edge as the START of a transfer. -/
def execPromptAbandon (mine : Bool) (s : State) : Host.Outcome State Fault Refusal :=
  .next (s.promptAbandon mine)

/-- TWC_GO (R438): TWC_CMD GO starts a two-wire controller transaction. -/
def execTwcGo (c : Src) (addr : BitVec 7) (rlen wlen : BitVec 6) (s : State) : Host.Outcome State Fault Refusal :=
  .next (s.offerReg c .twc 0x044 (BitVec.ofNat 32 (2 ^ 28 + addr.toNat * 2 ^ 16 + rlen.toNat * 256 + wlen.toNat)) allOnes)

/-- TWC_ABORT (R438): TWC_CMD ABORT ends the running transaction after the current bit with a STOP. -/
def execTwcAbort (c : Src) (s : State) : Host.Outcome State Fault Refusal :=
  .next (s.offerSet c .twc TwcR.TWC_CMD_OP 2)

/-- ARBITRATION_LOST (R440): The controller loses arbitration, releases the lines and retries or ends ARB_LOST. -/
def execArbitrationLost (s : State) : Host.Outcome State Fault Refusal :=
  .next (s.onBus State.twcArb)

/-- TWC_TIMEOUT (R441): A line held low by another device for TMO ends the transaction with TIMEOUT. -/
def execTwcTimeout (sda started : Bool) (s : State) : Host.Outcome State Fault Refusal :=
  .next (s.onBus (fun s => s.twcTimeout sda started))

/-- TWC_TRANSACTION_END (R443): A controller transaction ends with its result code. -/
def execTwcTransactionEnd (fin : TwcEnd) (read : List Byte) (s : State) : Host.Outcome State Fault Refusal :=
  .next (s.onBus (fun s => s.twcTxnEnd fin read))

/-- BUS_RECOVERY (R442): EN changing from 0 to 1 checks the bus and clocks up to 9 pulses to free a stuck SDA. -/
def execBusRecovery (freed : Bool) (s : State) : Host.Outcome State Fault Refusal :=
  .next (s.onBus (fun s => s.twcRecovery freed))

/-- VIO_LOSS (R65): VIO below 1.6 V places every VIO output in high impedance and ignores the inputs. -/
def execVioLoss (s : State) : Host.Outcome State Fault Refusal :=
  .next s.vioLoss

/-- VIO_RETURN (R65): VIO above 1.6 V again restores the interfaces after a STOP or a high SPI_CS_N. -/
def execVioReturn (s : State) : Host.Outcome State Fault Refusal :=
  .next s.vioReturn

/-- TWT_READ_END (R433): A STOP or repeated START during a two-wire read ends the read, and TWT_LAST.RD_REGS records
the whole registers delivered. -/
def execTwtReadEnd (whole : Bool) (s : State) : Host.Outcome State Fault Refusal :=
  .next (s.twtReadEnd whole)

end Sys2Proof.Machine
end

