-- ==== Sys2Proof/Machine/CalibrationCmds.lean ====
section
/-!
DEFINITION. Machine/CalibrationCmds.lean: the meanings of the commands of calibration and temperature (chapter 15).
-/
namespace Sys2Proof.Machine

/-- The periodic calibration timer (R383): PERIOD 0 runs none. -/
def State.calPeriod (s : State) (g : Grp) : State :=
  if s.f (gp g) GroupR.CAL_CTL_PERIOD = 0 then s
  else s.calTrigger g 4 (s.on (gp g) GroupR.CAL_CTL_RAMP) (s.calBlocks g)

/-- BANDGAP_COMPARE (R376): Every 10 ms the band-gaps are compared, and calibration is suspended or resumed. -/
def execBandgapCompare (diff : BitVec 16) (s : State) : Host.Outcome State Fault Refusal :=
  .next (s.bgCompare diff)

/-- SENSOR_MEAN (R380): Each 1 ms a thermal sensor publishes its mean reading. -/
def execSensorMean (i : Fin 9) (reading : BitVec 12) (twin : List (BitVec 3 × Byte × BitVec 16))
    (s : State) : Host.Outcome State Fault Refusal :=
  .next (s.sensorMean i reading twin)

/-- CAL_CMD_RUN (R383): A write of 1 to CAL_CMD.RUN starts a calibration run of the group. -/
def execCalCmdRun (c : Src) (g : Grp) (s : State) : Host.Outcome State Fault Refusal :=
  .next (s.offerAct c (gp g) GroupR.CAL_CMD_RUN)

/-- CAL_PERIOD_EXPIRY (R383): The periodic calibration timer triggers a run. -/
def execCalPeriodExpiry (g : Grp) (s : State) : Host.Outcome State Fault Refusal :=
  .next (s.calPeriod g)

/-- PENDING_RUN_START (R386): A pending calibration run starts once no abandonment condition holds. -/
def execPendingRunStart (g : Grp) (s : State) : Host.Outcome State Fault Refusal :=
  .next (s.calPendStart g)

/-- CAL_BLOCK_END (R383): A calibration block ends on every measured path, leaving pending or applied results or
failures. -/
def execCalBlockEnd (g : Grp) (l : List CalRes) (s : State) : Host.Outcome State Fault Refusal :=
  .next (s.calBlockEnd g l)

/-- APPLY (R384): A write of 1 to CAL_CMD.APPLY applies pending results at each path's next beat boundary. -/
def execApply (c : Src) (g : Grp) (s : State) : Host.Outcome State Fault Refusal :=
  .next (s.offerAct c (gp g) GroupR.CAL_CMD_APPLY)

/-- CAL_ABORT (R386): A write of 1 to CAL_CMD.ABORT abandons the run in progress, leaving no pending run of it. -/
def execCalAbort (c : Src) (g : Grp) (s : State) : Host.Outcome State Fault Refusal :=
  .next (s.offerAct c (gp g) GroupR.CAL_CMD_ABORT)

/-- RAMP_STEP (R387): In a ramped run, every moving trim advances one code every 1 µs × 2^RAMP_PACE. -/
def execRampStep (g : Grp) (s : State) : Host.Outcome State Fault Refusal :=
  .next (s.rampStep g)

/-- DISRUPTIVE_RUN (R389): A write of a CAL_DISRUPT.PATHS bit starts a disruptive ADC run on a receiver with no swing
slice. -/
def execDisruptiveRun (c : Src) (g : Grp) (skew : Bool) (paths : BitVec 16) (s : State) : Host.Outcome State Fault Refusal :=
  .next (s.offerReg c (gp g) 0x1A0 (BitVec.ofNat 32 (b2n skew * 2 ^ 16 + paths.toNat)) allOnes)

/-- DISRUPTIVE_WINDOW_END (R389): The disruptive window ends, new slice trims apply and DONE is recorded. -/
def execDisruptiveWindowEnd (p : Path) (l : List SliceRes) (s : State) : Host.Outcome State Fault Refusal :=
  .next (s.disruptClose p l)

end Sys2Proof.Machine
end

