-- ==== Sys2Proof/Machine/ClockCmds.lean ====
section
/-!
DEFINITION. Machine/ClockCmds.lean: the meanings of the commands of the timebase, its references and PPS (chapter 08).
-/
namespace Sys2Proof.Machine

/-- TIME_STEP (R205): A write of 1 to TIME_CTL.STEP steps the armed timebase by TIME_STEP, or is refused. -/
def execTimeStep (c : Src) (s : State) : Host.Outcome State Fault Refusal :=
  .next (s.offerAct c .time TimeR.TIME_CTL_STEP)

/-- TIME_ARM (R206): A write of 1 to TIME_CTL.ARM re-arms the one step. -/
def execTimeArm (c : Src) (s : State) : Host.Outcome State Fault Refusal :=
  .next (s.offerAct c .time TimeR.TIME_CTL_ARM)

/-- HOLD_REQ (R208): A write of 1 to TIME_CTL.HOLD_REQ puts the timebase into holdover. -/
def execHoldReq (c : Src) (s : State) : Host.Outcome State Fault Refusal :=
  .next (s.offerAct c .time TimeR.TIME_CTL_HOLD_REQ)

/-- TIME_RATE_WRITE (R203): A write to TIME_RATE changes the rate from the next reference cycle and ends host-sourced
holdover. -/
def execTimeRateWrite (c : Src) (rate : Word) (s : State) : Host.Outcome State Fault Refusal :=
  .next (s.offerReg c .time 0x054 rate allOnes)

/-- TIME_UNC_WRITE (R209): A write of 0 to TIME_UNC clears the uncertainty bound; other values are ignored. -/
def execTimeUncWrite (c : Src) (v : Word) (s : State) : Host.Outcome State Fault Refusal :=
  .next (s.offerReg c .time 0x05C v allOnes)

/-- HOLDOVER_TIMEOUT (R208): With SRC = 1, no TIME_RATE write within HOLD_TMO begins holdover. -/
def execHoldoverTimeout (s : State) : Host.Outcome State Fault Refusal :=
  .next (if s.f .time TimeR.TIME_CTL_SRC = 1 then s.holdoverBegin else s)

/-- UNC_THRESHOLD_CROSSED (R209): TIME_UNC rises above UNC_THR, setting UNC_HIGH and UNCERTAIN. -/
def execUncThresholdCrossed (s : State) : Host.Outcome State Fault Refusal :=
  .next s.uncCross

/-- REFCLK_LOST (R210): A reference is declared lost, setting its loss fault and causing a change, holdover or keep-
alive counting. -/
def execRefclkLost (r : Bool) (s : State) : Host.Outcome State Fault Refusal :=
  .next (if s.refOk r then s.refLost r else s)

/-- REFCLK_PRESENT (R210): A reference that has run for 100 µs within range is declared present. -/
def execRefclkPresent (r : Bool) (s : State) : Host.Outcome State Fault Refusal :=
  .next (s.refPresent r)

/-- REFCLK_STARTUP_TIMEOUT (R210): A selected reference not present 5 ms after the end of full reset is declared lost.
-/
def execRefclkStartupTimeout (s : State) : Host.Outcome State Fault Refusal :=
  .next (if s.refOk s.refSel || s.time.refGone then s else s.refLost s.refSel)

/-- BRIDGE_HANDOVER (R211): After the PLLs relock, the timebase hands over from the bridge PLL to the new reference
and REF_CHANGE is set. -/
def execBridgeHandover (s : State) : Host.Outcome State Fault Refusal :=
  .next s.bridgeEnd

/-- KEEPALIVE_RETURN (R212): The timebase hands back from the keep-alive oscillator to a reference present for 100 µs.
-/
def execKeepaliveReturn (s : State) : Host.Outcome State Fault Refusal :=
  .next s.kaReturn

/-- KA_WINDOW_END (R213): A 32,768-cycle keep-alive window ends and KA_PERIOD is updated, unless the window is
discarded. -/
def execKaWindowEnd (s : State) : Host.Outcome State Fault Refusal :=
  .next s.kaWindow

/-- MARK_CFG_WRITE (R216): A write that changes the mark mode or P starts a new grid at the next mark. -/
def execMarkCfgWrite (c : Src) (period : Bool) (data : Word) (s : State) : Host.Outcome State Fault Refusal :=
  .next (s.offerReg c .time (if period then 0x094 else 0x090) data allOnes)

/-- PPS_OUT_PULSE (R217): PPS_OUT rises when the counting timebase reaches a whole second plus PPS_OFS. -/
def execPpsOutPulse (s : State) : Host.Outcome State Fault Refusal :=
  .next s.ppsRise

/-- PPS_OUT_END (R217): PPS_OUT falls after PPS_CTL.WIDTH. -/
def execPpsOutEnd (s : State) : Host.Outcome State Fault Refusal :=
  .next s.ppsFall

/-- PPS_IN_EDGE (R218): A rising PPS_IN edge is timestamped, or ignored if less than 500 ms after the last. -/
def execPpsInEdge (s : State) : Host.Outcome State Fault Refusal :=
  .next s.ppsEdge

end Sys2Proof.Machine
end

