-- ==== Sys2Proof/Machine/CueingCmds.lean ====
section
/-!
DEFINITION. Machine/CueingCmds.lean: the meanings of the commands of scenes and cues (chapter 10).
-/
namespace Sys2Proof.Machine

/-- A write of OPEN_OP, or an engine's scene command on its own open scene (R257). -/
def State.openOp (s : State) (c : Src) (op scene base : Nat) : State :=
  match c with
  | .eng e =>
    if s.eng e != egRunning then s
    else if op = 1 then s.hostStore (some e) scene base
    else if op = 2 then s.openCommit (some e)
    else s.openDiscard (some e)
  | _ => s.offerReg c .cue 0x048 (BitVec.ofNat 32 (op * 2 ^ 28 + scene * 2 ^ 16 + base)) allOnes

/-- OPEN_STORE (R257): OPEN_OP STORE copies the host open scene to a stored scene, or fails with a range or overflow
cause. -/
def execOpenStore (c : Src) (scene : BitVec 10) (base : BitVec 15) (s : State) : Host.Outcome State Fault Refusal :=
  .next (s.openOp c 1 scene.toNat base.toNat)

/-- OPEN_COMMIT (R257): OPEN_OP COMMIT validates and commits the host open scene as an immediate cue. -/
def execOpenCommit (c : Src) (s : State) : Host.Outcome State Fault Refusal :=
  .next (s.openOp c 2 0 0)

/-- OPEN_DISCARD (R257): OPEN_OP DISCARD empties the host open scene at once. -/
def execOpenDiscard (c : Src) (s : State) : Host.Outcome State Fault Refusal :=
  .next (s.openOp c 3 0 0)

/-- STORE_COPY_END (R258): The scene checker finishes the copy of a STORE, and scene s takes its new extent. -/
def execStoreCopyEnd (s : State) : Host.Outcome State Fault Refusal :=
  .next s.storeEnd

/-- SCENE_DESC_WRITE (R255): A write to SCENE_DESC sets BASE and LEN of the selected stored scene, if they are in
range. -/
def execSceneDescWrite (c : Src) (base : BitVec 15) (len : BitVec 9) (s : State) : Host.Outcome State Fault Refusal :=
  .next (s.offerReg c .cue 0x054 (BitVec.ofNat 32 (base.toNat * 2 ^ 16 + len.toNat)) allOnes)

/-- A write that was admitted before and waits names a register of the lock set of the checker's next scene: it takes effect first,
with what was admitted before it, and validation checks the scene against the resulting values (R20). -/
def State.writesFirst (s : State) (w : Option JobSt) : State :=
  match w with
  | some x =>
    let l := s.jobLocks x
    if s.access.any (fun a => isWrite a.kind && (accWords a).any (fun (y : WordWrite) => y.mask != 0 && l.contains y.addr)) then s.drain
    else s
  | none => s

/-- SCENE_VALIDATE (R263): The scene checker takes a scene whose validation is due, locks its lock set and runs the
checks in order. -/
def execSceneValidate (s : State) : Host.Outcome State Fault Refusal :=
  .next (s.writesFirst s.nextWork).sceneValidate

/-- DEFERRED_RESUME (R262): A deferred scene resumes validation as soon as no deferral condition holds. -/
def execDeferredResume (s : State) : Host.Outcome State Fault Refusal :=
  .next (s.writesFirst s.nextDeferred).deferredResume

/-- SCENE_COMMIT (R266): At T_c every domain of the scene applies its staged values at its first beat boundary. -/
def execSceneCommit (j : Job) (s : State) : Host.Outcome State Fault Refusal :=
  .next (s.sceneCommit j)

/-- CUE_ARM (R273): CUE_OP ARM arms a free cue with a legal entry, or counts a violation. -/
def execCueArm (c : Src) (cue : BitVec 12) (s : State) : Host.Outcome State Fault Refusal :=
  .next (s.offerReg c .cue 0x044 (BitVec.ofNat 32 (2 ^ 28 + cue.toNat)) allOnes)

/-- CUE_DISARM (R280): CUE_OP DISARM makes a cue IDLE and unstages its scene, unless T_c has been reached. -/
def execCueDisarm (c : Src) (cue : BitVec 12) (s : State) : Host.Outcome State Fault Refusal :=
  .next (s.offerReg c .cue 0x044 (BitVec.ofNat 32 (2 ^ 29 + cue.toNat)) allOnes)

end Sys2Proof.Machine
end

