-- ==== Sys2Proof/Machine/EventsCmds.lean ====
section
/-!
DEFINITION. Machine/EventsCmds.lean: the meanings of the commands of injection and SRAM errors (chapters 02 and 18).
-/
namespace Sys2Proof.Machine

/-- An ECC error that the datapath, an engine or the scene checker meets (R9, R263, R302). -/
def State.eccRead (s : State) (mac row : BitVec 10) (double : Bool) (reader : EccReader) : State :=
  if !s.houseOn then s
  else
    let s := s.eccError (1024 * mac.toNat + row.toNat) double
    if !double then s
    else
      match reader with
      | .path p => s.addCtr p ctrEcc 1
      | .engine e => s.engMemFault e
      | .checker => s.checkerEcc (1024 * mac.toNat + row.toNat)

/-- EVENT_INJECT (R454): A write of 1 to an EVT_INJ bit sets that detector's EVT_RAW bit as one detection. -/
def execEventInject (c : Src) (page : Page) (bits : Word) (s : State) : Host.Outcome State Fault Refusal :=
  .next (s.offerReg c page 0x01C bits allOnes)

/-- VIOLATION_INJECT (R456): A write of VIOL_INJ bits counts one violation of each kind named. -/
def execViolationInject (c : Src) (page : Page) (kinds : BitVec 4) (s : State) : Host.Outcome State Fault Refusal :=
  .next (s.offerReg c page 0x028 (kinds.setWidth 32) allOnes)

/-- INJ_ARM (R455): A write of INJ_CTL with KEY 0xA5 and ARM 1 arms guarded injection. -/
def execInjArm (c : Src) (key : Byte) (sensor : BitVec 4) (arm : Bool) (s : State) : Host.Outcome State Fault Refusal :=
  .next (s.offerReg c .house 0x0B8 (BitVec.ofNat 32 (key.toNat * 2 ^ 24 + sensor.toNat * 2 ^ 16 + b2n arm)) allOnes)

/-- ECC_INJECT (R457): With ECC_INJ armed, the next write to the macro stores a word with one or two columns inverted.
-/
def execEccInject (row : BitVec 10) (s : State) : Host.Outcome State Fault Refusal :=
  .next (s.eccInject row)

/-- SOFT_EVENT (R447): A write of 1 to SOFT_EVT.SET sets the HOUSE SOFT event bit. -/
def execSoftEvent (c : Src) (code : BitVec 16) (s : State) : Host.Outcome State Fault Refusal :=
  .next (s.offerReg c .house 0x0C0 (BitVec.ofNat 32 (2 ^ 31 + code.toNat)) allOnes)

/-- SRAM_ECC_ERROR (R9): A read by the datapath, by an engine or by the scene checker meets an ECC error in SRAM,
which is corrected, or is counted in the path or faults the engine. -/
def execSramEccError (mac row : BitVec 10) (double : Bool) (reader : EccReader)
    (s : State) : Host.Outcome State Fault Refusal :=
  .next (s.eccRead mac row double reader)

end Sys2Proof.Machine
end

