-- ==== Sys2Proof/Machine/FabricCmds.lean ====
section
/-!
DEFINITION. Machine/FabricCmds.lean: the meanings of the commands of the access queue and the commands of every page (chapters 01 and 02).
-/
namespace Sys2Proof.Machine

/-- A measurement of the fabric speed (R13, R49). -/
def State.speedMeasure (s : State) (rate : Nat) : State :=
  if !s.houseOn then s
  else
    let low := min rate (s.f .house HouseR.FAB_SPEED_RATE_MIN)
    ((s.setF .house HouseR.FAB_SPEED_RATE rate).setF .house HouseR.FAB_SPEED_RATE_MIN low).incW .house HouseR.FAB_SEQ_SEQ

/-- FABRIC_SPEED_MEASURE (R13): At the end of each 1 µs window the house publishes the fabric handshake rate RATE,
RATE_MIN and SEQ. -/
def execFabricSpeedMeasure (rate : BitVec 16) (s : State) : Host.Outcome State Fault Refusal :=
  .next (s.speedMeasure rate.toNat)

/-- OPERATION_TAKES_EFFECT (R12): An admitted management operation leaves the access queue and takes effect at a beat
boundary of its target domain, or samples its read data there. -/
def execOperationTakesEffect (s : State) : Host.Outcome State Fault Refusal :=
  .next s.serveAccess

/-- REGISTER_WRITE (R5): A direct write to a register that has no row of its own sets the RW fields and applies the
access-code rules to the other bits. -/
def execRegisterWrite (c : Src) (addr : BitVec 32) (data : Word) (s : State) : Host.Outcome State Fault Refusal :=
  .next (s.offerWrite c addr.toNat data allOnes)

/-- WING_WRITE (R39): A write to a wing address appends one entry to the writer's open scene, or marks the scene
overflowed if it is full. -/
def execWingWrite (c : Src) (page : Page) (x : BitVec 11) (data : Word) (mask : BitVec 4)
    (s : State) : Host.Outcome State Fault Refusal :=
  .next (s.offerWrite c (pageAddr page (0x800 + x.toNat)) data (byteMask mask))

/-- WING_READ (R43): A read of a wing address returns the value the mirrored register would hold if the reader's open
scene were committed now. -/
def execWingRead (c : Src) (page : Page) (x : BitVec 11) (s : State) : Host.Outcome State Fault Refusal :=
  .next (s.offerRead c .read32 (pageAddr page (0x800 + x.toNat)))

/-- PAGE_CTL_WRITE (R31): A write of PAGE_CTL sets OOS and HOLD where the page supports them, with the service effects
their chapters give. -/
def execPageCtlWrite (c : Src) (page : Page) (hold oos : Bool) (s : State) : Host.Outcome State Fault Refusal :=
  .next (s.offerReg c page 0x008 (BitVec.ofNat 32 (2 * b2n hold + b2n oos)) allOnes)

/-- EVT_RAW_CLEAR (R35): A W1C write clears event or fault bits, unless a detector sets the same bit at the same
boundary. -/
def execEvtRawClear (c : Src) (page : Page) (bits : Word) (s : State) : Host.Outcome State Fault Refusal :=
  .next (s.offerReg c page 0x010 bits allOnes)

/-- VIOL_COUNTER_WRITE (R36): A write to a counter field clears it when the value written is 0 and keeps the count
otherwise. -/
def execViolCounterWrite (c : Src) (page : Page) (second : Bool) (data : Word)
    (s : State) : Host.Outcome State Fault Refusal :=
  .next (s.offerReg c page (if second then 0x024 else 0x020) data allOnes)

/-- TWT_WINDOW_WRITE (R48): A write to TWT_WINDOW sets the upper address bits used by the two-wire target from the
next START. -/
def execTwtWindowWrite (c : Src) (window : BitVec 16) (s : State) : Host.Outcome State Fault Refusal :=
  .next (s.offerReg c .house 0x054 (window.setWidth 32) allOnes)

/-- MIN_CLR (R49): A write of 1 to FAB_CTL.MIN_CLR sets RATE_MIN to the current RATE. -/
def execMinClr (c : Src) (s : State) : Host.Outcome State Fault Refusal :=
  .next (s.offerAct c .house HouseR.FAB_CTL_MIN_CLR)

/-- TIME_NOW_READ (R204): A read of TIME_NOW.SEC_HI latches the other three words of the same reference cycle in the
reading source's copy. -/
def execTimeNowRead (c : Src) (s : State) : Host.Outcome State Fault Refusal :=
  .next (s.offerReadReg c .time 0x040)

end Sys2Proof.Machine
end

