-- ==== Sys2Proof/Machine/Umatan.lean ====
section
/-!
DEFINITION. Machine/Umatan.lean: Umatan requests and responses (R244 to R248) and sessions (R477 to R480).
-/
namespace Sys2Proof.Machine

/-- A command of a request (R245): its operation, none for one that is BAD_CMD; the address, or CUE and SCENE; and its data. -/
structure UmCmd where
  op : Byte
  kind : Option AccKind
  word : Word
  data : BitVec 128 := 0
  deriving DecidableEq, Repr

/-- The operation of an opcode, and the size of its request (R245). -/
def umOp (op : Nat) : Option (AccKind × Nat) :=
  match op with
  | 1 => some (.read32, 8)
  | 2 => some (.write32, 12)
  | 3 => some (.read128, 8)
  | 4 => some (.write128, 24)
  | 5 => some (.launch, 8)
  | _ => none

/-- Parse at most `n` commands; a BAD_CMD ends the area (R246). -/
def umParse : Nat → List Byte → List UmCmd
  | 0, _ => []
  | _ + 1, [] => []
  | n + 1, b :: t =>
    let l := b :: t
    let word (k : AccKind) : Word := if k = .launch then BitVec.ofNat 32 (fbe l 2 4) else BitVec.ofNat 32 (fbe l 4 4)
    match umOp b.toNat with
    | none => [⟨b, none, 0, 0⟩]
    | some (k, size) =>
      if l.length < size then [⟨b, none, word k, 0⟩]
      else ⟨b, some k, word k, BitVec.ofNat 128 (beNum ((l.take size).drop 8))⟩ :: umParse n (l.drop size)

/-- Bytes of read data in the answer of an opcode. -/
def umData (op : Nat) : Nat := if op = 1 then 4 else if op = 3 then 16 else 0

/-- The answer of a command as sent (R245). An unknown opcode is answered in eight bytes (log 44). -/
def ansBytes (a : UmAns) : List Byte :=
  let n := umData a.op.toNat
  (if a.op == 5 then a.op :: a.st :: (wordBytes a.word ++ [0, 0]) else a.op :: a.st :: 0 :: 0 :: wordBytes a.word) ++
    (a.data ++ List.replicate (n - a.data.length) 0)

/-- The tag of a Umatan frame (R477). -/
def umTag (key msg : List Byte) : List Byte := (beBytes 32 (Config.hmacSha256 key msg).toNat).take 16

/-- A request taken apart: the bytes before the Umatan header, the header with the command area, and the tag. -/
structure UmReq where
  eth : List Byte
  msg : List Byte
  tag : List Byte
  deriving DecidableEq, Repr

def UmReq.session (r : UmReq) : Nat := fbe r.msg 2 2
def UmReq.seq (r : UmReq) : Nat := fbe r.msg 4 4
def UmReq.clen (r : UmReq) : Nat := fbe r.msg 8 2
def UmReq.ncmd (r : UmReq) : Nat := fbe r.msg 10 2
def UmReq.area (r : UmReq) : List Byte := r.msg.drop 12
/-- A session-open request (R478). -/
def UmReq.opens (r : UmReq) : Bool := r.session == 0 && r.ncmd == 0 && r.clen == 16

/-- Step 1 of R246: the form of a request. -/
def umForm (fr : RxFrame) : Option UmReq :=
  let l := fr.bytes
  let o := etherOfs l + 2
  let clen := fbe l (o + 8) 2
  if fb l o != 0x10 || decide (l.length < o + 12 + clen + 16) || fr.fcsErr || fr.uncorr || fr.cut || decide (l.length > 1518) then none
  else some ⟨l.take o, (l.drop o).take (12 + clen), (l.drop (o + 12 + clen)).take 16⟩

/-- A request fails authentication (R480): the port's count, the SEC page's count and its bit. -/
def State.umFail (s : State) (k : Port) (cnt : Fld) (bit : Nat) : State :=
  ((s.inc .frame (FrameR.UM_CNT0_AUTH_FAIL k.val)).inc .sec cnt).raise .sec bit

/-- The slot whose key verifies a session-open request, slot 0 first (R478). -/
def State.umOpenSlot (s : State) (r : UmReq) : Option (Nat × List Byte) :=
  if s.gated then none
  else
    ([0, 1].filterMap (fun k => s.security.loaded.find? (fun e => e.1 == k && umState (s.umSlot k) == 1))).find?
      (fun e => umTag e.2 r.msg == r.tag)

/-- The port has no room for a response (step 3 of R246). -/
def State.umNoRoom (s : State) (k : Port) : Bool := (s.insPath k).isNone || decide ((s.port k).um.length ≥ 4)

/-- The length of a response (step 3 of R246). -/
def umLen (eth area : Nat) : Nat := max 60 (eth + 12 + area + 16) + 4

/-- A response of this length exceeds what the insertion path carries (R247). -/
def State.umTooBig (s : State) (k : Port) (len : Nat) : Bool :=
  match s.insPath k with
  | some p => decide (len > s.maxLen p)
  | none => false

/-- Put a request in execution. -/
def State.umStart (s : State) (k : Port) (x : UmTxn) : State :=
  s.setPort k { s.port k with txns := (s.port k).txns ++ [x] }

/-- A session opens (R478, R479). -/
def State.umOpen (s : State) (k : Port) (r : UmReq) (slot : Nat) (key : List Byte) : State :=
  if s.umNoRoom k then s.inc .frame (FrameR.UM_CNT1_REFUSED k.val)
  else
    let nonce := (List.range 16).map (quadByte (Config.drbgNonce s.security.nonces))
    let num := if s.security.lastNum ≥ 0xFFFE then 1 else s.security.lastNum + 1
    let ss := s.security.sessions
    let idlest := (ss.foldl (fun (m : Option SessSt) e =>
      match m with
      | some x => if e.at_ < x.at_ then some e else m
      | none => some e) none)
    let s := if ss.length ≥ 8 then
        match idlest with
        | some x => s.sessDrop (fun e => e.place == x.place)
        | none => s
      else s
    let place := ((List.range 8).find? (fun i => !s.security.sessions.any (fun e => e.place == i))).getD 0
    let ks := beBytes 32 (Config.hmacSha256 key ([0x55, 0x4D, 0x53, 0x31] ++ r.area ++ nonce ++ beBytes 2 num)).toNat
    let s := s.modSec (fun x => { x with
      nonces := x.nonces + 1, lastNum := num,
      sessions := x.sessions ++ [{ place := place, num := num, slot := slot, key := ks, at_ := s.elapsed }] })
    s.umStart k {
      sess := place, num := num, key := key, eth := r.eth, seq := BitVec.ofNat 32 r.seq, answers := [], area := nonce,
      tooBig := s.umTooBig k (umLen r.eth.length 16) }

/-- A command is offered (R17, step 4 of R246): its answer, open while it waits in the access queue. -/
def State.umOffer (s : State) (k : Port) (place : Nat) (c : UmCmd) : State × UmAns :=
  let a : UmAns := { op := c.op, st := 0, word := c.word }
  match c.kind with
  | none => (s, { a with st := 3 })
  | some kind =>
    let addr : BitVec 32 := if kind = .launch then c.word >>> 16 else c.word
    let data : BitVec 128 := if kind = .launch then (c.word &&& 0xFFFF#32).setWidth 128 else c.data
    let x : Access := {
      src := .um ⟨place % 8, Nat.mod_lt _ (by decide)⟩, kind := kind, addr := addr, data := data, cost := 0, port := k }
    let x := { x with cost := joinCost x }
    let busy := s.refuses x || !s.admits s.admQ x.cost || (kind == .launch && s.reh.opened && decide (s.rehScope ≤ 1))
    if busy then (s, { a with st := 1 }) else (s.enqueue x, { a with open_ := true })

/-- An authenticated request is executed (steps 3 and 4 of R246, R247). -/
def State.umExecute (s : State) (k : Port) (r : UmReq) (e : SessSt) : State :=
  let s := s.modSec (fun x => { x with sessions := x.sessions.map (fun y =>
    if y.place = e.place then { y with lastSeq := r.seq, at_ := s.elapsed } else y) })
  if s.umNoRoom k then s.inc .frame (FrameR.UM_CNT1_REFUSED k.val)
  else
    let cmds := umParse r.ncmd r.area
    let size := (cmds.map (fun c => 8 + umData c.op.toNat)).sum
    let x : UmTxn := {
      sess := e.place, num := e.num, key := e.key, eth := r.eth, seq := BitVec.ofNat 32 r.seq, answers := [] }
    if s.umTooBig k (umLen r.eth.length size) then s.umStart k { x with tooBig := true }
    else
      let o := cmds.foldl (fun (o : State × List UmAns) c =>
        let a := o.1.umOffer k e.place c
        (a.1, o.2 ++ [a.2])) (s, [])
      o.1.umStart k { x with answers := o.2 }

/-- UMATAN_REQUEST (R246): the oldest extracted request of a port is served, once the response of the one before it has been queued,
so that step 3 counts it (log 45). -/
def State.umRequest (s : State) (k : Port) : State :=
  match (s.port k).reqs with
  | [] => s
  | fr :: t =>
    if !(s.port k).txns.isEmpty then s
    else
      let s := s.setPort k { s.port k with reqs := t }
      match umForm fr with
      | none => (s.inc .frame (FrameR.UM_CNT1_BAD k.val)).viol .frame .protocol
      | some r =>
        if r.opens then
          match s.umOpenSlot r with
          | some e => s.umOpen k r e.1 e.2
          | none => s.umFail k SecR.SEC_CNT_TAG_FAILS 16
        else
          match s.security.sessions.find? (fun e => e.num == r.session) with
          | none => s.umFail k SecR.SEC_CNT_SESSION_FAILS 18
          | some e =>
            if umTag e.key r.msg != r.tag then s.umFail k SecR.SEC_CNT_TAG_FAILS 16
            else if r.seq ≤ e.lastSeq then s.umFail k SecR.SEC_CNT_REPLAYS 17
            else s.umExecute k r e

/-- The bytes of a response (R244, R247, R248). -/
def State.umResponse (s : State) (k : Port) (x : UmTxn) : List Byte :=
  let area := if x.tooBig then [] else x.area ++ x.answers.flatMap ansBytes
  let head : List Byte := [0x11, if x.tooBig then 1 else 0] ++ beBytes 2 x.num ++ wordBytes x.seq ++ beBytes 2 area.length ++
    beBytes 2 (if x.tooBig then 0 else x.answers.length)
  let eth := (x.eth.drop 6).take 6 ++ beBytes 6 (s.portMac k) ++ x.eth.drop 12
  eth ++ head ++ area ++ umTag x.key (head ++ area)

/-- UMATAN_RESPONSE_QUEUED (step 5 of R246): the oldest request of a port, once every answer is ready. -/
def State.umQueue (s : State) (k : Port) : State :=
  match (s.port k).txns with
  | [] => s
  | x :: t =>
    if x.answers.any (fun a => a.open_) then s
    else
      let slot := (s.port k).umSlot
      let l := s.umResponse k x
      let a := umDesc k slot
      let s := s.msetList (portBase k + umBufOfs slot) l
      let s := ((s.mwordSet a (BitVec.ofNat 32 (2 ^ 31 + l.length))).mwordSet (a + 4) (BitVec.ofNat 32 (umBufOfs slot * 65536))).mwordSet
        (a + 8) 0
      let s := s.setPort k { s.port k with
        txns := t, um := (s.port k).um ++ [(slot, s.elapsed)], umSlot := (slot + 1) % 4 }
      s.inc .frame (FrameR.UM_CNT0_SERVED k.val)

end Sys2Proof.Machine
end

