-- ==== Sys2Proof/Machine/FramesCmds.lean ====
section
/-!
DEFINITION. Machine/FramesCmds.lean: the meanings of the commands of the frame ports and Umatan frames (chapter 09).
-/
namespace Sys2Proof.Machine

/-- FRAME_EXTRACT (R230): A frame on an extraction path is examined at its header and, if addressed to the port,
replaced by idles and delivered. -/
def execFrameExtract (k : Port) (fr : RxFrame) (s : State) : Host.Outcome State Fault Refusal :=
  .next (s.frameExtract k fr)

/-- TX_TAIL_WRITE (R240): A write to TX_TAIL posts transmit descriptors and starts their deadlines. -/
def execTxTailWrite (c : Src) (k : Port) (tail : BitVec 6) (s : State) : Host.Outcome State Fault Refusal :=
  .next (s.offerReg c .frame (0x098 + 64 * k.val) (tail.setWidth 32) allOnes)

/-- FRAME_FETCH (R235): The port's next frame is fetched into the path and becomes eligible for insertion. -/
def execFrameFetch (k : Port) (s : State) : Host.Outcome State Fault Refusal :=
  .next (s.frameFetch k)

/-- FRAME_INSERT (R234): An eligible frame is placed in the first long enough idle run, stamped, and written back
SENT. -/
def execFrameInsert (k : Port) (run : BitVec 16) (s : State) : Host.Outcome State Fault Refusal :=
  .next (s.frameInsert k run.toNat)

/-- FRAME_DEADLINE_EXPIRY (R236): A frame not yet placed when its deadline passes is dropped with status DEADLINE. -/
def execFrameDeadlineExpiry (k : Port) (s : State) : Host.Outcome State Fault Refusal :=
  .next (s.frameExpire k)

/-- PORT_DISABLE (R249): A write of 0 to PORTp_CTL.EN writes queued frames back DISABLED and stops the port. -/
def execPortDisable (c : Src) (k : Port) (s : State) : Host.Outcome State Fault Refusal :=
  .next (s.offerSet c .frame (FrameR.PORT_CTL_EN k.val) 0)

/-- UMATAN_REQUEST (R246): An extracted Umatan request is checked for form, authenticated and room, and its commands
are offered in order. -/
def execUmatanRequest (k : Port) (s : State) : Host.Outcome State Fault Refusal :=
  .next (s.umRequest k)

/-- UMATAN_RESPONSE_QUEUED (R246): Once the last read data is ready, the response is queued on the port with its
deadline. -/
def execUmatanResponseQueued (k : Port) (s : State) : Host.Outcome State Fault Refusal :=
  .next (s.umQueue k)

/-- SESSION_TIMEOUT (R479): A session with no accepted request for SESS_CFG.TMO seconds is closed. -/
def execSessionTimeout (place : Fin 8) (s : State) : Host.Outcome State Fault Refusal :=
  .next (s.sessTimeout place)

end Sys2Proof.Machine
end

