-- ==== Sys2Proof/Machine/KeysCmds.lean ====
section
/-!
DEFINITION. Machine/KeysCmds.lean: the meanings of the commands of the key bank (chapter 19).
-/
namespace Sys2Proof.Machine

/-- A write of SEC_CTL with its key (R476). -/
def State.offerKey (s : State) (c : Src) (op value slot : Nat) : State :=
  s.offerReg c .sec 0x044 (BitVec.ofNat 32 (0x3C * 2 ^ 24 + op * 2 ^ 16 + value * 2 ^ 8 + slot)) allOnes

/-- BURN_UM (R476): SEC_CTL BURN_UM burns the staged Umatan key into a blank slot. -/
def execBurnUm (c : Src) (slot : BitVec 2) (s : State) : Host.Outcome State Fault Refusal :=
  .next (s.offerKey c 1 0 slot.toNat)

/-- REVOKE_UM (R476): SEC_CTL REVOKE_UM revokes a Umatan key slot and closes its sessions. -/
def execRevokeUm (c : Src) (slot : BitVec 2) (s : State) : Host.Outcome State Fault Refusal :=
  .next (s.offerKey c 2 0 slot.toNat)

/-- REVOKE_IMGKEY (R476): SEC_CTL REVOKE_IMGKEY revokes an image key unless it is the only one left. -/
def execRevokeImgkey (c : Src) (slot : BitVec 2) (s : State) : Host.Outcome State Fault Refusal :=
  .next (s.offerKey c 3 0 slot.toNat)

/-- RAISE_SVN (R476): SEC_CTL RAISE_SVN burns thermometer fuses up to VALUE. -/
def execRaiseSvn (c : Src) (value : Byte) (s : State) : Host.Outcome State Fault Refusal :=
  .next (s.offerKey c 4 value.toNat 0)

/-- KEY_OP_END (R476): A key operation ends with its result, and the staged key is cleared. -/
def execKeyOpEnd (ok : Bool) (s : State) : Host.Outcome State Fault Refusal :=
  .next (s.keyOpEnd ok).flashThen

end Sys2Proof.Machine
end

