-- ==== Sys2Proof/Machine/LanesCmds.lean ====
section
/-!
DEFINITION. Machine/LanesCmds.lean: the meanings of the commands of the lane datapath (chapter 04).
-/
namespace Sys2Proof.Machine

/-- PLL_LOCKED (R86): A relocking PLL reaches lock, raises PLL_RELOCK, and lets its paths reacquire. -/
def execPllLocked (g : Grp) (b : Bool) (band : BitVec 6) (s : State) : Host.Outcome State Fault Refusal :=
  .next (s.pllLocked g b band)

/-- PLL_LOSS_OF_LOCK (R87): An enabled, unchanged PLL loses lock, raises its UNLOCK fault and counts it; its paths act
as on loss of lock. -/
def execPllLossOfLock (g : Grp) (b : Bool) (s : State) : Host.Outcome State Fault Refusal :=
  .next (s.pllLoss g b)

/-- PLL_HOLD_EXPIRY (R87): A PLL that has held for 100 ms without relocking is treated as having lost lock. -/
def execPllHoldExpiry (g : Grp) (b : Bool) (s : State) : Host.Outcome State Fault Refusal :=
  .next (s.pllHoldEnd g b)

/-- SIG_DET_CHANGE (R89): Signal detect asserts or deasserts after its filter time, setting SIG_DET and counting each
falling edge. -/
def execSigDetChange (p : Path) (level : Bool) (s : State) : Host.Outcome State Fault Refusal :=
  .next (s.sdChange p level)

/-- SWEEP_DUE (R97): A swing-slice sweep falls due, at a calibration run or every ROT_PERIOD, and starts from phase 0.
-/
def execSweepDue (p : Path) (s : State) : Host.Outcome State Fault Refusal :=
  .next (s.sweepBegin p)

/-- ROTATION_START (R92): A calibrated swing slice is set to shadow the next phase of a sweep. -/
def execRotationStart (p : Path) (s : State) : Host.Outcome State Fault Refusal :=
  .next (if s.scanning p then s else s.rotBegin p)

/-- MATCH_WINDOW_END (R92): A match window ends: SWING_LAST is written, and the rotation either swaps or waits. -/
def execMatchWindowEnd (p : Path) (ofs gain skew : Byte) (s : State) : Host.Outcome State Fault Refusal :=
  .next (s.matchEnd p ofs gain skew)

/-- SLICE_RELEASE_END (R92): Calibration of a released slice ends, the slice becomes swing, and ROT_DONE counts. -/
def execSliceReleaseEnd (p : Path) (slice : BitVec 6) (ok : Bool) (ofs gain skew : Byte)
    (s : State) : Host.Outcome State Fault Refusal :=
  .next (s.sliceReleased p slice.toNat ok ofs gain skew)

/-- SWING_FORCE (R94): A write of 1 to SWING_CTL.FORCE makes a waiting rotation swap at once. -/
def execSwingForce (c : Src) (p : Path) (s : State) : Host.Outcome State Fault Refusal :=
  .next (s.offerAct c (pp p) PathR.SWING_CTL_FORCE)

/-- SWING_ABANDON (R95): A write of 1 to SWING_CTL.ABANDON abandons the rotation in progress. -/
def execSwingAbandon (c : Src) (p : Path) (s : State) : Host.Outcome State Fault Refusal :=
  .next (s.offerAct c (pp p) PathR.SWING_CTL_ABANDON)

/-- CDR_LOCK_ACQUIRE (R98): Clock recovery declares lock after 1,024 beats within ±0.125 UI and sets CDR_LOCK. -/
def execCdrLockAcquire (p : Path) (freqOfs : BitVec 16) (s : State) : Host.Outcome State Fault Refusal :=
  .next (s.lockAcquire p freqOfs)

/-- CDR_LOCK_LOSS (R98): Clock recovery loses lock on loss of signal or 64 beats outside ±0.25 UI, and sets CDR_UNLOCK
where signal remains. -/
def execCdrLockLoss (p : Path) (cut : Bool) (s : State) : Host.Outcome State Fault Refusal :=
  .next (s.lockLoss p cut)

/-- ADAPT_UPDATE (R100): An adaptation loop of the path makes its periodic update unless it is frozen. -/
def execAdaptUpdate (p : Path) (v : AdaptVal) (s : State) : Host.Outcome State Fault Refusal :=
  .next (s.adapt p v)

/-- CAPTURE_START (R106): A write of 1 to CAP_CTL.START arms a capture, or records a conflict if the group's buffer is
held. -/
def execCaptureStart (c : Src) (p : Path) (s : State) : Host.Outcome State Fault Refusal :=
  .next (s.offerAct c (pp p) PathR.CAP_CTL_START)

/-- CAPTURE_STOP (R106): A write of 1 to CAP_CTL.STOP ends the capture at the next beat boundary. -/
def execCaptureStop (c : Src) (p : Path) (s : State) : Host.Outcome State Fault Refusal :=
  .next (s.offerAct c (pp p) PathR.CAP_CTL_STOP)

/-- CAPTURE_END (R106): A capture ends after LEN beats, or LEN/2 beats after a fault trigger, and sets CAP_DONE. -/
def execCaptureEnd (p : Path) (data : List Byte) (oldest : BitVec 9) (s : State) : Host.Outcome State Fault Refusal :=
  .next (s.capEnd p data oldest.toNat)

end Sys2Proof.Machine
end

