-- ==== Sys2Proof/Machine/PinningCmds.lean ====
section
/-!
DEFINITION. Machine/PinningCmds.lean: the meanings of the commands of latency pinning and the marks (chapter 06).
-/
namespace Sys2Proof.Machine

/-- PROBE_SAMPLE (R152): Every 2 µs the probe takes one latency sample on the common sampling grid. -/
def execProbeSample (p : Path) (l : Word) (s : State) : Host.Outcome State Fault Refusal :=
  .next (s.probeSample p l.toNat)

/-- PROBE_WINDOW_END (R152): At the end of a 256-sample window, PIN_MEAS and PIN_ERR are updated, unless the window is
invalid. -/
def execProbeWindowEnd (p : Path) (fixed : BitVec 20) (s : State) : Host.Outcome State Fault Refusal :=
  .next (s.probeWindow p fixed.toNat)

/-- ALIGN_MARK (R491): A rising ALIGN edge is sampled on REFCLK and recognised as a mark, updating MARK_TS and MARKS.
-/
def execAlignMark (s : State) : Host.Outcome State Fault Refusal :=
  .next s.alignMark

/-- INTERNAL_MARK (R154): An internal mark is generated every P reference cycles in one-shot or internal mode. -/
def execInternalMark (s : State) : Host.Outcome State Fault Refusal :=
  .next s.internalMark

/-- MARK_MISSING (R155): No mark arrives within one cycle of its expected count; MISS_RUN grows, and the probe pauses
beyond MARK_GRACE. -/
def execMarkMissing (s : State) : Host.Outcome State Fault Refusal :=
  .next s.markMissing

/-- SLEW_STEP (R165): During SLEWING, ADJ moves one step every 8 × 2^SLEW transmit beats. -/
def execSlewStep (p : Path) (s : State) : Host.Outcome State Fault Refusal :=
  .next (s.slewStep p)

end Sys2Proof.Machine
end

