-- ==== Sys2Proof/Machine/PowersCmds.lean ====
section
/-!
DEFINITION. Machine/PowersCmds.lean: the meanings of the commands of group power states and DARK (chapter 14).
-/
namespace Sys2Proof.Machine

/-- REQ_RUN (R361): A power request of RUN for a group begins exit or becomes its pending request. -/
def execReqRun (c : Src) (g : Grp) (s : State) : Host.Outcome State Fault Refusal :=
  .next (s.offerSet c (gp g) GroupR.PWR_CTL_REQ rqRun)

/-- REQ_INTERMISSION (R361): A power request of INTERMISSION for a group begins entry or becomes its pending request.
-/
def execReqIntermission (c : Src) (g : Grp) (s : State) : Host.Outcome State Fault Refusal :=
  .next (s.offerSet c (gp g) GroupR.PWR_CTL_REQ rqInt)

/-- REQ_OFF (R361): A power request of OFF for a group begins the transition to OFF or becomes its pending request. -/
def execReqOff (c : Src) (g : Grp) (s : State) : Host.Outcome State Fault Refusal :=
  .next (s.offerSet c (gp g) GroupR.PWR_CTL_REQ rqOff)

/-- TRANSITION_END (R362): A group power transition completes; the pending request or a level wake is acted on. -/
def execTransitionEnd (g : Grp) (s : State) : Host.Outcome State Fault Refusal :=
  .next (s.transEnd g)

/-- IDLE_TIMER_EXPIRY (R364): The idle timer of a group reaches IDLE_CFG and requests INTERMISSION. -/
def execIdleTimerExpiry (g : Grp) (s : State) : Host.Outcome State Fault Refusal :=
  .next (s.idleExpiry g)

/-- WAKE_NOW (R366): A write of 1 to PWR_CTL.WAKE_NOW is a pulse wake of the group. -/
def execWakeNow (c : Src) (g : Grp) (s : State) : Host.Outcome State Fault Refusal :=
  .next (s.offerAct c (gp g) GroupR.PWR_CTL_WAKE_NOW)

/-- DARK (R370): A keyed write of DEV_CTL.DARK starts the DARK entry sequence. -/
def execDark (c : Src) (key : Byte) (s : State) : Host.Outcome State Fault Refusal :=
  .next (s.offerReg c .pstate 0x040 (BitVec.ofNat 32 (key.toNat * 256 + 1)) allOnes)

/-- DARK_REACHED (R370): After the running flash operation ends, the timebase moves to keep-alive and every rail but
VKA switches off. -/
def execDarkReached (s : State) : Host.Outcome State Fault Refusal :=
  .next s.darkReached

/-- DARK_WAKE (R71): WAKE_N held low for 100 µs in DARK starts the exit from DARK. -/
def execDarkWake (porst : Bool) (s : State) : Host.Outcome State Fault Refusal :=
  .next (s.darkWake porst)

end Sys2Proof.Machine
end

