-- ==== Sys2Proof/Machine/RehearsalsCmds.lean ====
section
/-!
DEFINITION. Machine/RehearsalsCmds.lean: the meanings of the commands of rehearsal and repair (chapter 16).
-/
namespace Sys2Proof.Machine

/-- A write of REH_CTL (R397, R406, R413). -/
def State.offerReh (s : State) (c : Src) (op target : Nat) (force : Bool) : State :=
  s.offerReg c .reh 0x040 (BitVec.ofNat 32 (op * 2 ^ 28 + target * 2 ^ 8 + 2 * b2n force)) allOnes

/-- A run closes once every test has its result (R403); a curtain ends in DARK once its entries are written (R398), and a start-up
rehearsal in the start-up reset, which START_UP_RESET brings (R468). -/
def State.rehRunClose (s : State) : State :=
  if s.rehOn && s.rehAllDone then (s.rehClose 0).flashThen else s

/-- One more minute with VKA (R416). -/
def State.ontimeMinute (s : State) : State := if s.device == .off then s else s.incW .reh RehR.ONTIME_MIN

/-- CURTAIN (R398): REH_CTL CURTAIN stops services and starts the full-module rehearsal, which ends in DARK. -/
def execCurtain (c : Src) (force : Bool) (s : State) : Host.Outcome State Fault Refusal :=
  .next (s.offerReh c 1 0 force)

/-- GROUP (R397): REH_CTL GROUP starts a rehearsal of one group, or is refused. -/
def execGroup (c : Src) (target : BitVec 4) (force : Bool) (s : State) : Host.Outcome State Fault Refusal :=
  .next (s.offerReh c 2 target.toNat force)

/-- ENGINE (R397): REH_CTL ENGINE starts a rehearsal of one engine that owns no group, or is refused. -/
def execEngine (c : Src) (target : BitVec 4) (s : State) : Host.Outcome State Fault Refusal :=
  .next (s.offerReh c 3 target.toNat false)

/-- REH_ABORT (R406): REH_CTL ABORT cuts a rehearsal short and closes it. -/
def execRehAbort (c : Src) (s : State) : Host.Outcome State Fault Refusal :=
  .next (s.offerReh c 4 0 false)

/-- FUSE (R413): REH_CTL FUSE burns the unfused soft repair entries into fuses in sessions. -/
def execFuse (c : Src) (s : State) : Host.Outcome State Fault Refusal :=
  .next (s.offerReh c 5 0 false)

/-- FUSE_SESSION_END (R413): A fuse session ends; the map is stored with FUSED flags and the next session is checked.
-/
def execFuseSessionEnd (bad : List (BitVec 8)) (s : State) : Host.Outcome State Fault Refusal :=
  .next (s.fuseSessionEnd (bad.map (·.toNat))).flashThen

/-- REH_TEST_END (R400): A rehearsal test ends with its result and coverage. -/
def execRehTestEnd (u : Option Grp) (t : Fin 16) (r : RehRes) (s : State) : Host.Outcome State Fault Refusal :=
  .next (s.rehTestEnd u t.val r)

/-- REH_RUN_CLOSE (R403): A rehearsal run closes: pages are restored, datapaths re-initialised, and the map and result
entry stored. -/
def execRehRunClose (s : State) : Host.Outcome State Fault Refusal :=
  .next s.rehRunClose

/-- ONTIME_MINUTE (R416): ONTIME counts one more whole minute while VKA is present. -/
def execOntimeMinute (s : State) : Host.Outcome State Fault Refusal :=
  .next s.ontimeMinute

end Sys2Proof.Machine
end

