-- ==== Sys2Proof/Machine/ResetCmds.lean ====
section
/-!
DEFINITION. Machine/ResetCmds.lean: the meanings of the commands of resets, start-up and the boundary-scan port (chapters 03 and 19).
-/
namespace Sys2Proof.Machine

/-- A write of RESET_CTL with OP 1 or 2 (R460). -/
def State.offerReset (s : State) (c : Src) (op target : Nat) : State :=
  s.offerReg c .house 0x100 (BitVec.ofNat 32 (op * 2 ^ 8 + target)) allOnes

/-- House reset by HRST_N, a VIO input, or by a write of RESET_CTL with a key (R65, R462). -/
def State.houseResetBy (s : State) (by_ : Option (Src × Byte)) : State :=
  match by_ with
  | none => s.hrstLow
  | some w => s.offerReg w.1 .house 0x100 (BitVec.ofNat 32 (w.2.toNat * 2 ^ 24 + 3 * 2 ^ 8)) allOnes

/-- PATH_RESET (R460): RESET_CTL OP 1 resets a path at its next beat boundary, waiting while it is BUSY. -/
def execPathReset (c : Src) (p : Path) (s : State) : Host.Outcome State Fault Refusal :=
  .next (s.offerReset c 1 p.val)

/-- GROUP_RESET (R460): RESET_CTL OP 2 resets a group and its paths, waiting while they are BUSY. -/
def execGroupReset (c : Src) (g : Grp) (s : State) : Host.Outcome State Fault Refusal :=
  .next (s.offerReset c 2 g.val)

/-- RESET_WAIT_END (R460): A waiting path or group reset takes effect once BUSY clears. -/
def execResetWaitEnd (s : State) : Host.Outcome State Fault Refusal :=
  .next s.resetWaitEnd

/-- HOUSE_RESET (R462): HRST_N or a keyed RESET_CTL OP 3 starts a house reset with the listed effects. -/
def execHouseReset (by_ : Option (Src × Byte)) (s : State) : Host.Outcome State Fault Refusal :=
  .next (s.houseResetBy by_)

/-- HOUSE_RESET_END (R462): A house reset ends and RESET_DONE is set. -/
def execHouseResetEnd (s : State) : Host.Outcome State Fault Refusal :=
  .next s.houseResetEnd

/-- FULL_RESET (R70): PORST_N, power-up or loss of power-good starts a full reset. -/
def execFullReset (s : State) : Host.Outcome State Fault Refusal :=
  .next s.fullReset

/-- START_UP (R467): At the end of a full reset the module runs the start-up sequence of its kind. -/
def execStartUp (s0 s1 s2 : BitVec 4) (s : State) : Host.Outcome State Fault Refusal :=
  .next (s.startUp s0 s1 s2)

/-- START_UP_RESET (R468): After the start-up rehearsal ends, a start-up reset repeats the start without resampling
straps. -/
def execStartUpReset (s : State) : Host.Outcome State Fault Refusal :=
  .next s.startUpReset

/-- LANES_READY (R469): When the start's steps have ended, in-service paths are released to WAIT_SIGNAL and RESET_DONE
is set. -/
def execLanesReady (s : State) : Host.Outcome State Fault Refusal :=
  .next s.lanesReady

/-- BOUNDARY_SCAN_INSTRUCTION (R67): A boundary-scan instruction other than BYPASS or IDCODE, loaded through the test
access port, takes the lanes out of service and stops pinning until the next full reset. -/
def execBoundaryScanInstruction (s : State) : Host.Outcome State Fault Refusal :=
  .next s.boundaryScan

/-- VKA_LOST (R343): With both inputs lost in DARK, HUP bleeds down to 14 V, VKA is lost and timekeeping ends, so that
the next start is a power-up. -/
def execVkaLost (s : State) : Host.Outcome State Fault Refusal :=
  .next s.vkaLost

/-- PATH_OR_GROUP_RESET_END (R460): A path or group reset ends: RESET_STAT returns to idle, BUSY clears, and any path
whose coupled set disagrees is set out of service with CONFLICT. -/
def execPathOrGroupResetEnd (s : State) : Host.Outcome State Fault Refusal :=
  .next s.resetEnd

end Sys2Proof.Machine
end

