-- ==== Sys2Proof/Machine/StagehandsCmds.lean ====
section
/-!
DEFINITION. Machine/StagehandsCmds.lean: the meanings of the commands of the stagehand engines and their commands (chapter 11).
-/
namespace Sys2Proof.Machine

/-- A write of the last word of a command entry, or of the whole quad (R290). -/
def State.offerCmd (s : State) (c : Src) (e : Eng) (quad : Bool) (data : BitVec 128) : State :=
  if quad then
    let a := pageAddr (ep e) 0x080
    s.offerAccess { src := c, kind := .write128, addr := BitVec.ofNat 32 a, data := data, cost := opCost .write128 a }
  else s.offerReg c (ep e) 0x08C (data.setWidth 32) allOnes

/-- A write of ENG_BIND with TARGET and GO (R299). -/
def State.migrationGo (s : State) (c : Src) (g : Grp) (target : Nat) : State :=
  s.offerReg c (gp g) 0x280 (BitVec.ofNat 32 (2 ^ 9 + target)) 0x20F

/-- LOAD (R286): ENG_CTL.LOAD copies and authenticates the flash image into the engine's memories. -/
def execLoad (c : Src) (e : Eng) (slot : Bool) (s : State) : Host.Outcome State Fault Refusal :=
  .next (s.offerReg c (ep e) 0x040 (BitVec.ofNat 32 (256 * b2n slot + 4)) allOnes)

/-- START (R286): ENG_CTL.START initialises the engine from its image's entry point. -/
def execStart (c : Src) (e : Eng) (s : State) : Host.Outcome State Fault Refusal :=
  .next (s.offerAct c (ep e) StageR.ENG_CTL_START)

/-- STOP (R286): ENG_CTL.STOP halts the engine at once and empties its command queue. -/
def execStop (c : Src) (e : Eng) (s : State) : Host.Outcome State Fault Refusal :=
  .next (s.offerAct c (ep e) StageR.ENG_CTL_STOP)

/-- LOAD_DONE (R286): A load ends in LOADED, or in OFF with LOAD_FAIL. -/
def execLoadDone (e : Eng) (s : State) : Host.Outcome State Fault Refusal :=
  .next (s.loadDone e).flashThen

/-- ENGINE_READY (R286): A starting engine reaches RUNNING and posts a READY notice. -/
def execEngineReady (e : Eng) (s : State) : Host.Outcome State Fault Refusal :=
  .next (s.engReady e)

/-- CMDQ_APPEND (R290): A write of CMDQ word 0x08C or a quad write appends a command from the source's staged words.
-/
def execCmdqAppend (c : Src) (e : Eng) (quad : Bool) (data : BitVec 128) (s : State) : Host.Outcome State Fault Refusal :=
  .next (s.offerCmd c e quad data)

/-- RSPQ_READ (R293): A read of RSPQ word 0x0A0 removes the head response and latches its other words. -/
def execRspqRead (c : Src) (e : Eng) (s : State) : Host.Outcome State Fault Refusal :=
  .next (s.offerReadReg c (ep e) 0x0A0)

/-- PING (R294): The engine answers PING with its image identity and speed. -/
def execPing (e : Eng) (s : State) : Host.Outcome State Fault Refusal :=
  .next (s.cmdPing e)

/-- CTLE_SEARCH (R294): The engine runs the CTLE/VGA search on a path until it settles. -/
def execCtleSearch (e : Eng) (s : State) : Host.Outcome State Fault Refusal :=
  .next (s.cmdSearch e)

/-- EYE_SCAN (R295): The engine measures an eye with a swing slice and writes the grid to the capture buffer. -/
def execEyeScan (e : Eng) (s : State) : Host.Outcome State Fault Refusal :=
  .next (s.cmdEye e)

/-- SWEEP (R294): The engine runs a swing-slice sweep on a path or group. -/
def execSweep (e : Eng) (s : State) : Host.Outcome State Fault Refusal :=
  .next (s.cmdSweep e)

/-- CAL_RUN (R294): The engine runs a calibration run of the blocks in ARG0. -/
def execCalRun (e : Eng) (s : State) : Host.Outcome State Fault Refusal :=
  .next (s.cmdCal e)

/-- ABORT_COMMAND (R294): The engine ABORT command stops the command that carries the given TAG. -/
def execAbortCommand (e : Eng) (s : State) : Host.Outcome State Fault Refusal :=
  .next (s.cmdAbort e)

/-- FLUSH (R294): The engine FLUSH command removes queued commands and answers each ABORTED. -/
def execFlush (e : Eng) (s : State) : Host.Outcome State Fault Refusal :=
  .next (s.cmdFlush e)

/-- CHECKPOINT (R294): The engine CHECKPOINT command publishes the group-state checkpoint at once. -/
def execCheckpoint (e : Eng) (size : BitVec 14) (s : State) : Host.Outcome State Fault Refusal :=
  .next (s.cmdCheckpoint e size)

/-- LONG_COMMAND_END (R296): A long command ends and receives its final answer. -/
def execLongCommandEnd (e : Eng) (detail : BitVec 16) (r0 r1 : Word) (grid : List (BitVec 16))
    (s : State) : Host.Outcome State Fault Refusal :=
  .next (s.longEnd e detail r0 r1 grid)

/-- MIGRATION_GO (R299): A write of ENG_BIND.GO asks to bind the group to TARGET; the request is refused or QUIESCE
begins. -/
def execMigrationGo (c : Src) (g : Grp) (target : BitVec 4) (s : State) : Host.Outcome State Fault Refusal :=
  .next (s.migrationGo c g target.toNat)

/-- MIGRATION_SAFE_POINT (R300): The source reaches its safe point; the pages become BUSY and the state record is
copied. -/
def execMigrationSafePoint (g : Grp) (s : State) : Host.Outcome State Fault Refusal :=
  .next (s.migSafe g)

/-- MIGRATION_HANDOVER (R300): OWNER and EPOCH of all 17 pages change at one instant, and MIG_DONE is set. -/
def execMigrationHandover (g : Grp) (s : State) : Host.Outcome State Fault Refusal :=
  .next (s.migHandover g)

/-- WATCHDOG_EXPIRY (R302): No heartbeat for the watchdog time faults the engine with FAULT_CAUSE 1. -/
def execWatchdogExpiry (e : Eng) (s : State) : Host.Outcome State Fault Refusal :=
  .next (s.watchdog e)

/-- IMAGE_FAULT (R302): The image declares itself faulted, with FAULT_CAUSE 4 and a FIRMWARE notice. -/
def execImageFault (e : Eng) (r0 r1 : Word) (s : State) : Host.Outcome State Fault Refusal :=
  .next (s.imageFault e r0 r1)

/-- ENGINE_HEARTBEAT (R302): A running engine's firmware reports its heartbeat and publishes a checkpoint of its
group's state, which the house keeps for take-over. -/
def execEngineHeartbeat (e : Eng) (ckpt : Option (BitVec 14)) (s : State) : Host.Outcome State Fault Refusal :=
  .next (s.heartbeat e ckpt)

/-- FIRMWARE_NOTICE (R297): The image reports a condition of its own by posting a FIRMWARE notice, which sets the
NOTICE event bit. -/
def execFirmwareNotice (e : Eng) (r0 r1 : Word) (s : State) : Host.Outcome State Fault Refusal :=
  .next (if s.eng e = egRunning then s.notice e 4 r0 r1 true else s)

end Sys2Proof.Machine
end

