-- ==== Sys2Proof/Machine/StreamsCmds.lean ====
section
/-!
DEFINITION. Machine/StreamsCmds.lean: the meanings of the commands of path profiles, coding, counters and error injection (chapter 07).
-/
namespace Sys2Proof.Machine

/-- FRAMING_LOCK_ACQUIRED (R178): The path acquires framing lock and switches to the processed stream at the next
codeword or block boundary. -/
def execFramingLockAcquired (p : Path) (eth : BitVec 3) (find : Option WxFind)
    (s : State) : Host.Outcome State Fault Refusal :=
  .next (s.framingAcquired p eth find)

/-- FRAMING_LOCK_LOST (R178): The path loses framing lock, sends decided symbols unchanged and counts FRM_LOSS. -/
def execFramingLockLost (p : Path) (eth : BitVec 3) (cut : Bool) (s : State) : Host.Outcome State Fault Refusal :=
  .next (s.framingLost p eth cut)

/-- CONVERTER_LOCK_CHANGE (R179): A Converter path gains or loses SH_LOCK, MB_LOCK or EMB_LOCK. -/
def execConverterLockChange (p : Path) (which : Fin 3) (w : ConvSeen) (s : State) : Host.Outcome State Fault Refusal :=
  .next (s.convChange p which w.gain w.run.toNat w.gap.toNat)

/-- CODEWORD_PROCESSED (R187): A codeword or block is decoded, corrected, changed as permitted and re-encoded within
the fixed pipeline. -/
def execCodewordProcessed (p : Path) (w : Codeword) (s : State) : Host.Outcome State Fault Refusal :=
  .next (s.codeword p w)

/-- PTP_EVENT_MESSAGE (R222): A recognised PTP event message is corrected by the path's constant, or passed unmodified
and counted. -/
def execPtpEventMessage (p : Path) (fr : RxFrame) (s : State) : Host.Outcome State Fault Refusal :=
  .next (s.ptpMessage p fr)

/-- COUNTER_SNAPSHOT (R192): A write of 1 to CNT_CTL.SNAP captures every counter of the path and optionally restarts
them. -/
def execCounterSnapshot (c : Src) (p : Path) (s : State) : Host.Outcome State Fault Refusal :=
  .next (s.offerAct c (pp p) PathR.CNT_CTL_SNAP)

/-- FEC_DEGRADE_WINDOW_END (R193): A window of decoded codewords is judged degraded or not, and FEC_DEGRADE is raised
on onset. -/
def execFecDegradeWindowEnd (p : Path) (s : State) : Host.Outcome State Fault Refusal :=
  .next (s.degEnd p)

/-- PRBS_CHECKER_LOCK (R195): The PRBS checker locks after 256 error-free symbols and sets PRBS_LOCK. -/
def execPrbsCheckerLock (p : Path) (s : State) : Host.Outcome State Fault Refusal :=
  .next (s.prbsLock p)

/-- PRBS_CHECKER_LOSS (R195): The PRBS checker loses lock after more than 64 errors in 256 symbols and seeds again. -/
def execPrbsCheckerLoss (p : Path) (bits errs : Word) (s : State) : Host.Outcome State Fault Refusal :=
  .next (s.prbsLose p bits.toNat errs.toNat)

/-- FIRE (R197): A write of 1 to ERR_INJ.FIRE makes one injection due in one-shot mode. -/
def execFire (c : Src) (p : Path) (s : State) : Host.Outcome State Fault Refusal :=
  .next (s.offerAct c (pp p) PathR.ERR_INJ_FIRE)

/-- INJECTION_DUE (R197): An error injection falls due and is made at the selected point, or is skipped. -/
def execInjectionDue (p : Path) (s : State) : Host.Outcome State Fault Refusal :=
  .next (s.injDueNow p)

end Sys2Proof.Machine
end

