-- ==== Sys2Proof/Machine/SuppliesCmds.lean ====
section
/-!
DEFINITION. Machine/SuppliesCmds.lean: the meanings of the commands of supplies, hold-up and the flash (chapter 13).
-/
namespace Sys2Proof.Machine

/-- A write of NVM_CMD (R350); NVM_ADDR and NVM_LEN stand as they were written. -/
def State.offerNvm (s : State) (c : Src) (op region : Nat) : State :=
  s.offerReg c .nvm 0x040 (BitVec.ofNat 32 (op * 2 ^ 28 + region * 2 ^ 24)) allOnes

/-- INPUT_GOOD (R334): An input above its threshold plus 0.5 V for 1 ms becomes good. -/
def execInputGood (b : Bool) (s : State) : Host.Outcome State Fault Refusal :=
  .next (s.inputGood b)

/-- INPUT_LOST (R334): An input below its threshold for 0.5 µs is lost and its loss fault is set. -/
def execInputLost (b : Bool) (s : State) : Host.Outcome State Fault Refusal :=
  .next (s.inputLost b)

/-- RETURN_DELAY_EXPIRY (R335): VINA good without a break for RET_DLY is selected again. -/
def execReturnDelayExpiry (s : State) : Host.Outcome State Fault Refusal :=
  .next s.returnExpiry

/-- FORCE_B_WRITE (R336): A write of SUP_CTL.FORCE_B selects VINB while it is good, or returns to VINA at once. -/
def execForceBWrite (c : Src) (v : Bool) (s : State) : Host.Outcome State Fault Refusal :=
  .next (s.offerSet c .supply SupplyR.SUP_CTL_FORCE_B (b2n v))

/-- RAIL_FAULT (R338): A rail outside its window for 10 µs starts the power-failure sequence with cause RAIL. -/
def execRailFault (r : Fin 6) (s : State) : Host.Outcome State Fault Refusal :=
  .next (s.railFault r)

/-- MEASURE (R340): A write of 1 to HUP_CTL.MEASURE starts a capacitance test. -/
def execMeasure (c : Src) (s : State) : Host.Outcome State Fault Refusal :=
  .next (s.offerAct c .supply SupplyR.HUP_CTL_MEASURE)

/-- CAPACITANCE_TEST_DUE (R340): A capacitance test starts when HUP first passes 16 V or every 60 minutes. -/
def execCapacitanceTestDue (s : State) : Host.Outcome State Fault Refusal :=
  .next s.testStart

/-- CAPACITANCE_TEST_END (R340): A charge-step test ends and HUP_CAP records C and its result. -/
def execCapacitanceTestEnd (dvc dvd : BitVec 24) (reached : Bool) (s : State) : Host.Outcome State Fault Refusal :=
  .next (s.testEnd dvc dvd reached).flashThen

/-- ENERGY_UPDATE (R341): Every 100 µs E_AVAIL is recomputed, and HUP_LOW is set when it falls below LOW_MJ. -/
def execEnergyUpdate (vina vinb pin hup : BitVec 16) (s : State) : Host.Outcome State Fault Refusal :=
  .next (s.energyUpdate vina vinb pin hup)

/-- POWER_FAILURE (R343): No good input for 5 µs declares power failure and runs the power-fail steps from hold-up. -/
def execPowerFailure (s : State) : Host.Outcome State Fault Refusal :=
  .next s.powerFailure

/-- FALL_RECORD_WRITE (R349): After the running flash operation ends, the house writes the fall record and turns the
rails off. -/
def execFallRecordWrite (hup : BitVec 16) (s : State) : Host.Outcome State Fault Refusal :=
  .next (s.fallRecord hup)

/-- STORE (R347): NVM_CMD STORE writes a record into the inactive slot of a two-slot region. -/
def execStore (c : Src) (region : BitVec 4) (s : State) : Host.Outcome State Fault Refusal :=
  .next (s.offerNvm c 1 region.toNat)

/-- READ (R350): NVM_CMD READ copies flash bytes into NVM_BUF. -/
def execRead (c : Src) (region : BitVec 4) (s : State) : Host.Outcome State Fault Refusal :=
  .next (s.offerNvm c 2 region.toNat)

/-- ERASE (R350): NVM_CMD ERASE erases one 4 KB sector of an image slot. -/
def execErase (c : Src) (region : BitVec 4) (s : State) : Host.Outcome State Fault Refusal :=
  .next (s.offerNvm c 3 region.toNat)

/-- PROGRAM (R350): NVM_CMD PROGRAM programs NVM_BUF into an image slot and reads it back. -/
def execProgram (c : Src) (region : BitVec 4) (s : State) : Host.Outcome State Fault Refusal :=
  .next (s.offerNvm c 4 region.toNat)

/-- FLASH_OPERATION_END (R351): The running flash operation ends with its result, and the next queued operation
starts. -/
def execFlashOperationEnd (ok : Bool) (s : State) : Host.Outcome State Fault Refusal :=
  .next (s.flashEnd ok).flashThen

/-- INPUT_QUALIFICATION_START (R335): An input rises above its threshold plus 0.5 V, its 1 ms qualification as good
starts, and for VINA SUP_STAT.RET_WAIT becomes 1. -/
def execInputQualificationStart (b : Bool) (s : State) : Host.Outcome State Fault Refusal :=
  .next (s.inputQual b)

end Sys2Proof.Machine
end

