-- ==== Sys2Proof/Machine/TrainCmds.lean ====
section
/-!
DEFINITION. Machine/TrainCmds.lean: the meanings of the commands of link training (chapter 05).
-/
namespace Sys2Proof.Machine

/-- The set-up scene of auto-negotiation commits (R119, R264): a scene that finds a lock waits, one that fails validation fails the
set-up (R120). Once it has committed, segments enter TRAIN_INIT as their PLL locks. -/
def State.anSetup (s : State) (n : Lane) : State :=
  if s.sg (pathAB n) != sgSetup || s.inHold (pp (pathAB n)) then s
  else
    match (s.seg (pathAB n)).setup with
    | none => forAll (s.portSegs n) (fun q s => s.setupRow q) s
    | some r =>
      if s.anMeets n r then s.anDone n
      else
        match s.anChoose (pathGrp (pathAB n)) r.kbd.toNat with
        | none => s.anFail n 4
        | some c =>
          let l := s.anScene n r c
          if l.any (fun e => s.locked e.1) then s
          else
            let v := s.engScene (pathGrp (pathAB n)) l
            if v.2 || !s.anSceneOk n l then v.1.anFail n 5
            else ((forAll l (fun e s => s.wr e.1 e.2) v.1).commitSets s.rd (l.map (·.1))).anDone n

/-- A request of the module's own has no answer for 1 ms (R126). -/
def State.reqNoAnswer (s : State) (p : Path) : State :=
  if s.sg p == sgExch && !s.trnHeld p && (s.seg p).modReq.isSome then
    (s.modSeg p (fun x => { x with modReq := none })).inc (pp p) PathR.TRN_CNT1_NO_ANSWER
  else s

/-- The break time ends (R138). -/
def State.breakEnd (s : State) (p : Path) : State := if s.sg p == sgBreak then (s.segWait p).settle (laneOf p) else s

/-- The restart delay ends (R138, R141). -/
def State.restartDelay (s : State) (p : Path) : State :=
  if s.sg p == sgFailed && s.on (pp (pathAB (laneOf p))) PathR.TRN_PAIR_AUTO_RESTART && !s.inHold (pp p) then
    (s.segWait p).settle (laneOf p)
  else s

/-- The last closing frame has been sent (R116): under the WX method the one with COUNTDOWN = 1 (R135). -/
def State.closingSent (s : State) (p : Path) : State :=
  if s.sg p == sgEnding && (s.method p != 2 || (s.seg p).closing == 1) then (s.segData p).settle (laneOf p) else s

/-- A period of 1 ms of training activity on a disabled lane pair (R141). -/
def State.ignoredCount (s : State) (p : Path) : State :=
  if s.device == .ready && s.disabling (laneOf p) then s.inc (pp p) PathR.TRN_CNT1_IGNORED else s

/-- TRN_RESTART (R114): A write of 1 to TRN_CTL.RESTART sends both segments to BREAK with LAST_CAUSE 8. -/
def execTrnRestart (c : Src) (p : Path) (s : State) : Host.Outcome State Fault Refusal :=
  .next (s.offerAct c (pp p) PathR.TRN_CTL_RESTART)

/-- AN_PAGE_RECEIVED (R118): A decoded auto-negotiation page is relayed, masked, to the other segment within 10 µs. -/
def execAnPageReceived (p : Path) (page : BitVec 48) (base err : Bool) (res : Option AnResult)
    (s : State) : Host.Outcome State Fault Refusal :=
  .next (s.anPage p page base err res)

/-- AN_SETUP_DONE (R119): When the set-up scene has committed and the PLL is locked, AN_DONE is set and the segments
enter TRAIN_INIT. -/
def execAnSetupDone (n : Lane) (s : State) : Host.Outcome State Fault Refusal :=
  .next (s.anSetup n)

/-- AN_MASK_WRITE (R120): A write to AN_MASK sets the relayed ability mask and clears AN_AUTOMASK. -/
def execAnMaskWrite (c : Src) (n : Lane) (mask : Word) (s : State) : Host.Outcome State Fault Refusal :=
  .next (s.offerReg c (pp (pathAB n)) 0x210 mask allOnes)

/-- TRAINING_FRAME_RECEIVED (R131): A received training frame is checked and, if valid, updates LP_READY, frame lock
and any request. -/
def execTrainingFrameReceived (p : Path) (f : TrnFrame) (s : State) : Host.Outcome State Fault Refusal :=
  .next (s.trainFrame p f)

/-- REQUEST_ANSWERED (R123): The answer to a partner request is sent in the first frame after the scene's boundary or
after the decision. -/
def execRequestAnswered (p : Path) (s : State) : Host.Outcome State Fault Refusal :=
  .next (s.reqAnswered p)

/-- REQUEST_NO_ANSWER (R126): A module request left unanswered for 1 ms is treated as not updated and counted. -/
def execRequestNoAnswer (p : Path) (s : State) : Host.Outcome State Fault Refusal :=
  .next (s.reqNoAnswer p)

/-- LOCAL_CONVERGENCE (R112): Local convergence is declared once the search has ended, CDR is locked and SNR has held
for 1 ms. -/
def execLocalConvergence (p : Path) (snr : BitVec 10) (s : State) : Host.Outcome State Fault Refusal :=
  .next (s.converge p snr.toNat)

/-- TRAINING_TIMEOUT (R138): The training or static convergence timeout expires before LOCAL_DONE. -/
def execTrainingTimeout (p : Path) (s : State) : Host.Outcome State Fault Refusal :=
  .next (s.timeout p)

/-- BREAK_TIME_ELAPSED (R138): The break time ends and the segment returns to WAIT_SIGNAL. -/
def execBreakTimeElapsed (p : Path) (s : State) : Host.Outcome State Fault Refusal :=
  .next (s.breakEnd p)

/-- RESTART_DELAY_ELAPSED (R138): RESTART_DLY elapses in FAILED, and the segment returns to WAIT_SIGNAL if
AUTO_RESTART is set and it is not held. -/
def execRestartDelayElapsed (p : Path) (s : State) : Host.Outcome State Fault Refusal :=
  .next (s.restartDelay p)

/-- CLOSING_FRAMES_SENT (R116): The last closing frame is sent; the segment enters DATA and TRN_DONE is set. -/
def execClosingFramesSent (p : Path) (s : State) : Host.Outcome State Fault Refusal :=
  .next (s.closingSent p)

/-- IGNORED_ACTIVITY_COUNT (R141): Each 1 ms period of training activity seen on a disabled lane pair increments
IGNORED. -/
def execIgnoredActivityCount (p : Path) (s : State) : Host.Outcome State Fault Refusal :=
  .next (s.ignoredCount p)

end Sys2Proof.Machine
end

