-- ==== Sys2Proof/Machine/Mirror.lean ====
section
/-!
DEFINITION. Machine/Mirror.lean: what mirror operations and bulk syncs do to the mirrored range of a follow (R313 to R315).
-/
namespace Sys2Proof.Machine

/-- Bytes of the mirrored range take the lead's values; the rest of `l` is left alone. -/
def State.mirBytes (s : State) (a : Nat) (l : List Byte) : State :=
  ((List.range l.length).zip l).foldl (fun s e => if mirrored (a + e.1) then s.msetList (a + e.1) [e.2] else s) s

/-- The extent of a mirrored scene takes the lead's. -/
def State.mirDesc (s : State) (n base len : Nat) : State :=
  if n ≤ 503 then
    { s with scene := { s.scene with desc := tabSet (fun _ => (0, 0)) s.scene.desc n (base, len) } }
  else s

/-- The job of a mirrored cue. -/
def mirroredJob (x : JobSt) : Bool :=
  match x.job with
  | .cue c => decide (c.toNat < 2048)
  | _ => false

/-- The mirrored cues and scenes are cleared as by a house reset (R283). -/
def State.mirClear (s : State) : State :=
  let keep := s.scene.jobs.filterMap (fun x =>
    if !mirroredJob x then some x else if s.tcReached x then some (s.jobGone x) else none)
  ({ s with
    mem := s.mem.filter (fun e => !(decide (0x00700000 ≤ e.1) && decide (e.1 < 0x00710000)))
    scene := { s.scene with jobs := keep, desc := s.scene.desc.filter (fun e => decide (503 < e.1)) } }).locksFreed

/-- A mirror operation takes effect on the follow, as the same operation would (R314). -/
def State.mirApply (s : State) (op : MirOp) : State :=
  if !(s.follow && s.tw == twPaired) then s
  else
    let s := s.incW .twin TwinR.MIR_CNT_OPS
    match op with
    | .write a l => s.mirBytes a.toNat l
    | .desc n b l => s.mirDesc n.toNat b.toNat l.toNat
    | .store n b l => (s.mirBytes (poolAddr b.toNat) l).mirDesc n.toNat b.toNat (l.length / 32)
    | .arm c => if c.toNat < 2048 then s.cueArm c else s
    | .disarm c => if c.toNat < 2048 then s.cueDisarmNow c else s
    | .clear => s.mirClear

/-- The twin's MIR_CRC arrives (R315): on a difference the follow disarms its mirrored cues and asks for a bulk sync. A commit whose
T_c has been reached is made first. -/
def State.mirCrcIn (s : State) (w : Word) : State :=
  if s.tw != twPaired then s
  else
    let s := s.setF .twin TwinR.MIR_PEER_CRC_PEER w.toNat
    if w = s.mirCrc || s.on .twin TwinR.TWIN_STAT_SYNCING then s
    else
      let s := s.setF .twin TwinR.TWIN_STAT_SYNCING 1
      if s.follow then s.scene.jobs.foldl (fun s x =>
          match x.job with
          | .cue c => if c.toNat < 2048 then s.cueDisarmNow c else s
          | _ => s) s
      else s

/-- A bulk sync completes (R315). The follow takes the lead's range, and arms the cues armed there. -/
def State.syncDone (s : State) (r : MirRange) : State :=
  if !s.on .twin TwinR.TWIN_STAT_SYNCING then s
  else
    let s := if s.follow then
        let s := { s with
          mem := s.mem.filter (fun e => !mirrored e.1)
          scene := { s.scene with desc := s.scene.desc.filter (fun e => decide (503 < e.1)) } }
        let s := r.cells.foldl (fun s e => s.mirBytes e.1.toNat [e.2]) s
        let s := r.desc.foldl (fun s e => s.mirDesc e.1.toNat e.2.1.toNat e.2.2.toNat) s
        r.armed.foldl (fun s c => if c.toNat < 2048 then s.cueArm c else s) s
      else s
    ((s.setF .twin TwinR.TWIN_STAT_SYNCING 0).incW .twin TwinR.MIR_CNT_SYNCS).raise .twin 2

end Sys2Proof.Machine
end

