-- ==== Sys2Proof/Machine/TwinsCmds.lean ====
section
/-!
DEFINITION. Machine/TwinsCmds.lean: the meanings of the commands of twin operation and stand-down (chapter 12).
-/
namespace Sys2Proof.Machine

/-- TWIN_LINK_UP (R309): All four twin link lanes reach block lock and alignment, and the link is up. -/
def execTwinLinkUp (s : State) : Host.Outcome State Fault Refusal :=
  .next s.twinUp

/-- TWIN_LINK_LOST (R309): A lane loses block lock or a message fails four times, and the link is lost. -/
def execTwinLinkLost (lanes : BitVec 4) (message : Bool) (s : State) : Host.Outcome State Fault Refusal :=
  .next (s.twinDown lanes message)

/-- TWIN_SEND_TIMER (R312): A periodic interval expires and the module sends the corresponding twin message. -/
def execTwinSendTimer (item : BitVec 3) (s : State) : Host.Outcome State Fault Refusal :=
  .next (s.twinSend item)

/-- HELLO (R319): A hello received over an up link with the heartbeat present decides roles and pairing. -/
def execHello (h : TwinHello) (resends : BitVec 2) (s : State) : Host.Outcome State Fault Refusal :=
  .next (s.twinHello h resends.toNat)

/-- TIME_EXCHANGE (R322): The follow completes a two-way exchange and steps its timebase or writes TIME_RATE. -/
def execTimeExchange (d21 d43 : BitVec 64) (s : State) : Host.Outcome State Fault Refusal :=
  .next (s.timeExchange d21 d43)

/-- PIN_REPORT (R324): A received pin report updates PIN_TWIN and the pin mismatch runs. -/
def execPinReport (p : Path) (meas held : Word) (st : BitVec 3) (s : State) : Host.Outcome State Fault Refusal :=
  .next (s.pinReport p meas held st)

/-- CONFIG_REPORT (R317): A received configuration report is compared, setting or clearing CFG_MIS bits. -/
def execConfigReport (p : Path) (cfg : TwinCfg) (s : State) : Host.Outcome State Fault Refusal :=
  .next (s.cfgReport p cfg)

/-- COEFFICIENT_REPORT (R316): The twin's trained coefficients are stored in the MIR registers for seeding. -/
def execCoefficientReport (p : Path) (coef : TwinCoef) (s : State) : Host.Outcome State Fault Refusal :=
  .next (s.coefReport p coef)

/-- MIRROR_OPERATION (R314): A mirror operation from the lead takes effect on the follow's mirrored range. -/
def execMirrorOperation (op : MirOp) (s : State) : Host.Outcome State Fault Refusal :=
  .next (s.mirApply op)

/-- MIR_CRC (R315): The lead's MIR_CRC is compared, and a bulk sync is asked for on difference. -/
def execMirCrc (w : Word) (s : State) : Host.Outcome State Fault Refusal :=
  .next (s.mirCrcIn w)

/-- BULK_SYNC_DONE (R315): A bulk sync of the mirrored range completes and SYNC_DONE is set. -/
def execBulkSyncDone (r : MirRange) (s : State) : Host.Outcome State Fault Refusal :=
  .next (s.syncDone r)

/-- HB_LOST (R311): No heartbeat edge for 5 µs declares the twin's heartbeat lost. -/
def execHbLost (s : State) : Host.Outcome State Fault Refusal :=
  .next s.hbLost

/-- HEARTBEAT_PRESENT (R311): 16 consecutive heartbeat edges at 1 MHz declare the heartbeat present. -/
def execHeartbeatPresent (s : State) : Host.Outcome State Fault Refusal :=
  .next s.hbPresent

/-- PROMOTION_TIMEOUT (R320): A follow ALONE for the promotion delay becomes lead. -/
def execPromotionTimeout (s : State) : Host.Outcome State Fault Refusal :=
  .next s.promote

/-- TIME_TRANSFER_LOST (R323): No valid exchange for 4 ms puts the follow in holdover and sets TT_HOLD. -/
def execTimeTransferLost (s : State) : Host.Outcome State Fault Refusal :=
  .next s.transferLost

/-- REQ (R326): SD_CTL.REQ asks to stand the module down, or is refused with a cause. -/
def execReq (c : Src) (force : Bool) (s : State) : Host.Outcome State Fault Refusal :=
  .next (s.offerReg c .twin 0x050 (BitVec.ofNat 32 (1 + 32 * b2n force)) allOnes)

/-- CONFIRM (R328): SD_CTL.CONFIRM makes the module STOOD_DOWN and clears its placement records. -/
def execConfirm (c : Src) (s : State) : Host.Outcome State Fault Refusal :=
  .next (s.offerAct c .twin TwinR.SD_CTL_CONFIRM)

/-- CANCEL (R328): SD_CTL.CANCEL returns a REQUESTED module to IN_SERVICE, or acts as REENTER. -/
def execCancel (c : Src) (s : State) : Host.Outcome State Fault Refusal :=
  .next (s.offerAct c .twin TwinR.SD_CTL_CANCEL)

/-- REENTER (R329): SD_CTL.REENTER starts re-entrance of a stood-down module. -/
def execReenter (c : Src) (s : State) : Host.Outcome State Fault Refusal :=
  .next (s.offerAct c .twin TwinR.SD_CTL_REENTER)

/-- REPLACE (R329): SD_CTL.REPLACE brings about placement of every path not placed since CONFIRM. -/
def execReplace (c : Src) (s : State) : Host.Outcome State Fault Refusal :=
  .next (s.offerAct c .twin TwinR.SD_CTL_REPLACE)

/-- REENTRY_COMPLETE (R329): When every lane pair meets the re-entrance conditions, the module becomes IN_SERVICE. -/
def execReentryComplete (s : State) : Host.Outcome State Fault Refusal :=
  .next s.reenterDone

/-- REENTRY_TIMEOUT (R329): Re-entrance not completed within its timeout returns the module to STOOD_DOWN. -/
def execReentryTimeout (s : State) : Host.Outcome State Fault Refusal :=
  .next s.reenterTimeout

/-- TWIN_CFG_EN_WRITE (R331): A write of TWIN_CFG.EN enables twin mode, or disables the link, heartbeat and roles. -/
def execTwinCfgEnWrite (c : Src) (v : Bool) (s : State) : Host.Outcome State Fault Refusal :=
  .next (s.offerSet c .twin TwinR.TWIN_CFG_EN (b2n v))

end Sys2Proof.Machine
end

