-- ==== Sys2Proof/Machine/Dispatch.lean ====
section
/-!
DEFINITION. Machine/Dispatch.lean: the effect of each command on everything but the queue of waiting commands.
-/
namespace Sys2Proof.Machine

def exec (i : Instr) (s : State) : Host.Outcome State Fault Refusal :=
  match i with
  | .fabricSpeedMeasure rate => Sys2Proof.Machine.execFabricSpeedMeasure rate s
  | .operationTakesEffect => Sys2Proof.Machine.execOperationTakesEffect s
  | .registerWrite c addr data => Sys2Proof.Machine.execRegisterWrite c addr data s
  | .wingWrite c page x data mask => Sys2Proof.Machine.execWingWrite c page x data mask s
  | .wingRead c page x => Sys2Proof.Machine.execWingRead c page x s
  | .pageCtlWrite c page hold oos => Sys2Proof.Machine.execPageCtlWrite c page hold oos s
  | .evtRawClear c page bits => Sys2Proof.Machine.execEvtRawClear c page bits s
  | .violCounterWrite c page second data => Sys2Proof.Machine.execViolCounterWrite c page second data s
  | .twtWindowWrite c window => Sys2Proof.Machine.execTwtWindowWrite c window s
  | .minClr c => Sys2Proof.Machine.execMinClr c s
  | .timeNowRead c => Sys2Proof.Machine.execTimeNowRead c s
  | .pllLocked g b band => Sys2Proof.Machine.execPllLocked g b band s
  | .pllLossOfLock g b => Sys2Proof.Machine.execPllLossOfLock g b s
  | .pllHoldExpiry g b => Sys2Proof.Machine.execPllHoldExpiry g b s
  | .sigDetChange p level => Sys2Proof.Machine.execSigDetChange p level s
  | .sweepDue p => Sys2Proof.Machine.execSweepDue p s
  | .rotationStart p => Sys2Proof.Machine.execRotationStart p s
  | .matchWindowEnd p ofs gain skew => Sys2Proof.Machine.execMatchWindowEnd p ofs gain skew s
  | .sliceReleaseEnd p slice ok ofs gain skew => Sys2Proof.Machine.execSliceReleaseEnd p slice ok ofs gain skew s
  | .swingForce c p => Sys2Proof.Machine.execSwingForce c p s
  | .swingAbandon c p => Sys2Proof.Machine.execSwingAbandon c p s
  | .cdrLockAcquire p freqOfs => Sys2Proof.Machine.execCdrLockAcquire p freqOfs s
  | .cdrLockLoss p cut => Sys2Proof.Machine.execCdrLockLoss p cut s
  | .adaptUpdate p v => Sys2Proof.Machine.execAdaptUpdate p v s
  | .captureStart c p => Sys2Proof.Machine.execCaptureStart c p s
  | .captureStop c p => Sys2Proof.Machine.execCaptureStop c p s
  | .captureEnd p data oldest => Sys2Proof.Machine.execCaptureEnd p data oldest s
  | .trnRestart c p => Sys2Proof.Machine.execTrnRestart c p s
  | .anPageReceived p page base err res => Sys2Proof.Machine.execAnPageReceived p page base err res s
  | .anSetupDone n => Sys2Proof.Machine.execAnSetupDone n s
  | .anMaskWrite c n mask => Sys2Proof.Machine.execAnMaskWrite c n mask s
  | .trainingFrameReceived p f => Sys2Proof.Machine.execTrainingFrameReceived p f s
  | .requestAnswered p => Sys2Proof.Machine.execRequestAnswered p s
  | .requestNoAnswer p => Sys2Proof.Machine.execRequestNoAnswer p s
  | .localConvergence p snr => Sys2Proof.Machine.execLocalConvergence p snr s
  | .trainingTimeout p => Sys2Proof.Machine.execTrainingTimeout p s
  | .breakTimeElapsed p => Sys2Proof.Machine.execBreakTimeElapsed p s
  | .restartDelayElapsed p => Sys2Proof.Machine.execRestartDelayElapsed p s
  | .closingFramesSent p => Sys2Proof.Machine.execClosingFramesSent p s
  | .ignoredActivityCount p => Sys2Proof.Machine.execIgnoredActivityCount p s
  | .probeSample p l => Sys2Proof.Machine.execProbeSample p l s
  | .probeWindowEnd p fixed => Sys2Proof.Machine.execProbeWindowEnd p fixed s
  | .alignMark => Sys2Proof.Machine.execAlignMark s
  | .internalMark => Sys2Proof.Machine.execInternalMark s
  | .markMissing => Sys2Proof.Machine.execMarkMissing s
  | .slewStep p => Sys2Proof.Machine.execSlewStep p s
  | .framingLockAcquired p eth find => Sys2Proof.Machine.execFramingLockAcquired p eth find s
  | .framingLockLost p eth cut => Sys2Proof.Machine.execFramingLockLost p eth cut s
  | .converterLockChange p which w => Sys2Proof.Machine.execConverterLockChange p which w s
  | .codewordProcessed p w => Sys2Proof.Machine.execCodewordProcessed p w s
  | .ptpEventMessage p fr => Sys2Proof.Machine.execPtpEventMessage p fr s
  | .counterSnapshot c p => Sys2Proof.Machine.execCounterSnapshot c p s
  | .fecDegradeWindowEnd p => Sys2Proof.Machine.execFecDegradeWindowEnd p s
  | .prbsCheckerLock p => Sys2Proof.Machine.execPrbsCheckerLock p s
  | .prbsCheckerLoss p bits errs => Sys2Proof.Machine.execPrbsCheckerLoss p bits errs s
  | .fire c p => Sys2Proof.Machine.execFire c p s
  | .injectionDue p => Sys2Proof.Machine.execInjectionDue p s
  | .timeStep c => Sys2Proof.Machine.execTimeStep c s
  | .timeArm c => Sys2Proof.Machine.execTimeArm c s
  | .holdReq c => Sys2Proof.Machine.execHoldReq c s
  | .timeRateWrite c rate => Sys2Proof.Machine.execTimeRateWrite c rate s
  | .timeUncWrite c v => Sys2Proof.Machine.execTimeUncWrite c v s
  | .holdoverTimeout => Sys2Proof.Machine.execHoldoverTimeout s
  | .uncThresholdCrossed => Sys2Proof.Machine.execUncThresholdCrossed s
  | .refclkLost r => Sys2Proof.Machine.execRefclkLost r s
  | .refclkPresent r => Sys2Proof.Machine.execRefclkPresent r s
  | .refclkStartupTimeout => Sys2Proof.Machine.execRefclkStartupTimeout s
  | .bridgeHandover => Sys2Proof.Machine.execBridgeHandover s
  | .keepaliveReturn => Sys2Proof.Machine.execKeepaliveReturn s
  | .kaWindowEnd => Sys2Proof.Machine.execKaWindowEnd s
  | .markCfgWrite c period data => Sys2Proof.Machine.execMarkCfgWrite c period data s
  | .ppsOutPulse => Sys2Proof.Machine.execPpsOutPulse s
  | .ppsOutEnd => Sys2Proof.Machine.execPpsOutEnd s
  | .ppsInEdge => Sys2Proof.Machine.execPpsInEdge s
  | .frameExtract k fr => Sys2Proof.Machine.execFrameExtract k fr s
  | .txTailWrite c k tail => Sys2Proof.Machine.execTxTailWrite c k tail s
  | .frameFetch k => Sys2Proof.Machine.execFrameFetch k s
  | .frameInsert k run => Sys2Proof.Machine.execFrameInsert k run s
  | .frameDeadlineExpiry k => Sys2Proof.Machine.execFrameDeadlineExpiry k s
  | .portDisable c k => Sys2Proof.Machine.execPortDisable c k s
  | .umatanRequest k => Sys2Proof.Machine.execUmatanRequest k s
  | .umatanResponseQueued k => Sys2Proof.Machine.execUmatanResponseQueued k s
  | .sessionTimeout place => Sys2Proof.Machine.execSessionTimeout place s
  | .openStore c scene base => Sys2Proof.Machine.execOpenStore c scene base s
  | .openCommit c => Sys2Proof.Machine.execOpenCommit c s
  | .openDiscard c => Sys2Proof.Machine.execOpenDiscard c s
  | .storeCopyEnd => Sys2Proof.Machine.execStoreCopyEnd s
  | .sceneDescWrite c base len => Sys2Proof.Machine.execSceneDescWrite c base len s
  | .sceneValidate => Sys2Proof.Machine.execSceneValidate s
  | .deferredResume => Sys2Proof.Machine.execDeferredResume s
  | .sceneCommit j => Sys2Proof.Machine.execSceneCommit j s
  | .cueArm c cue => Sys2Proof.Machine.execCueArm c cue s
  | .cueDisarm c cue => Sys2Proof.Machine.execCueDisarm c cue s
  | .load c e slot => Sys2Proof.Machine.execLoad c e slot s
  | .start c e => Sys2Proof.Machine.execStart c e s
  | .stop c e => Sys2Proof.Machine.execStop c e s
  | .loadDone e => Sys2Proof.Machine.execLoadDone e s
  | .engineReady e => Sys2Proof.Machine.execEngineReady e s
  | .cmdqAppend c e quad data => Sys2Proof.Machine.execCmdqAppend c e quad data s
  | .rspqRead c e => Sys2Proof.Machine.execRspqRead c e s
  | .ping e => Sys2Proof.Machine.execPing e s
  | .ctleSearch e => Sys2Proof.Machine.execCtleSearch e s
  | .eyeScan e => Sys2Proof.Machine.execEyeScan e s
  | .sweep e => Sys2Proof.Machine.execSweep e s
  | .calRun e => Sys2Proof.Machine.execCalRun e s
  | .abortCommand e => Sys2Proof.Machine.execAbortCommand e s
  | .flush e => Sys2Proof.Machine.execFlush e s
  | .checkpoint e size => Sys2Proof.Machine.execCheckpoint e size s
  | .longCommandEnd e detail r0 r1 grid => Sys2Proof.Machine.execLongCommandEnd e detail r0 r1 grid s
  | .migrationGo c g target => Sys2Proof.Machine.execMigrationGo c g target s
  | .migrationSafePoint g => Sys2Proof.Machine.execMigrationSafePoint g s
  | .migrationHandover g => Sys2Proof.Machine.execMigrationHandover g s
  | .watchdogExpiry e => Sys2Proof.Machine.execWatchdogExpiry e s
  | .imageFault e r0 r1 => Sys2Proof.Machine.execImageFault e r0 r1 s
  | .twinLinkUp => Sys2Proof.Machine.execTwinLinkUp s
  | .twinLinkLost lanes message => Sys2Proof.Machine.execTwinLinkLost lanes message s
  | .twinSendTimer item => Sys2Proof.Machine.execTwinSendTimer item s
  | .hello h resends => Sys2Proof.Machine.execHello h resends s
  | .timeExchange d21 d43 => Sys2Proof.Machine.execTimeExchange d21 d43 s
  | .pinReport p meas held st => Sys2Proof.Machine.execPinReport p meas held st s
  | .configReport p cfg => Sys2Proof.Machine.execConfigReport p cfg s
  | .coefficientReport p coef => Sys2Proof.Machine.execCoefficientReport p coef s
  | .mirrorOperation op => Sys2Proof.Machine.execMirrorOperation op s
  | .mirCrc w => Sys2Proof.Machine.execMirCrc w s
  | .bulkSyncDone r => Sys2Proof.Machine.execBulkSyncDone r s
  | .hbLost => Sys2Proof.Machine.execHbLost s
  | .heartbeatPresent => Sys2Proof.Machine.execHeartbeatPresent s
  | .promotionTimeout => Sys2Proof.Machine.execPromotionTimeout s
  | .timeTransferLost => Sys2Proof.Machine.execTimeTransferLost s
  | .req c force => Sys2Proof.Machine.execReq c force s
  | .confirm c => Sys2Proof.Machine.execConfirm c s
  | .cancel c => Sys2Proof.Machine.execCancel c s
  | .reenter c => Sys2Proof.Machine.execReenter c s
  | .replace c => Sys2Proof.Machine.execReplace c s
  | .reentryComplete => Sys2Proof.Machine.execReentryComplete s
  | .reentryTimeout => Sys2Proof.Machine.execReentryTimeout s
  | .twinCfgEnWrite c v => Sys2Proof.Machine.execTwinCfgEnWrite c v s
  | .inputGood b => Sys2Proof.Machine.execInputGood b s
  | .inputLost b => Sys2Proof.Machine.execInputLost b s
  | .returnDelayExpiry => Sys2Proof.Machine.execReturnDelayExpiry s
  | .forceBWrite c v => Sys2Proof.Machine.execForceBWrite c v s
  | .railFault r => Sys2Proof.Machine.execRailFault r s
  | .measure c => Sys2Proof.Machine.execMeasure c s
  | .capacitanceTestDue => Sys2Proof.Machine.execCapacitanceTestDue s
  | .capacitanceTestEnd dvc dvd reached => Sys2Proof.Machine.execCapacitanceTestEnd dvc dvd reached s
  | .energyUpdate vina vinb pin hup => Sys2Proof.Machine.execEnergyUpdate vina vinb pin hup s
  | .powerFailure => Sys2Proof.Machine.execPowerFailure s
  | .fallRecordWrite hup => Sys2Proof.Machine.execFallRecordWrite hup s
  | .store c region => Sys2Proof.Machine.execStore c region s
  | .read c region => Sys2Proof.Machine.execRead c region s
  | .erase c region => Sys2Proof.Machine.execErase c region s
  | .program c region => Sys2Proof.Machine.execProgram c region s
  | .flashOperationEnd ok => Sys2Proof.Machine.execFlashOperationEnd ok s
  | .reqRun c g => Sys2Proof.Machine.execReqRun c g s
  | .reqIntermission c g => Sys2Proof.Machine.execReqIntermission c g s
  | .reqOff c g => Sys2Proof.Machine.execReqOff c g s
  | .transitionEnd g => Sys2Proof.Machine.execTransitionEnd g s
  | .idleTimerExpiry g => Sys2Proof.Machine.execIdleTimerExpiry g s
  | .wakeNow c g => Sys2Proof.Machine.execWakeNow c g s
  | .dark c key => Sys2Proof.Machine.execDark c key s
  | .darkReached => Sys2Proof.Machine.execDarkReached s
  | .darkWake porst => Sys2Proof.Machine.execDarkWake porst s
  | .bandgapCompare diff => Sys2Proof.Machine.execBandgapCompare diff s
  | .sensorMean k reading twin => Sys2Proof.Machine.execSensorMean k reading twin s
  | .calCmdRun c g => Sys2Proof.Machine.execCalCmdRun c g s
  | .calPeriodExpiry g => Sys2Proof.Machine.execCalPeriodExpiry g s
  | .pendingRunStart g => Sys2Proof.Machine.execPendingRunStart g s
  | .calBlockEnd g l => Sys2Proof.Machine.execCalBlockEnd g l s
  | .apply c g => Sys2Proof.Machine.execApply c g s
  | .calAbort c g => Sys2Proof.Machine.execCalAbort c g s
  | .rampStep g => Sys2Proof.Machine.execRampStep g s
  | .disruptiveRun c g skew paths => Sys2Proof.Machine.execDisruptiveRun c g skew paths s
  | .disruptiveWindowEnd p l => Sys2Proof.Machine.execDisruptiveWindowEnd p l s
  | .curtain c force => Sys2Proof.Machine.execCurtain c force s
  | .group c target force => Sys2Proof.Machine.execGroup c target force s
  | .engine c target => Sys2Proof.Machine.execEngine c target s
  | .rehAbort c => Sys2Proof.Machine.execRehAbort c s
  | .fuse c => Sys2Proof.Machine.execFuse c s
  | .fuseSessionEnd bad => Sys2Proof.Machine.execFuseSessionEnd bad s
  | .rehTestEnd u t r => Sys2Proof.Machine.execRehTestEnd u t r s
  | .rehRunClose => Sys2Proof.Machine.execRehRunClose s
  | .ontimeMinute => Sys2Proof.Machine.execOntimeMinute s
  | .write32 mode3 addr => Sys2Proof.Machine.execWrite32 mode3 addr s
  | .read32 mode3 addr full => Sys2Proof.Machine.execRead32 mode3 addr full s
  | .write128 mode3 addr => Sys2Proof.Machine.execWrite128 mode3 addr s
  | .read128 mode3 addr full => Sys2Proof.Machine.execRead128 mode3 addr full s
  | .status mode3 full => Sys2Proof.Machine.execStatus mode3 full s
  | .writeDataComplete data => Sys2Proof.Machine.execWriteDataComplete data s
  | .spiFrameFault f mode3 => Sys2Proof.Machine.execSpiFrameFault f mode3 s
  | .spiStallTimeout => Sys2Proof.Machine.execSpiStallTimeout s
  | .spiFlush c => Sys2Proof.Machine.execSpiFlush c s
  | .twtPointerSet p => Sys2Proof.Machine.execTwtPointerSet p s
  | .twtAddressRead tScl tLow => Sys2Proof.Machine.execTwtAddressRead tScl tLow s
  | .twtReadContinue tScl tLow => Sys2Proof.Machine.execTwtReadContinue tScl tLow s
  | .twtDataByte b => Sys2Proof.Machine.execTwtDataByte b s
  | .twtBufferApply => Sys2Proof.Machine.execTwtBufferApply s
  | .twtStartStopFault => Sys2Proof.Machine.execTwtStartStopFault s
  | .twtTimeout k => Sys2Proof.Machine.execTwtTimeout k s
  | .prompt => Sys2Proof.Machine.execPrompt s
  | .promptAbandon mine => Sys2Proof.Machine.execPromptAbandon mine s
  | .twcGo c addr rlen wlen => Sys2Proof.Machine.execTwcGo c addr rlen wlen s
  | .twcAbort c => Sys2Proof.Machine.execTwcAbort c s
  | .arbitrationLost => Sys2Proof.Machine.execArbitrationLost s
  | .twcTimeout sda started => Sys2Proof.Machine.execTwcTimeout sda started s
  | .twcTransactionEnd fin read => Sys2Proof.Machine.execTwcTransactionEnd fin read s
  | .busRecovery freed => Sys2Proof.Machine.execBusRecovery freed s
  | .vioLoss => Sys2Proof.Machine.execVioLoss s
  | .vioReturn => Sys2Proof.Machine.execVioReturn s
  | .eventInject c page bits => Sys2Proof.Machine.execEventInject c page bits s
  | .violationInject c page kinds => Sys2Proof.Machine.execViolationInject c page kinds s
  | .injArm c key sensor arm => Sys2Proof.Machine.execInjArm c key sensor arm s
  | .eccInject row => Sys2Proof.Machine.execEccInject row s
  | .softEvent c code => Sys2Proof.Machine.execSoftEvent c code s
  | .pathReset c p => Sys2Proof.Machine.execPathReset c p s
  | .groupReset c g => Sys2Proof.Machine.execGroupReset c g s
  | .resetWaitEnd => Sys2Proof.Machine.execResetWaitEnd s
  | .houseReset by_ => Sys2Proof.Machine.execHouseReset by_ s
  | .houseResetEnd => Sys2Proof.Machine.execHouseResetEnd s
  | .fullReset => Sys2Proof.Machine.execFullReset s
  | .startUp s0 s1 s2 => Sys2Proof.Machine.execStartUp s0 s1 s2 s
  | .startUpReset => Sys2Proof.Machine.execStartUpReset s
  | .lanesReady => Sys2Proof.Machine.execLanesReady s
  | .burnUm c slot => Sys2Proof.Machine.execBurnUm c slot s
  | .revokeUm c slot => Sys2Proof.Machine.execRevokeUm c slot s
  | .revokeImgkey c slot => Sys2Proof.Machine.execRevokeImgkey c slot s
  | .raiseSvn c value => Sys2Proof.Machine.execRaiseSvn c value s
  | .keyOpEnd ok => Sys2Proof.Machine.execKeyOpEnd ok s
  | .boundaryScanInstruction => Sys2Proof.Machine.execBoundaryScanInstruction s
  | .vkaLost => Sys2Proof.Machine.execVkaLost s
  | .inputQualificationStart b => Sys2Proof.Machine.execInputQualificationStart b s
  | .pathOrGroupResetEnd => Sys2Proof.Machine.execPathOrGroupResetEnd s
  | .engineHeartbeat e ckpt => Sys2Proof.Machine.execEngineHeartbeat e ckpt s
  | .firmwareNotice e r0 r1 => Sys2Proof.Machine.execFirmwareNotice e r0 r1 s
  | .twtReadEnd whole => Sys2Proof.Machine.execTwtReadEnd whole s
  | .sramEccError mac row double reader => Sys2Proof.Machine.execSramEccError mac row double reader s

end Sys2Proof.Machine
end

