-- ==== Sys2Proof/Machine/Lands.lean ====
section
/-!
DEFINITION. Machine/Lands.lean: what the module drives onto its output lands (R65, R68, R104, R311, R331, R449). A management frame is
one command, so between commands no bus land is driven by a transfer.
-/
namespace Sys2Proof.Machine

/-- The output lands of R68. -/
inductive OutLand where
  /-- The transmitter of a path (TXAn, TXBn). -/
  | tx (p : Path)
  | twlTx | twinHbo | spiSdo | twtSda | twcScl | twcSda | attnN | ppsOut | tdo
  deriving DecidableEq, Repr

/-- What a land does: a transmitter in electrical idle or sending; a level, a differential low or a running square wave; an open-drain
land released or pulled low; a push-pull land in high impedance. -/
inductive Drive where
  | elecIdle | sending | low | high | running | released | highZ
  deriving DecidableEq, Repr

/-- The module is neither in full reset nor in DARK nor without power. -/
def State.landsServed (s : State) : Bool :=
  s.device == .ready || s.device == .starting || s.device == .enteringDark

/-- A land at VIO levels: in high impedance while VIO is lost (R65). -/
def State.vioLand (s : State) (d : Drive) : Drive := if s.land.vio then d else .highZ

/-- What an output land does in each state of the module (R68). Outside a frame SPI_CS_N is high, and outside the Shift states TDO is
in high impedance. -/
def State.drive (s : State) : OutLand → Drive
  | .tx p => if s.landsServed && !s.txIdle p then .sending else .elecIdle
  | .twlTx => if s.landsServed && s.on .twin TwinR.TWIN_CFG_EN then .sending else .elecIdle
  | .twinHbo => if s.landsServed && s.on .twin TwinR.TWIN_CFG_EN then .running else .low
  | .spiSdo | .tdo => .highZ
  | .twtSda | .twcScl | .twcSda => s.vioLand .released
  | .attnN => s.vioLand (if s.on .house HouseR.ATTN_STAT_ATTN && s.attnAllowed then .low else .released)
  | .ppsOut => s.vioLand (if s.landsServed && s.land.pps then .high else .low)

end Sys2Proof.Machine
end

