-- ==== Sys2Proof/Safety.lean ====
section
/-!
DEFINITION. Safety.lean: what a claim may ask of a state: that its tables are in canonical form, so that equal machines are equal data,
and that a step leads on.
-/
namespace Sys2Proof.Machine

/-- The memory windows are in canonical form: addresses strictly rising, and no byte that equals what an unlisted one reads as. -/
def Memory.wf (m : List Host.Cell) : Bool := tabWf memReset m

/-- Every table of the state is in canonical form. -/
def State.Canon (s : State) : Prop :=
  tabWf regReset s.regs = true ∧ Memory.wf s.mem = true ∧ tabWf (fun _ => 0) s.ecc = true ∧
  tabWf (fun _ => (0 : Word)) s.latch = true ∧ tabWf (fun _ => (0 : BitVec 128)) s.readData = true ∧
  tabWf (fun _ => Busy.no) s.busy = true ∧ tabWf (fun _ => ({} : SliceSt)) s.slices = true ∧
  tabWf (fun _ => ({} : PathSt)) s.paths = true ∧ tabWf (fun _ => ({} : GroupSt)) s.groups = true ∧
  tabWf (fun _ => 0) s.ctrs = true ∧ tabWf (fun _ => ({} : EngSt)) s.engines = true ∧
  tabWf (fun _ => ({} : PortSt)) s.ports = true

/-- What is burned into a Umatan key slot stays burned (R475). -/
def UmSlotSt.Later (x y : UmSlotSt) : Prop :=
  (x.burned = true → y.burned = true) ∧ (x.valid = true → y.valid = true) ∧ (x.revoked = true → y.revoked = true)

/-- Every bit of `x` that is 1 is 1 in `y`. -/
def BitsKept (x y : BitVec 4) : Prop := ∀ k, x.getLsbD k = true → y.getLsbD k = true

/-- The one-time-programmable bank and the nonces only go forward (R475, R478). -/
def SecSt.Later (x y : SecSt) : Prop :=
  x.um0.Later y.um0 ∧ x.um1.Later y.um1 ∧ BitsKept x.imgRev y.imgRev ∧
  x.svn ≤ y.svn ∧ x.nonces ≤ y.nonces

/-- What never goes back: time, the free values drawn, and what is burned (R413, R475). -/
def State.Later (s t : State) : Prop :=
  s.elapsed ≤ t.elapsed ∧ s.free ≤ t.free ∧ s.security.Later t.security ∧ s.reh.fuses <+: t.reh.fuses

/-- The registers that raising an event (R449, R450, R279, R457) or counting a violation (R452, R453) may change beside the EVT_RAW or the
counter of its page: HOUSE.ATTN_STAT, the VIOL_TOT registers, VIOL_UNMAPPED, VIOL_LAST and ECC_INJ, and the CUE page's VIOL_0. -/
def sideRegs : List Nat := [0x09C, 0x0A0, 0x0A4, 0x0A8, 0x0AC, 0x0B0, 0x0B4, 0x0C4, 0x8020]

/-- The address lies in the cue sheet, whose STAT words follow the event cues (R270, R272). -/
def inSheet (a : Nat) : Prop := 0x00700000 ≤ a ∧ a < 0x00720000

/-- `t` has every register of `s` but those at `l` and the side registers, and every byte of memory outside the cue sheet. -/
def State.Frame (l : List Nat) (s t : State) : Prop :=
  (∀ a, a ∉ l → a ∉ sideRegs → t.rd a = s.rd a) ∧ (∀ a, ¬ inSheet a → t.mget a = s.mget a)

/-- Likewise, for a command that stores at most the `n` bytes from `lo`. -/
def State.FrameAt (l : List Nat) (lo n : Nat) (s t : State) : Prop :=
  (∀ a, a ∉ l → a ∉ sideRegs → t.rd a = s.rd a) ∧ (∀ a, ¬ inSheet a → a < lo ∨ lo + n ≤ a → t.mget a = s.mget a)

/-- The addresses of registers of a page. -/
def regsOf (p : Page) (l : List Nat) : List Nat := l.map (pageAddr p)

/-- Everything of `t` but its registers, memory, ECC rows and scene work is as in `s`. -/
def State.SameRest (s t : State) : Prop :=
  t.elapsed = s.elapsed ∧ t.free = s.free ∧ t.access = s.access ∧ t.latch = s.latch ∧
  t.readData = s.readData ∧ t.busy = s.busy ∧ t.slices = s.slices ∧ t.paths = s.paths ∧
  t.groups = s.groups ∧ t.ctrs = s.ctrs ∧ t.trims = s.trims ∧ t.pends = s.pends ∧
  t.ramps = s.ramps ∧ t.cal = s.cal ∧ t.engines = s.engines ∧ t.flash = s.flash ∧
  t.supply = s.supply ∧ t.reh = s.reh ∧ t.security = s.security ∧ t.twin = s.twin ∧
  t.time = s.time ∧ t.ports = s.ports ∧ t.spi = s.spi ∧ t.twt = s.twt ∧
  t.twc = s.twc ∧ t.device = s.device ∧ t.startAt = s.startAt ∧ t.houseReset = s.houseReset ∧
  t.start = s.start ∧ t.land = s.land ∧ t.pending = s.pending

/-- A step from `s` leads to a next state. -/
def State.Runs (s : State) : Prop := ∃ t, step s = .next t

/-- The command runs, and its next state is as `P` says. -/
def Answers (c : Instr) (s : State) (P : State → Prop) : Prop := ∃ t, exec c s = .next t ∧ P t

/-- An operation of cost `c` that is offered is served at once: nothing waits before it, and it is admitted (R14, R16). -/
def State.free? (s : State) (c : Nat) : Bool := s.access.isEmpty && s.admits s.admQ c

/-- A write of the masked bits of a register is not refused when it is offered (R2), it is admitted (R14), nothing waits before it, and
its source, its page and its key let it act (R32, R38, R455). -/
def State.takes (s : State) (c : Src) (p : Page) (off : Nat) (data mask : Word) : Bool :=
  !s.regShut p off && s.free? (writeCost c p off data mask) && (s.noWrite c p off (data &&& mask)).isNone

/-- Likewise a write of one code to one field. -/
def State.takesF (s : State) (c : Src) (p : Page) (x : Fld) (v : Nat) : Bool :=
  s.takes c p x.off (fset 0 x.hi x.lo v) (fldMask x.hi x.lo)

/-- The flash begins what is asked of it at once: the device is ready, no operation runs or waits, and no capacitance test runs (R340,
R351). -/
def State.flashFree (s : State) : Bool :=
  s.device == .ready && s.flash.run.isNone && s.flash.queue.isEmpty && !s.supply.testing

/-- A write of NVM_CMD with an operation on a region is taken at rest, and its region, address and length are legal for it (R350). -/
def State.nvmTakes (s : State) (c : Src) (op : Nat) (region : BitVec 4) : Bool :=
  s.takes c .nvm 0x040 (BitVec.ofNat 32 (op * 2 ^ 28 + region.toNat * 2 ^ 24)) allOnes && s.f .nvm NvmR.NVM_STAT_STATE == 0 &&
    cmdArgsOk op region.toNat (s.f .nvm NvmR.NVM_ADDR_ADDR) (s.f .nvm NvmR.NVM_LEN_LEN)

/-- A write of REH_CMD is taken and begins a run, whose log entry has its energy and its place (R397, R398, R414). -/
def State.rehTakes (s : State) (c : Src) (op target : Nat) (force : Bool) : Bool :=
  s.takes c .reh 0x040 (BitVec.ofNat 32 (op * 2 ^ 28 + target * 2 ^ 8 + 2 * b2n force)) allOnes &&
    (s.rehCause op target force).isNone && !s.houseReset && s.flashFree && s.flashBlank s.logPlace.1 256 && decide (17 ≤ s.eAvail)

/-- A write of SEC_OP with its key is taken and legal (R475, R476). -/
def State.keyWrite (s : State) (c : Src) (op value slot : Nat) (ok : Bool) : Bool :=
  s.takes c .sec 0x044 (BitVec.ofNat 32 (0x3C * 2 ^ 24 + op * 2 ^ 16 + value * 2 ^ 8 + slot)) allOnes && s.keyOpOk op value slot == ok

/-- Likewise, and its burn begins at once. -/
def State.keyTakes (s : State) (c : Src) (op value slot : Nat) : Bool :=
  s.keyWrite c op value slot true && !s.gated && s.security.op.isNone && s.rehState != 4 && s.flashFree && decide (105 ≤ s.eAvail)

/-- A read or write frame is accepted by the SPI target (R420, R422). -/
def State.spiTakes (s : State) (k : AccKind) (addr : BitVec 32) : Bool :=
  s.spiHears && s.spi.open_.isNone && !s.refuses { src := .spi, kind := k, addr := addr, cost := opCost k addr.toNat } &&
    s.admits s.admQ (opCost k addr.toNat)

/-- The event or fault bit of a page stands in its EVT_RAW. -/
def State.evt (s : State) (p : Page) (bit : Nat) : Bool := wbit (s.rd (pageAddr p 0x010)) bit

/-- The read data last returned to a source. -/
def State.returned (s : State) (c : Src) : BitVec 128 := tabGet (fun _ => 0) s.readData (srcCode c)

/-- The source is a host's: the SPI or the two-wire target, or a Umatan session. -/
def isHost : Src → Bool
  | .eng _ => false
  | _ => true

/-- Engine `e` serves its queue with `q` at the head and `l` behind, `q` passes every check (R292, R294, R296), and its response
queue has room. -/
def State.headReady (s : State) (e : Eng) (q : BitVec 128) (l : List (BitVec 128)) : Bool :=
  s.cmdServing e && decide ((s.engRec e).cmdq = q :: l) && decide ((s.engRec e).rspq.length < 16) &&
  ((s.cmdPop e).cmdCheck e q).isNone && ((s.cmdPop e).cmdOwnCheck e q).isNone

end Sys2Proof.Machine
end

