-- ==== Sys2Proof/Certificates/Slice0/Obligations.lean ====
section
/-!
DEFINITION. Certificates/Slice0/Obligations.lean: the statements for the provers. `Answers c s fun t => …` says that the command runs and
that its next state `t` is so; the hypotheses speak of the state and the operands alone.
-/
open Sys2Proof Sys2Proof.Machine

/-- A step runs the command at the front of the queue. For every command c, list l and state s whose queue is c followed by l, step of s
is exec of c on s with the queue l. The queue is the model's own (log 5). (R12, R13) -/
def Obligations.StepRunsFrontCommand : Prop :=
  ∀ (c : Instr) (l : List Instr) (s : State), s.pending = c :: l → step s = exec c { s with pending := l }

/-- The commands of the access queue, of the fabric speed and of read operations complete: FABRIC_SPEED_MEASURE, OPERATION_TAKES_EFFECT,
WING_READ, MIN_CLR, TIME_NOW_READ (R12, R13, R43, R49, R204). -/
def Obligations.AccessQueueCommandsComplete : Prop :=
  (∀ (rate : BitVec 16) (s : State),
    s.houseOn = true →
    Answers (.fabricSpeedMeasure rate) s fun t =>
      t.f .house HouseR.FAB_SPEED_RATE = rate.toNat ∧
      t.f .house HouseR.FAB_SPEED_RATE_MIN = min rate.toNat (s.f .house HouseR.FAB_SPEED_RATE_MIN) ∧
      t.f .house HouseR.FAB_SEQ_SEQ = (s.f .house HouseR.FAB_SEQ_SEQ + 1) % 2 ^ 32) ∧
  (∀ (x : Access) (l : List Access) (p : Page) (s : State),
    s.access = x :: l → x.kind = .write32 → x.src = .spi → x.addr = BitVec.ofNat 32 (pageAddr p 0x014) → x.mask = 0xF#16 →
    s.noWrite .spi p 0x014 (x.data.setWidth 32) = none →
    Answers (.operationTakesEffect) s fun t =>
      t.rd (pageAddr p 0x014) = x.data.setWidth 32 ∧ t.access = l) ∧
  (∀ (c : Src) (p : Page) (s : State),
    s.closedToAll = false → s.openLen (srcScene c) = 0 →
    Answers (.wingRead c p 0x014#11) s fun t =>
      t.returned c = (s.rd (pageAddr p 0x014)).setWidth 128) ∧
  (∀ (c : Src) (s : State),
    s.takesF c .house HouseR.FAB_CTL_MIN_CLR 1 = true →
    Answers (.minClr c) s fun t =>
      t.f .house HouseR.FAB_SPEED_RATE_MIN = s.f .house HouseR.FAB_SPEED_RATE) ∧
  (∀ (c : Src) (s : State),
    s.closedToAll = false → s.busyOf .time ≠ .rehearsal →
    Answers (.timeNowRead c) s fun t =>
      t.returned c = (quadWord s.stamp 0).setWidth 128 ∧ t.latched c (timeSlot 1) = quadWord s.stamp 1 ∧
      t.latched c (timeSlot 2) = quadWord s.stamp 2 ∧ t.latched c (timeSlot 3) = quadWord s.stamp 3)

/-- The commands that write a register of any page, directly or through a wing, complete: REGISTER_WRITE, WING_WRITE, PAGE_CTL_WRITE,
EVT_RAW_CLEAR, VIOL_COUNTER_WRITE, TWT_WINDOW_WRITE (R5, R31, R35, R36, R39, R48). -/
def Obligations.RegisterWriteCommandsComplete : Prop :=
  (∀ (c : Src) (p : Page) (data : Word) (s : State),
    s.takes c p 0x014 data allOnes = true →
    Answers (.registerWrite c (BitVec.ofNat 32 (pageAddr p 0x014)) data) s fun t =>
      t.rd (pageAddr p 0x014) = data) ∧
  (∀ (c : Src) (p : Page) (x : BitVec 11) (data : Word) (m : BitVec 4) (s : State),
    s.closedToAll = false → s.wordRefused c (pageAddr p (0x800 + x.toNat)) = false → x.toNat % 4 = 0 → 0x40 ≤ x.toNat →
    s.openLen (srcScene c) < 256 →
    Answers (.wingWrite c p x data m) s fun t =>
      t.openLen (srcScene c) = s.openLen (srcScene c) + 1) ∧
  (∀ (c : Src) (q : Path) (hold oos : Bool) (s : State),
    s.takes c (pp q) 0x008 (BitVec.ofNat 32 (2 * b2n hold + b2n oos)) allOnes = true →
    Answers (.pageCtlWrite c (pp q) hold oos) s fun t =>
      t.on (pp q) Hdr.PAGE_CTL_HOLD = hold ∧ t.on (pp q) Hdr.PAGE_CTL_OOS = oos) ∧
  (∀ (c : Src) (p : Page) (bits : Word) (s : State),
    s.takes c p 0x010 bits allOnes = true →
    Answers (.evtRawClear c p bits) s fun t =>
      t.rd (pageAddr p 0x010) = s.rd (pageAddr p 0x010) &&& ~~~bits) ∧
  (∀ (c : Src) (p : Page) (second : Bool) (data : Word) (s : State),
    s.takes c p (if second then 0x024 else 0x020) data allOnes = true →
    Answers (.violCounterWrite c p second data) s fun t =>
      (fget (t.rd (pageAddr p (if second then 0x024 else 0x020))) 31 16 = (if fget data 31 16 = 0 then 0 else fget (s.rd (pageAddr p (if second then 0x024 else 0x020))) 31 16)) ∧
      (fget (t.rd (pageAddr p (if second then 0x024 else 0x020))) 15 0 = (if fget data 15 0 = 0 then 0 else fget (s.rd (pageAddr p (if second then 0x024 else 0x020))) 15 0))) ∧
  (∀ (c : Src) (w : BitVec 16) (s : State),
    s.takes c .house 0x054 (w.setWidth 32) allOnes = true →
    Answers (.twtWindowWrite c w) s fun t =>
      t.f .house HouseR.TWT_WINDOW_WINDOW = w.toNat)

/-- The commands of the group PLLs, signal detect and clock recovery complete: PLL_LOCKED, PLL_LOSS_OF_LOCK, PLL_HOLD_EXPIRY,
SIG_DET_CHANGE, CDR_LOCK_ACQUIRE, CDR_LOCK_LOSS (R86, R87, R89, R98). -/
def Obligations.PllAndLockCommandsComplete : Prop :=
  (∀ (g : Grp) (b : Bool) (band : BitVec 6) (s : State),
    s.on (gp g) (pllEnFld b) = true → s.pllsRun g = true → s.refOk s.refSel = true → s.pllLock g b = false →
    s.busyOf (gp g) ≠ .rehearsal →
    Answers (.pllLocked g b band) s fun t =>
      t.pllLock g b = true ∧ t.on (gp g) (pllHoldFld b) = false ∧ t.f (gp g) (pllBandFld b) = band.toNat ∧
      (s.relock g b = true → t.evt (gp g) 1 = true)) ∧
  (∀ (g : Grp) (b : Bool) (s : State),
    s.pllLock g b = true → s.on (gp g) (pllEnFld b) = true → s.busyOf (gp g) ≠ .rehearsal →
    Answers (.pllLossOfLock g b) s fun t =>
      t.on (gp g) (pllLockFld b) = false ∧ t.f (gp g) (pllCntFld b) = satNat (fldTop (pllCntFld b)) (s.f (gp g) (pllCntFld b) + 1) ∧
      (t.evt (gp g) (if b then 17 else 16) = true)) ∧
  (∀ (g : Grp) (b : Bool) (s : State),
    s.on (gp g) (pllHoldFld b) = true → s.busyOf (gp g) ≠ .rehearsal →
    Answers (.pllHoldExpiry g b) s fun t =>
      t.on (gp g) (pllHoldFld b) = false ∧ t.on (gp g) (pllLockFld b) = false ∧ (t.evt (gp g) (if b then 17 else 16) = true)) ∧
  (∀ (p : Path) (s : State),
    s.sd p = true → s.sdEvaluated p = true →
    Answers (.sigDetChange p false) s fun t =>
      t.sd p = false) ∧
  (∀ (p : Path) (ofs : BitVec 16) (s : State),
    s.lock p = false → s.sd p = true → s.noCdr p = false → s.pathPll p = true → s.cdrHeld p = false →
    Answers (.cdrLockAcquire p ofs) s fun t =>
      t.f (pp p) PathR.CDR_STAT_FREQ_OFS = ofs.toNat ∧ t.on (pp p) PathR.CDR_STAT_FREQ_LIM = decide (ofs.toInt.natAbs > 7000) ∧
      (ofs.toInt.natAbs ≤ 7000 → s.busyOf (pp p) ≠ .rehearsal → t.evt (pp p) 1 = true)) ∧
  (∀ (p : Path) (cut : Bool) (s : State),
    s.lock p = true →
    Answers (.cdrLockLoss p cut) s fun t =>
      t.lock p = false)

/-- The commands of the swing slices complete: SWEEP_DUE, ROTATION_START, MATCH_WINDOW_END, SLICE_RELEASE_END, SWING_FORCE,
SWING_ABANDON (R92, R94, R95, R97). -/
def Obligations.SwingCommandsComplete : Prop :=
  (∀ (p : Path) (s : State),
    s.f (pp p) PathR.SWING_STAT_AVAIL ≠ 0 → s.on (pp p) PathR.SWING_CTL_ROT_EN = true → s.on .cal CalR.CAL_STAT_SUSPENDED = false →
    Answers (.sweepDue p) s fun t =>
      (t.path p).sweep = true ∧ (if (s.path p).sweep then (t.path p).sweepDue = true else (t.path p).sweepNext = 0)) ∧
  (∀ (p : Path) (s : State),
    s.scanning p = false → s.rotAllowed p = true → s.swingFree p (1 - (s.path p).rotSlot) = true →
    Answers (.rotationStart p) s fun t =>
      t.f (pp p) PathR.SWING_STAT_ROT_STATE = 1 ∧ t.f (pp p) PathR.SWING_STAT_ROT_PHASE = (s.path p).sweepNext % 32 ∧
      (t.path p).rotSlot = 1 - (s.path p).rotSlot) ∧
  (∀ (p : Path) (ofs gain skew : Byte) (s : State),
    s.rotating p = true →
    Answers (.matchWindowEnd p ofs gain skew) s fun t =>
      t.f (pp p) PathR.SWING_LAST_OFS_DIFF = ofs.toNat ∧ t.f (pp p) PathR.SWING_LAST_GAIN_DIFF = gain.toNat ∧
      t.f (pp p) PathR.SWING_LAST_SKEW_DIFF = skew.toNat ∧ (s.inTol p ofs gain skew = false → t.rot p = 5) ∧
      (s.inTol p ofs gain skew = true → s.on (pp p) PathR.SWING_CTL_SWAP_ON_FORCE = false → t.rot p = 3)) ∧
  (∀ (p : Path) (k : BitVec 6) (ok : Bool) (ofs gain skew : Byte) (s : State),
    (s.path p).rel.contains k.toNat = true → s.on .cal CalR.CAL_STAT_SUSPENDED = false →
    Answers (.sliceReleaseEnd p k ok ofs gain skew) s fun t =>
      (t.path p).rel = (s.path p).rel.filter (· != k.toNat) ∧
      t.f (pp p) PathR.SWING_CNT_ROT_DONE = satNat 0xFFFF (s.f (pp p) PathR.SWING_CNT_ROT_DONE + 1)) ∧
  (∀ (c : Src) (p : Path) (s : State),
    s.takesF c (pp p) PathR.SWING_CTL_FORCE 1 = true → s.rot p = 5 →
    Answers (.swingForce c p) s fun t =>
      t.rot p = 4 ∧ (t.path p).rel = (s.path p).rel ++ [s.f (pp p) (mapFld (s.f (pp p) PathR.SWING_STAT_ROT_PHASE))]) ∧
  (∀ (c : Src) (p : Path) (s : State),
    s.takesF c (pp p) PathR.SWING_CTL_ABANDON 1 = true → s.rotating p = true → s.busyOf (pp p) ≠ .rehearsal →
    Answers (.swingAbandon c p) s fun t =>
      t.rotating p = false ∧ t.evt (pp p) 3 = true)

/-- The commands of receiver adaptation and of captures complete: ADAPT_UPDATE, CAPTURE_START, CAPTURE_STOP, CAPTURE_END (R100, R106). -/
def Obligations.AdaptAndCaptureCommandsComplete : Prop :=
  (∀ (p : Path) (l3 l2 l1 l0 : Byte) (s : State),
    s.frozen p .lvl = false →
    Answers (.adaptUpdate p (.levels l3 l2 l1 l0)) s fun t =>
      t.f (pp p) PathR.RX_LVL_L3 = l3.toNat ∧ t.f (pp p) PathR.RX_LVL_L0 = l0.toNat ∧
      (t.f (pp p) PathR.RX_LVL_L2 = (if vPam4 s.now p then l2.toNat else 0x80)) ∧
      (t.f (pp p) PathR.RX_LVL_L1 = (if vPam4 s.now p then l1.toNat else 0x80))) ∧
  (∀ (p : Path) (peak pole vga : Option Bool) (s : State),
    s.frozen p .ctle = false → s.frozen p .vga = false →
    Answers (.adaptUpdate p (.ctle peak pole vga)) s fun t =>
      t.f (pp p) PathR.RX_CTLE_PEAK = codeStep 40 (s.f (pp p) PathR.RX_CTLE_PEAK) peak ∧
      t.f (pp p) PathR.RX_CTLE_POLE = codeStep 3 (s.f (pp p) PathR.RX_CTLE_POLE) pole ∧
      t.f (pp p) PathR.RX_CTLE_VGA = codeStep 72 (s.f (pp p) PathR.RX_CTLE_VGA) vga) ∧
  (∀ (c : Src) (p : Path) (s : State),
    s.takesF c (pp p) PathR.CAP_CTL_START 1 = true → (s.grp (pathGrp p)).cap = none →
    Answers (.captureStart c p) s fun t =>
      (t.grp (pathGrp p)).cap = some p.val ∧ t.f (pp p) PathR.CAP_STAT_CONFLICT = 0 ∧ t.f (pp p) PathR.CAP_STAT_WRITTEN = 0 ∧
      (t.f (pp p) PathR.CAP_STAT_STATE = (if s.f (pp p) PathR.CAP_CTL_TRIG = 1 then 1 else 2))) ∧
  (∀ (c : Src) (p : Path) (s : State),
    s.takesF c (pp p) PathR.CAP_CTL_STOP 1 = true → s.capOn p = true →
    Answers (.captureStop c p) s fun t =>
      (t.path p).capStop = true) ∧
  (∀ (p : Path) (data : List Byte) (oldest : BitVec 9) (s : State),
    s.f (pp p) PathR.CAP_STAT_STATE = 2 → s.capOver p data = true → data.length ≤ 128 * s.capLen p → s.busyOf (pp p) ≠ .rehearsal →
    Answers (.captureEnd p data oldest) s fun t =>
      t.f (pp p) PathR.CAP_STAT_STATE = 3 ∧
      (t.f (pp p) PathR.CAP_STAT_OLDEST = (if s.f (pp p) PathR.CAP_CTL_TRIG = 2 then oldest.toNat else 0)) ∧
      t.f (pp p) PathR.CAP_STAT_WRITTEN = data.length / 128 % 2 ^ (PathR.CAP_STAT_WRITTEN.hi + 1 - PathR.CAP_STAT_WRITTEN.lo) ∧
      (t.grp (pathGrp p)).cap = none ∧ (∀ i : Fin data.length, t.mget (capBase (pathGrp p) + i.val) = s.capByte p data[i]) ∧
      t.evt (pp p) 2 = true)

/-- The commands of auto-negotiation and of a training restart complete: TRN_RESTART, AN_PAGE_RECEIVED, AN_SETUP_DONE, AN_MASK_WRITE
(R114, R118, R119, R120). -/
def Obligations.AutonegCommandsComplete : Prop :=
  (∀ (c : Src) (p : Path) (s : State),
    s.takesF c (pp p) PathR.TRN_CTL_RESTART 1 = true → s.sg (pathAB (laneOf p)) ≠ sgDisabled → s.sg (pathBA (laneOf p)) ≠ sgDisabled →
    Answers (.trnRestart c p) s fun t =>
      t.f (pp (pathAB (laneOf p))) PathR.TRN_CNT1_RESTARTS = satNat 0xFFF (s.f (pp (pathAB (laneOf p))) PathR.TRN_CNT1_RESTARTS + 1) ∧
      t.f (pp (pathBA (laneOf p))) PathR.TRN_CNT1_RESTARTS = satNat 0xFFF (s.f (pp (pathBA (laneOf p))) PathR.TRN_CNT1_RESTARTS + 1) ∧
      t.f (pp (pathAB (laneOf p))) PathR.TRN_STAT_LAST_CAUSE = 8 ∧ t.f (pp (pathBA (laneOf p))) PathR.TRN_STAT_LAST_CAUSE = 8) ∧
  (∀ (p : Path) (page : BitVec 48) (base : Bool) (s : State),
    s.sg p = sgRelay →
    Answers (.anPageReceived p page base false none) s fun t =>
      ((t.seg (otherPath p)).pageOut = some (if base then anMasked page (s.rd (pageAddr (pp (pathAB (laneOf p))) 0x210) &&& ~~~(s.rd (pageAddr (pp (pathAB (laneOf p))) 0x218))) else page)) ∧
      (t.f (pp (pathAB (laneOf p))) (if p.val < 64 then PathR.AN_STAT_PAGES_AB else PathR.AN_STAT_PAGES_BA) = satNat 0xFF (s.f (pp (pathAB (laneOf p))) (if p.val < 64 then PathR.AN_STAT_PAGES_AB else PathR.AN_STAT_PAGES_BA) + 1))) ∧
  (∀ (p : Path) (page : BitVec 48) (base : Bool) (res : Option AnResult) (s : State),
    s.sg p = sgRelay →
    Answers (.anPageReceived p page base true res) s fun t =>
      t.f (pp p) PathR.TRN_CNT0_FRAME_ERR = satNat 0xFFFF (s.f (pp p) PathR.TRN_CNT0_FRAME_ERR + 1) ∧
      t.f (pp p) Hdr.VIOL_1_PROTOCOL = satNat 0xFFFF (s.f (pp p) Hdr.VIOL_1_PROTOCOL + 1)) ∧
  (∀ (n : Lane) (r : AnResult) (b : Bool) (k : Nat) (s : State),
    (s.seg (pathAB n)).setup = some r → s.sg (pathAB n) = sgSetup → s.inHold (pp (pathAB n)) = false →
    s.anChoose (pathGrp (pathAB n)) r.kbd.toNat = some (b, k) → (s.anScene n r (b, k)).all (fun e => s.rd e.1 == e.2) = true →
    s.pathPll (pathAB n) = true →
    Answers (.anSetupDone n) s fun t =>
      t.f (pp (pathAB n)) PathR.AN_STAT_AN_STATE = 3 ∧ (t.seg (pathAB n)).setup = none) ∧
  (∀ (c : Src) (n : Lane) (mask : Word) (s : State),
    s.takes c (pp (pathAB n)) 0x210 mask allOnes = true →
    Answers (.anMaskWrite c n mask) s fun t =>
      t.rd (pageAddr (pp (pathAB n)) 0x210) = mask ∧ t.rd (pageAddr (pp (pathAB n)) 0x218) = 0)

/-- The commands of the training protocol complete: TRAINING_FRAME_RECEIVED, REQUEST_ANSWERED, REQUEST_NO_ANSWER, LOCAL_CONVERGENCE,
TRAINING_TIMEOUT, BREAK_TIME_ELAPSED, RESTART_DELAY_ELAPSED, CLOSING_FRAMES_SENT, IGNORED_ACTIVITY_COUNT (R112, R116, R123, R126,
R131, R138, R141). -/
def Obligations.TrainingCommandsComplete : Prop :=
  (∀ (p : Path) (f : TrnFrame) (s : State),
    4 ≤ s.sg p → s.sg p ≤ 8 → s.method p = 2 → f.gap = 4096 → (s.frameIn p f).valid = true → s.idMismatch p f = false →
    Answers (.trainingFrameReceived p f) s fun t =>
      t.f (pp p) PathR.TRN_LP_CTRL_CTRL = (s.frameIn p f).ctrl.toNat ∧ t.f (pp p) PathR.TRN_LP_STS_STS = (s.frameIn p f).sts.toNat ∧
      t.on (pp p) PathR.TRN_STAT_LP_READY = (s.frameIn p f).sts.getLsbD 31 ∧ (t.seg p).okRun = (s.seg p).okRun + 1 ∧
      (t.seg p).badRun = 0) ∧
  (∀ (p : Path) (f : TrnFrame) (s : State),
    4 ≤ s.sg p → s.sg p ≤ 8 → s.method p = 2 → (s.frameIn p f).absent = false → (s.frameIn p f).coded = false → (s.seg p).badRun < 3 →
    Answers (.trainingFrameReceived p f) s fun t =>
      t.f (pp p) PathR.TRN_CNT0_FRAME_ERR = satNat 0xFFFF (s.f (pp p) PathR.TRN_CNT0_FRAME_ERR + 1) ∧
      t.f (pp p) Hdr.VIOL_1_PROTOCOL = satNat 0xFFFF (s.f (pp p) Hdr.VIOL_1_PROTOCOL + 1) ∧ (t.seg p).okRun = 0 ∧
      (t.seg p).badRun = (s.seg p).badRun + 1) ∧
  (∀ (p : Path) (resp seq : Nat) (s : State),
    (s.seg p).req = some (resp, seq) → s.trnHeld p = false →
    Answers (.requestAnswered p) s fun t =>
      (t.seg p).req = none ∧ (t.seg p).lastAns = some seq ∧ (t.seg p).resp = resp ∧ (t.seg p).ackSeq = seq ∧
      t.f (pp p) PathR.TRN_CNT0_REQ_DONE = satNat 0xFFFF (s.f (pp p) PathR.TRN_CNT0_REQ_DONE + 1)) ∧
  (∀ (p : Path) (s : State),
    s.sg p = sgExch → (s.seg p).modReq.isSome = true → s.trnHeld p = false →
    Answers (.requestNoAnswer p) s fun t =>
      (t.seg p).modReq = none ∧ t.f (pp p) PathR.TRN_CNT1_NO_ANSWER = satNat 0xFF (s.f (pp p) PathR.TRN_CNT1_NO_ANSWER + 1)) ∧
  (∀ (p : Path) (snr : BitVec 10) (s : State),
    (s.sg p = sgInit ∨ s.sg p = sgExch ∨ s.sg p = sgAcquire) → s.lock p = true → s.trnHeld p = false → s.snrMin p ≤ snr.toNat →
    Answers (.localConvergence p snr) s fun t =>
      t.f (pp p) PathR.EQ_QUAL_SNR = snr.toNat ∧ t.f (pp p) PathR.TRN_STAT_LOCAL_DONE = 1 ∧ (s.sg p = sgAcquire → t.sg p = sgData)) ∧
  (∀ (p : Path) (s : State),
    s.on (pp p) PathR.TRN_STAT_LOCAL_DONE = false → (s.sg p = sgInit ∨ s.sg p = sgExch) →
    Answers (.trainingTimeout p) s fun t =>
      t.sg p = sgFailed ∧ (t.f (pp p) PathR.TRN_STAT_LAST_CAUSE = (if (s.seg p).idBad then 9 else 1)) ∧
      t.f (pp p) PathR.TRN_CNT1_RESTARTS = satNat 0xFFF (s.f (pp p) PathR.TRN_CNT1_RESTARTS + 1)) ∧
  (∀ (p : Path) (s : State),
    s.sg p = sgBreak → s.disabling (laneOf p) = false → s.sd p = false → s.sd (otherPath p) = false →
    Answers (.breakTimeElapsed p) s fun t =>
      t.sg p = sgWait) ∧
  (∀ (p : Path) (s : State),
    s.sg p = sgFailed → s.on (pp (pathAB (laneOf p))) PathR.TRN_PAIR_AUTO_RESTART = true → s.inHold (pp p) = false →
    s.disabling (laneOf p) = false → s.sd p = false → s.sd (otherPath p) = false →
    Answers (.restartDelayElapsed p) s fun t =>
      t.sg p = sgWait) ∧
  (∀ (p : Path) (s : State),
    s.sg p = sgEnding → (s.method p ≠ 2 ∨ (s.seg p).closing = 1) → s.disabling (laneOf p) = false →
    Answers (.closingFramesSent p) s fun t =>
      t.sg p = sgData ∧ t.f (pp p) PathR.TRN_LAST_USEC = satNat 0xFFFFFFFF (usec (s.elapsed - (s.seg p).entered)) ∧
      (s.busyOf (pp p) ≠ .rehearsal → t.evt (pp p) 5 = true)) ∧
  (∀ (p : Path) (s : State),
    s.device = .ready → s.disabling (laneOf p) = true →
    Answers (.ignoredActivityCount p) s fun t =>
      t.f (pp p) PathR.TRN_CNT1_IGNORED = satNat 0xFFF (s.f (pp p) PathR.TRN_CNT1_IGNORED + 1))

/-- The commands of latency pinning and of the marks complete: PROBE_SAMPLE, PROBE_WINDOW_END, ALIGN_MARK, INTERNAL_MARK, MARK_MISSING,
SLEW_STEP (R152, R154, R155, R165, R491). -/
def Obligations.PinningCommandsComplete : Prop :=
  (∀ (p : Path) (l : Word) (s : State),
    s.pin p ≠ pinIdle → (s.path p).pause = 0 → (s.path p).samples < 256 → (s.path p).adjMoved = false →
    Answers (.probeSample p l) s fun t =>
      (t.path p).samples = (s.path p).samples + 1 ∧ (t.path p).sum = (s.path p).sum + l.toNat) ∧
  (∀ (p : Path) (fixed : BitVec 20) (s : State),
    s.pin p ≠ pinIdle → (s.path p).pause = 0 → (s.path p).samples = 256 →
    Answers (.probeWindowEnd p fixed) s fun t =>
      t.f (pp p) PathR.PIN_MEAS_MEAS = (2 * (s.path p).sum + 256) / 512 % 2 ^ 24 ∧
      t.sf (pp p) PathR.PIN_ERR_ERR = clampInt 0x7FFF ((((2 * (s.path p).sum + 256) / 512 : Nat) : Int) - 16 * ((s.f (pp p) PathR.PIN_HELD_HELD : Nat) : Int)) ∧
      t.f (pp p) PathR.PIN_FIXED_FIXED = fixed.toNat) ∧
  (∀ (s : State),
    (s.time.newGrid = true ∨ s.markMode = 1 ∨ (s.markMode = 0 ∧ (s.time.expect = none ∨ s.time.expect = some s.time.refCount))) →
    s.markMode ≠ 2 →
    Answers (.alignMark) s fun t =>
      t.time.expect = some (s.time.refCount + s.markP) ∧ t.time.newGrid = false ∧
      t.f .time TimeR.MARK_STAT_MARKS = (s.f .time TimeR.MARK_STAT_MARKS + 1) % 2 ^ 16 ∧ t.f .time TimeR.MARK_STAT_INTERNAL = 0 ∧
      t.f .time TimeR.MARK_STAT_MOVED = 0 ∧ (∀ i : Fin 4, t.rd (pageAddr .time (0x0A0 + 4 * i.val)) = quadWord s.stamp i.val)) ∧
  (∀ (e : Nat) (s : State),
    s.time.expect = some e → s.markMode ≠ 0 →
    Answers (.internalMark) s fun t =>
      t.time.expect = some (e + s.markP) ∧ t.f .time TimeR.MARK_STAT_MARKS = (s.f .time TimeR.MARK_STAT_MARKS + 1) % 2 ^ 16 ∧
      t.f .time TimeR.MARK_STAT_INTERNAL = 1) ∧
  (∀ (e : Nat) (s : State),
    s.time.expect = some e → s.markMode = 0 →
    Answers (.markMissing) s fun t =>
      t.time.expect = some (e + s.markP) ∧ t.time.faultDone = true) ∧
  (∀ (p : Path) (s : State),
    s.pin p = pinSlewing → (s.path p).slewLeft ≠ 0 → s.on (pp p) PathR.PIN_CTL_FRZ = false →
    Answers (.slewStep p) s fun t =>
      ((t.path p).slewLeft = (if (s.path p).slewLeft > 0 then (s.path p).slewLeft - 1 else (s.path p).slewLeft + 1)) ∧
      (t.path p).adjMoved = true ∧
      (t.sf (pp p) PathR.PIN_ADJ_ADJ = clampInt 255 (s.sf (pp p) PathR.PIN_ADJ_ADJ + (if (s.path p).slewLeft > 0 then 1 else -1))))

/-- The commands of framing, conversion, codewords and time messages complete: FRAMING_LOCK_ACQUIRED, FRAMING_LOCK_LOST,
CONVERTER_LOCK_CHANGE, CODEWORD_PROCESSED, PTP_EVENT_MESSAGE (R178, R179, R187, R222). -/
def Obligations.FramingCommandsComplete : Prop :=
  (∀ (p : Path) (e : BitVec 3) (find : Option WxFind) (s : State),
    (s.profile p = 1 ∨ s.profile p = 3) → s.lock p = true →
    Answers (.framingLockAcquired p e find) s fun t =>
      t.framed p = true ∧ (s.profile p = 1 → t.on (pp p) PathR.CONV_STAT_SH_LOCK = true) ∧
      (s.profile p = 3 → s.hasFec p = true → t.on (pp p) PathR.ETH_STAT_CW_LOCK = true ∧ t.on (pp p) PathR.ETH_STAT_AM_LOCK = true)) ∧
  (∀ (p : Path) (e : BitVec 3) (w : WxFind) (s : State),
    s.profile p = 2 → s.lock p = true → s.framed p = false → findLocks w = true →
    Answers (.framingLockAcquired p e (some w)) s fun t =>
      t.framed p = true ∧ t.f (pp p) PathR.WX_STAT_PERIOD = markerPeriod w.second ∧ (t.path p).cwPos = 1 ∧ (t.path p).badMarks = 0) ∧
  (∀ (p : Path) (e : BitVec 3) (s : State),
    s.framed p = true →
    Answers (.framingLockLost p e false) s fun t =>
      t.framed p = false ∧ t.ctr p ctrFrmLoss = satNat (ctrTop ctrFrmLoss) (s.ctr p ctrFrmLoss + 1) ∧
      (s.busyOf (pp p) ≠ .rehearsal → t.evt (pp p) 22 = true)) ∧
  (∀ (p : Path) (which : Fin 3) (run : BitVec 8) (gap : BitVec 9) (s : State),
    s.profile p = 1 → s.convMet p which true run.toNat gap.toNat = true → (which = 0 → s.lock p = true) →
    (which = 1 → s.on (pp p) PathR.CONV_STAT_SH_LOCK = true) → (which = 2 → s.on (pp p) PathR.CONV_STAT_MB_LOCK = true) →
    Answers (.converterLockChange p which ⟨true, run, gap⟩) s fun t =>
      (t.on (pp p) (if which = 0 then PathR.CONV_STAT_SH_LOCK else if which = 1 then PathR.CONV_STAT_MB_LOCK else PathR.CONV_STAT_EMB_LOCK) = true)) ∧
  (∀ (p : Path) (which : Fin 3) (run : BitVec 8) (gap : BitVec 9) (s : State),
    s.profile p = 1 → s.convMet p which false run.toNat gap.toNat = true →
    Answers (.converterLockChange p which ⟨false, run, gap⟩) s fun t =>
      t.on (pp p) PathR.CONV_STAT_EMB_LOCK = false ∧ (which ≠ 2 → t.on (pp p) PathR.CONV_STAT_MB_LOCK = false) ∧
      (which = 0 → t.on (pp p) PathR.CONV_STAT_SH_LOCK = false ∧ t.framed p = false)) ∧
  (∀ (p : Path) (w : Codeword) (s : State),
    s.framed p = true → s.profile p = 1 → (s.path p).injSyms = 0 →
    Answers (.codewordProcessed p w) s fun t =>
      t.ctr p ctrBlock = satNat (ctrTop ctrBlock) (s.ctr p ctrBlock + w.badBlocks.toNat)) ∧
  (∀ (p : Path) (w : Codeword) (s : State),
    s.framed p = true → s.profile p = 2 → 0 < (s.path p).cwPos →
    Answers (.codewordProcessed p w) s fun t =>
      (t.path p).tagPhase = ((s.path p).tagPhase + 20) % 8 ∧ (t.path p).cwPos = ((s.path p).cwPos + 1) % 1024 ∧
      t.ctr p ctrBlock = satNat (ctrTop ctrBlock) (s.ctr p ctrBlock + min w.badTags.toNat (((s.path p).tagPhase + 20) / 8))) ∧
  (∀ (p : Path) (fr : RxFrame) (m : PtpMsg) (s : State),
    s.profile p = 3 → s.on (pp p) PathR.PTP_CFG_EN = true → s.framed p = true → s.ptpMsg p fr.bytes = some m →
    ptpType fr.bytes m < 2 → ¬ m.map = .v6 → ptpSkipped fr m = false → s.verified p = true → s.extracts p fr = false →
    Answers (.ptpEventMessage p fr) s fun t =>
      (t.path p).sentFrame = withFcs (s.ptpFix p fr.bytes m) ∧
      t.ctr p ctrPtpCorr = satNat (ctrTop ctrPtpCorr) (s.ctr p ctrPtpCorr + 1))

/-- The commands of counter snapshots, PRBS checking and error injection complete: COUNTER_SNAPSHOT, FEC_DEGRADE_WINDOW_END,
PRBS_CHECKER_LOCK, PRBS_CHECKER_LOSS, FIRE, INJECTION_DUE (R192, R193, R195, R197). -/
def Obligations.CounterCommandsComplete : Prop :=
  (∀ (c : Src) (p : Path) (s : State),
    s.takesF c (pp p) PathR.CNT_CTL_SNAP 1 = true →
    Answers (.counterSnapshot c p) s fun t =>
      t.f (pp p) PathR.CNT_CTL_SNAP_SEQ = (s.f (pp p) PathR.CNT_CTL_SNAP_SEQ + 1) % 2 ^ 16 ∧
      t.f (pp p) PathR.FEC_CORR_CW_CORR_CW = s.ctr p ctrCorrCw % 2 ^ 32 ∧
      (s.on (pp p) PathR.CNT_CTL_CLR_ON_SNAP = true → t.ctr p ctrCorrCw = 0) ∧
      (s.on (pp p) PathR.CNT_CTL_CLR_ON_SNAP = false → t.ctr p ctrCorrCw = s.ctr p ctrCorrCw)) ∧
  (∀ (p : Path) (s : State),
    s.degLen p ≤ (s.path p).degN →
    Answers (.fecDegradeWindowEnd p) s fun t =>
      t.f (pp p) PathR.FEC_DEG_STAT_LAST = satNat 0xFFFFF (s.path p).degSym ∧
      t.on (pp p) PathR.FEC_DEG_STAT_DEGRADED = (decide ((s.path p).degSym > s.f (pp p) PathR.FEC_DEG_CFG_THR) || (s.on (pp p) PathR.FEC_DEG_CFG_UNC_DEG && (s.path p).degUnc)) ∧
      (t.path p).degN = 0) ∧
  (∀ (p : Path) (s : State),
    s.on (pp p) PathR.PRBS_CHK_EN = true → s.on (pp p) PathR.PRBS_STAT_LOCK = false →
    Answers (.prbsCheckerLock p) s fun t =>
      t.on (pp p) PathR.PRBS_STAT_LOCK = true ∧ (s.busyOf (pp p) ≠ .rehearsal → t.evt (pp p) 12 = true)) ∧
  (∀ (p : Path) (bits errs : Word) (s : State),
    s.on (pp p) PathR.PRBS_STAT_LOCK = true →
    Answers (.prbsCheckerLoss p bits errs) s fun t =>
      t.on (pp p) PathR.PRBS_STAT_LOCK = false ∧
      t.ctr p ctrPrbsBits = satNat (ctrTop ctrPrbsBits) (s.ctr p ctrPrbsBits + bits.toNat) ∧
      t.ctr p ctrPrbsErr = satNat (ctrTop ctrPrbsErr) (s.ctr p ctrPrbsErr + errs.toNat)) ∧
  (∀ (c : Src) (p : Path) (s : State),
    s.takesF c (pp p) PathR.ERR_INJ_FIRE 1 = true → s.f (pp p) PathR.ERR_INJ_INTERVAL = 0 → s.f (pp p) PathR.ERR_INJ_MODE ≠ 0 →
    Answers (.fire c p) s fun t =>
      (t.path p).injDue = true) ∧
  (∀ (p : Path) (s : State),
    s.f (pp p) PathR.ERR_INJ_MODE ≠ 0 → s.f (pp p) PathR.ERR_INJ_MODE ≠ 3 → s.f (pp p) PathR.ERR_INJ_INTERVAL = 0 →
    (s.path p).injDue = true → s.txIdle p = false →
    Answers (.injectionDue p) s fun t =>
      t.f (pp p) PathR.ERR_INJ_CNT_DONE = satNat 0xFFFFFFFF (s.f (pp p) PathR.ERR_INJ_CNT_DONE + 1) ∧ (t.path p).injDue = false ∧
      (s.busyOf (pp p) ≠ .rehearsal → t.evt (pp p) 13 = true))

/-- The commands of the timebase and its uncertainty complete: TIME_STEP, TIME_ARM, HOLD_REQ, TIME_RATE_WRITE, TIME_UNC_WRITE,
HOLDOVER_TIMEOUT, UNC_THRESHOLD_CROSSED (R203, R205, R206, R208, R209). -/
def Obligations.TimebaseCommandsComplete : Prop :=
  (∀ (c : Src) (s : State),
    s.takesF c .time TimeR.TIME_CTL_STEP 1 = true → s.on .time TimeR.TIME_STAT_ARMED = true →
    stepInRange ((s.time.tb : Int) + s.stepOffset) (2 ^ 48 - 1) = true →
    Answers (.timeStep c) s fun t =>
      (t.time.tb : Int) = (s.time.tb : Int) + s.stepOffset ∧ t.time.unc = some 0 ∧ t.on .time TimeR.TIME_STAT_ARMED = false ∧
      t.on .time TimeR.TIME_STAT_VALID = true ∧ t.f .time TimeR.TIME_STAT_STEPS = satNat 0xFF (s.f .time TimeR.TIME_STAT_STEPS + 1)) ∧
  (∀ (c : Src) (s : State),
    s.takesF c .time TimeR.TIME_CTL_ARM 1 = true →
    Answers (.timeArm c) s fun t =>
      t.on .time TimeR.TIME_STAT_ARMED = true) ∧
  (∀ (c : Src) (s : State),
    s.takesF c .time TimeR.TIME_CTL_HOLD_REQ 1 = true → s.f .time TimeR.TIME_CTL_SRC = 1 →
    Answers (.holdReq c) s fun t =>
      t.on .time TimeR.TIME_STAT_HOLDOVER = true) ∧
  (∀ (c : Src) (rate : Word) (s : State),
    s.takes c .time 0x054 rate allOnes = true →
    Answers (.timeRateWrite c rate) s fun t =>
      t.rd (pageAddr .time 0x054) = rate ∧ (s.f .time TimeR.TIME_CTL_SRC = 1 → t.on .time TimeR.TIME_STAT_HOLDOVER = false)) ∧
  (∀ (c : Src) (v : Word) (s : State),
    s.takes c .time 0x05C v allOnes = true → (v = 0 ∨ s.rd (pageAddr .time 0x05C) ≠ 0) →
    Answers (.timeUncWrite c v) s fun t =>
      (t.time.unc = (if v = 0 then some 0 else s.time.unc))) ∧
  (∀ (s : State),
    s.f .time TimeR.TIME_CTL_SRC = 1 →
    Answers (.holdoverTimeout) s fun t =>
      t.on .time TimeR.TIME_STAT_HOLDOVER = true ∧ (s.on .time TimeR.TIME_STAT_HOLDOVER = false → t.time.holdAt = s.elapsed)) ∧
  (∀ (s : State),
    uncNs s.time.unc > s.f .time TimeR.UNC_CFG_UNC_THR → s.on .time TimeR.TIME_STAT_UNC_HIGH = false →
    Answers (.uncThresholdCrossed) s fun t =>
      t.on .time TimeR.TIME_STAT_UNC_HIGH = true ∧
      (s.on .time TimeR.TIME_CTL_AUTO_REARM = true → t.on .time TimeR.TIME_STAT_ARMED = true))

/-- The commands of the reference clocks and of keep-alive time complete: REFCLK_LOST, REFCLK_PRESENT, REFCLK_STARTUP_TIMEOUT,
BRIDGE_HANDOVER, KEEPALIVE_RETURN, KA_WINDOW_END (R210, R211, R212, R213). -/
def Obligations.ReferenceCommandsComplete : Prop :=
  (∀ (r : Bool) (s : State),
    s.refOk r = true →
    Answers (.refclkLost r) s fun t =>
      t.refOk r = false ∧
      (s.refSel = r → s.on .time TimeR.REF_CFG_BACKUP_EN = true → s.refOk (!r) = true → t.refSel = !r ∧ t.on .time TimeR.REF_STAT_CHANGING = true) ∧
      (s.refSel = r → s.on .time TimeR.REF_CFG_BACKUP_EN = false → t.onKa = true ∧ t.refSel = r)) ∧
  (∀ (r : Bool) (s : State),
    s.refSel = r →
    Answers (.refclkPresent r) s fun t =>
      t.refOk r = true ∧ (s.onKa = false → t.time.counting = true)) ∧
  (∀ (s : State),
    s.refOk s.refSel = false → s.on .time TimeR.REF_CFG_BACKUP_EN = false →
    Answers (.refclkStartupTimeout) s fun t =>
      t.onKa = true ∧ t.refOk s.refSel = false) ∧
  (∀ (s : State),
    s.on .time TimeR.TIME_STAT_BRIDGE = true → s.refOk s.refSel = true → s.relocked = true →
    Answers (.bridgeHandover) s fun t =>
      t.on .time TimeR.TIME_STAT_BRIDGE = false ∧ t.on .time TimeR.REF_STAT_CHANGING = false ∧
      (s.busyOf .time ≠ .rehearsal → t.evt .time 4 = true)) ∧
  (∀ (s : State),
    s.onKa = true → s.refOk s.refSel = true →
    Answers (.keepaliveReturn) s fun t =>
      t.onKa = false ∧ t.on .time TimeR.REF_STAT_CHANGING = false ∧ t.f .time TimeR.KA_CYCLES = satNat 0xFFFFFFFF s.time.kaEdges ∧
      t.time.counting = true) ∧
  (∀ (s : State),
    s.onKa = false → s.on .time TimeR.TIME_STAT_BRIDGE = false → s.time.counting = true → s.time.kaDirty = false →
    Answers (.kaWindowEnd) s fun t =>
      t.f .time TimeR.KA_PERIOD = (s.time.tb - s.time.kaStart + 2 ^ 46) / 2 ^ 47 % 2 ^ 32 ∧ t.time.kaStart = s.time.tb)

/-- The commands of the mark configuration and of PPS complete: MARK_CFG_WRITE, PPS_OUT_PULSE, PPS_OUT_END, PPS_IN_EDGE (R216, R217,
R218). -/
def Obligations.MarkAndPpsCommandsComplete : Prop :=
  (∀ (c : Src) (data : Word) (s : State),
    s.takes c .time 0x094 data allOnes = true → 256 ≤ data.toNat →
    Answers (.markCfgWrite c true data) s fun t =>
      t.markP = data.toNat ∧
      (s.markP ≠ data.toNat → t.time.newGrid = true ∧ t.time.expect = (if s.markMode = 0 then none else some (s.time.refCount + data.toNat)))) ∧
  (∀ (c : Src) (data : Word) (s : State),
    s.takes c .time 0x090 data allOnes = true → data.toNat ≤ 2 →
    Answers (.markCfgWrite c false data) s fun t =>
      t.markMode = data.toNat ∧
      (s.markMode ≠ data.toNat → t.time.newGrid = true ∧ t.time.expect = (if data = 0 then none else some (s.time.refCount + s.markP)))) ∧
  (∀ (s : State),
    s.time.ppsDue = true →
    Answers (.ppsOutPulse) s fun t =>
      t.land.pps = true ∧ t.time.ppsDue = false) ∧
  (∀ (s : State),
    Answers (.ppsOutEnd) s fun t =>
      t.land.pps = false) ∧
  (∀ (s : State),
    s.land.vio = true → (s.device = .ready ∨ s.device = .starting) → s.on .time TimeR.PPS_CTL_IN_EN = true →
    s.time.ppsInAt.any (fun x => decide (s.elapsed - x < 500000000000000)) = false →
    Answers (.ppsInEdge) s fun t =>
      t.time.ppsInAt = some s.elapsed ∧ t.f .time TimeR.PPS_STAT_IN_CNT = (s.f .time TimeR.PPS_STAT_IN_CNT + 1) % 2 ^ 16 ∧
      (∃ k : Fin 64, ∀ i : Fin 4, t.rd (pageAddr .time (0x0C0 + 4 * i.val)) = quadWord (s.stampOf (s.time.tb + k.val * s.refPeriod / 64)) i.val) ∧
      (s.busyOf .time ≠ .rehearsal → t.evt .time 2 = true))

/-- The commands of the frame ports complete: FRAME_EXTRACT, TX_TAIL_WRITE, FRAME_FETCH, FRAME_INSERT, FRAME_DEADLINE_EXPIRY,
PORT_DISABLE (R230, R234, R235, R236, R240, R249). -/
def Obligations.FramePortCommandsComplete : Prop :=
  (∀ (k : Port) (fr : RxFrame) (p : Path) (s : State),
    s.extPath k = some p → s.extReady k = true → fr.hdrUncorr = true →
    Answers (.frameExtract k fr) s fun t =>
      t.ctr p ctrUncorrHdr = satNat (ctrTop ctrUncorrHdr) (s.ctr p ctrUncorrHdr + 1)) ∧
  (∀ (k : Port) (fr : RxFrame) (p : Path) (s : State),
    s.extPath k = some p → s.extReady k = true → fr.hdrUncorr = false → s.addressed k p fr.bytes = some 3 →
    s.on .frame FrameR.FRAME_CTL_UM_EN = true →
    Answers (.frameExtract k fr) s fun t =>
      (t.port k).reqs = (s.port k).reqs ++ [fr] ∧ t.ctr p ctrExtracted = satNat (ctrTop ctrExtracted) (s.ctr p ctrExtracted + 1)) ∧
  (∀ (k : Port) (fr : RxFrame) (p : Path) (s : State),
    s.extPath k = some p → s.extReady k = true → fr.hdrUncorr = false → s.addressed k p fr.bytes = some 1 →
    s.mfield (rxDesc k (s.f .frame (FrameR.RX_IDX_RX_HEAD k.val))) 31 31 = 1 →
    s.f .frame (FrameR.RX_IDX_RX_HEAD k.val) ≠ s.f .frame (FrameR.RX_IDX_RX_TAIL k.val) →
    0x3000 ≤ s.mfield (rxDesc k (s.f .frame (FrameR.RX_IDX_RX_HEAD k.val)) + 4) 31 16 →
    s.mfield (rxDesc k (s.f .frame (FrameR.RX_IDX_RX_HEAD k.val)) + 4) 31 16 + 1536 ≤ 0x10000 →
    Answers (.frameExtract k fr) s fun t =>
      t.f .frame (FrameR.RX_CNT_RECEIVED k.val) = satNat 0xFFFF (s.f .frame (FrameR.RX_CNT_RECEIVED k.val) + 1) ∧
      t.f .frame (FrameR.RX_IDX_RX_HEAD k.val) = (s.f .frame (FrameR.RX_IDX_RX_HEAD k.val) + 1) % 64 ∧
      (∀ i : Fin 14, fr.bytes.length ≥ 14 → fr.bytes.length ≤ 1518 → some (t.mget (portBase k + s.mfield (rxDesc k (s.f .frame (FrameR.RX_IDX_RX_HEAD k.val)) + 4) 31 16 + i.val)) = fr.bytes[i.val]?) ∧
      (s.busyOf .frame ≠ .rehearsal → t.evt .frame (4 * k.val) = true)) ∧
  (∀ (c : Src) (k : Port) (tail : BitVec 6) (s : State),
    s.takes c .frame (0x098 + 64 * k.val) (tail.setWidth 32) allOnes = true →
    Answers (.txTailWrite c k tail) s fun t =>
      t.f .frame (FrameR.TX_IDX_TX_TAIL k.val) = tail.toNat) ∧
  (∀ (k : Port) (b : Bool) (n : Nat) (s : State),
    s.on .frame (FrameR.PORT_CTL_EN k.val) = true → (s.port k).next = none → s.portNext k = some (b, n) →
    s.elapsed - s.frameStart k (b, n) ≤ s.frameDeadline k (b, n) * 1000000000 → (b = true ∨ s.txRefused k n = false) →
    Answers (.frameFetch k) s fun t =>
      (t.port k).next = some (b, n)) ∧
  (∀ (k : Port) (run : BitVec 16) (p : Path) (b : Bool) (n : Nat) (s : State),
    s.insPath k = some p → (s.port k).next = some (b, n) → s.insReady k = true → s.frameLate k (b, n) = false →
    runNeeded ((s.frameBytes k (b, n)).length + 4) ≤ satNat (s.window p) run.toNat → (s.frameBytes k (b, n)).length + 4 ≤ s.maxLen p →
    Answers (.frameInsert k run) s fun t =>
      (t.port k).next = none ∧ t.f .frame (FrameR.TX_CNT_SENT k.val) = satNat 0xFFFF (s.f .frame (FrameR.TX_CNT_SENT k.val) + 1) ∧
      t.ctr p ctrInserted = satNat (ctrTop ctrInserted) (s.ctr p ctrInserted + 1)) ∧
  (∀ (k : Port) (b : Bool) (n : Nat) (s : State),
    (s.port k).next = some (b, n) →
    Answers (.frameDeadlineExpiry k) s fun t =>
      (t.port k).next = none ∧
      t.f .frame (FrameR.TX_CNT_DROPPED k.val) = satNat 0xFFFF (s.f .frame (FrameR.TX_CNT_DROPPED k.val) + 1) ∧
      (s.busyOf .frame ≠ .rehearsal → t.evt .frame (4 * k.val + 2) = true)) ∧
  (∀ (c : Src) (k : Port) (s : State),
    s.takesF c .frame (FrameR.PORT_CTL_EN k.val) 0 = true →
    Answers (.portDisable c k) s fun t =>
      t.on .frame (FrameR.PORT_CTL_EN k.val) = false ∧
      (s.on .frame (FrameR.PORT_CTL_EN k.val) = true → s.f .frame (FrameR.TX_IDX_TX_HEAD k.val) = s.f .frame (FrameR.TX_IDX_TX_TAIL k.val) → (s.port k).um.length = 1 → (t.port k).um = [] ∧ t.f .frame (FrameR.TX_CNT_DROPPED k.val) = satNat 0xFFFF (s.f .frame (FrameR.TX_CNT_DROPPED k.val) + 1)))

/-- The commands of Umatan requests, responses and sessions complete: UMATAN_REQUEST, UMATAN_RESPONSE_QUEUED, SESSION_TIMEOUT (R246,
R479). -/
def Obligations.UmatanCommandsComplete : Prop :=
  (∀ (k : Port) (fr : RxFrame) (l : List RxFrame) (s : State),
    (s.port k).reqs = fr :: l → (umForm fr).isNone = true →
    Answers (.umatanRequest k) s fun t =>
      (t.port k).reqs = l ∧ t.f .frame (FrameR.UM_CNT1_BAD k.val) = satNat 0xFFFF (s.f .frame (FrameR.UM_CNT1_BAD k.val) + 1) ∧
      t.f .frame Hdr.VIOL_1_PROTOCOL = satNat 0xFFFF (s.f .frame Hdr.VIOL_1_PROTOCOL + 1)) ∧
  (∀ (k : Port) (fr : RxFrame) (l : List RxFrame) (r : UmReq) (e : SessSt) (s : State),
    (s.port k).reqs = fr :: l → (s.port k).txns = [] → umForm fr = some r → r.opens = false →
    s.security.sessions.find? (fun x => x.num == r.session) = some e → umTag e.key r.msg = r.tag → e.lastSeq < r.seq →
    s.umNoRoom k = false →
    Answers (.umatanRequest k) s fun t =>
      (t.port k).reqs = l ∧ (t.port k).txns.map (fun x => (x.num, x.seq)) = [(e.num, BitVec.ofNat 32 r.seq)] ∧
      (t.security.sessions = s.security.sessions.map (fun y => if y.place = e.place then { y with lastSeq := r.seq, at_ := s.elapsed } else y))) ∧
  (∀ (k : Port) (fr : RxFrame) (l : List RxFrame) (r : UmReq) (slot : Nat) (key : List Byte) (s : State),
    (s.port k).reqs = fr :: l → (s.port k).txns = [] → umForm fr = some r → r.opens = true → s.umOpenSlot r = some (slot, key) →
    s.umNoRoom k = false → s.security.sessions.length < 8 →
    Answers (.umatanRequest k) s fun t =>
      (t.port k).reqs = l ∧ (t.port k).txns.length = 1 ∧
      t.security.sessions.map (·.slot) = s.security.sessions.map (·.slot) ++ [slot] ∧ t.security.nonces = s.security.nonces + 1) ∧
  (∀ (k : Port) (x : UmTxn) (l : List UmTxn) (s : State),
    (s.port k).txns = x :: l → x.answers.any (fun a => a.open_) = false →
    Answers (.umatanResponseQueued k) s fun t =>
      (t.port k).txns = l ∧ (t.port k).um = (s.port k).um ++ [((s.port k).umSlot, s.elapsed)] ∧
      (t.port k).umSlot = ((s.port k).umSlot + 1) % 4 ∧
      t.f .frame (FrameR.UM_CNT0_SERVED k.val) = satNat 0xFFFF (s.f .frame (FrameR.UM_CNT0_SERVED k.val) + 1)) ∧
  (∀ (place : Fin 8) (s : State),
    Answers (.sessionTimeout place) s fun t =>
      t.security.sessions = s.security.sessions.filter (fun e => e.place != place.val))

/-- The commands of scenes complete: OPEN_STORE, OPEN_COMMIT, OPEN_DISCARD, STORE_COPY_END, SCENE_DESC_WRITE, SCENE_VALIDATE,
DEFERRED_RESUME, SCENE_COMMIT (R255, R257, R258, R262, R263, R266). -/
def Obligations.SceneCommandsComplete : Prop :=
  (∀ (c : Src) (scene : BitVec 10) (base : BitVec 15) (s : State),
    isHost c = true → s.takes c .cue 0x048 (BitVec.ofNat 32 (2 ^ 28 + scene.toNat * 2 ^ 16 + base.toNat)) allOnes = true →
    s.follow = false → s.closing 1023 = false → s.scene.overflow.contains 1023 = false → scene.toNat ≤ 1007 →
    base.toNat + s.openLen 1023 ≤ 30208 →
    Answers (.openStore c scene base) s fun t =>
      t.scene.storing = s.scene.storing ++ [{ src := 1023, scene := scene.toNat, base := base.toNat, seq := s.scene.seq }] ∧
      t.f .cue CueR.OPEN_STAT_LAST_OP = 1 ∧ t.f .cue CueR.OPEN_STAT_RESULT = 3) ∧
  (∀ (e : Eng) (scene : BitVec 10) (base : BitVec 15) (s : State),
    s.eng e = egRunning → s.follow = false → s.closing (1008 + e.val) = false → s.scene.overflow.contains (1008 + e.val) = false →
    scene.toNat ≤ 1007 → base.toNat + s.openLen (1008 + e.val) ≤ 30208 →
    Answers (.openStore (.eng e) scene base) s fun t =>
      t.scene.storing = s.scene.storing ++ [{ src := 1008 + e.val, scene := scene.toNat, base := base.toNat, seq := s.scene.seq }]) ∧
  (∀ (c : Src) (s : State),
    isHost c = true → s.takes c .cue 0x048 (BitVec.ofNat 32 (2 * 2 ^ 28)) allOnes = true → s.closing 1023 = false →
    Answers (.openCommit c) s fun t =>
      t.closing 1023 = true ∧ t.f .cue CueR.OPEN_STAT_LAST_OP = 2 ∧ t.f .cue CueR.OPEN_STAT_RESULT = 3 ∧
      t.scene.jobs.length = s.scene.jobs.length + 1) ∧
  (∀ (c : Src) (s : State),
    isHost c = true → s.takes c .cue 0x048 (BitVec.ofNat 32 (3 * 2 ^ 28)) allOnes = true → s.closing 1023 = false →
    Answers (.openDiscard c) s fun t =>
      t.openLen 1023 = 0 ∧ t.scene.overflow.contains 1023 = false ∧ t.f .cue CueR.OPEN_STAT_LAST_OP = 3 ∧
      t.f .cue CueR.OPEN_STAT_RESULT = 1) ∧
  (∀ (x : StoreSt) (s : State),
    s.nextStore = some x → x.scene ≤ 1007 → 1008 ≤ x.src →
    Answers (.storeCopyEnd) s fun t =>
      t.scene.storing = s.scene.storing.tail ∧ t.extent x.scene = (x.base, s.openLen x.src) ∧ t.openLen x.src = 0) ∧
  (∀ (c : Src) (base : BitVec 15) (len : BitVec 9) (s : State),
    s.takes c .cue 0x054 (BitVec.ofNat 32 (base.toNat * 2 ^ 16 + len.toNat)) allOnes = true →
    s.descClosed (s.f .cue CueR.SCENE_SEL_SCENE) = false → s.f .cue CueR.SCENE_SEL_SCENE < 1008 → base.toNat + len.toNat ≤ 30208 →
    len.toNat ≤ 256 →
    Answers (.sceneDescWrite c base len) s fun t =>
      t.extent (s.f .cue CueR.SCENE_SEL_SCENE) = (base.toNat, len.toNat)) ∧
  (∀ (x : JobSt) (s : State),
    s.nextWork = some x → x.job = .host → s.job? .host = some x → s.writesFirst (some x) = s → s.mustDefer (s.jobLocks x) = false →
    ((forAll ((regPages (s.jobLocks x)).filterMap pageOf) (fun p s => s.setF p Hdr.LOCK_SCENE_ID x.scene) s).checkScene .host x.scene).2 = none →
    Answers (.sceneValidate) s fun t =>
      (t.job? .host).map (fun y => (y.phase, y.locks, y.trig)) = some (.staged, s.jobLocks x, some s.elapsed)) ∧
  (∀ (x : JobSt) (s : State),
    s.nextDeferred = some x → s.writesFirst (some x) = s → x.job = .host → s.job? .host = some x →
    s.mustDefer (s.jobLocks x) = false →
    ((forAll ((regPages (s.jobLocks x)).filterMap pageOf) (fun p s => s.setF p Hdr.LOCK_SCENE_ID x.scene) s).checkScene .host x.scene).2 = none →
    Answers (.deferredResume) s fun t =>
      (t.job? .host).map (fun y => (y.phase, y.locks, y.trig)) = some (.staged, s.jobLocks x, some s.elapsed)) ∧
  (∀ (x : JobSt) (s : State),
    s.job? .host = some x → s.tcReached x = true →
    Answers (.sceneCommit .host) s fun t =>
      t.job? .host = none ∧ t.openLen 1023 = 0 ∧ t.f .cue CueR.OPEN_STAT_RESULT = 1) ∧
  (∀ (x : JobSt) (p : Page) (v : Word) (s : State),
    s.job? .host = some x → s.tcReached x = true → x.vals = [(pageAddr p 0x014, v)] → x.masks = [(pageAddr p 0x014, allOnes)] →
    Answers (.sceneCommit .host) s fun t =>
      t.rd (pageAddr p 0x014) = v)

/-- The commands that arm and disarm a cue complete: CUE_ARM, CUE_DISARM (R273, R280). -/
def Obligations.CueCommandsComplete : Prop :=
  (∀ (c : Src) (cue : BitVec 12) (s : State),
    s.takes c .cue 0x044 (BitVec.ofNat 32 (2 ^ 28 + cue.toNat)) allOnes = true → s.cueClosed cue = false → s.cueFree cue = true →
    s.cueLegal cue = true → s.cueTrig cue = 4 → s.freeCues ≠ s.f .cue CueR.CUE_CTL_LOW_THR →
    Answers (.cueArm c cue) s fun t =>
      (t.job? (.cue cue)).map (fun y => (y.scene, y.phase)) = some (s.cueScene cue, .due) ∧
      t.mfield (cueAddr cue + 0x18) 31 28 = 1 ∧ t.mfield (cueAddr cue + 0x18) 15 0 = 0) ∧
  (∀ (c : Src) (cue : BitVec 12) (s : State),
    s.takes c .cue 0x044 (BitVec.ofNat 32 (2 ^ 28 + cue.toNat)) allOnes = true → s.cueClosed cue = false → s.cueFree cue = true →
    s.cueLegal cue = true → s.cueTrig cue = 1 → s.time.tb + leadTb ≤ s.cueT cue → s.freeCues ≠ s.f .cue CueR.CUE_CTL_LOW_THR →
    Answers (.cueArm c cue) s fun t =>
      (t.job? (.cue cue)).map (fun y => (y.scene, y.phase, y.next)) = some (s.cueScene cue, .armed, s.cueT cue)) ∧
  (∀ (c : Src) (cue : BitVec 12) (x : JobSt) (s : State),
    s.takes c .cue 0x044 (BitVec.ofNat 32 (2 ^ 29 + cue.toNat)) allOnes = true → s.cueClosed cue = false →
    s.job? (.cue cue) = some x → s.tcReached x = false →
    Answers (.cueDisarm c cue) s fun t =>
      t.cueFree cue = true ∧ t.mfield (cueAddr cue + 0x18) 31 28 = 0 ∧ t.mfield (cueAddr cue + 0x18) 27 24 = 6)

/-- The commands that load, start, stop and watch a stagehand engine complete: LOAD, START, STOP, LOAD_DONE, ENGINE_READY,
WATCHDOG_EXPIRY, IMAGE_FAULT, ENGINE_HEARTBEAT, FIRMWARE_NOTICE (R286, R297, R302). -/
def Obligations.EngineCommandsComplete : Prop :=
  (∀ (c : Src) (e : Eng) (slot : Bool) (s : State),
    s.takes c (ep e) 0x040 (BitVec.ofNat 32 (256 * b2n slot + 4)) allOnes = true → s.loadOk e = true →
    Answers (.load c e slot) s fun t =>
      t.eng e = egLoading ∧ t.on (ep e) StageR.ENG_CTL_SLOT = slot) ∧
  (∀ (c : Src) (e : Eng) (s : State),
    s.takesF c (ep e) StageR.ENG_CTL_START 1 = true → s.on (ep e) Hdr.PAGE_CTL_OOS = false → s.eng e = egLoaded →
    Answers (.start c e) s fun t =>
      t.eng e = egStarting) ∧
  (∀ (c : Src) (e : Eng) (s : State),
    s.takesF c (ep e) StageR.ENG_CTL_STOP 1 = true → (s.eng e = egStarting ∨ s.eng e = egRunning) →
    Answers (.stop c e) s fun t =>
      t.eng e = egLoaded ∧ (t.engRec e).cmdq = [] ∧ (t.engRec e).long = none) ∧
  (∀ (e : Eng) (slot : Nat) (img : List Byte) (s : State),
    s.flash.run = some (.load e slot, img) → s.eng e = egLoading → s.rehState ≠ 1 → s.reh.toDark = false →
    Answers (.loadDone e) s fun t =>
      (t.eng e = (if (s.imgTry slot).2 = 1 then egLoaded else egOff)) ∧
      ((s.imgTry slot).2 ≠ 1 → t.f (ep e) StageR.ENG_STAT_FAULT_CAUSE = 3) ∧ (t.engRec e).loading = false) ∧
  (∀ (e : Eng) (s : State),
    s.eng e = egStarting →
    Answers (.engineReady e) s fun t =>
      t.eng e = egRunning ∧ (t.engRec e).left = none ∧ (t.engRec e).hbAt = s.elapsed) ∧
  (∀ (e : Eng) (s : State),
    s.eng e = egRunning → s.on (ep e) StageR.WDOG_CTL_EN = true →
    Answers (.watchdogExpiry e) s fun t =>
      t.eng e = egFaulted ∧ t.f (ep e) StageR.ENG_STAT_FAULT_CAUSE = 1 ∧
      t.f (ep e) StageR.WDOG_STAT_EXPIRIES = satNat (fldTop StageR.WDOG_STAT_EXPIRIES) (s.f (ep e) StageR.WDOG_STAT_EXPIRIES + 1) ∧
      (t.engRec e).cmdq = []) ∧
  (∀ (e : Eng) (r0 r1 : Word) (s : State),
    s.eng e = egRunning →
    Answers (.imageFault e r0 r1) s fun t =>
      t.eng e = egFaulted ∧ t.f (ep e) StageR.ENG_STAT_FAULT_CAUSE = 4 ∧ (t.engRec e).cmdq = []) ∧
  (∀ (e : Eng) (n : BitVec 14) (g : Grp) (s : State),
    s.eng e = egRunning → s.engGrp e = some g →
    Answers (.engineHeartbeat e (some n)) s fun t =>
      (t.engRec e).hbAt = s.elapsed ∧
      (t.engRec e).ckpt = some { grp := g.val, fmt := s.f (ep e) StageR.IMG_FMT_STATE_FMT, size := n.toNat, at_ := s.elapsed }) ∧
  (∀ (e : Eng) (s : State),
    s.eng e = egRunning →
    Answers (.engineHeartbeat e none) s fun t =>
      (t.engRec e).hbAt = s.elapsed ∧ (t.engRec e).ckpt = (s.engRec e).ckpt) ∧
  (∀ (e : Eng) (r0 r1 : Word) (s : State),
    s.eng e = egRunning → (s.engRec e).rspq.length < 16 →
    Answers (.firmwareNotice e r0 r1) s fun t =>
      (t.engRec e).rspq = (s.engRec e).rspq ++ [s.noticeWord e 4 r0 r1])

/-- The commands of an engine's command queue complete: CMDQ_APPEND, RSPQ_READ, PING, CTLE_SEARCH, EYE_SCAN, SWEEP, CAL_RUN,
ABORT_COMMAND, FLUSH, CHECKPOINT, LONG_COMMAND_END (R290, R293, R294, R295, R296). -/
def Obligations.EngineQueueCommandsComplete : Prop :=
  (∀ (c : Src) (e : Eng) (data : BitVec 128) (s : State),
    s.takes c (ep e) 0x08C (data.setWidth 32) allOnes = true → s.eng e = egRunning → (s.engRec e).cmdq.length < 16 →
    Answers (.cmdqAppend c e false data) s fun t =>
      (t.engRec e).cmdq = (s.engRec e).cmdq ++ [quadOf (s.latched c (cmdSlot e 0)) (s.latched c (cmdSlot e 1)) (s.latched c (cmdSlot e 2)) (data.setWidth 32)]) ∧
  (∀ (c : Src) (e : Eng) (data : BitVec 128) (s : State),
    s.refuses { src := c, kind := .write128, addr := BitVec.ofNat 32 (pageAddr (ep e) 0x080), data := data, cost := 0 } = false →
    (List.range 4).all (fun i => (s.noWrite c (ep e) (0x080 + 4 * i) (quadWord data i)).isNone) = true → s.eng e = egRunning →
    (s.engRec e).cmdq.length < 16 →
    Answers (.cmdqAppend c e true data) s fun t =>
      (t.engRec e).cmdq = (s.engRec e).cmdq ++ [data]) ∧
  (∀ (c : Src) (e : Eng) (r : BitVec 128) (l : List (BitVec 128)) (s : State),
    s.closedToAll = false → s.busyOf (ep e) ≠ .rehearsal → (s.engRec e).rspq = r :: l → (s.engRec e).held = [] →
    Answers (.rspqRead c e) s fun t =>
      (t.engRec e).rspq = l ∧ t.returned c = (quadWord r 0).setWidth 128 ∧ t.latched c (rspSlot e 1) = quadWord r 1 ∧
      t.latched c (rspSlot e 2) = quadWord r 2 ∧ t.latched c (rspSlot e 3) = quadWord r 3) ∧
  (∀ (e : Eng) (q : BitVec 128) (l : List (BitVec 128)) (s : State),
    s.headReady e q l = true → cmdOp q = 0x01 →
    Answers (.ping e) s fun t =>
      (t.engRec e).cmdq = l ∧
      (t.engRec e).rspq = (s.engRec e).rspq ++ [s.answerWord e q (s.cmdGrpEpoch q) 0 0 (s.rd (pageAddr (ep e) 0x048)) (BitVec.ofNat 32 (s.draw.1.toNat % 65536 * 65536 + l.length))] ∧
      t.f (ep e) StageR.ENG_CNT_COMMANDS = satNat (fldTop StageR.ENG_CNT_COMMANDS) (s.f (ep e) StageR.ENG_CNT_COMMANDS + 1)) ∧
  (∀ (e : Eng) (q : BitVec 128) (l : List (BitVec 128)) (s : State),
    s.headReady e q l = true → cmdOp q = 0x10 →
    Answers (.ctleSearch e) s fun t =>
      (t.engRec e).cmdq = l ∧
      (t.engRec e).long = some { cmd := q, epoch := s.cmdGrpEpoch q, startAt := s.elapsed, stamp := s.stamp, rots := s.cmdRots q } ∧
      (t.engRec e).rspq = (s.engRec e).rspq ++ [s.answerWord e q (s.cmdGrpEpoch q) 1 0 0 0]) ∧
  (∀ (e : Eng) (q : BitVec 128) (l : List (BitVec 128)) (p : Path) (s : State),
    s.headReady e q l = true → cmdOp q = 0x20 → targetPath (cmdTarget q) = some p →
    Answers (.eyeScan e) s fun t =>
      (t.grp (pathGrp p)).cap = some (128 + e.val) ∧
      (t.engRec e).long = some { cmd := q, epoch := s.cmdGrpEpoch q, startAt := s.elapsed, stamp := s.stamp, rots := s.cmdRots q } ∧
      (t.engRec e).rspq = (s.engRec e).rspq ++ [s.answerWord e q (s.cmdGrpEpoch q) 1 0 0 0]) ∧
  (∀ (e : Eng) (q : BitVec 128) (l : List (BitVec 128)) (s : State),
    s.headReady e q l = true → cmdOp q = 0x30 →
    Answers (.sweep e) s fun t =>
      (t.engRec e).cmdq = l ∧
      (t.engRec e).long = some { cmd := q, epoch := s.cmdGrpEpoch q, startAt := s.elapsed, stamp := s.stamp, rots := s.cmdRots q } ∧
      (t.engRec e).rspq = (s.engRec e).rspq ++ [s.answerWord e q (s.cmdGrpEpoch q) 1 0 0 0]) ∧
  (∀ (e : Eng) (q : BitVec 128) (l : List (BitVec 128)) (g : Grp) (s : State),
    s.headReady e q l = true → cmdOp q = 0x31 → targetGrp (cmdTarget q) = some g → (s.calBlocked g = true ∨ s.calOn g = true) →
    Answers (.calRun e) s fun t =>
      (t.engRec e).cmdq = l ∧ (t.engRec e).rspq = (s.engRec e).rspq ++ [s.answerWord e q (s.cmdGrpEpoch q) 1 0 0 0] ∧
      t.f (gp g) GroupR.CAL_STAT_LAST_TRIG = 3 ∧ t.on (gp g) GroupR.CAL_STAT_TRIG_PEND = true) ∧
  (∀ (e : Eng) (q : BitVec 128) (l : List (BitVec 128)) (g : LongSt) (s : State),
    s.headReady e q l = true → cmdOp q = 0x70 → (s.engRec e).long = some g → cmdTag g.cmd = cmdArg0 q % 256 →
    Answers (.abortCommand e) s fun t =>
      (t.engRec e).cmdq = l ∧ (t.engRec e).long = none ∧ t.free = s.free + 1) ∧
  (∀ (e : Eng) (q : BitVec 128) (l : List (BitVec 128)) (s : State),
    s.headReady e q l = true → cmdOp q = 0x71 →
    Answers (.flush e) s fun t =>
      (t.engRec e).cmdq = [] ∧ (t.engRec e).long = none ∧
      t.f (ep e) StageR.ENG_CNT_COMMANDS = satNat (fldTop StageR.ENG_CNT_COMMANDS) (s.f (ep e) StageR.ENG_CNT_COMMANDS + (l.length + 1 + b2n (s.engRec e).long.isSome))) ∧
  (∀ (e : Eng) (size : BitVec 14) (q : BitVec 128) (l : List (BitVec 128)) (g : Grp) (s : State),
    s.headReady e q l = true → cmdOp q = 0x72 → s.engGrp e = some g →
    Answers (.checkpoint e size) s fun t =>
      (t.engRec e).ckpt = some { grp := g.val, fmt := s.f (ep e) StageR.IMG_FMT_STATE_FMT, size := size.toNat, at_ := s.elapsed } ∧
      (t.engRec e).hbAt = s.elapsed ∧ (t.engRec e).rspq = (s.engRec e).rspq ++ [s.answerWord e q (s.cmdGrpEpoch q) 0 size.toNat 0 0]) ∧
  (∀ (e : Eng) (detail : BitVec 16) (r0 r1 : Word) (grid : List (BitVec 16)) (g : LongSt) (p : Path) (s : State),
    (s.engRec e).long = some g → s.eng e = egRunning → cmdOp g.cmd = 0x10 → targetPath (cmdTarget g.cmd) = some p →
    (s.engRec e).held = [] → (s.engRec e).rspq.length < 16 →
    Answers (.longCommandEnd e detail r0 r1 grid) s fun t =>
      (t.engRec e).long = none ∧
      (t.engRec e).rspq = (s.engRec e).rspq ++ [s.answerWord e g.cmd g.epoch 0 detail.toNat (s.rd (pageAddr (pp p) 0x040)) (BitVec.ofNat 32 (s.f (pp p) PathR.EQ_QUAL_SNR))])

/-- The commands of a migration and of the twin complete (R299, R300, R309, R311, R312, R314, R315, R316, R317, R319, R320, R322). -/
def Obligations.MigrationAndTwinCommandsComplete : Prop :=
  (∀ (c : Src) (g : Grp) (target : BitVec 4) (s : State),
    s.takes c (gp g) 0x280 (BitVec.ofNat 32 (2 ^ 9 + target.toNat)) 0x20F = true → s.migCause g target.toNat = none →
    Answers (.migrationGo c g target) s fun t =>
      t.mig g = 1) ∧
  (∀ (g : Grp) (s : State),
    s.mig g = 1 →
    Answers (.migrationSafePoint g) s fun t =>
      t.mig g = 2) ∧
  (∀ (g : Grp) (s : State),
    s.mig g = 2 →
    Answers (.migrationHandover g) s fun t =>
      t.mig g = 3) ∧
  (∀ (s : State),
    s.on .twin TwinR.TWIN_CFG_EN = true → s.device = .ready →
    Answers (.twinLinkUp) s fun t =>
      t.linkUp = true) ∧
  (∀ (lanes : BitVec 4) (message : Bool) (s : State),
    s.linkUp = true →
    Answers (.twinLinkLost lanes message) s fun t =>
      t.linkUp = false) ∧
  (∀ (s : State),
    s.linkUp = true →
    Answers (.twinSendTimer 0) s fun t =>
      t.twin.sent = some (.hello s.ownHello)) ∧
  (∀ (h : TwinHello) (resends : BitVec 2) (s : State),
    s.on .twin TwinR.TWIN_CFG_EN = true → s.linkUp = true → h.id ≠ s.twinId →
    (s.tw = twSeeking ∨ s.tw = twLinkDown ∨ s.tw = twAlone) → s.hbOk = true →
    Answers (.hello h resends) s fun t =>
      t.tw = twPaired) ∧
  (∀ (d21 d43 : BitVec 64) (s : State),
    s.follow = true → s.tw = twPaired → s.on .twin TwinR.TWIN_CFG_TIME_EN = true →
    Answers (.timeExchange d21 d43) s fun t =>
      t.f .twin TwinR.TT_OFS_OFS = enc 32 (clampInt 0x7FFFFFFF (roundDiv (d21.toInt - d43.toInt + s.sf .twin TwinR.TT_ASYM_ASYM) 2))) ∧
  (∀ (p : Path) (meas held : Word) (st : BitVec 3) (s : State),
    s.tw = twPaired → s.verified p = true → st.toNat = pinPinned →
    Answers (.pinReport p meas held st) s fun t =>
      t.sf (pp p) PathR.PIN_TWIN_DIFF = clampInt 0x7FFF ((s.f (pp p) PathR.PIN_MEAS_MEAS : Int) - (meas.toNat : Int))) ∧
  (∀ (p : Path) (cfg : TwinCfg) (s : State),
    s.tw = twPaired →
    Answers (.configReport p cfg) s fun t =>
      t.peerCfg p = some cfg) ∧
  (∀ (p : Path) (coef : TwinCoef) (s : State),
    s.tw = twPaired →
    Answers (.coefficientReport p coef) s fun t =>
      tabGet (fun _ => none) t.twin.coefs p.val = some ({ coef with ffe := coef.ffe.take 16 }, s.elapsed)) ∧
  (∀ (n : BitVec 10) (b : BitVec 15) (l : BitVec 9) (s : State),
    s.follow = true → s.tw = twPaired → n.toNat ≤ 503 →
    Answers (.mirrorOperation (.desc n b l)) s fun t =>
      tabGet (fun _ => (0, 0)) t.scene.desc n.toNat = (b.toNat, l.toNat)) ∧
  (∀ (w : Word) (s : State),
    s.tw = twPaired → s.on .twin TwinR.TWIN_STAT_SYNCING = false →
    Answers (.mirCrc w) s fun t =>
      t.f .twin TwinR.MIR_PEER_CRC_PEER = w.toNat) ∧
  (∀ (r : MirRange) (s : State),
    s.on .twin TwinR.TWIN_STAT_SYNCING = true → r.armed = [] →
    Answers (.bulkSyncDone r) s fun t =>
      t.on .twin TwinR.TWIN_STAT_SYNCING = false) ∧
  (∀ (s : State),
    s.hbOk = true →
    Answers (.hbLost) s fun t =>
      t.hbOk = false) ∧
  (∀ (s : State),
    s.on .twin TwinR.TWIN_CFG_EN = true → s.hbOk = false →
    Answers (.heartbeatPresent) s fun t =>
      t.hbOk = true) ∧
  (∀ (s : State),
    s.tw = twAlone → s.follow = true → s.linkUp = false → s.hbOk = false →
    Answers (.promotionTimeout) s fun t =>
      t.role = 1) ∧
  (∀ (s : State),
    s.follow = true → s.on .twin TwinR.TWIN_CFG_TIME_EN = true → s.f .time TimeR.TIME_CTL_SRC = 2 →
    s.on .time TimeR.TIME_STAT_HOLDOVER = false →
    Answers (.timeTransferLost) s fun t =>
      t.on .twin TwinR.TT_STAT_LOCKED = false) ∧
  (∀ (c : Src) (force : Bool) (s : State),
    s.takes c .twin 0x050 (BitVec.ofNat 32 (1 + 32 * b2n force)) allOnes = true → s.reqCause force = none →
    Answers (.req c force) s fun t =>
      t.sdState = 1) ∧
  (∀ (c : Src) (s : State),
    s.takesF c .twin TwinR.SD_CTL_CONFIRM 1 = true → s.sdState = 1 →
    Answers (.confirm c) s fun t =>
      t.sdState = 2) ∧
  (∀ (c : Src) (s : State),
    s.takesF c .twin TwinR.SD_CTL_CANCEL 1 = true → s.sdState = 1 →
    Answers (.cancel c) s fun t =>
      t.sdState = 0) ∧
  (∀ (c : Src) (s : State),
    s.takesF c .twin TwinR.SD_CTL_REENTER 1 = true → s.sdState = 2 →
    (s.tw = twAlone ∨ s.tw = twPaired ∧ s.f .twin TwinR.TWIN_STAT_PEER_SD = 0) →
    Answers (.reenter c) s fun t =>
      t.sdState = 3) ∧
  (∀ (c : Src) (p : Path) (s : State),
    s.takesF c .twin TwinR.SD_CTL_REPLACE 1 = true → s.method (pathAB (laneOf p)) = 3 →
    allPaths.all (fun q => (q == p) != (s.path q).record) = true →
    Answers (.replace c) s fun t =>
      t.lock p = false) ∧
  (∀ (s : State),
    s.sdState = 3 → s.reenterBlock = none →
    Answers (.reentryComplete) s fun t =>
      t.sdState = 0) ∧
  (∀ (s : State),
    s.sdState = 3 →
    Answers (.reentryTimeout) s fun t =>
      t.sdState = 2) ∧
  (∀ (c : Src) (v : Bool) (s : State),
    s.takesF c .twin TwinR.TWIN_CFG_EN (b2n v) = true → s.on .twin TwinR.TWIN_CFG_EN ≠ v →
    Answers (.twinCfgEnWrite c v) s fun t =>
      t.on .twin TwinR.TWIN_CFG_EN = v)

/-- The commands of the supplies, the hold-up bank and the flash complete (R334, R335, R336, R338, R340, R341, R343, R347, R349, R350,
R351). -/
def Obligations.SupplyAndFlashCommandsComplete : Prop :=
  (∀ (b : Bool) (s : State),
    s.good b = false → s.device = .off →
    Answers (.inputGood b) s fun t =>
      t.good b = true) ∧
  (∀ (b : Bool) (s : State),
    s.good b = true → s.device = .ready →
    Answers (.inputLost b) s fun t =>
      t.good b = false) ∧
  (∀ (s : State),
    s.device = .ready → s.sel = 1 → s.good false = true → s.forceB = false →
    Answers (.returnDelayExpiry) s fun t =>
      t.sel = 0) ∧
  (∀ (c : Src) (v : Bool) (s : State),
    s.takesF c .supply SupplyR.SUP_CTL_FORCE_B (b2n v) = true → s.forceB ≠ v →
    Answers (.forceBWrite c v) s fun t =>
      t.forceB = v) ∧
  (∀ (r : Fin 6) (s : State),
    s.failable = true → (s.good false = true ∨ s.good true = true) →
    Answers (.railFault r) s fun t =>
      t.device = .failing) ∧
  (∀ (c : Src) (s : State),
    s.takesF c .supply SupplyR.HUP_CTL_MEASURE 1 = true →
    Answers (.measure c) s fun t =>
      t.supply.testing = true) ∧
  (∀ (s : State),
    s.device = .ready →
    Answers (.capacitanceTestDue) s fun t =>
      t.supply.testing = true) ∧
  (∀ (dvc dvd : BitVec 24) (reached : Bool) (s : State),
    s.supply.testing = true → reached = true → dvc.toNat ≤ 300000 → 0 < dvc.toNat + dvd.toNat → s.rehState ≠ 1 →
    s.reh.toDark = false →
    Answers (.capacitanceTestEnd dvc dvd reached) s fun t =>
      t.supply.testing = false) ∧
  (∀ (vina vinb pin hup : BitVec 16) (s : State),
    s.houseOn = true → s.supply.hupZero = false →
    Answers (.energyUpdate vina vinb pin hup) s fun t =>
      t.f .supply SupplyR.SUP_VIN_VINA = vina.toNat ∧ t.f .supply SupplyR.SUP_PWR_HUP = hup.toNat ∧
      t.eAvail = satNat 1023 (energyOf (s.f .supply SupplyR.HUP_CAP_CAP) hup.toNat)) ∧
  (∀ (s : State),
    s.failable = true → s.good false = false → s.good true = false →
    Answers (.powerFailure) s fun t =>
      t.device = .failing ∧ t.supply.fall = s.fallPayload 1) ∧
  (∀ (hup : BitVec 16) (s : State),
    s.device = .failing → s.flash.run = none →
    Answers (.fallRecordWrite hup) s fun t =>
      t.device = .off ∧ t.flash.bytes = (s.fallWrite hup false).flash.bytes) ∧
  (∀ (c : Src) (region : BitVec 4) (s : State),
    s.nvmTakes c 1 region = true → s.flashFree = true → 213 ≤ s.eAvail →
    Answers (.store c region) s fun t =>
      t.flash.run.map Prod.fst = some (.host 1 region.toNat (s.f .nvm NvmR.NVM_ADDR_ADDR) (s.f .nvm NvmR.NVM_LEN_LEN))) ∧
  (∀ (c : Src) (region : BitVec 4) (s : State),
    s.nvmTakes c 2 region = true → s.device = .ready → s.flash.run = none → s.flash.queue = [] →
    Answers (.read c region) s fun t =>
      t.flash.run.map Prod.fst = some (.host 2 region.toNat (s.f .nvm NvmR.NVM_ADDR_ADDR) (s.f .nvm NvmR.NVM_LEN_LEN))) ∧
  (∀ (c : Src) (region : BitVec 4) (s : State),
    s.nvmTakes c 3 region = true → s.flashFree = true → 52 ≤ s.eAvail →
    Answers (.erase c region) s fun t =>
      t.flash.run.map Prod.fst = some (.host 3 region.toNat (s.f .nvm NvmR.NVM_ADDR_ADDR) (s.f .nvm NvmR.NVM_LEN_LEN))) ∧
  (∀ (c : Src) (region : BitVec 4) (s : State),
    s.nvmTakes c 4 region = true → s.flashFree = true → 19 ≤ s.eAvail →
    Answers (.program c region) s fun t =>
      t.flash.run.map Prod.fst = some (.host 4 region.toNat (s.f .nvm NvmR.NVM_ADDR_ADDR) (s.f .nvm NvmR.NVM_LEN_LEN))) ∧
  (∀ (ok : Bool) (r addr len : Nat) (rec0 : List Byte) (s : State),
    s.flash.run = some (.host 3 r addr len, rec0) → r ≤ 1 → addr < regionSize r → s.flash.queue = [] → s.rehState ≠ 1 →
    s.reh.toDark = false →
    Answers (.flashOperationEnd ok) s fun t =>
      t.flash.run = none) ∧
  (∀ (b : Bool) (s : State),
    s.good b = false →
    Answers (.inputQualificationStart b) s fun t =>
      (t = (if b then s else s.setF .supply SupplyR.SUP_STAT_RET_WAIT 1)))

/-- The commands of group power states and of DARK complete (R71, R361, R362, R364, R366, R370). -/
def Obligations.PowerStateCommandsComplete : Prop :=
  (∀ (c : Src) (g : Grp) (s : State),
    s.takesF c (gp g) GroupR.PWR_CTL_REQ rqRun = true → s.overTemp g = false → s.busyOf (gp g) = .no →
    (s.pw g = pwInt ∨ s.pw g = pwOff) →
    Answers (.reqRun c g) s fun t =>
      t.pw g = pwExit) ∧
  (∀ (c : Src) (g : Grp) (s : State),
    s.takesF c (gp g) GroupR.PWR_CTL_REQ rqInt = true → s.overTemp g = false → s.busyOf (gp g) = .no → s.pw g = pwRun →
    Answers (.reqIntermission c g) s fun t =>
      t.pw g = pwEnterInt) ∧
  (∀ (c : Src) (g : Grp) (s : State),
    s.takesF c (gp g) GroupR.PWR_CTL_REQ rqOff = true → s.busyOf (gp g) = .no → (s.pw g = pwRun ∨ s.pw g = pwInt) →
    Answers (.reqOff c g) s fun t =>
      t.pw g = pwEnterOff) ∧
  (∀ (g : Grp) (s : State),
    s.pwMoving g = true → (s.grp g).pend = none → (s.grp g).target = rqOff → s.device = .ready →
    Answers (.transitionEnd g) s fun t =>
      t.pw g = pwOff) ∧
  (∀ (g : Grp) (s : State),
    s.pw g = pwRun → (s.grp g).pend = none → s.on (gp g) GroupR.PWR_CTL_AUTO_EN = true →
    s.on (gp g) GroupR.PWR_CTL_WAKE_HOLD = false → s.busyOf (gp g) = .no → s.grpIdle g = true → s.device = .ready →
    s.overTemp g = false →
    Answers (.idleTimerExpiry g) s fun t =>
      t.pw g = pwEnterInt) ∧
  (∀ (c : Src) (g : Grp) (s : State),
    s.takesF c (gp g) GroupR.PWR_CTL_WAKE_NOW 1 = true → s.pw g = pwInt → s.busyOf (gp g) = .no →
    Answers (.wakeNow c g) s fun t =>
      t.pw g = pwExit) ∧
  (∀ (c : Src) (s : State),
    s.takes c .pstate 0x040 0xDA01 allOnes = true →
    Answers (.dark c 0xDA) s fun t =>
      t.device = .enteringDark) ∧
  (∀ (s : State),
    s.device = .enteringDark → allGroups.all (fun g => s.pw g == pwOff) = true → s.flash.run = none → s.flash.queue = [] →
    Answers (.darkReached) s fun t =>
      t.device = .dark) ∧
  (∀ (porst : Bool) (s : State),
    s.device = .dark →
    Answers (.darkWake porst) s fun t =>
      t.device = .fullReset)

/-- The commands of the sensors and of calibration complete (R376, R380, R383, R384, R386, R387, R389). -/
def Obligations.CalibrationCommandsComplete : Prop :=
  (∀ (diff : BitVec 16) (s : State),
    Answers (.bandgapCompare diff) s fun t =>
      t.f .cal CalR.BG_MON_DIFF = diff.toNat) ∧
  (∀ (i : Fin 9) (reading : BitVec 12) (twin : List (BitVec 3 × Byte × BitVec 16)) (s : State),
    reading.toInt < 8 * (s.f .therm ThermR.OT_CFG_OT_THR : Int) →
    Answers (.sensorMean i reading twin) s fun t =>
      t.f .therm (ThermR.THERM_T_NOW i.val) = reading.toNat) ∧
  (∀ (c : Src) (g : Grp) (s : State),
    s.takesF c (gp g) GroupR.CAL_CMD_RUN 1 = true → s.calBlocked g = false → s.calOn g = false → s.calBlocks g ≠ 0 →
    Answers (.calCmdRun c g) s fun t =>
      t.calState g = 1) ∧
  (∀ (g : Grp) (s : State),
    s.f (gp g) GroupR.CAL_CTL_PERIOD ≠ 0 → s.calBlocked g = false → s.calOn g = false → s.calBlocks g ≠ 0 →
    Answers (.calPeriodExpiry g) s fun t =>
      t.calState g = 1) ∧
  (∀ (g : Grp) (k m : Nat) (r : Bool) (s : State),
    (s.calRec g).pend = some (k, r, m) → s.calBlocked g = false → s.calOn g = false → m % 64 ≠ 0 →
    Answers (.pendingRunStart g) s fun t =>
      t.calState g = 1) ∧
  (∀ (g : Grp) (l : List CalRes) (s : State),
    s.calState g = 1 → lowBlock (s.calRec g).mask < 6 → lowBlock ((s.calRec g).mask - 2 ^ lowBlock (s.calRec g).mask) < 6 →
    Answers (.calBlockEnd g l) s fun t =>
      (t.calRec g).mask = (s.calRec g).mask - 2 ^ lowBlock (s.calRec g).mask ∧
      t.f (gp g) GroupR.CAL_STAT_BLOCK = lowBlock (t.calRec g).mask) ∧
  (∀ (c : Src) (p : Path) (s : State),
    s.takesF c (gp (pathGrp p)) GroupR.CAL_CMD_APPLY 1 = true →
    Answers (.apply c (pathGrp p)) s fun t =>
      t.pend p = []) ∧
  (∀ (c : Src) (g : Grp) (s : State),
    s.takesF c (gp g) GroupR.CAL_CMD_ABORT 1 = true → s.calOn g = true →
    Answers (.calAbort c g) s fun t =>
      t.calState g = 0) ∧
  (∀ (p : Path) (s : State),
    s.calOn (pathGrp p) = true → s.ramp p ≠ [] →
    Answers (.rampStep (pathGrp p)) s fun t =>
      t.trim p = (s.ramp p).foldl (fun t e => setBlock e.1 (List.zipWith rampCode (blockCodes e.1 t) e.2) t) (s.trim p)) ∧
  (∀ (c : Src) (p : Path) (skew : Bool) (paths : BitVec 16) (s : State),
    s.takes c (gp (pathGrp p)) 0x1A0 (BitVec.ofNat 32 (b2n skew * 2 ^ 16 + paths.toNat)) allOnes = true →
    paths.getLsbD (pathIdx p) = true → s.f (pp p) PathR.SWING_STAT_AVAIL = 0 → s.grpDown (pathGrp p) = false →
    Answers (.disruptiveRun c (pathGrp p) skew paths) s fun t =>
      (t.path p).disrupt = true) ∧
  (∀ (p : Path) (l : List SliceRes) (s : State),
    (s.path p).disrupt = true →
    Answers (.disruptiveWindowEnd p l) s fun t =>
      (t.path p).disrupt = false)

/-- The commands of rehearsal and of the repair fuses complete (R397, R398, R400, R403, R406, R413, R416). -/
def Obligations.RehearsalAndFuseCommandsComplete : Prop :=
  (∀ (c : Src) (force : Bool) (s : State),
    s.rehTakes c 1 0 force = true →
    Answers (.curtain c force) s fun t =>
      t.rehState = 1) ∧
  (∀ (c : Src) (target : BitVec 4) (force : Bool) (s : State),
    s.rehTakes c 2 target.toNat force = true →
    Answers (.group c target force) s fun t =>
      t.rehState = 1) ∧
  (∀ (c : Src) (target : BitVec 4) (s : State),
    s.rehTakes c 3 target.toNat false = true →
    Answers (.engine c target) s fun t =>
      t.rehState = 1) ∧
  (∀ (c : Src) (s : State),
    s.takes c .reh 0x040 (BitVec.ofNat 32 (4 * 2 ^ 28)) allOnes = true → s.rehRuns = true →
    Answers (.rehAbort c) s fun t =>
      t.f .reh RehR.REH_STAT_CAUSE = 8 ∧ t.rehRuns = false) ∧
  (∀ (c : Src) (s : State),
    s.takes c .reh 0x040 (BitVec.ofNat 32 (5 * 2 ^ 28)) allOnes = true → s.rehState = 0 → s.fuseSession 0 ≠ [] →
    s.flashFree = true → 105 ≤ s.eAvail →
    Answers (.fuse c) s fun t =>
      t.rehState = 4) ∧
  (∀ (l : List Byte) (s : State),
    s.flash.run = some (.fuseSession, l) → s.rehState = 4 → s.reh.toDark = false →
    Answers (.fuseSessionEnd []) s fun t =>
      t.reh.fuses = s.reh.fuses ++ s.reh.burning.map (fun i => ((s.reh.soft[i]?).map (·.word)).getD 0)) ∧
  (∀ (u : Option Grp) (k : Fin 16) (r : RehRes) (s : State),
    s.rehOn = true → s.rehUnits.contains u = true → s.rehNext u = some k.val → u.any (fun g => s.pw g != pwRun) = false →
    r.fails = [] →
    Answers (.rehTestEnd u k r) s fun t =>
      t.rehRes u k.val = 1) ∧
  (∀ (s : State),
    s.rehOn = true → s.rehAllDone = true → s.rehScope ≠ 1 →
    Answers (.rehRunClose) s fun t =>
      t.f .reh RehR.REH_STAT_LAST = rehOverall (s.rehUnits.flatMap s.rehResults)) ∧
  (∀ (s : State),
    s.device ≠ .off →
    Answers (.ontimeMinute) s fun t =>
      t.f .reh RehR.ONTIME_MIN = (s.f .reh RehR.ONTIME_MIN + 1) % 2 ^ 32)

/-- The commands of the SPI target and of both two-wire ports complete (R65, R420, R422, R423, R425, R426, R428, R429, R430, R431, R432,
R433). -/
def Obligations.SpiAndTwoWireCommandsComplete : Prop :=
  (∀ (mode3 : Bool) (addr : BitVec 32) (s : State),
    s.spiTakes .write32 addr = true →
    Answers (.write32 mode3 addr) s fun t =>
      t.spi.open_ = some { src := .spi, kind := .write32, addr := addr, cost := opCost .write32 addr.toNat, at_ := s.elapsed }) ∧
  (∀ (mode3 : Bool) (addr : BitVec 32) (s : State),
    s.spiTakes .write128 addr = true →
    Answers (.write128 mode3 addr) s fun t =>
      t.spi.open_ = some { src := .spi, kind := .write128, addr := addr, cost := opCost .write128 addr.toNat, at_ := s.elapsed }) ∧
  (∀ (mode3 : Bool) (addr : BitVec 32) (full : Bool) (s : State),
    s.spiTakes .read32 addr = true → s.spi.ret.length < 4 →
    Answers (.read32 mode3 addr full) s fun t =>
      t.access = s.access ++ [{ src := .spi, kind := .read32, addr := addr, cost := opCost .read32 addr.toNat, at_ := s.elapsed }]) ∧
  (∀ (mode3 : Bool) (addr : BitVec 32) (full : Bool) (s : State),
    s.spiTakes .read128 addr = true → s.spi.ret.length < 4 →
    Answers (.read128 mode3 addr full) s fun t =>
      t.access = s.access ++ [{ src := .spi, kind := .read128, addr := addr, cost := opCost .read128 addr.toNat, at_ := s.elapsed }]) ∧
  (∀ (mode3 full : Bool) (r : SpiRet) (l : List SpiRet) (s : State),
    s.spiHears = true → s.spi.ret = r :: l → (s.spiHead = 1 ∨ s.spiHead = 3) →
    Answers (.status mode3 full) s fun t =>
      t.spi.out = statusByte 0 s.spiHead (l.length + 1) :: returnBytes r) ∧
  (∀ (data : BitVec 128) (x : Access) (s : State),
    s.spi.open_ = some x →
    Answers (.writeDataComplete data) s fun t =>
      t.spi.open_ = none) ∧
  (∀ (mode3 : Bool) (s : State),
    s.spiHears = true → s.spi.open_ = none →
    Answers (.spiFrameFault .opcode mode3) s fun t =>
      t.f .spi Hdr.VIOL_1_PROTOCOL = satNat 0xFFFF (s.f .spi Hdr.VIOL_1_PROTOCOL + 1)) ∧
  (∀ (s : State),
    s.spi.open_ ≠ none →
    Answers (.spiStallTimeout) s fun t =>
      t.f .spi Hdr.VIOL_1_PROTOCOL = satNat 0xFFFF (s.f .spi Hdr.VIOL_1_PROTOCOL + 1)) ∧
  (∀ (c : Src) (s : State),
    s.takesF c .spi SpiR.SPI_CFG_FLUSH 1 = true →
    Answers (.spiFlush c) s fun t =>
      t.spi.ret = []) ∧
  (∀ (p : BitVec 16) (s : State),
    s.twtHears = true → s.twt.deaf = false → s.twt.xfer = .none → s.access = [] →
    Answers (.twtPointerSet p) s fun t =>
      t.twt.xfer = .write) ∧
  (∀ (tScl tLow : BitVec 16) (s : State),
    s.twtStart.2 = true → (s.twtStart.1.twtOffer (s.twtStart.1.twtLead tScl.toNat tLow.toNat)).2 = true →
    Answers (.twtAddressRead tScl tLow) s fun t =>
      t.twt.xfer = .read) ∧
  (∀ (tScl tLow : BitVec 16) (s : State),
    s.twt.xfer = .read → s.twt.mute = false →
    Answers (.twtReadContinue tScl tLow) s fun t =>
      t.twt.regs = s.twt.regs + 1) ∧
  (∀ (b : Byte) (s : State),
    s.twt.xfer = .write → s.twt.seen = true →
    s.admits (s.admQ - bufCost s.twt.window.toNat s.twt.base s.twt.buf) (bufCost s.twt.window.toNat s.twt.base (s.twt.buf.filter (fun e => e.1 != s.twt.next) ++ [(s.twt.next, b)])) = true →
    s.bufRefused s.twt.window.toNat s.twt.base (s.twt.buf.filter (fun e => e.1 != s.twt.next) ++ [(s.twt.next, b)]) = false →
    Answers (.twtDataByte b) s fun t =>
      t.twt.buf = s.twt.buf.filter (fun e => e.1 != s.twt.next) ++ [(s.twt.next, b)]) ∧
  (∀ (s : State),
    s.twt.xfer = .write → s.twt.buf ≠ [] →
    Answers (.twtBufferApply) s fun t =>
      t.twt.xfer = .none) ∧
  (∀ (s : State),
    s.twtHears = true → s.twt.deaf = false → s.twt.xfer ≠ .read →
    Answers (.twtStartStopFault) s fun t =>
      t.twt.xfer = .none) ∧
  (∀ (k : TwtTmo) (s : State),
    s.twtHears = true → s.twt.xfer ≠ .none →
    Answers (.twtTimeout k) s fun t =>
      t.twt.xfer = .none) ∧
  (∀ (s : State),
    s.promptDue = true →
    Answers (.prompt) s fun t =>
      t.on .house HouseR.ATTN_STAT_PROMPT_REQ = false) ∧
  (∀ (mine : Bool) (s : State),
    s.promptDue = true →
    Answers (.promptAbandon mine) s fun t =>
      t.on .house HouseR.ATTN_STAT_PROMPT_REQ = !mine) ∧
  (∀ (c : Src) (addr : BitVec 7) (rlen wlen : BitVec 6) (s : State),
    s.takes c .twc 0x044 (BitVec.ofNat 32 (2 ^ 28 + addr.toNat * 2 ^ 16 + rlen.toNat * 256 + wlen.toNat)) allOnes = true →
    s.on .twc TwcR.TWC_CFG_EN = true → s.twcOn = false → s.twc.stuck = false → rlen.toNat ≤ 32 → wlen.toNat ≤ 32 →
    Answers (.twcGo c addr rlen wlen) s fun t =>
      t.twcOn = true) ∧
  (∀ (c : Src) (s : State),
    s.takesF c .twc TwcR.TWC_CMD_OP 2 = true → s.twcOn = true →
    Answers (.twcAbort c) s fun t =>
      t.twc.abort = true) ∧
  (∀ (s : State),
    s.land.vio = true → s.twcOn = true → s.twc.abort = false → s.twc.retries < s.f .twc TwcR.TWC_CFG_RETRIES →
    Answers (.arbitrationLost) s fun t =>
      t.twc.retries = s.twc.retries + 1) ∧
  (∀ (sda started : Bool) (s : State),
    s.land.vio = true → s.twcOn = true →
    Answers (.twcTimeout sda started) s fun t =>
      t.twcOn = false) ∧
  (∀ (read : List Byte) (s : State),
    s.land.vio = true → s.twcOn = true → s.twc.abort = false →
    Answers (.twcTransactionEnd .done read) s fun t =>
      t.twcOn = false) ∧
  (∀ (freed : Bool) (s : State),
    s.land.vio = true → s.twc.check = true → s.twcOn = false →
    Answers (.busRecovery freed) s fun t =>
      t.twc.check = false) ∧
  (∀ (s : State),
    Answers (.vioLoss) s fun t =>
      t.land.vio = false) ∧
  (∀ (s : State),
    s.land.vio = false →
    Answers (.vioReturn) s fun t =>
      t.land.vio = true) ∧
  (∀ (whole : Bool) (s : State),
    s.twt.xfer = .read →
    Answers (.twtReadEnd whole) s fun t =>
      t.twt.xfer = .none)

/-- The commands of events, of injection, of resets and of start-up complete (R9, R67, R70, R343, R447, R454, R455, R456, R457, R460,
R462, R467). -/
def Obligations.EventAndResetCommandsComplete : Prop :=
  (∀ (c : Src) (p : Page) (bits : Word) (k : Fin 32) (s : State),
    s.takes c p 0x01C bits allOnes = true → s.busyOf p ≠ .rehearsal → s.on .house HouseR.INJ_CTL_ARM = false →
    bits.getLsbD k.val = true → (detectors p).contains k.val = true →
    Answers (.eventInject c p bits) s fun t =>
      t.evt p k.val = true) ∧
  (∀ (c : Src) (p : Page) (kinds : BitVec 4) (s : State),
    s.takes c p 0x028 (kinds.setWidth 32) allOnes = true → kinds = 9 →
    Answers (.violationInject c p kinds) s fun t =>
      t.f p Hdr.VIOL_0_ACCESS = satNat 0xFFFF (s.f p Hdr.VIOL_0_ACCESS + 1)) ∧
  (∀ (c : Src) (sensor : BitVec 4) (s : State),
    s.takes c .house 0x0B8 (BitVec.ofNat 32 (0xA5 * 2 ^ 24 + sensor.toNat * 2 ^ 16 + 1)) allOnes = true → sensor.toNat ≤ 8 →
    Answers (.injArm c 0xA5 sensor true) s fun t =>
      t.on .house HouseR.INJ_CTL_ARM = true) ∧
  (∀ (row : BitVec 10) (s : State),
    s.on .house HouseR.ECC_INJ_ARM = true →
    Answers (.eccInject row) s fun t =>
      t.on .house HouseR.ECC_INJ_ARM = false) ∧
  (∀ (c : Src) (code : BitVec 16) (s : State),
    s.takes c .house 0x0C0 (BitVec.ofNat 32 (2 ^ 31 + code.toNat)) allOnes = true →
    Answers (.softEvent c code) s fun t =>
      t.evt .house 2 = true) ∧
  (∀ (mac row : BitVec 10) (reader : EccReader) (s : State),
    s.houseOn = true → mac.toNat < 512 →
    Answers (.sramEccError mac row true reader) s fun t =>
      t.evt .house 16 = true) ∧
  (∀ (c : Src) (p : Path) (s : State),
    s.takes c .house 0x100 (BitVec.ofNat 32 (2 ^ 8 + p.val)) allOnes = true → s.rstState = 0 → s.busyOf (pp p) = .no →
    Answers (.pathReset c p) s fun t =>
      t.rstState = 2) ∧
  (∀ (c : Src) (g : Grp) (s : State),
    s.takes c .house 0x100 (BitVec.ofNat 32 (2 * 2 ^ 8 + g.val)) allOnes = true → s.rstState = 0 →
    (grpPages g).all (fun p => s.busyOf p == .no) = true →
    Answers (.groupReset c g) s fun t =>
      t.rstState = 2) ∧
  (∀ (s : State),
    s.rstState = 1 → s.resetHeld = false →
    Answers (.resetWaitEnd) s fun t =>
      t.rstState = 2) ∧
  (∀ (s : State),
    s.land.vio = true → s.device = .ready → s.rstState = 0 →
    Answers (.houseReset none) s fun t =>
      t.houseReset = true) ∧
  (∀ (s : State),
    s.houseReset = true →
    Answers (.houseResetEnd) s fun t =>
      t.houseReset = false) ∧
  (∀ (s : State),
    (s.device = .ready ∨ s.device = .starting) → s.land.vio = true →
    Answers (.fullReset) s fun t =>
      t.device = .fullReset ∧ t.mem = []) ∧
  (∀ (a b d : BitVec 4) (s : State),
    s.device = .fullReset → s.land.vio = true → s.f .house HouseR.RESET_CAUSE_FULL_CAUSE ≠ 5 →
    Answers (.startUp a b d) s fun t =>
      t.device = .starting) ∧
  (∀ (s : State),
    s.device = .starting → s.reh.startRun = true → s.rehState = 0 →
    Answers (.startUpReset) s fun t =>
      t.device = .starting) ∧
  (∀ (s : State),
    s.device = .starting → s.reh.startRun = false → allGroups.any (fun g => s.calOn g) = false →
    Answers (.lanesReady) s fun t =>
      t.device = .ready) ∧
  (∀ (s : State),
    s.land.vio = true →
    Answers (.boundaryScanInstruction) s fun t =>
      t.land.scan = true) ∧
  (∀ (s : State),
    s.device = .dark → s.good false = false → s.good true = false →
    Answers (.vkaLost) s fun t =>
      t.device = .off) ∧
  (∀ (s : State),
    s.rstState = 2 →
    Answers (.pathOrGroupResetEnd) s fun t =>
      t.rstState = 0)

/-- The commands of the key bank complete (R476). -/
def Obligations.KeyCommandsComplete : Prop :=
  (∀ (c : Src) (slot : BitVec 2) (s : State),
    s.keyTakes c 1 0 slot.toNat = true →
    Answers (.burnUm c slot) s fun t =>
      t.security.op = some (1, 0, slot.toNat, s.umKey)) ∧
  (∀ (c : Src) (slot : BitVec 2) (s : State),
    s.keyTakes c 2 0 slot.toNat = true →
    Answers (.revokeUm c slot) s fun t =>
      t.security.op = some (2, 0, slot.toNat, s.umKey)) ∧
  (∀ (c : Src) (slot : BitVec 2) (s : State),
    s.keyTakes c 3 0 slot.toNat = true →
    Answers (.revokeImgkey c slot) s fun t =>
      t.security.op = some (3, 0, slot.toNat, s.umKey)) ∧
  (∀ (c : Src) (value : Byte) (s : State),
    s.keyTakes c 4 value.toNat 0 = true →
    Answers (.raiseSvn c value) s fun t =>
      t.security.op = some (4, value.toNat, 0, s.umKey)) ∧
  (∀ (l : List Byte) (slot : Nat) (key : List Byte) (s : State),
    s.flash.run = some (.keyOp, l) → s.security.op = some (1, 0, slot, key) → 105 ≤ s.eAvail → s.rehState ≠ 1 → s.reh.toDark = false →
    Answers (.keyOpEnd true) s fun t =>
      (t.umSlot slot).key = key ∧ t.f .sec SecR.SEC_OPSTAT_RESULT = 1)

/-- With no command waiting a step is one tick of the timebase (the model's choice, log 5). While the queue is empty, a step answers a
next state: the state after one tick, in which elapsed time has not gone back, memory is as it was and the queue is still empty.
(R203, R210) -/
def Obligations.IdleStepTicks : Prop :=
  ∀ s : State, s.pending = [] →
    step s = .next s.tick ∧ s.elapsed ≤ s.tick.elapsed ∧ s.tick.mem = s.mem ∧ s.tick.pending = []

/-- The state right after power-up is in canonical form. Every table of State.reset is in canonical form: the initial case of
StepKeepsCanon. (R459) -/
def Obligations.ResetIsCanonical : Prop :=
  State.reset.Canon

/-- Who owns the pages after a full reset. In State.reset, OWNER reads g in group page g and in every path page of group g, 0xF in every
other page, and no command waits. (R37; the rest of R37, that OWNER changes only by binding and migration, is not stated here.)
(R37) -/
def Obligations.ResetOwners : Prop :=
  (∀ g : Grp, State.reset.owner g = g.val) ∧
  (∀ p : Path, State.reset.view (pp p) Hdr.OWNER.off = State.reset.view (gp (pathGrp p)) Hdr.OWNER.off) ∧
  (∀ e : Eng, fget (State.reset.view (ep e) Hdr.OWNER.off) Hdr.OWNER.hi Hdr.OWNER.lo = 0xF) ∧
  State.reset.pending = []

/-- Every step keeps every table of the state in canonical form. For every state s in canonical form (registers, the memory windows, ECC
rows, latched words, the records of slices, paths, groups, engines and ports) and every t with step s = next t, t is in canonical
form. (The canonical form is the model's; no rule of the manual.) (R5, R12, R23) -/
def Obligations.StepKeepsCanon : Prop :=
  ∀ s t : State, s.Canon → step s = .next t → t.Canon

/-- What is burned stays burned, and time and nonces never go back. For every state s and t with step s = next t: the fuses, the valid
and revoked marks of both Umatan key slots, the revoked image keys, the SVN floor, the burned repair words (as a prefix) and the
elapsed time of s are all still there in t, and the free values and nonces drawn have not gone back. (R413, R459, R475, R478) -/
def Obligations.StepKeepsLater : Prop :=
  ∀ s t : State, step s = .next t → s.Later t

/-- Every command answers a next state and leaves the queue alone. For every command c and state s, exec c s is next of a state whose
queue is that of s: no command ends in a fault or a refusal, and none changes what waits behind it. (R2, R12) -/
def Obligations.EveryCommandAnswers : Prop :=
  ∀ (c : Instr) (s : State), Answers c s fun t => t.pending = s.pending

/-- A direct write follows the access code of every field. For every page, offset but PAGE_CTL, register contents v, data and mask:
after a direct write, an RO field and an SC field hold what they held; a W1C field has lost exactly the bits written as 1; a counter
is 0 if the whole of it was written as 0 and else as it was; an RW field written in part or whole holds the code written where that
is legal and else what it held (TIME_CTL.SRC apart, which R208 may hold), and an RW field not written holds what it held; the write
counts a CONSISTENCY violation exactly when it gives an SC field another code. (R5, R36, R90) -/
def Obligations.DirectWriteFollowsAccessCodes : Prop :=
  ∀ (v : Nat → Word) (p : Page) (off : Nat) (data mask : Word) (r : Row), off ≠ 0x008 → r ∈ rowsAt p off →
    let old : Word := v (pageAddr p off)
    let new : Word := (writeOut v false p off data mask).word
    let m : Word := fldMask r.fld.hi r.fld.lo
    let code : Nat := fget (merge old data mask) r.fld.hi r.fld.lo
    match r.acc with
    | .ro => new &&& m = old &&& m
    | .sc _ => new &&& m = old &&& m ∧ (code ≠ fget old r.fld.hi r.fld.lo → (writeOut v false p off data mask).cons = true)
    | .w1c => new &&& m = old &&& ~~~(data &&& mask) &&& m
    | .cnt => new &&& m = (if m ≠ 0 ∧ mask &&& m = m ∧ data &&& m = 0 then 0 else old &&& m)
    | .w1s => new &&& m = old &&& m
    | .rw => r.fld ≠ TimeR.TIME_CTL_SRC →
        fget new r.fld.hi r.fld.lo = (if fieldLegal v p r code = true then code else fget old r.fld.hi r.fld.lo) ∨
        mask &&& m = 0 ∧ new &&& m = old &&& m

/-- A PAGE_CTL bit that a page does not support ignores a 1 and counts one ACCESS violation. For every host source, page and state in
which the write is taken: if PAGE_CAP.HOLD is 0 and HOLD is written with 1, or PAGE_CAP.OOS is 0 and OOS is written with 1, the
write leaves that bit as it was and the page's ACCESS counter one higher, saturating. (R31) -/
def Obligations.UnsupportedPageCtlBitIsIgnored : Prop :=
  ∀ (c : Src) (p : Page) (hold oos : Bool) (s : State), isHost c = true →
    s.takes c p 0x008 (BitVec.ofNat 32 (2 * b2n hold + b2n oos)) allOnes = true →
    (hold = true ∧ (BitVec.ofNat 32 (pageCap p)).getLsbD Hdr.PAGE_CAP_HOLD.lo = false) ∨
      (oos = true ∧ (BitVec.ofNat 32 (pageCap p)).getLsbD Hdr.PAGE_CAP_OOS.lo = false) →
    Answers (.pageCtlWrite c p hold oos) s fun t =>
      t.f p Hdr.VIOL_0_ACCESS = satNat 0xFFFF (s.f p Hdr.VIOL_0_ACCESS + 1) ∧
      ((BitVec.ofNat 32 (pageCap p)).getLsbD Hdr.PAGE_CAP_HOLD.lo = false → t.on p Hdr.PAGE_CTL_HOLD = s.on p Hdr.PAGE_CTL_HOLD) ∧
      ((BitVec.ofNat 32 (pageCap p)).getLsbD Hdr.PAGE_CAP_OOS.lo = false → t.on p Hdr.PAGE_CTL_OOS = s.on p Hdr.PAGE_CTL_OOS)

/-- A write to VIOL_INJ counts one violation of each kind named, in the page and in the total. For every source, page and set of kinds,
in every state in which the write is taken: each kind written as 1 is one higher in the page's counter and in the device-wide total,
saturating; each kind written as 0 is as it was in both; and if any kind is written, VIOL_LAST shows the page, INJ = 1 and, where
one kind only is written, that kind. (R456) -/
def Obligations.InjectedViolationsCount : Prop :=
  ∀ (c : Src) (p : Page) (kinds : BitVec 4) (s : State), s.takes c p 0x028 (kinds.setWidth 32) allOnes = true →
    Answers (.violationInject c p kinds) s fun t =>
      (∀ k : Viol,
        t.f p (violFld k) = (if kinds.getLsbD (violCode k) then satNat 0xFFFF (s.f p (violFld k) + 1) else s.f p (violFld k)) ∧
        t.f .house (violTot k) =
          (if kinds.getLsbD (violCode k) then satNat 0xFFFFFFFF (s.f .house (violTot k) + 1) else s.f .house (violTot k))) ∧
      (kinds ≠ 0 → t.on .house HouseR.VIOL_LAST_INJ = true ∧ t.f .house HouseR.VIOL_LAST_PAGE = pageNum p) ∧
      (∀ k : Viol, kinds = BitVec.ofNat 4 (2 ^ violCode k) → t.f .house HouseR.VIOL_LAST_KIND = violCode k)

/-- The overall result of a rehearsal run. For every list of test results (1 PASS, 2 REPAIRED, 3 FAIL, 4 INCOMPLETE, 5 SKIPPED, 6
NOT_REACHED): the overall result is FAIL if any is FAIL; otherwise INCOMPLETE if any is INCOMPLETE, NOT_REACHED or SKIPPED;
otherwise REPAIRED if any is REPAIRED; otherwise PASS. (R401) -/
def Obligations.OverallRehearsalResult : Prop :=
  ∀ l : List Nat,
    (3 ∈ l → rehOverall l = 3) ∧
    (3 ∉ l → (4 ∈ l ∨ 6 ∈ l ∨ 5 ∈ l) → rehOverall l = 4) ∧
    (3 ∉ l → 4 ∉ l → 6 ∉ l → 5 ∉ l → 2 ∈ l → rehOverall l = 2) ∧
    (3 ∉ l → 4 ∉ l → 6 ∉ l → 5 ∉ l → 2 ∉ l → rehOverall l = 1)

/-- No store removes the last valid record. For each of the two-slot regions 3 to 6 with an active slot, and a record that fits a slot:
after a store has ended, verified or not, every byte of the slot that was active reads as before, and a store that did not verify
leaves it active. (R347) -/
def Obligations.StoreKeepsActiveRecord : Prop :=
  ∀ (s : State) (r a : Nat) (l : List Byte) (ok : Bool), 3 ≤ r → r ≤ 6 → s.activeSlot r = 1 ∨ s.activeSlot r = 2 →
    l.length ≤ slotSize r → a < slotSize r →
    (s.storeRecord r l ok).flashGet (slotBase r (s.activeSlot r) + a) = s.flashGet (slotBase r (s.activeSlot r) + a) ∧
    (ok = false → (s.storeRecord r l ok).activeSlot r = s.activeSlot r)

/-- Programming flash only clears bits. In a state without cut sectors, after bytes have been programmed from address a, each of those
bytes reads as its old value AND the byte programmed, every other flash byte reads as before, and the answer tells whether every
byte took its value. (R350) -/
def Obligations.ProgramOnlyClearsBits : Prop :=
  ∀ (s : State) (a : Nat) (l : List Byte), s.flash.cut = [] →
    (∀ k, k < l.length → (s.flashProgram a l).1.flashGet (a + k) = s.flashGet (a + k) &&& (l[k]?).getD 0) ∧
    (∀ b, (b < a ∨ a + l.length ≤ b) → (s.flashProgram a l).1.flashGet b = s.flashGet b) ∧
    ((s.flashProgram a l).2 = true ↔ ∀ k, k < l.length → s.flashGet (a + k) &&& (l[k]?).getD 0 = (l[k]?).getD 0)

/-- A WX training frame that is sent is read back, field by field. For every control field with VER bit 3 (control bit 31) 0, every
status field and whatever symbols follow: the symbols 0 to 703 of the frame built from them are found, are coded correctly and give
a valid frame with those two fields. A frame whose control bit 31 is 1 is absent. (R127, R128, R129, R130, R131) -/
def Obligations.WxFrameIsReadBack : Prop :=
  ∀ (ctrl sts : Word) (rest : List Sym),
    (ctrl.getLsbD 31 = false → wxIn (wxHead ctrl sts ++ rest) = { valid := true, ctrl := ctrl, sts := sts }) ∧
    (ctrl.getLsbD 31 = true → (wxIn (wxHead ctrl sts ++ rest)).absent = true)

/-- What the output lands drive after a full reset, and without VIO. From every state in which the device is ready or starting and VIO
is up, a full reset leads to a state in which every transmitter is in electrical idle, the twin link sends nothing, TWIN_HBO is a
differential low and PPS_OUT is low; and in every state without VIO the lands at VIO levels are in high impedance. (R65, R68, R104,
R311) -/
def Obligations.OutputLandsAfterFullReset : Prop :=
  (∀ s : State, s.device = .ready ∨ s.device = .starting → s.land.vio = true →
    Answers (.fullReset) s fun t =>
      (∀ p, t.drive (.tx p) = .elecIdle) ∧ t.drive .twlTx = .elecIdle ∧ t.drive .twinHbo = .low ∧
      t.drive .ppsOut = .low) ∧
  (∀ s : State, s.land.vio = false → ∀ l ∈ [OutLand.spiSdo, .twtSda, .twcScl, .twcSda, .attnN, .ppsOut, .tdo], s.drive l = .highZ)

/-- Commands of one path leave the rest of the machine alone: SWEEP_DUE, ROTATION_START, ADAPT_UPDATE, REQUEST_ANSWERED,
REQUEST_NO_ANSWER, LOCAL_CONVERGENCE, TRAINING_TIMEOUT, IGNORED_ACTIVITY_COUNT, PROBE_SAMPLE, PROBE_WINDOW_END, SLEW_STEP,
FRAMING_LOCK_ACQUIRED, FEC_DEGRADE_WINDOW_END, PRBS_CHECKER_LOCK, PRBS_CHECKER_LOSS, INJECTION_DUE, CONVERTER_LOCK_CHANGE,
CODEWORD_PROCESSED, PTP_EVENT_MESSAGE, TRAINING_FRAME_RECEIVED, MATCH_WINDOW_END (R92, R97, R100, R112, R123, R126, R131, R138,
R141, R152, R165, R178). -/
def Obligations.PathFrame : Prop :=
  (∀ (p : Path) (s : State),
    Answers (.sweepDue p) s fun t =>
      State.Frame [] s t ∧ State.SameRest { s with paths := t.paths } t ∧ (∀ q, q ≠ p → t.path q = s.path q)) ∧
  (∀ (p : Path) (s : State),
    Answers (.rotationStart p) s fun t =>
      State.Frame (regsOf (pp p) [0x080, 0x084, 0x088, 0x08C, 0x090, 0x094, 0x098, 0x09C, 0x0A0]) s t ∧
      State.SameRest { s with paths := t.paths } t ∧ (∀ q, q ≠ p → t.path q = s.path q)) ∧
  (∀ (p : Path) (v : AdaptVal) (s : State),
    Answers (.adaptUpdate p v) s fun t =>
      State.Frame (regsOf (pp p) [0x040, 0x100, 0x104, 0x108, 0x10C, 0x110, 0x114, 0x118, 0x11C, 0x120, 0x124, 0x128, 0x12C, 0x130, 0x134, 0x138, 0x13C, 0x140, 0x144]) s t ∧
      State.SameRest s t) ∧
  (∀ (p : Path) (s : State),
    Answers (.requestAnswered p) s fun t =>
      State.Frame (regsOf (pp p) [0x238]) s t ∧ State.SameRest { s with paths := t.paths } t ∧ (∀ q, q ≠ p → t.path q = s.path q)) ∧
  (∀ (p : Path) (s : State),
    Answers (.requestNoAnswer p) s fun t =>
      State.Frame (regsOf (pp p) [0x23C]) s t ∧ State.SameRest { s with paths := t.paths } t ∧ (∀ q, q ≠ p → t.path q = s.path q)) ∧
  (∀ (p : Path) (snr : BitVec 10) (s : State),
    Answers (.localConvergence p snr) s fun t =>
      State.Frame (regsOf (pp p) [0x010, 0x148, 0x224, 0x240] ++ regsOf (pp (otherPath p)) [0x010, 0x224]) s t ∧
      State.SameRest { s with paths := t.paths } t ∧ (∀ q, q ≠ p → q ≠ otherPath p → t.path q = s.path q)) ∧
  (∀ (p : Path) (s : State), s.sg p ≠ sgInit → s.sg p ≠ sgExch →
    Answers (.trainingTimeout p) s fun t =>
      State.Frame (regsOf (pp p) [0x010, 0x224]) s t ∧ State.SameRest s t) ∧
  (∀ (p : Path) (s : State),
    Answers (.ignoredActivityCount p) s fun t =>
      State.Frame (regsOf (pp p) [0x23C]) s t ∧ State.SameRest s t) ∧
  (∀ (p : Path) (l : Word) (s : State),
    Answers (.probeSample p l) s fun t =>
      State.Frame (regsOf (pp p) [0x010, 0x2C8, 0x2EC]) s t ∧ State.SameRest { s with paths := t.paths } t ∧
      (∀ q, q ≠ p → t.path q = s.path q)) ∧
  (∀ (p : Path) (fixed : BitVec 20) (s : State),
    Answers (.probeWindowEnd p fixed) s fun t =>
      State.Frame (regsOf (pp p) [0x010, 0x2C8, 0x2CC, 0x2D0, 0x2D4, 0x2E4, 0x2EC, 0x2F0, 0x4C4]) s t ∧
      State.SameRest { s with paths := t.paths } t ∧ (∀ q, q ≠ p → t.path q = s.path q)) ∧
  (∀ (p : Path) (s : State),
    Answers (.slewStep p) s fun t =>
      State.Frame (regsOf (pp p) [0x010, 0x2C8, 0x2D4]) s t ∧ State.SameRest { s with paths := t.paths } t ∧
      (∀ q, q ≠ p → t.path q = s.path q)) ∧
  (∀ (p : Path) (eth : BitVec 3) (find : Option WxFind) (s : State),
    Answers (.framingLockAcquired p eth find) s fun t =>
      State.Frame (regsOf (pp p) [0x010, 0x344, 0x354, 0x360, 0x370]) s t ∧ State.SameRest { s with paths := t.paths } t ∧
      (∀ q, q ≠ p → t.path q = s.path q)) ∧
  (∀ (p : Path) (s : State),
    Answers (.fecDegradeWindowEnd p) s fun t =>
      State.Frame (regsOf (pp p) [0x010, 0x3E4]) s t ∧ State.SameRest { s with paths := t.paths } t ∧
      (∀ q, q ≠ p → t.path q = s.path q)) ∧
  (∀ (p : Path) (s : State),
    Answers (.prbsCheckerLock p) s fun t =>
      State.Frame (regsOf (pp p) [0x010, 0x3F8]) s t ∧ State.SameRest s t) ∧
  (∀ (p : Path) (bits errs : Word) (s : State),
    Answers (.prbsCheckerLoss p bits errs) s fun t =>
      State.Frame (regsOf (pp p) [0x3F8]) s t ∧ State.SameRest { s with ctrs := t.ctrs } t) ∧
  (∀ (p : Path) (s : State),
    Answers (.injectionDue p) s fun t =>
      State.Frame (regsOf (pp p) [0x010, 0x418]) s t ∧ State.SameRest { s with paths := t.paths, ctrs := t.ctrs } t ∧
      (∀ q, q ≠ p → t.path q = s.path q)) ∧
  (∀ (p : Path) (which : Fin 3) (w : ConvSeen) (s : State),
    Answers (.converterLockChange p which w) s fun t =>
      State.Frame (regsOf (pp p) [0x010, 0x344, 0x354]) s t ∧ State.SameRest { s with paths := t.paths, ctrs := t.ctrs } t ∧
      (∀ q, q ≠ p → t.path q = s.path q)) ∧
  (∀ (p : Path) (w : Codeword) (s : State),
    Answers (.codewordProcessed p w) s fun t =>
      State.Frame (regsOf (pp p) [0x010, 0x020, 0x024, 0x344, 0x360]) s t ∧
      State.SameRest { s with free := t.free, paths := t.paths, ctrs := t.ctrs } t ∧ (∀ q, q ≠ p → t.path q = s.path q)) ∧
  (∀ (p : Path) (fr : RxFrame) (s : State),
    Answers (.ptpEventMessage p fr) s fun t =>
      State.Frame (regsOf (pp p) [0x010]) s t ∧ State.SameRest { s with paths := t.paths, ctrs := t.ctrs } t ∧
      (∀ q, q ≠ p → t.path q = s.path q)) ∧
  (∀ (p : Path) (f : TrnFrame) (s : State), s.frameValid p f = false → s.on (pp p) PathR.TRN_STAT_FRAME_LOCK = false →
    Answers (.trainingFrameReceived p f) s fun t =>
      State.Frame (regsOf (pp p) [0x010, 0x020, 0x024, 0x224, 0x238] ++ regsOf (pp (otherPath p)) [0x224]) s t ∧
      State.SameRest { s with paths := t.paths } t ∧ (∀ q, q ≠ p → q ≠ otherPath p → t.path q = s.path q)) ∧
  (∀ (p : Path) (ofs gain skew : Byte) (s : State),
    Answers (.matchWindowEnd p ofs gain skew) s fun t =>
      State.Frame (regsOf (pp p) [0x010, 0x0A0, 0x0AC]) s t ∧ State.SameRest { s with paths := t.paths } t ∧
      (∀ q, q ≠ p → t.path q = s.path q))

/-- Commands of the timebase leave the rest of the machine alone: HOLDOVER_TIMEOUT, UNC_THRESHOLD_CROSSED, BRIDGE_HANDOVER,
KEEPALIVE_RETURN, KA_WINDOW_END, PPS_IN_EDGE, PPS_OUT_PULSE, PPS_OUT_END, ONTIME_MINUTE, FABRIC_SPEED_MEASURE (R13, R208, R209,
R211, R212, R213, R217, R218, R416). -/
def Obligations.TimeFrame : Prop :=
  (∀ (s : State),
    Answers (.holdoverTimeout) s fun t =>
      State.Frame (regsOf .time [0x010, 0x058]) s t ∧ State.SameRest { s with time := t.time } t) ∧
  (∀ (s : State),
    Answers (.uncThresholdCrossed) s fun t =>
      State.Frame (regsOf .time [0x010, 0x058]) s t ∧ State.SameRest s t) ∧
  (∀ (s : State),
    Answers (.bridgeHandover) s fun t =>
      State.Frame (regsOf .time [0x010, 0x058, 0x05C, 0x08C]) s t ∧ State.SameRest { s with time := t.time } t) ∧
  (∀ (s : State),
    Answers (.keepaliveReturn) s fun t =>
      State.Frame (regsOf .time [0x010, 0x058, 0x05C, 0x07C, 0x08C]) s t ∧ State.SameRest { s with time := t.time } t) ∧
  (∀ (s : State),
    Answers (.kaWindowEnd) s fun t =>
      State.Frame (regsOf .time [0x078]) s t ∧ State.SameRest { s with time := t.time } t) ∧
  (∀ (s : State),
    Answers (.ppsInEdge) s fun t =>
      State.Frame (regsOf .time [0x010, 0x0B8, 0x0C0, 0x0C4, 0x0C8, 0x0CC]) s t ∧
      State.SameRest { s with time := t.time, free := t.free } t) ∧
  (∀ (s : State),
    Answers (.ppsOutPulse) s fun t =>
      State.Frame [] s t ∧ State.SameRest { s with land := t.land, time := t.time } t) ∧
  (∀ (s : State),
    Answers (.ppsOutEnd) s fun t =>
      State.Frame [] s t ∧ State.SameRest { s with land := t.land } t) ∧
  (∀ (s : State),
    Answers (.ontimeMinute) s fun t =>
      State.Frame (regsOf .reh [0x050]) s t ∧ State.SameRest s t) ∧
  (∀ (rate : BitVec 16) (s : State),
    Answers (.fabricSpeedMeasure rate) s fun t =>
      State.Frame (regsOf .house [0x058, 0x05C]) s t ∧ State.SameRest s t)

/-- Commands of the twin link leave the rest of the machine alone: TWIN_LINK_UP, TWIN_LINK_LOST, TWIN_SEND_TIMER, HELLO, PIN_REPORT,
CONFIG_REPORT, COEFFICIENT_REPORT, HB_LOST, HEARTBEAT_PRESENT, PROMOTION_TIMEOUT, TIME_TRANSFER_LOST, REENTRY_COMPLETE,
REENTRY_TIMEOUT (R309, R311, R312, R316, R317, R319, R320, R323, R324, R329). -/
def Obligations.TwinFrame : Prop :=
  (∀ (s : State),
    Answers (.twinLinkUp) s fun t =>
      State.Frame (regsOf .twin [0x080]) s t ∧ State.SameRest s t) ∧
  (∀ (lanes : BitVec 4) (message : Bool) (s : State),
    Answers (.twinLinkLost lanes message) s fun t =>
      State.Frame (regsOf .twin [0x010, 0x044, 0x080, 0x084]) s t ∧ State.SameRest { s with twin := t.twin } t) ∧
  (∀ (item : BitVec 3) (s : State),
    Answers (.twinSendTimer item) s fun t =>
      State.Frame [] s t ∧ State.SameRest { s with twin := t.twin } t) ∧
  (∀ (h : TwinHello) (resends : BitVec 2) (s : State),
    Answers (.hello h resends) s fun t =>
      State.Frame (regsOf .twin [0x010, 0x044, 0x048, 0x04C, 0x054, 0x07C, 0x084] ++ regsOf .time [0x010, 0x050, 0x058]) s t ∧
      State.SameRest { s with twin := t.twin } t) ∧
  (∀ (p : Path) (meas held : Word) (st : BitVec 3) (s : State),
    Answers (.pinReport p meas held st) s fun t =>
      State.Frame (regsOf (pp p) [0x2F8] ++ regsOf .twin [0x010, 0x060, 0x064, 0x068, 0x06C]) s t ∧
      State.SameRest { s with twin := t.twin } t) ∧
  (∀ (p : Path) (cfg : TwinCfg) (s : State),
    Answers (.configReport p cfg) s fun t =>
      State.Frame (regsOf .twin [0x010, 0x060, 0x064, 0x068, 0x06C]) s t ∧ State.SameRest { s with twin := t.twin } t) ∧
  (∀ (p : Path) (coef : TwinCoef) (s : State),
    Answers (.coefficientReport p coef) s fun t =>
      State.Frame [] s t ∧ State.SameRest { s with twin := t.twin } t) ∧
  (∀ (s : State),
    Answers (.hbLost) s fun t =>
      State.Frame (regsOf .twin [0x010, 0x044, 0x080, 0x084]) s t ∧ State.SameRest { s with twin := t.twin } t) ∧
  (∀ (s : State),
    Answers (.heartbeatPresent) s fun t =>
      State.Frame (regsOf .twin [0x044, 0x080]) s t ∧ State.SameRest { s with twin := t.twin } t) ∧
  (∀ (s : State),
    Answers (.promotionTimeout) s fun t =>
      State.Frame (regsOf .twin [0x010, 0x044, 0x07C] ++ regsOf .time [0x010, 0x050, 0x058]) s t ∧
      State.SameRest { s with twin := t.twin } t) ∧
  (∀ (s : State),
    Answers (.timeTransferLost) s fun t =>
      State.Frame (regsOf .twin [0x010, 0x07C] ++ regsOf .time [0x010, 0x058]) s t ∧
      State.SameRest { s with twin := t.twin, time := t.time } t) ∧
  (∀ (s : State),
    Answers (.reentryComplete) s fun t =>
      State.Frame (regsOf .twin [0x010, 0x054]) s t ∧ State.SameRest { s with twin := t.twin } t) ∧
  (∀ (s : State),
    Answers (.reentryTimeout) s fun t =>
      State.Frame (regsOf .twin [0x010, 0x054]) s t ∧ State.SameRest { s with twin := t.twin } t)

/-- Commands of the supplies leave the rest of the machine alone: INPUT_GOOD, INPUT_LOST, INPUT_QUALIFICATION_START,
RETURN_DELAY_EXPIRY, CAPACITANCE_TEST_DUE, ENERGY_UPDATE, FALL_RECORD_WRITE, VKA_LOST (R334, R335, R340, R341, R343, R349). -/
def Obligations.SupplyFrame : Prop :=
  (∀ (b : Bool) (s : State),
    Answers (.inputGood b) s fun t =>
      State.Frame (regsOf .supply [0x010, 0x044, 0x048, 0x054, 0x058]) s t ∧ State.SameRest { s with supply := t.supply } t) ∧
  (∀ (b : Bool) (s : State),
    Answers (.inputLost b) s fun t =>
      State.Frame (regsOf .supply [0x010, 0x044, 0x048, 0x054]) s t ∧ State.SameRest { s with supply := t.supply } t) ∧
  (∀ (b : Bool) (s : State),
    Answers (.inputQualificationStart b) s fun t =>
      State.Frame (regsOf .supply [0x048]) s t ∧ State.SameRest { s with supply := t.supply } t) ∧
  (∀ (s : State),
    Answers (.returnDelayExpiry) s fun t =>
      State.Frame (regsOf .supply [0x010, 0x048, 0x054]) s t ∧ State.SameRest { s with supply := t.supply } t) ∧
  (∀ (s : State),
    Answers (.capacitanceTestDue) s fun t =>
      State.Frame [] s t ∧ State.SameRest { s with supply := t.supply } t) ∧
  (∀ (vina vinb pin hup : BitVec 16) (s : State),
    Answers (.energyUpdate vina vinb pin hup) s fun t =>
      State.Frame (regsOf .supply [0x010, 0x04C, 0x050, 0x068]) s t ∧ State.SameRest s t) ∧
  (∀ (hup : BitVec 16) (s : State),
    Answers (.fallRecordWrite hup) s fun t =>
      State.Frame (regsOf .supply [0x058]) s t ∧
      State.SameRest { s with flash := t.flash, supply := t.supply, device := t.device } t) ∧
  (∀ (s : State),
    Answers (.vkaLost) s fun t =>
      State.Frame (regsOf .supply [0x058]) s t ∧ State.SameRest { s with supply := t.supply, device := t.device } t)

/-- Commands of the serial ports leave the rest of the machine alone: WRITE_32, READ_32, WRITE_128, READ_128, STATUS,
WRITE_DATA_COMPLETE, SPI_FRAME_FAULT, SPI_STALL_TIMEOUT, TWT_READ_CONTINUE, TWT_DATA_BYTE, TWT_BUFFER_APPLY, TWT_READ_END,
TWT_START_STOP_FAULT, TWT_TIMEOUT, PROMPT, PROMPT_ABANDON, ARBITRATION_LOST, TWC_TIMEOUT, TWC_TRANSACTION_END, BUS_RECOVERY,
VIO_LOSS, VIO_RETURN, ECC_INJECT (R65, R420, R422, R423, R426, R430, R431, R432, R433, R435, R436, R437). -/
def Obligations.PortFrame : Prop :=
  (∀ (mode3 : Bool) (addr : BitVec 32) (s : State),
    Answers (.write32 mode3 addr) s fun t =>
      State.Frame (regsOf .spi [0x020, 0x024, 0x044, 0x048] ++ regsOf .house [0x06C]) s t ∧
      State.SameRest { s with access := t.access, spi := t.spi, land := t.land } t) ∧
  (∀ (mode3 : Bool) (addr : BitVec 32) (full : Bool) (s : State),
    Answers (.read32 mode3 addr full) s fun t =>
      State.Frame (regsOf .spi [0x020, 0x024, 0x044, 0x048] ++ regsOf .house [0x06C]) s t ∧
      State.SameRest { s with access := t.access, spi := t.spi, land := t.land } t) ∧
  (∀ (mode3 : Bool) (addr : BitVec 32) (s : State),
    Answers (.write128 mode3 addr) s fun t =>
      State.Frame (regsOf .spi [0x020, 0x024, 0x044, 0x048] ++ regsOf .house [0x06C]) s t ∧
      State.SameRest { s with access := t.access, spi := t.spi, land := t.land } t) ∧
  (∀ (mode3 : Bool) (addr : BitVec 32) (full : Bool) (s : State),
    Answers (.read128 mode3 addr full) s fun t =>
      State.Frame (regsOf .spi [0x020, 0x024, 0x044, 0x048] ++ regsOf .house [0x06C]) s t ∧
      State.SameRest { s with access := t.access, spi := t.spi, land := t.land } t) ∧
  (∀ (mode3 full : Bool) (s : State),
    Answers (.status mode3 full) s fun t =>
      State.Frame (regsOf .spi [0x020, 0x024, 0x044, 0x048]) s t ∧ State.SameRest { s with spi := t.spi, land := t.land } t) ∧
  (∀ (data : BitVec 128) (s : State),
    Answers (.writeDataComplete data) s fun t =>
      State.Frame (regsOf .spi [0x020, 0x024, 0x044, 0x048] ++ regsOf .house [0x06C]) s t ∧
      State.SameRest { s with access := t.access, spi := t.spi } t) ∧
  (∀ (f : SpiFault) (mode3 : Bool) (s : State),
    Answers (.spiFrameFault f mode3) s fun t =>
      State.Frame (regsOf .spi [0x010, 0x020, 0x024, 0x044, 0x048]) s t ∧ State.SameRest { s with spi := t.spi, land := t.land } t) ∧
  (∀ (s : State),
    Answers (.spiStallTimeout) s fun t =>
      State.Frame (regsOf .spi [0x010, 0x020, 0x024]) s t ∧ State.SameRest { s with spi := t.spi } t) ∧
  (∀ (tScl tLow : BitVec 16) (s : State),
    Answers (.twtReadContinue tScl tLow) s fun t =>
      State.Frame (regsOf .twt [0x044] ++ regsOf .house [0x06C]) s t ∧ State.SameRest { s with access := t.access, twt := t.twt } t) ∧
  (∀ (b : Byte) (s : State),
    Answers (.twtDataByte b) s fun t =>
      State.Frame (regsOf .twt [0x044] ++ regsOf .house [0x06C]) s t ∧ State.SameRest { s with twt := t.twt } t) ∧
  (∀ (s : State),
    Answers (.twtBufferApply) s fun t =>
      State.Frame (regsOf .twt [0x044, 0x048, 0x04C]) s t ∧
      State.SameRest { s with access := t.access, twt := t.twt, land := t.land } t) ∧
  (∀ (whole : Bool) (s : State),
    Answers (.twtReadEnd whole) s fun t =>
      State.Frame (regsOf .twt [0x044, 0x048, 0x04C]) s t ∧ State.SameRest { s with twt := t.twt, land := t.land } t) ∧
  (∀ (s : State),
    Answers (.twtStartStopFault) s fun t =>
      State.Frame (regsOf .twt [0x020, 0x024, 0x044]) s t ∧ State.SameRest { s with twt := t.twt } t) ∧
  (∀ (k : TwtTmo) (s : State),
    Answers (.twtTimeout k) s fun t =>
      State.Frame (regsOf .twt [0x010, 0x044]) s t ∧ State.SameRest { s with twt := t.twt } t) ∧
  (∀ (s : State),
    Answers (.prompt) s fun t =>
      State.Frame (regsOf .twt [0x04C]) s t ∧ State.SameRest s t) ∧
  (∀ (mine : Bool) (s : State),
    Answers (.promptAbandon mine) s fun t =>
      State.Frame (regsOf .twt [0x04C]) s t ∧ State.SameRest s t) ∧
  (∀ (s : State),
    Answers (.arbitrationLost) s fun t =>
      State.Frame (regsOf .twc [0x010, 0x048, 0x04C]) s t ∧ State.SameRest { s with twc := t.twc } t) ∧
  (∀ (sda started : Bool) (s : State),
    Answers (.twcTimeout sda started) s fun t =>
      State.Frame (regsOf .twc [0x010, 0x048, 0x04C]) s t ∧ State.SameRest { s with twc := t.twc } t) ∧
  (∀ (fin : TwcEnd) (read : List Byte) (s : State),
    Answers (.twcTransactionEnd fin read) s fun t =>
      State.Frame (regsOf .twc [0x010, 0x048, 0x04C, 0x070, 0x074, 0x078, 0x07C, 0x080, 0x084, 0x088, 0x08C]) s t ∧
      State.SameRest { s with twc := t.twc } t) ∧
  (∀ (freed : Bool) (s : State),
    Answers (.busRecovery freed) s fun t =>
      State.Frame (regsOf .twc [0x010, 0x048, 0x04C]) s t ∧ State.SameRest { s with twc := t.twc } t) ∧
  (∀ (s : State),
    Answers (.vioLoss) s fun t =>
      State.Frame (regsOf .twt [0x044]) s t ∧ State.SameRest { s with spi := t.spi, twt := t.twt, land := t.land } t) ∧
  (∀ (s : State),
    Answers (.vioReturn) s fun t =>
      State.Frame [] s t ∧ State.SameRest { s with land := t.land, free := t.free } t) ∧
  (∀ (row : BitVec 10) (s : State),
    Answers (.eccInject row) s fun t =>
      State.Frame [] s t ∧ State.SameRest s t)

/-- Commands at an engine's queues leave the rest of the machine alone: PING, CTLE_SEARCH, EYE_SCAN, SWEEP, CHECKPOINT,
ENGINE_HEARTBEAT, FIRMWARE_NOTICE, ABORT_COMMAND, FLUSH (R294, R295, R297, R302). -/
def Obligations.EngineFrame : Prop :=
  (∀ (e : Eng) (s : State),
    Answers (.ping e) s fun t =>
      State.Frame (regsOf (ep e) [0x010, 0x060]) s t ∧ State.SameRest { s with free := t.free, engines := t.engines } t ∧
      (∀ d, d ≠ e → t.engRec d = s.engRec d)) ∧
  (∀ (e : Eng) (s : State),
    Answers (.ctleSearch e) s fun t =>
      State.Frame (regsOf (ep e) [0x010, 0x060]) s t ∧ State.SameRest { s with engines := t.engines } t ∧
      (∀ d, d ≠ e → t.engRec d = s.engRec d)) ∧
  (∀ (e : Eng) (s : State),
    Answers (.eyeScan e) s fun t =>
      State.Frame (regsOf (ep e) [0x010, 0x060]) s t ∧ State.SameRest { s with groups := t.groups, engines := t.engines } t ∧
      (∀ d, d ≠ e → t.engRec d = s.engRec d)) ∧
  (∀ (e : Eng) (s : State),
    Answers (.sweep e) s fun t =>
      State.Frame (regsOf (ep e) [0x010, 0x060]) s t ∧ State.SameRest { s with paths := t.paths, engines := t.engines } t ∧
      (∀ d, d ≠ e → t.engRec d = s.engRec d)) ∧
  (∀ (e : Eng) (size : BitVec 14) (s : State),
    Answers (.checkpoint e size) s fun t =>
      State.Frame (regsOf (ep e) [0x010, 0x060]) s t ∧ State.SameRest { s with engines := t.engines } t ∧
      (∀ d, d ≠ e → t.engRec d = s.engRec d)) ∧
  (∀ (e : Eng) (ckpt : Option (BitVec 14)) (s : State),
    Answers (.engineHeartbeat e ckpt) s fun t =>
      State.Frame [] s t ∧ State.SameRest { s with engines := t.engines } t ∧ (∀ d, d ≠ e → t.engRec d = s.engRec d)) ∧
  (∀ (e : Eng) (r0 r1 : Word) (s : State),
    Answers (.firmwareNotice e r0 r1) s fun t =>
      State.Frame (regsOf (ep e) [0x010, 0x0B0]) s t ∧ State.SameRest { s with engines := t.engines } t ∧
      (∀ d, d ≠ e → t.engRec d = s.engRec d)) ∧
  (∀ (e : Eng) (s : State),
    Answers (.abortCommand e) s fun t =>
      State.Frame (regsOf (ep e) [0x010, 0x060]) s t ∧
      State.SameRest { s with free := t.free, groups := t.groups, engines := t.engines } t ∧ (∀ d, d ≠ e → t.engRec d = s.engRec d)) ∧
  (∀ (e : Eng) (s : State),
    Answers (.flush e) s fun t =>
      State.Frame (regsOf (ep e) [0x010, 0x060]) s t ∧
      State.SameRest { s with free := t.free, groups := t.groups, engines := t.engines } t ∧ (∀ d, d ≠ e → t.engRec d = s.engRec d))

/-- Commands that store in the memory windows change no byte but those they store to: CAPTURE_END, FRAME_EXTRACT, FRAME_INSERT,
FRAME_DEADLINE_EXPIRY (R106, R230, R234, R236). -/
def Obligations.StoreFrame : Prop :=
  (∀ (p : Path) (data : List Byte) (oldest : BitVec 9) (s : State),
    Answers (.captureEnd p data oldest) s fun t =>
      State.FrameAt (regsOf (pp p) [0x010, 0x0E4]) (capBase (pathGrp p)) ((data.take (128 * s.capLen p)).length) s t ∧
      State.SameRest { s with paths := t.paths, groups := t.groups } t ∧ (∀ q, q ≠ p → t.path q = s.path q)) ∧
  (∀ (k : Port) (fr : RxFrame) (s : State),
    Answers (.frameExtract k fr) s fun t =>
      State.FrameAt (regsOf .frame [0x010, 0x020, 0x024, 0x09C + 64 * k.val, 0x0A8 + 64 * k.val]) (portBase k) (0x10000) s t ∧
      State.SameRest { s with free := t.free, paths := t.paths, ctrs := t.ctrs, ports := t.ports } t) ∧
  (∀ (k : Port) (run : BitVec 16) (x : Bool × Nat) (s : State), (s.port k).next = some x →
    Answers (.frameInsert k run) s fun t =>
      State.FrameAt (regsOf .frame [0x010, 0x098 + 64 * k.val, 0x0A4 + 64 * k.val]) (frameDesc k x) (32) s t ∧
      State.SameRest { s with free := t.free, paths := t.paths, ctrs := t.ctrs, ports := t.ports } t) ∧
  (∀ (k : Port) (run : BitVec 16) (s : State), (s.port k).next = none →
    Answers (.frameInsert k run) s fun t =>
      State.Frame [] s t ∧ State.SameRest { s with ctrs := t.ctrs } t) ∧
  (∀ (k : Port) (x : Bool × Nat) (s : State), (s.port k).next.or (s.portNext k) = some x →
    Answers (.frameDeadlineExpiry k) s fun t =>
      State.FrameAt (regsOf .frame [0x010, 0x098 + 64 * k.val, 0x0A4 + 64 * k.val]) (frameDesc k x) (32) s t ∧
      State.SameRest { s with ports := t.ports } t) ∧
  (∀ (k : Port) (s : State), (s.port k).next.or (s.portNext k) = none →
    Answers (.frameDeadlineExpiry k) s fun t =>
      State.Frame [] s t ∧ State.SameRest s t)

/-- Further effects of the commands of a migration and of the twin (R299, R300, R309, R311, R312, R314, R315, R317, R319, R320, R322,
R323). -/
def Obligations.MigrationAndTwinResults : Prop :=
  (∀ (c : Src) (g : Grp) (target : BitVec 4) (s : State),
    s.takes c (gp g) 0x280 (BitVec.ofNat 32 (2 ^ 9 + target.toNat)) 0x20F = true → s.migCause g target.toNat = none →
    Answers (.migrationGo c g target) s fun t =>
      t.migFrom g = s.owner g ∧ t.migTo g = target.toNat ∧ t.owner g = s.owner g) ∧
  (∀ (g : Grp) (s : State),
    s.mig g = 1 →
    Answers (.migrationSafePoint g) s fun t =>
      t.busyOf (gp g) = .migration ∧ t.owner g = s.owner g) ∧
  (∀ (g : Grp) (s : State),
    s.mig g = 2 →
    Answers (.migrationHandover g) s fun t =>
      t.owner g = s.migTo g ∧ t.epoch g = (s.epoch g + 1) % 65536 ∧
      t.f (gp g) GroupR.MIG_CNT_DONE = satNat (fldTop GroupR.MIG_CNT_DONE) (s.f (gp g) GroupR.MIG_CNT_DONE + 1)) ∧
  (∀ (s : State),
    s.on .twin TwinR.TWIN_CFG_EN = true → s.device = .ready →
    Answers (.twinLinkUp) s fun t =>
      t.f .twin TwinR.LINK_STAT_LANE_LOCK = 0xF) ∧
  (∀ (lanes : BitVec 4) (message : Bool) (s : State),
    s.linkUp = true →
    Answers (.twinLinkLost lanes message) s fun t =>
      t.f .twin TwinR.LINK_STAT_LANE_LOCK = lanes.toNat ∧ t.on .twin TwinR.TWIN_STAT_SYNCING = false ∧
      t.f .twin TwinR.LINK_CNT_LOSSES = satNat (fldTop TwinR.LINK_CNT_LOSSES) (s.f .twin TwinR.LINK_CNT_LOSSES + 1) ∧
      (t.f .twin TwinR.LINK_CNT_RESENDS = (if message then satNat (fldTop TwinR.LINK_CNT_RESENDS) (s.f .twin TwinR.LINK_CNT_RESENDS + 3) else s.f .twin TwinR.LINK_CNT_RESENDS)) ∧
      t.evt .twin 17 = true ∧ (s.tw = twPaired → t.tw = (if s.hbOk then twLinkDown else twAlone))) ∧
  (∀ (s : State),
    s.linkUp = true → s.tw = twPaired →
    Answers (.twinSendTimer 5) s fun t =>
      t.twin.sent = some (.crc s.mirCrc)) ∧
  (∀ (h : TwinHello) (resends : BitVec 2) (s : State),
    s.on .twin TwinR.TWIN_CFG_EN = true → s.linkUp = true → h.id = s.twinId →
    Answers (.hello h resends) s fun t =>
      t.tw = twConflict ∧ t.f .twin TwinR.PEER_SERIAL_LO_SERIAL = (h.serial.setWidth 32).toNat ∧
      t.on .twin TwinR.TWIN_STAT_PEER_TWIN_ID = h.id) ∧
  (∀ (h : TwinHello) (resends : BitVec 2) (s : State),
    s.on .twin TwinR.TWIN_CFG_EN = true → s.linkUp = true → h.id ≠ s.twinId →
    (s.tw = twSeeking ∨ s.tw = twLinkDown ∨ s.tw = twAlone) → s.hbOk = true →
    Answers (.hello h resends) s fun t =>
      t.role = s.roleFrom h ∧ t.evt .twin 1 = true ∧
      t.f .twin TwinR.LINK_CNT_RESENDS = satNat (fldTop TwinR.LINK_CNT_RESENDS) (s.f .twin TwinR.LINK_CNT_RESENDS + resends.toNat) ∧
      t.f .twin TwinR.TWIN_STAT_PEER_SD = h.sd.toNat) ∧
  (∀ (d21 d43 : BitVec 64) (s : State),
    s.follow = true → s.tw = twPaired → s.on .twin TwinR.TWIN_CFG_TIME_EN = true →
    Answers (.timeExchange d21 d43) s fun t =>
      t.f .twin TwinR.TT_DELAY_DELAY = satNat 0xFFFF (roundDiv (d21.toInt + d43.toInt) 2).toNat ∧
      t.on .twin TwinR.TT_STAT_LOCKED = decide ((d21.toInt - d43.toInt + s.sf .twin TwinR.TT_ASYM_ASYM).natAbs ≤ 2000)) ∧
  (∀ (p : Path) (meas held : Word) (st : BitVec 3) (s : State),
    s.tw = twPaired → s.verified p = true → st.toNat = pinPinned →
    Answers (.pinReport p meas held st) s fun t =>
      t.on (pp p) PathR.PIN_TWIN_VALID = true ∧ tabGet (fun _ => (0, 0, 0)) t.twin.pins p.val = (meas.toNat, st.toNat, held.toNat)) ∧
  (∀ (p : Path) (meas held : Word) (st : BitVec 3) (s : State),
    s.tw = twPaired → (s.verified p = false ∨ st.toNat ≠ pinPinned) →
    Answers (.pinReport p meas held st) s fun t =>
      t.on (pp p) PathR.PIN_TWIN_VALID = false ∧ tabGet (fun _ => (0, 0, 0)) t.twin.pins p.val = (meas.toNat, st.toNat, held.toNat)) ∧
  (∀ (p : Path) (cfg : TwinCfg) (s : State),
    s.tw = twPaired →
    Answers (.configReport p cfg) s fun t =>
      (s.oos (pathAB (laneOf p)) = true → t.rd (pageAddr .twin 0x068) = s.rd (pageAddr .twin 0x068) ∧ t.rd (pageAddr .twin 0x06C) = s.rd (pageAddr .twin 0x06C))) ∧
  (∀ (p : Path) (cfg : TwinCfg) (s : State),
    s.tw = twPaired → cfg.oos = false → s.oos p = false → s.oos (otherPath p) = false →
    (s.peerCfg (otherPath p)).any (fun o => !o.oos && s.cfgAgree (otherPath p) o) = true →
    Answers (.configReport p cfg) s fun t =>
      t.peerCfg p = some cfg ∧ t.lpBit 0x068 (laneOf p) = !s.cfgAgree p cfg) ∧
  (∀ (n : BitVec 10) (b : BitVec 15) (l : BitVec 9) (s : State),
    s.follow = true → s.tw = twPaired → n.toNat ≤ 503 →
    Answers (.mirrorOperation (.desc n b l)) s fun t =>
      t.f .twin TwinR.MIR_CNT_OPS = (s.f .twin TwinR.MIR_CNT_OPS + 1) % 65536) ∧
  (∀ (a : Word) (l : List Byte) (s : State),
    s.follow = true → s.tw = twPaired → l.length = 1 → mirrored a.toNat = true →
    Answers (.mirrorOperation (.write a l)) s fun t =>
      t.mget a.toNat = l.headD 0 ∧ (∀ x : Nat, x ≠ a.toNat → t.mget x = s.mget x)) ∧
  (∀ (w : Word) (s : State),
    s.tw = twPaired → s.on .twin TwinR.TWIN_STAT_SYNCING = false →
    Answers (.mirCrc w) s fun t =>
      t.on .twin TwinR.TWIN_STAT_SYNCING = decide (w ≠ s.mirCrc)) ∧
  (∀ (r : MirRange) (s : State),
    s.on .twin TwinR.TWIN_STAT_SYNCING = true → r.armed = [] →
    Answers (.bulkSyncDone r) s fun t =>
      t.f .twin TwinR.MIR_CNT_SYNCS = (s.f .twin TwinR.MIR_CNT_SYNCS + 1) % 65536 ∧ t.evt .twin 2 = true) ∧
  (∀ (s : State),
    s.hbOk = true →
    Answers (.hbLost) s fun t =>
      t.f .twin TwinR.LINK_CNT_HB_LOSSES = satNat (fldTop TwinR.LINK_CNT_HB_LOSSES) (s.f .twin TwinR.LINK_CNT_HB_LOSSES + 1) ∧
      t.evt .twin 16 = true ∧ (s.tw = twLinkDown ∧ s.linkUp = false → t.tw = twAlone)) ∧
  (∀ (s : State),
    s.on .twin TwinR.TWIN_CFG_EN = true → s.hbOk = false →
    Answers (.heartbeatPresent) s fun t =>
      (s.tw = twAlone ∧ s.linkUp = false → t.tw = twLinkDown)) ∧
  (∀ (s : State),
    s.tw = twAlone → s.follow = true → s.linkUp = false → s.hbOk = false →
    Answers (.promotionTimeout) s fun t =>
      t.f .twin TwinR.TWIN_STAT_ROLE_CHANGES = satNat (fldTop TwinR.TWIN_STAT_ROLE_CHANGES) (s.f .twin TwinR.TWIN_STAT_ROLE_CHANGES + 1) ∧
      t.evt .twin 0 = true ∧ t.on .twin TwinR.TT_STAT_LOCKED = false) ∧
  (∀ (s : State),
    s.follow = true → s.on .twin TwinR.TWIN_CFG_TIME_EN = true → s.f .time TimeR.TIME_CTL_SRC = 2 →
    s.on .time TimeR.TIME_STAT_HOLDOVER = false →
    Answers (.timeTransferLost) s fun t =>
      t.on .time TimeR.TIME_STAT_HOLDOVER = true ∧ t.evt .twin 5 = true) ∧
  (∀ (c : Src) (force : Bool) (s : State),
    s.takes c .twin 0x050 (BitVec.ofNat 32 (1 + 32 * b2n force)) allOnes = true → s.reqCause force = none →
    Answers (.req c force) s fun t =>
      (t.role = (if s.role = 1 then 2 else s.role))) ∧
  (∀ (c : Src) (force : Bool) (cause : Nat) (s : State),
    s.takes c .twin 0x050 (BitVec.ofNat 32 (1 + 32 * b2n force)) allOnes = true → s.reqCause force = some cause →
    Answers (.req c force) s fun t =>
      t.f .twin TwinR.SD_STAT_CAUSE = cause ∧ t.sdState = s.sdState ∧ t.role = s.role) ∧
  (∀ (c : Src) (s : State),
    s.takesF c .twin TwinR.SD_CTL_CONFIRM 1 = true → s.sdState = 1 →
    Answers (.confirm c) s fun t =>
      t.evt .twin 3 = true ∧ allPaths.all (fun p => !(t.path p).record) = true) ∧
  (∀ (c : Src) (s : State),
    s.takesF c .twin TwinR.SD_CTL_CANCEL 1 = true → s.sdState = 1 →
    Answers (.cancel c) s fun t =>
      t.role = s.role) ∧
  (∀ (c : Src) (s : State),
    s.takesF c .twin TwinR.SD_CTL_REENTER 1 = true → s.sdState = 2 →
    (s.tw = twAlone ∨ s.tw = twPaired ∧ s.f .twin TwinR.TWIN_STAT_PEER_SD = 0) →
    Answers (.reenter c) s fun t =>
      t.twin.reRun = []) ∧
  (∀ (c : Src) (s : State),
    s.takesF c .twin TwinR.SD_CTL_REPLACE 1 = true →
    Answers (.replace c) s fun t =>
      t.sdState = s.sdState ∧ t.role = s.role) ∧
  (∀ (c : Src) (p : Path) (s : State),
    s.takesF c .twin TwinR.SD_CTL_REPLACE 1 = true → s.method (pathAB (laneOf p)) ≠ 3 → s.sg p ≠ sgDisabled → s.oos p = false →
    s.oos (otherPath p) = false → allPaths.all (fun q => (q == p) != (s.path q).record) = true →
    Answers (.replace c) s fun t =>
      t.sg p = sgBreak ∧ t.f (pp p) PathR.TRN_STAT_LAST_CAUSE = 8) ∧
  (∀ (s : State),
    s.sdState = 3 → s.reenterBlock = none →
    Answers (.reentryComplete) s fun t =>
      t.evt .twin 4 = true) ∧
  (∀ (s : State),
    s.sdState = 3 →
    Answers (.reentryTimeout) s fun t =>
      t.f .twin TwinR.SD_STAT_CAUSE = 8 ∧ t.evt .twin 21 = true) ∧
  (∀ (c : Src) (v : Bool) (s : State),
    s.takesF c .twin TwinR.TWIN_CFG_EN (b2n v) = true → s.on .twin TwinR.TWIN_CFG_EN ≠ v →
    Answers (.twinCfgEnWrite c v) s fun t =>
      (t.tw = (if v then twSeeking else twOff)) ∧ (v = false → t.linkUp = false ∧ t.hbOk = false ∧ t.role = 0 ∧ t.sdState = 0))

/-- Further effects of the commands of the supplies and of the hold-up bank (R334, R335, R336, R338, R340, R341, R343, R349). -/
def Obligations.SupplyResults : Prop :=
  (∀ (b : Bool) (s : State),
    s.good b = false → s.device = .off →
    Answers (.inputGood b) s fun t =>
      t.f .supply SupplyR.SUP_STAT_SEL = b2n b ∧ t.f .supply SupplyR.RAIL_STAT_IN_WIN = 0x3F) ∧
  (∀ (b : Bool) (s : State),
    s.good b = false → s.device = .ready → s.sel = b2n (!b) → s.good (!b) = false →
    Answers (.inputGood b) s fun t =>
      t.good b = true ∧ t.on .supply (seenFld b) = true ∧ t.sel = b2n b ∧ t.evt .supply 0 = true) ∧
  (∀ (b : Bool) (s : State),
    s.good b = true → s.device = .ready →
    Answers (.inputLost b) s fun t =>
      t.evt .supply (16 + b2n b) = true ∧ t.f .supply (lossFld b) = satNat (fldTop (lossFld b)) (s.f .supply (lossFld b) + 1) ∧
      (s.sel = b2n b ∧ s.good (!b) = true → t.sel = b2n (!b) ∧ t.evt .supply 0 = true)) ∧
  (∀ (s : State),
    s.device = .ready → s.sel = 1 → s.good false = true → s.forceB = false →
    Answers (.returnDelayExpiry) s fun t =>
      t.f .supply SupplyR.SUP_CNT_SWITCHES = satNat (fldTop SupplyR.SUP_CNT_SWITCHES) (s.f .supply SupplyR.SUP_CNT_SWITCHES + 1) ∧
      t.evt .supply 0 = true) ∧
  (∀ (c : Src) (v : Bool) (s : State),
    s.takesF c .supply SupplyR.SUP_CTL_FORCE_B (b2n v) = true → s.forceB ≠ v →
    Answers (.forceBWrite c v) s fun t =>
      (v = true ∧ s.good true = true → t.sel = 1) ∧ (v = false ∧ s.good false = true → t.sel = 0)) ∧
  (∀ (r : Fin 6) (s : State),
    s.failable = true → (s.good false = true ∨ s.good true = true) →
    Answers (.railFault r) s fun t =>
      t.sel = 2 ∧ t.supply.rail = true ∧ (t.f .supply SupplyR.RAIL_STAT_IN_WIN).testBit r.val = false) ∧
  (∀ (dvc dvd : BitVec 24) (reached : Bool) (s : State),
    s.supply.testing = true → reached = true → dvc.toNat ≤ 300000 → 0 < dvc.toNat + dvd.toNat → s.rehState ≠ 1 →
    s.reh.toDark = false →
    Answers (.capacitanceTestEnd dvc dvd reached) s fun t =>
      t.f .supply SupplyR.HUP_CAP_CAP = satNat 0xFFFF (200000000 / (dvc.toNat + dvd.toNat)) ∧
      (t.f .supply SupplyR.HUP_CAP_RESULT = (if 3300 ≤ 200000000 / (dvc.toNat + dvd.toNat) ∧ 200000000 / (dvc.toNat + dvd.toNat) ≤ 10000 then 1 else 3)) ∧
      (t.f .supply SupplyR.HUP_CAP_RESULT = 3 → t.evt .supply 18 = true)) ∧
  (∀ (vina vinb pin hup : BitVec 16) (s : State),
    s.houseOn = true → s.supply.hupZero = false →
    Answers (.energyUpdate vina vinb pin hup) s fun t =>
      t.f .supply SupplyR.SUP_VIN_VINB = vinb.toNat ∧ t.f .supply SupplyR.SUP_PWR_P_IN = pin.toNat ∧
      (s.f .supply SupplyR.HUP_CFG_LOW_MJ ≤ s.eAvail ∧ t.eAvail < s.f .supply SupplyR.HUP_CFG_LOW_MJ → t.evt .supply 18 = true)) ∧
  (∀ (s : State),
    s.failable = true → s.good false = false → s.good true = false →
    Answers (.powerFailure) s fun t =>
      t.sel = 2 ∧ t.supply.rail = false ∧ t.flash.queue = []) ∧
  (∀ (hup : BitVec 16) (s : State),
    s.device = .failing → s.flash.run = none →
    Answers (.fallRecordWrite hup) s fun t =>
      t.f .supply SupplyR.RAIL_STAT_IN_WIN = 0 ∧ (t.supply.cause = (if s.supply.rail then 3 else 4))) ∧
  (∀ (b : Bool) (s : State),
    s.good b = false →
    Answers (.inputQualificationStart b) s fun t =>
      (b = false → t.on .supply SupplyR.SUP_STAT_RET_WAIT = true))

/-- Further effects of the commands of the flash (R347, R350, R351). -/
def Obligations.FlashResults : Prop :=
  (∀ (c : Src) (region : BitVec 4) (s : State),
    s.nvmTakes c 1 region = true → s.flashFree = true → 213 ≤ s.eAvail →
    Answers (.store c region) s fun t =>
      t.f .nvm NvmR.NVM_STAT_STATE = 3 ∧ t.f .nvm NvmR.NVM_STAT_LAST_OP = 1 ∧ t.on .nvm NvmR.NVM_ECHK_PASS = true) ∧
  (∀ (c : Src) (region : BitVec 4) (s : State),
    s.nvmTakes c 1 region = true → s.flashFree = true → s.eAvail < 68 →
    Answers (.store c region) s fun t =>
      t.flash.run = none ∧ t.f .nvm NvmR.NVM_STAT_STATE = 0 ∧ t.f .nvm NvmR.NVM_STAT_RESULT = 2 ∧
      t.on .nvm NvmR.NVM_ECHK_PASS = false ∧
      t.f .nvm NvmR.NVM_CNT_REFUSED = satNat (fldTop NvmR.NVM_CNT_REFUSED) (s.f .nvm NvmR.NVM_CNT_REFUSED + 1) ∧
      t.evt .nvm 16 = true) ∧
  (∀ (c : Src) (region : BitVec 4) (s : State),
    s.nvmTakes c 2 region = true → s.device = .ready → s.flash.run = none → s.flash.queue = [] →
    Answers (.read c region) s fun t =>
      t.f .nvm NvmR.NVM_STAT_STATE = 3 ∧ t.f .nvm NvmR.NVM_STAT_LAST_REGION = region.toNat) ∧
  (∀ (c : Src) (region : BitVec 4) (s : State),
    s.nvmTakes c 3 region = true → s.flashFree = true → 52 ≤ s.eAvail →
    Answers (.erase c region) s fun t =>
      t.f .nvm NvmR.NVM_STAT_STATE = 3 ∧ t.f .nvm NvmR.NVM_ECHK_E_REQ = 52) ∧
  (∀ (c : Src) (region : BitVec 4) (s : State),
    s.takes c .nvm 0x040 (BitVec.ofNat 32 (3 * 2 ^ 28 + region.toNat * 2 ^ 24)) allOnes = true → s.f .nvm NvmR.NVM_STAT_STATE = 0 →
    cmdArgsOk 3 region.toNat (s.f .nvm NvmR.NVM_ADDR_ADDR) (s.f .nvm NvmR.NVM_LEN_LEN) = false →
    Answers (.erase c region) s fun t =>
      t.f .nvm NvmR.NVM_STAT_STATE = 0 ∧ t.f .nvm NvmR.NVM_STAT_RESULT = 4 ∧ t.flash = s.flash) ∧
  (∀ (c : Src) (region : BitVec 4) (s : State),
    s.nvmTakes c 4 region = true → s.flashFree = true → 19 ≤ s.eAvail →
    Answers (.program c region) s fun t =>
      t.f .nvm NvmR.NVM_STAT_STATE = 3 ∧ t.f .nvm NvmR.NVM_ECHK_E_REQ = 19) ∧
  (∀ (ok : Bool) (r addr len : Nat) (rec0 : List Byte) (s : State),
    s.flash.run = some (.host 3 r addr len, rec0) → r ≤ 1 → addr < regionSize r → s.flash.queue = [] → s.rehState ≠ 1 →
    s.reh.toDark = false →
    Answers (.flashOperationEnd ok) s fun t =>
      t.f .nvm NvmR.NVM_STAT_STATE = 0 ∧ (t.f .nvm NvmR.NVM_STAT_RESULT = (if ok then 1 else 3)) ∧
      (ok = true → t.f .nvm NvmR.NVM_CNT_DONE = satNat (fldTop NvmR.NVM_CNT_DONE) (s.f .nvm NvmR.NVM_CNT_DONE + 1) ∧ t.evt .nvm 0 = true) ∧
      (ok = true → ∀ a : Nat, a / 4096 = (regionBase r + addr) / 4096 → t.flashGet a = 0xFF))

/-- Further effects of the commands of group power states and of DARK (R71, R361, R362, R364, R366, R370). -/
def Obligations.PowerStateResults : Prop :=
  (∀ (c : Src) (g : Grp) (s : State),
    s.takesF c (gp g) GroupR.PWR_CTL_REQ rqRun = true → s.overTemp g = false → s.busyOf (gp g) = .no →
    (s.pw g = pwInt ∨ s.pw g = pwOff) →
    Answers (.reqRun c g) s fun t =>
      t.f (gp g) GroupR.PWR_STAT_LAST_EXIT = 1 ∧ (t.grp g).target = rqRun) ∧
  (∀ (c : Src) (g : Grp) (s : State),
    s.takesF c (gp g) GroupR.PWR_CTL_REQ rqRun = true → s.overTemp g = false → s.busyOf (gp g) = .no → s.pwMoving g = true →
    Answers (.reqRun c g) s fun t =>
      t.pw g = s.pw g ∧ (t.grp g).pend = some (rqRun, 1, true) ∧
      ((s.grp g).pend.isSome = true → t.f (gp g) GroupR.PWR_CNT_REPLACED = satNat (fldTop GroupR.PWR_CNT_REPLACED) (s.f (gp g) GroupR.PWR_CNT_REPLACED + 1))) ∧
  (∀ (c : Src) (g : Grp) (s : State),
    s.takesF c (gp g) GroupR.PWR_CTL_REQ rqInt = true → s.overTemp g = false → s.busyOf (gp g) = .no → s.pw g = pwRun →
    Answers (.reqIntermission c g) s fun t =>
      t.f (gp g) GroupR.PWR_STAT_LAST_ENTRY = 1 ∧ (t.grp g).target = rqInt) ∧
  (∀ (c : Src) (g : Grp) (s : State),
    s.takesF c (gp g) GroupR.PWR_CTL_REQ rqOff = true → s.busyOf (gp g) = .no → (s.pw g = pwRun ∨ s.pw g = pwInt) →
    Answers (.reqOff c g) s fun t =>
      t.f (gp g) GroupR.PWR_STAT_LAST_ENTRY = 1 ∧ (t.grp g).target = rqOff) ∧
  (∀ (g : Grp) (s : State),
    s.pwMoving g = true → (s.grp g).pend = none → (s.grp g).target = rqOff → s.device = .ready →
    Answers (.transitionEnd g) s fun t =>
      (grpPaths g).all (fun p => !t.sd p) = true ∧ t.on (gp g) GroupR.PLL_STAT_A_LOCK = false ∧
      t.on (gp g) GroupR.PLL_STAT_B_LOCK = false ∧ ((s.grp g).byHost = true → t.evt .pstate 0 = true)) ∧
  (∀ (g : Grp) (s : State),
    s.pwMoving g = true → (s.grp g).pend = none → (s.grp g).target = rqInt → s.device = .ready → s.levelWake g = false →
    Answers (.transitionEnd g) s fun t =>
      t.pw g = pwInt ∧
      t.f (gp g) GroupR.PWR_CNT_ENTRIES = satNat (fldTop GroupR.PWR_CNT_ENTRIES) (s.f (gp g) GroupR.PWR_CNT_ENTRIES + 1) ∧
      t.evt (gp g) 2 = true) ∧
  (∀ (g : Grp) (s : State),
    s.pw g = pwRun → (s.grp g).pend = none → s.on (gp g) GroupR.PWR_CTL_AUTO_EN = true →
    s.on (gp g) GroupR.PWR_CTL_WAKE_HOLD = false → s.busyOf (gp g) = .no → s.grpIdle g = true → s.device = .ready →
    s.overTemp g = false →
    Answers (.idleTimerExpiry g) s fun t =>
      t.f (gp g) GroupR.PWR_STAT_LAST_ENTRY = 2) ∧
  (∀ (c : Src) (g : Grp) (s : State),
    s.takesF c (gp g) GroupR.PWR_CTL_WAKE_NOW 1 = true → s.pw g = pwInt → s.busyOf (gp g) = .no →
    Answers (.wakeNow c g) s fun t =>
      t.f (gp g) GroupR.PWR_STAT_LAST_EXIT = 4 ∧ t.evt (gp g) 3 = true ∧ t.evt .pstate 1 = true) ∧
  (∀ (c : Src) (s : State),
    s.takes c .pstate 0x040 0xDA01 allOnes = true →
    Answers (.dark c 0xDA) s fun t =>
      allGroups.all (fun g => (t.grp g).pend == none) = true ∧ (s.flash.queue = [] → t.flash.queue = [])) ∧
  (∀ (s : State),
    s.device = .enteringDark → allGroups.all (fun g => s.pw g == pwOff) = true → s.flash.run = none → s.flash.queue = [] →
    Answers (.darkReached) s fun t =>
      t.f .supply SupplyR.RAIL_STAT_IN_WIN = 1 ∧ t.access = [] ∧ t.on .time TimeR.REF_STAT_REF0_OK = false ∧
      t.on .time TimeR.REF_STAT_REF1_OK = false) ∧
  (∀ (porst : Bool) (s : State),
    s.device = .dark →
    Answers (.darkWake porst) s fun t =>
      (t.f .house HouseR.RESET_CAUSE_FULL_CAUSE = (if porst then 2 else 5)) ∧
      (porst = false → t.on .pstate PstateR.DEV_STAT_FROM_DARK = true ∧ t.f .pstate PstateR.DEV_STAT_DARK_EXITS = satNat (fldTop PstateR.DEV_STAT_DARK_EXITS) (s.f .pstate PstateR.DEV_STAT_DARK_EXITS + 1)) ∧
      t.f .supply SupplyR.RAIL_STAT_IN_WIN = 0x3F)

/-- Further effects of the commands of the sensors and of calibration (R376, R380, R383, R384, R386, R389). -/
def Obligations.CalibrationResults : Prop :=
  (∀ (diff : BitVec 16) (s : State),
    Answers (.bandgapCompare diff) s fun t =>
      t.f .cal CalR.BG_MON_MAX = max diff.toInt.natAbs (s.f .cal CalR.BG_MON_MAX) ∧
      (300 < diff.toInt.natAbs → t.on .cal CalR.CAL_STAT_SUSPENDED = true ∧ t.evt .cal 17 = true)) ∧
  (∀ (i : Fin 9) (reading : BitVec 12) (twin : List (BitVec 3 × Byte × BitVec 16)) (s : State),
    reading.toInt < 8 * (s.f .therm ThermR.OT_CFG_OT_THR : Int) →
    Answers (.sensorMean i reading twin) s fun t =>
      t.sf .therm (ThermR.THERM_T_MAX i.val) = max reading.toInt (s.sf .therm (ThermR.THERM_T_MAX i.val)) ∧
      ((8 * s.f .therm ThermR.OT_CFG_WARN_THR : Int) ≤ reading.toInt → t.evt .therm 17 = true) ∧
      (reading.toInt < 8 * ((s.f .therm ThermR.OT_CFG_OT_THR : Int) - (s.f .therm ThermR.OT_CFG_HYST : Int)) → (t.rd (pageAddr .therm ThermR.THERM_STAT_OVER.off)).getLsbD (ThermR.THERM_STAT_OVER.lo + i.val) = false)) ∧
  (∀ (i : Fin 9) (reading : BitVec 12) (twin : List (BitVec 3 × Byte × BitVec 16)) (s : State),
    8 * (s.f .therm ThermR.OT_CFG_OT_THR : Int) ≤ reading.toInt → tabGet (fun _ => 0) s.cal.hot i.val = 1 → s.rehOn = false →
    Answers (.sensorMean i reading twin) s fun t =>
      t.f .therm (ThermR.THERM_T_NOW i.val) = reading.toNat ∧
      (t.rd (pageAddr .therm ThermR.THERM_STAT_OVER.off)).getLsbD (ThermR.THERM_STAT_OVER.lo + i.val) = true ∧
      t.evt .therm 16 = true) ∧
  (∀ (c : Src) (g : Grp) (s : State),
    s.takesF c (gp g) GroupR.CAL_CMD_RUN 1 = true → s.calBlocked g = false → s.calOn g = false → s.calBlocks g ≠ 0 →
    Answers (.calCmdRun c g) s fun t =>
      t.f (gp g) GroupR.CAL_STAT_LAST_TRIG = 2 ∧ t.f (gp g) GroupR.CAL_STAT_BLOCK = lowBlock (s.calBlocks g) ∧
      t.f (gp g) GroupR.CAL_TEMP_RUN_T = s.f .therm (ThermR.THERM_T_NOW g.val)) ∧
  (∀ (c : Src) (g : Grp) (s : State),
    s.takesF c (gp g) GroupR.CAL_CMD_RUN 1 = true → (s.calBlocked g = true ∨ s.calOn g = true) →
    Answers (.calCmdRun c g) s fun t =>
      t.f (gp g) GroupR.CAL_STAT_LAST_TRIG = 2 ∧ t.on (gp g) GroupR.CAL_STAT_TRIG_PEND = true ∧
      (t.calRec g).pend = joinPend (s.calRec g).pend 2 (s.on (gp g) GroupR.CAL_CTL_RAMP) (s.calBlocks g) ∧
      t.calState g = s.calState g) ∧
  (∀ (g : Grp) (s : State),
    s.f (gp g) GroupR.CAL_CTL_PERIOD ≠ 0 → s.calBlocked g = false → s.calOn g = false → s.calBlocks g ≠ 0 →
    Answers (.calPeriodExpiry g) s fun t =>
      t.f (gp g) GroupR.CAL_STAT_LAST_TRIG = 4) ∧
  (∀ (g : Grp) (k m : Nat) (r : Bool) (s : State),
    (s.calRec g).pend = some (k, r, m) → s.calBlocked g = false → s.calOn g = false → m % 64 ≠ 0 →
    Answers (.pendingRunStart g) s fun t =>
      (t.calRec g).pend = none ∧ t.on (gp g) GroupR.CAL_STAT_TRIG_PEND = false ∧ (t.calRec g).trig = k ∧ (t.calRec g).ramp = r) ∧
  (∀ (g : Grp) (l : List CalRes) (s : State),
    s.calState g = 1 → lowBlock (s.calRec g).mask < 6 → lowBlock ((s.calRec g).mask - 2 ^ lowBlock (s.calRec g).mask) < 6 →
    Answers (.calBlockEnd g l) s fun t =>
      t.calState g = 1) ∧
  (∀ (g : Grp) (l : List CalRes) (s : State),
    s.calState g = 1 → (s.calRec g).mask = 2 ^ lowBlock (s.calRec g).mask → lowBlock (s.calRec g).mask < 6 →
    (s.calRec g).ramp = false → (grpPaths g).all (fun p => (s.ramp p).isEmpty) = true →
    Answers (.calBlockEnd g l) s fun t =>
      t.calState g = 0 ∧ t.f (gp g) GroupR.CAL_CNT_RUNS = satNat (fldTop GroupR.CAL_CNT_RUNS) (s.f (gp g) GroupR.CAL_CNT_RUNS + 1) ∧
      t.evt (gp g) 4 = true ∧ t.evt .cal 0 = true) ∧
  (∀ (c : Src) (p : Path) (s : State),
    s.takesF c (gp (pathGrp p)) GroupR.CAL_CMD_APPLY 1 = true →
    Answers (.apply c (pathGrp p)) s fun t =>
      t.trim p = (s.pend p).foldl (fun t e => setBlock e.1 e.2 t) (s.trim p)) ∧
  (∀ (c : Src) (g : Grp) (s : State),
    s.takesF c (gp g) GroupR.CAL_CMD_ABORT 1 = true → s.calOn g = true →
    Answers (.calAbort c g) s fun t =>
      (t.calRec g).pend = (s.calRec g).pend ∧ (grpPaths g).all (fun p => (t.ramp p).isEmpty) = true) ∧
  (∀ (c : Src) (p : Path) (skew : Bool) (paths : BitVec 16) (s : State),
    s.takes c (gp (pathGrp p)) 0x1A0 (BitVec.ofNat 32 (b2n skew * 2 ^ 16 + paths.toNat)) allOnes = true →
    paths.getLsbD (pathIdx p) = true → s.f (pp p) PathR.SWING_STAT_AVAIL = 0 → s.grpDown (pathGrp p) = false →
    Answers (.disruptiveRun c (pathGrp p) skew paths) s fun t =>
      t.on (gp (pathGrp p)) GroupR.CAL_DISRUPT_SKEW = skew) ∧
  (∀ (p : Path) (l : List SliceRes) (s : State),
    (s.path p).disrupt = true →
    Answers (.disruptiveWindowEnd p l) s fun t =>
      (t.rd (pageAddr (gp (pathGrp p)) 0x1A4)).getLsbD (16 + pathIdx p) = true)

/-- Further effects of the commands of rehearsal and of the repair fuses (R397, R398, R400, R403, R406, R413). -/
def Obligations.RehearsalAndFuseResults : Prop :=
  (∀ (c : Src) (force : Bool) (s : State),
    s.rehTakes c 1 0 force = true →
    Answers (.curtain c force) s fun t =>
      t.reh.opened = true ∧ t.rehScope = 1 ∧ t.reh.startAt = s.elapsed) ∧
  (∀ (c : Src) (target : BitVec 4) (force : Bool) (s : State),
    s.rehTakes c 2 target.toNat force = true →
    Answers (.group c target force) s fun t =>
      t.reh.opened = true ∧ t.rehScope = 2 ∧ t.rehTarget = target.toNat ∧ t.busyOf (gp (grpAt target.toNat)) = .rehearsal) ∧
  (∀ (c : Src) (target : BitVec 4) (force : Bool) (cause : Nat) (s : State),
    s.takes c .reh 0x040 (BitVec.ofNat 32 (2 * 2 ^ 28 + target.toNat * 2 ^ 8 + 2 * b2n force)) allOnes = true →
    s.rehCause 2 target.toNat force = some cause →
    Answers (.group c target force) s fun t =>
      t.f .reh RehR.REH_STAT_CAUSE = cause ∧ t.rehState = s.rehState ∧ t.busy = s.busy ∧ t.flash = s.flash) ∧
  (∀ (c : Src) (target : BitVec 4) (s : State),
    s.rehTakes c 3 target.toNat false = true →
    Answers (.engine c target) s fun t =>
      t.reh.opened = true ∧ t.rehScope = 3 ∧ t.rehTarget = target.toNat) ∧
  (∀ (c : Src) (s : State),
    s.takes c .reh 0x040 (BitVec.ofNat 32 (4 * 2 ^ 28)) allOnes = true → s.rehRuns = true →
    Answers (.rehAbort c) s fun t =>
      t.rehState = 3 ∨ t.rehState = 0) ∧
  (∀ (c : Src) (s : State),
    s.takes c .reh 0x040 (BitVec.ofNat 32 (5 * 2 ^ 28)) allOnes = true → s.rehState = 0 → s.fuseSession 0 ≠ [] →
    s.flashFree = true → 105 ≤ s.eAvail →
    Answers (.fuse c) s fun t =>
      t.reh.burning = s.fuseSession 0 ∧ t.flash.run = some (.fuseSession, [])) ∧
  (∀ (l : List Byte) (s : State),
    s.flash.run = some (.fuseSession, l) → s.rehState = 4 → s.reh.toDark = false →
    Answers (.fuseSessionEnd []) s fun t =>
      (t.reh.soft = ((List.range s.reh.soft.length).zip s.reh.soft).map (fun e => if s.reh.burning.contains e.1 then { e.2 with fused := true } else e.2))) ∧
  (∀ (u : Option Grp) (k : Fin 16) (r : RehRes) (s : State),
    s.rehOn = true → s.rehUnits.contains u = true → s.rehNext u = some k.val → u.any (fun g => s.pw g != pwRun) = false →
    r.fails = [] →
    Answers (.rehTestEnd u k r) s fun t =>
      t.rehState = 2) ∧
  (∀ (s : State),
    s.rehOn = true → s.rehAllDone = true → s.rehScope ≠ 1 →
    Answers (.rehRunClose) s fun t =>
      t.rehState = 3 ∨ t.rehState = 0 ∧ (t.evt .reh (if rehOverall (s.rehUnits.flatMap s.rehResults) ≤ 2 then 0 else 16) = true))

/-- Further effects of the commands of the SPI target (R420, R422, R423, R426). -/
def Obligations.SpiResults : Prop :=
  (∀ (mode3 : Bool) (addr : BitVec 32) (s : State),
    s.spiTakes .write32 addr = true →
    Answers (.write32 mode3 addr) s fun t =>
      t.spi.out = [statusByte 1 s.spiHead s.spi.ret.length] ∧
      t.f .spi SpiR.SPI_CNT_FRAMES = satNat 0xFFFF (s.f .spi SpiR.SPI_CNT_FRAMES + 1) ∧ t.on .spi SpiR.SPI_STAT_MODE = mode3 ∧
      t.access = s.access) ∧
  (∀ (mode3 : Bool) (addr : BitVec 32) (s : State),
    s.spiTakes .write128 addr = true →
    Answers (.write128 mode3 addr) s fun t =>
      t.spi.out = [statusByte 1 s.spiHead s.spi.ret.length] ∧
      t.f .spi SpiR.SPI_CNT_FRAMES = satNat 0xFFFF (s.f .spi SpiR.SPI_CNT_FRAMES + 1) ∧ t.on .spi SpiR.SPI_STAT_MODE = mode3 ∧
      t.access = s.access) ∧
  (∀ (mode3 : Bool) (addr : BitVec 32) (s : State),
    s.spiHears = true → s.spi.open_ = none →
    (s.refuses { src := .spi, kind := .write32, addr := addr, cost := opCost .write32 addr.toNat } = true ∨ s.admits s.admQ (opCost .write32 addr.toNat) = false) →
    Answers (.write32 mode3 addr) s fun t =>
      t.spi.open_ = none ∧ t.access = s.access ∧ t.spi.out = [statusByte 2 s.spiHead s.spi.ret.length]) ∧
  (∀ (mode3 : Bool) (addr : BitVec 32) (full : Bool) (s : State),
    s.spiTakes .read32 addr = true → s.spi.ret.length < 4 →
    Answers (.read32 mode3 addr full) s fun t =>
      (t.spi.ret = (if full && (s.spiHead == 1 || s.spiHead == 3) then s.spi.ret.drop 1 else s.spi.ret) ++ [⟨addr, false, none⟩]) ∧
      t.f .spi SpiR.SPI_CNT_FRAMES = satNat 0xFFFF (s.f .spi SpiR.SPI_CNT_FRAMES + 1)) ∧
  (∀ (mode3 : Bool) (addr : BitVec 32) (full : Bool) (s : State),
    s.spiTakes .read128 addr = true → s.spi.ret.length < 4 →
    Answers (.read128 mode3 addr full) s fun t =>
      (t.spi.ret = (if full && (s.spiHead == 1 || s.spiHead == 3) then s.spi.ret.drop 1 else s.spi.ret) ++ [⟨addr, true, none⟩]) ∧
      t.f .spi SpiR.SPI_CNT_FRAMES = satNat 0xFFFF (s.f .spi SpiR.SPI_CNT_FRAMES + 1)) ∧
  (∀ (mode3 full : Bool) (r : SpiRet) (l : List SpiRet) (s : State),
    s.spiHears = true → s.spi.ret = r :: l → (s.spiHead = 1 ∨ s.spiHead = 3) →
    Answers (.status mode3 full) s fun t =>
      (t.spi.ret = (if full then l else r :: l))) ∧
  (∀ (data : BitVec 128) (x : Access) (s : State),
    s.spi.open_ = some x →
    Answers (.writeDataComplete data) s fun t =>
      t.access = s.access ++ [{ x with data := data, cost := joinCost { x with data := data } }]) ∧
  (∀ (mode3 : Bool) (s : State),
    s.spiHears = true → s.spi.open_ = none →
    Answers (.spiFrameFault .opcode mode3) s fun t =>
      t.spi.out = [statusByte 3 s.spiHead s.spi.ret.length] ∧ t.spi.open_ = none) ∧
  (∀ (mode3 : Bool) (s : State),
    s.spiHears = true → s.spi.open_ ≠ none →
    Answers (.spiFrameFault .shortWrite mode3) s fun t =>
      t.f .spi Hdr.VIOL_1_PROTOCOL = satNat 0xFFFF (s.f .spi Hdr.VIOL_1_PROTOCOL + 1) ∧ t.spi.open_ = none ∧ t.access = s.access) ∧
  (∀ (s : State),
    s.spi.open_ ≠ none →
    Answers (.spiStallTimeout) s fun t =>
      t.spi.open_ = none ∧ t.evt .spi 17 = true ∧ t.access = s.access)

/-- Further effects of the commands of both two-wire ports and of VIO (R65, R428, R429, R430, R431, R432, R433, R435, R436, R437, R438,
R440). -/
def Obligations.TwoWireResults : Prop :=
  (∀ (p : BitVec 16) (s : State),
    s.twtHears = true → s.twt.deaf = false → s.twt.xfer = .none → s.access = [] →
    Answers (.twtPointerSet p) s fun t =>
      t.twtPtr = p.toNat ∧ t.on .twt TwtR.TWT_STAT_OPEN = true ∧ t.twt.buf = [] ∧
      t.twt.window = BitVec.ofNat 16 (s.f .house HouseR.TWT_WINDOW_WINDOW)) ∧
  (∀ (tScl tLow : BitVec 16) (s : State),
    s.twtStart.2 = true → (s.twtStart.1.twtOffer (s.twtStart.1.twtLead tScl.toNat tLow.toNat)).2 = true →
    Answers (.twtAddressRead tScl tLow) s fun t =>
      t.twt.regs = 0 ∧ t.twt.mute = false ∧ t.on .twt TwtR.TWT_STAT_OPEN = true ∧ t.access.length = s.twtStart.1.access.length + 1) ∧
  (∀ (tScl tLow : BitVec 16) (s : State),
    s.twt.xfer = .read → s.twt.mute = false →
    Answers (.twtReadContinue tScl tLow) s fun t =>
      t.twtPtr = (s.twtPtr / 4 * 4 + 4) % 65536 ∧ t.access.length = s.access.length + b2n (!t.twt.mute)) ∧
  (∀ (b : Byte) (s : State),
    s.twt.xfer = .write → s.twt.seen = true →
    s.admits (s.admQ - bufCost s.twt.window.toNat s.twt.base s.twt.buf) (bufCost s.twt.window.toNat s.twt.base (s.twt.buf.filter (fun e => e.1 != s.twt.next) ++ [(s.twt.next, b)])) = true →
    s.bufRefused s.twt.window.toNat s.twt.base (s.twt.buf.filter (fun e => e.1 != s.twt.next) ++ [(s.twt.next, b)]) = false →
    Answers (.twtDataByte b) s fun t =>
      t.twt.last = s.twt.next ∧ t.twt.next = (s.twt.next + 1) % 64) ∧
  (∀ (s : State),
    s.twt.xfer = .write → s.twt.buf ≠ [] →
    Answers (.twtBufferApply) s fun t =>
      t.access.length = s.access.length + (bufWrites s.twt.window.toNat s.twt.base s.twt.buf).length ∧
      t.twtPtr = (s.twt.base + (s.twt.last + 1) % 64) % 65536 ∧
      t.f .twt TwtR.TWT_CNT_TRANSFERS = satNat 0xFFFF (s.f .twt TwtR.TWT_CNT_TRANSFERS + 1) ∧ t.on .twt TwtR.TWT_STAT_OPEN = false) ∧
  (∀ (s : State),
    s.twtHears = true → s.twt.deaf = false → s.twt.xfer ≠ .read →
    Answers (.twtStartStopFault) s fun t =>
      t.twt.buf = [] ∧ t.f .twt Hdr.VIOL_1_PROTOCOL = satNat 0xFFFF (s.f .twt Hdr.VIOL_1_PROTOCOL + 1) ∧ t.access = s.access) ∧
  (∀ (k : TwtTmo) (s : State),
    s.twtHears = true → s.twt.xfer ≠ .none →
    Answers (.twtTimeout k) s fun t =>
      t.twt.buf = [] ∧ (t.evt .twt (match k with | .scl => 16 | .sda => 17 | .stall => 18) = true) ∧ t.access = s.access) ∧
  (∀ (s : State),
    s.promptDue = true →
    Answers (.prompt) s fun t =>
      t.f .twt TwtR.TWT_CNT_PROMPTS = satNat 0xFF (s.f .twt TwtR.TWT_CNT_PROMPTS + 1)) ∧
  (∀ (mine : Bool) (s : State),
    s.promptDue = true →
    Answers (.promptAbandon mine) s fun t =>
      t.f .twt TwtR.TWT_CNT_ABANDONED = satNat 0xFF (s.f .twt TwtR.TWT_CNT_ABANDONED + 1)) ∧
  (∀ (c : Src) (addr : BitVec 7) (rlen wlen : BitVec 6) (s : State),
    s.takes c .twc 0x044 (BitVec.ofNat 32 (2 ^ 28 + addr.toNat * 2 ^ 16 + rlen.toNat * 256 + wlen.toNat)) allOnes = true →
    s.on .twc TwcR.TWC_CFG_EN = true → s.twcOn = false → s.twc.stuck = false → rlen.toNat ≤ 32 → wlen.toNat ≤ 32 →
    Answers (.twcGo c addr rlen wlen) s fun t =>
      t.twc.rlen = rlen.toNat ∧ t.twc.wbuf.length = wlen.toNat ∧ t.twc.abort = false) ∧
  (∀ (c : Src) (s : State),
    s.takesF c .twc TwcR.TWC_CMD_OP 2 = true → s.twcOn = true →
    Answers (.twcAbort c) s fun t =>
      t.twcOn = true) ∧
  (∀ (s : State),
    s.land.vio = true → s.twcOn = true → s.twc.abort = false → s.twc.retries < s.f .twc TwcR.TWC_CFG_RETRIES →
    Answers (.arbitrationLost) s fun t =>
      t.twcOn = true ∧ t.f .twc TwcR.TWC_CNT_ARB = satNat 0xFF (s.f .twc TwcR.TWC_CNT_ARB + 1)) ∧
  (∀ (s : State),
    s.land.vio = true → s.twcOn = true → s.twc.abort = false → s.f .twc TwcR.TWC_CFG_RETRIES ≤ s.twc.retries →
    Answers (.arbitrationLost) s fun t =>
      t.twcOn = false ∧ t.f .twc TwcR.TWC_STAT_RESULT = 4 ∧ t.evt .twc 17 = true ∧
      t.f .twc TwcR.TWC_STAT_ATTEMPTS = satNat 15 (s.twc.retries + 1)) ∧
  (∀ (sda started : Bool) (s : State),
    s.land.vio = true → s.twcOn = true →
    Answers (.twcTimeout sda started) s fun t =>
      t.f .twc TwcR.TWC_STAT_RESULT = 6 ∧ t.evt .twc 19 = true ∧
      (t.on .twc (if sda then TwcR.TWC_STAT_SDA_TMO else TwcR.TWC_STAT_SCL_TMO) = true)) ∧
  (∀ (read : List Byte) (s : State),
    s.land.vio = true → s.twcOn = true → s.twc.abort = false →
    Answers (.twcTransactionEnd .done read) s fun t =>
      t.f .twc TwcR.TWC_STAT_RESULT = 1 ∧ t.evt .twc 0 = true ∧
      t.f .twc TwcR.TWC_CNT_DONE = satNat 0xFFFF (s.f .twc TwcR.TWC_CNT_DONE + 1) ∧
      t.f .twc TwcR.TWC_STAT_RD_DONE = min (min s.twc.rlen 32) read.length) ∧
  (∀ (i : BitVec 6) (read : List Byte) (s : State),
    s.land.vio = true → s.twcOn = true → s.twc.abort = false →
    Answers (.twcTransactionEnd (.nackData i) read) s fun t =>
      t.twcOn = false ∧ t.f .twc TwcR.TWC_STAT_RESULT = 3 ∧ t.f .twc TwcR.TWC_STAT_NACK_INDEX = i.toNat ∧ t.evt .twc 16 = true) ∧
  (∀ (freed : Bool) (s : State),
    s.land.vio = true → s.twc.check = true → s.twcOn = false →
    Answers (.busRecovery freed) s fun t =>
      t.f .twc TwcR.TWC_STAT_STATE = 0 ∧ (t.twc.stuck = (if freed then s.twc.stuck else true)) ∧
      (freed = false → t.f .twc TwcR.TWC_STAT_RESULT = 5 ∧ t.evt .twc 18 = true ∧ t.f .twc TwcR.TWC_CNT_STUCK = satNat 0xFF (s.f .twc TwcR.TWC_CNT_STUCK + 1))) ∧
  (∀ (s : State),
    Answers (.vioLoss) s fun t =>
      t.spi.open_ = none ∧ t.twt.xfer = .none ∧ t.access = s.access ∧ t.spiHears = false ∧ t.twtHears = false) ∧
  (∀ (s : State),
    s.land.vio = false →
    Answers (.vioReturn) s fun t =>
      t.land.twtArmed = false ∧ t.land.spiArmed = s.draw.1.getLsbD 0) ∧
  (∀ (whole : Bool) (s : State),
    s.twt.xfer = .read →
    Answers (.twtReadEnd whole) s fun t =>
      t.f .twt TwtR.TWT_LAST_RD_REGS = (s.twt.regs + b2n (whole && !s.twt.mute)) % 65536 ∧ t.on .twt TwtR.TWT_STAT_OPEN = false)

/-- Further effects of the commands of events, of injection, of resets and of start-up (R9, R67, R70, R343, R447, R454, R455, R456,
R457, R460, R462, R467). -/
def Obligations.EventAndResetResults : Prop :=
  (∀ (c : Src) (p : Page) (bits : Word) (s : State),
    s.takes c p 0x01C bits allOnes = true → s.busyOf p ≠ .rehearsal → s.on .house HouseR.INJ_CTL_ARM = false →
    (onesBelow 32 bits).all (fun k => !(detectors p).contains k) = true →
    Answers (.eventInject c p bits) s fun t =>
      t.rd (pageAddr p 0x010) = s.rd (pageAddr p 0x010) ∧
      t.f .house HouseR.INJ_CNT_INJECTIONS = s.f .house HouseR.INJ_CNT_INJECTIONS) ∧
  (∀ (c : Src) (p : Page) (kinds : BitVec 4) (s : State),
    s.takes c p 0x028 (kinds.setWidth 32) allOnes = true → kinds = 9 →
    Answers (.violationInject c p kinds) s fun t =>
      t.f p Hdr.VIOL_1_CONSISTENCY = satNat 0xFFFF (s.f p Hdr.VIOL_1_CONSISTENCY + 1) ∧
      t.f p Hdr.VIOL_0_TIMING = s.f p Hdr.VIOL_0_TIMING ∧ t.f p Hdr.VIOL_1_PROTOCOL = s.f p Hdr.VIOL_1_PROTOCOL) ∧
  (∀ (c : Src) (sensor : BitVec 4) (s : State),
    s.takes c .house 0x0B8 (BitVec.ofNat 32 (0xA5 * 2 ^ 24 + sensor.toNat * 2 ^ 16 + 1)) allOnes = true → sensor.toNat ≤ 8 →
    Answers (.injArm c 0xA5 sensor true) s fun t =>
      t.f .house HouseR.INJ_CTL_SENSOR = sensor.toNat) ∧
  (∀ (row : BitVec 10) (s : State),
    s.on .house HouseR.ECC_INJ_ARM = true →
    Answers (.eccInject row) s fun t =>
      tabGet (fun _ => 0) t.ecc (1024 * s.f .house HouseR.ECC_INJ_MACRO + row.toNat) = 256 * s.f .house HouseR.ECC_INJ_NBITS + s.f .house HouseR.ECC_INJ_COLUMN) ∧
  (∀ (c : Src) (code : BitVec 16) (s : State),
    s.takes c .house 0x0C0 (BitVec.ofNat 32 (2 ^ 31 + code.toNat)) allOnes = true →
    Answers (.softEvent c code) s fun t =>
      t.f .house HouseR.SOFT_EVT_CODE = code.toNat) ∧
  (∀ (mac row : BitVec 10) (reader : EccReader) (s : State),
    s.houseOn = true → mac.toNat < 512 →
    Answers (.sramEccError mac row true reader) s fun t =>
      t.f .house HouseR.ECC_LAST_MACRO = mac.toNat ∧ t.f .house HouseR.ECC_LAST_ROW = row.toNat ∧
      t.on .house HouseR.ECC_LAST_UNC = true ∧
      (match reader with | .path p => t.ctr p ctrEcc = satNat (ctrTop ctrEcc) (s.ctr p ctrEcc + 1) | .engine e => s.eng e = egRunning → t.f (ep e) StageR.ENG_STAT_FAULT_CAUSE = 2 | .checker => t.f .house HouseR.ECC_CNT_UNCORR = satNat 0xFFFF (s.f .house HouseR.ECC_CNT_UNCORR + 1))) ∧
  (∀ (mac row : BitVec 10) (reader : EccReader) (s : State),
    s.houseOn = true →
    Answers (.sramEccError mac row false reader) s fun t =>
      t.evt .house 1 = true ∧ t.f .house HouseR.ECC_CNT_CORR = satNat 0xFFFF (s.f .house HouseR.ECC_CNT_CORR + 1) ∧
      tabGet (fun _ => 0) t.ecc (1024 * mac.toNat + row.toNat) = 0) ∧
  (∀ (c : Src) (p : Path) (s : State),
    s.takes c .house 0x100 (BitVec.ofNat 32 (2 ^ 8 + p.val)) allOnes = true → s.rstState = 0 → s.busyOf (pp p) = .no →
    Answers (.pathReset c p) s fun t =>
      t.f .house HouseR.RESET_STAT_LAST_OP = 1 ∧ t.f .house HouseR.RESET_STAT_LAST_TARGET = p.val ∧
      t.f .house HouseR.RESET_CNT_PATH_RESETS = satNat (fldTop HouseR.RESET_CNT_PATH_RESETS) (s.f .house HouseR.RESET_CNT_PATH_RESETS + 1)) ∧
  (∀ (c : Src) (p : Path) (s : State),
    s.takes c .house 0x100 (BitVec.ofNat 32 (2 ^ 8 + p.val)) allOnes = true → s.rstState = 0 → s.busyOf (pp p) ≠ .no →
    Answers (.pathReset c p) s fun t =>
      t.rstState = 1 ∧ t.f .house HouseR.RESET_STAT_LAST_TARGET = p.val ∧
      t.f .house HouseR.RESET_CNT_PATH_RESETS = s.f .house HouseR.RESET_CNT_PATH_RESETS) ∧
  (∀ (c : Src) (g : Grp) (s : State),
    s.takes c .house 0x100 (BitVec.ofNat 32 (2 * 2 ^ 8 + g.val)) allOnes = true → s.rstState = 0 →
    (grpPages g).all (fun p => s.busyOf p == .no) = true →
    Answers (.groupReset c g) s fun t =>
      t.f .house HouseR.RESET_STAT_LAST_OP = 2 ∧ (grpPages g).all (fun p => t.busyOf p == .reset) = true ∧
      t.f .house HouseR.RESET_CNT_GROUP_RESETS = satNat (fldTop HouseR.RESET_CNT_GROUP_RESETS) (s.f .house HouseR.RESET_CNT_GROUP_RESETS + 1)) ∧
  (∀ (s : State),
    s.land.vio = true → s.device = .ready → s.rstState = 0 →
    Answers (.houseReset none) s fun t =>
      t.f .house HouseR.RESET_CAUSE_HOUSE_CAUSE = 1 ∧
      t.f .house HouseR.RESET_CNT_HOUSE_RESETS = satNat (fldTop HouseR.RESET_CNT_HOUSE_RESETS) (s.f .house HouseR.RESET_CNT_HOUSE_RESETS + 1) ∧
      t.f .house HouseR.FAB_SEQ_SEQ = 0 ∧ allGroups.all (fun g => t.on (gp g) Hdr.PAGE_CTL_HOLD) = true ∧ t.access = []) ∧
  (∀ (c : Src) (s : State),
    s.takes c .house 0x100 (BitVec.ofNat 32 (0xC3 * 2 ^ 24 + 3 * 2 ^ 8)) allOnes = true →
    Answers (.houseReset (some (c, 0xC3))) s fun t =>
      t.houseReset = true ∧ t.f .house HouseR.RESET_CAUSE_HOUSE_CAUSE = 2) ∧
  (∀ (s : State),
    s.houseReset = true →
    Answers (.houseResetEnd) s fun t =>
      t.evt .house 0 = true) ∧
  (∀ (s : State),
    (s.device = .ready ∨ s.device = .starting) → s.land.vio = true →
    Answers (.fullReset) s fun t =>
      t.f .house HouseR.RESET_CAUSE_FULL_CAUSE = 2 ∧ t.elapsed = s.elapsed ∧ t.flash.bytes = s.flash.bytes ∧ t.scene.jobs = [] ∧
      t.reh.fuses = s.reh.fuses) ∧
  (∀ (a b d : BitVec 4) (s : State),
    s.device = .fullReset → s.land.vio = true → s.f .house HouseR.RESET_CAUSE_FULL_CAUSE ≠ 5 →
    Answers (.startUp a b d) s fun t =>
      t.startAt = s.elapsed ∧ t.rd (pageAddr .house 0x050) = (strapMajority a b d).setWidth 32 ∧
      ((strapMajority a b d).getLsbD 3 = true → t.f .house HouseR.START_STAT_KIND = 2)) ∧
  (∀ (s : State),
    s.device = .starting → s.reh.startRun = true → s.rehState = 0 →
    Answers (.startUpReset) s fun t =>
      t.startAt = s.startAt ∧ t.f .house HouseR.RESET_CAUSE_FULL_CAUSE = 6 ∧ t.reh.startRun = false ∧
      t.f .house HouseR.START_STAT_PHASE = 8) ∧
  (∀ (s : State),
    s.device = .starting → s.reh.startRun = false → allGroups.any (fun g => s.calOn g) = false →
    Answers (.lanesReady) s fun t =>
      t.f .house HouseR.START_STAT_PHASE = 0 ∧
      t.f .house HouseR.START_STAT_READY_MS = satNat 0xFFFF ((s.elapsed - s.startAt) / 10 ^ 12) ∧ t.evt .house 0 = true) ∧
  (∀ (s : State),
    s.land.vio = true →
    Answers (.boundaryScanInstruction) s fun t =>
      t.land.vio = s.land.vio ∧ t.mem = s.mem) ∧
  (∀ (s : State),
    s.device = .dark → s.good false = false → s.good true = false →
    Answers (.vkaLost) s fun t =>
      t.f .supply SupplyR.RAIL_STAT_IN_WIN = 0 ∧ t.supply.cause = 1) ∧
  (∀ (s : State),
    s.rstState = 2 →
    Answers (.pathOrGroupResetEnd) s fun t =>
      (s.f .house HouseR.RESET_STAT_LAST_OP = 2 → t.busyOf (gp s.resetGrp) = .no) ∧
      (s.f .house HouseR.RESET_STAT_LAST_OP = 1 → t.on .house HouseR.RESET_STAT_CONFLICT = (grpPaths s.resetGrp).any (fun p => !s.oos p && !s.pathAgrees p)))

/-- Further effects of the commands of the key bank (R476). -/
def Obligations.KeyResults : Prop :=
  (∀ (c : Src) (slot : BitVec 2) (s : State),
    s.keyTakes c 1 0 slot.toNat = true →
    Answers (.burnUm c slot) s fun t =>
      t.f .sec SecR.SEC_OPSTAT_STATE = 1 ∧ t.flash.run = some (.keyOp, [])) ∧
  (∀ (c : Src) (slot : BitVec 2) (s : State),
    s.keyWrite c 1 0 slot.toNat false = true →
    Answers (.burnUm c slot) s fun t =>
      t.security.op = s.security.op ∧ t.f .sec SecR.SEC_OPSTAT_RESULT = 4 ∧ t.evt .sec 20 = true ∧ t.flash = s.flash) ∧
  (∀ (c : Src) (slot : BitVec 2) (s : State),
    s.keyTakes c 2 0 slot.toNat = true →
    Answers (.revokeUm c slot) s fun t =>
      t.f .sec SecR.SEC_OPSTAT_STATE = 1 ∧ t.flash.run = some (.keyOp, [])) ∧
  (∀ (c : Src) (slot : BitVec 2) (s : State),
    s.keyWrite c 2 0 slot.toNat false = true →
    Answers (.revokeUm c slot) s fun t =>
      t.security.op = s.security.op ∧ t.f .sec SecR.SEC_OPSTAT_RESULT = 4 ∧ t.evt .sec 20 = true ∧ t.flash = s.flash) ∧
  (∀ (c : Src) (slot : BitVec 2) (s : State),
    s.keyTakes c 3 0 slot.toNat = true →
    Answers (.revokeImgkey c slot) s fun t =>
      t.f .sec SecR.SEC_OPSTAT_STATE = 1 ∧ t.flash.run = some (.keyOp, [])) ∧
  (∀ (c : Src) (value : Byte) (s : State),
    s.keyTakes c 4 value.toNat 0 = true →
    Answers (.raiseSvn c value) s fun t =>
      t.f .sec SecR.SEC_OPSTAT_STATE = 1 ∧ t.flash.run = some (.keyOp, [])) ∧
  (∀ (c : Src) (value : Byte) (s : State),
    s.keyWrite c 4 value.toNat 0 false = true →
    Answers (.raiseSvn c value) s fun t =>
      t.security.op = s.security.op ∧ t.f .sec SecR.SEC_OPSTAT_RESULT = 4 ∧ t.evt .sec 20 = true ∧ t.flash = s.flash) ∧
  (∀ (l : List Byte) (slot : Nat) (key : List Byte) (s : State),
    s.flash.run = some (.keyOp, l) → s.security.op = some (1, 0, slot, key) → 105 ≤ s.eAvail → s.rehState ≠ 1 → s.reh.toDark = false →
    Answers (.keyOpEnd true) s fun t =>
      (umState (t.umSlot slot) = (if (s.umSlot slot).revoked then 2 else 1)) ∧ t.f .sec SecR.SEC_OPSTAT_STATE = 0 ∧
      t.security.op = none) ∧
  (∀ (l : List Byte) (slot : Nat) (key : List Byte) (s : State),
    s.flash.run = some (.keyOp, l) → s.security.op = some (2, 0, slot, key) → s.rehState ≠ 1 → s.reh.toDark = false →
    Answers (.keyOpEnd true) s fun t =>
      (t.umSlot slot).revoked = true ∧ t.security.sessions = s.security.sessions.filter (fun e => !(e.slot == slot)) ∧
      t.security.loaded = s.security.loaded.filter (fun e => e.1 != slot)) ∧
  (∀ (l : List Byte) (value slot : Nat) (key : List Byte) (s : State),
    s.flash.run = some (.keyOp, l) → s.security.op = some (4, value, slot, key) → s.rehState ≠ 1 → s.reh.toDark = false →
    Answers (.keyOpEnd true) s fun t =>
      t.security.svn = max s.security.svn value ∧ t.f .sec SecR.SEC_OPSTAT_SESSIONS = 1 ∧ t.evt .sec 20 = s.evt .sec 20) ∧
  (∀ (l : List Byte) (slot : Nat) (key : List Byte) (s : State),
    s.flash.run = some (.keyOp, l) → s.security.op = some (1, 0, slot, key) → 105 ≤ s.eAvail → s.rehState ≠ 1 → s.reh.toDark = false →
    Answers (.keyOpEnd false) s fun t =>
      (t.umSlot slot).burned = true ∧ (t.umSlot slot).valid = (s.umSlot slot).valid ∧ t.f .sec SecR.SEC_OPSTAT_RESULT = 3 ∧
      t.evt .sec 20 = true)
end

