-- ==== Sys2Proof/Laws/Tables.lean ====
section
/-!
SUPPORT. Laws/Tables.lean: a sparse table reads back what was set, reads as before elsewhere, and keeps its canonical form.
-/
namespace Sys2Proof.Machine

variable {α : Type}

/-- Keys strictly rising, and no entry equal to the default: the canonical form without recursion on pairs. -/
theorem tabWf_cons [DecidableEq α] (d : Nat → α) (k : Nat) (v : α) (t : List (Nat × α)) :
    tabWf d ((k, v) :: t) = true ↔ v ≠ d k ∧ (∀ e ∈ t, k < e.1) ∧ tabWf d t = true := by
  induction t generalizing k v with
  | nil => simp [tabWf]
  | cons e t ih =>
    obtain ⟨j, w⟩ := e
    have ih' := ih j w
    simp only [tabWf, Bool.and_eq_true, decide_eq_true_eq, List.mem_cons, forall_eq_or_imp]
    constructor
    · rintro ⟨⟨h1, h2⟩, h3⟩
      exact ⟨h1, ⟨h2, fun e he => lt_trans h2 ((ih'.1 h3).2.1 e he)⟩, h3⟩
    · rintro ⟨h1, ⟨h2, -⟩, h3⟩
      exact ⟨⟨h1, h2⟩, h3⟩

@[simp] theorem tabWf_nil [DecidableEq α] (d : Nat → α) : tabWf d [] = true := rfl

/-- Removing entries keeps the canonical form. -/
theorem tabWf_filter [DecidableEq α] (d : Nat → α) (p : Nat × α → Bool) (t : List (Nat × α)) (h : tabWf d t = true) :
    tabWf d (t.filter p) = true := by
  induction t with
  | nil => rfl
  | cons e t ih =>
    obtain ⟨k, v⟩ := e
    rw [tabWf_cons] at h
    by_cases hp : p (k, v) = true
    · rw [List.filter_cons_of_pos hp, tabWf_cons]
      exact ⟨h.1, fun e he => h.2.1 e (List.mem_of_mem_filter he), ih h.2.2⟩
    · rw [List.filter_cons_of_neg hp]
      exact ih h.2.2

theorem mem_tabIns (k : Nat) (v : α) (t : List (Nat × α)) (e : Nat × α) :
    e ∈ tabIns k v t ↔ e = (k, v) ∨ e ∈ t := by
  induction t with
  | nil => simp [tabIns]
  | cons x t ih =>
    obtain ⟨j, w⟩ := x
    unfold tabIns
    split
    · simp
    · simp only [List.mem_cons, ih]
      tauto

/-- Putting a new key keeps the canonical form. -/
theorem tabWf_tabIns [DecidableEq α] (d : Nat → α) (k : Nat) (v : α) (t : List (Nat × α)) (h : tabWf d t = true)
    (hk : ∀ e ∈ t, e.1 ≠ k) (hv : v ≠ d k) : tabWf d (tabIns k v t) = true := by
  induction t with
  | nil => simp [tabIns, tabWf, hv]
  | cons x t ih =>
    obtain ⟨j, w⟩ := x
    have hc := (tabWf_cons d j w t).1 h
    have hj : j ≠ k := hk (j, w) (by simp)
    unfold tabIns
    split
    · rename_i hlt
      rw [tabWf_cons]
      refine ⟨hv, fun e he => ?_, h⟩
      rcases List.mem_cons.1 he with rfl | he
      · exact hlt
      · exact lt_trans hlt (hc.2.1 e he)
    · rename_i hlt
      rw [tabWf_cons]
      refine ⟨hc.1, fun e he => ?_, ih hc.2.2 (fun e he => hk e (by simp [he]))⟩
      rcases (mem_tabIns k v t e).1 he with rfl | he
      · exact lt_of_le_of_ne (not_lt.1 hlt) hj
      · exact hc.2.1 e he

/-- Setting a key keeps the canonical form. -/
theorem tabWf_tabSet [DecidableEq α] (d : Nat → α) (t : List (Nat × α)) (k : Nat) (v : α) (h : tabWf d t = true) :
    tabWf d (tabSet d t k v) = true := by
  unfold tabSet
  split
  · exact tabWf_filter d _ t h
  · rename_i hv
    refine tabWf_tabIns d k v _ (tabWf_filter d _ t h) (fun e he => ?_) hv
    simpa using (List.mem_filter.1 he).2

theorem tabGet_filter_ne (d : Nat → α) (t : List (Nat × α)) (k j : Nat) (h : j ≠ k) :
    tabGet d (t.filter (fun e => e.1 != k)) j = tabGet d t j := by
  induction t with
  | nil => rfl
  | cons x t ih =>
    obtain ⟨i, w⟩ := x
    by_cases hi : i = k
    · subst hi
      simp [tabGet, ih, Ne.symm h]
    · have : (i != k) = true := by simpa using hi
      rw [List.filter_cons_of_pos (by simpa using hi)]
      simp [tabGet, ih]

theorem tabGet_filter_self (d : Nat → α) (t : List (Nat × α)) (k : Nat) :
    tabGet d (t.filter (fun e => e.1 != k)) k = d k := by
  induction t with
  | nil => rfl
  | cons x t ih =>
    obtain ⟨i, w⟩ := x
    by_cases hi : i = k
    · subst hi
      simp [ih]
    · rw [List.filter_cons_of_pos (by simpa using hi)]
      simp [tabGet, ih, hi]

theorem tabGet_tabIns_self (d : Nat → α) (t : List (Nat × α)) (k : Nat) (v : α) (h : ∀ e ∈ t, e.1 ≠ k) :
    tabGet d (tabIns k v t) k = v := by
  induction t with
  | nil => simp [tabIns, tabGet]
  | cons x t ih =>
    obtain ⟨j, w⟩ := x
    unfold tabIns
    split
    · simp [tabGet]
    · simp [tabGet, h (j, w) (by simp), ih (fun e he => h e (by simp [he]))]

theorem tabGet_tabIns_ne (d : Nat → α) (t : List (Nat × α)) (k j : Nat) (v : α) (h : j ≠ k) :
    tabGet d (tabIns k v t) j = tabGet d t j := by
  induction t with
  | nil => simp [tabIns, tabGet, Ne.symm h]
  | cons x t ih =>
    obtain ⟨i, w⟩ := x
    unfold tabIns
    split
    · simp [tabGet, Ne.symm h]
    · simp [tabGet, ih]

/-- A table reads back what was set. -/
@[simp] theorem tabGet_tabSet_self [DecidableEq α] (d : Nat → α) (t : List (Nat × α)) (k : Nat) (v : α) :
    tabGet d (tabSet d t k v) k = v := by
  unfold tabSet
  split
  · rename_i h
    rw [tabGet_filter_self, h]
  · exact tabGet_tabIns_self d _ k v (fun e he => by simpa using (List.mem_filter.1 he).2)

/-- A table reads as before at every other key. -/
theorem tabGet_tabSet_ne [DecidableEq α] (d : Nat → α) (t : List (Nat × α)) (k j : Nat) (v : α) (h : j ≠ k) :
    tabGet d (tabSet d t k v) j = tabGet d t j := by
  unfold tabSet
  split
  · exact tabGet_filter_ne d t k j h
  · rw [tabGet_tabIns_ne d _ k j v h, tabGet_filter_ne d t k j h]

end Sys2Proof.Machine
end

