-- ==== Sys2Proof/Laws/After.lean ====
section
/-!
SUPPORT. Laws/After.lean: what every operation of Machine/ keeps, said once: State.After b s, that a table in canonical form in b is so in
s, that the queue of commands is b's, and that nothing of s has gone back (State.Later). Here are its parts and what lifts it through
conditionals and folds; the files Laws/After*.lean say it of every operation of Machine/, in its order.
-/
namespace Sys2Proof.Machine

/-- A table of a state that comes after `b` is in canonical form if `b` is. -/
def TabOk {α : Type} [DecidableEq α] (b : State) (d : Nat → α) (t : List (Nat × α)) : Prop := b.Canon → tabWf d t = true

/-- The queue of commands is `b`'s. -/
def QueueOf (b : State) (l : List Instr) : Prop := l = b.pending

/-- `s` can come after `b` within one command. -/
def State.After (b s : State) : Prop :=
  TabOk b regReset s.regs ∧
  TabOk b memReset s.mem ∧
  TabOk b (fun _ => 0) s.ecc ∧
  TabOk b (fun _ => (0 : Word)) s.latch ∧
  TabOk b (fun _ => (0 : BitVec 128)) s.readData ∧
  TabOk b (fun _ => Busy.no) s.busy ∧
  TabOk b (fun _ => ({} : SliceSt)) s.slices ∧
  TabOk b (fun _ => ({} : PathSt)) s.paths ∧
  TabOk b (fun _ => ({} : GroupSt)) s.groups ∧
  TabOk b (fun _ => 0) s.ctrs ∧
  TabOk b (fun _ => ({} : EngSt)) s.engines ∧
  TabOk b (fun _ => ({} : PortSt)) s.ports ∧
  QueueOf b s.pending ∧ b.Later s

theorem State.After.canon {b s : State} (h : b.After s) (hb : b.Canon) : s.Canon := by
  obtain ⟨h1, h2, h3, h4, h5, h6, h7, h8, h9, h10, h11, h12, -, -⟩ := h
  exact ⟨h1 hb, h2 hb, h3 hb, h4 hb, h5 hb, h6 hb, h7 hb, h8 hb, h9 hb, h10 hb, h11 hb, h12 hb⟩

theorem UmSlotSt.Later.refl (x : UmSlotSt) : x.Later x := ⟨id, id, id⟩

theorem SecSt.Later.refl (x : SecSt) : x.Later x :=
  ⟨UmSlotSt.Later.refl _, UmSlotSt.Later.refl _, fun _ h => h, le_refl _, le_refl _⟩

theorem UmSlotSt.Later.trans {x y z : UmSlotSt} (h : x.Later y) (k : y.Later z) : x.Later z :=
  ⟨fun a => k.1 (h.1 a), fun a => k.2.1 (h.2.1 a), fun a => k.2.2 (h.2.2 a)⟩

theorem SecSt.Later.trans {x y z : SecSt} (h : x.Later y) (k : y.Later z) : x.Later z :=
  ⟨h.1.trans k.1, h.2.1.trans k.2.1, fun a b => k.2.2.1 a (h.2.2.1 a b), le_trans h.2.2.2.1 k.2.2.2.1,
    le_trans h.2.2.2.2 k.2.2.2.2⟩

theorem State.After.refl (s : State) : s.After s :=
  ⟨fun h => h.1, fun h => h.2.1, fun h => h.2.2.1, fun h => h.2.2.2.1, fun h => h.2.2.2.2.1, fun h => h.2.2.2.2.2.1, fun h => h.2.2.2.2.2.2.1, fun h => h.2.2.2.2.2.2.2.1, fun h => h.2.2.2.2.2.2.2.2.1, fun h => h.2.2.2.2.2.2.2.2.2.1, fun h => h.2.2.2.2.2.2.2.2.2.2.1, fun h => h.2.2.2.2.2.2.2.2.2.2.2,
    rfl, le_refl _, le_refl _, SecSt.Later.refl _, List.prefix_refl _⟩

@[simp] theorem after_mk (b : State) (regs mem ecc elapsed free access latch readData busy slices paths groups ctrs scene trims pends ramps cal engines flash supply reh security twin time ports spi twt twc device startAt houseReset start land pending) :
    b.After (State.mk regs mem ecc elapsed free access latch readData busy slices paths groups ctrs scene trims pends ramps cal engines flash supply reh security twin time ports spi twt twc device startAt houseReset start land pending) ↔
      TabOk b regReset regs ∧
      TabOk b memReset mem ∧
      TabOk b (fun _ => 0) ecc ∧
      TabOk b (fun _ => (0 : Word)) latch ∧
      TabOk b (fun _ => (0 : BitVec 128)) readData ∧
      TabOk b (fun _ => Busy.no) busy ∧
      TabOk b (fun _ => ({} : SliceSt)) slices ∧
      TabOk b (fun _ => ({} : PathSt)) paths ∧
      TabOk b (fun _ => ({} : GroupSt)) groups ∧
      TabOk b (fun _ => 0) ctrs ∧
      TabOk b (fun _ => ({} : EngSt)) engines ∧
      TabOk b (fun _ => ({} : PortSt)) ports ∧
      QueueOf b pending ∧ b.elapsed ≤ elapsed ∧ b.free ≤ free ∧ b.security.Later security ∧ b.reh.fuses <+: reh.fuses := Iff.rfl

@[simp] theorem State.After.regs_ok {b s : State} (h : b.After s) : TabOk b regReset s.regs := h.1

@[simp] theorem State.After.mem_ok {b s : State} (h : b.After s) : TabOk b memReset s.mem := h.2.1

@[simp] theorem State.After.ecc_ok {b s : State} (h : b.After s) : TabOk b (fun _ => 0) s.ecc := h.2.2.1

@[simp] theorem State.After.latch_ok {b s : State} (h : b.After s) : TabOk b (fun _ => 0#32) s.latch := h.2.2.2.1

@[simp] theorem State.After.readData_ok {b s : State} (h : b.After s) : TabOk b (fun _ => 0#128) s.readData := h.2.2.2.2.1

@[simp] theorem State.After.busy_ok {b s : State} (h : b.After s) : TabOk b (fun _ => Busy.no) s.busy := h.2.2.2.2.2.1

@[simp] theorem State.After.slices_ok {b s : State} (h : b.After s) : TabOk b (fun _ => { skew := 0#8, gain := 0#8, ofs := 0#8 }) s.slices := h.2.2.2.2.2.2.1

@[simp] theorem State.After.paths_ok {b s : State} (h : b.After s) : TabOk b (fun _ => { piHeld := 0#32, seg := { gen := 0#13 } }) s.paths := h.2.2.2.2.2.2.2.1

@[simp] theorem State.After.groups_ok {b s : State} (h : b.After s) : TabOk b (fun _ => ({} : GroupSt)) s.groups := h.2.2.2.2.2.2.2.2.1

@[simp] theorem State.After.ctrs_ok {b s : State} (h : b.After s) : TabOk b (fun _ => 0) s.ctrs := h.2.2.2.2.2.2.2.2.2.1

@[simp] theorem State.After.engines_ok {b s : State} (h : b.After s) : TabOk b (fun _ => ({} : EngSt)) s.engines := h.2.2.2.2.2.2.2.2.2.2.1

@[simp] theorem State.After.ports_ok {b s : State} (h : b.After s) : TabOk b (fun _ => ({} : PortSt)) s.ports := h.2.2.2.2.2.2.2.2.2.2.2.1

@[simp] theorem State.After.queue_of {b s : State} (h : b.After s) : QueueOf b s.pending := h.2.2.2.2.2.2.2.2.2.2.2.2.1

@[simp] theorem State.After.elapsed_le {b s : State} (h : b.After s) : b.elapsed ≤ s.elapsed := h.2.2.2.2.2.2.2.2.2.2.2.2.2.1

@[simp] theorem State.After.free_le {b s : State} (h : b.After s) : b.free ≤ s.free := h.2.2.2.2.2.2.2.2.2.2.2.2.2.2.1

@[simp] theorem State.After.security_later {b s : State} (h : b.After s) : b.security.Later s.security := h.2.2.2.2.2.2.2.2.2.2.2.2.2.2.2.1

@[simp] theorem State.After.fuses_prefix {b s : State} (h : b.After s) : b.reh.fuses <+: s.reh.fuses := h.2.2.2.2.2.2.2.2.2.2.2.2.2.2.2.2

@[simp] theorem tabOk_tabSet {α : Type} [DecidableEq α] (b : State) (d : Nat → α) (t : List (Nat × α)) (k : Nat) (v : α)
    (h : TabOk b d t) : TabOk b d (tabSet d t k v) := fun hb => tabWf_tabSet d t k v (h hb)

@[simp] theorem tabOk_filter {α : Type} [DecidableEq α] (b : State) (d : Nat → α) (p : Nat × α → Bool) (t : List (Nat × α))
    (h : TabOk b d t) : TabOk b d (t.filter p) := fun hb => tabWf_filter d p t (h hb)

@[simp] theorem tabOk_nil {α : Type} [DecidableEq α] (b : State) (d : Nat → α) : TabOk b d [] := fun _ => rfl

@[simp] theorem State.After.elapsed_add {b s : State} (h : b.After s) (n : Nat) : b.elapsed ≤ s.elapsed + n :=
  Nat.le_add_right_of_le (State.After.elapsed_le h)

@[simp] theorem State.After.free_add {b s : State} (h : b.After s) (n : Nat) : b.free ≤ s.free + n :=
  Nat.le_add_right_of_le (State.After.free_le h)

/-- A change of the key bank's record that changes none of what it keeps for good. -/
@[simp] theorem secLater_same (x : SecSt) (um0 um1 : UmSlotSt) (imgRev : BitVec 4) (svn : Nat) (loaded : List (Nat × List Byte))
    (sessions : List SessSt) (lastNum nonces : Nat) (op : Option (Nat × Nat × Nat × List Byte)) :
    x.Later (SecSt.mk um0 um1 imgRev svn loaded sessions lastNum nonces op) ↔
      x.um0.Later um0 ∧ x.um1.Later um1 ∧ BitsKept x.imgRev imgRev ∧ x.svn ≤ svn ∧
      x.nonces ≤ nonces := Iff.rfl

@[simp] theorem umLater_mk (x : UmSlotSt) (key : List Byte) (burned valid revoked : Bool) :
    x.Later (UmSlotSt.mk key burned valid revoked) ↔
      (x.burned = true → burned = true) ∧ (x.valid = true → valid = true) ∧ (x.revoked = true → revoked = true) := Iff.rfl

@[simp] theorem UmSlotSt.later_refl (x : UmSlotSt) : x.Later x := UmSlotSt.Later.refl x

@[simp] theorem SecSt.later_refl (x : SecSt) : x.Later x := SecSt.Later.refl x

@[simp] theorem SecSt.Later.um0_later {x y : SecSt} (h : x.Later y) : x.um0.Later y.um0 := h.1

@[simp] theorem SecSt.Later.um1_later {x y : SecSt} (h : x.Later y) : x.um1.Later y.um1 := h.2.1

@[simp] theorem SecSt.Later.imgRev_later {x y : SecSt} (h : x.Later y) : BitsKept x.imgRev y.imgRev := h.2.2.1

@[simp] theorem bitsKept_refl (x : BitVec 4) : BitsKept x x := fun _ h => h

theorem bitsKept_or (x y z : BitVec 4) (h : BitsKept x y) : BitsKept x (y ||| z) :=
  fun k hk => by simp [h k hk]

theorem le_max_of_le (a b c : Nat) (h : a ≤ b) : a ≤ max b c := le_trans h (le_max_left b c)

theorem le_succ_of_le (a b : Nat) (h : a ≤ b) : a ≤ b + 1 := Nat.le_succ_of_le h

theorem prefix_append_of_prefix {α : Type} (a b c : List α) (h : a <+: b) : a <+: b ++ c :=
  h.trans (List.prefix_append b c)

@[simp] theorem secLater_ite (x : SecSt) (c : Prop) [Decidable c] (a b : SecSt) (ha : x.Later a) (hb : x.Later b) :
    x.Later (if c then a else b) := by split <;> assumption

/-- A Umatan slot with more burned comes after one that came after the same. -/
theorem UmSlotSt.Later.burned_of {x y : UmSlotSt} (h : x.Later y) (hx : x.burned = true) : y.burned = true := h.1 hx

@[simp] theorem SecSt.Later.svn_le {x y : SecSt} (h : x.Later y) : x.svn ≤ y.svn := h.2.2.2.1

@[simp] theorem SecSt.Later.nonces_le {x y : SecSt} (h : x.Later y) : x.nonces ≤ y.nonces := h.2.2.2.2

@[simp] theorem after_ite (b : State) (c : Prop) [Decidable c] (x y : State) (hx : b.After x) (hy : b.After y) :
    b.After (if c then x else y) := by split <;> assumption

@[simp] theorem after_foldl {α : Type} (b : State) (f : State → α → State) (l : List α) (s : State) (h : b.After s)
    (hf : ∀ s a, b.After s → b.After (f s a)) : b.After (l.foldl f s) := by
  induction l generalizing s with
  | nil => exact h
  | cons a l ih => exact ih _ (hf s a h)

@[simp] theorem after_forAll {α : Type} (b : State) (f : α → State → State) (l : List α) (s : State) (h : b.After s)
    (hf : ∀ a s, b.After s → b.After (f a s)) : b.After (forAll l f s) :=
  after_foldl b _ l s h (fun s a => hf a s)

@[simp] theorem after_foldl_fst {α β : Type} (b : State) (f : State × β → α → State × β) (l : List α) (s : State × β)
    (h : b.After s.1) (hf : ∀ s a, b.After s.1 → b.After (f s a).1) : b.After (l.foldl f s).1 := by
  induction l generalizing s with
  | nil => exact h
  | cons a l ih => exact ih _ (hf s a h)

@[simp] theorem after_foldl_snd {α β : Type} (b : State) (f : β × State → α → β × State) (l : List α) (s : β × State)
    (h : b.After s.2) (hf : ∀ s a, b.After s.2 → b.After (f s a).2) : b.After (l.foldl f s).2 := by
  induction l generalizing s with
  | nil => exact h
  | cons a l ih => exact ih _ (hf s a h)

@[simp] theorem after_ite_fst {β : Type} (b : State) (c : Prop) [Decidable c] (x y : State × β) (hx : b.After x.1)
    (hy : b.After y.1) : b.After (if c then x else y).1 := by split <;> assumption

@[simp] theorem after_ite_snd {β : Type} (b : State) (c : Prop) [Decidable c] (x y : β × State) (hx : b.After x.2)
    (hy : b.After y.2) : b.After (if c then x else y).2 := by split <;> assumption

end Sys2Proof.Machine
end

