-- ==== Sys2Proof/Laws/AfterOps.lean ====
section
/-!
SUPPORT. Laws/AfterOps.lean: what State.After says of: the operations of the registers, queues, paths and groups.
-/
namespace Sys2Proof.Machine

set_option linter.unusedTactic false
set_option linter.unreachableTactic false

/-! ### Machine/Ops.lean -/

@[simp] theorem State.wr_after {s₀ : State} (s : State) (a : Nat) (v : Word) (hc : s₀.After s) :
    s₀.After (State.wr s a v) := by
  unfold State.wr
  simp +contextual (maxDischargeDepth := 40) [*]

@[simp] theorem State.setF_after {s₀ : State} (s : State) (p : Page) (x : Fld) (v : Nat) (hc : s₀.After s) :
    s₀.After (State.setF s p x v) := by
  unfold State.setF
  simp +contextual (maxDischargeDepth := 40) [*]

@[simp] theorem State.setB_after {s₀ : State} (s : State) (p : Page) (x : Fld) (b : Bool) (hc : s₀.After s) :
    s₀.After (State.setB s p x b) := by
  unfold State.setB
  simp +contextual (maxDischargeDepth := 40) [*]

@[simp] theorem State.setS_after {s₀ : State} (s : State) (p : Page) (x : Fld) (i : Int) (hc : s₀.After s) :
    s₀.After (State.setS s p x i) := by
  unfold State.setS
  simp +contextual (maxDischargeDepth := 40) [*]

@[simp] theorem State.add_after {s₀ : State} (s : State) (p : Page) (x : Fld) (n : Nat) (hc : s₀.After s) :
    s₀.After (State.add s p x n) := by
  unfold State.add
  simp +contextual (maxDischargeDepth := 40) [*]

@[simp] theorem State.inc_after {s₀ : State} (s : State) (p : Page) (x : Fld) (hc : s₀.After s) :
    s₀.After (State.inc s p x) := by
  unfold State.inc
  simp +contextual (maxDischargeDepth := 40) [*]

@[simp] theorem State.incW_after {s₀ : State} (s : State) (p : Page) (x : Fld) (hc : s₀.After s) :
    s₀.After (State.incW s p x) := by
  unfold State.incW
  simp +contextual (maxDischargeDepth := 40) [*]

@[simp] theorem State.rstReg_after {s₀ : State} (s : State) (p : Page) (off : Nat) (hc : s₀.After s) :
    s₀.After (State.rstReg s p off) := by
  unfold State.rstReg
  simp +contextual (maxDischargeDepth := 40) [*]

@[simp] theorem State.rstRange_after {s₀ : State} (s : State) (p : Page) (lo hi : Nat) (hc : s₀.After s) :
    s₀.After (State.rstRange s p lo hi) := by
  unfold State.rstRange
  simp +contextual (maxDischargeDepth := 40) [*]

@[simp] theorem State.mset_after {s₀ : State} (s : State) (a : Nat) (v : Byte) (hc : s₀.After s) :
    s₀.After (State.mset s a v) := by
  unfold State.mset
  simp +contextual (maxDischargeDepth := 40) [*]

@[simp] theorem State.msetRaw_after (s : State) (a : Nat) (l : List Byte) {s₀ : State} (hc : s₀.After s) : s₀.After (State.msetRaw s a l) := by
  induction l generalizing s a with
  | nil => exact hc
  | cons b l ih => exact ih _ _ (by simp +contextual (maxDischargeDepth := 40) [hc])

@[simp] theorem State.sramWrite_after {s₀ : State} (s : State) (row : Nat) (hc : s₀.After s) :
    s₀.After (State.sramWrite s row) := by
  unfold State.sramWrite
  simp +contextual (maxDischargeDepth := 40) [*]

@[simp] theorem State.pageStored_after {s₀ : State} (s : State) (a : Nat) (hc : s₀.After s) :
    s₀.After (State.pageStored s a) := by
  unfold State.pageStored
  simp +contextual (maxDischargeDepth := 40) [*]

@[simp] theorem State.msetList_after {s₀ : State} (s : State) (a : Nat) (l : List Byte) (hc : s₀.After s) :
    s₀.After (State.msetList s a l) := by
  unfold State.msetList
  simp +contextual (maxDischargeDepth := 40) [*]

@[simp] theorem State.mwordSet_after {s₀ : State} (s : State) (a : Nat) (w : Word) (hc : s₀.After s) :
    s₀.After (State.mwordSet s a w) := by
  unfold State.mwordSet
  simp +contextual (maxDischargeDepth := 40) [*]

@[simp] theorem State.mfieldSet_after {s₀ : State} (s : State) (a hi lo v : Nat) (hc : s₀.After s) :
    s₀.After (State.mfieldSet s a hi lo v) := by
  unfold State.mfieldSet
  simp +contextual (maxDischargeDepth := 40) [*]

@[simp] theorem State.setPath_after {s₀ : State} (s : State) (p : Path) (v : PathSt) (hc : s₀.After s) :
    s₀.After (State.setPath s p v) := by
  unfold State.setPath
  simp +contextual (maxDischargeDepth := 40) [*]

@[simp] theorem State.setSeg_after {s₀ : State} (s : State) (p : Path) (v : SegSt) (hc : s₀.After s) :
    s₀.After (State.setSeg s p v) := by
  unfold State.setSeg
  simp +contextual (maxDischargeDepth := 40) [*]

@[simp] theorem State.setGrp_after {s₀ : State} (s : State) (g : Grp) (v : GroupSt) (hc : s₀.After s) :
    s₀.After (State.setGrp s g v) := by
  unfold State.setGrp
  simp +contextual (maxDischargeDepth := 40) [*]

@[simp] theorem State.setSlice_after {s₀ : State} (s : State) (p : Path) (k : Nat) (v : SliceSt) (hc : s₀.After s) :
    s₀.After (State.setSlice s p k v) := by
  unfold State.setSlice
  simp +contextual (maxDischargeDepth := 40) [*]

@[simp] theorem State.setBusy_after {s₀ : State} (s : State) (p : Page) (b : Busy) (hc : s₀.After s) :
    s₀.After (State.setBusy s p b) := by
  unfold State.setBusy
  simp +contextual (maxDischargeDepth := 40) [*]

@[simp] theorem State.setLatch_after {s₀ : State} (s : State) (c : Src) (slot : Nat) (w : Word) (hc : s₀.After s) :
    s₀.After (State.setLatch s c slot w) := by
  unfold State.setLatch
  simp +contextual (maxDischargeDepth := 40) [*]

@[simp] theorem State.dropLatches_after {s₀ : State} (s : State) (c : Src) (hc : s₀.After s) :
    s₀.After (State.dropLatches s c) := by
  unfold State.dropLatches
  simp +contextual (maxDischargeDepth := 40) [*]

@[simp] theorem State.answer_after {s₀ : State} (s : State) (c : Src) (d : BitVec 128) (hc : s₀.After s) :
    s₀.After (State.answer s c d) := by
  unfold State.answer
  simp +contextual (maxDischargeDepth := 40) [*]

@[simp] theorem State.modSec_after {s₀ : State} (s : State) (f : SecSt → SecSt) (hc : s₀.After s)
    (hf : s₀.security.Later s.security → s₀.security.Later (f s.security)) : s₀.After (s.modSec f) := by
  unfold State.modSec
  simp [hc, hf (State.After.security_later hc)]

@[simp] theorem State.draw_after {s₀ : State} (s : State) (hc : s₀.After s) :
    s₀.After (State.draw s).2 := by
  unfold State.draw
  simp +contextual (maxDischargeDepth := 40) [*]

@[simp] theorem State.mirSent_after {s₀ : State} (s : State) (op : MirOp) (hc : s₀.After s) :
    s₀.After (State.mirSent s op) := by
  unfold State.mirSent
  simp +contextual (maxDischargeDepth := 40) [*]

@[simp] theorem State.mirCue_after {s₀ : State} (s : State) (c : BitVec 12) (op : MirOp) (hc : s₀.After s) :
    s₀.After (State.mirCue s c op) := by
  unfold State.mirCue
  simp +contextual (maxDischargeDepth := 40) [*]

@[simp] theorem State.violLast_after {s₀ : State} (s : State) (k : Viol) (page : Nat) (inj : Bool) (hc : s₀.After s) :
    s₀.After (State.violLast s k page inj) := by
  unfold State.violLast
  simp +contextual (maxDischargeDepth := 40) [*]

@[simp] theorem State.violI_after {s₀ : State} (s : State) (p : Page) (k : Viol) (inj : Bool) (hc : s₀.After s) :
    s₀.After (State.violI s p k inj) := by
  unfold State.violI
  simp +contextual (maxDischargeDepth := 40) [*]

@[simp] theorem State.viol_after {s₀ : State} (s : State) (p : Page) (k : Viol) (hc : s₀.After s) :
    s₀.After (State.viol s p k) := by
  unfold State.viol
  simp +contextual (maxDischargeDepth := 40) [*]

@[simp] theorem State.violIf_after {s₀ : State} (s : State) (b : Bool) (p : Page) (k : Viol) (hc : s₀.After s) :
    s₀.After (State.violIf s b p k) := by
  unfold State.violIf
  simp +contextual (maxDischargeDepth := 40) [*]

@[simp] theorem State.violUnmapped_after {s₀ : State} (s : State) (hc : s₀.After s) :
    s₀.After (State.violUnmapped s) := by
  unfold State.violUnmapped
  simp +contextual (maxDischargeDepth := 40) [*]

/-! ### Machine/Flags.lean -/

@[simp] theorem State.attnUpdate_after {s₀ : State} (s : State) (before : BitVec 64 × BitVec 64) (hc : s₀.After s) :
    s₀.After (State.attnUpdate s before) := by
  unfold State.attnUpdate
  simp +contextual (maxDischargeDepth := 40) [*]

@[simp] theorem State.withEvt_after {s₀ : State} (s : State) (f : State → State) (hc : s₀.After s) (hf : ∀ s, s₀.After s → s₀.After (f s)) :
    s₀.After (State.withEvt s f) := by
  unfold State.withEvt
  simp +contextual (maxDischargeDepth := 40) [*]

@[simp] theorem State.cueSetState_after {s₀ : State} (s : State) (c : BitVec 12) (st : Nat) (hc : s₀.After s) :
    s₀.After (State.cueSetState s c st) := by
  unfold State.cueSetState
  simp +contextual (maxDischargeDepth := 40) [*]

@[simp] theorem State.cueOutcome_after {s₀ : State} (s : State) (c : BitVec 12) (o : Nat) (hc : s₀.After s) :
    s₀.After (State.cueOutcome s c o) := by
  unfold State.cueOutcome
  simp +contextual (maxDischargeDepth := 40) [*]

@[simp] theorem State.setJob_after {s₀ : State} (s : State) (x : JobSt) (hc : s₀.After s) :
    s₀.After (State.setJob s x) := by
  unfold State.setJob
  simp +contextual (maxDischargeDepth := 40) [*]

@[simp] theorem State.dropJob_after {s₀ : State} (s : State) (j : Job) (hc : s₀.After s) :
    s₀.After (State.dropJob s j) := by
  unfold State.dropJob
  simp +contextual (maxDischargeDepth := 40) [*]

@[simp] theorem State.addJob_after {s₀ : State} (s : State) (x : JobSt) (hc : s₀.After s) :
    s₀.After (State.addJob s x) := by
  unfold State.addJob
  simp +contextual (maxDischargeDepth := 40) [*]

@[simp] theorem State.endCue_after {s₀ : State} (s : State) (c : BitVec 12) (st o : Nat) (hc : s₀.After s) :
    s₀.After (State.endCue s c st o) := by
  unfold State.endCue
  simp +contextual (maxDischargeDepth := 40) [*]

@[simp] theorem State.lateOccurrence_after {s₀ : State} (s : State) (x : JobSt) (c : BitVec 12) (tc : Nat) (hc : s₀.After s) :
    s₀.After (State.lateOccurrence s x c tc) := by
  unfold State.lateOccurrence
  simp +contextual (maxDischargeDepth := 40) [*]

@[simp] theorem State.cueEvent_after {s₀ : State} (p : Page) (bit : Nat) (s : State) (x : JobSt) (hc : s₀.After s) :
    s₀.After (State.cueEvent p bit s x) := by
  unfold State.cueEvent
  simp +contextual (maxDischargeDepth := 40) [*]
  (repeat' split) <;> simp +contextual (maxDischargeDepth := 40) [*]

@[simp] theorem State.trigEvent_after {s₀ : State} (s : State) (p : Page) (bit : Nat) (hc : s₀.After s) :
    s₀.After (State.trigEvent s p bit) := by
  unfold State.trigEvent
  try dsimp only
  repeat' first | (simp +contextual (maxDischargeDepth := 40) [*]; done) | split | (refine after_forAll _ _ _ _ ?_ ?_) | (refine after_foldl _ _ _ _ ?_ ?_) | (refine after_foldl_fst _ _ _ _ ?_ ?_) | (refine after_foldl_snd _ _ _ _ ?_ ?_) | (intro _ _ _; try dsimp only)

@[simp] theorem State.raise_after {s₀ : State} (s : State) (p : Page) (bit : Nat) (hc : s₀.After s) :
    s₀.After (State.raise s p bit) := by
  unfold State.raise
  simp +contextual (maxDischargeDepth := 40) [*]

@[simp] theorem State.raiseIf_after {s₀ : State} (s : State) (b : Bool) (p : Page) (bit : Nat) (hc : s₀.After s) :
    s₀.After (State.raiseIf s b p bit) := by
  unfold State.raiseIf
  simp +contextual (maxDischargeDepth := 40) [*]

@[simp] theorem State.eccError_after {s₀ : State} (s : State) (row : Nat) (double : Bool) (hc : s₀.After s) :
    s₀.After (State.eccError s row double) := by
  unfold State.eccError
  simp +contextual (maxDischargeDepth := 40) [*]

@[simp] theorem State.rowRead_after {s₀ : State} (r : State × Bool) (row : Nat) (hc : s₀.After r.1) :
    s₀.After (State.rowRead r row).1 := by
  unfold State.rowRead
  simp +contextual (maxDischargeDepth := 40) [*]

@[simp] theorem State.sramRead_after {s₀ : State} (s : State) (a n : Nat) (hc : s₀.After s) :
    s₀.After (State.sramRead s a n).1 := by
  unfold State.sramRead
  simp +contextual (maxDischargeDepth := 40) [*]

@[simp] theorem State.pageRead_after {s₀ : State} (s : State) (a : Nat) (hc : s₀.After s) :
    s₀.After (State.pageRead s a).1 := by
  unfold State.pageRead
  simp +contextual (maxDischargeDepth := 40) [*]

/-! ### Machine/Pin.lean -/

@[simp] theorem State.modPath_after {s₀ : State} (s : State) (p : Path) (f : PathSt → PathSt) (hc : s₀.After s) :
    s₀.After (State.modPath s p f) := by
  unfold State.modPath
  simp +contextual (maxDischargeDepth := 40) [*]

@[simp] theorem State.newWindow_after {s₀ : State} (s : State) (p : Path) (hc : s₀.After s) :
    s₀.After (State.newWindow s p) := by
  unfold State.newWindow
  simp +contextual (maxDischargeDepth := 40) [*]

@[simp] theorem State.pinTo_after {s₀ : State} (s : State) (p : Path) (st : Nat) (hc : s₀.After s) :
    s₀.After (State.pinTo s p st) := by
  unfold State.pinTo
  simp +contextual (maxDischargeDepth := 40) [*]

@[simp] theorem State.toPinned_after {s₀ : State} (s : State) (p : Path) (hc : s₀.After s) :
    s₀.After (State.toPinned s p) := by
  unfold State.toPinned
  simp +contextual (maxDischargeDepth := 40) [*]

@[simp] theorem State.enterPinned_after {s₀ : State} (s : State) (p : Path) (hc : s₀.After s) :
    s₀.After (State.enterPinned s p) := by
  unfold State.enterPinned
  simp +contextual (maxDischargeDepth := 40) [*]

@[simp] theorem State.enterLost_after {s₀ : State} (s : State) (p : Path) (cause : Nat) (hc : s₀.After s) :
    s₀.After (State.enterLost s p cause) := by
  unfold State.enterLost
  simp +contextual (maxDischargeDepth := 40) [*]

@[simp] theorem State.enterUnverified_after {s₀ : State} (s : State) (p : Path) (cause : Nat) (hc : s₀.After s) :
    s₀.After (State.enterUnverified s p cause) := by
  unfold State.enterUnverified
  simp +contextual (maxDischargeDepth := 40) [*]

@[simp] theorem State.setAdj_after {s₀ : State} (s : State) (p : Path) (a : Int) (hc : s₀.After s) :
    s₀.After (State.setAdj s p a) := by
  unfold State.setAdj
  simp +contextual (maxDischargeDepth := 40) [*]

@[simp] theorem State.moveAdj_after {s₀ : State} (s : State) (p : Path) (d : Int) (hc : s₀.After s) :
    s₀.After (State.moveAdj s p d) := by
  unfold State.moveAdj
  simp +contextual (maxDischargeDepth := 40) [*]

@[simp] theorem State.piHold_after {s₀ : State} (s : State) (p : Path) (hc : s₀.After s) :
    s₀.After (State.piHold s p) := by
  unfold State.piHold
  simp +contextual (maxDischargeDepth := 40) [*]

@[simp] theorem State.discard_after {s₀ : State} (s : State) (p : Path) (hc : s₀.After s) :
    s₀.After (State.discard s p) := by
  unfold State.discard
  simp +contextual (maxDischargeDepth := 40) [*]

@[simp] theorem State.place_after {s₀ : State} (s : State) (p : Path) (hc : s₀.After s) :
    s₀.After (State.place s p) := by
  unfold State.place
  simp +contextual (maxDischargeDepth := 40) [*]

@[simp] theorem State.settleStage_after {s₀ : State} (s : State) (p : Path) (hc : s₀.After s) :
    s₀.After (State.settleStage s p) := by
  unfold State.settleStage
  simp +contextual (maxDischargeDepth := 40) [*]

@[simp] theorem State.windowInvalid_after {s₀ : State} (s : State) (p : Path) (hc : s₀.After s) :
    s₀.After (State.windowInvalid s p) := by
  unfold State.windowInvalid
  simp +contextual (maxDischargeDepth := 40) [*]

@[simp] theorem State.probeSample_after {s₀ : State} (s : State) (p : Path) (l : Nat) (hc : s₀.After s) :
    s₀.After (State.probeSample s p l) := by
  unfold State.probeSample
  simp +contextual (maxDischargeDepth := 40) [*]

@[simp] theorem State.pinStep_after {s₀ : State} (s : State) (p : Path) (hc : s₀.After s) :
    s₀.After (State.pinStep s p) := by
  unfold State.pinStep
  simp +contextual (maxDischargeDepth := 40) [*]

@[simp] theorem State.windowEnd_after {s₀ : State} (s : State) (p : Path) (fixed : Nat) (hc : s₀.After s) :
    s₀.After (State.windowEnd s p fixed) := by
  unfold State.windowEnd
  simp +contextual (maxDischargeDepth := 40) [*]

@[simp] theorem State.probeWindow_after {s₀ : State} (s : State) (p : Path) (fixed : Nat) (hc : s₀.After s) :
    s₀.After (State.probeWindow s p fixed) := by
  unfold State.probeWindow
  simp +contextual (maxDischargeDepth := 40) [*]

@[simp] theorem State.pauseProbe_after {s₀ : State} (s : State) (p : Path) (cause : Nat) (hc : s₀.After s) :
    s₀.After (State.pauseProbe s p cause) := by
  unfold State.pauseProbe
  simp +contextual (maxDischargeDepth := 40) [*]

@[simp] theorem State.resumeProbe_after {s₀ : State} (s : State) (p : Path) (hc : s₀.After s) :
    s₀.After (State.resumeProbe s p) := by
  unfold State.resumeProbe
  simp +contextual (maxDischargeDepth := 40) [*]

@[simp] theorem State.zeroPath_after {s₀ : State} (s : State) (p : Path) (hc : s₀.After s) :
    s₀.After (State.zeroPath s p) := by
  unfold State.zeroPath
  simp +contextual (maxDischargeDepth := 40) [*]

@[simp] theorem State.missPath_after {s₀ : State} (s : State) (moved : Bool) (p : Path) (hc : s₀.After s) :
    s₀.After (State.missPath s moved p) := by
  unfold State.missPath
  simp +contextual (maxDischargeDepth := 40) [*]

@[simp] theorem State.slewStep_after {s₀ : State} (s : State) (p : Path) (hc : s₀.After s) :
    s₀.After (State.slewStep s p) := by
  unfold State.slewStep
  simp +contextual (maxDischargeDepth := 40) [*]

@[simp] theorem State.targetChange_after {s₀ : State} (s : State) (p : Path) (hc : s₀.After s) :
    s₀.After (State.targetChange s p) := by
  unfold State.targetChange
  simp +contextual (maxDischargeDepth := 40) [*]

@[simp] theorem State.pinReset_after {s₀ : State} (s : State) (p : Path) (hc : s₀.After s) :
    s₀.After (State.pinReset s p) := by
  unfold State.pinReset
  simp +contextual (maxDischargeDepth := 40) [*]

/-! ### Machine/Time.lean -/

@[simp] theorem State.setTime_after {s₀ : State} (s : State) (t : TimeSt) (hc : s₀.After s) :
    s₀.After (State.setTime s t) := by
  unfold State.setTime
  simp +contextual (maxDischargeDepth := 40) [*]

@[simp] theorem State.edgeStamp_after {s₀ : State} (s : State) (ofs : Nat) (hc : s₀.After s) :
    s₀.After (State.edgeStamp s ofs).1 := by
  unfold State.edgeStamp
  simp +contextual (maxDischargeDepth := 40) [*]

@[simp] theorem State.stampRegs_after {s₀ : State} (s : State) (off : Nat) (q : BitVec 128) (hc : s₀.After s) :
    s₀.After (State.stampRegs s off q) := by
  unfold State.stampRegs
  simp +contextual (maxDischargeDepth := 40) [*]

@[simp] theorem State.setUnc_after {s₀ : State} (s : State) (u : Option Nat) (hc : s₀.After s) :
    s₀.After (State.setUnc s u) := by
  unfold State.setUnc
  simp +contextual (maxDischargeDepth := 40) [*]

@[simp] theorem State.growUnc_after {s₀ : State} (s : State) (d : Nat) (hc : s₀.After s) :
    s₀.After (State.growUnc s d) := by
  unfold State.growUnc
  simp +contextual (maxDischargeDepth := 40) [*]

@[simp] theorem State.handoverUnc_after {s₀ : State} (s : State) (hc : s₀.After s) :
    s₀.After (State.handoverUnc s) := by
  unfold State.handoverUnc
  simp +contextual (maxDischargeDepth := 40) [*]

@[simp] theorem State.uncCross_after {s₀ : State} (s : State) (hc : s₀.After s) :
    s₀.After (State.uncCross s) := by
  unfold State.uncCross
  simp +contextual (maxDischargeDepth := 40) [*]

@[simp] theorem State.countTo_after {s₀ : State} (s : State) (tb : Nat) (hc : s₀.After s) :
    s₀.After (State.countTo s tb) := by
  unfold State.countTo
  simp +contextual (maxDischargeDepth := 40) [*]

@[simp] theorem State.refCycle_after {s₀ : State} (s : State) (hc : s₀.After s) :
    s₀.After (State.refCycle s) := by
  unfold State.refCycle
  simp +contextual (maxDischargeDepth := 40) [*]

@[simp] theorem State.bridgeCycle_after {s₀ : State} (s : State) (hc : s₀.After s) :
    s₀.After (State.bridgeCycle s) := by
  unfold State.bridgeCycle
  simp +contextual (maxDischargeDepth := 40) [*]

@[simp] theorem State.kaEdge_after {s₀ : State} (s : State) (hc : s₀.After s) :
    s₀.After (State.kaEdge s) := by
  unfold State.kaEdge
  simp +contextual (maxDischargeDepth := 40) [*]

@[simp] theorem State.clockTick_after {s₀ : State} (s : State) (hc : s₀.After s) :
    s₀.After (State.clockTick s) := by
  unfold State.clockTick
  simp +contextual (maxDischargeDepth := 40) [*]

@[simp] theorem State.holdoverBegin_after {s₀ : State} (s : State) (hc : s₀.After s) :
    s₀.After (State.holdoverBegin s) := by
  unfold State.holdoverBegin
  simp +contextual (maxDischargeDepth := 40) [*]

@[simp] theorem State.holdoverEnd_after {s₀ : State} (s : State) (hc : s₀.After s) :
    s₀.After (State.holdoverEnd s) := by
  unfold State.holdoverEnd
  simp +contextual (maxDischargeDepth := 40) [*]

@[simp] theorem State.rateWrite_after {s₀ : State} (s : State) (rate : Nat) (hc : s₀.After s) :
    s₀.After (State.rateWrite s rate) := by
  unfold State.rateWrite
  simp +contextual (maxDischargeDepth := 40) [*]

@[simp] theorem State.srcChange_after {s₀ : State} (s : State) (hc : s₀.After s) :
    s₀.After (State.srcChange s) := by
  unfold State.srcChange
  simp +contextual (maxDischargeDepth := 40) [*]

@[simp] theorem State.pllHold_after {s₀ : State} (s : State) (g : Grp) (hc : s₀.After s) :
    s₀.After (State.pllHold s g) := by
  unfold State.pllHold
  simp +contextual (maxDischargeDepth := 40) [*]

@[simp] theorem State.pauseAll_after {s₀ : State} (s : State) (cause : Nat) (hc : s₀.After s) :
    s₀.After (State.pauseAll s cause) := by
  unfold State.pauseAll
  simp +contextual (maxDischargeDepth := 40) [*]

@[simp] theorem State.refSwitch_after {s₀ : State} (s : State) (hc : s₀.After s) :
    s₀.After (State.refSwitch s) := by
  unfold State.refSwitch
  simp +contextual (maxDischargeDepth := 40) [*]

@[simp] theorem State.kaBegin_after {s₀ : State} (s : State) (hc : s₀.After s) :
    s₀.After (State.kaBegin s) := by
  unfold State.kaBegin
  simp +contextual (maxDischargeDepth := 40) [*]

@[simp] theorem State.bridgeBegin_after {s₀ : State} (s : State) (hc : s₀.After s) :
    s₀.After (State.bridgeBegin s) := by
  unfold State.bridgeBegin
  dsimp only
  (repeat' split) <;> simp +contextual (maxDischargeDepth := 40) [*]

@[simp] theorem State.refLost_after {s₀ : State} (s : State) (r : Bool) (hc : s₀.After s) :
    s₀.After (State.refLost s r) := by
  unfold State.refLost
  simp +contextual (maxDischargeDepth := 40) [*]

@[simp] theorem State.refSecond_after {s₀ : State} (s : State) (hc : s₀.After s) :
    s₀.After (State.refSecond s) := by
  unfold State.refSecond
  simp +contextual (maxDischargeDepth := 40) [*]

@[simp] theorem State.refPresent_after {s₀ : State} (s : State) (r : Bool) (hc : s₀.After s) :
    s₀.After (State.refPresent s r) := by
  unfold State.refPresent
  simp +contextual (maxDischargeDepth := 40) [*]

@[simp] theorem State.bridgeEnd_after {s₀ : State} (s : State) (hc : s₀.After s) :
    s₀.After (State.bridgeEnd s) := by
  unfold State.bridgeEnd
  simp +contextual (maxDischargeDepth := 40) [*]

@[simp] theorem State.kaReturn_after {s₀ : State} (s : State) (hc : s₀.After s) :
    s₀.After (State.kaReturn s) := by
  unfold State.kaReturn
  simp +contextual (maxDischargeDepth := 40) [*]

@[simp] theorem State.kaWindow_after {s₀ : State} (s : State) (hc : s₀.After s) :
    s₀.After (State.kaWindow s) := by
  unfold State.kaWindow
  simp +contextual (maxDischargeDepth := 40) [*]

/-! ### Machine/Frame.lean -/

@[simp] theorem State.setCtr_after {s₀ : State} (s : State) (p : Path) (i v : Nat) (hc : s₀.After s) :
    s₀.After (State.setCtr s p i v) := by
  unfold State.setCtr
  simp +contextual (maxDischargeDepth := 40) [*]

@[simp] theorem State.addCtr_after {s₀ : State} (s : State) (p : Path) (i n : Nat) (hc : s₀.After s) :
    s₀.After (State.addCtr s p i n) := by
  unfold State.addCtr
  simp +contextual (maxDischargeDepth := 40) [*]

@[simp] theorem State.zeroCtrs_after {s₀ : State} (s : State) (p : Path) (hc : s₀.After s) :
    s₀.After (State.zeroCtrs s p) := by
  unfold State.zeroCtrs
  simp +contextual (maxDischargeDepth := 40) [*]

@[simp] theorem State.setPort_after {s₀ : State} (s : State) (k : Port) (v : PortSt) (hc : s₀.After s) :
    s₀.After (State.setPort s k v) := by
  unfold State.setPort
  simp +contextual (maxDischargeDepth := 40) [*]

@[simp] theorem State.txDone_after {s₀ : State} (s : State) (k : Port) (x : Bool × Nat) (status : Nat) (ts : BitVec 128) (hc : s₀.After s) :
    s₀.After (State.txDone s k x status ts) := by
  unfold State.txDone
  simp +contextual (maxDischargeDepth := 40) [*]

@[simp] theorem State.frameFetch_after {s₀ : State} (s : State) (k : Port) (hc : s₀.After s) :
    s₀.After (State.frameFetch s k) := by
  unfold State.frameFetch
  dsimp only
  (repeat' split) <;> simp +contextual (maxDischargeDepth := 40) [*]

@[simp] theorem State.frameExpire_after {s₀ : State} (s : State) (k : Port) (hc : s₀.After s) :
    s₀.After (State.frameExpire s k) := by
  unfold State.frameExpire
  simp +contextual (maxDischargeDepth := 40) [*]
  (repeat' split) <;> simp +contextual (maxDischargeDepth := 40) [*]

@[simp] theorem State.frameInsert_after {s₀ : State} (s : State) (k : Port) (run : Nat) (hc : s₀.After s) :
    s₀.After (State.frameInsert s k run) := by
  unfold State.frameInsert
  dsimp only
  (repeat' split) <;> simp +contextual (maxDischargeDepth := 40) [*]

@[simp] theorem State.insertCut_after {s₀ : State} (s : State) (p : Path) (hc : s₀.After s) :
    s₀.After (State.insertCut s p) := by
  unfold State.insertCut
  try dsimp only
  repeat' first | (simp +contextual (maxDischargeDepth := 40) [*]; done) | split | (refine after_forAll _ _ _ _ ?_ ?_) | (refine after_foldl _ _ _ _ ?_ ?_) | (refine after_foldl_fst _ _ _ _ ?_ ?_) | (refine after_foldl_snd _ _ _ _ ?_ ?_) | (intro _ _ _; try dsimp only)

@[simp] theorem State.insertLoss_after {s₀ : State} (s : State) (p : Path) (hc : s₀.After s) :
    s₀.After (State.insertLoss s p) := by
  unfold State.insertLoss
  refine after_foldl _ _ _ _ hc ?_
  intro s k h
  have hd : s₀.After s.draw.2 := State.draw_after s h
  split
  · split
    · split
      · exact State.txDone_after _ _ _ _ _ hd
      · exact hd
    · exact h
  · exact h

@[simp] theorem State.portDisable_after {s₀ : State} (s : State) (k : Port) (hc : s₀.After s) :
    s₀.After (State.portDisable s k) := by
  unfold State.portDisable
  simp +contextual (maxDischargeDepth := 40) [*]

@[simp] theorem State.txTail_after {s₀ : State} (s : State) (k : Port) (tail : Nat) (hc : s₀.After s) :
    s₀.After (State.txTail s k tail) := by
  unfold State.txTail
  simp +contextual (maxDischargeDepth := 40) [*]

@[simp] theorem State.rxDeliver_after {s₀ : State} (fuel : Nat) (k : Port) (reason : Nat) (fr : RxFrame) (s : State)
    (hc : s₀.After s) : s₀.After (State.rxDeliver fuel k reason fr s) := by
  induction fuel generalizing s with
  | zero => exact hc
  | succ n ih =>
    unfold State.rxDeliver
    extract_lets h a
    split
    · simp [hc]
    · rename_i buf s1 s2 l s3 s4 e s5 src s6 hn
      have h1 : s₀.After s1 := State.mfieldSet_after _ _ _ _ _ (State.mfieldSet_after _ _ _ _ _ hc)
      have h2 : s₀.After s2 := State.incW_after _ _ _ h1
      split
      · exact ih _ (State.viol_after _ _ _ (State.mfieldSet_after _ _ _ _ _ h2))
      · have h3 : s₀.After s3 :=
          State.mfieldSet_after _ _ _ _ _ (State.mfieldSet_after _ _ _ _ _ (State.mfieldSet_after _ _ _ _ _ h2))
        have h4 : s₀.After s4 :=
          State.msetList_after _ _ _ (State.mfieldSet_after _ _ _ _ _ (State.mfieldSet_after _ _ _ _ _ h3))
        have he : s₀.After e.1 := State.edgeStamp_after _ _ h4
        have h5 : s₀.After s5 := State.msetList_after _ _ _ he
        have h6 : s₀.After s6 := State.setPort_after _ _ _ h5
        exact State.raise_after _ _ _ (State.inc_after _ _ _ h6)

@[simp] theorem State.idleOut_after {s₀ : State} (s : State) (p : Path) (fr : RxFrame) (hc : s₀.After s) :
    s₀.After (State.idleOut s p fr) := by
  unfold State.idleOut
  dsimp only
  refine State.modPath_after _ _ _ ?_
  simp [hc]

@[simp] theorem State.frameExtract_after {s₀ : State} (s : State) (k : Port) (fr : RxFrame) (hc : s₀.After s) :
    s₀.After (State.frameExtract s k fr) := by
  unfold State.frameExtract
  dsimp only
  (repeat' split) <;> simp +contextual (maxDischargeDepth := 40) [*]

@[simp] theorem State.portHouseReset_after {s₀ : State} (s : State) (k : Port) (hc : s₀.After s) :
    s₀.After (State.portHouseReset s k) := by
  unfold State.portHouseReset
  simp +contextual (maxDischargeDepth := 40) [*]

/-! ### Machine/Profile.lean -/

@[simp] theorem State.degClear_after {s₀ : State} (s : State) (p : Path) (hc : s₀.After s) :
    s₀.After (State.degClear s p) := by
  unfold State.degClear
  simp +contextual (maxDischargeDepth := 40) [*]

@[simp] theorem State.framingGet_after {s₀ : State} (s : State) (p : Path) (hc : s₀.After s) :
    s₀.After (State.framingGet s p) := by
  unfold State.framingGet
  simp +contextual (maxDischargeDepth := 40) [*]

@[simp] theorem State.framingLose_after {s₀ : State} (s : State) (p : Path) (hc : s₀.After s) :
    s₀.After (State.framingLose s p) := by
  unfold State.framingLose
  simp +contextual (maxDischargeDepth := 40) [*]

@[simp] theorem State.ethStat_after {s₀ : State} (s : State) (p : Path) (e : BitVec 3) (frm : Bool) (hc : s₀.After s) :
    s₀.After (State.ethStat s p e frm) := by
  unfold State.ethStat
  simp +contextual (maxDischargeDepth := 40) [*]

@[simp] theorem State.wxStat_after {s₀ : State} (s : State) (p : Path) (m : Marker) (hc : s₀.After s) :
    s₀.After (State.wxStat s p m) := by
  unfold State.wxStat
  simp +contextual (maxDischargeDepth := 40) [*]

@[simp] theorem State.wxAcquired_after {s₀ : State} (s : State) (p : Path) (m : Marker) (hc : s₀.After s) :
    s₀.After (State.wxAcquired s p m) := by
  unfold State.wxAcquired
  simp +contextual (maxDischargeDepth := 40) [*]

@[simp] theorem State.framingAcquired_after {s₀ : State} (s : State) (p : Path) (e : BitVec 3) (w : Option WxFind) (hc : s₀.After s) :
    s₀.After (State.framingAcquired s p e w) := by
  unfold State.framingAcquired
  dsimp only
  (repeat' split) <;> simp +contextual (maxDischargeDepth := 40) [*]

@[simp] theorem State.convLose_after {s₀ : State} (s : State) (p : Path) (from_ : Nat) (hc : s₀.After s) :
    s₀.After (State.convLose s p from_) := by
  unfold State.convLose
  simp +contextual (maxDischargeDepth := 40) [*]

@[simp] theorem State.framingLost_after {s₀ : State} (s : State) (p : Path) (e : BitVec 3) (cut : Bool) (hc : s₀.After s) :
    s₀.After (State.framingLost s p e cut) := by
  unfold State.framingLost
  simp +contextual (maxDischargeDepth := 40) [*]

@[simp] theorem State.convChange_after {s₀ : State} (s : State) (p : Path) (which : Fin 3) (gain : Bool) (run gap : Nat) (hc : s₀.After s) :
    s₀.After (State.convChange s p which gain run gap) := by
  unfold State.convChange
  simp +contextual (maxDischargeDepth := 40) [*]

@[simp] theorem State.profGone_after {s₀ : State} (s : State) (p : Path) (hc : s₀.After s) :
    s₀.After (State.profGone s p) := by
  unfold State.profGone
  simp +contextual (maxDischargeDepth := 40) [*]

@[simp] theorem State.wxMarker_after {s₀ : State} (s : State) (p : Path) (m : Marker) (hc : s₀.After s) :
    s₀.After (State.wxMarker s p m) := by
  unfold State.wxMarker
  simp +contextual (maxDischargeDepth := 40) [*]

@[simp] theorem State.injected_after {s₀ : State} (s : State) (p : Path) (c : Codeword) (hc : s₀.After s) :
    s₀.After (State.injected s p c).1 := by
  unfold State.injected
  simp +contextual (maxDischargeDepth := 40) [*]

@[simp] theorem State.injectedRaw_after {s₀ : State} (s : State) (p : Path) (c : Codeword) (hc : s₀.After s) :
    s₀.After (State.injectedRaw s p c).1 := by
  unfold State.injectedRaw
  simp +contextual (maxDischargeDepth := 40) [*]

@[simp] theorem State.fecCount_after {s₀ : State} (s : State) (p : Path) (c : Codeword) (hc : s₀.After s) :
    s₀.After (State.fecCount s p c) := by
  unfold State.fecCount
  simp +contextual (maxDischargeDepth := 40) [*]

@[simp] theorem State.wxCodeword_after {s₀ : State} (s : State) (p : Path) (c : Codeword) (hc : s₀.After s) :
    s₀.After (State.wxCodeword s p c) := by
  unfold State.wxCodeword
  simp +contextual (maxDischargeDepth := 40) [*]

@[simp] theorem State.codeword_after {s₀ : State} (s : State) (p : Path) (c : Codeword) (hc : s₀.After s) :
    s₀.After (State.codeword s p c) := by
  unfold State.codeword
  dsimp only
  (repeat' split) <;> simp +contextual (maxDischargeDepth := 40) [*]

@[simp] theorem State.ptpMessage_after {s₀ : State} (s : State) (p : Path) (fr : RxFrame) (hc : s₀.After s) :
    s₀.After (State.ptpMessage s p fr) := by
  unfold State.ptpMessage
  dsimp only
  (repeat' split) <;> simp +contextual (maxDischargeDepth := 40) [*]

@[simp] theorem State.snapRegs_after {s₀ : State} (s : State) (p : Path) (hc : s₀.After s) :
    s₀.After (State.snapRegs s p) := by
  unfold State.snapRegs
  simp +contextual (maxDischargeDepth := 40) [*]

@[simp] theorem State.snapshot_after {s₀ : State} (s : State) (p : Path) (bits errs : Nat) (hc : s₀.After s) :
    s₀.After (State.snapshot s p bits errs) := by
  unfold State.snapshot
  simp +contextual (maxDischargeDepth := 40) [*]

@[simp] theorem State.degEnd_after {s₀ : State} (s : State) (p : Path) (hc : s₀.After s) :
    s₀.After (State.degEnd s p) := by
  unfold State.degEnd
  simp +contextual (maxDischargeDepth := 40) [*]

@[simp] theorem State.prbsLock_after {s₀ : State} (s : State) (p : Path) (hc : s₀.After s) :
    s₀.After (State.prbsLock s p) := by
  unfold State.prbsLock
  simp +contextual (maxDischargeDepth := 40) [*]

@[simp] theorem State.prbsLose_after {s₀ : State} (s : State) (p : Path) (bits errs : Nat) (hc : s₀.After s) :
    s₀.After (State.prbsLose s p bits errs) := by
  unfold State.prbsLose
  simp +contextual (maxDischargeDepth := 40) [*]

@[simp] theorem State.injFire_after {s₀ : State} (s : State) (p : Path) (hc : s₀.After s) :
    s₀.After (State.injFire s p) := by
  unfold State.injFire
  simp +contextual (maxDischargeDepth := 40) [*]

@[simp] theorem State.injMake_after {s₀ : State} (s : State) (p : Path) (mode : Nat) (side : Bool) (hc : s₀.After s) :
    s₀.After (State.injMake s p mode side) := by
  unfold State.injMake
  simp +contextual (maxDischargeDepth := 40) [*]

@[simp] theorem State.injDueNow_after {s₀ : State} (s : State) (p : Path) (hc : s₀.After s) :
    s₀.After (State.injDueNow s p) := by
  unfold State.injDueNow
  simp +contextual (maxDischargeDepth := 40) [*]

@[simp] theorem State.profReset_after {s₀ : State} (s : State) (p : Path) (hc : s₀.After s) :
    s₀.After (State.profReset s p) := by
  unfold State.profReset
  simp +contextual (maxDischargeDepth := 40) [*]

/-! ### Machine/Rotation.lean -/

@[simp] theorem State.rotRest_after {s₀ : State} (s : State) (p : Path) (hc : s₀.After s) :
    s₀.After (State.rotRest s p) := by
  unfold State.rotRest
  simp +contextual (maxDischargeDepth := 40) [*]

@[simp] theorem State.rotAborted_after {s₀ : State} (s : State) (p : Path) (cause : Nat) (hc : s₀.After s) :
    s₀.After (State.rotAborted s p cause) := by
  unfold State.rotAborted
  simp +contextual (maxDischargeDepth := 40) [*]

@[simp] theorem State.rotAbandon_after {s₀ : State} (s : State) (p : Path) (cause : Nat) (hc : s₀.After s) :
    s₀.After (State.rotAbandon s p cause) := by
  unfold State.rotAbandon
  simp +contextual (maxDischargeDepth := 40) [*]

@[simp] theorem State.rotAbandonAll_after {s₀ : State} (s : State) (p : Path) (hc : s₀.After s) :
    s₀.After (State.rotAbandonAll s p) := by
  unfold State.rotAbandonAll
  simp +contextual (maxDischargeDepth := 40) [*]

@[simp] theorem State.holdRot_after {s₀ : State} (s : State) (g : Grp) (hc : s₀.After s) :
    s₀.After (State.holdRot s g) := by
  unfold State.holdRot
  simp +contextual (maxDischargeDepth := 40) [*]

@[simp] theorem State.sweepBegin_after {s₀ : State} (s : State) (p : Path) (hc : s₀.After s) :
    s₀.After (State.sweepBegin s p) := by
  unfold State.sweepBegin
  simp +contextual (maxDischargeDepth := 40) [*]

@[simp] theorem State.sweepStep_after {s₀ : State} (s : State) (p : Path) (hc : s₀.After s) :
    s₀.After (State.sweepStep s p) := by
  unfold State.sweepStep
  simp +contextual (maxDischargeDepth := 40) [*]

@[simp] theorem State.rotSwap_after {s₀ : State} (s : State) (p : Path) (hc : s₀.After s) :
    s₀.After (State.rotSwap s p) := by
  unfold State.rotSwap
  simp +contextual (maxDischargeDepth := 40) [*]

@[simp] theorem State.swapNow_after {s₀ : State} (s : State) (p : Path) (hc : s₀.After s) :
    s₀.After (State.swapNow s p) := by
  unfold State.swapNow
  simp +contextual (maxDischargeDepth := 40) [*]

@[simp] theorem State.rotBeat_after {s₀ : State} (s : State) (p : Path) (hc : s₀.After s) :
    s₀.After (State.rotBeat s p) := by
  unfold State.rotBeat
  simp +contextual (maxDischargeDepth := 40) [*]

@[simp] theorem State.rotStart_after {s₀ : State} (s : State) (p : Path) (hc : s₀.After s) :
    s₀.After (State.rotStart s p) := by
  unfold State.rotStart
  simp +contextual (maxDischargeDepth := 40) [*]

@[simp] theorem State.rotBegin_after {s₀ : State} (s : State) (p : Path) (hc : s₀.After s) :
    s₀.After (State.rotBegin s p) := by
  unfold State.rotBegin
  simp +contextual (maxDischargeDepth := 40) [*]

@[simp] theorem State.matchEnd_after {s₀ : State} (s : State) (p : Path) (ofs gain skew : Byte) (hc : s₀.After s) :
    s₀.After (State.matchEnd s p ofs gain skew) := by
  unfold State.matchEnd
  simp +contextual (maxDischargeDepth := 40) [*]

@[simp] theorem State.rotForce_after {s₀ : State} (s : State) (p : Path) (hc : s₀.After s) :
    s₀.After (State.rotForce s p) := by
  unfold State.rotForce
  simp +contextual (maxDischargeDepth := 40) [*]

@[simp] theorem State.retire_after {s₀ : State} (s : State) (p : Path) (k : Nat) (hc : s₀.After s) :
    s₀.After (State.retire s p k) := by
  unfold State.retire
  simp +contextual (maxDischargeDepth := 40) [*]

@[simp] theorem State.sliceRetire_after {s₀ : State} (s : State) (p : Path) (k : Nat) (hc : s₀.After s) :
    s₀.After (State.sliceRetire s p k) := by
  unfold State.sliceRetire
  simp +contextual (maxDischargeDepth := 40) [*]

@[simp] theorem State.releaseEnd_after {s₀ : State} (s : State) (p : Path) (k : Nat) (ok : Bool) (ofs gain skew : Byte) (hc : s₀.After s) :
    s₀.After (State.releaseEnd s p k ok ofs gain skew) := by
  unfold State.releaseEnd
  simp +contextual (maxDischargeDepth := 40) [*]

@[simp] theorem State.ffeSteps_after {s₀ : State} (s : State) (p : Path) (l : List (Option Bool)) (hc : s₀.After s) :
    s₀.After (State.ffeSteps s p l) := by
  unfold State.ffeSteps
  try dsimp only
  repeat' first | (simp +contextual (maxDischargeDepth := 40) [*]; done) | split | (refine after_forAll _ _ _ _ ?_ ?_) | (refine after_foldl _ _ _ _ ?_ ?_) | (refine after_foldl_fst _ _ _ _ ?_ ?_) | (refine after_foldl_snd _ _ _ _ ?_ ?_) | (intro _ _ _; try dsimp only)

@[simp] theorem State.searchStep_after {s₀ : State} (s : State) (p : Path) (l : Loop) (x : Fld) (top : Nat) (st : Option Bool) (hc : s₀.After s) :
    s₀.After (State.searchStep s p l x top st) := by
  unfold State.searchStep
  simp +contextual (maxDischargeDepth := 40) [*]

@[simp] theorem State.adapt_after {s₀ : State} (s : State) (p : Path) (v : AdaptVal) (hc : s₀.After s) :
    s₀.After (State.adapt s p v) := by
  unfold State.adapt
  dsimp only
  (repeat' split) <;> simp +contextual (maxDischargeDepth := 40) [*]

@[simp] theorem State.capRun_after {s₀ : State} (s : State) (p : Path) (hc : s₀.After s) :
    s₀.After (State.capRun s p) := by
  unfold State.capRun
  simp +contextual (maxDischargeDepth := 40) [*]

@[simp] theorem State.capStart_after {s₀ : State} (s : State) (p : Path) (hc : s₀.After s) :
    s₀.After (State.capStart s p) := by
  unfold State.capStart
  simp +contextual (maxDischargeDepth := 40) [*]

@[simp] theorem State.capStopReq_after {s₀ : State} (s : State) (p : Path) (hc : s₀.After s) :
    s₀.After (State.capStopReq s p) := by
  unfold State.capStopReq
  simp +contextual (maxDischargeDepth := 40) [*]

@[simp] theorem State.capEnd_after {s₀ : State} (s : State) (p : Path) (data : List Byte) (oldest : Nat) (hc : s₀.After s) :
    s₀.After (State.capEnd s p data oldest) := by
  unfold State.capEnd
  simp +contextual (maxDischargeDepth := 40) [*]

@[simp] theorem State.capMark_after {s₀ : State} (s : State) (p : Path) (hc : s₀.After s) :
    s₀.After (State.capMark s p) := by
  unfold State.capMark
  simp +contextual (maxDischargeDepth := 40) [*]

/-! ### Machine/Training.lean -/

@[simp] theorem State.modSeg_after {s₀ : State} (s : State) (p : Path) (f : SegSt → SegSt) (hc : s₀.After s) :
    s₀.After (State.modSeg s p f) := by
  unfold State.modSeg
  simp +contextual (maxDischargeDepth := 40) [*]

@[simp] theorem State.setTaps_after {s₀ : State} (s : State) (q : Path) (t : List Int) (hc : s₀.After s) :
    s₀.After (State.setTaps s q t) := by
  unfold State.setTaps
  simp +contextual (maxDischargeDepth := 40) [*]

@[simp] theorem State.presetNow_after {s₀ : State} (s : State) (p : Path) (n : Nat) (hc : s₀.After s) :
    s₀.After (State.presetNow s p n) := by
  unfold State.presetNow
  simp +contextual (maxDischargeDepth := 40) [*]

@[simp] theorem State.presetApply_after {s₀ : State} (s : State) (p : Path) (n : Nat) (hc : s₀.After s) :
    s₀.After (State.presetApply s p n) := by
  unfold State.presetApply
  simp +contextual (maxDischargeDepth := 40) [*]

@[simp] theorem State.presetsDue_after {s₀ : State} (s : State) (hc : s₀.After s) :
    s₀.After (State.presetsDue s) := by
  unfold State.presetsDue
  try dsimp only
  repeat' first | (simp +contextual (maxDischargeDepth := 40) [*]; done) | split | (refine after_forAll _ _ _ _ ?_ ?_) | (refine after_foldl _ _ _ _ ?_ ?_) | (refine after_foldl_fst _ _ _ _ ?_ ?_) | (refine after_foldl_snd _ _ _ _ ?_ ?_) | (intro _ _ _; try dsimp only)

@[simp] theorem State.segClear_after {s₀ : State} (s : State) (p : Path) (hc : s₀.After s) :
    s₀.After (State.segClear s p) := by
  unfold State.segClear
  simp +contextual (maxDischargeDepth := 40) [*]

@[simp] theorem State.segSet_after {s₀ : State} (s : State) (p : Path) (st : Nat) (hc : s₀.After s) :
    s₀.After (State.segSet s p st) := by
  unfold State.segSet
  simp +contextual (maxDischargeDepth := 40) [*]

@[simp] theorem State.segWait_after {s₀ : State} (s : State) (p : Path) (hc : s₀.After s) :
    s₀.After (State.segWait s p) := by
  unfold State.segWait
  simp +contextual (maxDischargeDepth := 40) [*]

@[simp] theorem State.segStop_after {s₀ : State} (s : State) (p : Path) (st cause : Nat) (hc : s₀.After s) :
    s₀.After (State.segStop s p st cause) := by
  unfold State.segStop
  simp +contextual (maxDischargeDepth := 40) [*]

@[simp] theorem State.segBreak_after {s₀ : State} (s : State) (cause : Nat) (p : Path) (hc : s₀.After s) :
    s₀.After (State.segBreak s cause p) := by
  unfold State.segBreak
  simp +contextual (maxDischargeDepth := 40) [*]

@[simp] theorem State.segForce_after {s₀ : State} (s : State) (p : Path) (hc : s₀.After s) :
    s₀.After (State.segForce s p) := by
  unfold State.segForce
  simp +contextual (maxDischargeDepth := 40) [*]

@[simp] theorem State.propagateBy_after {s₀ : State} (s : State) (m : Nat) (p : Path) (hc : s₀.After s) :
    s₀.After (State.propagateBy s m p) := by
  unfold State.propagateBy
  simp +contextual (maxDischargeDepth := 40) [*]

@[simp] theorem State.propagate_after {s₀ : State} (s : State) (p : Path) (hc : s₀.After s) :
    s₀.After (State.propagate s p) := by
  unfold State.propagate
  simp +contextual (maxDischargeDepth := 40) [*]

@[simp] theorem State.seedRx_after {s₀ : State} (s : State) (p : Path) (hc : s₀.After s) :
    s₀.After (State.seedRx s p) := by
  unfold State.seedRx
  dsimp only
  (repeat' split) <;> simp +contextual (maxDischargeDepth := 40) [*]

@[simp] theorem State.segInit_after {s₀ : State} (s : State) (p : Path) (hc : s₀.After s) :
    s₀.After (State.segInit s p) := by
  unfold State.segInit
  simp +contextual (maxDischargeDepth := 40) [*]

@[simp] theorem State.segAcquire_after {s₀ : State} (s : State) (p : Path) (hc : s₀.After s) :
    s₀.After (State.segAcquire s p) := by
  unfold State.segAcquire
  simp +contextual (maxDischargeDepth := 40) [*]

@[simp] theorem State.segData_after {s₀ : State} (s : State) (p : Path) (hc : s₀.After s) :
    s₀.After (State.segData s p) := by
  unfold State.segData
  simp +contextual (maxDischargeDepth := 40) [*]

@[simp] theorem State.waitRow_after {s₀ : State} (s : State) (p : Path) (hc : s₀.After s) :
    s₀.After (State.waitRow s p) := by
  unfold State.waitRow
  simp +contextual (maxDischargeDepth := 40) [*]

@[simp] theorem State.readyRow_after {s₀ : State} (s : State) (p : Path) (hc : s₀.After s) :
    s₀.After (State.readyRow s p) := by
  unfold State.readyRow
  simp +contextual (maxDischargeDepth := 40) [*]

@[simp] theorem State.setupRow_after {s₀ : State} (s : State) (p : Path) (hc : s₀.After s) :
    s₀.After (State.setupRow s p) := by
  unfold State.setupRow
  simp +contextual (maxDischargeDepth := 40) [*]

@[simp] theorem State.dropLock_after {s₀ : State} (s : State) (p : Path) (fault : Bool) (hc : s₀.After s) :
    s₀.After (State.dropLock s p fault) := by
  unfold State.dropLock
  simp +contextual (maxDischargeDepth := 40) [*]

@[simp] theorem State.relayBegin_after {s₀ : State} (s : State) (n : Lane) (hc : s₀.After s) :
    s₀.After (State.relayBegin s n) := by
  unfold State.relayBegin
  simp +contextual (maxDischargeDepth := 40) [*]

@[simp] theorem State.relayRow_after {s₀ : State} (s : State) (n : Lane) (hc : s₀.After s) :
    s₀.After (State.relayRow s n) := by
  unfold State.relayRow
  simp +contextual (maxDischargeDepth := 40) [*]

@[simp] theorem State.disableRow_after {s₀ : State} (s : State) (p : Path) (hc : s₀.After s) :
    s₀.After (State.disableRow s p) := by
  unfold State.disableRow
  simp +contextual (maxDischargeDepth := 40) [*]

@[simp] theorem State.settlePath_after {s₀ : State} (s : State) (p : Path) (hc : s₀.After s) :
    s₀.After (State.settlePath s p) := by
  unfold State.settlePath
  simp +contextual (maxDischargeDepth := 40) [*]

@[simp] theorem State.readyPair_after {s₀ : State} (s : State) (n : Lane) (hc : s₀.After s) :
    s₀.After (State.readyPair s n) := by
  unfold State.readyPair
  simp +contextual (maxDischargeDepth := 40) [*]

@[simp] theorem State.settle_after {s₀ : State} (s : State) (n : Lane) (hc : s₀.After s) :
    s₀.After (State.settle s n) := by
  unfold State.settle
  simp +contextual (maxDischargeDepth := 40) [*]

@[simp] theorem State.settleGrp_after {s₀ : State} (s : State) (g : Grp) (hc : s₀.After s) :
    s₀.After (State.settleGrp s g) := by
  unfold State.settleGrp
  simp +contextual (maxDischargeDepth := 40) [*]

@[simp] theorem State.settleAll_after {s₀ : State} (s : State) (hc : s₀.After s) :
    s₀.After (State.settleAll s) := by
  unfold State.settleAll
  simp +contextual (maxDischargeDepth := 40) [*]

@[simp] theorem State.settlePort_after {s₀ : State} (s : State) (n : Lane) (hc : s₀.After s) :
    s₀.After (State.settlePort s n) := by
  unfold State.settlePort
  simp +contextual (maxDischargeDepth := 40) [*]

@[simp] theorem State.segNoSignal_after {s₀ : State} (s : State) (p : Path) (hc : s₀.After s) :
    s₀.After (State.segNoSignal s p) := by
  unfold State.segNoSignal
  simp +contextual (maxDischargeDepth := 40) [*]

@[simp] theorem State.segsNoLock_after {s₀ : State} (s : State) (l : List Path) (hc : s₀.After s) :
    s₀.After (State.segsNoLock s l) := by
  unfold State.segsNoLock
  simp +contextual (maxDischargeDepth := 40) [*]

@[simp] theorem State.locksLost_after {s₀ : State} (s : State) (l : List Path) (hc : s₀.After s) :
    s₀.After (State.locksLost s l) := by
  unfold State.locksLost
  simp +contextual (maxDischargeDepth := 40) [*]

@[simp] theorem State.lockLost_after {s₀ : State} (s : State) (p : Path) (hc : s₀.After s) :
    s₀.After (State.lockLost s p) := by
  unfold State.lockLost
  simp +contextual (maxDischargeDepth := 40) [*]

@[simp] theorem State.restart_after {s₀ : State} (s : State) (n : Lane) (hc : s₀.After s) :
    s₀.After (State.restart s n) := by
  unfold State.restart
  simp +contextual (maxDischargeDepth := 40) [*]

@[simp] theorem State.timeout_after {s₀ : State} (s : State) (p : Path) (hc : s₀.After s) :
    s₀.After (State.timeout s p) := by
  unfold State.timeout
  simp +contextual (maxDischargeDepth := 40) [*]

@[simp] theorem State.converge_after {s₀ : State} (s : State) (p : Path) (snr : Nat) (hc : s₀.After s) :
    s₀.After (State.converge s p snr) := by
  unfold State.converge
  simp +contextual (maxDischargeDepth := 40) [*]

@[simp] theorem State.frameLockLost_after {s₀ : State} (s : State) (p : Path) (hc : s₀.After s) :
    s₀.After (State.frameLockLost s p) := by
  unfold State.frameLockLost
  simp +contextual (maxDischargeDepth := 40) [*]

@[simp] theorem State.engScene_after {s₀ : State} (s : State) (g : Grp) (l : List (Nat × Word)) (hc : s₀.After s) :
    s₀.After (State.engScene s g l).1 := by
  unfold State.engScene
  dsimp only
  (repeat' split) <;> simp +contextual (maxDischargeDepth := 40) [*]

@[simp] theorem State.takeReq_after {s₀ : State} (s : State) (p : Path) (r : TapReq) (seq : Nat) (hc : s₀.After s) :
    s₀.After (State.takeReq s p r seq) := by
  unfold State.takeReq
  dsimp only
  (repeat' split) <;> simp +contextual (maxDischargeDepth := 40) [*]

@[simp] theorem State.reqAnswered_after {s₀ : State} (s : State) (p : Path) (hc : s₀.After s) :
    s₀.After (State.reqAnswered s p) := by
  unfold State.reqAnswered
  try dsimp only
  repeat' first | (simp +contextual (maxDischargeDepth := 40) [*]; done) | split | (refine after_forAll _ _ _ _ ?_ ?_) | (refine after_foldl _ _ _ _ ?_ ?_) | (refine after_foldl_fst _ _ _ _ ?_ ?_) | (refine after_foldl_snd _ _ _ _ ?_ ?_) | (intro _ _ _; try dsimp only)

@[simp] theorem State.wxRequest_after {s₀ : State} (s : State) (p : Path) (c : Word) (hc : s₀.After s) :
    s₀.After (State.wxRequest s p c) := by
  unfold State.wxRequest
  simp +contextual (maxDischargeDepth := 40) [*]

@[simp] theorem State.ieeeRequest_after {s₀ : State} (s : State) (p : Path) (r : TapReq) (hc : s₀.After s) :
    s₀.After (State.ieeeRequest s p r) := by
  unfold State.ieeeRequest
  simp +contextual (maxDischargeDepth := 40) [*]

@[simp] theorem State.ownRequest_after {s₀ : State} (s : State) (p : Path) (answered : Bool) (hc : s₀.After s) :
    s₀.After (State.ownRequest s p answered) := by
  unfold State.ownRequest
  dsimp only
  (repeat' split) <;> simp +contextual (maxDischargeDepth := 40) [*]

@[simp] theorem State.frameBeat_after {s₀ : State} (s : State) (p : Path) (hc : s₀.After s) :
    s₀.After (State.frameBeat s p) := by
  unfold State.frameBeat
  simp +contextual (maxDischargeDepth := 40) [*]

@[simp] theorem State.tick_after {s₀ : State} (s : State) (hc : s₀.After s) :
    s₀.After (State.tick s) := by
  unfold State.tick
  simp +contextual (maxDischargeDepth := 40) [*]

@[simp] theorem State.frameLock_after {s₀ : State} (s : State) (p : Path) (f : TrnFrame) (good : Bool) (hc : s₀.After s) :
    s₀.After (State.frameLock s p f good) := by
  unfold State.frameLock
  simp +contextual (maxDischargeDepth := 40) [*]

@[simp] theorem State.frameFields_after {s₀ : State} (s : State) (p : Path) (f : TrnFrame) (hc : s₀.After s) :
    s₀.After (State.frameFields s p f) := by
  unfold State.frameFields
  simp +contextual (maxDischargeDepth := 40) [*]

@[simp] theorem State.trainFrame_after {s₀ : State} (s : State) (p : Path) (f : TrnFrame) (hc : s₀.After s) :
    s₀.After (State.trainFrame s p f) := by
  unfold State.trainFrame
  simp +contextual (maxDischargeDepth := 40) [*]

@[simp] theorem State.anPageBad_after {s₀ : State} (s : State) (p : Path) (hc : s₀.After s) :
    s₀.After (State.anPageBad s p) := by
  unfold State.anPageBad
  simp +contextual (maxDischargeDepth := 40) [*]

@[simp] theorem State.anRelay_after {s₀ : State} (s : State) (p : Path) (page : BitVec 48) (base : Bool) (hc : s₀.After s) :
    s₀.After (State.anRelay s p page base) := by
  unfold State.anRelay
  simp +contextual (maxDischargeDepth := 40) [*]

@[simp] theorem State.anFail_after {s₀ : State} (s : State) (n : Lane) (cause : Nat) (hc : s₀.After s) :
    s₀.After (State.anFail s n cause) := by
  unfold State.anFail
  simp +contextual (maxDischargeDepth := 40) [*]

@[simp] theorem State.anDone_after {s₀ : State} (s : State) (n : Lane) (hc : s₀.After s) :
    s₀.After (State.anDone s n) := by
  unfold State.anDone
  simp +contextual (maxDischargeDepth := 40) [*]

@[simp] theorem State.anResolve_after {s₀ : State} (s : State) (n : Lane) (r : AnResult) (hc : s₀.After s) :
    s₀.After (State.anResolve s n r) := by
  unfold State.anResolve
  dsimp only
  (repeat' split) <;> simp +contextual (maxDischargeDepth := 40) [*]

@[simp] theorem State.anPage_after {s₀ : State} (s : State) (p : Path) (page : BitVec 48) (base err : Bool) (res : Option AnResult) (hc : s₀.After s) :
    s₀.After (State.anPage s p page base err res) := by
  unfold State.anPage
  dsimp only
  (repeat' split) <;> simp +contextual (maxDischargeDepth := 40) [*]

@[simp] theorem State.trnReset_after {s₀ : State} (s : State) (l : List Path) (hc : s₀.After s) :
    s₀.After (State.trnReset s l) := by
  unfold State.trnReset
  simp +contextual (maxDischargeDepth := 40) [*]

/-! ### Machine/Queue.lean -/

@[simp] theorem State.setEng_after {s₀ : State} (s : State) (e : Eng) (v : EngSt) (hc : s₀.After s) :
    s₀.After (State.setEng s e v) := by
  unfold State.setEng
  simp +contextual (maxDischargeDepth := 40) [*]

@[simp] theorem State.modEng_after {s₀ : State} (s : State) (e : Eng) (f : EngSt → EngSt) (hc : s₀.After s) :
    s₀.After (State.modEng s e f) := by
  unfold State.modEng
  simp +contextual (maxDischargeDepth := 40) [*]

@[simp] theorem State.postAnswer_after {s₀ : State} (s : State) (e : Eng) (r : BitVec 128) (hc : s₀.After s) :
    s₀.After (State.postAnswer s e r) := by
  unfold State.postAnswer
  simp +contextual (maxDischargeDepth := 40) [*]

@[simp] theorem State.answerCmd_after {s₀ : State} (s : State) (e : Eng) (c : BitVec 128) (epoch status detail : Nat) (r0 r1 : Word) (hc : s₀.After s) :
    s₀.After (State.answerCmd s e c epoch status detail r0 r1) := by
  unfold State.answerCmd
  simp +contextual (maxDischargeDepth := 40) [*]

@[simp] theorem State.notice_after {s₀ : State} (s : State) (e : Eng) (code : Nat) (r0 r1 : Word) (ev : Bool) (hc : s₀.After s) :
    s₀.After (State.notice s e code r0 r1 ev) := by
  unfold State.notice
  simp +contextual (maxDischargeDepth := 40) [*]

@[simp] theorem State.popAnswer_after {s₀ : State} (s : State) (e : Eng) (hc : s₀.After s) :
    s₀.After (State.popAnswer s e).2 := by
  unfold State.popAnswer
  dsimp only
  (repeat' split) <;> simp +contextual (maxDischargeDepth := 40) [*]

@[simp] theorem State.emptyCmdq_after {s₀ : State} (s : State) (e : Eng) (hc : s₀.After s) :
    s₀.After (State.emptyCmdq s e) := by
  unfold State.emptyCmdq
  simp +contextual (maxDischargeDepth := 40) [*]

@[simp] theorem State.releaseLong_after {s₀ : State} (s : State) (e : Eng) (hc : s₀.After s) :
    s₀.After (State.releaseLong s e) := by
  unfold State.releaseLong
  simp +contextual (maxDischargeDepth := 40) [*]

@[simp] theorem State.endLong_after {s₀ : State} (s : State) (e : Eng) (status detail : Nat) (r0 r1 : Word) (hc : s₀.After s) :
    s₀.After (State.endLong s e status detail r0 r1) := by
  unfold State.endLong
  try dsimp only
  repeat' first | (simp +contextual (maxDischargeDepth := 40) [*]; done) | split | (refine after_forAll _ _ _ _ ?_ ?_) | (refine after_foldl _ _ _ _ ?_ ?_) | (refine after_foldl_fst _ _ _ _ ?_ ?_) | (refine after_foldl_snd _ _ _ _ ?_ ?_) | (intro _ _ _; try dsimp only)

@[simp] theorem State.abortLong_after {s₀ : State} (s : State) (e : Eng) (hc : s₀.After s) :
    s₀.After (State.abortLong s e) := by
  unfold State.abortLong
  simp +contextual (maxDischargeDepth := 40) [*]

end Sys2Proof.Machine
end

