-- ==== Sys2Proof/Laws/AfterUnits.lean ====
section
/-!
SUPPORT. Laws/AfterUnits.lean: what State.After says of: the flash, the power states, the lanes and their trims.
-/
namespace Sys2Proof.Machine

set_option linter.unusedTactic false
set_option linter.unreachableTactic false

/-! ### Machine/Flash.lean -/

@[simp] theorem State.modFlash_after {s₀ : State} (s : State) (f : FlashSt → FlashSt) (hc : s₀.After s) :
    s₀.After (State.modFlash s f) := by
  unfold State.modFlash
  simp +contextual (maxDischargeDepth := 40) [*]

@[simp] theorem State.flashPut_after {s₀ : State} (s : State) (a : Nat) (b : Byte) (hc : s₀.After s) :
    s₀.After (State.flashPut s a b) := by
  unfold State.flashPut
  simp +contextual (maxDischargeDepth := 40) [*]

@[simp] theorem State.flashWrite_after {s₀ : State} (s : State) (a : Nat) (l : List Byte) (hc : s₀.After s) :
    s₀.After (State.flashWrite s a l) := by
  unfold State.flashWrite
  simp +contextual (maxDischargeDepth := 40) [*]

@[simp] theorem State.flashErase_after {s₀ : State} (s : State) (k n : Nat) (hc : s₀.After s) :
    s₀.After (State.flashErase s k n) := by
  unfold State.flashErase
  simp +contextual (maxDischargeDepth := 40) [*]

@[simp] theorem State.flashUndef_after {s₀ : State} (s : State) (l : List Nat) (hc : s₀.After s) :
    s₀.After (State.flashUndef s l) := by
  unfold State.flashUndef
  simp +contextual (maxDischargeDepth := 40) [*]

@[simp] theorem State.flashProgram_after {s₀ : State} (s : State) (a : Nat) (l : List Byte) (hc : s₀.After s) :
    s₀.After (State.flashProgram s a l).1 := by
  unfold State.flashProgram
  simp +contextual (maxDischargeDepth := 40) [*]

@[simp] theorem State.setActive_after {s₀ : State} (s : State) (r slot : Nat) (hc : s₀.After s) :
    s₀.After (State.setActive s r slot) := by
  unfold State.setActive
  simp +contextual (maxDischargeDepth := 40) [*]

@[simp] theorem State.validateRecords_after {s₀ : State} (s : State) (hc : s₀.After s) :
    s₀.After (State.validateRecords s) := by
  unfold State.validateRecords
  simp +contextual (maxDischargeDepth := 40) [*]

@[simp] theorem State.flashSpoil_after {s₀ : State} (s : State) (a n : Nat) (hc : s₀.After s) :
    s₀.After (State.flashSpoil s a n) := by
  unfold State.flashSpoil
  simp +contextual (maxDischargeDepth := 40) [*]

@[simp] theorem State.storeSpoil_after {s₀ : State} (s : State) (a n : Nat) (hc : s₀.After s) :
    s₀.After (State.storeSpoil s a n) := by
  unfold State.storeSpoil
  simp +contextual (maxDischargeDepth := 40) [*]

@[simp] theorem State.storeRecord_after {s₀ : State} (s : State) (r : Nat) (rec : List Byte) (ok : Bool) (hc : s₀.After s) :
    s₀.After (State.storeRecord s r rec ok) := by
  unfold State.storeRecord
  simp +contextual (maxDischargeDepth := 40) [*]

@[simp] theorem State.energyCheck_after {s₀ : State} (s : State) (kind req : Nat) (hc : s₀.After s) :
    s₀.After (State.energyCheck s kind req).1 := by
  unfold State.energyCheck
  simp +contextual (maxDischargeDepth := 40) [*]

@[simp] theorem State.modReh_after {s₀ : State} (s : State) (f : RehSt → RehSt) (hc : s₀.After s)
    (hf : s₀.reh.fuses <+: s.reh.fuses → s₀.reh.fuses <+: (f s.reh).fuses) : s₀.After (s.modReh f) := by
  unfold State.modReh
  simp [hc, hf (State.After.fuses_prefix hc)]

@[simp] theorem State.nvmBufSet_after {s₀ : State} (s : State) (l : List Byte) (hc : s₀.After s) :
    s₀.After (State.nvmBufSet s l) := by
  unfold State.nvmBufSet
  simp +contextual (maxDischargeDepth := 40) [*]

@[simp] theorem State.hostEnd_after {s₀ : State} (s : State) (res : Nat) (hc : s₀.After s) :
    s₀.After (State.hostEnd s res) := by
  unfold State.hostEnd
  simp +contextual (maxDischargeDepth := 40) [*]

@[simp] theorem State.keyEnd_after {s₀ : State} (s : State) (res : Nat) (hc : s₀.After s) : s₀.After (s.keyEnd res) := by
  unfold State.keyEnd
  extract_lets spend s1 s2
  have h := State.After.security_later hc
  have hs : s₀.After (spend s) := by
    simp only [spend]
    split
    · obtain ⟨h1, h2, h3, h4, h5, h6, h7, h8, h9, h10, h11, h12, h13, h14, h15, -, h17⟩ := hc
      refine ⟨h1, h2, h3, h4, h5, h6, h7, h8, h9, h10, h11, h12, h13, h14, h15, ?_, h17⟩
      split
      · exact ⟨⟨fun _ => rfl, h.1.2⟩, h.2⟩
      · exact ⟨h.1, ⟨fun _ => rfl, h.2.1.2⟩, h.2.2⟩
    · exact hc
  have h1 : s₀.After s1 := by
    simp only [s1]
    split <;> assumption
  have h2 : s₀.After s2 := State.rstRange_after _ _ _ _ (State.setF_after _ _ _ _ (State.setF_after _ _ _ _ h1))
  clear_value s2
  have h3 : s₀.After { s2 with security := { s2.security with op := none } } := by simp [h2]
  exact State.raiseIf_after _ _ _ _ h3

@[simp] theorem State.rehRefused_after {s₀ : State} (s : State) (cause : Nat) (hc : s₀.After s) :
    s₀.After (State.rehRefused s cause) := by
  unfold State.rehRefused
  simp +contextual (maxDischargeDepth := 40) [*]

@[simp] theorem State.rehOver_after {s₀ : State} (s : State) (hc : s₀.After s) :
    s₀.After (State.rehOver s) := by
  unfold State.rehOver
  simp +contextual (maxDischargeDepth := 40) [*]

@[simp] theorem State.flashRefused_after {s₀ : State} (s : State) (op : FlashOp) (hc : s₀.After s) :
    s₀.After (State.flashRefused s op) := by
  unfold State.flashRefused
  try dsimp only
  repeat' first | (simp +contextual (maxDischargeDepth := 40) [*]; done) | split | (refine after_forAll _ _ _ _ ?_ ?_) | (refine after_foldl _ _ _ _ ?_ ?_) | (refine after_foldl_fst _ _ _ _ ?_ ?_) | (refine after_foldl_snd _ _ _ _ ?_ ?_) | (intro _ _ _; try dsimp only)

@[simp] theorem State.flashStart_after {s₀ : State} (s : State) (op : FlashOp) (rest : List FlashOp) (hc : s₀.After s) :
    s₀.After (State.flashStart s op rest) := by
  unfold State.flashStart
  dsimp only
  (repeat' split) <;> simp +contextual (maxDischargeDepth := 40) [*]

@[simp] theorem State.flashHold_after {s₀ : State} (s : State) (op : FlashOp) (hc : s₀.After s) :
    s₀.After (State.flashHold s op) := by
  unfold State.flashHold
  dsimp only
  (repeat' split) <;> simp +contextual (maxDischargeDepth := 40) [*]

@[simp] theorem State.flashServeN_after (n0 : Nat) (s : State) {s₀ : State} (hc : s₀.After s) :
    s₀.After (State.flashServeN n0 s) := by
  induction n0 generalizing s with
  | zero => exact hc
  | succ n ih =>
    unfold State.flashServeN
    try dsimp only
    repeat' first | (simp +contextual (maxDischargeDepth := 40) [*]; done) | split | (refine after_forAll _ _ _ _ ?_ ?_) | (refine after_foldl _ _ _ _ ?_ ?_) | (refine after_foldl_fst _ _ _ _ ?_ ?_) | (refine after_foldl_snd _ _ _ _ ?_ ?_) | (intro _ _ _; try dsimp only)

@[simp] theorem State.flashServe_after {s₀ : State} (s : State) (hc : s₀.After s) :
    s₀.After (State.flashServe s) := by
  unfold State.flashServe
  simp +contextual (maxDischargeDepth := 40) [*]

@[simp] theorem State.flashQueue_after {s₀ : State} (s : State) (op : FlashOp) (hc : s₀.After s) :
    s₀.After (State.flashQueue s op) := by
  unfold State.flashQueue
  simp +contextual (maxDischargeDepth := 40) [*]

@[simp] theorem State.calCommitted_after {s₀ : State} (s : State) (hc : s₀.After s) :
    s₀.After (State.calCommitted s) := by
  unfold State.calCommitted
  simp +contextual (maxDischargeDepth := 40) [*]

@[simp] theorem State.calDirty_after {s₀ : State} (s : State) (hc : s₀.After s) :
    s₀.After (State.calDirty s) := by
  unfold State.calDirty
  simp +contextual (maxDischargeDepth := 40) [*]

@[simp] theorem State.hostOpEnd_after {s₀ : State} (s : State) (op r addr len : Nat) (rec : List Byte) (ok : Bool) (hc : s₀.After s) :
    s₀.After (State.hostOpEnd s op r addr len rec ok) := by
  unfold State.hostOpEnd
  simp +contextual (maxDischargeDepth := 40) [*]

@[simp] theorem State.flashEnd_after {s₀ : State} (s : State) (ok : Bool) (hc : s₀.After s) :
    s₀.After (State.flashEnd s ok) := by
  unfold State.flashEnd
  dsimp only
  (repeat' split) <;> simp +contextual (maxDischargeDepth := 40) [*]

@[simp] theorem State.nvmCmd_after {s₀ : State} (s : State) (op r : Nat) (hc : s₀.After s) :
    s₀.After (State.nvmCmd s op r) := by
  unfold State.nvmCmd
  simp +contextual (maxDischargeDepth := 40) [*]

@[simp] theorem State.flashDrop_after {s₀ : State} (s : State) (hc : s₀.After s) :
    s₀.After (State.flashDrop s) := by
  unfold State.flashDrop
  simp +contextual (maxDischargeDepth := 40) [*]

@[simp] theorem State.flashCut_after {s₀ : State} (s : State) (hc : s₀.After s) :
    s₀.After (State.flashCut s) := by
  unfold State.flashCut
  simp +contextual (maxDischargeDepth := 40) [*]

/-! ### Machine/Trim.lean -/

@[simp] theorem State.putTrim_after {s₀ : State} (s : State) (p : Path) (t : TrimSt) (hc : s₀.After s) :
    s₀.After (State.putTrim s p t) := by
  unfold State.putTrim
  simp +contextual (maxDischargeDepth := 40) [*]

@[simp] theorem State.setTrim_after {s₀ : State} (s : State) (p : Path) (t : TrimSt) (hc : s₀.After s) :
    s₀.After (State.setTrim s p t) := by
  unfold State.setTrim
  simp +contextual (maxDischargeDepth := 40) [*]

@[simp] theorem State.setPend_after {s₀ : State} (s : State) (p : Path) (v : List (Nat × List Int)) (hc : s₀.After s) :
    s₀.After (State.setPend s p v) := by
  unfold State.setPend
  simp +contextual (maxDischargeDepth := 40) [*]

@[simp] theorem State.setRamp_after {s₀ : State} (s : State) (p : Path) (v : List (Nat × List Int)) (hc : s₀.After s) :
    s₀.After (State.setRamp s p v) := by
  unfold State.setRamp
  simp +contextual (maxDischargeDepth := 40) [*]

@[simp] theorem State.calApplyPath_after {s₀ : State} (s : State) (p : Path) (hc : s₀.After s) :
    s₀.After (State.calApplyPath s p) := by
  unfold State.calApplyPath
  simp +contextual (maxDischargeDepth := 40) [*]

@[simp] theorem State.calApply_after {s₀ : State} (s : State) (g : Grp) (hc : s₀.After s) :
    s₀.After (State.calApply s g) := by
  unfold State.calApply
  simp +contextual (maxDischargeDepth := 40) [*]

@[simp] theorem State.modCal_after {s₀ : State} (s : State) (g : Grp) (f : CalSt → CalSt) (hc : s₀.After s) :
    s₀.After (State.modCal s g f) := by
  unfold State.modCal
  simp +contextual (maxDischargeDepth := 40) [*]

@[simp] theorem State.needRaise_after {s₀ : State} (s : State) (g : Grp) (before : List Bool) (hc : s₀.After s) :
    s₀.After (State.needRaise s g before) := by
  unfold State.needRaise
  simp +contextual (maxDischargeDepth := 40) [*]

@[simp] theorem State.setDone_after {s₀ : State} (s : State) (p : Path) (b : Bool) (hc : s₀.After s) :
    s₀.After (State.setDone s p b) := by
  unfold State.setDone
  simp +contextual (maxDischargeDepth := 40) [*]

@[simp] theorem State.calAutoStore_after {s₀ : State} (s : State) (hc : s₀.After s) :
    s₀.After (State.calAutoStore s) := by
  unfold State.calAutoStore
  simp +contextual (maxDischargeDepth := 40) [*]

@[simp] theorem State.calCmdEnd_after {s₀ : State} (s : State) (g : Grp) (done : Bool) (hc : s₀.After s) :
    s₀.After (State.calCmdEnd s g done) := by
  unfold State.calCmdEnd
  try dsimp only
  repeat' first | (simp +contextual (maxDischargeDepth := 40) [*]; done) | split | (refine after_forAll _ _ _ _ ?_ ?_) | (refine after_foldl _ _ _ _ ?_ ?_) | (refine after_foldl_fst _ _ _ _ ?_ ?_) | (refine after_foldl_snd _ _ _ _ ?_ ?_) | (intro _ _ _; try dsimp only)

@[simp] theorem State.calComplete_after {s₀ : State} (s : State) (g : Grp) (hc : s₀.After s) :
    s₀.After (State.calComplete s g) := by
  unfold State.calComplete
  simp +contextual (maxDischargeDepth := 40) [*]

@[simp] theorem State.calBlocksDone_after {s₀ : State} (s : State) (g : Grp) (hc : s₀.After s) :
    s₀.After (State.calBlocksDone s g) := by
  unfold State.calBlocksDone
  simp +contextual (maxDischargeDepth := 40) [*]

@[simp] theorem State.calNext_after {s₀ : State} (s : State) (g : Grp) (hc : s₀.After s) :
    s₀.After (State.calNext s g) := by
  unfold State.calNext
  simp +contextual (maxDischargeDepth := 40) [*]

@[simp] theorem State.calStart_after {s₀ : State} (s : State) (g : Grp) (trig : Nat) (ramp : Bool) (mask : Nat) (hc : s₀.After s) :
    s₀.After (State.calStart s g trig ramp mask) := by
  unfold State.calStart
  simp +contextual (maxDischargeDepth := 40) [*]

@[simp] theorem State.calTrigger_after {s₀ : State} (s : State) (g : Grp) (trig : Nat) (ramp : Bool) (mask : Nat) (hc : s₀.After s) :
    s₀.After (State.calTrigger s g trig ramp mask) := by
  unfold State.calTrigger
  simp +contextual (maxDischargeDepth := 40) [*]

@[simp] theorem State.calRecover_after {s₀ : State} (s : State) (g : Grp) (hc : s₀.After s) :
    s₀.After (State.calRecover s g) := by
  unfold State.calRecover
  simp +contextual (maxDischargeDepth := 40) [*]

@[simp] theorem State.calPendStart_after {s₀ : State} (s : State) (g : Grp) (hc : s₀.After s) :
    s₀.After (State.calPendStart s g) := by
  unfold State.calPendStart
  simp +contextual (maxDischargeDepth := 40) [*]
  (repeat' split) <;> simp +contextual (maxDischargeDepth := 40) [*]

@[simp] theorem State.calAbandon_after {s₀ : State} (s : State) (g : Grp) (keep : Bool) (hc : s₀.After s) :
    s₀.After (State.calAbandon s g keep) := by
  unfold State.calAbandon
  simp +contextual (maxDischargeDepth := 40) [*]

@[simp] theorem State.calSettle_after {s₀ : State} (s : State) (g : Grp) (hc : s₀.After s) :
    s₀.After (State.calSettle s g) := by
  unfold State.calSettle
  simp +contextual (maxDischargeDepth := 40) [*]

@[simp] theorem State.calFail_after {s₀ : State} (s : State) (p : Path) (b slice cause : Nat) (hc : s₀.After s) :
    s₀.After (State.calFail s p b slice cause) := by
  unfold State.calFail
  simp +contextual (maxDischargeDepth := 40) [*]

@[simp] theorem State.calResult_after {s₀ : State} (s : State) (p : Path) (b : Nat) (r : Option CalRes) (hc : s₀.After s) :
    s₀.After (State.calResult s p b r) := by
  unfold State.calResult
  dsimp only
  (repeat' split) <;> simp +contextual (maxDischargeDepth := 40) [*]

@[simp] theorem State.calBlockEnd_after {s₀ : State} (s : State) (g : Grp) (l : List CalRes) (hc : s₀.After s) :
    s₀.After (State.calBlockEnd s g l) := by
  unfold State.calBlockEnd
  simp +contextual (maxDischargeDepth := 40) [*]

@[simp] theorem State.rampStep_after {s₀ : State} (s : State) (g : Grp) (hc : s₀.After s) :
    s₀.After (State.rampStep s g) := by
  unfold State.rampStep
  simp +contextual (maxDischargeDepth := 40) [*]

@[simp] theorem State.calSuspend_after {s₀ : State} (s : State) (hc : s₀.After s) :
    s₀.After (State.calSuspend s) := by
  unfold State.calSuspend
  simp +contextual (maxDischargeDepth := 40) [*]

@[simp] theorem State.addRepair_after {s₀ : State} (s : State) (w : Word) (test : Nat) (hc : s₀.After s) :
    s₀.After (State.addRepair s w test) := by
  unfold State.addRepair
  simp +contextual (maxDischargeDepth := 40) [*]

@[simp] theorem State.retireEntry_after {s₀ : State} (s : State) (p : Path) (k : Nat) (hc : s₀.After s) :
    s₀.After (State.retireEntry s p k) := by
  unfold State.retireEntry
  simp +contextual (maxDischargeDepth := 40) [*]

@[simp] theorem State.sliceReleased_after {s₀ : State} (s : State) (p : Path) (k : Nat) (ok : Bool) (ofs gain skew : Byte) (hc : s₀.After s) :
    s₀.After (State.sliceReleased s p k ok ofs gain skew) := by
  unfold State.sliceReleased
  simp +contextual (maxDischargeDepth := 40) [*]

@[simp] theorem State.disruptOpen_after {s₀ : State} (s : State) (p : Path) (hc : s₀.After s) :
    s₀.After (State.disruptOpen s p) := by
  unfold State.disruptOpen
  simp +contextual (maxDischargeDepth := 40) [*]

@[simp] theorem State.disruptAsk_after {s₀ : State} (s : State) (g : Grp) (i : Nat) (hc : s₀.After s) :
    s₀.After (State.disruptAsk s g i) := by
  unfold State.disruptAsk
  simp +contextual (maxDischargeDepth := 40) [*]
  (repeat' split) <;> simp +contextual (maxDischargeDepth := 40) [*]

@[simp] theorem State.disruptSlice_after {s₀ : State} (s : State) (p : Path) (skewed first : Bool) (l : List SliceRes) (k : Nat) (hc : s₀.After s) :
    s₀.After (State.disruptSlice s p skewed first l k) := by
  unfold State.disruptSlice
  dsimp only
  (repeat' split) <;> simp +contextual (maxDischargeDepth := 40) [*]

@[simp] theorem State.disruptClose_after {s₀ : State} (s : State) (p : Path) (l : List SliceRes) (hc : s₀.After s) :
    s₀.After (State.disruptClose s p l) := by
  unfold State.disruptClose
  simp +contextual (maxDischargeDepth := 40) [*]

@[simp] theorem State.disruptExit_after {s₀ : State} (s : State) (g : Grp) (hc : s₀.After s) :
    s₀.After (State.disruptExit s g) := by
  unfold State.disruptExit
  try dsimp only
  repeat' first | (simp +contextual (maxDischargeDepth := 40) [*]; done) | split | (refine after_forAll _ _ _ _ ?_ ?_) | (refine after_foldl _ _ _ _ ?_ ?_) | (refine after_foldl_fst _ _ _ _ ?_ ?_) | (refine after_foldl_snd _ _ _ _ ?_ ?_) | (intro _ _ _; try dsimp only)

/-! ### Machine/Power.lean -/

@[simp] theorem State.sdStop_after {s₀ : State} (s : State) (p : Path) (hc : s₀.After s) :
    s₀.After (State.sdStop s p) := by
  unfold State.sdStop
  simp +contextual (maxDischargeDepth := 40) [*]

@[simp] theorem State.pllStop_after {s₀ : State} (s : State) (g : Grp) (hc : s₀.After s) :
    s₀.After (State.pllStop s g) := by
  unfold State.pllStop
  simp +contextual (maxDischargeDepth := 40) [*]

@[simp] theorem State.enterDown_after {s₀ : State} (s : State) (g : Grp) (st cause : Nat) (hc : s₀.After s) :
    s₀.After (State.enterDown s g st cause) := by
  unfold State.enterDown
  simp +contextual (maxDischargeDepth := 40) [*]

@[simp] theorem State.exitBegin_after {s₀ : State} (s : State) (g : Grp) (cause : Nat) (hc : s₀.After s) :
    s₀.After (State.exitBegin s g cause) := by
  unfold State.exitBegin
  simp +contextual (maxDischargeDepth := 40) [*]

@[simp] theorem State.pwBegin_after {s₀ : State} (s : State) (g : Grp) (rq cause : Nat) (byHost : Bool) (hc : s₀.After s) :
    s₀.After (State.pwBegin s g rq cause byHost) := by
  unfold State.pwBegin
  simp +contextual (maxDischargeDepth := 40) [*]

@[simp] theorem State.pwPend_after {s₀ : State} (s : State) (g : Grp) (rq cause : Nat) (byHost : Bool) (hc : s₀.After s) :
    s₀.After (State.pwPend s g rq cause byHost) := by
  unfold State.pwPend
  simp +contextual (maxDischargeDepth := 40) [*]

@[simp] theorem State.pwRequest_after {s₀ : State} (s : State) (g : Grp) (rq cause : Nat) (byHost : Bool) (hc : s₀.After s) :
    s₀.After (State.pwRequest s g rq cause byHost) := by
  unfold State.pwRequest
  simp +contextual (maxDischargeDepth := 40) [*]

@[simp] theorem State.pwHost_after {s₀ : State} (s : State) (g : Grp) (rq : Nat) (hc : s₀.After s) :
    s₀.After (State.pwHost s g rq) := by
  unfold State.pwHost
  simp +contextual (maxDischargeDepth := 40) [*]

@[simp] theorem State.pwTakePend_after {s₀ : State} (s : State) (g : Grp) (hc : s₀.After s) :
    s₀.After (State.pwTakePend s g) := by
  unfold State.pwTakePend
  dsimp only
  (repeat' split) <;> simp +contextual (maxDischargeDepth := 40) [*]

@[simp] theorem State.levelAct_after {s₀ : State} (s : State) (g : Grp) (hc : s₀.After s) :
    s₀.After (State.levelAct s g) := by
  unfold State.levelAct
  simp +contextual (maxDischargeDepth := 40) [*]

@[simp] theorem State.pwReach_after {s₀ : State} (s : State) (g : Grp) (hc : s₀.After s) :
    s₀.After (State.pwReach s g) := by
  unfold State.pwReach
  simp +contextual (maxDischargeDepth := 40) [*]

@[simp] theorem State.transEnd_after {s₀ : State} (s : State) (g : Grp) (hc : s₀.After s) :
    s₀.After (State.transEnd s g) := by
  unfold State.transEnd
  simp +contextual (maxDischargeDepth := 40) [*]

@[simp] theorem State.idleExpiry_after {s₀ : State} (s : State) (g : Grp) (hc : s₀.After s) :
    s₀.After (State.idleExpiry s g) := by
  unfold State.idleExpiry
  simp +contextual (maxDischargeDepth := 40) [*]

@[simp] theorem State.pulseWake_after {s₀ : State} (s : State) (g : Grp) (cause : Nat) (hc : s₀.After s) :
    s₀.After (State.pulseWake s g cause) := by
  unfold State.pulseWake
  dsimp only
  (repeat' split) <;> simp +contextual (maxDischargeDepth := 40) [*]

@[simp] theorem State.markWake_after {s₀ : State} (s : State) (hc : s₀.After s) :
    s₀.After (State.markWake s) := by
  unfold State.markWake
  simp +contextual (maxDischargeDepth := 40) [*]

@[simp] theorem State.pwBusyEnd_after {s₀ : State} (s : State) (g : Grp) (hc : s₀.After s) :
    s₀.After (State.pwBusyEnd s g) := by
  unfold State.pwBusyEnd
  simp +contextual (maxDischargeDepth := 40) [*]

@[simp] theorem State.holdBegun_after {s₀ : State} (s : State) (g : Grp) (hc : s₀.After s) :
    s₀.After (State.holdBegun s g) := by
  unfold State.holdBegun
  simp +contextual (maxDischargeDepth := 40) [*]

@[simp] theorem State.engHalt_after {s₀ : State} (s : State) (e : Eng) (st : Nat) (hc : s₀.After s) :
    s₀.After (State.engHalt s e st) := by
  unfold State.engHalt
  dsimp only
  (repeat' split) <;> simp +contextual (maxDischargeDepth := 40) [*]

@[simp] theorem State.oosChanged_after {s₀ : State} (s : State) (p : Path) (hc : s₀.After s) :
    s₀.After (State.oosChanged s p) := by
  unfold State.oosChanged
  simp +contextual (maxDischargeDepth := 40) [*]

/-! ### Machine/Lane.lean -/

@[simp] theorem State.setRelock_after {s₀ : State} (s : State) (g : Grp) (b v : Bool) (hc : s₀.After s) :
    s₀.After (State.setRelock s g b v) := by
  unfold State.setRelock
  simp +contextual (maxDischargeDepth := 40) [*]

@[simp] theorem State.pllLocked_after {s₀ : State} (s : State) (g : Grp) (b : Bool) (band : BitVec 6) (hc : s₀.After s) :
    s₀.After (State.pllLocked s g b band) := by
  unfold State.pllLocked
  simp +contextual (maxDischargeDepth := 40) [*]

@[simp] theorem State.pllPathsLose_after {s₀ : State} (s : State) (g : Grp) (b : Bool) (hc : s₀.After s) :
    s₀.After (State.pllPathsLose s g b) := by
  unfold State.pllPathsLose
  simp +contextual (maxDischargeDepth := 40) [*]

@[simp] theorem State.pllUnlock_after {s₀ : State} (s : State) (g : Grp) (b : Bool) (hc : s₀.After s) :
    s₀.After (State.pllUnlock s g b) := by
  unfold State.pllUnlock
  simp +contextual (maxDischargeDepth := 40) [*]

@[simp] theorem State.pllLoss_after {s₀ : State} (s : State) (g : Grp) (b : Bool) (hc : s₀.After s) :
    s₀.After (State.pllLoss s g b) := by
  unfold State.pllLoss
  simp +contextual (maxDischargeDepth := 40) [*]

@[simp] theorem State.pllHoldEnd_after {s₀ : State} (s : State) (g : Grp) (b : Bool) (hc : s₀.After s) :
    s₀.After (State.pllHoldEnd s g b) := by
  unfold State.pllHoldEnd
  simp +contextual (maxDischargeDepth := 40) [*]

@[simp] theorem State.sdChange_after {s₀ : State} (s : State) (p : Path) (level : Bool) (hc : s₀.After s) :
    s₀.After (State.sdChange s p level) := by
  unfold State.sdChange
  simp +contextual (maxDischargeDepth := 40) [*]

@[simp] theorem State.lockAcquire_after {s₀ : State} (s : State) (p : Path) (ofs : BitVec 16) (hc : s₀.After s) :
    s₀.After (State.lockAcquire s p ofs) := by
  unfold State.lockAcquire
  simp +contextual (maxDischargeDepth := 40) [*]

@[simp] theorem State.lockLoss_after {s₀ : State} (s : State) (p : Path) (cut : Bool) (hc : s₀.After s) :
    s₀.After (State.lockLoss s p cut) := by
  unfold State.lockLoss
  simp +contextual (maxDischargeDepth := 40) [*]

@[simp] theorem State.markSeen_after {s₀ : State} (s : State) (hc : s₀.After s) :
    s₀.After (State.markSeen s) := by
  unfold State.markSeen
  simp +contextual (maxDischargeDepth := 40) [*]

@[simp] theorem State.convRecord_after {s₀ : State} (s : State) (p : Path) (hc : s₀.After s) :
    s₀.After (State.convRecord s p) := by
  unfold State.convRecord
  dsimp only
  (repeat' split) <;> simp +contextual (maxDischargeDepth := 40) [*]

@[simp] theorem State.zeroMark_after {s₀ : State} (s : State) (hc : s₀.After s) :
    s₀.After (State.zeroMark s) := by
  unfold State.zeroMark
  simp +contextual (maxDischargeDepth := 40) [*]

@[simp] theorem State.badMark_after {s₀ : State} (s : State) (moved : Bool) (hc : s₀.After s) :
    s₀.After (State.badMark s moved) := by
  unfold State.badMark
  simp +contextual (maxDischargeDepth := 40) [*]

end Sys2Proof.Machine
end

