-- ==== Sys2Proof/Laws/AfterScenes.lean ====
section
/-!
SUPPORT. Laws/AfterScenes.lean: what State.After says of: scenes and cues.
-/
namespace Sys2Proof.Machine

set_option linter.unusedTactic false
set_option linter.unreachableTactic false

/-! ### Machine/Scenes.lean -/

@[simp] theorem State.entryChecks_after (s : State) (w : Option Eng) (v : Nat → Word) (base : Nat)
    (l : List (Nat × SEntry)) {s₀ : State} (hc : s₀.After s) : s₀.After (s.entryChecks w v base l).1 := by
  induction l generalizing s with
  | nil => exact hc
  | cons x t ih =>
    obtain ⟨i, e⟩ := x
    unfold State.entryChecks
    extract_lets r
    have hr : s₀.After r.1 := by simp [r, hc]
    split
    · exact hr
    · split
      · exact hr
      · exact ih _ hr

@[simp] theorem State.checkScene_after {s₀ : State} (s : State) (j : Job) (scene : Nat) (hc : s₀.After s) :
    s₀.After (State.checkScene s j scene).1 := by
  unfold State.checkScene
  dsimp only
  (repeat' split) <;> simp +contextual (maxDischargeDepth := 40) [*]

@[simp] theorem State.emptyOpen_after {s₀ : State} (s : State) (n : Nat) (hc : s₀.After s) :
    s₀.After (State.emptyOpen s n) := by
  unfold State.emptyOpen
  simp +contextual (maxDischargeDepth := 40) [*]

@[simp] theorem State.setSceneStat_after {s₀ : State} (s : State) (n : Nat) (w : Word) (hc : s₀.After s) :
    s₀.After (State.setSceneStat s n w) := by
  unfold State.setSceneStat
  simp +contextual (maxDischargeDepth := 40) [*]

@[simp] theorem State.sceneResult_after {s₀ : State} (s : State) (n r : Nat) (hc : s₀.After s) :
    s₀.After (State.sceneResult s n r) := by
  unfold State.sceneResult
  simp +contextual (maxDischargeDepth := 40) [*]

@[simp] theorem State.openResult_after {s₀ : State} (s : State) (res cause : Nat) (hc : s₀.After s) :
    s₀.After (State.openResult s res cause) := by
  unfold State.openResult
  simp +contextual (maxDischargeDepth := 40) [*]

@[simp] theorem State.cueSkipped_after {s₀ : State} (s : State) (c : BitVec 12) (n : Nat) (hc : s₀.After s) :
    s₀.After (State.cueSkipped s c n) := by
  unfold State.cueSkipped
  simp +contextual (maxDischargeDepth := 40) [*]

@[simp] theorem State.nextSeq_after {s₀ : State} (s : State) (hc : s₀.After s) :
    s₀.After (State.nextSeq s).2 := by
  unfold State.nextSeq
  simp +contextual (maxDischargeDepth := 40) [*]

@[simp] theorem State.jobDue_after {s₀ : State} (s : State) (x : JobSt) (hc : s₀.After s) :
    s₀.After (State.jobDue s x) := by
  unfold State.jobDue
  dsimp only
  (repeat' split) <;> simp +contextual (maxDischargeDepth := 40) [*]

@[simp] theorem State.rearm_after {s₀ : State} (s : State) (x : JobSt) (c : BitVec 12) (hc : s₀.After s) :
    s₀.After (State.rearm s x c) := by
  unfold State.rearm
  dsimp only
  (repeat' split) <;> simp +contextual (maxDischargeDepth := 40) [*]

@[simp] theorem State.lateTime_after {s₀ : State} (s : State) (x : JobSt) (c : BitVec 12) (trig : Option Nat) (outcome : Nat) (hc : s₀.After s) :
    s₀.After (State.lateTime s x c trig outcome) := by
  unfold State.lateTime
  simp +contextual (maxDischargeDepth := 40) [*]

@[simp] theorem State.hostFail_after {s₀ : State} (s : State) (x : JobSt) (cause entry addr : Nat) (hc : s₀.After s) :
    s₀.After (State.hostFail s x cause entry addr) := by
  unfold State.hostFail
  dsimp only
  (repeat' split) <;> simp +contextual (maxDischargeDepth := 40) [*]

@[simp] theorem State.engSceneFail_after {s₀ : State} (s : State) (e : Eng) (cause entry addr : Nat) (hc : s₀.After s) :
    s₀.After (State.engSceneFail s e cause entry addr) := by
  unfold State.engSceneFail
  dsimp only
  (repeat' split) <;> simp +contextual (maxDischargeDepth := 40) [*]

@[simp] theorem State.sceneFail_after {s₀ : State} (s : State) (x : JobSt) (cause entry : Nat) (hc : s₀.After s) :
    s₀.After (State.sceneFail s x cause entry) := by
  unfold State.sceneFail
  dsimp only
  (repeat' split) <;> simp +contextual (maxDischargeDepth := 40) [*]

@[simp] theorem State.stage_after {s₀ : State} (s : State) (x : JobSt) (locks : List Nat) (hc : s₀.After s) :
    s₀.After (State.stage s x locks) := by
  unfold State.stage
  dsimp only
  (repeat' split) <;> simp +contextual (maxDischargeDepth := 40) [*]

@[simp] theorem State.defer_after {s₀ : State} (s : State) (x : JobSt) (hc : s₀.After s) :
    s₀.After (State.defer s x) := by
  unfold State.defer
  dsimp only
  (repeat' split) <;> simp +contextual (maxDischargeDepth := 40) [*]

@[simp] theorem State.runChecks_after {s₀ : State} (s : State) (x : JobSt) (locks : List Nat) (hc : s₀.After s) :
    s₀.After (State.runChecks s x locks) := by
  unfold State.runChecks
  dsimp only
  (repeat' split) <;> simp +contextual (maxDischargeDepth := 40) [*]

@[simp] theorem State.instantLate_after {s₀ : State} (s : State) (x : JobSt) (c : BitVec 12) (hc : s₀.After s) :
    s₀.After (State.instantLate s x c) := by
  unfold State.instantLate
  simp +contextual (maxDischargeDepth := 40) [*]

@[simp] theorem State.checkOrDefer_after {s₀ : State} (s : State) (x : JobSt) (hc : s₀.After s) :
    s₀.After (State.checkOrDefer s x) := by
  unfold State.checkOrDefer
  simp +contextual (maxDischargeDepth := 40) [*]

@[simp] theorem State.validateJob_after {s₀ : State} (s : State) (x : JobSt) (hc : s₀.After s) :
    s₀.After (State.validateJob s x) := by
  unfold State.validateJob
  dsimp only
  (repeat' split) <;> simp +contextual (maxDischargeDepth := 40) [*]

@[simp] theorem State.sceneValidate_after {s₀ : State} (s : State) (hc : s₀.After s) :
    s₀.After (State.sceneValidate s) := by
  unfold State.sceneValidate
  try dsimp only
  repeat' first | (simp +contextual (maxDischargeDepth := 40) [*]; done) | split | (refine after_forAll _ _ _ _ ?_ ?_) | (refine after_foldl _ _ _ _ ?_ ?_) | (refine after_foldl_fst _ _ _ _ ?_ ?_) | (refine after_foldl_snd _ _ _ _ ?_ ?_) | (intro _ _ _; try dsimp only)

@[simp] theorem State.deferredResume_after {s₀ : State} (s : State) (hc : s₀.After s) :
    s₀.After (State.deferredResume s) := by
  unfold State.deferredResume
  try dsimp only
  repeat' first | (simp +contextual (maxDischargeDepth := 40) [*]; done) | split | (refine after_forAll _ _ _ _ ?_ ?_) | (refine after_foldl _ _ _ _ ?_ ?_) | (refine after_foldl_fst _ _ _ _ ?_ ?_) | (refine after_foldl_snd _ _ _ _ ?_ ?_) | (intro _ _ _; try dsimp only)

@[simp] theorem State.locksFreed_after {s₀ : State} (s : State) (hc : s₀.After s) :
    s₀.After (State.locksFreed s) := by
  unfold State.locksFreed
  simp +contextual (maxDischargeDepth := 40) [*]

@[simp] theorem State.commitCut_after {s₀ : State} (s : State) (x : JobSt) (hc : s₀.After s) :
    s₀.After (State.commitCut s x) := by
  unfold State.commitCut
  try dsimp only
  repeat' first | (simp +contextual (maxDischargeDepth := 40) [*]; done) | split | (refine after_forAll _ _ _ _ ?_ ?_) | (refine after_foldl _ _ _ _ ?_ ?_) | (refine after_foldl_fst _ _ _ _ ?_ ?_) | (refine after_foldl_snd _ _ _ _ ?_ ?_) | (intro _ _ _; try dsimp only)

@[simp] theorem State.unstagePages_after {s₀ : State} (s : State) (pages : List Page) (reset : Bool) (hc : s₀.After s) :
    s₀.After (State.unstagePages s pages reset) := by
  unfold State.unstagePages
  try dsimp only
  repeat' first | (simp +contextual (maxDischargeDepth := 40) [*]; done) | split | (refine after_forAll _ _ _ _ ?_ ?_) | (refine after_foldl _ _ _ _ ?_ ?_) | (refine after_foldl_fst _ _ _ _ ?_ ?_) | (refine after_foldl_snd _ _ _ _ ?_ ?_) | (intro _ _ _; try dsimp only)

@[simp] theorem State.checkerEcc_after {s₀ : State} (s : State) (row : Nat) (hc : s₀.After s) :
    s₀.After (State.checkerEcc s row) := by
  unfold State.checkerEcc
  dsimp only
  (repeat' split) <;> simp +contextual (maxDischargeDepth := 40) [*]

/-! ### Machine/Cues.lean -/

@[simp] theorem State.sheetLow_after {s₀ : State} (s : State) (before : Nat) (hc : s₀.After s) :
    s₀.After (State.sheetLow s before) := by
  unfold State.sheetLow
  simp +contextual (maxDischargeDepth := 40) [*]

@[simp] theorem State.armTime_after {s₀ : State} (s : State) (x : JobSt) (c : BitVec 12) (hc : s₀.After s) :
    s₀.After (State.armTime s x c) := by
  unfold State.armTime
  simp +contextual (maxDischargeDepth := 40) [*]

@[simp] theorem State.armMark_after {s₀ : State} (s : State) (x : JobSt) (c : BitVec 12) (hc : s₀.After s) :
    s₀.After (State.armMark s x c) := by
  unfold State.armMark
  try dsimp only
  repeat' first | (simp +contextual (maxDischargeDepth := 40) [*]; done) | split | (refine after_forAll _ _ _ _ ?_ ?_) | (refine after_foldl _ _ _ _ ?_ ?_) | (refine after_foldl_fst _ _ _ _ ?_ ?_) | (refine after_foldl_snd _ _ _ _ ?_ ?_) | (intro _ _ _; try dsimp only)

@[simp] theorem State.cueArm_after {s₀ : State} (s : State) (c : BitVec 12) (hc : s₀.After s) :
    s₀.After (State.cueArm s c) := by
  unfold State.cueArm
  simp +contextual (maxDischargeDepth := 40) [*]

@[simp] theorem State.cueLaunch_after {s₀ : State} (s : State) (c : BitVec 12) (scene : Nat) (hc : s₀.After s) :
    s₀.After (State.cueLaunch s c scene) := by
  unfold State.cueLaunch
  simp +contextual (maxDischargeDepth := 40) [*]

@[simp] theorem State.stepMove_after {s₀ : State} (s : State) (x : JobSt) (old : Nat) (hc : s₀.After s) :
    s₀.After (State.stepMove s x old) := by
  unfold State.stepMove
  simp +contextual (maxDischargeDepth := 40) [*]

@[simp] theorem State.stepFire_after {s₀ : State} (s : State) (x : JobSt) (hc : s₀.After s) :
    s₀.After (State.stepFire s x) := by
  unfold State.stepFire
  simp +contextual (maxDischargeDepth := 40) [*]

@[simp] theorem State.stepForward_after {s₀ : State} (s : State) (x : JobSt) (c : BitVec 12) (hc : s₀.After s) :
    s₀.After (State.stepForward s x c) := by
  unfold State.stepForward
  simp +contextual (maxDischargeDepth := 40) [*]

@[simp] theorem State.stepBack_after {s₀ : State} (s : State) (x : JobSt) (c : BitVec 12) (hc : s₀.After s) :
    s₀.After (State.stepBack s x c) := by
  unfold State.stepBack
  simp +contextual (maxDischargeDepth := 40) [*]

@[simp] theorem State.stepPending_after {s₀ : State} (s : State) (x : JobSt) (c : BitVec 12) (old : Nat) (hc : s₀.After s) :
    s₀.After (State.stepPending s x c old) := by
  unfold State.stepPending
  simp +contextual (maxDischargeDepth := 40) [*]

@[simp] theorem State.cueStepped_after {s₀ : State} (s : State) (x : JobSt) (c : BitVec 12) (old : Nat) (hc : s₀.After s) :
    s₀.After (State.cueStepped s x c old) := by
  unfold State.cueStepped
  simp +contextual (maxDischargeDepth := 40) [*]

@[simp] theorem State.cuesStepped_after {s₀ : State} (s : State) (old : Nat) (hc : s₀.After s) :
    s₀.After (State.cuesStepped s old) := by
  unfold State.cuesStepped
  try dsimp only
  repeat' first | (simp +contextual (maxDischargeDepth := 40) [*]; done) | split | (refine after_forAll _ _ _ _ ?_ ?_) | (refine after_foldl _ _ _ _ ?_ ?_) | (refine after_foldl_fst _ _ _ _ ?_ ?_) | (refine after_foldl_snd _ _ _ _ ?_ ?_) | (intro _ _ _; try dsimp only)

@[simp] theorem State.stepBy_after {s₀ : State} (s : State) (ofs : Int) (hc : s₀.After s) :
    s₀.After (State.stepBy s ofs) := by
  unfold State.stepBy
  simp +contextual (maxDischargeDepth := 40) [*]

@[simp] theorem State.timeStep_after {s₀ : State} (s : State) (hc : s₀.After s) :
    s₀.After (State.timeStep s) := by
  unfold State.timeStep
  simp +contextual (maxDischargeDepth := 40) [*]

@[simp] theorem State.markCue_after {s₀ : State} (s : State) (x : JobSt) (c : BitVec 12) (hc : s₀.After s) :
    s₀.After (State.markCue s x c) := by
  unfold State.markCue
  simp +contextual (maxDischargeDepth := 40) [*]

@[simp] theorem State.markCueMiss_after {s₀ : State} (s : State) (x : JobSt) (c : BitVec 12) (hc : s₀.After s) :
    s₀.After (State.markCueMiss s x c) := by
  unfold State.markCueMiss
  simp +contextual (maxDischargeDepth := 40) [*]

@[simp] theorem State.markCues_after {s₀ : State} (s : State) (f : State → JobSt → BitVec 12 → State) (hc : s₀.After s) (hf : ∀ s a b, s₀.After s → s₀.After (f s a b)) :
    s₀.After (State.markCues s f) := by
  unfold State.markCues
  try dsimp only
  repeat' first | (simp +contextual (maxDischargeDepth := 40) [*]; done) | split | (refine after_forAll _ _ _ _ ?_ ?_) | (refine after_foldl _ _ _ _ ?_ ?_) | (refine after_foldl_fst _ _ _ _ ?_ ?_) | (refine after_foldl_snd _ _ _ _ ?_ ?_) | (intro _ _ _; try dsimp only)

@[simp] theorem State.alignMark_after {s₀ : State} (s : State) (hc : s₀.After s) :
    s₀.After (State.alignMark s) := by
  unfold State.alignMark
  simp +contextual (maxDischargeDepth := 40) [*]

@[simp] theorem State.internalMark_after {s₀ : State} (s : State) (hc : s₀.After s) :
    s₀.After (State.internalMark s) := by
  unfold State.internalMark
  dsimp only
  (repeat' split) <;> simp +contextual (maxDischargeDepth := 40) [*]

@[simp] theorem State.markMissing_after {s₀ : State} (s : State) (hc : s₀.After s) :
    s₀.After (State.markMissing s) := by
  unfold State.markMissing
  dsimp only
  (repeat' split) <;> simp +contextual (maxDischargeDepth := 40) [*]

@[simp] theorem State.markCfgChange_after {s₀ : State} (s : State) (hc : s₀.After s) :
    s₀.After (State.markCfgChange s) := by
  unfold State.markCfgChange
  simp +contextual (maxDischargeDepth := 40) [*]

@[simp] theorem State.ppsRise_after {s₀ : State} (s : State) (hc : s₀.After s) :
    s₀.After (State.ppsRise s) := by
  unfold State.ppsRise
  simp +contextual (maxDischargeDepth := 40) [*]

@[simp] theorem State.ppsFall_after {s₀ : State} (s : State) (hc : s₀.After s) :
    s₀.After (State.ppsFall s) := by
  unfold State.ppsFall
  simp +contextual (maxDischargeDepth := 40) [*]

@[simp] theorem State.ppsEdge_after {s₀ : State} (s : State) (hc : s₀.After s) :
    s₀.After (State.ppsEdge s) := by
  unfold State.ppsEdge
  simp +contextual (maxDischargeDepth := 40) [*]

@[simp] theorem State.openStat_after {s₀ : State} (s : State) (w : Option Eng) (op res cause : Nat) (hc : s₀.After s) :
    s₀.After (State.openStat s w op res cause) := by
  unfold State.openStat
  try dsimp only
  repeat' first | (simp +contextual (maxDischargeDepth := 40) [*]; done) | split | (refine after_forAll _ _ _ _ ?_ ?_) | (refine after_foldl _ _ _ _ ?_ ?_) | (refine after_foldl_fst _ _ _ _ ?_ ?_) | (refine after_foldl_snd _ _ _ _ ?_ ?_) | (intro _ _ _; try dsimp only)

@[simp] theorem State.openStore_after {s₀ : State} (s : State) (w : Option Eng) (n base : Nat) (hc : s₀.After s) :
    s₀.After (State.openStore s w n base) := by
  unfold State.openStore
  simp +contextual (maxDischargeDepth := 40) [*]

@[simp] theorem State.storeEnd_after {s₀ : State} (s : State) (hc : s₀.After s) :
    s₀.After (State.storeEnd s) := by
  unfold State.storeEnd
  dsimp only
  (repeat' split) <;> simp +contextual (maxDischargeDepth := 40) [*]

@[simp] theorem State.openCommit_after {s₀ : State} (s : State) (w : Option Eng) (hc : s₀.After s) :
    s₀.After (State.openCommit s w) := by
  unfold State.openCommit
  simp +contextual (maxDischargeDepth := 40) [*]

@[simp] theorem State.openDiscard_after {s₀ : State} (s : State) (w : Option Eng) (hc : s₀.After s) :
    s₀.After (State.openDiscard s w) := by
  unfold State.openDiscard
  simp +contextual (maxDischargeDepth := 40) [*]

theorem State.descWrite_after (s : State) (base len : Nat) {s₀ : State} (hc : s₀.After s) (t : State)
    (ht : s.descWrite base len = some t) : s₀.After t := by
  unfold State.descWrite at ht
  dsimp only at ht
  split at ht
  · cases ht
  · cases ht
    simp +contextual (maxDischargeDepth := 40) [hc]

@[simp] theorem State.scenesClear_after {s₀ : State} (s : State) (hc : s₀.After s) :
    s₀.After (State.scenesClear s) := by
  unfold State.scenesClear
  try dsimp only
  repeat' first | (simp +contextual (maxDischargeDepth := 40) [*]; done) | split | (refine after_forAll _ _ _ _ ?_ ?_) | (refine after_foldl _ _ _ _ ?_ ?_) | (refine after_foldl_fst _ _ _ _ ?_ ?_) | (refine after_foldl_snd _ _ _ _ ?_ ?_) | (intro _ _ _; try dsimp only)

@[simp] theorem State.scenesHouseReset_after {s₀ : State} (s : State) (hc : s₀.After s) :
    s₀.After (State.scenesHouseReset s) := by
  unfold State.scenesHouseReset
  simp +contextual (maxDischargeDepth := 40) [*]

@[simp] theorem State.scenesReset_after {s₀ : State} (s : State) (hc : s₀.After s) :
    s₀.After (State.scenesReset s) := by
  unfold State.scenesReset
  simp +contextual (maxDischargeDepth := 40) [*]

end Sys2Proof.Machine
end

