-- ==== Sys2Proof/Laws/AfterEngines.lean ====
section
/-!
SUPPORT. Laws/AfterEngines.lean: what State.After says of: the engines, the twin, the controller and the supplies.
-/
namespace Sys2Proof.Machine

set_option linter.unusedTactic false
set_option linter.unreachableTactic false

/-! ### Machine/Engines.lean -/

@[simp] theorem State.engSet_after {s₀ : State} (s : State) (e : Eng) (st : Nat) (hc : s₀.After s) :
    s₀.After (State.engSet s e st) := by
  unfold State.engSet
  simp +contextual (maxDischargeDepth := 40) [*]

@[simp] theorem State.engLoad_after {s₀ : State} (s : State) (e : Eng) (hc : s₀.After s) :
    s₀.After (State.engLoad s e) := by
  unfold State.engLoad
  simp +contextual (maxDischargeDepth := 40) [*]

@[simp] theorem State.engStart_after {s₀ : State} (s : State) (e : Eng) (hc : s₀.After s) :
    s₀.After (State.engStart s e) := by
  unfold State.engStart
  simp +contextual (maxDischargeDepth := 40) [*]

@[simp] theorem State.engStopNow_after {s₀ : State} (s : State) (e : Eng) (hc : s₀.After s) :
    s₀.After (State.engStopNow s e) := by
  unfold State.engStopNow
  simp +contextual (maxDischargeDepth := 40) [*]

@[simp] theorem State.engStop_after {s₀ : State} (s : State) (e : Eng) (hc : s₀.After s) :
    s₀.After (State.engStop s e) := by
  unfold State.engStop
  simp +contextual (maxDischargeDepth := 40) [*]

@[simp] theorem State.engOos_after {s₀ : State} (s : State) (e : Eng) (v : Bool) (hc : s₀.After s) :
    s₀.After (State.engOos s e v) := by
  unfold State.engOos
  simp +contextual (maxDischargeDepth := 40) [*]

@[simp] theorem State.engReady_after {s₀ : State} (s : State) (e : Eng) (hc : s₀.After s) :
    s₀.After (State.engReady s e) := by
  unfold State.engReady
  dsimp only
  (repeat' split) <;> simp +contextual (maxDischargeDepth := 40) [*]

@[simp] theorem State.answerMoved_after {s₀ : State} (s : State) (e : Eng) (g : Grp) (hc : s₀.After s) :
    s₀.After (State.answerMoved s e g) := by
  unfold State.answerMoved
  simp +contextual (maxDischargeDepth := 40) [*]

@[simp] theorem State.quiesce_after {s₀ : State} (s : State) (e : Eng) (g : Grp) (hc : s₀.After s) :
    s₀.After (State.quiesce s e g) := by
  unfold State.quiesce
  dsimp only
  (repeat' split) <;> simp +contextual (maxDischargeDepth := 40) [*]

@[simp] theorem State.migGo_after {s₀ : State} (s : State) (g : Grp) (hc : s₀.After s) :
    s₀.After (State.migGo s g) := by
  unfold State.migGo
  dsimp only
  (repeat' split) <;> simp +contextual (maxDischargeDepth := 40) [*]

@[simp] theorem State.grpBusy_after {s₀ : State} (s : State) (g : Grp) (b : Busy) (hc : s₀.After s) :
    s₀.After (State.grpBusy s g b) := by
  unfold State.grpBusy
  simp +contextual (maxDischargeDepth := 40) [*]

@[simp] theorem State.grpFree_after {s₀ : State} (s : State) (g : Grp) (hc : s₀.After s) :
    s₀.After (State.grpFree s g) := by
  unfold State.grpFree
  simp +contextual (maxDischargeDepth := 40) [*]

@[simp] theorem State.migSafe_after {s₀ : State} (s : State) (g : Grp) (hc : s₀.After s) :
    s₀.After (State.migSafe s g) := by
  unfold State.migSafe
  dsimp only
  (repeat' split) <;> simp +contextual (maxDischargeDepth := 40) [*]

@[simp] theorem State.bind_after {s₀ : State} (s : State) (g : Grp) (t : Nat) (hc : s₀.After s) :
    s₀.After (State.bind s g t) := by
  unfold State.bind
  simp +contextual (maxDischargeDepth := 40) [*]

@[simp] theorem State.unstale_after {s₀ : State} (s : State) (t : Nat) (hc : s₀.After s) :
    s₀.After (State.unstale s t) := by
  unfold State.unstale
  try dsimp only
  repeat' first | (simp +contextual (maxDischargeDepth := 40) [*]; done) | split | (refine after_forAll _ _ _ _ ?_ ?_) | (refine after_foldl _ _ _ _ ?_ ?_) | (refine after_foldl_fst _ _ _ _ ?_ ?_) | (refine after_foldl_snd _ _ _ _ ?_ ?_) | (intro _ _ _; try dsimp only)

@[simp] theorem State.dropOpen_after {s₀ : State} (s : State) (n : Nat) (hc : s₀.After s) :
    s₀.After (State.dropOpen s n) := by
  unfold State.dropOpen
  try dsimp only
  repeat' first | (simp +contextual (maxDischargeDepth := 40) [*]; done) | split | (refine after_forAll _ _ _ _ ?_ ?_) | (refine after_foldl _ _ _ _ ?_ ?_) | (refine after_foldl_fst _ _ _ _ ?_ ?_) | (refine after_foldl_snd _ _ _ _ ?_ ?_) | (intro _ _ _; try dsimp only)

@[simp] theorem State.handover_after {s₀ : State} (s : State) (g : Grp) (st : Nat) (hc : s₀.After s) :
    s₀.After (State.handover s g st) := by
  unfold State.handover
  simp +contextual (maxDischargeDepth := 40) [*]

@[simp] theorem State.migHandover_after {s₀ : State} (s : State) (g : Grp) (hc : s₀.After s) :
    s₀.After (State.migHandover s g) := by
  unfold State.migHandover
  simp +contextual (maxDischargeDepth := 40) [*]

@[simp] theorem State.takeOver_after {s₀ : State} (s : State) (e : Eng) (hc : s₀.After s) :
    s₀.After (State.takeOver s e) := by
  unfold State.takeOver
  dsimp only
  (repeat' split) <;> simp +contextual (maxDischargeDepth := 40) [*]

@[simp] theorem State.migFail_after {s₀ : State} (s : State) (g : Grp) (hc : s₀.After s) :
    s₀.After (State.migFail s g) := by
  unfold State.migFail
  dsimp only
  (repeat' split) <;> simp +contextual (maxDischargeDepth := 40) [*]

@[simp] theorem State.faultGroups_after {s₀ : State} (s : State) (e : Eng) (hc : s₀.After s) :
    s₀.After (State.faultGroups s e) := by
  unfold State.faultGroups
  simp +contextual (maxDischargeDepth := 40) [*]
  (repeat' split) <;> simp +contextual (maxDischargeDepth := 40) [*]

@[simp] theorem State.engFault_after {s₀ : State} (s : State) (e : Eng) (cause : Nat) (hc : s₀.After s) :
    s₀.After (State.engFault s e cause) := by
  unfold State.engFault
  simp +contextual (maxDischargeDepth := 40) [*]

@[simp] theorem State.watchdog_after {s₀ : State} (s : State) (e : Eng) (hc : s₀.After s) :
    s₀.After (State.watchdog s e) := by
  unfold State.watchdog
  simp +contextual (maxDischargeDepth := 40) [*]

@[simp] theorem State.engMemFault_after {s₀ : State} (s : State) (e : Eng) (hc : s₀.After s) :
    s₀.After (State.engMemFault s e) := by
  unfold State.engMemFault
  simp +contextual (maxDischargeDepth := 40) [*]

@[simp] theorem State.imageFault_after {s₀ : State} (s : State) (e : Eng) (r0 r1 : Word) (hc : s₀.After s) :
    s₀.After (State.imageFault s e r0 r1) := by
  unfold State.imageFault
  simp +contextual (maxDischargeDepth := 40) [*]

@[simp] theorem State.heartbeat_after {s₀ : State} (s : State) (e : Eng) (ckpt : Option (BitVec 14)) (hc : s₀.After s) :
    s₀.After (State.heartbeat s e ckpt) := by
  unfold State.heartbeat
  dsimp only
  (repeat' split) <;> simp +contextual (maxDischargeDepth := 40) [*]

@[simp] theorem State.cmdAppend_after {s₀ : State} (s : State) (e : Eng) (q : BitVec 128) (hc : s₀.After s) :
    s₀.After (State.cmdAppend s e q) := by
  unfold State.cmdAppend
  simp +contextual (maxDischargeDepth := 40) [*]

@[simp] theorem State.cmdPop_after {s₀ : State} (s : State) (e : Eng) (hc : s₀.After s) :
    s₀.After (State.cmdPop s e) := by
  unfold State.cmdPop
  simp +contextual (maxDischargeDepth := 40) [*]

@[simp] theorem State.cmdSkip_after (e : Eng) (n0 : Nat) (s : State) {s₀ : State} (hc : s₀.After s) :
    s₀.After (State.cmdSkip e n0 s) := by
  induction n0 generalizing s with
  | zero => exact hc
  | succ n ih =>
    unfold State.cmdSkip
    try dsimp only
    repeat' first | (simp +contextual (maxDischargeDepth := 40) [*]; done) | split | (refine after_forAll _ _ _ _ ?_ ?_) | (refine after_foldl _ _ _ _ ?_ ?_) | (refine after_foldl_fst _ _ _ _ ?_ ?_) | (refine after_foldl_snd _ _ _ _ ?_ ?_) | (intro _ _ _; try dsimp only)

@[simp] theorem State.cmdHead_after {s₀ : State} (s : State) (e : Eng) (op : Nat) (hc : s₀.After s) :
    s₀.After (State.cmdHead s e op).1 := by
  unfold State.cmdHead
  dsimp only
  (repeat' split) <;> simp +contextual (maxDischargeDepth := 40) [*]

@[simp] theorem State.cmdServe_after {s₀ : State} (s : State) (e : Eng) (op : Nat) (f : State → BitVec 128 → Nat → State) (hc : s₀.After s) (hf : ∀ s a b, s₀.After s → s₀.After (f s a b)) :
    s₀.After (State.cmdServe s e op f) := by
  unfold State.cmdServe
  dsimp only
  (repeat' split) <;> simp +contextual (maxDischargeDepth := 40) [*]

@[simp] theorem State.cmdPing_after {s₀ : State} (s : State) (e : Eng) (hc : s₀.After s) :
    s₀.After (State.cmdPing s e) := by
  unfold State.cmdPing
  simp +contextual (maxDischargeDepth := 40) [*]

@[simp] theorem State.cmdStarted_after {s₀ : State} (s : State) (e : Eng) (c : BitVec 128) (ep' : Nat) (hc : s₀.After s) :
    s₀.After (State.cmdStarted s e c ep') := by
  unfold State.cmdStarted
  simp +contextual (maxDischargeDepth := 40) [*]

@[simp] theorem State.cmdSearch_after {s₀ : State} (s : State) (e : Eng) (hc : s₀.After s) :
    s₀.After (State.cmdSearch s e) := by
  unfold State.cmdSearch
  simp +contextual (maxDischargeDepth := 40) [*]

@[simp] theorem State.cmdEye_after (s : State) (e : Eng) {s₀ : State} (hc : s₀.After s) :
    s₀.After (State.cmdEye s e) := by
  unfold State.cmdEye
  try dsimp only
  repeat' first | (simp +contextual (maxDischargeDepth := 40) [*]; done) | split | (refine after_forAll _ _ _ _ ?_ ?_) | (refine after_foldl _ _ _ _ ?_ ?_) | (refine after_foldl_fst _ _ _ _ ?_ ?_) | (refine after_foldl_snd _ _ _ _ ?_ ?_) | (refine State.cmdServe_after _ _ _ _ ?_ ?_) | (intro _ _ _ _; try dsimp only) | (intro _ _ _; try dsimp only)

@[simp] theorem State.cmdSweep_after {s₀ : State} (s : State) (e : Eng) (hc : s₀.After s) :
    s₀.After (State.cmdSweep s e) := by
  unfold State.cmdSweep
  simp +contextual (maxDischargeDepth := 40) [*]

@[simp] theorem State.cmdCal_after (s : State) (e : Eng) {s₀ : State} (hc : s₀.After s) :
    s₀.After (State.cmdCal s e) := by
  unfold State.cmdCal
  try dsimp only
  repeat' first | (simp +contextual (maxDischargeDepth := 40) [*]; done) | split | (refine after_forAll _ _ _ _ ?_ ?_) | (refine after_foldl _ _ _ _ ?_ ?_) | (refine after_foldl_fst _ _ _ _ ?_ ?_) | (refine after_foldl_snd _ _ _ _ ?_ ?_) | (refine State.cmdServe_after _ _ _ _ ?_ ?_) | (intro _ _ _ _; try dsimp only) | (intro _ _ _; try dsimp only)

@[simp] theorem State.cmdAbort_after (s : State) (e : Eng) {s₀ : State} (hc : s₀.After s) :
    s₀.After (State.cmdAbort s e) := by
  unfold State.cmdAbort
  try dsimp only
  repeat' first | (simp +contextual (maxDischargeDepth := 40) [*]; done) | split | (refine after_forAll _ _ _ _ ?_ ?_) | (refine after_foldl _ _ _ _ ?_ ?_) | (refine after_foldl_fst _ _ _ _ ?_ ?_) | (refine after_foldl_snd _ _ _ _ ?_ ?_) | (refine State.cmdServe_after _ _ _ _ ?_ ?_) | (intro _ _ _ _; try dsimp only) | (intro _ _ _; try dsimp only)

@[simp] theorem State.cmdFlush_after {s₀ : State} (s : State) (e : Eng) (hc : s₀.After s) :
    s₀.After (State.cmdFlush s e) := by
  unfold State.cmdFlush
  simp +contextual (maxDischargeDepth := 40) [*]

@[simp] theorem State.cmdCheckpoint_after {s₀ : State} (s : State) (e : Eng) (size : BitVec 14) (hc : s₀.After s) :
    s₀.After (State.cmdCheckpoint s e size) := by
  unfold State.cmdCheckpoint
  simp +contextual (maxDischargeDepth := 40) [*]

@[simp] theorem State.longEnd_after {s₀ : State} (s : State) (e : Eng) (detail : BitVec 16) (r0 r1 : Word) (grid : List (BitVec 16)) (hc : s₀.After s) :
    s₀.After (State.longEnd s e detail r0 r1 grid) := by
  unfold State.longEnd
  dsimp only
  (repeat' split) <;> simp +contextual (maxDischargeDepth := 40) [*]

@[simp] theorem State.longReset_after {s₀ : State} (s : State) (ps : List Path) (hc : s₀.After s) :
    s₀.After (State.longReset s ps) := by
  unfold State.longReset
  try dsimp only
  repeat' first | (simp +contextual (maxDischargeDepth := 40) [*]; done) | split | (refine after_forAll _ _ _ _ ?_ ?_) | (refine after_foldl _ _ _ _ ?_ ?_) | (refine after_foldl_fst _ _ _ _ ?_ ?_) | (refine after_foldl_snd _ _ _ _ ?_ ?_) | (intro _ _ _; try dsimp only)

@[simp] theorem State.engHouseReset_after {s₀ : State} (s : State) (hc : s₀.After s) :
    s₀.After (State.engHouseReset s) := by
  unfold State.engHouseReset
  try dsimp only
  repeat' first | (simp +contextual (maxDischargeDepth := 40) [*]; done) | split | (refine after_forAll _ _ _ _ ?_ ?_) | (refine after_foldl _ _ _ _ ?_ ?_) | (refine after_foldl_fst _ _ _ _ ?_ ?_) | (refine after_foldl_snd _ _ _ _ ?_ ?_) | (intro _ _ _; try dsimp only)

/-! ### Machine/Twin.lean -/

@[simp] theorem State.modTwin_after {s₀ : State} (s : State) (f : TwinSt → TwinSt) (hc : s₀.After s) :
    s₀.After (State.modTwin s f) := by
  unfold State.modTwin
  simp +contextual (maxDischargeDepth := 40) [*]

@[simp] theorem State.setSrc_after {s₀ : State} (s : State) (v : Nat) (hc : s₀.After s) :
    s₀.After (State.setSrc s v) := by
  unfold State.setSrc
  simp +contextual (maxDischargeDepth := 40) [*]

@[simp] theorem State.enterFollow_after {s₀ : State} (s : State) (hc : s₀.After s) :
    s₀.After (State.enterFollow s) := by
  unfold State.enterFollow
  simp +contextual (maxDischargeDepth := 40) [*]

@[simp] theorem State.leaveFollow_after {s₀ : State} (s : State) (hc : s₀.After s) :
    s₀.After (State.leaveFollow s) := by
  unfold State.leaveFollow
  simp +contextual (maxDischargeDepth := 40) [*]

@[simp] theorem State.setRole_after {s₀ : State} (s : State) (r : Nat) (hc : s₀.After s) :
    s₀.After (State.setRole s r) := by
  unfold State.setRole
  simp +contextual (maxDischargeDepth := 40) [*]

@[simp] theorem State.setSd_after {s₀ : State} (s : State) (v : Nat) (hc : s₀.After s) :
    s₀.After (State.setSd s v) := by
  unfold State.setSd
  simp +contextual (maxDischargeDepth := 40) [*]

@[simp] theorem State.conflict_after {s₀ : State} (s : State) (hc : s₀.After s) :
    s₀.After (State.conflict s) := by
  unfold State.conflict
  simp +contextual (maxDischargeDepth := 40) [*]

@[simp] theorem State.joinReentry_after {s₀ : State} (s : State) (h : TwinHello) (before : Nat) (hc : s₀.After s) :
    s₀.After (State.joinReentry s h before) := by
  unfold State.joinReentry
  simp +contextual (maxDischargeDepth := 40) [*]

@[simp] theorem State.enterPaired_after {s₀ : State} (s : State) (h : TwinHello) (before : Nat) (hc : s₀.After s) :
    s₀.After (State.enterPaired s h before) := by
  unfold State.enterPaired
  simp +contextual (maxDischargeDepth := 40) [*]

@[simp] theorem State.peerIs_after {s₀ : State} (s : State) (h : TwinHello) (hc : s₀.After s) :
    s₀.After (State.peerIs s h) := by
  unfold State.peerIs
  simp +contextual (maxDischargeDepth := 40) [*]

@[simp] theorem State.twinHello_after {s₀ : State} (s : State) (h : TwinHello) (resends : Nat) (hc : s₀.After s) :
    s₀.After (State.twinHello s h resends) := by
  unfold State.twinHello
  simp +contextual (maxDischargeDepth := 40) [*]

@[simp] theorem State.twSettle_after {s₀ : State} (s : State) (hc : s₀.After s) :
    s₀.After (State.twSettle s) := by
  unfold State.twSettle
  simp +contextual (maxDischargeDepth := 40) [*]

@[simp] theorem State.twinUp_after {s₀ : State} (s : State) (hc : s₀.After s) :
    s₀.After (State.twinUp s) := by
  unfold State.twinUp
  simp +contextual (maxDischargeDepth := 40) [*]

@[simp] theorem State.twinDown_after {s₀ : State} (s : State) (lanes : BitVec 4) (message : Bool) (hc : s₀.After s) :
    s₀.After (State.twinDown s lanes message) := by
  unfold State.twinDown
  simp +contextual (maxDischargeDepth := 40) [*]

@[simp] theorem State.hbLost_after {s₀ : State} (s : State) (hc : s₀.After s) :
    s₀.After (State.hbLost s) := by
  unfold State.hbLost
  simp +contextual (maxDischargeDepth := 40) [*]

@[simp] theorem State.hbPresent_after {s₀ : State} (s : State) (hc : s₀.After s) :
    s₀.After (State.hbPresent s) := by
  unfold State.hbPresent
  simp +contextual (maxDischargeDepth := 40) [*]

@[simp] theorem State.promote_after {s₀ : State} (s : State) (hc : s₀.After s) :
    s₀.After (State.promote s) := by
  unfold State.promote
  simp +contextual (maxDischargeDepth := 40) [*]

@[simp] theorem State.twinEn_after {s₀ : State} (s : State) (v : Bool) (hc : s₀.After s) :
    s₀.After (State.twinEn s v) := by
  unfold State.twinEn
  simp +contextual (maxDischargeDepth := 40) [*]

@[simp] theorem State.timeEnChange_after {s₀ : State} (s : State) (v : Bool) (hc : s₀.After s) :
    s₀.After (State.timeEnChange s v) := by
  unfold State.timeEnChange
  simp +contextual (maxDischargeDepth := 40) [*]

@[simp] theorem State.twinSend_after {s₀ : State} (s : State) (item : BitVec 3) (hc : s₀.After s) :
    s₀.After (State.twinSend s item) := by
  unfold State.twinSend
  simp +contextual (maxDischargeDepth := 40) [*]

@[simp] theorem State.timeExchange_after {s₀ : State} (s : State) (d21 d43 : BitVec 64) (hc : s₀.After s) :
    s₀.After (State.timeExchange s d21 d43) := by
  unfold State.timeExchange
  simp +contextual (maxDischargeDepth := 40) [*]

@[simp] theorem State.transferLost_after {s₀ : State} (s : State) (hc : s₀.After s) :
    s₀.After (State.transferLost s) := by
  unfold State.transferLost
  simp +contextual (maxDischargeDepth := 40) [*]

@[simp] theorem State.setLpBit_after {s₀ : State} (s : State) (off : Nat) (n : Lane) (b : Bool) (hc : s₀.After s) :
    s₀.After (State.setLpBit s off n b) := by
  unfold State.setLpBit
  simp +contextual (maxDischargeDepth := 40) [*]

@[simp] theorem State.judgeWindow_after {s₀ : State} (s : State) (p : Path) (matched : Bool) (hc : s₀.After s) :
    s₀.After (State.judgeWindow s p matched) := by
  unfold State.judgeWindow
  simp +contextual (maxDischargeDepth := 40) [*]

@[simp] theorem State.pinReport_after {s₀ : State} (s : State) (p : Path) (meas held : Word) (st : BitVec 3) (hc : s₀.After s) :
    s₀.After (State.pinReport s p meas held st) := by
  unfold State.pinReport
  simp +contextual (maxDischargeDepth := 40) [*]

@[simp] theorem State.cfgReport_after {s₀ : State} (s : State) (p : Path) (c : TwinCfg) (hc : s₀.After s) :
    s₀.After (State.cfgReport s p c) := by
  unfold State.cfgReport
  simp +contextual (maxDischargeDepth := 40) [*]

@[simp] theorem State.coefReport_after {s₀ : State} (s : State) (p : Path) (c : TwinCoef) (hc : s₀.After s) :
    s₀.After (State.coefReport s p c) := by
  unfold State.coefReport
  simp +contextual (maxDischargeDepth := 40) [*]

@[simp] theorem State.sdRefused_after {s₀ : State} (s : State) (cause : Nat) (hc : s₀.After s) :
    s₀.After (State.sdRefused s cause) := by
  unfold State.sdRefused
  simp +contextual (maxDischargeDepth := 40) [*]

@[simp] theorem State.sdReq_after {s₀ : State} (s : State) (force : Bool) (hc : s₀.After s) :
    s₀.After (State.sdReq s force) := by
  unfold State.sdReq
  dsimp only
  (repeat' split) <;> simp +contextual (maxDischargeDepth := 40) [*]

@[simp] theorem State.sdConfirm_after {s₀ : State} (s : State) (hc : s₀.After s) :
    s₀.After (State.sdConfirm s) := by
  unfold State.sdConfirm
  simp +contextual (maxDischargeDepth := 40) [*]

@[simp] theorem State.sdReenter_after {s₀ : State} (s : State) (hc : s₀.After s) :
    s₀.After (State.sdReenter s) := by
  unfold State.sdReenter
  simp +contextual (maxDischargeDepth := 40) [*]

@[simp] theorem State.sdCancel_after {s₀ : State} (s : State) (hc : s₀.After s) :
    s₀.After (State.sdCancel s) := by
  unfold State.sdCancel
  simp +contextual (maxDischargeDepth := 40) [*]

@[simp] theorem State.sdReplace_after {s₀ : State} (s : State) (hc : s₀.After s) :
    s₀.After (State.sdReplace s) := by
  unfold State.sdReplace
  simp +contextual (maxDischargeDepth := 40) [*]

@[simp] theorem State.reenterDone_after {s₀ : State} (s : State) (hc : s₀.After s) :
    s₀.After (State.reenterDone s) := by
  unfold State.reenterDone
  simp +contextual (maxDischargeDepth := 40) [*]

@[simp] theorem State.reenterTimeout_after {s₀ : State} (s : State) (hc : s₀.After s) :
    s₀.After (State.reenterTimeout s) := by
  unfold State.reenterTimeout
  simp +contextual (maxDischargeDepth := 40) [*]

@[simp] theorem State.twinClear_after {s₀ : State} (s : State) (hc : s₀.After s) :
    s₀.After (State.twinClear s) := by
  unfold State.twinClear
  simp +contextual (maxDischargeDepth := 40) [*]

/-! ### Machine/Controller.lean -/

@[simp] theorem State.modTwc_after {s₀ : State} (s : State) (f : TwcSt → TwcSt) (hc : s₀.After s) :
    s₀.After (State.modTwc s f) := by
  unfold State.modTwc
  simp +contextual (maxDischargeDepth := 40) [*]

@[simp] theorem State.twcResult_after {s₀ : State} (s : State) (res : Nat) (hc : s₀.After s) :
    s₀.After (State.twcResult s res) := by
  unfold State.twcResult
  dsimp only
  (repeat' split) <;> simp +contextual (maxDischargeDepth := 40) [*]

@[simp] theorem State.twcEnd_after {s₀ : State} (s : State) (res starts : Nat) (hc : s₀.After s) :
    s₀.After (State.twcEnd s res starts) := by
  unfold State.twcEnd
  simp +contextual (maxDischargeDepth := 40) [*]

@[simp] theorem State.twcRead_after {s₀ : State} (s : State) (l : List Byte) (hc : s₀.After s) :
    s₀.After (State.twcRead s l) := by
  unfold State.twcRead
  simp +contextual (maxDischargeDepth := 40) [*]

@[simp] theorem State.twcStuck_after {s₀ : State} (s : State) (hc : s₀.After s) :
    s₀.After (State.twcStuck s) := by
  unfold State.twcStuck
  simp +contextual (maxDischargeDepth := 40) [*]

@[simp] theorem State.twcClear_after {s₀ : State} (s : State) (hc : s₀.After s) :
    s₀.After (State.twcClear s) := by
  unfold State.twcClear
  simp +contextual (maxDischargeDepth := 40) [*]

@[simp] theorem State.twcGo_after {s₀ : State} (s : State) (hc : s₀.After s) :
    s₀.After (State.twcGo s) := by
  unfold State.twcGo
  simp +contextual (maxDischargeDepth := 40) [*]

@[simp] theorem State.twcAbort_after {s₀ : State} (s : State) (hc : s₀.After s) :
    s₀.After (State.twcAbort s) := by
  unfold State.twcAbort
  simp +contextual (maxDischargeDepth := 40) [*]

@[simp] theorem State.twcFinish_after {s₀ : State} (s : State) (res index : Nat) (read : List Byte) (hc : s₀.After s) :
    s₀.After (State.twcFinish s res index read) := by
  unfold State.twcFinish
  simp +contextual (maxDischargeDepth := 40) [*]

@[simp] theorem State.twcCut_after {s₀ : State} (s : State) (hc : s₀.After s) :
    s₀.After (State.twcCut s) := by
  unfold State.twcCut
  simp +contextual (maxDischargeDepth := 40) [*]

@[simp] theorem State.twcArb_after {s₀ : State} (s : State) (hc : s₀.After s) :
    s₀.After (State.twcArb s) := by
  unfold State.twcArb
  simp +contextual (maxDischargeDepth := 40) [*]

@[simp] theorem State.twcTimeout_after {s₀ : State} (s : State) (sda started : Bool) (hc : s₀.After s) :
    s₀.After (State.twcTimeout s sda started) := by
  unfold State.twcTimeout
  simp +contextual (maxDischargeDepth := 40) [*]

@[simp] theorem State.twcEn_after {s₀ : State} (s : State) (old : Bool) (hc : s₀.After s) :
    s₀.After (State.twcEn s old) := by
  unfold State.twcEn
  simp +contextual (maxDischargeDepth := 40) [*]

@[simp] theorem State.twcRecovery_after {s₀ : State} (s : State) (freed : Bool) (hc : s₀.After s) :
    s₀.After (State.twcRecovery s freed) := by
  unfold State.twcRecovery
  simp +contextual (maxDischargeDepth := 40) [*]

/-! ### Machine/Supply.lean -/

@[simp] theorem State.modSupply_after {s₀ : State} (s : State) (f : SupplySt → SupplySt) (hc : s₀.After s) :
    s₀.After (State.modSupply s f) := by
  unfold State.modSupply
  simp +contextual (maxDischargeDepth := 40) [*]

@[simp] theorem State.switchTo_after {s₀ : State} (s : State) (b : Bool) (hc : s₀.After s) :
    s₀.After (State.switchTo s b) := by
  unfold State.switchTo
  simp +contextual (maxDischargeDepth := 40) [*]

@[simp] theorem State.inputGone_after {s₀ : State} (s : State) (b : Bool) (hc : s₀.After s) :
    s₀.After (State.inputGone s b) := by
  unfold State.inputGone
  simp +contextual (maxDischargeDepth := 40) [*]

@[simp] theorem State.inputQual_after {s₀ : State} (s : State) (b : Bool) (hc : s₀.After s) :
    s₀.After (State.inputQual s b) := by
  unfold State.inputQual
  simp +contextual (maxDischargeDepth := 40) [*]

@[simp] theorem State.inputGood_after {s₀ : State} (s : State) (b : Bool) (hc : s₀.After s) :
    s₀.After (State.inputGood s b) := by
  unfold State.inputGood
  simp +contextual (maxDischargeDepth := 40) [*]

@[simp] theorem State.inputLost_after {s₀ : State} (s : State) (b : Bool) (hc : s₀.After s) :
    s₀.After (State.inputLost s b) := by
  unfold State.inputLost
  simp +contextual (maxDischargeDepth := 40) [*]

@[simp] theorem State.returnExpiry_after {s₀ : State} (s : State) (hc : s₀.After s) :
    s₀.After (State.returnExpiry s) := by
  unfold State.returnExpiry
  simp +contextual (maxDischargeDepth := 40) [*]

@[simp] theorem State.forceChange_after {s₀ : State} (s : State) (old : Bool) (hc : s₀.After s) :
    s₀.After (State.forceChange s old) := by
  unfold State.forceChange
  simp +contextual (maxDischargeDepth := 40) [*]

@[simp] theorem State.energyNow_after {s₀ : State} (s : State) (hc : s₀.After s) :
    s₀.After (State.energyNow s).1 := by
  unfold State.energyNow
  simp +contextual (maxDischargeDepth := 40) [*]

@[simp] theorem State.energyUpdate_after {s₀ : State} (s : State) (vina vinb pin hup : BitVec 16) (hc : s₀.After s) :
    s₀.After (State.energyUpdate s vina vinb pin hup) := by
  unfold State.energyUpdate
  simp +contextual (maxDischargeDepth := 40) [*]

@[simp] theorem State.testStart_after {s₀ : State} (s : State) (hc : s₀.After s) :
    s₀.After (State.testStart s) := by
  unfold State.testStart
  simp +contextual (maxDischargeDepth := 40) [*]

@[simp] theorem State.fallErasure_after {s₀ : State} (s : State) (hc : s₀.After s) :
    s₀.After (State.fallErasure s) := by
  unfold State.fallErasure
  simp +contextual (maxDischargeDepth := 40) [*]

@[simp] theorem State.testEnd_after {s₀ : State} (s : State) (dvc dvd : BitVec 24) (reached : Bool) (hc : s₀.After s) :
    s₀.After (State.testEnd s dvc dvd reached) := by
  unfold State.testEnd
  simp +contextual (maxDischargeDepth := 40) [*]

@[simp] theorem State.fallWrite_after {s₀ : State} (s : State) (hup : BitVec 16) (cut : Bool) (hc : s₀.After s) :
    s₀.After (State.fallWrite s hup cut) := by
  unfold State.fallWrite
  dsimp only
  (repeat' split) <;> simp +contextual (maxDischargeDepth := 40) [*]

end Sys2Proof.Machine
end

