-- ==== Sys2Proof/Laws/AfterResets.lean ====
section
/-!
SUPPORT. Laws/AfterResets.lean: what State.After says of: resets, rehearsals, calibration, security and start-up.
-/
namespace Sys2Proof.Machine

set_option linter.unusedTactic false
set_option linter.unreachableTactic false

/-! ### Machine/BlockReset.lean -/

@[simp] theorem State.buildMap_after {s₀ : State} (s : State) (p : Path) (hc : s₀.After s) :
    s₀.After (State.buildMap s p) := by
  unfold State.buildMap
  simp +contextual (maxDischargeDepth := 40) [*]

@[simp] theorem State.restart1_after {s₀ : State} (s : State) (p : Page) (off : Nat) (hc : s₀.After s) :
    s₀.After (State.restart1 s p off) := by
  unfold State.restart1
  simp +contextual (maxDischargeDepth := 40) [*]

@[simp] theorem State.laneReset_after {s₀ : State} (s : State) (p : Path) (hc : s₀.After s) :
    s₀.After (State.laneReset s p) := by
  unfold State.laneReset
  simp +contextual (maxDischargeDepth := 40) [*]

@[simp] theorem State.twinLapse_after {s₀ : State} (s : State) (p : Path) (hc : s₀.After s) :
    s₀.After (State.twinLapse s p) := by
  unfold State.twinLapse
  simp +contextual (maxDischargeDepth := 40) [*]

@[simp] theorem State.pathHw_after {s₀ : State} (s : State) (p : Path) (hc : s₀.After s) :
    s₀.After (State.pathHw s p) := by
  unfold State.pathHw
  simp +contextual (maxDischargeDepth := 40) [*]

@[simp] theorem State.calReset_after {s₀ : State} (s : State) (g : Grp) (hc : s₀.After s) :
    s₀.After (State.calReset s g) := by
  unfold State.calReset
  simp +contextual (maxDischargeDepth := 40) [*]

@[simp] theorem State.pathReset_after {s₀ : State} (s : State) (p : Path) (hc : s₀.After s) :
    s₀.After (State.pathReset s p) := by
  unfold State.pathReset
  simp +contextual (maxDischargeDepth := 40) [*]

@[simp] theorem State.pllReset_after {s₀ : State} (s : State) (g : Grp) (hc : s₀.After s) :
    s₀.After (State.pllReset s g) := by
  unfold State.pllReset
  simp +contextual (maxDischargeDepth := 40) [*]

@[simp] theorem State.grpHw_after {s₀ : State} (s : State) (g : Grp) (hc : s₀.After s) :
    s₀.After (State.grpHw s g) := by
  unfold State.grpHw
  simp +contextual (maxDischargeDepth := 40) [*]

@[simp] theorem State.grpReset_after {s₀ : State} (s : State) (g : Grp) (hc : s₀.After s) :
    s₀.After (State.grpReset s g) := by
  unfold State.grpReset
  simp +contextual (maxDischargeDepth := 40) [*]

@[simp] theorem State.resetConflict_after {s₀ : State} (s : State) (g : Grp) (hc : s₀.After s) :
    s₀.After (State.resetConflict s g) := by
  unfold State.resetConflict
  simp +contextual (maxDischargeDepth := 40) [*]

@[simp] theorem State.resetNow_after {s₀ : State} (s : State) (hc : s₀.After s) :
    s₀.After (State.resetNow s) := by
  unfold State.resetNow
  simp +contextual (maxDischargeDepth := 40) [*]

@[simp] theorem State.resetAsk_after {s₀ : State} (s : State) (op target : Nat) (hc : s₀.After s) :
    s₀.After (State.resetAsk s op target) := by
  unfold State.resetAsk
  simp +contextual (maxDischargeDepth := 40) [*]

@[simp] theorem State.resetWaitEnd_after {s₀ : State} (s : State) (hc : s₀.After s) :
    s₀.After (State.resetWaitEnd s) := by
  unfold State.resetWaitEnd
  simp +contextual (maxDischargeDepth := 40) [*]

@[simp] theorem State.resetEnd_after {s₀ : State} (s : State) (hc : s₀.After s) :
    s₀.After (State.resetEnd s) := by
  unfold State.resetEnd
  simp +contextual (maxDischargeDepth := 40) [*]

/-! ### Machine/ViewBlock.lean -/

@[simp] theorem State.drawFlds_after (s : State) (w : Word) (l : List (Fld × Nat × Nat)) {s₀ : State} (hc : s₀.After s) :
    s₀.After (s.drawFlds w l).1 := by
  induction l generalizing s w with
  | nil => exact hc
  | cons x t ih => exact ih _ _ (by simp +contextual (maxDischargeDepth := 40) [hc])

@[simp] theorem State.viewBlock_after (s : State) (p : Page) (off : Nat) {s₀ : State} (hc : s₀.After s) :
    s₀.After (s.viewBlock p off).1 := by
  unfold State.viewBlock
  exact State.drawFlds_after _ _ _ hc

@[simp] theorem State.savePage_after {s₀ : State} (s : State) (p : Page) (hc : s₀.After s) :
    s₀.After (State.savePage s p).1 := by
  unfold State.savePage
  simp +contextual (maxDischargeDepth := 40) [*]

/-! ### Machine/Admission.lean -/

@[simp] theorem State.peak_after {s₀ : State} (s : State) (v : Nat) (hc : s₀.After s) :
    s₀.After (State.peak s v) := by
  unfold State.peak
  simp +contextual (maxDischargeDepth := 40) [*]

/-! ### Machine/Rehearsal.lean -/

@[simp] theorem State.rehRecord_after {s₀ : State} (s : State) (u : Option Grp) (t res cov dur n : Nat) (coinc : Bool) (hc : s₀.After s) :
    s₀.After (State.rehRecord s u t res cov dur n coinc) := by
  unfold State.rehRecord
  dsimp only
  (repeat' split) <;> simp +contextual (maxDischargeDepth := 40) [*]

@[simp] theorem State.sessDrop_after {s₀ : State} (s : State) (f : SessSt → Bool) (hc : s₀.After s) :
    s₀.After (s.sessDrop f) := by
  unfold State.sessDrop
  refine after_foldl _ _ _ _ (State.modSec_after _ _ hc (fun h => h)) ?_
  intro s e h
  have h2 := State.dropLatches_after s (.um ⟨e.place % 8, Nat.mod_lt _ (by decide)⟩) h
  simp [h, h2]

@[simp] theorem State.secretsGate_after {s₀ : State} (s : State) (hc : s₀.After s) : s₀.After s.secretsGate := by
  unfold State.secretsGate
  exact State.setF_after _ _ _ _ (State.rstRange_after _ _ _ _ (State.modSec_after _ _ (State.sessDrop_after _ _ hc) (fun h => h)))

@[simp] theorem State.rehAdvance_after (s : State) {s₀ : State} (hc : s₀.After s) :
    s₀.After (s.rehAdvance) := by
  unfold State.rehAdvance
  extract_lets skip s1 next s2 s3
  have h1 : s₀.After s1 := by
    refine after_forAll _ _ _ _ hc ?_
    intro u s h
    refine after_foldl _ _ _ _ h ?_
    intro s _ h
    split
    · split <;> simp [h]
    · exact h
  clear_value s1
  have h3 : s₀.After s3 := by simp (maxDischargeDepth := 40) [s3, s2, h1]
  clear_value s3 next
  split <;> simp [h3]

@[simp] theorem RehSt.begun_fuses (x : RehSt) (a : Nat) (b : BitVec 128) (c : Nat) : (x.begun a b c).fuses = x.fuses := rfl

@[simp] theorem State.rehHeader_after {s₀ : State} (s : State) (scope target : Nat) (hc : s₀.After s) :
    s₀.After (State.rehHeader s scope target) := by
  unfold State.rehHeader
  extract_lets d s1 s2 s3
  have hd : s₀.After d.2 := State.draw_after s hc
  clear_value d
  have h1 : s₀.After s1 := by
    refine State.setF_after _ _ _ _ ?_
    exact State.rstRange_after _ _ _ _ hd
  clear_value s1
  have h2 : s₀.After s2 := by
    refine State.setF_after _ _ _ _ ?_
    refine State.setF_after _ _ _ _ ?_
    exact State.setF_after _ _ _ _ h1
  clear_value s2
  have h3 : s₀.After s3 := by
    refine after_forAll _ _ _ _ h2 ?_
    intro g s h
    refine after_forAll _ _ _ _ (State.rstRange_after _ _ _ _ h) ?_
    intro p s h
    exact State.rstRange_after _ _ _ _ h
  clear_value s3
  have h4 := State.After.fuses_prefix h3
  refine State.modReh_after _ _ h3 ?_
  intro h
  rw [RehSt.begun_fuses]
  exact h

@[simp] theorem State.rehIsolate_after {s₀ : State} (s : State) (hc : s₀.After s) :
    s₀.After (State.rehIsolate s) := by
  unfold State.rehIsolate
  simp +contextual (maxDischargeDepth := 40) [*]

@[simp] theorem State.curtainStops_after (s : State) {s₀ : State} (hc : s₀.After s) :
    s₀.After (s.curtainStops) := by
  unfold State.curtainStops
  extract_lets s1 s2 src s3 s4 s5
  have h1 : s₀.After s1 := by
    refine after_foldl _ _ _ _ hc ?_
    intro s x h
    split
    · exact h
    · split <;> simp [h]
  clear_value s1
  have h2 : s₀.After s2 := by
    simp only [s2]
    split
    · exact State.setF_after _ _ _ _ h1
    · exact h1
  clear_value s2
  have h3 : s₀.After s3 := by
    refine State.locksFreed_after _ ?_
    simp [h2]
  clear_value s3
  have h4 : s₀.After s4 := by
    refine after_forAll _ _ _ _ h3 ?_
    intro k s h
    exact State.portDisable_after _ _ h
  clear_value s4
  have h5 : s₀.After s5 := by
    refine after_forAll _ _ _ _ h4 ?_
    intro g s h
    split
    · exact State.migFail_after _ _ h
    · exact h
  refine after_forAll _ _ _ _ h5 ?_
  intro e s h
  exact State.engStopNow_after _ _ h

@[simp] theorem State.rehPower_after {s₀ : State} (s : State) (g : Grp) (hc : s₀.After s) :
    s₀.After (State.rehPower s g) := by
  unfold State.rehPower
  simp +contextual (maxDischargeDepth := 40) [*]

@[simp] theorem State.rehAdmit_after {s₀ : State} (s : State) (scope target : Nat) (hc : s₀.After s) :
    s₀.After (State.rehAdmit s scope target) := by
  unfold State.rehAdmit
  simp +contextual (maxDischargeDepth := 40) [*]

@[simp] theorem State.rehBegin_after {s₀ : State} (s : State) (hc : s₀.After s) :
    s₀.After (State.rehBegin s) := by
  unfold State.rehBegin
  simp +contextual (maxDischargeDepth := 40) [*]

@[simp] theorem State.rehGoOn_after {s₀ : State} (s : State) (hc : s₀.After s) :
    s₀.After (State.rehGoOn s) := by
  unfold State.rehGoOn
  simp +contextual (maxDischargeDepth := 40) [*]

@[simp] theorem State.rehStart_after {s₀ : State} (s : State) (scope target : Nat) (force : Bool) (hc : s₀.After s) :
    s₀.After (State.rehStart s scope target force) := by
  unfold State.rehStart
  dsimp only
  (repeat' split) <;> simp +contextual (maxDischargeDepth := 40) [*]

@[simp] theorem State.rehAdd_after {s₀ : State} (s : State) (u : Option Grp) (w : Word) (t : Nat) (hc : s₀.After s) :
    s₀.After (State.rehAdd s u w t) := by
  unfold State.rehAdd
  simp +contextual (maxDischargeDepth := 40) [*]

@[simp] theorem State.engineOut_after {s₀ : State} (s : State) (u : Option Grp) (e : Eng) (t : Nat) (hc : s₀.After s) :
    s₀.After (State.engineOut s u e t) := by
  unfold State.engineOut
  simp +contextual (maxDischargeDepth := 40) [*]

@[simp] theorem State.engineFails_after {s₀ : State} (s : State) (u : Option Grp) (e : Eng) (t : Nat) (hc : s₀.After s) :
    s₀.After (State.engineFails s u e t).1 := by
  unfold State.engineFails
  dsimp only
  (repeat' split) <;> simp +contextual (maxDischargeDepth := 40) [*]

@[simp] theorem State.rehRepair_after {s₀ : State} (s : State) (u : Option Grp) (t : Nat) (f : RehFail) (hc : s₀.After s) :
    s₀.After (State.rehRepair s u t f).1 := by
  unfold State.rehRepair
  try dsimp only
  repeat' first | (simp +contextual (maxDischargeDepth := 40) [*]; done) | split | (refine after_forAll _ _ _ _ ?_ ?_) | (refine after_foldl _ _ _ _ ?_ ?_) | (refine after_foldl_fst _ _ _ _ ?_ ?_) | (refine after_foldl_snd _ _ _ _ ?_ ?_) | (intro _ _ _; try dsimp only)

@[simp] theorem State.rehPathRes_after {s₀ : State} (s : State) (t : Nat) (r : RehRes) (l : List (RehFail × Bool)) (p : Path) (hc : s₀.After s) :
    s₀.After (State.rehPathRes s t r l p) := by
  unfold State.rehPathRes
  simp +contextual (maxDischargeDepth := 40) [*]

@[simp] theorem State.rehTestEnd_after {s₀ : State} (s : State) (u : Option Grp) (t : Nat) (r : RehRes) (hc : s₀.After s) :
    s₀.After (State.rehTestEnd s u t r) := by
  unfold State.rehTestEnd
  dsimp only
  (repeat' split) <;> simp +contextual (maxDischargeDepth := 40) [*]

@[simp] theorem State.rehRestore_after {s₀ : State} (s : State) (p : Page) (hc : s₀.After s) :
    s₀.After (State.rehRestore s p) := by
  unfold State.rehRestore
  simp +contextual (maxDischargeDepth := 40) [*]

@[simp] theorem State.rehReturn_after {s₀ : State} (s : State) (hc : s₀.After s) :
    s₀.After (State.rehReturn s) := by
  unfold State.rehReturn
  simp +contextual (maxDischargeDepth := 40) [*]

@[simp] theorem State.rehGrpRegs_after {s₀ : State} (s : State) (hc : s₀.After s) :
    s₀.After (State.rehGrpRegs s) := by
  unfold State.rehGrpRegs
  simp +contextual (maxDischargeDepth := 40) [*]

@[simp] theorem State.rehClose_after {s₀ : State} (s : State) (cause : Nat) (hc : s₀.After s) :
    s₀.After (State.rehClose s cause) := by
  unfold State.rehClose
  simp +contextual (maxDischargeDepth := 40) [*]

@[simp] theorem State.rehCutUnit_after {s₀ : State} (s : State) (u : Option Grp) (hc : s₀.After s) :
    s₀.After (State.rehCutUnit s u) := by
  unfold State.rehCutUnit
  simp +contextual (maxDischargeDepth := 40) [*]

@[simp] theorem State.rehStop_after {s₀ : State} (s : State) (cause : Nat) (hc : s₀.After s) :
    s₀.After (State.rehStop s cause) := by
  unfold State.rehStop
  simp +contextual (maxDischargeDepth := 40) [*]

@[simp] theorem State.rehCut_after {s₀ : State} (s : State) (cause : Nat) (hc : s₀.After s) :
    s₀.After (State.rehCut s cause) := by
  unfold State.rehCut
  simp +contextual (maxDischargeDepth := 40) [*]

@[simp] theorem State.rehFail_after {s₀ : State} (s : State) (hc : s₀.After s) :
    s₀.After (State.rehFail s) := by
  unfold State.rehFail
  simp +contextual (maxDischargeDepth := 40) [*]

@[simp] theorem State.fuseNext_after {s₀ : State} (s : State) (k : Nat) (hc : s₀.After s) :
    s₀.After (State.fuseNext s k) := by
  unfold State.fuseNext
  simp +contextual (maxDischargeDepth := 40) [*]

@[simp] theorem State.rehFuse_after {s₀ : State} (s : State) (hc : s₀.After s) :
    s₀.After (State.rehFuse s) := by
  unfold State.rehFuse
  simp +contextual (maxDischargeDepth := 40) [*]

@[simp] theorem State.fuseSessionEnd_after {s₀ : State} (s : State) (bad : List Nat) (hc : s₀.After s) :
    s₀.After (s.fuseSessionEnd bad) := by
  unfold State.fuseSessionEnd
  split
  · extract_lets l isBad words soft s1 s2 s3
    have h1 : s₀.After s1 := State.modReh_after _ _ hc (fun h => prefix_append_of_prefix _ _ _ h)
    clear_value s1
    have h3 : s₀.After s3 := by simp (maxDischargeDepth := 40) [s3, s2, h1]
    clear_value s3
    simp [h3]
  · exact hc

/-! ### Machine/Calib.lean -/

@[simp] theorem State.modCalDev_after {s₀ : State} (s : State) (f : CalDevSt → CalDevSt) (hc : s₀.After s) :
    s₀.After (State.modCalDev s f) := by
  unfold State.modCalDev
  simp +contextual (maxDischargeDepth := 40) [*]

@[simp] theorem State.bgCompare_after {s₀ : State} (s : State) (diff : BitVec 16) (hc : s₀.After s) :
    s₀.After (State.bgCompare s diff) := by
  unfold State.bgCompare
  dsimp only
  (repeat' split) <;> simp +contextual (maxDischargeDepth := 40) [*]

@[simp] theorem State.otAction_after {s₀ : State} (s : State) (i : Nat) (hc : s₀.After s) :
    s₀.After (State.otAction s i) := by
  unfold State.otAction
  simp +contextual (maxDischargeDepth := 40) [*]

@[simp] theorem State.thermBit_after {s₀ : State} (s : State) (x : Fld) (i : Nat) (b : Bool) (hc : s₀.After s) :
    s₀.After (State.thermBit s x i b) := by
  unfold State.thermBit
  simp +contextual (maxDischargeDepth := 40) [*]

@[simp] theorem State.overMean_after {s₀ : State} (s : State) (i : Nat) (t : Int) (hc : s₀.After s) :
    s₀.After (State.overMean s i t) := by
  unfold State.overMean
  simp +contextual (maxDischargeDepth := 40) [*]

@[simp] theorem State.tempTrigger_after {s₀ : State} (s : State) (g : Grp) (t : Int) (hc : s₀.After s) :
    s₀.After (State.tempTrigger s g t) := by
  unfold State.tempTrigger
  simp +contextual (maxDischargeDepth := 40) [*]

@[simp] theorem State.twinTrims_after {s₀ : State} (s : State) (reading : BitVec 12) (l : List (BitVec 3 × Byte × BitVec 16)) (hc : s₀.After s) :
    s₀.After (State.twinTrims s reading l) := by
  unfold State.twinTrims
  simp +contextual (maxDischargeDepth := 40) [*]

@[simp] theorem State.sensorMean_after {s₀ : State} (s : State) (i : Fin 9) (reading : BitVec 12) (twl : List (BitVec 3 × Byte × BitVec 16)) (hc : s₀.After s) :
    s₀.After (State.sensorMean s i reading twl) := by
  unfold State.sensorMean
  simp +contextual (maxDischargeDepth := 40) [*]

@[simp] theorem State.maxClr_after {s₀ : State} (s : State) (hc : s₀.After s) :
    s₀.After (State.maxClr s) := by
  unfold State.maxClr
  simp +contextual (maxDischargeDepth := 40) [*]

/-! ### Machine/Inject.lean -/

@[simp] theorem State.guardedTaken_after {s₀ : State} (s : State) (hc : s₀.After s) :
    s₀.After (State.guardedTaken s) := by
  unfold State.guardedTaken
  simp +contextual (maxDischargeDepth := 40) [*]

@[simp] theorem State.injA_after {s₀ : State} (s : State) (hc : s₀.After s) :
    s₀.After (State.injA s) := by
  unfold State.injA
  simp +contextual (maxDischargeDepth := 40) [*]

@[simp] theorem State.injB_after {s₀ : State} (s : State) (hc : s₀.After s) :
    s₀.After (State.injB s) := by
  unfold State.injB
  simp +contextual (maxDischargeDepth := 40) [*]

@[simp] theorem State.injHup_after {s₀ : State} (s : State) (hc : s₀.After s) :
    s₀.After (State.injHup s) := by
  unfold State.injHup
  simp +contextual (maxDischargeDepth := 40) [*]

@[simp] theorem State.injOt_after {s₀ : State} (s : State) (hc : s₀.After s) :
    s₀.After (State.injOt s) := by
  unfold State.injOt
  simp +contextual (maxDischargeDepth := 40) [*]

@[simp] theorem State.injGuarded_after {s₀ : State} (s : State) (p : Page) (bit : Nat) (hc : s₀.After s) :
    s₀.After (State.injGuarded s p bit) := by
  unfold State.injGuarded
  simp +contextual (maxDischargeDepth := 40) [*]
  (repeat' split) <;> simp +contextual (maxDischargeDepth := 40) [*]

@[simp] theorem State.injBit_after {s₀ : State} (s : State) (p : Page) (bit : Nat) (hc : s₀.After s) :
    s₀.After (State.injBit s p bit) := by
  unfold State.injBit
  simp +contextual (maxDischargeDepth := 40) [*]

@[simp] theorem State.evtInject_after {s₀ : State} (s : State) (p : Page) (w : Word) (hc : s₀.After s) :
    s₀.After (State.evtInject s p w) := by
  unfold State.evtInject
  simp +contextual (maxDischargeDepth := 40) [*]

@[simp] theorem State.violInject_after {s₀ : State} (s : State) (p : Page) (w : Word) (hc : s₀.After s) :
    s₀.After (State.violInject s p w) := by
  unfold State.violInject
  dsimp only
  (repeat' split) <;> simp +contextual (maxDischargeDepth := 40) [*]

@[simp] theorem State.eccInject_after {s₀ : State} (s : State) (row : BitVec 10) (hc : s₀.After s) :
    s₀.After (State.eccInject s row) := by
  unfold State.eccInject
  simp +contextual (maxDischargeDepth := 40) [*]

@[simp] theorem State.softEvent_after {s₀ : State} (s : State) (hc : s₀.After s) :
    s₀.After (State.softEvent s) := by
  unfold State.softEvent
  simp +contextual (maxDischargeDepth := 40) [*]

/-! ### Machine/Security.lean -/

@[simp] theorem State.imgTry_after {s₀ : State} (s : State) (slot : Nat) (hc : s₀.After s) :
    s₀.After (State.imgTry s slot).1 := by
  unfold State.imgTry
  simp +contextual (maxDischargeDepth := 40) [*]

@[simp] theorem State.imgInstall_after {s₀ : State} (s : State) (e : Eng) (slot : Nat) (hc : s₀.After s) :
    s₀.After (State.imgInstall s e slot) := by
  unfold State.imgInstall
  simp +contextual (maxDischargeDepth := 40) [*]

@[simp] theorem State.loadDone_after {s₀ : State} (s : State) (e : Eng) (hc : s₀.After s) :
    s₀.After (State.loadDone s e) := by
  unfold State.loadDone
  dsimp only
  (repeat' split) <;> simp +contextual (maxDischargeDepth := 40) [*]

@[simp] theorem State.setUm_after {s₀ : State} (s : State) (n : Nat) (v : UmSlotSt) (hc : s₀.After s)
    (hv : (s.umSlot n).Later v) : s₀.After (s.setUm n v) := by
  have h := State.After.security_later hc
  unfold State.setUm
  refine State.modSec_after _ _ hc (fun _ => ?_)
  unfold State.umSlot at hv
  split at hv <;> rename_i hn
  · simp only [hn, if_true]
    exact ⟨h.1.trans hv, h.2⟩
  · simp only [hn, if_false]
    exact ⟨h.1, h.2.1.trans hv, h.2.2⟩

@[simp] theorem State.keyOp_after {s₀ : State} (s : State) (op value slot : Nat) (hc : s₀.After s) :
    s₀.After (s.keyOp op value slot) := by
  unfold State.keyOp
  split
  · simp (maxDischargeDepth := 40) [hc]
  · have h := State.modSec_after s (fun x => { x with op := some (op, value, slot, s.umKey) }) hc (fun h => h)
    simp (maxDischargeDepth := 40) [h]

@[simp] theorem State.sessTimeout_after {s₀ : State} (s : State) (place : Fin 8) (hc : s₀.After s) :
    s₀.After (State.sessTimeout s place) := by
  unfold State.sessTimeout
  simp +contextual (maxDischargeDepth := 40) [*]

@[simp] theorem State.keyChecks_after (n0 done : Nat) (s : State) {s₀ : State} (hc : s₀.After s) : s₀.After (State.keyChecks n0 done s).1 := by
  induction n0 generalizing done s with
  | zero => exact hc
  | succ n ih =>
    unfold State.keyChecks
    dsimp only
    split
    · exact ih _ _ (by simp +contextual (maxDischargeDepth := 40) [hc])
    · simp +contextual (maxDischargeDepth := 40) [hc]

@[simp] theorem State.keyBurn_after {s₀ : State} (s : State) (op value slot : Nat) (key : List Byte) (hc : s₀.After s) :
    s₀.After (s.keyBurn op value slot key) := by
  have h := State.After.security_later hc
  unfold State.keyBurn
  split
  · exact State.setUm_after s slot _ hc ⟨fun _ => rfl, fun _ => rfl, id⟩
  · split
    · refine State.modSec_after _ _ (State.sessDrop_after _ _ (State.setUm_after s slot _ hc ⟨id, id, fun _ => rfl⟩)) ?_
      intro h2
      exact h2
    · split
      · exact State.modSec_after _ _ hc (fun _ => ⟨h.1, h.2.1, bitsKept_or _ _ _ h.2.2.1, h.2.2.2⟩)
      · exact State.modSec_after _ _ hc (fun _ => ⟨h.1, h.2.1, h.2.2.1, le_trans h.2.2.2.1 (le_max_left _ _), h.2.2.2.2⟩)

@[simp] theorem State.keyPart_after {s₀ : State} (s : State) (op value : Nat) (hc : s₀.After s) :
    s₀.After (s.keyPart op value) := by
  unfold State.keyPart
  split
  · extract_lets d
    have hd : s₀.After d.2 := State.draw_after s hc
    clear_value d
    have h := State.After.security_later hd
    exact State.modSec_after _ _ hd (fun _ => ⟨h.1, h.2.1, h.2.2.1, le_trans h.2.2.2.1 (Nat.le_add_right _ _), h.2.2.2.2⟩)
  · exact hc

@[simp] theorem State.keyOpEnd_after (s : State) (ok : Bool) {s₀ : State} (hc : s₀.After s) : s₀.After (s.keyOpEnd ok) := by
  unfold State.keyOpEnd
  split
  · simp +contextual (maxDischargeDepth := 40) [hc]
  · exact hc

/-! ### Machine/Start.lean -/

theorem keptRegs_wf (cause : Nat) (l : List (Nat × Word)) (h : tabWf regReset l = true) :
    tabWf regReset (keptRegs cause l) = true := by
  induction l with
  | nil => rfl
  | cons e t ih =>
    obtain ⟨k, v⟩ := e
    rw [tabWf_cons] at h
    have hm : ∀ e ∈ keptRegs cause t, ∃ x ∈ t, x.1 = e.1 := by
      intro e he
      unfold keptRegs at he
      rw [List.mem_filterMap] at he
      obtain ⟨x, hx, hy⟩ := he
      dsimp only at hy
      split at hy
      · cases hy
      · cases hy
        exact ⟨x, hx, rfl⟩
    unfold keptRegs at ih hm ⊢
    rw [List.filterMap_cons]
    dsimp only
    split
    · exact ih h.2.2
    · rename_i b hb
      split at hb
      · cases hb
      · rename_i hv
        cases hb
        rw [tabWf_cons]
        refine ⟨hv, fun e he => ?_, ih h.2.2⟩
        obtain ⟨x, hx, hxe⟩ := hm e he
        exact hxe ▸ h.2.1 x hx

@[simp] theorem State.fullResetWith_after (s : State) (cause : Nat) {s₀ : State} (hc : s₀.After s) : s₀.After (s.fullResetWith cause) := by
  unfold State.fullResetWith
  extract_lets s1 d um seen
  have hf : s₀.After s1 := State.flashCut_after s hc
  have hd : s₀.After d.2 := State.draw_after s1 hf
  have hu : s₀.security.Later um := by
    simp only [um]
    split
    · refine State.After.security_later (State.setUm_after _ _ _ hd ⟨fun h => ?_, id, id⟩)
      have : (s1.umSlot _).burned = true := h
      simp [this]
    · exact State.After.security_later hf
  have hq := State.After.queue_of hf
  have he := State.After.elapsed_le hf
  have hr := State.After.free_le hd
  have hx := State.After.fuses_prefix hf
  refine State.setF_after _ _ _ _ ?_
  refine ⟨fun hb => tabWf_tabSet _ _ _ _ (keptRegs_wf _ _ (hf.1 hb)), fun _ => rfl, fun _ => rfl, fun _ => rfl, fun _ => rfl,
    fun _ => rfl, fun _ => rfl, fun _ => rfl, fun _ => rfl, fun _ => rfl, fun _ => rfl, fun _ => rfl, hq, he, hr, hu, hx⟩

@[simp] theorem State.fullReset_after {s₀ : State} (s : State) (hc : s₀.After s) :
    s₀.After (State.fullReset s) := by
  unfold State.fullReset
  dsimp only
  (repeat' split) <;> simp +contextual (maxDischargeDepth := 40) [*]

@[simp] theorem State.ontimeRestore_after {s₀ : State} (s : State) (hc : s₀.After s) :
    s₀.After (State.ontimeRestore s) := by
  unfold State.ontimeRestore
  simp +contextual (maxDischargeDepth := 40) [*]

@[simp] theorem State.repairEngine_after {s₀ : State} (s : State) (w : Word) (hc : s₀.After s) :
    s₀.After (State.repairEngine s w) := by
  unfold State.repairEngine
  dsimp only
  (repeat' split) <;> simp +contextual (maxDischargeDepth := 40) [*]

@[simp] theorem State.startRepair_after {s₀ : State} (s : State) (hc : s₀.After s) :
    s₀.After (State.startRepair s) := by
  unfold State.startRepair
  simp +contextual (maxDischargeDepth := 40) [*]

@[simp] theorem State.startKeys_after {s₀ : State} (s : State) (hc : s₀.After s) : s₀.After s.startKeys := by
  unfold State.startKeys
  exact State.setF_after _ _ _ _ (State.modSec_after _ _ hc (fun h => h))

@[simp] theorem State.cfgApply_after {s₀ : State} (s : State) (l : List (Nat × Word)) (dark : Bool) (hc : s₀.After s) :
    s₀.After (State.cfgApply s l dark) := by
  unfold State.cfgApply
  try dsimp only
  repeat' first | (simp +contextual (maxDischargeDepth := 40) [*]; done) | split | (refine after_forAll _ _ _ _ ?_ ?_) | (refine after_foldl _ _ _ _ ?_ ?_) | (refine after_foldl_fst _ _ _ _ ?_ ?_) | (refine after_foldl_snd _ _ _ _ ?_ ?_) | (intro _ _ _; try dsimp only)

@[simp] theorem State.startConfig_after {s₀ : State} (s : State) (dark : Bool) (hc : s₀.After s) :
    s₀.After (State.startConfig s dark) := by
  unfold State.startConfig
  dsimp only
  (repeat' split) <;> simp +contextual (maxDischargeDepth := 40) [*]

@[simp] theorem State.calPathRestore_after {s₀ : State} (s : State) (pl : List Byte) (p : Path) (hc : s₀.After s) :
    s₀.After (State.calPathRestore s pl p) := by
  unfold State.calPathRestore
  simp +contextual (maxDischargeDepth := 40) [*]

@[simp] theorem State.factoryDelays_after {s₀ : State} (s : State) (p : Path) (hc : s₀.After s) :
    s₀.After (State.factoryDelays s p) := by
  unfold State.factoryDelays
  simp +contextual (maxDischargeDepth := 40) [*]

@[simp] theorem State.startCal_after {s₀ : State} (s : State) (hc : s₀.After s) :
    s₀.After (State.startCal s) := by
  unfold State.startCal
  simp +contextual (maxDischargeDepth := 40) [*]

@[simp] theorem State.startUnits_after {s₀ : State} (s : State) (hc : s₀.After s) :
    s₀.After (State.startUnits s) := by
  unfold State.startUnits
  simp +contextual (maxDischargeDepth := 40) [*]

@[simp] theorem State.startDecide_after {s₀ : State} (s : State) (hc : s₀.After s) :
    s₀.After (State.startDecide s).1 := by
  unfold State.startDecide
  simp +contextual (maxDischargeDepth := 40) [*]

@[simp] theorem State.quickResults_after {s₀ : State} (s : State) (hc : s₀.After s) :
    s₀.After (State.quickResults s) := by
  unfold State.quickResults
  dsimp only
  (repeat' split) <;> simp +contextual (maxDischargeDepth := 40) [*]

@[simp] theorem State.startEngines_after {s₀ : State} (s : State) (slot : Nat) (hc : s₀.After s) :
    s₀.After (State.startEngines s slot) := by
  unfold State.startEngines
  simp +contextual (maxDischargeDepth := 40) [*]

@[simp] theorem State.startImage_after {s₀ : State} (s : State) (hc : s₀.After s) :
    s₀.After (State.startImage s) := by
  unfold State.startImage
  simp +contextual (maxDischargeDepth := 40) [*]

@[simp] theorem State.startRun_after {s₀ : State} (s : State) (hc : s₀.After s) :
    s₀.After (State.startRun s) := by
  unfold State.startRun
  simp +contextual (maxDischargeDepth := 40) [*]

@[simp] theorem State.startRehearsal_after {s₀ : State} (s : State) (hc : s₀.After s) :
    s₀.After (State.startRehearsal s) := by
  unfold State.startRehearsal
  simp +contextual (maxDischargeDepth := 40) [*]

@[simp] theorem State.startFirst_after {s₀ : State} (s : State) (dark : Bool) (hc : s₀.After s) :
    s₀.After (State.startFirst s dark) := by
  unfold State.startFirst
  simp +contextual (maxDischargeDepth := 40) [*]

@[simp] theorem State.startStraps_after {s₀ : State} (s : State) (a b c : BitVec 4) (hc : s₀.After s) :
    s₀.After (State.startStraps s a b c) := by
  unfold State.startStraps
  simp +contextual (maxDischargeDepth := 40) [*]

@[simp] theorem State.startSteps_after {s₀ : State} (s : State) (hc : s₀.After s) :
    s₀.After (State.startSteps s) := by
  unfold State.startSteps
  simp +contextual (maxDischargeDepth := 40) [*]

@[simp] theorem State.startUpReset_after {s₀ : State} (s : State) (hc : s₀.After s) :
    s₀.After (State.startUpReset s) := by
  unfold State.startUpReset
  simp +contextual (maxDischargeDepth := 40) [*]

@[simp] theorem State.lanesReady_after {s₀ : State} (s : State) (hc : s₀.After s) :
    s₀.After (State.lanesReady s) := by
  unfold State.lanesReady
  simp +contextual (maxDischargeDepth := 40) [*]

/-! ### Machine/Resets.lean -/

@[simp] theorem State.dropAccess_after {s₀ : State} (s : State) (hc : s₀.After s) :
    s₀.After (State.dropAccess s) := by
  unfold State.dropAccess
  simp +contextual (maxDischargeDepth := 40) [*]

@[simp] theorem State.toDevice_after {s₀ : State} (s : State) (d : Device) (hc : s₀.After s) :
    s₀.After (State.toDevice s d) := by
  unfold State.toDevice
  simp +contextual (maxDischargeDepth := 40) [*]

@[simp] theorem State.busHouseReset_after {s₀ : State} (s : State) (hc : s₀.After s) :
    s₀.After (State.busHouseReset s) := by
  unfold State.busHouseReset
  simp +contextual (maxDischargeDepth := 40) [*]

@[simp] theorem State.flashHostDrop_after {s₀ : State} (s : State) (hc : s₀.After s) :
    s₀.After (State.flashHostDrop s) := by
  unfold State.flashHostDrop
  simp +contextual (maxDischargeDepth := 40) [*]

@[simp] theorem State.houseEffects_after {s₀ : State} (s : State) (cause : Nat) (hc : s₀.After s) :
    s₀.After (State.houseEffects s cause) := by
  unfold State.houseEffects
  simp +contextual (maxDischargeDepth := 40) [*]

@[simp] theorem State.houseReset1_after {s₀ : State} (s : State) (cause : Nat) (hc : s₀.After s) :
    s₀.After (State.houseReset1 s cause) := by
  unfold State.houseReset1
  simp +contextual (maxDischargeDepth := 40) [*]

@[simp] theorem State.hrstLow_after {s₀ : State} (s : State) (hc : s₀.After s) :
    s₀.After (State.hrstLow s) := by
  unfold State.hrstLow
  simp +contextual (maxDischargeDepth := 40) [*]

@[simp] theorem State.startUp_after {s₀ : State} (s : State) (a b c : BitVec 4) (hc : s₀.After s) :
    s₀.After (State.startUp s a b c) := by
  unfold State.startUp
  simp +contextual (maxDischargeDepth := 40) [*]

@[simp] theorem State.twinStop_after {s₀ : State} (s : State) (hc : s₀.After s) :
    s₀.After (State.twinStop s) := by
  unfold State.twinStop
  simp +contextual (maxDischargeDepth := 40) [*]

@[simp] theorem State.scenesDark_after {s₀ : State} (s : State) (hc : s₀.After s) :
    s₀.After (State.scenesDark s) := by
  unfold State.scenesDark
  simp +contextual (maxDischargeDepth := 40) [*]

@[simp] theorem State.darkGroup_after {s₀ : State} (s : State) (g : Grp) (hc : s₀.After s) :
    s₀.After (State.darkGroup s g) := by
  unfold State.darkGroup
  simp +contextual (maxDischargeDepth := 40) [*]

@[simp] theorem State.darkEnter_after {s₀ : State} (s : State) (hc : s₀.After s) :
    s₀.After (State.darkEnter s) := by
  unfold State.darkEnter
  simp +contextual (maxDischargeDepth := 40) [*]

@[simp] theorem State.flashThen_after {s₀ : State} (s : State) (hc : s₀.After s) :
    s₀.After (State.flashThen s) := by
  unfold State.flashThen
  simp +contextual (maxDischargeDepth := 40) [*]

@[simp] theorem State.houseResetEnd_after {s₀ : State} (s : State) (hc : s₀.After s) :
    s₀.After (State.houseResetEnd s) := by
  unfold State.houseResetEnd
  simp +contextual (maxDischargeDepth := 40) [*]

@[simp] theorem State.darkAsk_after {s₀ : State} (s : State) (hc : s₀.After s) :
    s₀.After (State.darkAsk s) := by
  unfold State.darkAsk
  simp +contextual (maxDischargeDepth := 40) [*]

@[simp] theorem State.darkReached_after {s₀ : State} (s : State) (hc : s₀.After s) :
    s₀.After (State.darkReached s) := by
  unfold State.darkReached
  simp +contextual (maxDischargeDepth := 40) [*]

@[simp] theorem State.darkWake_after {s₀ : State} (s : State) (porst : Bool) (hc : s₀.After s) :
    s₀.After (State.darkWake s porst) := by
  unfold State.darkWake
  simp +contextual (maxDischargeDepth := 40) [*]

@[simp] theorem State.failDeclare_after {s₀ : State} (s : State) (cause : Nat) (hc : s₀.After s) :
    s₀.After (State.failDeclare s cause) := by
  unfold State.failDeclare
  simp +contextual (maxDischargeDepth := 40) [*]

@[simp] theorem State.powerFailure_after {s₀ : State} (s : State) (hc : s₀.After s) :
    s₀.After (State.powerFailure s) := by
  unfold State.powerFailure
  simp +contextual (maxDischargeDepth := 40) [*]

@[simp] theorem State.railFault_after {s₀ : State} (s : State) (r : Fin 6) (hc : s₀.After s) :
    s₀.After (State.railFault s r) := by
  unfold State.railFault
  simp +contextual (maxDischargeDepth := 40) [*]

@[simp] theorem State.fallRecord_after {s₀ : State} (s : State) (hup : BitVec 16) (hc : s₀.After s) :
    s₀.After (State.fallRecord s hup) := by
  unfold State.fallRecord
  simp +contextual (maxDischargeDepth := 40) [*]

@[simp] theorem State.vkaLost_after {s₀ : State} (s : State) (hc : s₀.After s) :
    s₀.After (State.vkaLost s) := by
  unfold State.vkaLost
  simp +contextual (maxDischargeDepth := 40) [*]

@[simp] theorem State.vioLoss_after {s₀ : State} (s : State) (hc : s₀.After s) :
    s₀.After (State.vioLoss s) := by
  unfold State.vioLoss
  simp +contextual (maxDischargeDepth := 40) [*]

@[simp] theorem State.vioReturn_after {s₀ : State} (s : State) (hc : s₀.After s) :
    s₀.After (State.vioReturn s) := by
  unfold State.vioReturn
  simp +contextual (maxDischargeDepth := 40) [*]

@[simp] theorem State.boundaryScan_after {s₀ : State} (s : State) (hc : s₀.After s) :
    s₀.After (State.boundaryScan s) := by
  unfold State.boundaryScan
  simp +contextual (maxDischargeDepth := 40) [*]

end Sys2Proof.Machine
end

