-- ==== Sys2Proof/Laws/AfterWrites.lean ====
section
/-!
SUPPORT. Laws/AfterWrites.lean: what State.After says of: reads and writes of registers and their effects.
-/
namespace Sys2Proof.Machine

set_option linter.unusedTactic false
set_option linter.unreachableTactic false

/-! ### Machine/View.lean -/

@[simp] theorem State.readTimeNow_after {s₀ : State} (s : State) (c : Src) (i : Nat) (hc : s₀.After s) :
    s₀.After (State.readTimeNow s c i).1 := by
  unfold State.readTimeNow
  simp +contextual (maxDischargeDepth := 40) [*]

@[simp] theorem State.readRspq_after {s₀ : State} (s : State) (c : Src) (e : Eng) (i : Nat) (hc : s₀.After s) :
    s₀.After (State.readRspq s c e i).1 := by
  unfold State.readRspq
  simp +contextual (maxDischargeDepth := 40) [*]

@[simp] theorem State.readReg_after (s : State) (c : Src) (p : Page) (off : Nat) {s₀ : State} (hc : s₀.After s) :
    s₀.After (s.readReg c p off).1 := by
  unfold State.readReg
  split
  · exact hc
  · cases p <;> dsimp only <;> (repeat' split) <;> simp +contextual (maxDischargeDepth := 40) [hc]

/-! ### Machine/Actions.lean -/

@[simp] theorem State.regStore_after {s₀ : State} (s : State) (p : Page) (off : Nat) (o : WrOut) (hc : s₀.After s) :
    s₀.After (State.regStore s p off o) := by
  unfold State.regStore
  simp +contextual (maxDischargeDepth := 40) [*]

@[simp] theorem State.effPageCtl_after {s₀ : State} (s : State) (p : Page) (old : Word) (hc : s₀.After s) :
    s₀.After (State.effPageCtl s p old) := by
  unfold State.effPageCtl
  dsimp only
  (repeat' split) <;> simp +contextual (maxDischargeDepth := 40) [*]

@[simp] theorem State.effSupply_after {s₀ : State} (s : State) (off : Nat) (old act : Word) (hc : s₀.After s) :
    s₀.After (State.effSupply s off old act) := by
  unfold State.effSupply
  simp +contextual (maxDischargeDepth := 40) [*]

@[simp] theorem State.effPstate_after {s₀ : State} (s : State) (off : Nat) (act wrote : Word) (hc : s₀.After s) :
    s₀.After (State.effPstate s off act wrote) := by
  unfold State.effPstate
  simp +contextual (maxDischargeDepth := 40) [*]

@[simp] theorem State.effReh_after {s₀ : State} (s : State) (off : Nat) (wrote : Word) (hc : s₀.After s) :
    s₀.After (State.effReh s off wrote) := by
  unfold State.effReh
  dsimp only
  (repeat' split) <;> simp +contextual (maxDischargeDepth := 40) [*]

@[simp] theorem State.effTherm_after {s₀ : State} (s : State) (off : Nat) (act : Word) (hc : s₀.After s) :
    s₀.After (State.effTherm s off act) := by
  unfold State.effTherm
  simp +contextual (maxDischargeDepth := 40) [*]

@[simp] theorem State.effTime_after {s₀ : State} (s : State) (off : Nat) (old act wrote : Word) (hc : s₀.After s) :
    s₀.After (State.effTime s off old act wrote) := by
  unfold State.effTime
  simp +contextual (maxDischargeDepth := 40) [*]

@[simp] theorem State.effTwin_after {s₀ : State} (s : State) (off : Nat) (old act : Word) (hc : s₀.After s) :
    s₀.After (State.effTwin s off old act) := by
  unfold State.effTwin
  simp +contextual (maxDischargeDepth := 40) [*]

@[simp] theorem State.effFrame_after {s₀ : State} (s : State) (off : Nat) (old wrote : Word) (hc : s₀.After s) :
    s₀.After (State.effFrame s off old wrote) := by
  unfold State.effFrame
  simp +contextual (maxDischargeDepth := 40) [*]

@[simp] theorem State.effTwc_after {s₀ : State} (s : State) (off : Nat) (old wrote : Word) (hc : s₀.After s) :
    s₀.After (State.effTwc s off old wrote) := by
  unfold State.effTwc
  simp +contextual (maxDischargeDepth := 40) [*]
  (repeat' split) <;> simp +contextual (maxDischargeDepth := 40) [*]

@[simp] theorem State.spiFlush_after {s₀ : State} (s : State) (hc : s₀.After s) :
    s₀.After (State.spiFlush s) := by
  unfold State.spiFlush
  simp +contextual (maxDischargeDepth := 40) [*]

@[simp] theorem State.effSpi_after {s₀ : State} (s : State) (off : Nat) (act : Word) (hc : s₀.After s) :
    s₀.After (State.effSpi s off act) := by
  unfold State.effSpi
  simp +contextual (maxDischargeDepth := 40) [*]

@[simp] theorem State.effGroup_after {s₀ : State} (s : State) (g : Grp) (off : Nat) (act wrote : Word) (hc : s₀.After s) :
    s₀.After (State.effGroup s g off act wrote) := by
  unfold State.effGroup
  simp +contextual (maxDischargeDepth := 40) [*]

@[simp] theorem State.effStage_after {s₀ : State} (s : State) (e : Eng) (off : Nat) (act : Word) (hc : s₀.After s) :
    s₀.After (State.effStage s e off act) := by
  unfold State.effStage
  try dsimp only
  repeat' first | (simp +contextual (maxDischargeDepth := 40) [*]; done) | split | (refine after_forAll _ _ _ _ ?_ ?_) | (refine after_foldl _ _ _ _ ?_ ?_) | (refine after_foldl_fst _ _ _ _ ?_ ?_) | (refine after_foldl_snd _ _ _ _ ?_ ?_) | (intro _ _ _; try dsimp only)

@[simp] theorem State.drawPrbs_after {s₀ : State} (s : State) (hc : s₀.After s) :
    s₀.After (State.drawPrbs s).1 := by
  unfold State.drawPrbs
  simp +contextual (maxDischargeDepth := 40) [*]

@[simp] theorem State.effPath_after {s₀ : State} (s : State) (p : Path) (off : Nat) (old act : Word) (hc : s₀.After s) :
    s₀.After (State.effPath s p off old act) := by
  unfold State.effPath
  simp +contextual (maxDischargeDepth := 40) [*]

@[simp] theorem State.effHeader_after {s₀ : State} (s : State) (p : Page) (off : Nat) (old act : Word) (hc : s₀.After s) :
    s₀.After (State.effHeader s p off old act) := by
  unfold State.effHeader
  simp +contextual (maxDischargeDepth := 40) [*]

@[simp] theorem State.effect_after {s₀ : State} (s : State) (p : Page) (off : Nat) (old act wrote : Word) (hc : s₀.After s) :
    s₀.After (State.effect s p off old act wrote) := by
  unfold State.effect
  try dsimp only
  repeat' first | (simp +contextual (maxDischargeDepth := 40) [*]; done) | split | (refine after_forAll _ _ _ _ ?_ ?_) | (refine after_foldl _ _ _ _ ?_ ?_) | (refine after_foldl_fst _ _ _ _ ?_ ?_) | (refine after_foldl_snd _ _ _ _ ?_ ?_) | (intro _ _ _; try dsimp only)

/-! ### Machine/Commit.lean -/

@[simp] theorem State.pllChanged_after {s₀ : State} (s : State) (g : Grp) (b : Bool) (hc : s₀.After s) :
    s₀.After (State.pllChanged s g b) := by
  unfold State.pllChanged
  simp +contextual (maxDischargeDepth := 40) [*]

@[simp] theorem State.commitPlls_after {s₀ : State} (s : State) (v : Nat → Word) (g : Grp) (hc : s₀.After s) :
    s₀.After (State.commitPlls s v g) := by
  unfold State.commitPlls
  simp +contextual (maxDischargeDepth := 40) [*]

@[simp] theorem State.commitLine_after {s₀ : State} (s : State) (v : Nat → Word) (p : Path) (hc : s₀.After s) :
    s₀.After (State.commitLine s v p) := by
  unfold State.commitLine
  simp +contextual (maxDischargeDepth := 40) [*]

@[simp] theorem State.commitPort_after {s₀ : State} (s : State) (v : Nat → Word) (n : Lane) (hc : s₀.After s) :
    s₀.After (State.commitPort s v n) := by
  unfold State.commitPort
  simp +contextual (maxDischargeDepth := 40) [*]

@[simp] theorem State.profLeave_after {s₀ : State} (s : State) (v : Nat → Word) (l : List Nat) (hc : s₀.After s) :
    s₀.After (State.profLeave s v l) := by
  unfold State.profLeave
  simp +contextual (maxDischargeDepth := 40) [*]

@[simp] theorem State.commitProfile_after {s₀ : State} (s : State) (n : Lane) (hc : s₀.After s) :
    s₀.After (State.commitProfile s n) := by
  unfold State.commitProfile
  simp +contextual (maxDischargeDepth := 40) [*]

@[simp] theorem State.commitSets_after {s₀ : State} (s : State) (v : Nat → Word) (l : List Nat) (hc : s₀.After s) :
    s₀.After (State.commitSets s v l) := by
  unfold State.commitSets
  simp +contextual (maxDischargeDepth := 40) [*]

@[simp] theorem State.commitReg_after {s₀ : State} (s : State) (p : Page) (off : Nat) (data mask : Word) (hc : s₀.After s) :
    s₀.After (State.commitReg s p off data mask).1 := by
  unfold State.commitReg
  simp +contextual (maxDischargeDepth := 40) [*]

@[simp] theorem State.commitStore_after {s₀ : State} (s : State) (x : JobSt) (hc : s₀.After s) :
    s₀.After (State.commitStore s x).1 := by
  unfold State.commitStore
  try dsimp only
  repeat' first | (simp +contextual (maxDischargeDepth := 40) [*]; done) | split | (refine after_forAll _ _ _ _ ?_ ?_) | (refine after_foldl _ _ _ _ ?_ ?_) | (refine after_foldl_fst _ _ _ _ ?_ ?_) | (refine after_foldl_snd _ _ _ _ ?_ ?_) | (intro _ _ _; try dsimp only)

@[simp] theorem State.applyScene_after {s₀ : State} (s : State) (x : JobSt) (hc : s₀.After s) :
    s₀.After (State.applyScene s x) := by
  unfold State.applyScene
  try dsimp only
  repeat' first | (simp +contextual (maxDischargeDepth := 40) [*]; done) | split | (refine after_forAll _ _ _ _ ?_ ?_) | (refine after_foldl _ _ _ _ ?_ ?_) | (refine after_foldl_fst _ _ _ _ ?_ ?_) | (refine after_foldl_snd _ _ _ _ ?_ ?_) | (intro _ _ _; try dsimp only)

@[simp] theorem State.commitDone_after {s₀ : State} (s : State) (x : JobSt) (hc : s₀.After s) :
    s₀.After (State.commitDone s x) := by
  unfold State.commitDone
  simp +contextual (maxDischargeDepth := 40) [*]

@[simp] theorem State.cueFires_after {s₀ : State} (s : State) (x : JobSt) (c : BitVec 12) (hc : s₀.After s) :
    s₀.After (State.cueFires s x c) := by
  unfold State.cueFires
  simp +contextual (maxDischargeDepth := 40) [*]

@[simp] theorem State.cueAfter_after {s₀ : State} (s : State) (x : JobSt) (c : BitVec 12) (last : Bool) (hc : s₀.After s) :
    s₀.After (State.cueAfter s x c last) := by
  unfold State.cueAfter
  simp +contextual (maxDischargeDepth := 40) [*]

@[simp] theorem State.cueNotified_after {s₀ : State} (s : State) (c : BitVec 12) (on : Bool) (hc : s₀.After s) :
    s₀.After (State.cueNotified s c on) := by
  unfold State.cueNotified
  simp +contextual (maxDischargeDepth := 40) [*]

@[simp] theorem State.commitJob_after {s₀ : State} (s : State) (x : JobSt) (last : Bool) (hc : s₀.After s) :
    s₀.After (State.commitJob s x last) := by
  unfold State.commitJob
  dsimp only
  (repeat' split) <;> simp +contextual (maxDischargeDepth := 40) [*]

@[simp] theorem State.sceneCommit_after {s₀ : State} (s : State) (j : Job) (hc : s₀.After s) :
    s₀.After (State.sceneCommit s j) := by
  unfold State.sceneCommit
  try dsimp only
  repeat' first | (simp +contextual (maxDischargeDepth := 40) [*]; done) | split | (refine after_forAll _ _ _ _ ?_ ?_) | (refine after_foldl _ _ _ _ ?_ ?_) | (refine after_foldl_fst _ _ _ _ ?_ ?_) | (refine after_foldl_snd _ _ _ _ ?_ ?_) | (intro _ _ _; try dsimp only)

@[simp] theorem State.cueDisarmNow_after {s₀ : State} (s : State) (c : BitVec 12) (hc : s₀.After s) :
    s₀.After (State.cueDisarmNow s c) := by
  unfold State.cueDisarmNow
  try dsimp only
  repeat' first | (simp +contextual (maxDischargeDepth := 40) [*]; done) | split | (refine after_forAll _ _ _ _ ?_ ?_) | (refine after_foldl _ _ _ _ ?_ ?_) | (refine after_foldl_fst _ _ _ _ ?_ ?_) | (refine after_foldl_snd _ _ _ _ ?_ ?_) | (intro _ _ _; try dsimp only)

@[simp] theorem State.cueDisarm_after {s₀ : State} (s : State) (c : BitVec 12) (hc : s₀.After s) :
    s₀.After (State.cueDisarm s c) := by
  unfold State.cueDisarm
  try dsimp only
  repeat' first | (simp +contextual (maxDischargeDepth := 40) [*]; done) | split | (refine after_forAll _ _ _ _ ?_ ?_) | (refine after_foldl _ _ _ _ ?_ ?_) | (refine after_foldl_fst _ _ _ _ ?_ ?_) | (refine after_foldl_snd _ _ _ _ ?_ ?_) | (intro _ _ _; try dsimp only)

/-! ### Machine/Mirror.lean -/

@[simp] theorem State.mirBytes_after {s₀ : State} (s : State) (a : Nat) (l : List Byte) (hc : s₀.After s) :
    s₀.After (State.mirBytes s a l) := by
  unfold State.mirBytes
  simp +contextual (maxDischargeDepth := 40) [*]

@[simp] theorem State.mirDesc_after {s₀ : State} (s : State) (n base len : Nat) (hc : s₀.After s) :
    s₀.After (State.mirDesc s n base len) := by
  unfold State.mirDesc
  simp +contextual (maxDischargeDepth := 40) [*]

@[simp] theorem State.mirClear_after {s₀ : State} (s : State) (hc : s₀.After s) :
    s₀.After (State.mirClear s) := by
  unfold State.mirClear
  simp +contextual (maxDischargeDepth := 40) [*]

@[simp] theorem State.mirApply_after {s₀ : State} (s : State) (op : MirOp) (hc : s₀.After s) :
    s₀.After (State.mirApply s op) := by
  unfold State.mirApply
  dsimp only
  (repeat' split) <;> simp +contextual (maxDischargeDepth := 40) [*]

@[simp] theorem State.mirCrcIn_after {s₀ : State} (s : State) (w : Word) (hc : s₀.After s) :
    s₀.After (State.mirCrcIn s w) := by
  unfold State.mirCrcIn
  try dsimp only
  repeat' first | (simp +contextual (maxDischargeDepth := 40) [*]; done) | split | (refine after_forAll _ _ _ _ ?_ ?_) | (refine after_foldl _ _ _ _ ?_ ?_) | (refine after_foldl_fst _ _ _ _ ?_ ?_) | (refine after_foldl_snd _ _ _ _ ?_ ?_) | (intro _ _ _; try dsimp only)

@[simp] theorem State.syncDone_after {s₀ : State} (s : State) (r : MirRange) (hc : s₀.After s) :
    s₀.After (State.syncDone s r) := by
  unfold State.syncDone
  simp +contextual (maxDischargeDepth := 40) [*]

/-! ### Machine/Writes.lean -/

@[simp] theorem State.effHouse_after {s₀ : State} (s : State) (off : Nat) (act wrote : Word) (hc : s₀.After s) :
    s₀.After (State.effHouse s off act wrote) := by
  unfold State.effHouse
  simp +contextual (maxDischargeDepth := 40) [*]
  (repeat' split) <;> simp +contextual (maxDischargeDepth := 40) [*]

@[simp] theorem State.effNvm_after {s₀ : State} (s : State) (off : Nat) (wrote : Word) (hc : s₀.After s) :
    s₀.After (State.effNvm s off wrote) := by
  unfold State.effNvm
  simp +contextual (maxDischargeDepth := 40) [*]

@[simp] theorem State.effSec_after {s₀ : State} (s : State) (off : Nat) (wrote : Word) (hc : s₀.After s) :
    s₀.After (State.effSec s off wrote) := by
  unfold State.effSec
  simp +contextual (maxDischargeDepth := 40) [*]

@[simp] theorem State.hostStore_after {s₀ : State} (s : State) (w : Option Eng) (n base : Nat) (hc : s₀.After s) :
    s₀.After (State.hostStore s w n base) := by
  unfold State.hostStore
  simp +contextual (maxDischargeDepth := 40) [*]

@[simp] theorem State.armOp_after {s₀ : State} (s : State) (c : BitVec 12) (hc : s₀.After s) :
    s₀.After (State.armOp s c) := by
  unfold State.armOp
  simp +contextual (maxDischargeDepth := 40) [*]

@[simp] theorem State.effCue_after {s₀ : State} (s : State) (off : Nat) (wrote : Word) (hc : s₀.After s) :
    s₀.After (State.effCue s off wrote) := by
  unfold State.effCue
  dsimp only
  (repeat' split) <;> simp +contextual (maxDischargeDepth := 40) [*]

@[simp] theorem State.descReg_after (s : State) (data mask : Word) {s₀ : State} (hc : s₀.After s) : s₀.After (s.descReg data mask) := by
  unfold State.descReg
  extract_lets n w t touched s1
  have ht : s₀.After (t.getD s) := by
    have h : ∀ x, t = some x → s₀.After x := by
      intro x hx
      simp only [t] at hx
      split at hx
      · cases hx
      · exact State.descWrite_after s _ _ hc x hx
    cases hT : t with
    | none => exact hc
    | some x => exact h x hT
  have h1 : s₀.After s1 := State.violIf_after _ _ _ _ ht
  split
  · exact State.mirSent_after _ _ h1
  · exact h1

@[simp] theorem State.directEffect_after {s₀ : State} (s : State) (p : Page) (off : Nat) (old act wrote : Word) (hc : s₀.After s) :
    s₀.After (State.directEffect s p off old act wrote) := by
  unfold State.directEffect
  try dsimp only
  repeat' first | (simp +contextual (maxDischargeDepth := 40) [*]; done) | split | (refine after_forAll _ _ _ _ ?_ ?_) | (refine after_foldl _ _ _ _ ?_ ?_) | (refine after_foldl_fst _ _ _ _ ?_ ?_) | (refine after_foldl_snd _ _ _ _ ?_ ?_) | (intro _ _ _; try dsimp only)

@[simp] theorem State.cmdWord_after {s₀ : State} (s : State) (c : Src) (e : Eng) (off : Nat) (data mask : Word) (hc : s₀.After s) :
    s₀.After (State.cmdWord s c e off data mask) := by
  unfold State.cmdWord
  simp +contextual (maxDischargeDepth := 40) [*]

@[simp] theorem State.cmdLast_after {s₀ : State} (s : State) (c : Src) (p : Page) (off : Nat) (hc : s₀.After s) :
    s₀.After (State.cmdLast s c p off) := by
  unfold State.cmdLast
  try dsimp only
  repeat' first | (simp +contextual (maxDischargeDepth := 40) [*]; done) | split | (refine after_forAll _ _ _ _ ?_ ?_) | (refine after_foldl _ _ _ _ ?_ ?_) | (refine after_foldl_fst _ _ _ _ ?_ ?_) | (refine after_foldl_snd _ _ _ _ ?_ ?_) | (intro _ _ _; try dsimp only)

@[simp] theorem State.regPut_after {s₀ : State} (u : State) (c : Src) (p : Page) (off : Nat) (data mask : Word) (s : State) (hc : s₀.After s) :
    s₀.After (State.regPut u c p off data mask s) := by
  unfold State.regPut
  split
  · exact State.viol_after _ _ _ hc
  · exact State.viol_after _ _ _ (State.violIf_after _ _ _ _ hc)
  · extract_lets t
    have h : s₀.After t := State.pageStored_after _ _ hc
    split
    · exact h
    · exact State.cmdWord_after _ _ _ _ _ _ h
    · exact State.regStore_after _ _ _ _ h

@[simp] theorem State.regAct_after {s₀ : State} (u : State) (c : Src) (p : Page) (off : Nat) (data mask : Word) (s : State) (hc : s₀.After s) :
    s₀.After (State.regAct u c p off data mask s) := by
  unfold State.regAct
  split
  · exact hc
  · split
    · exact State.descReg_after _ _ _ hc
    · exact hc
    · exact State.cmdLast_after _ _ _ _ (State.directEffect_after _ _ _ _ _ _ hc)

@[simp] theorem State.regWrite_after {s₀ : State} (s : State) (c : Src) (p : Page) (off : Nat) (data mask : Word) (hc : s₀.After s) :
    s₀.After (State.regWrite s c p off data mask) := by
  unfold State.regWrite
  try dsimp only
  repeat' first | (simp +contextual (maxDischargeDepth := 40) [*]; done) | split | (refine after_forAll _ _ _ _ ?_ ?_) | (refine after_foldl _ _ _ _ ?_ ?_) | (refine after_foldl_fst _ _ _ _ ?_ ?_) | (refine after_foldl_snd _ _ _ _ ?_ ?_) | (intro _ _ _; try dsimp only)

@[simp] theorem State.quadWrite_after {s₀ : State} (s : State) (c : Src) (p : Page) (ws : List (Nat × Word × Word)) (hc : s₀.After s) :
    s₀.After (State.quadWrite s c p ws) := by
  unfold State.quadWrite
  simp +contextual (maxDischargeDepth := 40) [*]

end Sys2Proof.Machine
end

