-- ==== Sys2Proof/Laws/AfterPorts.lean ====
section
/-!
SUPPORT. Laws/AfterPorts.lean: what State.After says of: the access queue and the ports.
-/
namespace Sys2Proof.Machine

set_option linter.unusedTactic false
set_option linter.unreachableTactic false

/-! ### Machine/Fabric.lean -/

@[simp] theorem State.wingWrite_after {s₀ : State} (s : State) (x : Access) (p : Page) (off : Nat) (hc : s₀.After s) :
    s₀.After (State.wingWrite s x p off) := by
  unfold State.wingWrite
  simp +contextual (maxDischargeDepth := 40) [*]

@[simp] theorem State.wingRead_after (s : State) (c : Src) (p : Page) (off : Nat) {s₀ : State} (hc : s₀.After s) :
    s₀.After (s.wingRead c p off).1 := by
  unfold State.wingRead
  extract_lets r
  have hr : s₀.After r.1 := by
    simp only [r]
    split
    · exact hc
    · split
      · exact hc
      · simp [hc]
  exact hr

@[simp] theorem State.windowPut_after {s₀ : State} (s : State) (ws : List WordWrite) (hc : s₀.After s) :
    s₀.After (State.windowPut s ws) := by
  unfold State.windowPut
  simp +contextual (maxDischargeDepth := 40) [*]

@[simp] theorem State.windowWrite_after {s₀ : State} (s : State) (x : Access) (hc : s₀.After s) :
    s₀.After (State.windowWrite s x) := by
  unfold State.windowWrite
  dsimp only
  (repeat' split) <;> simp +contextual (maxDischargeDepth := 40) [*]

@[simp] theorem State.traceBytes_after {s₀ : State} (s : State) (a n : Nat) (hc : s₀.After s) :
    s₀.After (State.traceBytes s a n).1 := by
  unfold State.traceBytes
  simp +contextual (maxDischargeDepth := 40) [*]

@[simp] theorem State.windowRead_after {s₀ : State} (s : State) (k : AccKind) (a : Nat) (hc : s₀.After s) :
    s₀.After (State.windowRead s k a).1 := by
  unfold State.windowRead
  dsimp only
  (repeat' split) <;> simp +contextual (maxDischargeDepth := 40) [*]

@[simp] theorem State.alignCheck_after {s₀ : State} (s : State) (x : Access) (hc : s₀.After s) :
    s₀.After (State.alignCheck s x) := by
  unfold State.alignCheck
  try dsimp only
  repeat' first | (simp +contextual (maxDischargeDepth := 40) [*]; done) | split | (refine after_forAll _ _ _ _ ?_ ?_) | (refine after_foldl _ _ _ _ ?_ ?_) | (refine after_foldl_fst _ _ _ _ ?_ ?_) | (refine after_foldl_snd _ _ _ _ ?_ ?_) | (intro _ _ _; try dsimp only)

@[simp] theorem State.admittedAt_after {s₀ : State} (s : State) (p : Page) (t : Nat) (hc : s₀.After s) :
    s₀.After (State.admittedAt s p t) := by
  unfold State.admittedAt
  simp +contextual (maxDischargeDepth := 40) [*]

@[simp] theorem State.takeWrite_after {s₀ : State} (s : State) (x : Access) (hc : s₀.After s) :
    s₀.After (State.takeWrite s x) := by
  unfold State.takeWrite
  dsimp only
  (repeat' split) <;> simp +contextual (maxDischargeDepth := 40) [*]

@[simp] theorem State.pageMeets_after {s₀ : State} (s : State) (c : Src) (p : Page) (off : Nat) (hc : s₀.After s) :
    s₀.After (State.pageMeets s c p off).1 := by
  unfold State.pageMeets
  simp +contextual (maxDischargeDepth := 40) [*]

@[simp] theorem State.takeRead_after {s₀ : State} (s : State) (x : Access) (hc : s₀.After s) :
    s₀.After (State.takeRead s x).1 := by
  unfold State.takeRead
  dsimp only
  (repeat' split) <;> simp +contextual (maxDischargeDepth := 40) [*]

@[simp] theorem State.spiReady_after {s₀ : State} (s : State) (d : BitVec 128) (bad : Bool) (hc : s₀.After s) :
    s₀.After (State.spiReady s d bad) := by
  unfold State.spiReady
  simp +contextual (maxDischargeDepth := 40) [*]

@[simp] theorem State.umReady_after {s₀ : State} (s : State) (k : Port) (sess : Nat) (st : Byte) (data : List Byte) (hc : s₀.After s) :
    s₀.After (State.umReady s k sess st data) := by
  unfold State.umReady
  simp +contextual (maxDischargeDepth := 40) [*]

@[simp] theorem State.deliver_after {s₀ : State} (s : State) (x : Access) (d : BitVec 128) (bad : Bool) (hc : s₀.After s) :
    s₀.After (State.deliver s x d bad) := by
  unfold State.deliver
  dsimp only
  (repeat' split) <;> simp +contextual (maxDischargeDepth := 40) [*]

@[simp] theorem State.takeLaunch_after {s₀ : State} (s : State) (x : Access) (hc : s₀.After s) :
    s₀.After (State.takeLaunch s x) := by
  unfold State.takeLaunch
  dsimp only
  (repeat' split) <;> simp +contextual (maxDischargeDepth := 40) [*]

@[simp] theorem State.takeAccess_after {s₀ : State} (s : State) (x : Access) (hc : s₀.After s) :
    s₀.After (State.takeAccess s x) := by
  unfold State.takeAccess
  dsimp only
  (repeat' split) <;> simp +contextual (maxDischargeDepth := 40) [*]

@[simp] theorem State.serveAccess_after {s₀ : State} (s : State) (hc : s₀.After s) :
    s₀.After (State.serveAccess s) := by
  unfold State.serveAccess
  dsimp only
  (repeat' split) <;> simp +contextual (maxDischargeDepth := 40) [*]

@[simp] theorem State.enqueueAt_after {s₀ : State} (s : State) (x : Access) (hc : s₀.After s) :
    s₀.After (State.enqueueAt s x) := by
  unfold State.enqueueAt
  simp +contextual (maxDischargeDepth := 40) [*]

@[simp] theorem State.enqueue_after {s₀ : State} (s : State) (x : Access) (hc : s₀.After s) :
    s₀.After (State.enqueue s x) := by
  unfold State.enqueue
  simp +contextual (maxDischargeDepth := 40) [*]

@[simp] theorem State.drain_after {s₀ : State} (s : State) (hc : s₀.After s) :
    s₀.After (State.drain s) := by
  unfold State.drain
  simp +contextual (maxDischargeDepth := 40) [*]

@[simp] theorem State.offerElse_after {s₀ : State} (s : State) (c : Nat) (hc : s₀.After s) :
    s₀.After (State.offerElse s c) := by
  unfold State.offerElse
  simp +contextual (maxDischargeDepth := 40) [*]

theorem State.offer_some_after {s₀ : State} {s t : State} {c : Nat} (h : s.offer c = some t) (hc : s₀.After s) : s₀.After t := by
  unfold State.offer at h
  simp only [] at h
  split at h
  · split at h
    · cases h
    · cases h
      exact State.drain_after _ (State.peak_after _ _ hc)
  · cases h

@[simp] theorem State.offerAccess_after {s₀ : State} (s : State) (x : Access) (hc : s₀.After s) :
    s₀.After (State.offerAccess s x) := by
  unfold State.offerAccess
  split
  · exact hc
  · split
    · rename_i t h
      exact State.takeWrite_after _ _ (State.offer_some_after h hc)
    · exact State.offerElse_after _ _ hc

@[simp] theorem State.offerWrite_after {s₀ : State} (s : State) (c : Src) (a : Nat) (data mask : Word) (hc : s₀.After s) :
    s₀.After (State.offerWrite s c a data mask) := by
  unfold State.offerWrite
  simp +contextual (maxDischargeDepth := 40) [*]

/-! ### Machine/Ports.lean -/

@[simp] theorem State.modSpi_after {s₀ : State} (s : State) (f : SpiSt → SpiSt) (hc : s₀.After s) :
    s₀.After (State.modSpi s f) := by
  unfold State.modSpi
  simp +contextual (maxDischargeDepth := 40) [*]

@[simp] theorem State.modTwt_after {s₀ : State} (s : State) (f : TwtSt → TwtSt) (hc : s₀.After s) :
    s₀.After (State.modTwt s f) := by
  unfold State.modTwt
  simp +contextual (maxDischargeDepth := 40) [*]

@[simp] theorem State.spiMissed_after {s₀ : State} (s : State) (hc : s₀.After s) :
    s₀.After (State.spiMissed s) := by
  unfold State.spiMissed
  simp +contextual (maxDischargeDepth := 40) [*]

@[simp] theorem State.spiDrop_after {s₀ : State} (s : State) (hc : s₀.After s) :
    s₀.After (State.spiDrop s) := by
  unfold State.spiDrop
  simp +contextual (maxDischargeDepth := 40) [*]

@[simp] theorem State.spiBegin_after {s₀ : State} (s : State) (mode3 : Bool) (hc : s₀.After s) :
    s₀.After (State.spiBegin s mode3) := by
  unfold State.spiBegin
  simp +contextual (maxDischargeDepth := 40) [*]

@[simp] theorem State.spiOut_after {s₀ : State} (s : State) (code head : Nat) (carries full : Bool) (hc : s₀.After s) :
    s₀.After (State.spiOut s code head carries full) := by
  unfold State.spiOut
  dsimp only
  (repeat' split) <;> simp +contextual (maxDischargeDepth := 40) [*]

@[simp] theorem State.spiFrame_after {s₀ : State} (s : State) (k : AccKind) (mode3 : Bool) (addr : BitVec 32) (full : Bool) (hc : s₀.After s) :
    s₀.After (State.spiFrame s k mode3 addr full) := by
  unfold State.spiFrame
  simp +contextual (maxDischargeDepth := 40) [*]

@[simp] theorem State.spiStatus_after {s₀ : State} (s : State) (mode3 full : Bool) (hc : s₀.After s) :
    s₀.After (State.spiStatus s mode3 full) := by
  unfold State.spiStatus
  simp +contextual (maxDischargeDepth := 40) [*]

@[simp] theorem State.spiComplete_after {s₀ : State} (s : State) (data : BitVec 128) (hc : s₀.After s) :
    s₀.After (State.spiComplete s data) := by
  unfold State.spiComplete
  dsimp only
  (repeat' split) <;> simp +contextual (maxDischargeDepth := 40) [*]

@[simp] theorem State.spiFault_after {s₀ : State} (s : State) (f : SpiFault) (mode3 : Bool) (hc : s₀.After s) :
    s₀.After (State.spiFault s f mode3) := by
  unfold State.spiFault
  dsimp only
  (repeat' split) <;> simp +contextual (maxDischargeDepth := 40) [*]

@[simp] theorem State.spiStall_after {s₀ : State} (s : State) (hc : s₀.After s) :
    s₀.After (State.spiStall s) := by
  unfold State.spiStall
  simp +contextual (maxDischargeDepth := 40) [*]

@[simp] theorem State.twtClose_after {s₀ : State} (s : State) (hc : s₀.After s) :
    s₀.After (State.twtClose s) := by
  unfold State.twtClose
  simp +contextual (maxDischargeDepth := 40) [*]

@[simp] theorem State.twtStop_after {s₀ : State} (s : State) (hc : s₀.After s) :
    s₀.After (State.twtStop s) := by
  unfold State.twtStop
  simp +contextual (maxDischargeDepth := 40) [*]

@[simp] theorem State.twtApply_after {s₀ : State} (s : State) (hc : s₀.After s) :
    s₀.After (State.twtApply s) := by
  unfold State.twtApply
  simp +contextual (maxDischargeDepth := 40) [*]

@[simp] theorem State.twtReadEnd_after {s₀ : State} (s : State) (whole : Bool) (hc : s₀.After s) :
    s₀.After (State.twtReadEnd s whole) := by
  unfold State.twtReadEnd
  simp +contextual (maxDischargeDepth := 40) [*]

@[simp] theorem State.twtStart_after {s₀ : State} (s : State) (hc : s₀.After s) :
    s₀.After (State.twtStart s).1 := by
  unfold State.twtStart
  dsimp only
  (repeat' split) <;> simp +contextual (maxDischargeDepth := 40) [*]

@[simp] theorem State.twtPointer_after {s₀ : State} (s : State) (p : BitVec 16) (hc : s₀.After s) :
    s₀.After (State.twtPointer s p) := by
  unfold State.twtPointer
  simp +contextual (maxDischargeDepth := 40) [*]

@[simp] theorem State.twtOffer_after {s₀ : State} (s : State) (lead : Nat) (hc : s₀.After s) :
    s₀.After (State.twtOffer s lead).1 := by
  unfold State.twtOffer
  simp +contextual (maxDischargeDepth := 40) [*]

@[simp] theorem State.twtRead_after {s₀ : State} (s : State) (tScl tLow : BitVec 16) (hc : s₀.After s) :
    s₀.After (State.twtRead s tScl tLow) := by
  unfold State.twtRead
  simp +contextual (maxDischargeDepth := 40) [*]

@[simp] theorem State.twtContinue_after {s₀ : State} (s : State) (tScl tLow : BitVec 16) (hc : s₀.After s) :
    s₀.After (State.twtContinue s tScl tLow) := by
  unfold State.twtContinue
  simp +contextual (maxDischargeDepth := 40) [*]

@[simp] theorem State.twtData_after {s₀ : State} (s : State) (b : Byte) (hc : s₀.After s) :
    s₀.After (State.twtData s b) := by
  unfold State.twtData
  simp +contextual (maxDischargeDepth := 40) [*]

@[simp] theorem State.twtFault_after {s₀ : State} (s : State) (hc : s₀.After s) :
    s₀.After (State.twtFault s) := by
  unfold State.twtFault
  simp +contextual (maxDischargeDepth := 40) [*]

@[simp] theorem State.twtTimeout_after {s₀ : State} (s : State) (k : TwtTmo) (hc : s₀.After s) :
    s₀.After (State.twtTimeout s k) := by
  unfold State.twtTimeout
  dsimp only
  (repeat' split) <;> simp +contextual (maxDischargeDepth := 40) [*]

@[simp] theorem State.prompt_after {s₀ : State} (s : State) (hc : s₀.After s) :
    s₀.After (State.prompt s) := by
  unfold State.prompt
  simp +contextual (maxDischargeDepth := 40) [*]

@[simp] theorem State.promptAbandon_after {s₀ : State} (s : State) (mine : Bool) (hc : s₀.After s) :
    s₀.After (State.promptAbandon s mine) := by
  unfold State.promptAbandon
  simp +contextual (maxDischargeDepth := 40) [*]

/-! ### Machine/Umatan.lean -/

@[simp] theorem State.umFail_after {s₀ : State} (s : State) (k : Port) (cnt : Fld) (bit : Nat) (hc : s₀.After s) :
    s₀.After (State.umFail s k cnt bit) := by
  unfold State.umFail
  simp +contextual (maxDischargeDepth := 40) [*]

@[simp] theorem State.umStart_after {s₀ : State} (s : State) (k : Port) (x : UmTxn) (hc : s₀.After s) :
    s₀.After (State.umStart s k x) := by
  unfold State.umStart
  simp +contextual (maxDischargeDepth := 40) [*]

@[simp] theorem State.umOpen_after {s₀ : State} (s : State) (k : Port) (r : UmReq) (slot : Nat) (key : List Byte)
    (hc : s₀.After s) : s₀.After (s.umOpen k r slot key) := by
  unfold State.umOpen
  split
  · simp [hc]
  · extract_lets nonce num ss idlest s1 place ks s2
    clear_value idlest
    have h1 : s₀.After s1 := by
      simp only [s1]
      split
      · cases idlest with
        | none => exact hc
        | some x => exact State.sessDrop_after _ _ hc
      · exact hc
    have h2 : s₀.After s2 :=
      State.modSec_after _ _ h1 (fun h => ⟨h.1, h.2.1, h.2.2.1, h.2.2.2.1, Nat.le_succ_of_le h.2.2.2.2⟩)
    exact State.umStart_after _ _ _ h2

@[simp] theorem State.umOffer_after {s₀ : State} (s : State) (k : Port) (place : Nat) (c : UmCmd) (hc : s₀.After s) :
    s₀.After (State.umOffer s k place c).1 := by
  unfold State.umOffer
  dsimp only
  (repeat' split) <;> simp +contextual (maxDischargeDepth := 40) [*]

@[simp] theorem State.umExecute_after {s₀ : State} (s : State) (k : Port) (r : UmReq) (e : SessSt) (hc : s₀.After s) :
    s₀.After (s.umExecute k r e) := by
  unfold State.umExecute
  extract_lets s1
  have h1 : s₀.After s1 := State.modSec_after _ _ hc (fun h => h)
  clear_value s1
  split
  · simp [h1]
  · rename_i cmds size x o _
    split
    · simp [h1]
    · have ho : s₀.After o.1 := by
        refine after_foldl_fst _ _ _ _ h1 ?_
        intro o c h
        simp [h]
      exact State.umStart_after _ _ _ ho

@[simp] theorem State.umRequest_after {s₀ : State} (s : State) (k : Port) (hc : s₀.After s) :
    s₀.After (State.umRequest s k) := by
  unfold State.umRequest
  dsimp only
  (repeat' split) <;> simp +contextual (maxDischargeDepth := 40) [*]

@[simp] theorem State.umQueue_after {s₀ : State} (s : State) (k : Port) (hc : s₀.After s) :
    s₀.After (State.umQueue s k) := by
  unfold State.umQueue
  dsimp only
  (repeat' split) <;> simp +contextual (maxDischargeDepth := 40) [*]

/-! ### Machine/Offers.lean -/

@[simp] theorem State.offerRead_after {s₀ : State} (s : State) (c : Src) (k : AccKind) (a : Nat) (hc : s₀.After s) :
    s₀.After (State.offerRead s c k a) := by
  unfold State.offerRead
  extract_lets x
  split
  · exact hc
  · split
    · rename_i t h
      have ht := State.offer_some_after h hc
      simp [ht]
    · exact State.offerElse_after _ _ hc

@[simp] theorem State.offerReadReg_after {s₀ : State} (s : State) (c : Src) (p : Page) (off : Nat) (hc : s₀.After s) :
    s₀.After (State.offerReadReg s c p off) := by
  unfold State.offerReadReg
  split
  · exact hc
  · split
    · rename_i t h
      have ht := State.offer_some_after h hc
      simp [ht]
    · exact State.offerElse_after _ _ hc

@[simp] theorem State.offerReg_after {s₀ : State} (s : State) (c : Src) (p : Page) (off : Nat) (data mask : Word) (hc : s₀.After s) :
    s₀.After (State.offerReg s c p off data mask) := by
  unfold State.offerReg
  split
  · exact hc
  · split
    · rename_i t h
      exact State.regWrite_after _ _ _ _ _ _ (State.offer_some_after h hc)
    · exact State.offerElse_after _ _ hc

@[simp] theorem State.offerSet_after {s₀ : State} (s : State) (c : Src) (p : Page) (x : Fld) (v : Nat) (hc : s₀.After s) :
    s₀.After (State.offerSet s c p x v) := by
  unfold State.offerSet
  simp +contextual (maxDischargeDepth := 40) [*]

@[simp] theorem State.offerAct_after {s₀ : State} (s : State) (c : Src) (p : Page) (x : Fld) (hc : s₀.After s) :
    s₀.After (State.offerAct s c p x) := by
  unfold State.offerAct
  simp +contextual (maxDischargeDepth := 40) [*]

end Sys2Proof.Machine
end

