-- ==== Sys2Proof/Laws/AfterCmds.lean ====
section
/-!
SUPPORT. Laws/AfterCmds.lean: what State.After says of: the commands of the fabric, the lanes, the streams, the clock, the frames and the cues.
-/
namespace Sys2Proof.Machine

set_option linter.unusedTactic false
set_option linter.unreachableTactic false

/-! ### Machine/FabricCmds.lean -/

@[simp] theorem State.speedMeasure_after {s₀ : State} (s : State) (rate : Nat) (hc : s₀.After s) :
    s₀.After (State.speedMeasure s rate) := by
  unfold State.speedMeasure
  simp +contextual (maxDischargeDepth := 40) [*]

/-! ### Machine/TrainCmds.lean -/

@[simp] theorem State.anSetup_after {s₀ : State} (s : State) (n : Lane) (hc : s₀.After s) : s₀.After (s.anSetup n) := by
  unfold State.anSetup
  split
  · exact hc
  · split
    · refine after_forAll _ _ _ _ hc ?_
      intro q s h
      exact State.setupRow_after _ _ h
    · split
      · exact State.anDone_after _ _ hc
      · split
        · exact State.anFail_after _ _ _ hc
        · extract_lets l v
          split
          · exact hc
          · have hv : s₀.After v.1 := State.engScene_after _ _ _ hc
            clear_value v
            split
            · exact State.anFail_after _ _ _ hv
            · refine State.anDone_after _ _ (State.commitSets_after _ _ _ ?_)
              refine after_forAll _ _ _ _ hv ?_
              intro e s h
              exact State.wr_after _ _ _ h

@[simp] theorem State.reqNoAnswer_after {s₀ : State} (s : State) (p : Path) (hc : s₀.After s) :
    s₀.After (State.reqNoAnswer s p) := by
  unfold State.reqNoAnswer
  simp +contextual (maxDischargeDepth := 40) [*]

@[simp] theorem State.breakEnd_after {s₀ : State} (s : State) (p : Path) (hc : s₀.After s) :
    s₀.After (State.breakEnd s p) := by
  unfold State.breakEnd
  simp +contextual (maxDischargeDepth := 40) [*]

@[simp] theorem State.restartDelay_after {s₀ : State} (s : State) (p : Path) (hc : s₀.After s) :
    s₀.After (State.restartDelay s p) := by
  unfold State.restartDelay
  simp +contextual (maxDischargeDepth := 40) [*]

@[simp] theorem State.closingSent_after {s₀ : State} (s : State) (p : Path) (hc : s₀.After s) :
    s₀.After (State.closingSent s p) := by
  unfold State.closingSent
  simp +contextual (maxDischargeDepth := 40) [*]

@[simp] theorem State.ignoredCount_after {s₀ : State} (s : State) (p : Path) (hc : s₀.After s) :
    s₀.After (State.ignoredCount s p) := by
  unfold State.ignoredCount
  simp +contextual (maxDischargeDepth := 40) [*]

/-! ### Machine/CueingCmds.lean -/

@[simp] theorem State.openOp_after {s₀ : State} (s : State) (c : Src) (op scene base : Nat) (hc : s₀.After s) :
    s₀.After (State.openOp s c op scene base) := by
  unfold State.openOp
  simp +contextual (maxDischargeDepth := 40) [*]
  (repeat' split) <;> simp +contextual (maxDischargeDepth := 40) [*]

@[simp] theorem State.writesFirst_after {s₀ : State} (s : State) (w : Option JobSt) (hc : s₀.After s) :
    s₀.After (State.writesFirst s w) := by
  unfold State.writesFirst
  dsimp only
  (repeat' split) <;> simp +contextual (maxDischargeDepth := 40) [*]

end Sys2Proof.Machine
end

