-- ==== Sys2Proof/Laws/AfterUnitCmds.lean ====
section
/-!
SUPPORT. Laws/AfterUnitCmds.lean: what State.After says of: the commands of the engines, the twin, the supplies, power, calibration, rehearsal, the buses, events, keys and resets.
-/
namespace Sys2Proof.Machine

set_option linter.unusedTactic false
set_option linter.unreachableTactic false

/-! ### Machine/StagehandsCmds.lean -/

@[simp] theorem State.offerCmd_after {s₀ : State} (s : State) (c : Src) (e : Eng) (quad : Bool) (data : BitVec 128) (hc : s₀.After s) :
    s₀.After (State.offerCmd s c e quad data) := by
  unfold State.offerCmd
  simp +contextual (maxDischargeDepth := 40) [*]

@[simp] theorem State.migrationGo_after {s₀ : State} (s : State) (c : Src) (g : Grp) (target : Nat) (hc : s₀.After s) :
    s₀.After (State.migrationGo s c g target) := by
  unfold State.migrationGo
  simp +contextual (maxDischargeDepth := 40) [*]

/-! ### Machine/SuppliesCmds.lean -/

@[simp] theorem State.offerNvm_after {s₀ : State} (s : State) (c : Src) (op region : Nat) (hc : s₀.After s) :
    s₀.After (State.offerNvm s c op region) := by
  unfold State.offerNvm
  simp +contextual (maxDischargeDepth := 40) [*]

/-! ### Machine/CalibrationCmds.lean -/

@[simp] theorem State.calPeriod_after {s₀ : State} (s : State) (g : Grp) (hc : s₀.After s) :
    s₀.After (State.calPeriod s g) := by
  unfold State.calPeriod
  simp +contextual (maxDischargeDepth := 40) [*]

/-! ### Machine/RehearsalsCmds.lean -/

@[simp] theorem State.offerReh_after {s₀ : State} (s : State) (c : Src) (op target : Nat) (force : Bool) (hc : s₀.After s) :
    s₀.After (State.offerReh s c op target force) := by
  unfold State.offerReh
  simp +contextual (maxDischargeDepth := 40) [*]

@[simp] theorem State.rehRunClose_after {s₀ : State} (s : State) (hc : s₀.After s) :
    s₀.After (State.rehRunClose s) := by
  unfold State.rehRunClose
  simp +contextual (maxDischargeDepth := 40) [*]

@[simp] theorem State.ontimeMinute_after {s₀ : State} (s : State) (hc : s₀.After s) :
    s₀.After (State.ontimeMinute s) := by
  unfold State.ontimeMinute
  simp +contextual (maxDischargeDepth := 40) [*]

/-! ### Machine/BusesCmds.lean -/

@[simp] theorem State.onBus_after {s₀ : State} (s : State) (f : State → State) (hc : s₀.After s) (hf : ∀ s, s₀.After s → s₀.After (f s)) :
    s₀.After (State.onBus s f) := by
  unfold State.onBus
  simp +contextual (maxDischargeDepth := 40) [*]

@[simp] theorem State.twcTxnEnd_after {s₀ : State} (s : State) (fin : TwcEnd) (read : List Byte) (hc : s₀.After s) :
    s₀.After (State.twcTxnEnd s fin read) := by
  unfold State.twcTxnEnd
  try dsimp only
  repeat' first | (simp +contextual (maxDischargeDepth := 40) [*]; done) | split | (refine after_forAll _ _ _ _ ?_ ?_) | (refine after_foldl _ _ _ _ ?_ ?_) | (refine after_foldl_fst _ _ _ _ ?_ ?_) | (refine after_foldl_snd _ _ _ _ ?_ ?_) | (intro _ _ _; try dsimp only)

/-! ### Machine/EventsCmds.lean -/

@[simp] theorem State.eccRead_after {s₀ : State} (s : State) (mac row : BitVec 10) (double : Bool) (reader : EccReader) (hc : s₀.After s) :
    s₀.After (State.eccRead s mac row double reader) := by
  unfold State.eccRead
  dsimp only
  (repeat' split) <;> simp +contextual (maxDischargeDepth := 40) [*]

/-! ### Machine/KeysCmds.lean -/

@[simp] theorem State.offerKey_after {s₀ : State} (s : State) (c : Src) (op value slot : Nat) (hc : s₀.After s) :
    s₀.After (State.offerKey s c op value slot) := by
  unfold State.offerKey
  simp +contextual (maxDischargeDepth := 40) [*]

/-! ### Machine/ResetCmds.lean -/

@[simp] theorem State.offerReset_after {s₀ : State} (s : State) (c : Src) (op target : Nat) (hc : s₀.After s) :
    s₀.After (State.offerReset s c op target) := by
  unfold State.offerReset
  simp +contextual (maxDischargeDepth := 40) [*]

@[simp] theorem State.houseResetBy_after {s₀ : State} (s : State) (by_ : Option (Src × Byte)) (hc : s₀.After s) :
    s₀.After (State.houseResetBy s by_) := by
  unfold State.houseResetBy
  simp +contextual (maxDischargeDepth := 40) [*]
  (repeat' split) <;> simp +contextual (maxDischargeDepth := 40) [*]

end Sys2Proof.Machine
end

