-- ==== Sys2Proof/Laws/State.lean ====
section
/-!
SUPPORT. Laws/State.lean: what each plain update of the state leaves as it was, field by field, and what the tables of records read
after one of them is set.
-/
namespace Sys2Proof.Machine

variable (s : State)

@[simp] theorem State.wr_frame (a : Nat) (v : Word) :
    (s.wr a v).mem = s.mem ∧ (s.wr a v).ecc = s.ecc ∧ (s.wr a v).elapsed = s.elapsed ∧
    (s.wr a v).free = s.free ∧ (s.wr a v).access = s.access ∧ (s.wr a v).latch = s.latch ∧
    (s.wr a v).readData = s.readData ∧ (s.wr a v).busy = s.busy ∧ (s.wr a v).slices = s.slices ∧
    (s.wr a v).paths = s.paths ∧ (s.wr a v).groups = s.groups ∧ (s.wr a v).ctrs = s.ctrs ∧
    (s.wr a v).scene = s.scene ∧ (s.wr a v).trims = s.trims ∧ (s.wr a v).pends = s.pends ∧
    (s.wr a v).ramps = s.ramps ∧ (s.wr a v).cal = s.cal ∧ (s.wr a v).engines = s.engines ∧
    (s.wr a v).flash = s.flash ∧ (s.wr a v).supply = s.supply ∧ (s.wr a v).reh = s.reh ∧
    (s.wr a v).security = s.security ∧ (s.wr a v).twin = s.twin ∧ (s.wr a v).time = s.time ∧
    (s.wr a v).ports = s.ports ∧ (s.wr a v).spi = s.spi ∧ (s.wr a v).twt = s.twt ∧
    (s.wr a v).twc = s.twc ∧ (s.wr a v).device = s.device ∧ (s.wr a v).startAt = s.startAt ∧
    (s.wr a v).houseReset = s.houseReset ∧ (s.wr a v).start = s.start ∧ (s.wr a v).land = s.land ∧
    (s.wr a v).pending = s.pending :=
  ⟨rfl, rfl, rfl, rfl, rfl, rfl, rfl, rfl, rfl, rfl, rfl, rfl, rfl, rfl, rfl, rfl, rfl, rfl, rfl, rfl, rfl, rfl, rfl, rfl, rfl, rfl, rfl, rfl, rfl, rfl, rfl, rfl, rfl, rfl⟩

@[simp] theorem State.setF_frame (p : Page) (x : Fld) (v : Nat) :
    (s.setF p x v).mem = s.mem ∧ (s.setF p x v).ecc = s.ecc ∧ (s.setF p x v).elapsed = s.elapsed ∧
    (s.setF p x v).free = s.free ∧ (s.setF p x v).access = s.access ∧ (s.setF p x v).latch = s.latch ∧
    (s.setF p x v).readData = s.readData ∧ (s.setF p x v).busy = s.busy ∧ (s.setF p x v).slices = s.slices ∧
    (s.setF p x v).paths = s.paths ∧ (s.setF p x v).groups = s.groups ∧ (s.setF p x v).ctrs = s.ctrs ∧
    (s.setF p x v).scene = s.scene ∧ (s.setF p x v).trims = s.trims ∧ (s.setF p x v).pends = s.pends ∧
    (s.setF p x v).ramps = s.ramps ∧ (s.setF p x v).cal = s.cal ∧ (s.setF p x v).engines = s.engines ∧
    (s.setF p x v).flash = s.flash ∧ (s.setF p x v).supply = s.supply ∧ (s.setF p x v).reh = s.reh ∧
    (s.setF p x v).security = s.security ∧ (s.setF p x v).twin = s.twin ∧ (s.setF p x v).time = s.time ∧
    (s.setF p x v).ports = s.ports ∧ (s.setF p x v).spi = s.spi ∧ (s.setF p x v).twt = s.twt ∧
    (s.setF p x v).twc = s.twc ∧ (s.setF p x v).device = s.device ∧ (s.setF p x v).startAt = s.startAt ∧
    (s.setF p x v).houseReset = s.houseReset ∧ (s.setF p x v).start = s.start ∧ (s.setF p x v).land = s.land ∧
    (s.setF p x v).pending = s.pending :=
  by simp [State.setF]

@[simp] theorem State.setB_frame (p : Page) (x : Fld) (b : Bool) :
    (s.setB p x b).mem = s.mem ∧ (s.setB p x b).ecc = s.ecc ∧ (s.setB p x b).elapsed = s.elapsed ∧
    (s.setB p x b).free = s.free ∧ (s.setB p x b).access = s.access ∧ (s.setB p x b).latch = s.latch ∧
    (s.setB p x b).readData = s.readData ∧ (s.setB p x b).busy = s.busy ∧ (s.setB p x b).slices = s.slices ∧
    (s.setB p x b).paths = s.paths ∧ (s.setB p x b).groups = s.groups ∧ (s.setB p x b).ctrs = s.ctrs ∧
    (s.setB p x b).scene = s.scene ∧ (s.setB p x b).trims = s.trims ∧ (s.setB p x b).pends = s.pends ∧
    (s.setB p x b).ramps = s.ramps ∧ (s.setB p x b).cal = s.cal ∧ (s.setB p x b).engines = s.engines ∧
    (s.setB p x b).flash = s.flash ∧ (s.setB p x b).supply = s.supply ∧ (s.setB p x b).reh = s.reh ∧
    (s.setB p x b).security = s.security ∧ (s.setB p x b).twin = s.twin ∧ (s.setB p x b).time = s.time ∧
    (s.setB p x b).ports = s.ports ∧ (s.setB p x b).spi = s.spi ∧ (s.setB p x b).twt = s.twt ∧
    (s.setB p x b).twc = s.twc ∧ (s.setB p x b).device = s.device ∧ (s.setB p x b).startAt = s.startAt ∧
    (s.setB p x b).houseReset = s.houseReset ∧ (s.setB p x b).start = s.start ∧ (s.setB p x b).land = s.land ∧
    (s.setB p x b).pending = s.pending :=
  by simp [State.setB]

@[simp] theorem State.setS_frame (p : Page) (x : Fld) (i : Int) :
    (s.setS p x i).mem = s.mem ∧ (s.setS p x i).ecc = s.ecc ∧ (s.setS p x i).elapsed = s.elapsed ∧
    (s.setS p x i).free = s.free ∧ (s.setS p x i).access = s.access ∧ (s.setS p x i).latch = s.latch ∧
    (s.setS p x i).readData = s.readData ∧ (s.setS p x i).busy = s.busy ∧ (s.setS p x i).slices = s.slices ∧
    (s.setS p x i).paths = s.paths ∧ (s.setS p x i).groups = s.groups ∧ (s.setS p x i).ctrs = s.ctrs ∧
    (s.setS p x i).scene = s.scene ∧ (s.setS p x i).trims = s.trims ∧ (s.setS p x i).pends = s.pends ∧
    (s.setS p x i).ramps = s.ramps ∧ (s.setS p x i).cal = s.cal ∧ (s.setS p x i).engines = s.engines ∧
    (s.setS p x i).flash = s.flash ∧ (s.setS p x i).supply = s.supply ∧ (s.setS p x i).reh = s.reh ∧
    (s.setS p x i).security = s.security ∧ (s.setS p x i).twin = s.twin ∧ (s.setS p x i).time = s.time ∧
    (s.setS p x i).ports = s.ports ∧ (s.setS p x i).spi = s.spi ∧ (s.setS p x i).twt = s.twt ∧
    (s.setS p x i).twc = s.twc ∧ (s.setS p x i).device = s.device ∧ (s.setS p x i).startAt = s.startAt ∧
    (s.setS p x i).houseReset = s.houseReset ∧ (s.setS p x i).start = s.start ∧ (s.setS p x i).land = s.land ∧
    (s.setS p x i).pending = s.pending :=
  by simp [State.setS]

@[simp] theorem State.add_frame (p : Page) (x : Fld) (n : Nat) :
    (s.add p x n).mem = s.mem ∧ (s.add p x n).ecc = s.ecc ∧ (s.add p x n).elapsed = s.elapsed ∧
    (s.add p x n).free = s.free ∧ (s.add p x n).access = s.access ∧ (s.add p x n).latch = s.latch ∧
    (s.add p x n).readData = s.readData ∧ (s.add p x n).busy = s.busy ∧ (s.add p x n).slices = s.slices ∧
    (s.add p x n).paths = s.paths ∧ (s.add p x n).groups = s.groups ∧ (s.add p x n).ctrs = s.ctrs ∧
    (s.add p x n).scene = s.scene ∧ (s.add p x n).trims = s.trims ∧ (s.add p x n).pends = s.pends ∧
    (s.add p x n).ramps = s.ramps ∧ (s.add p x n).cal = s.cal ∧ (s.add p x n).engines = s.engines ∧
    (s.add p x n).flash = s.flash ∧ (s.add p x n).supply = s.supply ∧ (s.add p x n).reh = s.reh ∧
    (s.add p x n).security = s.security ∧ (s.add p x n).twin = s.twin ∧ (s.add p x n).time = s.time ∧
    (s.add p x n).ports = s.ports ∧ (s.add p x n).spi = s.spi ∧ (s.add p x n).twt = s.twt ∧
    (s.add p x n).twc = s.twc ∧ (s.add p x n).device = s.device ∧ (s.add p x n).startAt = s.startAt ∧
    (s.add p x n).houseReset = s.houseReset ∧ (s.add p x n).start = s.start ∧ (s.add p x n).land = s.land ∧
    (s.add p x n).pending = s.pending :=
  by simp [State.add]

@[simp] theorem State.inc_frame (p : Page) (x : Fld) :
    (s.inc p x).mem = s.mem ∧ (s.inc p x).ecc = s.ecc ∧ (s.inc p x).elapsed = s.elapsed ∧
    (s.inc p x).free = s.free ∧ (s.inc p x).access = s.access ∧ (s.inc p x).latch = s.latch ∧
    (s.inc p x).readData = s.readData ∧ (s.inc p x).busy = s.busy ∧ (s.inc p x).slices = s.slices ∧
    (s.inc p x).paths = s.paths ∧ (s.inc p x).groups = s.groups ∧ (s.inc p x).ctrs = s.ctrs ∧
    (s.inc p x).scene = s.scene ∧ (s.inc p x).trims = s.trims ∧ (s.inc p x).pends = s.pends ∧
    (s.inc p x).ramps = s.ramps ∧ (s.inc p x).cal = s.cal ∧ (s.inc p x).engines = s.engines ∧
    (s.inc p x).flash = s.flash ∧ (s.inc p x).supply = s.supply ∧ (s.inc p x).reh = s.reh ∧
    (s.inc p x).security = s.security ∧ (s.inc p x).twin = s.twin ∧ (s.inc p x).time = s.time ∧
    (s.inc p x).ports = s.ports ∧ (s.inc p x).spi = s.spi ∧ (s.inc p x).twt = s.twt ∧
    (s.inc p x).twc = s.twc ∧ (s.inc p x).device = s.device ∧ (s.inc p x).startAt = s.startAt ∧
    (s.inc p x).houseReset = s.houseReset ∧ (s.inc p x).start = s.start ∧ (s.inc p x).land = s.land ∧
    (s.inc p x).pending = s.pending :=
  by simp [State.inc]

@[simp] theorem State.incW_frame (p : Page) (x : Fld) :
    (s.incW p x).mem = s.mem ∧ (s.incW p x).ecc = s.ecc ∧ (s.incW p x).elapsed = s.elapsed ∧
    (s.incW p x).free = s.free ∧ (s.incW p x).access = s.access ∧ (s.incW p x).latch = s.latch ∧
    (s.incW p x).readData = s.readData ∧ (s.incW p x).busy = s.busy ∧ (s.incW p x).slices = s.slices ∧
    (s.incW p x).paths = s.paths ∧ (s.incW p x).groups = s.groups ∧ (s.incW p x).ctrs = s.ctrs ∧
    (s.incW p x).scene = s.scene ∧ (s.incW p x).trims = s.trims ∧ (s.incW p x).pends = s.pends ∧
    (s.incW p x).ramps = s.ramps ∧ (s.incW p x).cal = s.cal ∧ (s.incW p x).engines = s.engines ∧
    (s.incW p x).flash = s.flash ∧ (s.incW p x).supply = s.supply ∧ (s.incW p x).reh = s.reh ∧
    (s.incW p x).security = s.security ∧ (s.incW p x).twin = s.twin ∧ (s.incW p x).time = s.time ∧
    (s.incW p x).ports = s.ports ∧ (s.incW p x).spi = s.spi ∧ (s.incW p x).twt = s.twt ∧
    (s.incW p x).twc = s.twc ∧ (s.incW p x).device = s.device ∧ (s.incW p x).startAt = s.startAt ∧
    (s.incW p x).houseReset = s.houseReset ∧ (s.incW p x).start = s.start ∧ (s.incW p x).land = s.land ∧
    (s.incW p x).pending = s.pending :=
  by simp [State.incW]

@[simp] theorem State.rstReg_frame (p : Page) (off : Nat) :
    (s.rstReg p off).mem = s.mem ∧ (s.rstReg p off).ecc = s.ecc ∧ (s.rstReg p off).elapsed = s.elapsed ∧
    (s.rstReg p off).free = s.free ∧ (s.rstReg p off).access = s.access ∧ (s.rstReg p off).latch = s.latch ∧
    (s.rstReg p off).readData = s.readData ∧ (s.rstReg p off).busy = s.busy ∧ (s.rstReg p off).slices = s.slices ∧
    (s.rstReg p off).paths = s.paths ∧ (s.rstReg p off).groups = s.groups ∧ (s.rstReg p off).ctrs = s.ctrs ∧
    (s.rstReg p off).scene = s.scene ∧ (s.rstReg p off).trims = s.trims ∧ (s.rstReg p off).pends = s.pends ∧
    (s.rstReg p off).ramps = s.ramps ∧ (s.rstReg p off).cal = s.cal ∧ (s.rstReg p off).engines = s.engines ∧
    (s.rstReg p off).flash = s.flash ∧ (s.rstReg p off).supply = s.supply ∧ (s.rstReg p off).reh = s.reh ∧
    (s.rstReg p off).security = s.security ∧ (s.rstReg p off).twin = s.twin ∧ (s.rstReg p off).time = s.time ∧
    (s.rstReg p off).ports = s.ports ∧ (s.rstReg p off).spi = s.spi ∧ (s.rstReg p off).twt = s.twt ∧
    (s.rstReg p off).twc = s.twc ∧ (s.rstReg p off).device = s.device ∧ (s.rstReg p off).startAt = s.startAt ∧
    (s.rstReg p off).houseReset = s.houseReset ∧ (s.rstReg p off).start = s.start ∧ (s.rstReg p off).land = s.land ∧
    (s.rstReg p off).pending = s.pending :=
  by simp [State.rstReg]

@[simp] theorem State.rstRange_frame (p : Page) (lo hi : Nat) :
    (s.rstRange p lo hi).mem = s.mem ∧ (s.rstRange p lo hi).ecc = s.ecc ∧ (s.rstRange p lo hi).elapsed = s.elapsed ∧
    (s.rstRange p lo hi).free = s.free ∧ (s.rstRange p lo hi).access = s.access ∧ (s.rstRange p lo hi).latch = s.latch ∧
    (s.rstRange p lo hi).readData = s.readData ∧ (s.rstRange p lo hi).busy = s.busy ∧ (s.rstRange p lo hi).slices = s.slices ∧
    (s.rstRange p lo hi).paths = s.paths ∧ (s.rstRange p lo hi).groups = s.groups ∧ (s.rstRange p lo hi).ctrs = s.ctrs ∧
    (s.rstRange p lo hi).scene = s.scene ∧ (s.rstRange p lo hi).trims = s.trims ∧ (s.rstRange p lo hi).pends = s.pends ∧
    (s.rstRange p lo hi).ramps = s.ramps ∧ (s.rstRange p lo hi).cal = s.cal ∧ (s.rstRange p lo hi).engines = s.engines ∧
    (s.rstRange p lo hi).flash = s.flash ∧ (s.rstRange p lo hi).supply = s.supply ∧ (s.rstRange p lo hi).reh = s.reh ∧
    (s.rstRange p lo hi).security = s.security ∧ (s.rstRange p lo hi).twin = s.twin ∧ (s.rstRange p lo hi).time = s.time ∧
    (s.rstRange p lo hi).ports = s.ports ∧ (s.rstRange p lo hi).spi = s.spi ∧ (s.rstRange p lo hi).twt = s.twt ∧
    (s.rstRange p lo hi).twc = s.twc ∧ (s.rstRange p lo hi).device = s.device ∧ (s.rstRange p lo hi).startAt = s.startAt ∧
    (s.rstRange p lo hi).houseReset = s.houseReset ∧ (s.rstRange p lo hi).start = s.start ∧ (s.rstRange p lo hi).land = s.land ∧
    (s.rstRange p lo hi).pending = s.pending :=
  ⟨rfl, rfl, rfl, rfl, rfl, rfl, rfl, rfl, rfl, rfl, rfl, rfl, rfl, rfl, rfl, rfl, rfl, rfl, rfl, rfl, rfl, rfl, rfl, rfl, rfl, rfl, rfl, rfl, rfl, rfl, rfl, rfl, rfl, rfl⟩

@[simp] theorem State.violI_frame (p : Page) (k : Viol) (inj : Bool) :
    (s.violI p k inj).mem = s.mem ∧ (s.violI p k inj).ecc = s.ecc ∧ (s.violI p k inj).elapsed = s.elapsed ∧
    (s.violI p k inj).free = s.free ∧ (s.violI p k inj).access = s.access ∧ (s.violI p k inj).latch = s.latch ∧
    (s.violI p k inj).readData = s.readData ∧ (s.violI p k inj).busy = s.busy ∧ (s.violI p k inj).slices = s.slices ∧
    (s.violI p k inj).paths = s.paths ∧ (s.violI p k inj).groups = s.groups ∧ (s.violI p k inj).ctrs = s.ctrs ∧
    (s.violI p k inj).scene = s.scene ∧ (s.violI p k inj).trims = s.trims ∧ (s.violI p k inj).pends = s.pends ∧
    (s.violI p k inj).ramps = s.ramps ∧ (s.violI p k inj).cal = s.cal ∧ (s.violI p k inj).engines = s.engines ∧
    (s.violI p k inj).flash = s.flash ∧ (s.violI p k inj).supply = s.supply ∧ (s.violI p k inj).reh = s.reh ∧
    (s.violI p k inj).security = s.security ∧ (s.violI p k inj).twin = s.twin ∧ (s.violI p k inj).time = s.time ∧
    (s.violI p k inj).ports = s.ports ∧ (s.violI p k inj).spi = s.spi ∧ (s.violI p k inj).twt = s.twt ∧
    (s.violI p k inj).twc = s.twc ∧ (s.violI p k inj).device = s.device ∧ (s.violI p k inj).startAt = s.startAt ∧
    (s.violI p k inj).houseReset = s.houseReset ∧ (s.violI p k inj).start = s.start ∧ (s.violI p k inj).land = s.land ∧
    (s.violI p k inj).pending = s.pending :=
  by simp [State.violI, State.violLast]

@[simp] theorem State.viol_frame (p : Page) (k : Viol) :
    (s.viol p k).mem = s.mem ∧ (s.viol p k).ecc = s.ecc ∧ (s.viol p k).elapsed = s.elapsed ∧
    (s.viol p k).free = s.free ∧ (s.viol p k).access = s.access ∧ (s.viol p k).latch = s.latch ∧
    (s.viol p k).readData = s.readData ∧ (s.viol p k).busy = s.busy ∧ (s.viol p k).slices = s.slices ∧
    (s.viol p k).paths = s.paths ∧ (s.viol p k).groups = s.groups ∧ (s.viol p k).ctrs = s.ctrs ∧
    (s.viol p k).scene = s.scene ∧ (s.viol p k).trims = s.trims ∧ (s.viol p k).pends = s.pends ∧
    (s.viol p k).ramps = s.ramps ∧ (s.viol p k).cal = s.cal ∧ (s.viol p k).engines = s.engines ∧
    (s.viol p k).flash = s.flash ∧ (s.viol p k).supply = s.supply ∧ (s.viol p k).reh = s.reh ∧
    (s.viol p k).security = s.security ∧ (s.viol p k).twin = s.twin ∧ (s.viol p k).time = s.time ∧
    (s.viol p k).ports = s.ports ∧ (s.viol p k).spi = s.spi ∧ (s.viol p k).twt = s.twt ∧
    (s.viol p k).twc = s.twc ∧ (s.viol p k).device = s.device ∧ (s.viol p k).startAt = s.startAt ∧
    (s.viol p k).houseReset = s.houseReset ∧ (s.viol p k).start = s.start ∧ (s.viol p k).land = s.land ∧
    (s.viol p k).pending = s.pending :=
  by simp [State.viol]

@[simp] theorem State.mset_frame (a : Nat) (v : Byte) :
    (s.mset a v).regs = s.regs ∧ (s.mset a v).ecc = s.ecc ∧ (s.mset a v).elapsed = s.elapsed ∧
    (s.mset a v).free = s.free ∧ (s.mset a v).access = s.access ∧ (s.mset a v).latch = s.latch ∧
    (s.mset a v).readData = s.readData ∧ (s.mset a v).busy = s.busy ∧ (s.mset a v).slices = s.slices ∧
    (s.mset a v).paths = s.paths ∧ (s.mset a v).groups = s.groups ∧ (s.mset a v).ctrs = s.ctrs ∧
    (s.mset a v).scene = s.scene ∧ (s.mset a v).trims = s.trims ∧ (s.mset a v).pends = s.pends ∧
    (s.mset a v).ramps = s.ramps ∧ (s.mset a v).cal = s.cal ∧ (s.mset a v).engines = s.engines ∧
    (s.mset a v).flash = s.flash ∧ (s.mset a v).supply = s.supply ∧ (s.mset a v).reh = s.reh ∧
    (s.mset a v).security = s.security ∧ (s.mset a v).twin = s.twin ∧ (s.mset a v).time = s.time ∧
    (s.mset a v).ports = s.ports ∧ (s.mset a v).spi = s.spi ∧ (s.mset a v).twt = s.twt ∧
    (s.mset a v).twc = s.twc ∧ (s.mset a v).device = s.device ∧ (s.mset a v).startAt = s.startAt ∧
    (s.mset a v).houseReset = s.houseReset ∧ (s.mset a v).start = s.start ∧ (s.mset a v).land = s.land ∧
    (s.mset a v).pending = s.pending :=
  ⟨rfl, rfl, rfl, rfl, rfl, rfl, rfl, rfl, rfl, rfl, rfl, rfl, rfl, rfl, rfl, rfl, rfl, rfl, rfl, rfl, rfl, rfl, rfl, rfl, rfl, rfl, rfl, rfl, rfl, rfl, rfl, rfl, rfl, rfl⟩

@[simp] theorem State.setPath_frame (p : Path) (v : PathSt) :
    (s.setPath p v).regs = s.regs ∧ (s.setPath p v).mem = s.mem ∧ (s.setPath p v).ecc = s.ecc ∧
    (s.setPath p v).elapsed = s.elapsed ∧ (s.setPath p v).free = s.free ∧ (s.setPath p v).access = s.access ∧
    (s.setPath p v).latch = s.latch ∧ (s.setPath p v).readData = s.readData ∧ (s.setPath p v).busy = s.busy ∧
    (s.setPath p v).slices = s.slices ∧ (s.setPath p v).groups = s.groups ∧ (s.setPath p v).ctrs = s.ctrs ∧
    (s.setPath p v).scene = s.scene ∧ (s.setPath p v).trims = s.trims ∧ (s.setPath p v).pends = s.pends ∧
    (s.setPath p v).ramps = s.ramps ∧ (s.setPath p v).cal = s.cal ∧ (s.setPath p v).engines = s.engines ∧
    (s.setPath p v).flash = s.flash ∧ (s.setPath p v).supply = s.supply ∧ (s.setPath p v).reh = s.reh ∧
    (s.setPath p v).security = s.security ∧ (s.setPath p v).twin = s.twin ∧ (s.setPath p v).time = s.time ∧
    (s.setPath p v).ports = s.ports ∧ (s.setPath p v).spi = s.spi ∧ (s.setPath p v).twt = s.twt ∧
    (s.setPath p v).twc = s.twc ∧ (s.setPath p v).device = s.device ∧ (s.setPath p v).startAt = s.startAt ∧
    (s.setPath p v).houseReset = s.houseReset ∧ (s.setPath p v).start = s.start ∧ (s.setPath p v).land = s.land ∧
    (s.setPath p v).pending = s.pending :=
  ⟨rfl, rfl, rfl, rfl, rfl, rfl, rfl, rfl, rfl, rfl, rfl, rfl, rfl, rfl, rfl, rfl, rfl, rfl, rfl, rfl, rfl, rfl, rfl, rfl, rfl, rfl, rfl, rfl, rfl, rfl, rfl, rfl, rfl, rfl⟩

@[simp] theorem State.setSeg_frame (p : Path) (v : SegSt) :
    (s.setSeg p v).regs = s.regs ∧ (s.setSeg p v).mem = s.mem ∧ (s.setSeg p v).ecc = s.ecc ∧
    (s.setSeg p v).elapsed = s.elapsed ∧ (s.setSeg p v).free = s.free ∧ (s.setSeg p v).access = s.access ∧
    (s.setSeg p v).latch = s.latch ∧ (s.setSeg p v).readData = s.readData ∧ (s.setSeg p v).busy = s.busy ∧
    (s.setSeg p v).slices = s.slices ∧ (s.setSeg p v).groups = s.groups ∧ (s.setSeg p v).ctrs = s.ctrs ∧
    (s.setSeg p v).scene = s.scene ∧ (s.setSeg p v).trims = s.trims ∧ (s.setSeg p v).pends = s.pends ∧
    (s.setSeg p v).ramps = s.ramps ∧ (s.setSeg p v).cal = s.cal ∧ (s.setSeg p v).engines = s.engines ∧
    (s.setSeg p v).flash = s.flash ∧ (s.setSeg p v).supply = s.supply ∧ (s.setSeg p v).reh = s.reh ∧
    (s.setSeg p v).security = s.security ∧ (s.setSeg p v).twin = s.twin ∧ (s.setSeg p v).time = s.time ∧
    (s.setSeg p v).ports = s.ports ∧ (s.setSeg p v).spi = s.spi ∧ (s.setSeg p v).twt = s.twt ∧
    (s.setSeg p v).twc = s.twc ∧ (s.setSeg p v).device = s.device ∧ (s.setSeg p v).startAt = s.startAt ∧
    (s.setSeg p v).houseReset = s.houseReset ∧ (s.setSeg p v).start = s.start ∧ (s.setSeg p v).land = s.land ∧
    (s.setSeg p v).pending = s.pending :=
  by simp [State.setSeg]

@[simp] theorem State.setGrp_frame (g : Grp) (v : GroupSt) :
    (s.setGrp g v).regs = s.regs ∧ (s.setGrp g v).mem = s.mem ∧ (s.setGrp g v).ecc = s.ecc ∧
    (s.setGrp g v).elapsed = s.elapsed ∧ (s.setGrp g v).free = s.free ∧ (s.setGrp g v).access = s.access ∧
    (s.setGrp g v).latch = s.latch ∧ (s.setGrp g v).readData = s.readData ∧ (s.setGrp g v).busy = s.busy ∧
    (s.setGrp g v).slices = s.slices ∧ (s.setGrp g v).paths = s.paths ∧ (s.setGrp g v).ctrs = s.ctrs ∧
    (s.setGrp g v).scene = s.scene ∧ (s.setGrp g v).trims = s.trims ∧ (s.setGrp g v).pends = s.pends ∧
    (s.setGrp g v).ramps = s.ramps ∧ (s.setGrp g v).cal = s.cal ∧ (s.setGrp g v).engines = s.engines ∧
    (s.setGrp g v).flash = s.flash ∧ (s.setGrp g v).supply = s.supply ∧ (s.setGrp g v).reh = s.reh ∧
    (s.setGrp g v).security = s.security ∧ (s.setGrp g v).twin = s.twin ∧ (s.setGrp g v).time = s.time ∧
    (s.setGrp g v).ports = s.ports ∧ (s.setGrp g v).spi = s.spi ∧ (s.setGrp g v).twt = s.twt ∧
    (s.setGrp g v).twc = s.twc ∧ (s.setGrp g v).device = s.device ∧ (s.setGrp g v).startAt = s.startAt ∧
    (s.setGrp g v).houseReset = s.houseReset ∧ (s.setGrp g v).start = s.start ∧ (s.setGrp g v).land = s.land ∧
    (s.setGrp g v).pending = s.pending :=
  ⟨rfl, rfl, rfl, rfl, rfl, rfl, rfl, rfl, rfl, rfl, rfl, rfl, rfl, rfl, rfl, rfl, rfl, rfl, rfl, rfl, rfl, rfl, rfl, rfl, rfl, rfl, rfl, rfl, rfl, rfl, rfl, rfl, rfl, rfl⟩

@[simp] theorem State.setSlice_frame (p : Path) (k : Nat) (v : SliceSt) :
    (s.setSlice p k v).regs = s.regs ∧ (s.setSlice p k v).mem = s.mem ∧ (s.setSlice p k v).ecc = s.ecc ∧
    (s.setSlice p k v).elapsed = s.elapsed ∧ (s.setSlice p k v).free = s.free ∧ (s.setSlice p k v).access = s.access ∧
    (s.setSlice p k v).latch = s.latch ∧ (s.setSlice p k v).readData = s.readData ∧ (s.setSlice p k v).busy = s.busy ∧
    (s.setSlice p k v).paths = s.paths ∧ (s.setSlice p k v).groups = s.groups ∧ (s.setSlice p k v).ctrs = s.ctrs ∧
    (s.setSlice p k v).scene = s.scene ∧ (s.setSlice p k v).trims = s.trims ∧ (s.setSlice p k v).pends = s.pends ∧
    (s.setSlice p k v).ramps = s.ramps ∧ (s.setSlice p k v).cal = s.cal ∧ (s.setSlice p k v).engines = s.engines ∧
    (s.setSlice p k v).flash = s.flash ∧ (s.setSlice p k v).supply = s.supply ∧ (s.setSlice p k v).reh = s.reh ∧
    (s.setSlice p k v).security = s.security ∧ (s.setSlice p k v).twin = s.twin ∧ (s.setSlice p k v).time = s.time ∧
    (s.setSlice p k v).ports = s.ports ∧ (s.setSlice p k v).spi = s.spi ∧ (s.setSlice p k v).twt = s.twt ∧
    (s.setSlice p k v).twc = s.twc ∧ (s.setSlice p k v).device = s.device ∧ (s.setSlice p k v).startAt = s.startAt ∧
    (s.setSlice p k v).houseReset = s.houseReset ∧ (s.setSlice p k v).start = s.start ∧ (s.setSlice p k v).land = s.land ∧
    (s.setSlice p k v).pending = s.pending :=
  ⟨rfl, rfl, rfl, rfl, rfl, rfl, rfl, rfl, rfl, rfl, rfl, rfl, rfl, rfl, rfl, rfl, rfl, rfl, rfl, rfl, rfl, rfl, rfl, rfl, rfl, rfl, rfl, rfl, rfl, rfl, rfl, rfl, rfl, rfl⟩

@[simp] theorem State.setBusy_frame (p : Page) (b : Busy) :
    (s.setBusy p b).regs = s.regs ∧ (s.setBusy p b).mem = s.mem ∧ (s.setBusy p b).ecc = s.ecc ∧
    (s.setBusy p b).elapsed = s.elapsed ∧ (s.setBusy p b).free = s.free ∧ (s.setBusy p b).access = s.access ∧
    (s.setBusy p b).latch = s.latch ∧ (s.setBusy p b).readData = s.readData ∧ (s.setBusy p b).slices = s.slices ∧
    (s.setBusy p b).paths = s.paths ∧ (s.setBusy p b).groups = s.groups ∧ (s.setBusy p b).ctrs = s.ctrs ∧
    (s.setBusy p b).scene = s.scene ∧ (s.setBusy p b).trims = s.trims ∧ (s.setBusy p b).pends = s.pends ∧
    (s.setBusy p b).ramps = s.ramps ∧ (s.setBusy p b).cal = s.cal ∧ (s.setBusy p b).engines = s.engines ∧
    (s.setBusy p b).flash = s.flash ∧ (s.setBusy p b).supply = s.supply ∧ (s.setBusy p b).reh = s.reh ∧
    (s.setBusy p b).security = s.security ∧ (s.setBusy p b).twin = s.twin ∧ (s.setBusy p b).time = s.time ∧
    (s.setBusy p b).ports = s.ports ∧ (s.setBusy p b).spi = s.spi ∧ (s.setBusy p b).twt = s.twt ∧
    (s.setBusy p b).twc = s.twc ∧ (s.setBusy p b).device = s.device ∧ (s.setBusy p b).startAt = s.startAt ∧
    (s.setBusy p b).houseReset = s.houseReset ∧ (s.setBusy p b).start = s.start ∧ (s.setBusy p b).land = s.land ∧
    (s.setBusy p b).pending = s.pending :=
  ⟨rfl, rfl, rfl, rfl, rfl, rfl, rfl, rfl, rfl, rfl, rfl, rfl, rfl, rfl, rfl, rfl, rfl, rfl, rfl, rfl, rfl, rfl, rfl, rfl, rfl, rfl, rfl, rfl, rfl, rfl, rfl, rfl, rfl, rfl⟩

@[simp] theorem State.setLatch_frame (c : Src) (k : Nat) (w : Word) :
    (s.setLatch c k w).regs = s.regs ∧ (s.setLatch c k w).mem = s.mem ∧ (s.setLatch c k w).ecc = s.ecc ∧
    (s.setLatch c k w).elapsed = s.elapsed ∧ (s.setLatch c k w).free = s.free ∧ (s.setLatch c k w).access = s.access ∧
    (s.setLatch c k w).readData = s.readData ∧ (s.setLatch c k w).busy = s.busy ∧ (s.setLatch c k w).slices = s.slices ∧
    (s.setLatch c k w).paths = s.paths ∧ (s.setLatch c k w).groups = s.groups ∧ (s.setLatch c k w).ctrs = s.ctrs ∧
    (s.setLatch c k w).scene = s.scene ∧ (s.setLatch c k w).trims = s.trims ∧ (s.setLatch c k w).pends = s.pends ∧
    (s.setLatch c k w).ramps = s.ramps ∧ (s.setLatch c k w).cal = s.cal ∧ (s.setLatch c k w).engines = s.engines ∧
    (s.setLatch c k w).flash = s.flash ∧ (s.setLatch c k w).supply = s.supply ∧ (s.setLatch c k w).reh = s.reh ∧
    (s.setLatch c k w).security = s.security ∧ (s.setLatch c k w).twin = s.twin ∧ (s.setLatch c k w).time = s.time ∧
    (s.setLatch c k w).ports = s.ports ∧ (s.setLatch c k w).spi = s.spi ∧ (s.setLatch c k w).twt = s.twt ∧
    (s.setLatch c k w).twc = s.twc ∧ (s.setLatch c k w).device = s.device ∧ (s.setLatch c k w).startAt = s.startAt ∧
    (s.setLatch c k w).houseReset = s.houseReset ∧ (s.setLatch c k w).start = s.start ∧ (s.setLatch c k w).land = s.land ∧
    (s.setLatch c k w).pending = s.pending :=
  ⟨rfl, rfl, rfl, rfl, rfl, rfl, rfl, rfl, rfl, rfl, rfl, rfl, rfl, rfl, rfl, rfl, rfl, rfl, rfl, rfl, rfl, rfl, rfl, rfl, rfl, rfl, rfl, rfl, rfl, rfl, rfl, rfl, rfl, rfl⟩

@[simp] theorem State.dropLatches_frame (c : Src) :
    (s.dropLatches c).regs = s.regs ∧ (s.dropLatches c).mem = s.mem ∧ (s.dropLatches c).ecc = s.ecc ∧
    (s.dropLatches c).elapsed = s.elapsed ∧ (s.dropLatches c).free = s.free ∧ (s.dropLatches c).access = s.access ∧
    (s.dropLatches c).readData = s.readData ∧ (s.dropLatches c).busy = s.busy ∧ (s.dropLatches c).slices = s.slices ∧
    (s.dropLatches c).paths = s.paths ∧ (s.dropLatches c).groups = s.groups ∧ (s.dropLatches c).ctrs = s.ctrs ∧
    (s.dropLatches c).scene = s.scene ∧ (s.dropLatches c).trims = s.trims ∧ (s.dropLatches c).pends = s.pends ∧
    (s.dropLatches c).ramps = s.ramps ∧ (s.dropLatches c).cal = s.cal ∧ (s.dropLatches c).engines = s.engines ∧
    (s.dropLatches c).flash = s.flash ∧ (s.dropLatches c).supply = s.supply ∧ (s.dropLatches c).reh = s.reh ∧
    (s.dropLatches c).security = s.security ∧ (s.dropLatches c).twin = s.twin ∧ (s.dropLatches c).time = s.time ∧
    (s.dropLatches c).ports = s.ports ∧ (s.dropLatches c).spi = s.spi ∧ (s.dropLatches c).twt = s.twt ∧
    (s.dropLatches c).twc = s.twc ∧ (s.dropLatches c).device = s.device ∧ (s.dropLatches c).startAt = s.startAt ∧
    (s.dropLatches c).houseReset = s.houseReset ∧ (s.dropLatches c).start = s.start ∧ (s.dropLatches c).land = s.land ∧
    (s.dropLatches c).pending = s.pending :=
  ⟨rfl, rfl, rfl, rfl, rfl, rfl, rfl, rfl, rfl, rfl, rfl, rfl, rfl, rfl, rfl, rfl, rfl, rfl, rfl, rfl, rfl, rfl, rfl, rfl, rfl, rfl, rfl, rfl, rfl, rfl, rfl, rfl, rfl, rfl⟩

@[simp] theorem State.answer_frame (c : Src) (d : BitVec 128) :
    (s.answer c d).regs = s.regs ∧ (s.answer c d).mem = s.mem ∧ (s.answer c d).ecc = s.ecc ∧
    (s.answer c d).elapsed = s.elapsed ∧ (s.answer c d).free = s.free ∧ (s.answer c d).access = s.access ∧
    (s.answer c d).latch = s.latch ∧ (s.answer c d).busy = s.busy ∧ (s.answer c d).slices = s.slices ∧
    (s.answer c d).paths = s.paths ∧ (s.answer c d).groups = s.groups ∧ (s.answer c d).ctrs = s.ctrs ∧
    (s.answer c d).scene = s.scene ∧ (s.answer c d).trims = s.trims ∧ (s.answer c d).pends = s.pends ∧
    (s.answer c d).ramps = s.ramps ∧ (s.answer c d).cal = s.cal ∧ (s.answer c d).engines = s.engines ∧
    (s.answer c d).flash = s.flash ∧ (s.answer c d).supply = s.supply ∧ (s.answer c d).reh = s.reh ∧
    (s.answer c d).security = s.security ∧ (s.answer c d).twin = s.twin ∧ (s.answer c d).time = s.time ∧
    (s.answer c d).ports = s.ports ∧ (s.answer c d).spi = s.spi ∧ (s.answer c d).twt = s.twt ∧
    (s.answer c d).twc = s.twc ∧ (s.answer c d).device = s.device ∧ (s.answer c d).startAt = s.startAt ∧
    (s.answer c d).houseReset = s.houseReset ∧ (s.answer c d).start = s.start ∧ (s.answer c d).land = s.land ∧
    (s.answer c d).pending = s.pending :=
  ⟨rfl, rfl, rfl, rfl, rfl, rfl, rfl, rfl, rfl, rfl, rfl, rfl, rfl, rfl, rfl, rfl, rfl, rfl, rfl, rfl, rfl, rfl, rfl, rfl, rfl, rfl, rfl, rfl, rfl, rfl, rfl, rfl, rfl, rfl⟩

@[simp] theorem State.setJob_frame (x : JobSt) :
    (s.setJob x).regs = s.regs ∧ (s.setJob x).mem = s.mem ∧ (s.setJob x).ecc = s.ecc ∧
    (s.setJob x).elapsed = s.elapsed ∧ (s.setJob x).free = s.free ∧ (s.setJob x).access = s.access ∧
    (s.setJob x).latch = s.latch ∧ (s.setJob x).readData = s.readData ∧ (s.setJob x).busy = s.busy ∧
    (s.setJob x).slices = s.slices ∧ (s.setJob x).paths = s.paths ∧ (s.setJob x).groups = s.groups ∧
    (s.setJob x).ctrs = s.ctrs ∧ (s.setJob x).trims = s.trims ∧ (s.setJob x).pends = s.pends ∧
    (s.setJob x).ramps = s.ramps ∧ (s.setJob x).cal = s.cal ∧ (s.setJob x).engines = s.engines ∧
    (s.setJob x).flash = s.flash ∧ (s.setJob x).supply = s.supply ∧ (s.setJob x).reh = s.reh ∧
    (s.setJob x).security = s.security ∧ (s.setJob x).twin = s.twin ∧ (s.setJob x).time = s.time ∧
    (s.setJob x).ports = s.ports ∧ (s.setJob x).spi = s.spi ∧ (s.setJob x).twt = s.twt ∧
    (s.setJob x).twc = s.twc ∧ (s.setJob x).device = s.device ∧ (s.setJob x).startAt = s.startAt ∧
    (s.setJob x).houseReset = s.houseReset ∧ (s.setJob x).start = s.start ∧ (s.setJob x).land = s.land ∧
    (s.setJob x).pending = s.pending :=
  ⟨rfl, rfl, rfl, rfl, rfl, rfl, rfl, rfl, rfl, rfl, rfl, rfl, rfl, rfl, rfl, rfl, rfl, rfl, rfl, rfl, rfl, rfl, rfl, rfl, rfl, rfl, rfl, rfl, rfl, rfl, rfl, rfl, rfl, rfl⟩

@[simp] theorem State.dropJob_frame (j : Job) :
    (s.dropJob j).regs = s.regs ∧ (s.dropJob j).mem = s.mem ∧ (s.dropJob j).ecc = s.ecc ∧
    (s.dropJob j).elapsed = s.elapsed ∧ (s.dropJob j).free = s.free ∧ (s.dropJob j).access = s.access ∧
    (s.dropJob j).latch = s.latch ∧ (s.dropJob j).readData = s.readData ∧ (s.dropJob j).busy = s.busy ∧
    (s.dropJob j).slices = s.slices ∧ (s.dropJob j).paths = s.paths ∧ (s.dropJob j).groups = s.groups ∧
    (s.dropJob j).ctrs = s.ctrs ∧ (s.dropJob j).trims = s.trims ∧ (s.dropJob j).pends = s.pends ∧
    (s.dropJob j).ramps = s.ramps ∧ (s.dropJob j).cal = s.cal ∧ (s.dropJob j).engines = s.engines ∧
    (s.dropJob j).flash = s.flash ∧ (s.dropJob j).supply = s.supply ∧ (s.dropJob j).reh = s.reh ∧
    (s.dropJob j).security = s.security ∧ (s.dropJob j).twin = s.twin ∧ (s.dropJob j).time = s.time ∧
    (s.dropJob j).ports = s.ports ∧ (s.dropJob j).spi = s.spi ∧ (s.dropJob j).twt = s.twt ∧
    (s.dropJob j).twc = s.twc ∧ (s.dropJob j).device = s.device ∧ (s.dropJob j).startAt = s.startAt ∧
    (s.dropJob j).houseReset = s.houseReset ∧ (s.dropJob j).start = s.start ∧ (s.dropJob j).land = s.land ∧
    (s.dropJob j).pending = s.pending :=
  ⟨rfl, rfl, rfl, rfl, rfl, rfl, rfl, rfl, rfl, rfl, rfl, rfl, rfl, rfl, rfl, rfl, rfl, rfl, rfl, rfl, rfl, rfl, rfl, rfl, rfl, rfl, rfl, rfl, rfl, rfl, rfl, rfl, rfl, rfl⟩

@[simp] theorem State.addJob_frame (x : JobSt) :
    (s.addJob x).regs = s.regs ∧ (s.addJob x).mem = s.mem ∧ (s.addJob x).ecc = s.ecc ∧
    (s.addJob x).elapsed = s.elapsed ∧ (s.addJob x).free = s.free ∧ (s.addJob x).access = s.access ∧
    (s.addJob x).latch = s.latch ∧ (s.addJob x).readData = s.readData ∧ (s.addJob x).busy = s.busy ∧
    (s.addJob x).slices = s.slices ∧ (s.addJob x).paths = s.paths ∧ (s.addJob x).groups = s.groups ∧
    (s.addJob x).ctrs = s.ctrs ∧ (s.addJob x).trims = s.trims ∧ (s.addJob x).pends = s.pends ∧
    (s.addJob x).ramps = s.ramps ∧ (s.addJob x).cal = s.cal ∧ (s.addJob x).engines = s.engines ∧
    (s.addJob x).flash = s.flash ∧ (s.addJob x).supply = s.supply ∧ (s.addJob x).reh = s.reh ∧
    (s.addJob x).security = s.security ∧ (s.addJob x).twin = s.twin ∧ (s.addJob x).time = s.time ∧
    (s.addJob x).ports = s.ports ∧ (s.addJob x).spi = s.spi ∧ (s.addJob x).twt = s.twt ∧
    (s.addJob x).twc = s.twc ∧ (s.addJob x).device = s.device ∧ (s.addJob x).startAt = s.startAt ∧
    (s.addJob x).houseReset = s.houseReset ∧ (s.addJob x).start = s.start ∧ (s.addJob x).land = s.land ∧
    (s.addJob x).pending = s.pending :=
  ⟨rfl, rfl, rfl, rfl, rfl, rfl, rfl, rfl, rfl, rfl, rfl, rfl, rfl, rfl, rfl, rfl, rfl, rfl, rfl, rfl, rfl, rfl, rfl, rfl, rfl, rfl, rfl, rfl, rfl, rfl, rfl, rfl, rfl, rfl⟩

/-! ### Records -/

@[simp] theorem State.path_setPath (p : Path) (v : PathSt) : (s.setPath p v).path p = v := by simp [State.path, State.setPath]

theorem State.path_setPath_ne (p q : Path) (v : PathSt) (h : q ≠ p) : (s.setPath p v).path q = s.path q := by
  simp only [State.path, State.setPath]
  exact tabGet_tabSet_ne _ _ _ _ _ (fun e => h (Fin.ext e))

@[simp] theorem State.seg_setSeg (p : Path) (v : SegSt) : (s.setSeg p v).seg p = v := by simp [State.seg, State.setSeg]

@[simp] theorem State.grp_setGrp (g : Grp) (v : GroupSt) : (s.setGrp g v).grp g = v := by simp [State.grp, State.setGrp]

theorem State.grp_setGrp_ne (g h : Grp) (v : GroupSt) (e : h ≠ g) : (s.setGrp g v).grp h = s.grp h := by
  simp only [State.grp, State.setGrp]
  exact tabGet_tabSet_ne _ _ _ _ _ (fun k => e (Fin.ext k))

@[simp] theorem State.slice_setSlice (p : Path) (k : Nat) (v : SliceSt) : (s.setSlice p k v).slice p k = v := by
  simp [State.slice, State.setSlice]

@[simp] theorem State.busyOf_setBusy (p : Page) (b : Busy) : (s.setBusy p b).busyOf p = b := by simp [State.busyOf, State.setBusy]

@[simp] theorem State.latched_setLatch (c : Src) (k : Nat) (w : Word) : (s.setLatch c k w).latched c k = w := by
  simp [State.latched, State.setLatch]

@[simp] theorem State.mget_mset (a : Nat) (v : Byte) : (s.mset a v).mget a = v := by simp [State.mget, State.mset]

theorem State.mget_mset_ne (a b : Nat) (v : Byte) (h : b ≠ a) : (s.mset a v).mget b = s.mget b :=
  tabGet_tabSet_ne _ _ _ _ _ h

end Sys2Proof.Machine
end

