-- ==== Sys2Proof/Laws/Ops.lean ====
section
/-!
SUPPORT. Laws/Ops.lean: what the shared operations on registers do, said once: fields read back what was set and no other field changes,
raising an event sets its bit, and it and counting a violation change nothing else but the side registers and the cue sheet.
-/
namespace Sys2Proof.Machine

/-! ### Fields of a word -/

theorem fget_fset (w : Word) (hi lo v : Nat) (h : lo ≤ hi) (hh : hi < 32) :
    fget (fset w hi lo v) hi lo = v % 2 ^ (hi + 1 - lo) := by
  unfold fget fset
  have h1 : 2 ^ (hi + 1) = 2 ^ lo * 2 ^ (hi + 1 - lo) := by rw [← pow_add]; congr 1; omega
  have h2 : (2 : Nat) ^ 32 = 2 ^ (hi + 1) * 2 ^ (31 - hi) := by rw [← pow_add]; congr 1; omega
  set a := w.toNat / 2 ^ (hi + 1)
  set r := w.toNat % 2 ^ lo with hr
  set c := v % 2 ^ (hi + 1 - lo) with hc
  have hrl : r < 2 ^ lo := Nat.mod_lt _ (by positivity)
  have hcl : c < 2 ^ (hi + 1 - lo) := Nat.mod_lt _ (by positivity)
  have ha : a < 2 ^ (31 - hi) := by
    apply Nat.div_lt_of_lt_mul
    rw [← h2]; exact w.isLt
  have key : a * 2 ^ (hi + 1) + c * 2 ^ lo + r < 2 ^ 32 := by
    have : c * 2 ^ lo + r < 2 ^ (hi + 1) := by
      rw [h1]
      calc c * 2 ^ lo + r < c * 2 ^ lo + 2 ^ lo := by omega
        _ = (c + 1) * 2 ^ lo := by ring
        _ ≤ 2 ^ (hi + 1 - lo) * 2 ^ lo := Nat.mul_le_mul_right _ hcl
        _ = 2 ^ lo * 2 ^ (hi + 1 - lo) := by ring
    calc a * 2 ^ (hi + 1) + c * 2 ^ lo + r < a * 2 ^ (hi + 1) + 2 ^ (hi + 1) := by omega
      _ = (a + 1) * 2 ^ (hi + 1) := by ring
      _ ≤ 2 ^ (31 - hi) * 2 ^ (hi + 1) := Nat.mul_le_mul_right _ ha
      _ = 2 ^ 32 := by rw [h2]; ring
  rw [BitVec.toNat_ofNat, Nat.mod_eq_of_lt key]
  have : a * 2 ^ (hi + 1) + c * 2 ^ lo + r = (a * 2 ^ (hi + 1 - lo) + c) * 2 ^ lo + r := by
    rw [h1]; ring
  rw [this, Nat.add_comm, Nat.add_mul_div_right _ _ (by positivity), Nat.div_eq_of_lt hrl, Nat.zero_add, Nat.add_comm,
    Nat.add_mul_mod_self_right, Nat.mod_eq_of_lt hcl]

theorem testBit_fset (w : Word) (hi lo v i : Nat) (h : lo ≤ hi) (hi32 : i < 32) :
    (fset w hi lo v).getLsbD i = if lo ≤ i ∧ i ≤ hi then v.testBit (i - lo) else w.getLsbD i := by
  unfold fset
  rw [BitVec.getLsbD_ofNat]
  simp only [hi32, decide_true, Bool.true_and]
  have hw : ∀ j, w.toNat.testBit j = w.getLsbD j := fun j => rfl
  have e : w.toNat / 2 ^ (hi + 1) * 2 ^ (hi + 1) + v % 2 ^ (hi + 1 - lo) * 2 ^ lo + w.toNat % 2 ^ lo =
      2 ^ lo * (2 ^ (hi + 1 - lo) * (w.toNat / 2 ^ (hi + 1)) + v % 2 ^ (hi + 1 - lo)) + w.toNat % 2 ^ lo := by
    have h1 : 2 ^ (hi + 1) = 2 ^ lo * 2 ^ (hi + 1 - lo) := by rw [← pow_add]; congr 1; omega
    rw [h1]; ring
  rw [e, Nat.testBit_two_pow_mul_add _ (Nat.mod_lt _ (by positivity))]
  by_cases h1 : i < lo
  · simp [h1, Nat.testBit_mod_two_pow, hw, Nat.not_le.2 h1]
  · simp only [h1, if_false]
    rw [Nat.testBit_two_pow_mul_add _ (Nat.mod_lt _ (by positivity))]
    by_cases h2 : i ≤ hi
    · have : i - lo < hi + 1 - lo := by omega
      simp [this, Nat.testBit_mod_two_pow, Nat.not_lt.1 h1, h2]
    · have h3 : ¬ (i - lo < hi + 1 - lo) := by omega
      simp only [h3, if_false, Nat.testBit_div_two_pow, h2, and_false]
      rw [hw]; congr 1; omega

/-- A field read bit by bit. -/
theorem fget_ext (w w' : Word) (hi lo : Nat)
    (h : ∀ i, lo ≤ i → i ≤ hi → w.getLsbD i = w'.getLsbD i) : fget w hi lo = fget w' hi lo := by
  unfold fget
  apply Nat.eq_of_testBit_eq
  intro j
  simp only [Nat.testBit_mod_two_pow, Nat.testBit_div_two_pow]
  by_cases hj : j < hi + 1 - lo
  · have := h (j + lo) (by omega) (by omega)
    have e : ∀ x : Word, x.toNat.testBit (j + lo) = x.getLsbD (j + lo) := fun x => rfl
    rw [e, e, this]
  · simp [hj]

theorem fget_fset_disj (w : Word) (hi lo v hi' lo' : Nat) (h : lo ≤ hi) (hh : hi' < 32) (d : hi < lo' ∨ hi' < lo) :
    fget (fset w hi lo v) hi' lo' = fget w hi' lo' := by
  refine fget_ext _ _ _ _ fun i h1 h2 => ?_
  rw [testBit_fset _ _ _ _ _ h (by omega)]
  simp only [ite_eq_right_iff, and_imp]
  omega

/-! ### Addresses -/

theorem pageNum_inj {p q : Page} (h : pageNum p = pageNum q) : p = q := by
  cases p <;> cases q <;> simp [pageNum] at h ⊢ <;> try omega
  all_goals rwa [Fin.ext_iff]

theorem pageAddr_inj {p q : Page} {a b : Nat} (ha : a < 4096) (hb : b < 4096) :
    pageAddr p a = pageAddr q b ↔ p = q ∧ a = b := by
  constructor
  · intro h
    simp only [pageAddr] at h
    have : pageNum p = pageNum q := by omega
    exact ⟨pageNum_inj this, by omega⟩
  · rintro ⟨rfl, rfl⟩; rfl

theorem pageNum_lt (p : Page) : pageNum p < 384 := by
  cases p <;> simp [pageNum] <;> omega

/-! ### Registers -/

variable (s : State)

@[simp] theorem State.rd_wr_self (a : Nat) (v : Word) : (s.wr a v).rd a = v := by simp [State.rd, State.wr]

theorem State.rd_wr_ne (a b : Nat) (v : Word) (h : b ≠ a) : (s.wr a v).rd b = s.rd b := tabGet_tabSet_ne _ _ _ _ _ h

theorem State.rd_wr (a b : Nat) (v : Word) : (s.wr a v).rd b = if b = a then v else s.rd b := by
  split
  · subst_vars; simp
  · exact s.rd_wr_ne a b v ‹_›

theorem State.rd_setF (p : Page) (x : Fld) (v b : Nat) :
    (s.setF p x v).rd b = if b = pageAddr p x.off then fset (s.rd (pageAddr p x.off)) x.hi x.lo v else s.rd b := s.rd_wr _ _ _

/-- A field after another one is set. -/
theorem State.f_setF (p q : Page) (x y : Fld) (v : Nat) (hx : x.off < 4096) (hy : y.off < 4096) :
    (s.setF p x v).f q y = if q = p ∧ y.off = x.off then fget (fset (s.rd (pageAddr p x.off)) x.hi x.lo v) y.hi y.lo else s.f q y := by
  simp only [State.f, State.rd_setF, pageAddr_inj hy hx]
  split <;> rfl

/-- A field reads back the code set, as far as it is wide. -/
theorem State.f_setF_self (p : Page) (x : Fld) (v : Nat) (h : x.lo ≤ x.hi) (hh : x.hi < 32) :
    (s.setF p x v).f p x = v % 2 ^ (x.hi + 1 - x.lo) := by
  simp only [State.f, State.rd_setF, if_true, fget_fset _ _ _ _ h hh]

/-- Another field of the same register keeps its code. -/
theorem State.f_setF_disj (p : Page) (x y : Fld) (v : Nat) (h : x.lo ≤ x.hi) (hh : y.hi < 32)
    (d : x.hi < y.lo ∨ y.hi < x.lo) : (s.setF p x v).f p y = s.f p y := by
  simp only [State.f, State.rd_setF]
  split
  · rename_i e; rw [fget_fset_disj _ _ _ _ _ _ h hh d, e]
  · rfl

/-- A field of another register keeps its code. -/
theorem State.f_setF_ne (p q : Page) (x y : Fld) (v : Nat) (h : pageAddr q y.off ≠ pageAddr p x.off) :
    (s.setF p x v).f q y = s.f q y := by
  simp only [State.f, State.rd_setF, h, if_false]

/-! ### Frames -/

theorem State.Frame.refl (l : List Nat) : s.Frame l s := ⟨fun _ _ _ => rfl, fun _ _ => rfl⟩

theorem State.SameRest.refl : s.SameRest s := by simp [State.SameRest]

variable {s}

theorem State.Frame.trans {l : List Nat} {t u : State} (h : s.Frame l t) (k : t.Frame l u) : s.Frame l u :=
  ⟨fun a x y => (k.1 a x y).trans (h.1 a x y), fun a x => (k.2 a x).trans (h.2 a x)⟩

theorem State.SameRest.trans {t u : State} (h : s.SameRest t) (k : t.SameRest u) : s.SameRest u := by
  unfold State.SameRest at *
  simp only [k, h, and_self]

theorem State.SameRest.regs {t : State} (h : s.SameRest t) (r : List (Nat × Word)) : s.SameRest { t with regs := r } := h

theorem State.SameRest.wr {t : State} (h : s.SameRest t) (a : Nat) (v : Word) : s.SameRest (t.wr a v) := h.regs _

theorem State.SameRest.setF {t : State} (h : s.SameRest t) (p : Page) (x : Fld) (v : Nat) : s.SameRest (t.setF p x v) := h.wr _ _

theorem State.SameRest.setB {t : State} (h : s.SameRest t) (p : Page) (x : Fld) (b : Bool) : s.SameRest (t.setB p x b) := h.setF _ _ _

theorem State.SameRest.inc {t : State} (h : s.SameRest t) (p : Page) (x : Fld) : s.SameRest (t.inc p x) := h.setF _ _ _

theorem State.SameRest.scene {t : State} (h : s.SameRest t) (x : SceneSt) : s.SameRest { t with scene := x } := h

theorem State.SameRest.ecc {t : State} (h : s.SameRest t) (x : List (Nat × Nat)) : s.SameRest { t with ecc := x } := h

theorem State.SameRest.viol {t : State} (h : s.SameRest t) (p : Page) (k : Viol) : s.SameRest (t.viol p k) :=
  (((((h.inc _ _).inc _ _).setF _ _ _).setF _ _ _).setB _ _ _)

theorem State.Frame.mono {l m : List Nat} {t : State} (h : s.Frame l t) (k : ∀ a ∈ l, a ∈ m) : s.Frame m t :=
  ⟨fun a x y => h.1 a (fun z => x (k a z)) y, h.2⟩

/-- Storing a listed register. -/
theorem State.Frame.wr {l : List Nat} {t : State} (h : s.Frame l t) (a : Nat) (v : Word) (k : a ∈ l ∨ a ∈ sideRegs) :
    s.Frame l (t.wr a v) := by
  refine ⟨fun b x y => ?_, h.2⟩
  rw [State.rd_wr_ne _ _ _ _ (by rintro rfl; exact k.elim x y)]
  exact h.1 b x y

theorem State.Frame.setF {l : List Nat} {t : State} (h : s.Frame l t) (p : Page) (x : Fld) (v : Nat)
    (k : pageAddr p x.off ∈ l ∨ pageAddr p x.off ∈ sideRegs) : s.Frame l (t.setF p x v) := h.wr _ _ k

/-- What only another part of the state changes keeps registers and memory. -/
theorem State.Frame.of_eq {l : List Nat} {t u : State} (h : s.Frame l t) (hr : u.regs = t.regs) (hm : u.mem = t.mem) : s.Frame l u :=
  ⟨fun a x y => by simpa [State.rd, hr] using h.1 a x y, fun a x => by simpa [State.mget, hm] using h.2 a x⟩

theorem pageAddr_side {p : Page} {o : Nat} (h : p = .house ∧ o ∈ sideRegs ∨ p = .cue ∧ o = 0x020) : pageAddr p o ∈ sideRegs := by
  rcases h with ⟨rfl, h⟩ | ⟨rfl, rfl⟩
  · simpa [pageAddr, pageNum] using h
  · decide

theorem State.rd_violI (p : Page) (k : Viol) (inj : Bool) (a : Nat) (h : a ∉ sideRegs)
    (hp : a ≠ pageAddr p (violFld k).off) : (s.violI p k inj).rd a = s.rd a := by
  have h1 : a ≠ pageAddr .house (violTot k).off := by
    rintro rfl; exact h (pageAddr_side (.inl ⟨rfl, by cases k <;> decide⟩))
  have h2 : a ≠ pageAddr .house 0x0B4 := by rintro rfl; exact h (by decide)
  simp only [State.violI, State.violLast, State.setB, State.inc, State.add, State.rd_setF, HouseR.VIOL_LAST_INJ, HouseR.VIOL_LAST_KIND,
    HouseR.VIOL_LAST_PAGE]
  simp [h1, h2, hp]

theorem State.Frame.viol {l : List Nat} {t : State} (h : s.Frame l t) (p : Page) (k : Viol)
    (hp : pageAddr p (violFld k).off ∈ l ∨ pageAddr p (violFld k).off ∈ sideRegs) : s.Frame l (t.viol p k) := by
  refine ⟨fun a x y => ?_, fun a x => ?_⟩
  · rw [State.viol, State.rd_violI _ _ _ _ y (by rintro rfl; exact hp.elim x y)]
    exact h.1 a x y
  · simpa [State.mget] using h.2 a x

/-! ### Events -/

theorem mset_frame_mget (t : State) (a b : Nat) (v : Byte) : (t.mset a v).mget b = if b = a then v else t.mget b := by
  split
  · subst_vars; simp
  · exact t.mget_mset_ne a b v ‹_›

theorem State.msetRaw_spec (t : State) (a : Nat) (l : List Byte) :
    (t.msetRaw a l).regs = t.regs ∧ (∀ b, b < a ∨ a + l.length ≤ b → (t.msetRaw a l).mget b = t.mget b) ∧ t.SameRest (t.msetRaw a l) := by
  induction l generalizing t a with
  | nil => exact ⟨rfl, fun _ _ => rfl, State.SameRest.refl t⟩
  | cons x l ih =>
    obtain ⟨h1, h2, h3⟩ := ih (t.mset a x) (a + 1)
    refine ⟨h1, fun b hb => ?_, State.SameRest.trans (t := t.mset a x) (State.SameRest.refl t) h3⟩
    simp only [List.length_cons] at hb
    show ((t.mset a x).msetRaw (a + 1) l).mget b = _
    rw [h2 b (by omega), State.mget_mset_ne _ _ _ _ (by omega)]

theorem State.rd_ecc (t : State) (e : List (Nat × Nat)) (a : Nat) : ({ t with ecc := e } : State).rd a = t.rd a := rfl

theorem State.sramWrite_spec (t : State) (row : Nat) :
    (∀ a, a ≠ 0x0C4 → (t.sramWrite row).rd a = t.rd a) ∧ (t.sramWrite row).mem = t.mem ∧ t.SameRest (t.sramWrite row) := by
  have h := State.SameRest.refl t
  unfold State.sramWrite
  split
  · generalize tabSet (fun _ => 0) t.ecc row _ = e
    refine ⟨fun a ha => ?_, by simp, (h.setF .house HouseR.ECC_INJ_ARM 0).ecc e⟩
    rw [State.rd_ecc, State.rd_setF, if_neg (by simpa [pageAddr, pageNum, HouseR.ECC_INJ_ARM] using ha)]
  · generalize tabSet (fun _ => 0) t.ecc row _ = e
    exact ⟨fun _ _ => rfl, rfl, h.ecc e⟩

theorem State.sramWrites_spec (rows : List Nat) (t : State) :
    (∀ a, a ≠ 0x0C4 → (rows.foldl State.sramWrite t).rd a = t.rd a) ∧ (rows.foldl State.sramWrite t).mem = t.mem ∧
    t.SameRest (rows.foldl State.sramWrite t) := by
  induction rows generalizing t with
  | nil => exact ⟨fun _ _ => rfl, rfl, State.SameRest.refl t⟩
  | cons r rows ih =>
    obtain ⟨h1, h2, h3⟩ := ih (t.sramWrite r)
    obtain ⟨k1, k2, k3⟩ := t.sramWrite_spec r
    exact ⟨fun a ha => (h1 a ha).trans (k1 a ha), h2.trans k2, k3.trans h3⟩

/-- Writing bytes of a window changes those bytes, and ECC_INJ where the injection is armed. -/
theorem State.msetList_spec (t : State) (a : Nat) (l : List Byte) :
    (∀ b, b ≠ 0x0C4 → (t.msetList a l).rd b = t.rd b) ∧
    (∀ b, b < a ∨ a + l.length ≤ b → (t.msetList a l).mget b = t.mget b) ∧ t.SameRest (t.msetList a l) := by
  obtain ⟨h1, h2, h3⟩ := t.msetRaw_spec a l
  obtain ⟨k1, k2, k3⟩ := State.sramWrites_spec (sramRows a l.length) (t.msetRaw a l)
  refine ⟨fun b hb => ?_, fun b hb => ?_, h3.trans k3⟩
  · rw [State.msetList, k1 b hb]; simp [State.rd, h1]
  · rw [State.msetList, State.mget, k2]; exact h2 b hb

/-- Setting bits of a word of the cue sheet. -/
theorem State.Frame.cueField {l : List Nat} {t : State} (h : s.Frame l t) (c : BitVec 12) (k hi lo v : Nat) (hk : k + 4 ≤ 32) :
    s.Frame l (t.mfieldSet (cueAddr c + k) hi lo v) := by
  have hc : c.toNat < 4096 := c.isLt
  obtain ⟨h1, h2, -⟩ := t.msetList_spec (cueAddr c + k) (wordBytes (fset (t.mword (cueAddr c + k)) hi lo v))
  refine ⟨fun a x y => ?_, fun a x => ?_⟩
  · rw [State.mfieldSet, State.mwordSet, h1 a (by rintro rfl; exact y (by decide))]; exact h.1 a x y
  · rw [State.mfieldSet, State.mwordSet, h2 a]
    · exact h.2 a x
    · simp only [inSheet, cueAddr, wordBytes, List.length_cons, List.length_nil] at *
      omega

theorem State.SameRest.cueField {t : State} (h : s.SameRest t) (a hi lo v : Nat) : s.SameRest (t.mfieldSet a hi lo v) :=
  h.trans (t.msetList_spec a _).2.2

theorem State.lateOccurrence_spec (t : State) (x : JobSt) (c : BitVec 12) (tc : Nat) :
    t.Frame [] (t.lateOccurrence x c tc) ∧ t.SameRest (t.lateOccurrence x c tc) := by
  have hv : t.Frame [] (t.viol .cue .timing) := (State.Frame.refl t []).viol _ _ (.inr (by decide))
  have hs : t.SameRest (t.viol .cue .timing) := (State.SameRest.refl t).viol _ _
  unfold State.lateOccurrence State.endCue State.cueSetState State.cueOutcome
  generalize t.viol .cue .timing = u at *
  dsimp only
  split
  · exact ⟨hv.of_eq (by simp) (by simp), hs.scene _⟩
  · split
    · have h1 : t.Frame [] (u.setJob { x with trig := none }) := hv.of_eq (by simp) (by simp)
      have h2 : t.SameRest (u.setJob { x with trig := none }) := hs.scene _
      exact ⟨h1.cueField c 0x18 _ _ _ (by omega), h2.cueField _ _ _ _⟩
    · have h1 := (hv.cueField c 0x18 31 28 6 (by omega)).cueField c 0x18 27 24 3 (by omega)
      have h2 := (hs.cueField (cueAddr c + 0x18) 31 28 6).cueField (cueAddr c + 0x18) 27 24 3
      generalize State.mfieldSet (State.mfieldSet _ _ _ _ _) _ _ _ _ = w at *
      exact ⟨h1.of_eq (by simp) (by simp), h2.scene _⟩

/-- Triggering event cues changes the side registers, the cue sheet and the scene work only. -/
theorem State.trigEvent_spec (t : State) (p : Page) (bit : Nat) : t.Frame [] (t.trigEvent p bit) ∧ t.SameRest (t.trigEvent p bit) := by
  have : ∀ (jobs : List JobSt) (u : State), t.Frame [] u ∧ t.SameRest u →
      t.Frame [] (jobs.foldl (State.cueEvent p bit) u) ∧ t.SameRest (jobs.foldl (State.cueEvent p bit) u) := by
    intro jobs
    induction jobs with
    | nil => exact fun u h => h
    | cons x jobs ih =>
      intro u h
      rw [List.foldl_cons]
      apply ih
      unfold State.cueEvent
      split
      · rename_i c _
        split
        · split
          · split
            · exact ⟨h.1.of_eq (by simp) (by simp), h.2.scene _⟩
            · split
              · exact ⟨(h.1.viol _ _ (.inr (by decide))).cueField c 0x18 27 24 3 (by omega), (h.2.viol _ _).cueField _ _ _ _⟩
              · exact h
          · obtain ⟨k1, k2⟩ := u.lateOccurrence_spec x c (u.elapsed + eventDelay)
            exact ⟨h.1.trans k1, h.2.trans k2⟩
        · exact h
      · exact h
  exact this t.scene.jobs t ⟨State.Frame.refl t [], State.SameRest.refl t⟩

/-- Setting a field of ATTN_STAT. -/
theorem attnStat_step {t u : State} (h : (∀ a, a ≠ 0x09C → u.rd a = t.rd a) ∧ u.mem = t.mem ∧ t.SameRest u) (x : Fld) (v : Nat)
    (hx : x.off = 0x09C) :
    (∀ a, a ≠ 0x09C → (u.setF .house x v).rd a = t.rd a) ∧ (u.setF .house x v).mem = t.mem ∧ t.SameRest (u.setF .house x v) := by
  refine ⟨fun a ha => ?_, by simpa using h.2.1, h.2.2.setF _ _ _⟩
  rw [State.rd_setF, if_neg (by simpa [pageAddr, pageNum, hx] using ha)]
  exact h.1 a ha

theorem State.attnUpdate_spec (t : State) (b : BitVec 64 × BitVec 64) :
    (∀ a, a ≠ 0x09C → (t.attnUpdate b).rd a = t.rd a) ∧ (t.attnUpdate b).mem = t.mem ∧ t.SameRest (t.attnUpdate b) := by
  have h : (∀ a, a ≠ 0x09C → t.rd a = t.rd a) ∧ t.mem = t.mem ∧ t.SameRest t := ⟨fun _ _ => rfl, rfl, State.SameRest.refl t⟩
  unfold State.attnUpdate
  extract_lets now low rose u pOn
  have hu : (∀ a, a ≠ 0x09C → u.rd a = t.rd a) ∧ u.mem = t.mem ∧ t.SameRest u := by
    simp only [u]
    split
    · exact attnStat_step (attnStat_step (attnStat_step h _ _ rfl) _ _ rfl) _ _ rfl
    · exact attnStat_step h _ _ rfl
  clear_value u
  split
  · exact attnStat_step hu _ _ rfl
  · split
    · exact attnStat_step hu _ _ rfl
    · exact hu

/-- Raising an event sets its bit of EVT_RAW, unless the page is BUSY for rehearsal (R402, R454). -/
theorem State.raise_bit (t : State) (p : Page) (bit : Nat) (h : t.busyOf p ≠ .rehearsal) :
    (t.raise p bit).rd (pageAddr p 0x010) = t.rd (pageAddr p 0x010) ||| (1#32 <<< bit) := by
  have hn : pageAddr p 0x010 ∉ sideRegs := by
    have := pageNum_lt p
    simp only [pageAddr, sideRegs, List.mem_cons, List.not_mem_nil, or_false]; omega
  have hb : (t.busyOf p == .rehearsal) = false := by simpa using h
  simp only [State.raise, hb, Bool.false_eq_true, if_false]
  rw [(State.trigEvent_spec _ p bit).1.1 _ (by simp) hn, State.withEvt, (State.attnUpdate_spec _ _).1 _ (by
    intro e; exact hn (by rw [e]; decide))]
  simp

/-- Raising an event changes nothing else but the side registers, the cue sheet and the scene work. -/
theorem State.raise_spec (t : State) (p : Page) (bit : Nat) :
    t.Frame [pageAddr p 0x010] (t.raise p bit) ∧ t.SameRest (t.raise p bit) := by
  unfold State.raise
  split
  · exact ⟨State.Frame.refl t _, State.SameRest.refl t⟩
  · obtain ⟨h1, h2⟩ := State.trigEvent_spec (t.withEvt (fun s => s.wr (pageAddr p 0x010) (s.rd (pageAddr p 0x010) ||| (1#32 <<< bit)))) p bit
    obtain ⟨k1, k2, k3⟩ := State.attnUpdate_spec (t.wr (pageAddr p 0x010) (t.rd (pageAddr p 0x010) ||| (1#32 <<< bit))) t.attnView
    refine ⟨State.Frame.trans ⟨fun a x y => ?_, fun a _ => ?_⟩ (h1.mono (by simp)), State.SameRest.trans ?_ h2⟩
    · rw [State.withEvt, k1 a (by rintro rfl; exact y (by decide)), State.rd_wr_ne _ _ _ _ (by simpa using x)]
    · rw [State.withEvt, State.mget, k2]; simp [State.mget]
    · exact State.SameRest.trans ((State.SameRest.refl t).wr _ _) k3

theorem State.Frame.raise {l : List Nat} {t : State} (h : s.Frame l t) (p : Page) (bit : Nat) (k : pageAddr p 0x010 ∈ l) :
    s.Frame l (t.raise p bit) := h.trans ((t.raise_spec p bit).1.mono (by simpa using k))

/-- A register that is no side register and not the page's EVT_RAW stays as it is when an event is raised. -/
theorem State.rd_raise (t : State) (p : Page) (bit a : Nat) (h : a ∉ sideRegs) (k : a ≠ pageAddr p 0x010) :
    (t.raise p bit).rd a = t.rd a := (t.raise_spec p bit).1.1 a (by simpa using k) h

end Sys2Proof.Machine
end

