-- ==== Sys2Proof/Laws/PerInstr.lean ====
section
/-!
SUPPORT. Laws/PerInstr.lean: the family NoWord: no word of the opcode table spells a command, since no row of it gives bits; a command
comes to the module only through its queue.
-/
namespace Sys2Proof.Laws

/-- No word spells the command. -/
def NoWord.Statement (i : Instr) : Prop := ∀ nbits w : Nat, decodeTableWord nbits w ≠ some i

/-- The decoder of the table answers none. -/
theorem noWord (i : Instr) : NoWord.Statement i := fun _ _ h => nomatch h

theorem NoWord.fabricSpeedMeasure : ∀ (rate : BitVec 16), NoWord.Statement (.fabricSpeedMeasure rate) := fun _ => noWord _
theorem NoWord.operationTakesEffect : NoWord.Statement (.operationTakesEffect) := noWord _
theorem NoWord.registerWrite : ∀ (c : Src) (addr : BitVec 32) (data : Word), NoWord.Statement (.registerWrite c addr data) := fun _ _ _ => noWord _
theorem NoWord.wingWrite : ∀ (c : Src) (page : Page) (x : BitVec 11) (data : Word) (mask : BitVec 4), NoWord.Statement (.wingWrite c page x data mask) := fun _ _ _ _ _ => noWord _
theorem NoWord.wingRead : ∀ (c : Src) (page : Page) (x : BitVec 11), NoWord.Statement (.wingRead c page x) := fun _ _ _ => noWord _
theorem NoWord.pageCtlWrite : ∀ (c : Src) (page : Page) (hold oos : Bool), NoWord.Statement (.pageCtlWrite c page hold oos) := fun _ _ _ _ => noWord _
theorem NoWord.evtRawClear : ∀ (c : Src) (page : Page) (bits : Word), NoWord.Statement (.evtRawClear c page bits) := fun _ _ _ => noWord _
theorem NoWord.violCounterWrite : ∀ (c : Src) (page : Page) (second : Bool) (data : Word), NoWord.Statement (.violCounterWrite c page second data) := fun _ _ _ _ => noWord _
theorem NoWord.twtWindowWrite : ∀ (c : Src) (window : BitVec 16), NoWord.Statement (.twtWindowWrite c window) := fun _ _ => noWord _
theorem NoWord.minClr : ∀ (c : Src), NoWord.Statement (.minClr c) := fun _ => noWord _
theorem NoWord.timeNowRead : ∀ (c : Src), NoWord.Statement (.timeNowRead c) := fun _ => noWord _
theorem NoWord.pllLocked : ∀ (g : Grp) (b : Bool) (band : BitVec 6), NoWord.Statement (.pllLocked g b band) := fun _ _ _ => noWord _
theorem NoWord.pllLossOfLock : ∀ (g : Grp) (b : Bool), NoWord.Statement (.pllLossOfLock g b) := fun _ _ => noWord _
theorem NoWord.pllHoldExpiry : ∀ (g : Grp) (b : Bool), NoWord.Statement (.pllHoldExpiry g b) := fun _ _ => noWord _
theorem NoWord.sigDetChange : ∀ (p : Path) (level : Bool), NoWord.Statement (.sigDetChange p level) := fun _ _ => noWord _
theorem NoWord.sweepDue : ∀ (p : Path), NoWord.Statement (.sweepDue p) := fun _ => noWord _
theorem NoWord.rotationStart : ∀ (p : Path), NoWord.Statement (.rotationStart p) := fun _ => noWord _
theorem NoWord.matchWindowEnd : ∀ (p : Path) (ofs gain skew : Byte), NoWord.Statement (.matchWindowEnd p ofs gain skew) := fun _ _ _ _ => noWord _
theorem NoWord.sliceReleaseEnd : ∀ (p : Path) (slice : BitVec 6) (ok : Bool) (ofs gain skew : Byte), NoWord.Statement (.sliceReleaseEnd p slice ok ofs gain skew) := fun _ _ _ _ _ _ => noWord _
theorem NoWord.swingForce : ∀ (c : Src) (p : Path), NoWord.Statement (.swingForce c p) := fun _ _ => noWord _
theorem NoWord.swingAbandon : ∀ (c : Src) (p : Path), NoWord.Statement (.swingAbandon c p) := fun _ _ => noWord _
theorem NoWord.cdrLockAcquire : ∀ (p : Path) (freqOfs : BitVec 16), NoWord.Statement (.cdrLockAcquire p freqOfs) := fun _ _ => noWord _
theorem NoWord.cdrLockLoss : ∀ (p : Path) (cut : Bool), NoWord.Statement (.cdrLockLoss p cut) := fun _ _ => noWord _
theorem NoWord.adaptUpdate : ∀ (p : Path) (v : AdaptVal), NoWord.Statement (.adaptUpdate p v) := fun _ _ => noWord _
theorem NoWord.captureStart : ∀ (c : Src) (p : Path), NoWord.Statement (.captureStart c p) := fun _ _ => noWord _
theorem NoWord.captureStop : ∀ (c : Src) (p : Path), NoWord.Statement (.captureStop c p) := fun _ _ => noWord _
theorem NoWord.captureEnd : ∀ (p : Path) (data : List Byte) (oldest : BitVec 9), NoWord.Statement (.captureEnd p data oldest) := fun _ _ _ => noWord _
theorem NoWord.trnRestart : ∀ (c : Src) (p : Path), NoWord.Statement (.trnRestart c p) := fun _ _ => noWord _
theorem NoWord.anPageReceived : ∀ (p : Path) (page : BitVec 48) (base err : Bool) (res : Option AnResult), NoWord.Statement (.anPageReceived p page base err res) := fun _ _ _ _ _ => noWord _
theorem NoWord.anSetupDone : ∀ (n : Lane), NoWord.Statement (.anSetupDone n) := fun _ => noWord _
theorem NoWord.anMaskWrite : ∀ (c : Src) (n : Lane) (mask : Word), NoWord.Statement (.anMaskWrite c n mask) := fun _ _ _ => noWord _
theorem NoWord.trainingFrameReceived : ∀ (p : Path) (f : TrnFrame), NoWord.Statement (.trainingFrameReceived p f) := fun _ _ => noWord _
theorem NoWord.requestAnswered : ∀ (p : Path), NoWord.Statement (.requestAnswered p) := fun _ => noWord _
theorem NoWord.requestNoAnswer : ∀ (p : Path), NoWord.Statement (.requestNoAnswer p) := fun _ => noWord _
theorem NoWord.localConvergence : ∀ (p : Path) (snr : BitVec 10), NoWord.Statement (.localConvergence p snr) := fun _ _ => noWord _
theorem NoWord.trainingTimeout : ∀ (p : Path), NoWord.Statement (.trainingTimeout p) := fun _ => noWord _
theorem NoWord.breakTimeElapsed : ∀ (p : Path), NoWord.Statement (.breakTimeElapsed p) := fun _ => noWord _
theorem NoWord.restartDelayElapsed : ∀ (p : Path), NoWord.Statement (.restartDelayElapsed p) := fun _ => noWord _
theorem NoWord.closingFramesSent : ∀ (p : Path), NoWord.Statement (.closingFramesSent p) := fun _ => noWord _
theorem NoWord.ignoredActivityCount : ∀ (p : Path), NoWord.Statement (.ignoredActivityCount p) := fun _ => noWord _
theorem NoWord.probeSample : ∀ (p : Path) (l : Word), NoWord.Statement (.probeSample p l) := fun _ _ => noWord _
theorem NoWord.probeWindowEnd : ∀ (p : Path) (fixed : BitVec 20), NoWord.Statement (.probeWindowEnd p fixed) := fun _ _ => noWord _
theorem NoWord.alignMark : NoWord.Statement (.alignMark) := noWord _
theorem NoWord.internalMark : NoWord.Statement (.internalMark) := noWord _
theorem NoWord.markMissing : NoWord.Statement (.markMissing) := noWord _
theorem NoWord.slewStep : ∀ (p : Path), NoWord.Statement (.slewStep p) := fun _ => noWord _
theorem NoWord.framingLockAcquired : ∀ (p : Path) (eth : BitVec 3) (find : Option WxFind), NoWord.Statement (.framingLockAcquired p eth find) := fun _ _ _ => noWord _
theorem NoWord.framingLockLost : ∀ (p : Path) (eth : BitVec 3) (cut : Bool), NoWord.Statement (.framingLockLost p eth cut) := fun _ _ _ => noWord _
theorem NoWord.converterLockChange : ∀ (p : Path) (which : Fin 3) (w : ConvSeen), NoWord.Statement (.converterLockChange p which w) := fun _ _ _ => noWord _
theorem NoWord.codewordProcessed : ∀ (p : Path) (w : Codeword), NoWord.Statement (.codewordProcessed p w) := fun _ _ => noWord _
theorem NoWord.ptpEventMessage : ∀ (p : Path) (fr : RxFrame), NoWord.Statement (.ptpEventMessage p fr) := fun _ _ => noWord _
theorem NoWord.counterSnapshot : ∀ (c : Src) (p : Path), NoWord.Statement (.counterSnapshot c p) := fun _ _ => noWord _
theorem NoWord.fecDegradeWindowEnd : ∀ (p : Path), NoWord.Statement (.fecDegradeWindowEnd p) := fun _ => noWord _
theorem NoWord.prbsCheckerLock : ∀ (p : Path), NoWord.Statement (.prbsCheckerLock p) := fun _ => noWord _
theorem NoWord.prbsCheckerLoss : ∀ (p : Path) (bits errs : Word), NoWord.Statement (.prbsCheckerLoss p bits errs) := fun _ _ _ => noWord _
theorem NoWord.fire : ∀ (c : Src) (p : Path), NoWord.Statement (.fire c p) := fun _ _ => noWord _
theorem NoWord.injectionDue : ∀ (p : Path), NoWord.Statement (.injectionDue p) := fun _ => noWord _
theorem NoWord.timeStep : ∀ (c : Src), NoWord.Statement (.timeStep c) := fun _ => noWord _
theorem NoWord.timeArm : ∀ (c : Src), NoWord.Statement (.timeArm c) := fun _ => noWord _
theorem NoWord.holdReq : ∀ (c : Src), NoWord.Statement (.holdReq c) := fun _ => noWord _
theorem NoWord.timeRateWrite : ∀ (c : Src) (rate : Word), NoWord.Statement (.timeRateWrite c rate) := fun _ _ => noWord _
theorem NoWord.timeUncWrite : ∀ (c : Src) (v : Word), NoWord.Statement (.timeUncWrite c v) := fun _ _ => noWord _
theorem NoWord.holdoverTimeout : NoWord.Statement (.holdoverTimeout) := noWord _
theorem NoWord.uncThresholdCrossed : NoWord.Statement (.uncThresholdCrossed) := noWord _
theorem NoWord.refclkLost : ∀ (r : Bool), NoWord.Statement (.refclkLost r) := fun _ => noWord _
theorem NoWord.refclkPresent : ∀ (r : Bool), NoWord.Statement (.refclkPresent r) := fun _ => noWord _
theorem NoWord.refclkStartupTimeout : NoWord.Statement (.refclkStartupTimeout) := noWord _
theorem NoWord.bridgeHandover : NoWord.Statement (.bridgeHandover) := noWord _
theorem NoWord.keepaliveReturn : NoWord.Statement (.keepaliveReturn) := noWord _
theorem NoWord.kaWindowEnd : NoWord.Statement (.kaWindowEnd) := noWord _
theorem NoWord.markCfgWrite : ∀ (c : Src) (period : Bool) (data : Word), NoWord.Statement (.markCfgWrite c period data) := fun _ _ _ => noWord _
theorem NoWord.ppsOutPulse : NoWord.Statement (.ppsOutPulse) := noWord _
theorem NoWord.ppsOutEnd : NoWord.Statement (.ppsOutEnd) := noWord _
theorem NoWord.ppsInEdge : NoWord.Statement (.ppsInEdge) := noWord _
theorem NoWord.frameExtract : ∀ (k : Port) (fr : RxFrame), NoWord.Statement (.frameExtract k fr) := fun _ _ => noWord _
theorem NoWord.txTailWrite : ∀ (c : Src) (k : Port) (tail : BitVec 6), NoWord.Statement (.txTailWrite c k tail) := fun _ _ _ => noWord _
theorem NoWord.frameFetch : ∀ (k : Port), NoWord.Statement (.frameFetch k) := fun _ => noWord _
theorem NoWord.frameInsert : ∀ (k : Port) (run : BitVec 16), NoWord.Statement (.frameInsert k run) := fun _ _ => noWord _
theorem NoWord.frameDeadlineExpiry : ∀ (k : Port), NoWord.Statement (.frameDeadlineExpiry k) := fun _ => noWord _
theorem NoWord.portDisable : ∀ (c : Src) (k : Port), NoWord.Statement (.portDisable c k) := fun _ _ => noWord _
theorem NoWord.umatanRequest : ∀ (k : Port), NoWord.Statement (.umatanRequest k) := fun _ => noWord _
theorem NoWord.umatanResponseQueued : ∀ (k : Port), NoWord.Statement (.umatanResponseQueued k) := fun _ => noWord _
theorem NoWord.sessionTimeout : ∀ (place : Fin 8), NoWord.Statement (.sessionTimeout place) := fun _ => noWord _
theorem NoWord.openStore : ∀ (c : Src) (scene : BitVec 10) (base : BitVec 15), NoWord.Statement (.openStore c scene base) := fun _ _ _ => noWord _
theorem NoWord.openCommit : ∀ (c : Src), NoWord.Statement (.openCommit c) := fun _ => noWord _
theorem NoWord.openDiscard : ∀ (c : Src), NoWord.Statement (.openDiscard c) := fun _ => noWord _
theorem NoWord.storeCopyEnd : NoWord.Statement (.storeCopyEnd) := noWord _
theorem NoWord.sceneDescWrite : ∀ (c : Src) (base : BitVec 15) (len : BitVec 9), NoWord.Statement (.sceneDescWrite c base len) := fun _ _ _ => noWord _
theorem NoWord.sceneValidate : NoWord.Statement (.sceneValidate) := noWord _
theorem NoWord.deferredResume : NoWord.Statement (.deferredResume) := noWord _
theorem NoWord.sceneCommit : ∀ (j : Job), NoWord.Statement (.sceneCommit j) := fun _ => noWord _
theorem NoWord.cueArm : ∀ (c : Src) (cue : BitVec 12), NoWord.Statement (.cueArm c cue) := fun _ _ => noWord _
theorem NoWord.cueDisarm : ∀ (c : Src) (cue : BitVec 12), NoWord.Statement (.cueDisarm c cue) := fun _ _ => noWord _
theorem NoWord.load : ∀ (c : Src) (e : Eng) (slot : Bool), NoWord.Statement (.load c e slot) := fun _ _ _ => noWord _
theorem NoWord.start : ∀ (c : Src) (e : Eng), NoWord.Statement (.start c e) := fun _ _ => noWord _
theorem NoWord.stop : ∀ (c : Src) (e : Eng), NoWord.Statement (.stop c e) := fun _ _ => noWord _
theorem NoWord.loadDone : ∀ (e : Eng), NoWord.Statement (.loadDone e) := fun _ => noWord _
theorem NoWord.engineReady : ∀ (e : Eng), NoWord.Statement (.engineReady e) := fun _ => noWord _
theorem NoWord.cmdqAppend : ∀ (c : Src) (e : Eng) (quad : Bool) (data : BitVec 128), NoWord.Statement (.cmdqAppend c e quad data) := fun _ _ _ _ => noWord _
theorem NoWord.rspqRead : ∀ (c : Src) (e : Eng), NoWord.Statement (.rspqRead c e) := fun _ _ => noWord _
theorem NoWord.ping : ∀ (e : Eng), NoWord.Statement (.ping e) := fun _ => noWord _
theorem NoWord.ctleSearch : ∀ (e : Eng), NoWord.Statement (.ctleSearch e) := fun _ => noWord _
theorem NoWord.eyeScan : ∀ (e : Eng), NoWord.Statement (.eyeScan e) := fun _ => noWord _
theorem NoWord.sweep : ∀ (e : Eng), NoWord.Statement (.sweep e) := fun _ => noWord _
theorem NoWord.calRun : ∀ (e : Eng), NoWord.Statement (.calRun e) := fun _ => noWord _
theorem NoWord.abortCommand : ∀ (e : Eng), NoWord.Statement (.abortCommand e) := fun _ => noWord _
theorem NoWord.flush : ∀ (e : Eng), NoWord.Statement (.flush e) := fun _ => noWord _
theorem NoWord.checkpoint : ∀ (e : Eng) (size : BitVec 14), NoWord.Statement (.checkpoint e size) := fun _ _ => noWord _
theorem NoWord.longCommandEnd : ∀ (e : Eng) (detail : BitVec 16) (r0 r1 : Word) (grid : List (BitVec 16)), NoWord.Statement (.longCommandEnd e detail r0 r1 grid) := fun _ _ _ _ _ => noWord _
theorem NoWord.migrationGo : ∀ (c : Src) (g : Grp) (target : BitVec 4), NoWord.Statement (.migrationGo c g target) := fun _ _ _ => noWord _
theorem NoWord.migrationSafePoint : ∀ (g : Grp), NoWord.Statement (.migrationSafePoint g) := fun _ => noWord _
theorem NoWord.migrationHandover : ∀ (g : Grp), NoWord.Statement (.migrationHandover g) := fun _ => noWord _
theorem NoWord.watchdogExpiry : ∀ (e : Eng), NoWord.Statement (.watchdogExpiry e) := fun _ => noWord _
theorem NoWord.imageFault : ∀ (e : Eng) (r0 r1 : Word), NoWord.Statement (.imageFault e r0 r1) := fun _ _ _ => noWord _
theorem NoWord.twinLinkUp : NoWord.Statement (.twinLinkUp) := noWord _
theorem NoWord.twinLinkLost : ∀ (lanes : BitVec 4) (message : Bool), NoWord.Statement (.twinLinkLost lanes message) := fun _ _ => noWord _
theorem NoWord.twinSendTimer : ∀ (item : BitVec 3), NoWord.Statement (.twinSendTimer item) := fun _ => noWord _
theorem NoWord.hello : ∀ (h : TwinHello) (resends : BitVec 2), NoWord.Statement (.hello h resends) := fun _ _ => noWord _
theorem NoWord.timeExchange : ∀ (d21 d43 : BitVec 64), NoWord.Statement (.timeExchange d21 d43) := fun _ _ => noWord _
theorem NoWord.pinReport : ∀ (p : Path) (meas held : Word) (st : BitVec 3), NoWord.Statement (.pinReport p meas held st) := fun _ _ _ _ => noWord _
theorem NoWord.configReport : ∀ (p : Path) (cfg : TwinCfg), NoWord.Statement (.configReport p cfg) := fun _ _ => noWord _
theorem NoWord.coefficientReport : ∀ (p : Path) (coef : TwinCoef), NoWord.Statement (.coefficientReport p coef) := fun _ _ => noWord _
theorem NoWord.mirrorOperation : ∀ (op : MirOp), NoWord.Statement (.mirrorOperation op) := fun _ => noWord _
theorem NoWord.mirCrc : ∀ (w : Word), NoWord.Statement (.mirCrc w) := fun _ => noWord _
theorem NoWord.bulkSyncDone : ∀ (r : MirRange), NoWord.Statement (.bulkSyncDone r) := fun _ => noWord _
theorem NoWord.hbLost : NoWord.Statement (.hbLost) := noWord _
theorem NoWord.heartbeatPresent : NoWord.Statement (.heartbeatPresent) := noWord _
theorem NoWord.promotionTimeout : NoWord.Statement (.promotionTimeout) := noWord _
theorem NoWord.timeTransferLost : NoWord.Statement (.timeTransferLost) := noWord _
theorem NoWord.req : ∀ (c : Src) (force : Bool), NoWord.Statement (.req c force) := fun _ _ => noWord _
theorem NoWord.confirm : ∀ (c : Src), NoWord.Statement (.confirm c) := fun _ => noWord _
theorem NoWord.cancel : ∀ (c : Src), NoWord.Statement (.cancel c) := fun _ => noWord _
theorem NoWord.reenter : ∀ (c : Src), NoWord.Statement (.reenter c) := fun _ => noWord _
theorem NoWord.replace : ∀ (c : Src), NoWord.Statement (.replace c) := fun _ => noWord _
theorem NoWord.reentryComplete : NoWord.Statement (.reentryComplete) := noWord _
theorem NoWord.reentryTimeout : NoWord.Statement (.reentryTimeout) := noWord _
theorem NoWord.twinCfgEnWrite : ∀ (c : Src) (v : Bool), NoWord.Statement (.twinCfgEnWrite c v) := fun _ _ => noWord _
theorem NoWord.inputGood : ∀ (b : Bool), NoWord.Statement (.inputGood b) := fun _ => noWord _
theorem NoWord.inputLost : ∀ (b : Bool), NoWord.Statement (.inputLost b) := fun _ => noWord _
theorem NoWord.returnDelayExpiry : NoWord.Statement (.returnDelayExpiry) := noWord _
theorem NoWord.forceBWrite : ∀ (c : Src) (v : Bool), NoWord.Statement (.forceBWrite c v) := fun _ _ => noWord _
theorem NoWord.railFault : ∀ (r : Fin 6), NoWord.Statement (.railFault r) := fun _ => noWord _
theorem NoWord.measure : ∀ (c : Src), NoWord.Statement (.measure c) := fun _ => noWord _
theorem NoWord.capacitanceTestDue : NoWord.Statement (.capacitanceTestDue) := noWord _
theorem NoWord.capacitanceTestEnd : ∀ (dvc dvd : BitVec 24) (reached : Bool), NoWord.Statement (.capacitanceTestEnd dvc dvd reached) := fun _ _ _ => noWord _
theorem NoWord.energyUpdate : ∀ (vina vinb pin hup : BitVec 16), NoWord.Statement (.energyUpdate vina vinb pin hup) := fun _ _ _ _ => noWord _
theorem NoWord.powerFailure : NoWord.Statement (.powerFailure) := noWord _
theorem NoWord.fallRecordWrite : ∀ (hup : BitVec 16), NoWord.Statement (.fallRecordWrite hup) := fun _ => noWord _
theorem NoWord.store : ∀ (c : Src) (region : BitVec 4), NoWord.Statement (.store c region) := fun _ _ => noWord _
theorem NoWord.read : ∀ (c : Src) (region : BitVec 4), NoWord.Statement (.read c region) := fun _ _ => noWord _
theorem NoWord.erase : ∀ (c : Src) (region : BitVec 4), NoWord.Statement (.erase c region) := fun _ _ => noWord _
theorem NoWord.program : ∀ (c : Src) (region : BitVec 4), NoWord.Statement (.program c region) := fun _ _ => noWord _
theorem NoWord.flashOperationEnd : ∀ (ok : Bool), NoWord.Statement (.flashOperationEnd ok) := fun _ => noWord _
theorem NoWord.reqRun : ∀ (c : Src) (g : Grp), NoWord.Statement (.reqRun c g) := fun _ _ => noWord _
theorem NoWord.reqIntermission : ∀ (c : Src) (g : Grp), NoWord.Statement (.reqIntermission c g) := fun _ _ => noWord _
theorem NoWord.reqOff : ∀ (c : Src) (g : Grp), NoWord.Statement (.reqOff c g) := fun _ _ => noWord _
theorem NoWord.transitionEnd : ∀ (g : Grp), NoWord.Statement (.transitionEnd g) := fun _ => noWord _
theorem NoWord.idleTimerExpiry : ∀ (g : Grp), NoWord.Statement (.idleTimerExpiry g) := fun _ => noWord _
theorem NoWord.wakeNow : ∀ (c : Src) (g : Grp), NoWord.Statement (.wakeNow c g) := fun _ _ => noWord _
theorem NoWord.dark : ∀ (c : Src) (key : Byte), NoWord.Statement (.dark c key) := fun _ _ => noWord _
theorem NoWord.darkReached : NoWord.Statement (.darkReached) := noWord _
theorem NoWord.darkWake : ∀ (porst : Bool), NoWord.Statement (.darkWake porst) := fun _ => noWord _
theorem NoWord.bandgapCompare : ∀ (diff : BitVec 16), NoWord.Statement (.bandgapCompare diff) := fun _ => noWord _
theorem NoWord.sensorMean : ∀ (i : Fin 9) (reading : BitVec 12) (twin : List (BitVec 3 × Byte × BitVec 16)), NoWord.Statement (.sensorMean i reading twin) := fun _ _ _ => noWord _
theorem NoWord.calCmdRun : ∀ (c : Src) (g : Grp), NoWord.Statement (.calCmdRun c g) := fun _ _ => noWord _
theorem NoWord.calPeriodExpiry : ∀ (g : Grp), NoWord.Statement (.calPeriodExpiry g) := fun _ => noWord _
theorem NoWord.pendingRunStart : ∀ (g : Grp), NoWord.Statement (.pendingRunStart g) := fun _ => noWord _
theorem NoWord.calBlockEnd : ∀ (g : Grp) (l : List CalRes), NoWord.Statement (.calBlockEnd g l) := fun _ _ => noWord _
theorem NoWord.apply : ∀ (c : Src) (g : Grp), NoWord.Statement (.apply c g) := fun _ _ => noWord _
theorem NoWord.calAbort : ∀ (c : Src) (g : Grp), NoWord.Statement (.calAbort c g) := fun _ _ => noWord _
theorem NoWord.rampStep : ∀ (g : Grp), NoWord.Statement (.rampStep g) := fun _ => noWord _
theorem NoWord.disruptiveRun : ∀ (c : Src) (g : Grp) (skew : Bool) (paths : BitVec 16), NoWord.Statement (.disruptiveRun c g skew paths) := fun _ _ _ _ => noWord _
theorem NoWord.disruptiveWindowEnd : ∀ (p : Path) (l : List SliceRes), NoWord.Statement (.disruptiveWindowEnd p l) := fun _ _ => noWord _
theorem NoWord.curtain : ∀ (c : Src) (force : Bool), NoWord.Statement (.curtain c force) := fun _ _ => noWord _
theorem NoWord.group : ∀ (c : Src) (target : BitVec 4) (force : Bool), NoWord.Statement (.group c target force) := fun _ _ _ => noWord _
theorem NoWord.engine : ∀ (c : Src) (target : BitVec 4), NoWord.Statement (.engine c target) := fun _ _ => noWord _
theorem NoWord.rehAbort : ∀ (c : Src), NoWord.Statement (.rehAbort c) := fun _ => noWord _
theorem NoWord.fuse : ∀ (c : Src), NoWord.Statement (.fuse c) := fun _ => noWord _
theorem NoWord.fuseSessionEnd : ∀ (bad : List (BitVec 8)), NoWord.Statement (.fuseSessionEnd bad) := fun _ => noWord _
theorem NoWord.rehTestEnd : ∀ (u : Option Grp) (t : Fin 16) (r : RehRes), NoWord.Statement (.rehTestEnd u t r) := fun _ _ _ => noWord _
theorem NoWord.rehRunClose : NoWord.Statement (.rehRunClose) := noWord _
theorem NoWord.ontimeMinute : NoWord.Statement (.ontimeMinute) := noWord _
theorem NoWord.write32 : ∀ (mode3 : Bool) (addr : BitVec 32), NoWord.Statement (.write32 mode3 addr) := fun _ _ => noWord _
theorem NoWord.read32 : ∀ (mode3 : Bool) (addr : BitVec 32) (full : Bool), NoWord.Statement (.read32 mode3 addr full) := fun _ _ _ => noWord _
theorem NoWord.write128 : ∀ (mode3 : Bool) (addr : BitVec 32), NoWord.Statement (.write128 mode3 addr) := fun _ _ => noWord _
theorem NoWord.read128 : ∀ (mode3 : Bool) (addr : BitVec 32) (full : Bool), NoWord.Statement (.read128 mode3 addr full) := fun _ _ _ => noWord _
theorem NoWord.status : ∀ (mode3 full : Bool), NoWord.Statement (.status mode3 full) := fun _ _ => noWord _
theorem NoWord.writeDataComplete : ∀ (data : BitVec 128), NoWord.Statement (.writeDataComplete data) := fun _ => noWord _
theorem NoWord.spiFrameFault : ∀ (f : SpiFault) (mode3 : Bool), NoWord.Statement (.spiFrameFault f mode3) := fun _ _ => noWord _
theorem NoWord.spiStallTimeout : NoWord.Statement (.spiStallTimeout) := noWord _
theorem NoWord.spiFlush : ∀ (c : Src), NoWord.Statement (.spiFlush c) := fun _ => noWord _
theorem NoWord.twtPointerSet : ∀ (p : BitVec 16), NoWord.Statement (.twtPointerSet p) := fun _ => noWord _
theorem NoWord.twtAddressRead : ∀ (tScl tLow : BitVec 16), NoWord.Statement (.twtAddressRead tScl tLow) := fun _ _ => noWord _
theorem NoWord.twtReadContinue : ∀ (tScl tLow : BitVec 16), NoWord.Statement (.twtReadContinue tScl tLow) := fun _ _ => noWord _
theorem NoWord.twtDataByte : ∀ (b : Byte), NoWord.Statement (.twtDataByte b) := fun _ => noWord _
theorem NoWord.twtBufferApply : NoWord.Statement (.twtBufferApply) := noWord _
theorem NoWord.twtStartStopFault : NoWord.Statement (.twtStartStopFault) := noWord _
theorem NoWord.twtTimeout : ∀ (k : TwtTmo), NoWord.Statement (.twtTimeout k) := fun _ => noWord _
theorem NoWord.prompt : NoWord.Statement (.prompt) := noWord _
theorem NoWord.promptAbandon : ∀ (mine : Bool), NoWord.Statement (.promptAbandon mine) := fun _ => noWord _
theorem NoWord.twcGo : ∀ (c : Src) (addr : BitVec 7) (rlen wlen : BitVec 6), NoWord.Statement (.twcGo c addr rlen wlen) := fun _ _ _ _ => noWord _
theorem NoWord.twcAbort : ∀ (c : Src), NoWord.Statement (.twcAbort c) := fun _ => noWord _
theorem NoWord.arbitrationLost : NoWord.Statement (.arbitrationLost) := noWord _
theorem NoWord.twcTimeout : ∀ (sda started : Bool), NoWord.Statement (.twcTimeout sda started) := fun _ _ => noWord _
theorem NoWord.twcTransactionEnd : ∀ (fin : TwcEnd) (read : List Byte), NoWord.Statement (.twcTransactionEnd fin read) := fun _ _ => noWord _
theorem NoWord.busRecovery : ∀ (freed : Bool), NoWord.Statement (.busRecovery freed) := fun _ => noWord _
theorem NoWord.vioLoss : NoWord.Statement (.vioLoss) := noWord _
theorem NoWord.vioReturn : NoWord.Statement (.vioReturn) := noWord _
theorem NoWord.eventInject : ∀ (c : Src) (page : Page) (bits : Word), NoWord.Statement (.eventInject c page bits) := fun _ _ _ => noWord _
theorem NoWord.violationInject : ∀ (c : Src) (page : Page) (kinds : BitVec 4), NoWord.Statement (.violationInject c page kinds) := fun _ _ _ => noWord _
theorem NoWord.injArm : ∀ (c : Src) (key : Byte) (sensor : BitVec 4) (arm : Bool), NoWord.Statement (.injArm c key sensor arm) := fun _ _ _ _ => noWord _
theorem NoWord.eccInject : ∀ (row : BitVec 10), NoWord.Statement (.eccInject row) := fun _ => noWord _
theorem NoWord.softEvent : ∀ (c : Src) (code : BitVec 16), NoWord.Statement (.softEvent c code) := fun _ _ => noWord _
theorem NoWord.pathReset : ∀ (c : Src) (p : Path), NoWord.Statement (.pathReset c p) := fun _ _ => noWord _
theorem NoWord.groupReset : ∀ (c : Src) (g : Grp), NoWord.Statement (.groupReset c g) := fun _ _ => noWord _
theorem NoWord.resetWaitEnd : NoWord.Statement (.resetWaitEnd) := noWord _
theorem NoWord.houseReset : ∀ (by_ : Option (Src × Byte)), NoWord.Statement (.houseReset by_) := fun _ => noWord _
theorem NoWord.houseResetEnd : NoWord.Statement (.houseResetEnd) := noWord _
theorem NoWord.fullReset : NoWord.Statement (.fullReset) := noWord _
theorem NoWord.startUp : ∀ (s0 s1 s2 : BitVec 4), NoWord.Statement (.startUp s0 s1 s2) := fun _ _ _ => noWord _
theorem NoWord.startUpReset : NoWord.Statement (.startUpReset) := noWord _
theorem NoWord.lanesReady : NoWord.Statement (.lanesReady) := noWord _
theorem NoWord.burnUm : ∀ (c : Src) (slot : BitVec 2), NoWord.Statement (.burnUm c slot) := fun _ _ => noWord _
theorem NoWord.revokeUm : ∀ (c : Src) (slot : BitVec 2), NoWord.Statement (.revokeUm c slot) := fun _ _ => noWord _
theorem NoWord.revokeImgkey : ∀ (c : Src) (slot : BitVec 2), NoWord.Statement (.revokeImgkey c slot) := fun _ _ => noWord _
theorem NoWord.raiseSvn : ∀ (c : Src) (value : Byte), NoWord.Statement (.raiseSvn c value) := fun _ _ => noWord _
theorem NoWord.keyOpEnd : ∀ (ok : Bool), NoWord.Statement (.keyOpEnd ok) := fun _ => noWord _
theorem NoWord.boundaryScanInstruction : NoWord.Statement (.boundaryScanInstruction) := noWord _
theorem NoWord.vkaLost : NoWord.Statement (.vkaLost) := noWord _
theorem NoWord.inputQualificationStart : ∀ (b : Bool), NoWord.Statement (.inputQualificationStart b) := fun _ => noWord _
theorem NoWord.pathOrGroupResetEnd : NoWord.Statement (.pathOrGroupResetEnd) := noWord _
theorem NoWord.engineHeartbeat : ∀ (e : Eng) (ckpt : Option (BitVec 14)), NoWord.Statement (.engineHeartbeat e ckpt) := fun _ _ => noWord _
theorem NoWord.firmwareNotice : ∀ (e : Eng) (r0 r1 : Word), NoWord.Statement (.firmwareNotice e r0 r1) := fun _ _ _ => noWord _
theorem NoWord.twtReadEnd : ∀ (whole : Bool), NoWord.Statement (.twtReadEnd whole) := fun _ => noWord _
theorem NoWord.sramEccError : ∀ (mac row : BitVec 10) (double : Bool) (reader : EccReader), NoWord.Statement (.sramEccError mac row double reader) := fun _ _ _ _ => noWord _

end Sys2Proof.Laws
end

