-- ==== Sys2Proof/Tests/Slice0.lean ====
section
/-!
SUPPORT. Tests/Slice0.lean: the WellFormed smoke tests, one-command tests against the manual, and a witness for the hypotheses of every
statement.
-/
namespace Sys2Proof.Machine

set_option linter.unusedVariables false
set_option Elab.async false

/-! ### States the tests and the witnesses are about -/

/-- A module in service whose fabric runs at 1,400 MHz, nothing else set. -/
def up : State := { State.reset.setF .house HouseR.FAB_SPEED_RATE 1400 with device := .ready }

/-- Likewise, with path `p` in service, both segments of its lane pair, its group owned by a running engine 0, and a signal in lock. -/
def upP (p : Path) : State :=
  (((((up.setF (ep 0) StageR.ENG_STAT_STATE 4).setF (gp (pathGrp p)) Hdr.OWNER 0).setF (pp p) Hdr.PAGE_CTL_OOS 0).setF
    (pp (otherPath p)) Hdr.PAGE_CTL_OOS 0).setF (pp p) PathR.RX_STAT_SD 1).setF (pp p) PathR.RX_STAT_CDR_LOCK 1

/-- A resolution at 5 kBd. -/
def anRes : AnResult := { hcd := 3, kbd := 5, pam4 := false, phy := 0, fec := 0 }

/-- A module whose lane pair 9 has resolved and whose PLL A gives 5 kBd, with the set-up scene's values already in place. -/
def anUp : State :=
  let s := (((((upP 9).setF .time TimeR.REF0_FREQ_FREQ 1000).setF (gp 1) GroupR.PLLA_CFG_N 5).setF (gp 1) (pllEnFld false) 1).setF
    (gp 1) (pllLockFld false) 1).setF (pp 9) PathR.TRN_STAT_STATE 3
  let s := s.modSeg 9 (fun x => { x with setup := some anRes })
  (s.anScene 9 anRes (false, 0)).foldl (fun s e => s.wr e.1 e.2) s

/-- A module of whose paths only `p` has not been placed, its lane pair in profile `k`. -/
def unplaced (p : Path) (k : Nat) : State :=
  let s := allPaths.foldl (fun s q => s.modPath q (fun x => { x with record := q != p })) (upP p)
  (s.setF (pp (pathAB (laneOf p))) PathR.PROF_CFG_PROFILE k).setF (pp (pathBA (laneOf p))) PathR.PROF_CFG_PROFILE k

/-- A module whose port 3 is enabled and bound to the framed path 9 in both directions. -/
def portUp : State :=
  ((((((upP 9).setF (pp 9) PathR.PROF_CFG_PROFILE 3).setF (pp 9) PathR.PROF_CFG_PHY 2).setF (pp 9) PathR.PROF_STAT_FRM 2).setF
    .frame (FrameR.PORT_CTL_EN 3) 1).setF (gp 1) (pllEnFld false) 1).setF (gp 1) (pllLockFld false) 1
  |>.setF (pp 9) PathR.FP_BIND_INS_EN 1 |>.setF (pp 9) PathR.FP_BIND_INS_PORT 3
  |>.setF (pp 9) PathR.FP_BIND_EXT_EN 1 |>.setF (pp 9) PathR.FP_BIND_EXT_PORT 3
  |>.modPath 9 (fun x => { x with placed := true })

/-- A request whose answers are all there. -/
def umTx : UmTxn := { sess := 0, num := 1, key := [], eth := List.replicate 14 0, seq := 1, answers := [] }

/-- An empty request of session 1, its frame, and a session-open request of key slot 0. -/
def umMsg : List Byte := [0x10, 0, 0, 1, 0, 0, 0, 1, 0, 0, 0, 0]
def umReqWit : UmReq := ⟨List.replicate 12 0 ++ [0x12, 0x34], umMsg, umTag [] umMsg⟩
def umFrameWit : RxFrame := { bytes := umReqWit.eth ++ umMsg ++ umTag [] umMsg }
def umOpenMsg : List Byte := [0x10, 0, 0, 0, 0, 0, 0, 0, 0, 16, 0, 0] ++ List.replicate 16 7
def umOpenWit : UmReq := ⟨List.replicate 12 0 ++ [0x12, 0x34], umOpenMsg, umTag [] umOpenMsg⟩
def umOpenFrame : RxFrame := { bytes := umOpenWit.eth ++ umOpenMsg ++ umTag [] umOpenMsg }
def umSessWit : SessSt := { place := 0, num := 1, slot := 0, key := [], at_ := 0 }

/-- A host commit staged and due: EVT_EN of path page 9. -/
def stagedJob : JobSt :=
  { job := .host, scene := 1023, phase := .staged, seq := 0, vals := [(pageAddr (.path 9) 0x014, 0x101)],
    masks := [(pageAddr (.path 9) 0x014, allOnes)], trig := some 0 }

/-- A command with tag 0 and no arguments. -/
def cmdWit (op target : Nat) : BitVec 128 := quadOf (BitVec.ofNat 32 (op * 2 ^ 24 + target * 2 ^ 8)) 0 0 0

/-- An EYE_SCAN of path 9 at the finest legal steps. -/
def eyeWit : BitVec 128 := quadOf (BitVec.ofNat 32 (0x20 * 2 ^ 24 + 9 * 2 ^ 8)) (BitVec.ofNat 32 (2 ^ 8 + 1)) 0 0

/-- Engine 8 runs, owns group 1 and has `q` at the head of its queue, `l` behind it. -/
def stageUp (q : BitVec 128) (l : List (BitVec 128)) : State :=
  (((upP 9).setF (ep 8) StageR.ENG_STAT_STATE 4).setF (gp 1) Hdr.OWNER 8).modEng 8 (fun x => { x with cmdq := q :: l })

/-- A CTLE_SEARCH of path 9 in progress. -/
def longWit : LongSt := { cmd := cmdWit 0x10 9, epoch := 0, startAt := 0, stamp := 0 }

/-- A module paired over an up link with the heartbeat present, in role `r`. -/
def paired (r : Nat) : State :=
  ((((up.setF .twin TwinR.TWIN_CFG_EN 1).setF .twin TwinR.LINK_STAT_LINK_UP 1).setF .twin TwinR.LINK_STAT_HB_OK 1).setF .twin
    TwinR.TWIN_STAT_STATE 2).setF .twin TwinR.TWIN_STAT_ROLE r

/-- A hello of the module with the other TWIN_ID. -/
def peerHello : TwinHello := { serial := 0x123456789ABCDEF0, id := true, role := 0, lead := false, half := false, sd := 2 }

/-- A paired module whose path 9 is pinned at 131072 units. -/
def pinnedPair : State := ((paired 2).setF (pp 9) PathR.PIN_STAT_STATE pinPinned).setF (pp 9) PathR.PIN_MEAS_MEAS 131072

/-- A paired lead with the lane pair of path `p` in service. -/
def pairIn (p : Path) : State := ((paired 1).setF (pp p) Hdr.PAGE_CTL_OOS 0).setF (pp (otherPath p)) Hdr.PAGE_CTL_OOS 0

/-- The configuration a twin reports when it is set as this module is, in service. -/
def ownConfig (s : State) (p : Path) : TwinCfg :=
  { prof := s.rd (pageAddr (pp p) 0x340), pam4 := vPam4 s.now p, vco := BitVec.ofNat 64 (s.fv p), div := 0,
    target := s.rd (pageAddr (pp p) 0x2C0), asym := s.rd (pageAddr (pp p) PathR.PTP_ASYM_ASYM.off), oos := false }
def peerConfig : TwinCfg := { ownConfig (pairIn 9) 9 with target := 77 }

/-- A module whose key bank is open and whose hold-up energy allows a fuse session. -/
def keyUp : State := (up.setF .sec SecR.SEC_STAT_GATED 0).setF .supply SupplyR.HUP_ENERGY_E_AVAIL 105

/-- Likewise, with image key 3 revoked, so that it may be revoked again whatever keys are present. -/
def revokedUp : State := keyUp.modSec (fun x => { x with imgRev := 8 })
theorem revokedUp_op : revokedUp.keyOpOk 3 0 ((3 : BitVec 2).toNat) = true := by
  have h : revokedUp.security.imgRev = 8 := rfl
  simp [State.keyOpOk, State.imgKeyOk, h]
theorem revokedUp_takes : revokedUp.keyTakes .spi 3 0 ((3 : BitVec 2).toNat) = true := by
  rw [State.keyTakes, State.keyWrite, revokedUp_op]; decide +kernel

/-- The session-open request verifies under key slot 0. -/
theorem umSlot_open (s : State) (h1 : s.gated = false) (h2 : s.security.loaded = [(0, [])]) (h3 : umState (s.umSlot 0) = 1) :
    s.umOpenSlot umOpenWit = some (0, []) := by
  have h : (umTag [] umOpenWit.msg == umOpenWit.tag) = true := beq_self_eq_true _
  simp [State.umOpenSlot, h1, h2, h3, h]

/-! ### Ill-formed commands are refused by WellFormed -/

theorem test_wf_slice : Instr.wf (.sliceReleaseEnd 0 34 true 0 0 0) = false := by decide
theorem test_wf_ffe : Instr.wf (.adaptUpdate 0 (.ffe (List.replicate 33 none))) = false := by decide
theorem test_wf_capture : Instr.wf (.captureEnd 0 [1] 0) = false := by decide
theorem test_wf_tap_low : TapReq.wf (.step 0 true) = false := by decide
theorem test_wf_tap_high :
    Instr.wf (.trainingFrameReceived 0 { ieeeReq := .step 7 true }) = false := by decide
theorem test_wf_ptp_frame : Instr.wf (.ptpEventMessage 0 { bytes := List.replicate 13 0 }) = false := by decide
theorem test_wf_rx_frame : Instr.wf (.frameExtract 0 { bytes := [] }) = false := by decide
theorem test_wf_grid : Instr.wf (.longCommandEnd 0 0 0 0 (List.replicate 16385 0)) = false := by
  simp only [Instr.wf, List.length_replicate]; decide
theorem test_wf_coef : Instr.wf (.coefficientReport 0 { ctle := 0, dfe := 0, fir0 := 0, fir1 := 0, ffe := [] }) = false := by decide
theorem test_wf_mir_write_none : MirOp.wf (.write 0x00400000 []) = false := by decide
theorem test_wf_mir_write_long : MirOp.wf (.write 0x00400000 (List.replicate 17 0)) = false := by decide
theorem test_wf_mir_desc : Instr.wf (.mirrorOperation (.desc 504 0 1)) = false := by decide
theorem test_wf_mir_arm : MirOp.wf (.arm 2048) = false := by decide
theorem test_wf_mir_disarm : MirOp.wf (.disarm 2048) = false := by decide
theorem test_wf_sync_desc : Instr.wf (.bulkSyncDone { cells := [], desc := [(504, 0, 1)], armed := [] }) = false := by decide
theorem test_wf_sync_armed : MirRange.wf { cells := [], desc := [], armed := [2048] } = false := by decide
theorem test_wf_sensor : Instr.wf (.sensorMean 8 0 (List.replicate 9 (0, 0, 0))) = false := by decide
theorem test_wf_cal_block :
    Instr.wf (.calBlockEnd 0 (List.replicate 17 { path := 0, ok := true, codes := 0 })) = false := by decide
theorem test_wf_disrupt_slice :
    Instr.wf (.disruptiveWindowEnd 0 [{ slice := 34, ok := true, ofs := 0, gain := 0, skew := 0 }]) = false := by decide
theorem test_wf_disrupt_length :
    Instr.wf (.disruptiveWindowEnd 0 (List.replicate 35 { slice := 0, ok := true, ofs := 0, gain := 0, skew := 0 })) = false := by decide
theorem test_wf_fuses : Instr.wf (.fuseSessionEnd (List.replicate 65 0)) = false := by decide
theorem test_wf_twc : Instr.wf (.twcTransactionEnd .done (List.replicate 33 0)) = false := by decide

/-! ### One command on a small state: expected values from the manual -/

/-- The next state of a command, as a test reads it. -/
def after (c : Instr) (s : State) : State :=
  match exec c s with
  | .next t => t
  | _ => s

/-- R36: VIOL_0 = 0xFFFF_0000 clears ACCESS and leaves TIMING. -/
theorem test_clear_one_counter :
    (after (.violCounterWrite .spi .supply false 0xFFFF0000) (up.wr (pageAddr .supply 0x020) 0x00070009)).rd (pageAddr .supply 0x020) =
      0x00070000 := by decide +kernel

/-- R5: a 1 clears a W1C bit, a 0 leaves it. -/
theorem test_w1c : (after (.evtRawClear .spi .twc 0x00010000) (up.wr (pageAddr .twc 0x010) 0x00030001)).rd (pageAddr .twc 0x010) =
    0x00020001 := by decide +kernel

/-- R5: a 1 written to an RO bit counts one ACCESS violation in the page and changes nothing. -/
theorem test_ro_write :
    (after (.registerWrite .spi (BitVec.ofNat 32 (pageAddr .spi 0x044)) 0xFFFFFFFF) up).f .spi Hdr.VIOL_0_ACCESS = 1 := by decide +kernel

/-- R453: a page counter saturates and the total goes on. -/
theorem test_viol_saturates :
    let t := after (.violationInject .spi .nvm 2) (up.wr (pageAddr .nvm 0x020) 0xFFFF0000)
    t.f .nvm Hdr.VIOL_0_TIMING = 0xFFFF ∧ t.f .house HouseR.VIOL_TOT_TIM_TIMING = 1 := by decide +kernel

/-- R310: a message that fails on four attempts has been sent again three times; RESENDS saturates. -/
theorem test_link_lost : (after (.twinLinkLost 0 true) ((paired 1).setF .twin TwinR.LINK_CNT_RESENDS 0xFFFE)).f .twin TwinR.LINK_CNT_RESENDS =
    0xFFFF := by decide +kernel

/-- R340: a rise of 0.4 V and a droop of 0.1 V give 50 mA × 4 ms / 0.5 V = 400 µF, 4,000 in 0.1 µF, which is in range. -/
theorem test_capacitance :
    let t := after (.capacitanceTestEnd 40000 10000 true) (up.modSupply (fun x => { x with testing := true }))
    t.f .supply SupplyR.HUP_CAP_CAP = 4000 ∧ t.f .supply SupplyR.HUP_CAP_RESULT = 1 := by decide +kernel

/-- R14, R15: a write in a device page costs 60, which 1,900 ns admit at 40 handshakes per µs (60.8) and not at 39 (59.28): then the
frame is turned away BUSY and writes nothing. -/
theorem test_spi_busy : (after (.write32 false 0x14) (up.setF .house HouseR.FAB_SPEED_RATE 39)).spi.open_ = none ∧
    (after (.write32 false 0x14) (up.setF .house HouseR.FAB_SPEED_RATE 40)).spi.open_.isSome = true := by decide +kernel

/-- A step takes the command at the front of the queue. -/
theorem test_step :
    (match step { up with pending := [.softEvent .spi 7, .alignMark] } with
     | .next t => (t.pending, t.evt .house 2, t.f .house HouseR.SOFT_EVT_CODE)
     | _ => ([], false, 0)) = ([.alignMark], true, 7) := by decide +kernel

/-- No row of the table gives bits. -/
theorem test_no_word : (State.reset.withFetchWord 32 0xFFFFFFFF).pending = [] := by decide

/-! ### The hypotheses of the general statements can be met -/

theorem witness_StepRunsFrontCommand : ∃ (c : Instr) (l : List Instr) (s : State), s.pending = c :: l :=
  ⟨.alignMark, [.softEvent .spi 7], { up with pending := [.alignMark, .softEvent .spi 7] }, rfl⟩

theorem witness_IdleStepTicks : ∃ s : State, s.pending = [] := ⟨up, rfl⟩

theorem witness_StepKeepsCanon : ∃ s t : State, s.Canon ∧ step s = .next t :=
  ⟨State.reset, State.reset.tick, by unfold State.Canon; decide +kernel, rfl⟩

theorem witness_StepKeepsLater : ∃ s t : State, step s = .next t := ⟨State.reset, State.reset.tick, rfl⟩

theorem witness_DirectWriteFollowsAccessCodes :
    (∃ r, r ∈ rowsAt .supply 0x048 ∧ r.acc = .ro) ∧ (∃ r, r ∈ rowsAt .twc 0x010 ∧ r.acc = .w1c) ∧
    (∃ r, r ∈ rowsAt .supply 0x020 ∧ r.acc = .cnt) ∧ (∃ r, r ∈ rowsAt .supply 0x028 ∧ r.acc = .w1s) ∧
    (∃ r, r ∈ rowsAt .supply 0x014 ∧ r.acc = .rw) ∧
    (∃ r, r ∈ rowsAt .time TimeR.REF0_FREQ_FREQ.off ∧ r.acc = .sc .refclk ∧ TimeR.REF0_FREQ_FREQ.off ≠ 0x008) := by
  decide +kernel

theorem witness_UnsupportedPageCtlBitIsIgnored : ∃ (c : Src) (p : Page) (hold oos : Bool) (s : State), isHost c = true ∧
    s.takes c p 0x008 (BitVec.ofNat 32 (2 * b2n hold + b2n oos)) allOnes = true ∧
    ((hold = true ∧ (BitVec.ofNat 32 (pageCap p)).getLsbD Hdr.PAGE_CAP_HOLD.lo = false) ∨
      (oos = true ∧ (BitVec.ofNat 32 (pageCap p)).getLsbD Hdr.PAGE_CAP_OOS.lo = false)) :=
  ⟨.spi, .house, true, true, up, by decide +kernel⟩

theorem witness_InjectedViolationsCount : ∃ (c : Src) (p : Page) (kinds : BitVec 4) (s : State),
    s.takes c p 0x028 (kinds.setWidth 32) allOnes = true ∧ kinds ≠ 0 ∧ ∃ k : Viol, kinds = BitVec.ofNat 4 (2 ^ violCode k) :=
  ⟨.twt, .path 127, 8, up, by decide +kernel, by decide, .consistency, by decide⟩

theorem witness_OverallRehearsalResult :
    (3 ∈ [1, 3, 4]) ∧ (3 ∉ [1, 2, 5] ∧ 5 ∈ [1, 2, 5]) ∧
    (3 ∉ [1, 2] ∧ 4 ∉ [1, 2] ∧ 6 ∉ [1, 2] ∧ 5 ∉ [1, 2] ∧ 2 ∈ [1, 2]) ∧
    (3 ∉ ([] : List Nat) ∧ 4 ∉ ([] : List Nat) ∧ 6 ∉ ([] : List Nat) ∧ 5 ∉ ([] : List Nat) ∧ 2 ∉ ([] : List Nat)) := by
  decide

theorem witness_ProgramOnlyClearsBits : ∃ (s : State) (k : Nat), s.flash.cut = [] ∧ k < [(0xA5 : Byte)].length :=
  ⟨up, 0, rfl, by decide⟩

/-- A record of type 4 with an empty payload in slot 1 of its region, and none in slot 2. -/
theorem witness_StoreKeepsActiveRecord : ∃ (s : State) (r a : Nat) (l : List Byte), 3 ≤ r ∧ r ≤ 6 ∧
    (s.activeSlot r = 1 ∨ s.activeSlot r = 2) ∧ l.length ≤ slotSize r ∧ a < slotSize r :=
  ⟨up.setActive 4 1, 4, 0, [0x52], by decide, by decide, .inl (by decide +kernel), by decide, by decide⟩

/-- The hypotheses of the frames can be met: a time-out in ACQUIRE, a frame that is not valid without frame lock, and a port with a
fetched frame, with a posted one, and with none. -/
theorem witness_PathFrame : (∃ (p : Path) (s : State), s.sg p ≠ sgInit ∧ s.sg p ≠ sgExch ∧ s.sg p = sgAcquire) ∧
    ∃ (p : Path) (f : TrnFrame) (s : State), s.frameValid p f = false ∧ s.on (pp p) PathR.TRN_STAT_FRAME_LOCK = false ∧
      s.sg p = sgExch :=
  ⟨⟨9, up.setF (pp 9) PathR.TRN_STAT_STATE 11, by decide +kernel⟩,
    ⟨9, { absent := true }, (up.setF (pp 9) PathR.PROF_CFG_PROFILE 2).setF (pp 9) PathR.TRN_STAT_STATE 5, by decide +kernel⟩⟩

theorem witness_StoreFrame : (∃ (k : Port) (x : Bool × Nat) (s : State), (s.port k).next = some x) ∧
    (∃ (k : Port) (s : State), (s.port k).next = none ∧ (s.port k).next.or (s.portNext k) = none) ∧
    ∃ (k : Port) (x : Bool × Nat) (s : State), (s.port k).next = none ∧ (s.port k).next.or (s.portNext k) = some x :=
  ⟨⟨3, (false, 63), portUp.setPort 3 { portUp.port 3 with next := some (false, 63) }, by decide +kernel⟩,
    ⟨3, up, by decide +kernel⟩,
    ⟨3, (false, 0), (portUp.setF .frame (FrameR.TX_IDX_TX_HEAD 3) 0).setF .frame (FrameR.TX_IDX_TX_TAIL 3) 1, by decide +kernel⟩⟩

/-- The hypotheses of WxFrameIsReadBack, at both values of control bit 31, and of OutputLandsAfterFullReset can be met. -/
theorem witness_WxFrameIsReadBack : ∃ c d : Word, c.getLsbD 31 = false ∧ d.getLsbD 31 = true :=
  ⟨0x7FFFFFFF, 0x80000000, by decide, by decide⟩

theorem witness_OutputLandsAfterFullReset :
    (∃ s : State, (s.device = .ready ∨ s.device = .starting) ∧ s.land.vio = true) ∧ ∃ s : State, s.land.vio = false :=
  ⟨⟨up, .inl rfl, rfl⟩, { up with land := { up.land with vio := false } }, rfl⟩

/-! ### The hypotheses of the completion statements can be met, clause by clause -/

/-- The hypotheses of each clause of AccessQueueCommandsComplete can be met. -/
theorem witness_AccessQueueCommandsComplete :
    (∃ (rate : BitVec 16) (s : State),
      s.houseOn = true) ∧
    (∃ (x : Access) (l : List Access) (p : Page) (s : State),
      s.access = x :: l ∧ x.kind = .write32 ∧ x.src = .spi ∧ x.addr = BitVec.ofNat 32 (pageAddr p 0x014) ∧ x.mask = 0xF#16 ∧
      s.noWrite .spi p 0x014 (x.data.setWidth 32) = none) ∧
    (∃ (c : Src) (p : Page) (s : State),
      s.closedToAll = false ∧ s.openLen (srcScene c) = 0) ∧
    (∃ (c : Src) (s : State),
      s.takesF c .house HouseR.FAB_CTL_MIN_CLR 1 = true) ∧
    (∃ (c : Src) (s : State),
      s.closedToAll = false ∧ s.busyOf .time ≠ .rehearsal) :=
  ⟨⟨700#16, up.setF .house HouseR.FAB_SPEED_RATE_MIN 750, by decide +kernel⟩,
    ⟨{ src := .spi, kind := .write32, addr := BitVec.ofNat 32 (pageAddr (.path 127) 0x014), data := 0x80000001#128, mask := 0xF#16, cost := 1 }, [], .path 127, { up with access := [{ src := .spi, kind := .write32, addr := BitVec.ofNat 32 (pageAddr (.path 127) 0x014), data := 0x80000001#128, mask := 0xF#16, cost := 1 }] }, by decide +kernel⟩,
    ⟨.um 7, .house, up.wr (pageAddr .house 0x014) 77#32, by decide +kernel⟩,
    ⟨.spi, up.setF .house HouseR.FAB_SPEED_RATE 900, by decide +kernel⟩,
    ⟨.um 3, { up with time := { up.time with tb := 123456789012345678901234567890 } }, by decide +kernel⟩⟩

/-- The hypotheses of each clause of RegisterWriteCommandsComplete can be met. -/
theorem witness_RegisterWriteCommandsComplete :
    (∃ (c : Src) (p : Page) (data : Word) (s : State),
      s.takes c p 0x014 data allOnes = true) ∧
    (∃ (c : Src) (p : Page) (x : BitVec 11) (data : Word) (m : BitVec 4) (s : State),
      s.closedToAll = false ∧ s.wordRefused c (pageAddr p (0x800 + x.toNat)) = false ∧ x.toNat % 4 = 0 ∧ 0x40 ≤ x.toNat ∧
      s.openLen (srcScene c) < 256) ∧
    (∃ (c : Src) (q : Path) (hold oos : Bool) (s : State),
      s.takes c (pp q) 0x008 (BitVec.ofNat 32 (2 * b2n hold + b2n oos)) allOnes = true) ∧
    (∃ (c : Src) (p : Page) (bits : Word) (s : State),
      s.takes c p 0x010 bits allOnes = true) ∧
    (∃ (c : Src) (p : Page) (second : Bool) (data : Word) (s : State),
      s.takes c p (if second then 0x024 else 0x020) data allOnes = true) ∧
    (∃ (c : Src) (w : BitVec 16) (s : State),
      s.takes c .house 0x054 (w.setWidth 32) allOnes = true) :=
  ⟨⟨.twt, .stage 8, 0xFFFFFFFF#32, up, by decide +kernel⟩,
    ⟨.eng 8, .path 5, 0x7FC#11, 5#32, 0xF#4, { up with scene := { up.scene with openLen := [(openScene (some 8), 255)] } }, by decide +kernel⟩,
    ⟨.spi, 127, true, true, up, by decide +kernel⟩,
    ⟨.spi, .cue, 0x10001#32, up.wr (pageAddr .cue 0x010) 0x10003#32, by decide +kernel⟩,
    ⟨.spi, .cue, false, 0xFFFF0000#32, up.wr (pageAddr .cue 0x020) 0x00070009#32, by decide +kernel⟩,
    ⟨.twt, 0xFFFF#16, up, by decide +kernel⟩⟩

/-- The hypotheses of each clause of PllAndLockCommandsComplete can be met. -/
theorem witness_PllAndLockCommandsComplete :
    (∃ (g : Grp) (b : Bool) (band : BitVec 6) (s : State),
      s.on (gp g) (pllEnFld b) = true ∧ s.pllsRun g = true ∧ s.refOk s.refSel = true ∧ s.pllLock g b = false ∧
      s.busyOf (gp g) ≠ .rehearsal) ∧
    (∃ (g : Grp) (b : Bool) (s : State),
      s.pllLock g b = true ∧ s.on (gp g) (pllEnFld b) = true ∧ s.busyOf (gp g) ≠ .rehearsal) ∧
    (∃ (g : Grp) (b : Bool) (s : State),
      s.on (gp g) (pllHoldFld b) = true ∧ s.busyOf (gp g) ≠ .rehearsal) ∧
    (∃ (p : Path) (s : State),
      s.sd p = true ∧ s.sdEvaluated p = true) ∧
    (∃ (p : Path) (ofs : BitVec 16) (s : State),
      s.lock p = false ∧ s.sd p = true ∧ s.noCdr p = false ∧ s.pathPll p = true ∧ s.cdrHeld p = false) ∧
    (∃ (p : Path) (cut : Bool) (s : State),
      s.lock p = true) :=
  ⟨⟨7, true, 63#6, (((up.setF (gp 7) (pllEnFld true) 1).setF .time TimeR.REF_STAT_REF0_OK 1).setF (gp 7) (pllLockFld true) 0).setRelock 7 true true, by decide +kernel⟩,
    ⟨0, false, (up.setF (gp 0) (pllEnFld false) 1).setF (gp 0) (pllLockFld false) 1, by decide +kernel⟩,
    ⟨3, true, up.setF (gp 3) (pllHoldFld true) 1, by decide +kernel⟩,
    ⟨64, up.setF (pp 64) PathR.RX_STAT_SD 1, by decide +kernel⟩,
    ⟨9, 7000#16, ((upP 9).setF (pp 9) PathR.RX_STAT_CDR_LOCK 0).setF (gp 1) (pllLockFld false) 1, by decide +kernel⟩,
    ⟨9, true, up.setF (pp 9) PathR.RX_STAT_CDR_LOCK 1, by decide +kernel⟩⟩

/-- The hypotheses of each clause of SwingCommandsComplete can be met. -/
theorem witness_SwingCommandsComplete :
    (∃ (p : Path) (s : State),
      s.f (pp p) PathR.SWING_STAT_AVAIL ≠ 0 ∧ s.on (pp p) PathR.SWING_CTL_ROT_EN = true ∧ s.on .cal CalR.CAL_STAT_SUSPENDED = false) ∧
    (∃ (p : Path) (s : State),
      s.scanning p = false ∧ s.rotAllowed p = true ∧ s.swingFree p (1 - (s.path p).rotSlot) = true) ∧
    (∃ (p : Path) (ofs gain skew : Byte) (s : State),
      s.rotating p = true) ∧
    (∃ (p : Path) (k : BitVec 6) (ok : Bool) (ofs gain skew : Byte) (s : State),
      (s.path p).rel.contains k.toNat = true ∧ s.on .cal CalR.CAL_STAT_SUSPENDED = false) ∧
    (∃ (c : Src) (p : Path) (s : State),
      s.takesF c (pp p) PathR.SWING_CTL_FORCE 1 = true ∧ s.rot p = 5) ∧
    (∃ (c : Src) (p : Path) (s : State),
      s.takesF c (pp p) PathR.SWING_CTL_ABANDON 1 = true ∧ s.rotating p = true ∧ s.busyOf (pp p) ≠ .rehearsal) :=
  ⟨⟨127, up, by decide +kernel⟩,
    ⟨0, (upP 0).modPath 0 (fun x => { x with sweep := true, sweepNext := 31 }), by decide +kernel⟩,
    ⟨9, 4#8, 252#8, 15#8, up.setF (pp 9) PathR.SWING_STAT_ROT_STATE 2, by decide +kernel⟩,
    ⟨9, 33#6, true, 1#8, 1#8, 1#8, up.modPath 9 (fun x => { x with rel := [5, 33] }), by decide +kernel⟩,
    ⟨.spi, 9, up.setF (pp 9) PathR.SWING_STAT_ROT_STATE 5, by decide +kernel⟩,
    ⟨.eng 2, 9, (((upP 9).setF (pp 9) PathR.SWING_STAT_ROT_STATE 5).setF (ep 2) StageR.ENG_STAT_STATE 4).setF (gp 1) Hdr.OWNER 2, by decide +kernel⟩⟩

/-- The hypotheses of each clause of AdaptAndCaptureCommandsComplete can be met. -/
theorem witness_AdaptAndCaptureCommandsComplete :
    (∃ (p : Path) (l3 l2 l1 l0 : Byte) (s : State),
      s.frozen p .lvl = false) ∧
    (∃ (p : Path) (peak pole vga : Option Bool) (s : State),
      s.frozen p .ctle = false ∧ s.frozen p .vga = false) ∧
    (∃ (c : Src) (p : Path) (s : State),
      s.takesF c (pp p) PathR.CAP_CTL_START 1 = true ∧ (s.grp (pathGrp p)).cap = none) ∧
    (∃ (c : Src) (p : Path) (s : State),
      s.takesF c (pp p) PathR.CAP_CTL_STOP 1 = true ∧ s.capOn p = true) ∧
    (∃ (p : Path) (data : List Byte) (oldest : BitVec 9) (s : State),
      s.f (pp p) PathR.CAP_STAT_STATE = 2 ∧ s.capOver p data = true ∧ data.length ≤ 128 * s.capLen p ∧ s.busyOf (pp p) ≠ .rehearsal) :=
  ⟨⟨9, 200#8, 150#8, 100#8, 50#8, upP 9, by decide +kernel⟩,
    ⟨9, some true, none, some false, upP 9, by decide +kernel⟩,
    ⟨.spi, 127, up.setF (pp 127) PathR.CAP_CTL_TRIG 1, by decide +kernel⟩,
    ⟨.spi, 127, up.setF (pp 127) PathR.CAP_STAT_STATE 2, by decide +kernel⟩,
    ⟨127, List.replicate 128 0xA5#8, 0#9, (up.setF (pp 127) PathR.CAP_STAT_STATE 2).setF (pp 127) PathR.CAP_CTL_LEN 1, by decide +kernel⟩⟩

/-- The hypotheses of each clause of AutonegCommandsComplete can be met. -/
theorem witness_AutonegCommandsComplete :
    (∃ (c : Src) (p : Path) (s : State),
      s.takesF c (pp p) PathR.TRN_CTL_RESTART 1 = true ∧ s.sg (pathAB (laneOf p)) ≠ sgDisabled ∧
      s.sg (pathBA (laneOf p)) ≠ sgDisabled) ∧
    (∃ (p : Path) (page : BitVec 48) (base : Bool) (s : State),
      s.sg p = sgRelay) ∧
    (∃ (p : Path) (page : BitVec 48) (base : Bool) (res : Option AnResult) (s : State),
      s.sg p = sgRelay) ∧
    (∃ (n : Lane) (r : AnResult) (b : Bool) (k : Nat) (s : State),
      (s.seg (pathAB n)).setup = some r ∧ s.sg (pathAB n) = sgSetup ∧ s.inHold (pp (pathAB n)) = false ∧
      s.anChoose (pathGrp (pathAB n)) r.kbd.toNat = some (b, k) ∧ (s.anScene n r (b, k)).all (fun e => s.rd e.1 == e.2) = true ∧
      s.pathPll (pathAB n) = true) ∧
    (∃ (c : Src) (n : Lane) (mask : Word) (s : State),
      s.takes c (pp (pathAB n)) 0x210 mask allOnes = true) :=
  ⟨⟨.spi, 73, ((upP 73).setF (pp 73) PathR.TRN_STAT_STATE 9).setF (pp 9) PathR.TRN_STAT_STATE 9, by decide +kernel⟩,
    ⟨73, 0xFFFFFFFFFFFF#48, true, (upP 73).setF (pp 73) PathR.TRN_STAT_STATE 2, by decide +kernel⟩,
    ⟨73, 1#48, true, none, (upP 73).setF (pp 73) PathR.TRN_STAT_STATE 2, by decide +kernel⟩,
    ⟨9, anRes, false, 0, anUp, by decide +kernel⟩,
    ⟨.spi, 63, 5#32, up.wr (pageAddr (pp 63) 0x218) 9, by decide +kernel⟩⟩

/-- The hypotheses of each clause of TrainingCommandsComplete can be met. -/
theorem witness_TrainingCommandsComplete :
    (∃ (p : Path) (f : TrnFrame) (s : State),
      4 ≤ s.sg p ∧ s.sg p ≤ 8 ∧ s.method p = 2 ∧ f.gap = 4096 ∧ (s.frameIn p f).valid = true ∧ s.idMismatch p f = false) ∧
    (∃ (p : Path) (f : TrnFrame) (s : State),
      4 ≤ s.sg p ∧ s.sg p ≤ 8 ∧ s.method p = 2 ∧ (s.frameIn p f).absent = false ∧ (s.frameIn p f).coded = false ∧
      (s.seg p).badRun < 3) ∧
    (∃ (p : Path) (resp seq : Nat) (s : State),
      (s.seg p).req = some (resp, seq) ∧ s.trnHeld p = false) ∧
    (∃ (p : Path) (s : State),
      s.sg p = sgExch ∧ (s.seg p).modReq.isSome = true ∧ s.trnHeld p = false) ∧
    (∃ (p : Path) (snr : BitVec 10) (s : State),
      (s.sg p = sgInit ∨ s.sg p = sgExch ∨ s.sg p = sgAcquire) ∧ s.lock p = true ∧ s.trnHeld p = false ∧ s.snrMin p ≤ snr.toNat) ∧
    (∃ (p : Path) (s : State),
      s.on (pp p) PathR.TRN_STAT_LOCAL_DONE = false ∧ (s.sg p = sgInit ∨ s.sg p = sgExch)) ∧
    (∃ (p : Path) (s : State),
      s.sg p = sgBreak ∧ s.disabling (laneOf p) = false ∧ s.sd p = false ∧ s.sd (otherPath p) = false) ∧
    (∃ (p : Path) (s : State),
      s.sg p = sgFailed ∧ s.on (pp (pathAB (laneOf p))) PathR.TRN_PAIR_AUTO_RESTART = true ∧ s.inHold (pp p) = false ∧
      s.disabling (laneOf p) = false ∧ s.sd p = false ∧ s.sd (otherPath p) = false) ∧
    (∃ (p : Path) (s : State),
      s.sg p = sgEnding ∧ (s.method p ≠ 2 ∨ (s.seg p).closing = 1) ∧ s.disabling (laneOf p) = false) ∧
    (∃ (p : Path) (s : State),
      s.device = .ready ∧ s.disabling (laneOf p) = true) :=
  ⟨⟨9, { wx := wxHead 0x10000000 0x80000000 }, ((upP 9).setF (pp 9) PathR.TRN_STAT_STATE 4).setF (pp 9) PathR.PROF_CFG_PROFILE 2, by decide +kernel⟩,
    ⟨9, { wx := wxMarkerSyms ++ [0, 0, 0, 0, 3] }, ((upP 9).setF (pp 9) PathR.TRN_STAT_STATE 4).setF (pp 9) PathR.PROF_CFG_PROFILE 2, by decide +kernel⟩,
    ⟨127, 2, 255, (upP 127).modSeg 127 (fun x => { x with req := some (2, 255) }), by decide +kernel⟩,
    ⟨127, ((upP 127).modSeg 127 (fun x => { x with modReq := some 2 })).setF (pp 127) PathR.TRN_STAT_STATE 5, by decide +kernel⟩,
    ⟨9, 1023#10, (upP 9).setF (pp 9) PathR.TRN_STAT_STATE 11, by decide +kernel⟩,
    ⟨9, (upP 9).setF (pp 9) PathR.TRN_STAT_STATE 5, by decide +kernel⟩,
    ⟨9, ((upP 9).setF (pp 9) PathR.TRN_STAT_STATE 12).setF (pp 9) PathR.RX_STAT_SD 0, by decide +kernel⟩,
    ⟨9, (((upP 9).setF (pp 9) PathR.TRN_STAT_STATE 10).setF (pp 9) PathR.RX_STAT_SD 0).setF (pp 9) PathR.TRN_PAIR_AUTO_RESTART 1, by decide +kernel⟩,
    ⟨9, (upP 9).setF (pp 9) PathR.TRN_STAT_STATE 8, by decide +kernel⟩,
    ⟨127, up, by decide +kernel⟩⟩

/-- The hypotheses of each clause of PinningCommandsComplete can be met. -/
theorem witness_PinningCommandsComplete :
    (∃ (p : Path) (l : Word) (s : State),
      s.pin p ≠ pinIdle ∧ (s.path p).pause = 0 ∧ (s.path p).samples < 256 ∧ (s.path p).adjMoved = false) ∧
    (∃ (p : Path) (fixed : BitVec 20) (s : State),
      s.pin p ≠ pinIdle ∧ (s.path p).pause = 0 ∧ (s.path p).samples = 256) ∧
    (∃ (s : State),
      (s.time.newGrid = true ∨ s.markMode = 1 ∨ (s.markMode = 0 ∧ (s.time.expect = none ∨ s.time.expect = some s.time.refCount))) ∧
      s.markMode ≠ 2) ∧
    (∃ (e : Nat) (s : State),
      s.time.expect = some e ∧ s.markMode ≠ 0) ∧
    (∃ (e : Nat) (s : State),
      s.time.expect = some e ∧ s.markMode = 0) ∧
    (∃ (p : Path) (s : State),
      s.pin p = pinSlewing ∧ (s.path p).slewLeft ≠ 0 ∧ s.on (pp p) PathR.PIN_CTL_FRZ = false) :=
  ⟨⟨127, 77#32, (up.setF (pp 127) PathR.PIN_STAT_STATE 3).modPath 127 (fun x => { x with samples := 255, pause := 0 }), by decide +kernel⟩,
    ⟨127, 77#20, (up.setF (pp 127) PathR.PIN_STAT_STATE 2).modPath 127 (fun x => { x with samples := 256, sum := 256 * 1000, pause := 0 }), by decide +kernel⟩,
    ⟨((((upP 9).setF .time TimeR.MARK_CFG_MODE 0).setF .time TimeR.MARK_PERIOD_P 100).setF .time TimeR.MARK_STAT_MARKS 0xFFFF).setTime { up.time with newGrid := false, expect := some up.time.refCount, tb := 987654321987654321987654321 }, by decide +kernel⟩,
    ⟨5, (((upP 9).setF .time TimeR.MARK_PERIOD_P 100).setF .time TimeR.MARK_CFG_MODE 2).setTime { up.time with newGrid := false, expect := some 5 }, by decide +kernel⟩,
    ⟨5, (((upP 9).setF .time TimeR.MARK_CFG_MODE 0).setF .time TimeR.MARK_PERIOD_P 100).setTime { up.time with newGrid := false, expect := some 5 }, by decide +kernel⟩,
    ⟨127, (up.setF (pp 127) PathR.PIN_STAT_STATE pinSlewing).modPath 127 (fun x => { x with slewLeft := -3 }), by decide +kernel⟩⟩

/-- The hypotheses of each clause of FramingCommandsComplete can be met. -/
theorem witness_FramingCommandsComplete :
    (∃ (p : Path) (e : BitVec 3) (find : Option WxFind) (s : State),
      (s.profile p = 1 ∨ s.profile p = 3) ∧ s.lock p = true) ∧
    (∃ (p : Path) (e : BitVec 3) (w : WxFind) (s : State),
      s.profile p = 2 ∧ s.lock p = true ∧ s.framed p = false ∧ findLocks w = true) ∧
    (∃ (p : Path) (e : BitVec 3) (s : State),
      s.framed p = true) ∧
    (∃ (p : Path) (which : Fin 3) (run : BitVec 8) (gap : BitVec 9) (s : State),
      s.profile p = 1 ∧ s.convMet p which true run.toNat gap.toNat = true ∧ (which = 0 → s.lock p = true) ∧
      (which = 1 → s.on (pp p) PathR.CONV_STAT_SH_LOCK = true) ∧ (which = 2 → s.on (pp p) PathR.CONV_STAT_MB_LOCK = true)) ∧
    (∃ (p : Path) (which : Fin 3) (run : BitVec 8) (gap : BitVec 9) (s : State),
      s.profile p = 1 ∧ s.convMet p which false run.toNat gap.toNat = true) ∧
    (∃ (p : Path) (w : Codeword) (s : State),
      s.framed p = true ∧ s.profile p = 1 ∧ (s.path p).injSyms = 0) ∧
    (∃ (p : Path) (w : Codeword) (s : State),
      s.framed p = true ∧ s.profile p = 2 ∧ 0 < (s.path p).cwPos) ∧
    (∃ (p : Path) (fr : RxFrame) (m : PtpMsg) (s : State),
      s.profile p = 3 ∧ s.on (pp p) PathR.PTP_CFG_EN = true ∧ s.framed p = true ∧ s.ptpMsg p fr.bytes = some m ∧
      ptpType fr.bytes m < 2 ∧ ¬ m.map = .v6 ∧ ptpSkipped fr m = false ∧ s.verified p = true ∧ s.extracts p fr = false) :=
  ⟨⟨9, 7#3, none, (upP 9).setF (pp 9) PathR.PROF_CFG_PROFILE 3, by decide +kernel⟩,
    ⟨9, 0#3, { first := ⟨false, 0xC3A55A3C0010FFFF, ~~~0xC3A55A3C0010FFFF, 0, ~~~0⟩, second := ⟨false, 0xC3A55A3C00100000, ~~~0xC3A55A3C00100000, 0, ~~~0⟩, gap := 2785280 }, (upP 9).setF (pp 9) PathR.PROF_CFG_PROFILE 2, by decide +kernel⟩,
    ⟨9, 0#3, ((upP 9).setF (pp 9) PathR.PROF_CFG_PROFILE 1).setF (pp 9) PathR.PROF_STAT_FRM 2, by decide +kernel⟩,
    ⟨9, 2, 2#8, 1#9, ((upP 9).setF (pp 9) PathR.PROF_CFG_PROFILE 1).setF (pp 9) PathR.CONV_STAT_MB_LOCK 1, by decide +kernel⟩,
    ⟨9, 0, 16#8, 0#9, (((upP 9).setF (pp 9) PathR.PROF_CFG_PROFILE 1).setF (pp 9) PathR.CONV_STAT_MB_LOCK 1).setF (pp 9) PathR.PROF_STAT_FRM 2, by decide +kernel⟩,
    ⟨9, { corr := 0#4, uncorr := false, badBlocks := 255#8, badChecks := 1#8, badTags := 0#8, marker := none }, (((upP 9).setF (pp 9) PathR.PROF_CFG_PROFILE 1).setF (pp 9) PathR.CONV_STAT_MB_LOCK 1).setF (pp 9) PathR.PROF_STAT_FRM 2, by decide +kernel⟩,
    ⟨9, { corr := 3#4, uncorr := false, badBlocks := 255#8, badChecks := 1#8, badTags := 2#8, marker := none }, (((upP 9).setF (pp 9) PathR.PROF_CFG_PROFILE 2).setF (pp 9) PathR.PROF_CFG_FEC 1).setF (pp 9) PathR.PROF_STAT_FRM 2 |>.modPath 9 (fun x => { x with cwPos := 1023 }), by decide +kernel⟩,
    ⟨9, { bytes := List.replicate 12 0 ++ [0x88, 0xF7, 0x00, 0x02] ++ List.replicate 44 0 }, { map := .l2, off := 14, mf := false }, (((((upP 9).setF (pp 9) PathR.PROF_CFG_PROFILE 3).setF (pp 9) PathR.PTP_CFG_EN 1).setF (pp 9) PathR.PROF_STAT_FRM 2).setF (pp 9) PathR.PTP_CFG_L2_EN 1).setF (pp 9) PathR.PIN_STAT_STATE pinPinned, by decide +kernel⟩⟩

/-- The hypotheses of each clause of CounterCommandsComplete can be met. -/
theorem witness_CounterCommandsComplete :
    (∃ (c : Src) (p : Path) (s : State),
      s.takesF c (pp p) PathR.CNT_CTL_SNAP 1 = true) ∧
    (∃ (p : Path) (s : State),
      s.degLen p ≤ (s.path p).degN) ∧
    (∃ (p : Path) (s : State),
      s.on (pp p) PathR.PRBS_CHK_EN = true ∧ s.on (pp p) PathR.PRBS_STAT_LOCK = false) ∧
    (∃ (p : Path) (bits errs : Word) (s : State),
      s.on (pp p) PathR.PRBS_STAT_LOCK = true) ∧
    (∃ (c : Src) (p : Path) (s : State),
      s.takesF c (pp p) PathR.ERR_INJ_FIRE 1 = true ∧ s.f (pp p) PathR.ERR_INJ_INTERVAL = 0 ∧ s.f (pp p) PathR.ERR_INJ_MODE ≠ 0) ∧
    (∃ (p : Path) (s : State),
      s.f (pp p) PathR.ERR_INJ_MODE ≠ 0 ∧ s.f (pp p) PathR.ERR_INJ_MODE ≠ 3 ∧ s.f (pp p) PathR.ERR_INJ_INTERVAL = 0 ∧
      (s.path p).injDue = true ∧ s.txIdle p = false) :=
  ⟨⟨.spi, 9, ((upP 9).addCtr 9 ctrCorrCw 5).setF (pp 9) PathR.CNT_CTL_CLR_ON_SNAP 1, by decide +kernel⟩,
    ⟨9, (upP 9).modPath 9 (fun x => { x with degN := 2 ^ 20, degSym := 2 ^ 20 }), by decide +kernel⟩,
    ⟨9, (upP 9).setF (pp 9) PathR.PRBS_CHK_EN 1, by decide +kernel⟩,
    ⟨9, 100#32, 65#32, (upP 9).setF (pp 9) PathR.PRBS_STAT_LOCK 1, by decide +kernel⟩,
    ⟨.spi, 9, (upP 9).setF (pp 9) PathR.ERR_INJ_MODE 1, by decide +kernel⟩,
    ⟨9, (((((((upP 9).setF (gp 1) (pllEnFld false) 1).setF (gp 1) (pllLockFld false) 1).modPath 9 (fun x => { x with placed := true })).setF (pp 9) PathR.TRN_STAT_STATE 9).setF (pp 73) PathR.TRN_STAT_STATE 9).setF (pp 9) PathR.ERR_INJ_MODE 1).modPath 9 (fun x => { x with injDue := true }), by decide +kernel⟩⟩

/-- The hypotheses of each clause of TimebaseCommandsComplete can be met. -/
theorem witness_TimebaseCommandsComplete :
    (∃ (c : Src) (s : State),
      s.takesF c .time TimeR.TIME_CTL_STEP 1 = true ∧ s.on .time TimeR.TIME_STAT_ARMED = true ∧
      stepInRange ((s.time.tb : Int) + s.stepOffset) (2 ^ 48 - 1) = true) ∧
    (∃ (c : Src) (s : State),
      s.takesF c .time TimeR.TIME_CTL_ARM 1 = true) ∧
    (∃ (c : Src) (s : State),
      s.takesF c .time TimeR.TIME_CTL_HOLD_REQ 1 = true ∧ s.f .time TimeR.TIME_CTL_SRC = 1) ∧
    (∃ (c : Src) (rate : Word) (s : State),
      s.takes c .time 0x054 rate allOnes = true) ∧
    (∃ (c : Src) (v : Word) (s : State),
      s.takes c .time 0x05C v allOnes = true ∧ (v = 0 ∨ s.rd (pageAddr .time 0x05C) ≠ 0)) ∧
    (∃ (s : State),
      s.f .time TimeR.TIME_CTL_SRC = 1) ∧
    (∃ (s : State),
      uncNs s.time.unc > s.f .time TimeR.UNC_CFG_UNC_THR ∧ s.on .time TimeR.TIME_STAT_UNC_HIGH = false) :=
  ⟨⟨.spi, (((up.setF .time TimeR.TIME_STAT_ARMED 1).setF .time TimeR.STEP_NS 5).setF .time TimeR.TIME_STAT_STEPS 255), by decide +kernel⟩,
    ⟨.twt, up.setF .time TimeR.TIME_STAT_ARMED 0, by decide +kernel⟩,
    ⟨.um 0, up.setF .time TimeR.TIME_CTL_SRC 1, by decide +kernel⟩,
    ⟨.spi, 0x80000000#32, (up.setF .time TimeR.TIME_CTL_SRC 1).setF .time TimeR.TIME_STAT_HOLDOVER 1, by decide +kernel⟩,
    ⟨.spi, 0#32, up.setUnc none, by decide +kernel⟩,
    ⟨{ up.setF .time TimeR.TIME_CTL_SRC 1 with elapsed := 5 }, by decide +kernel⟩,
    ⟨(((up.setTime { up.time with unc := none }).setF .time TimeR.UNC_CFG_UNC_THR 0).setF .time TimeR.TIME_CTL_AUTO_REARM 1).setF .time TimeR.TIME_STAT_UNC_HIGH 0, by decide +kernel⟩⟩

/-- The hypotheses of each clause of ReferenceCommandsComplete can be met. -/
theorem witness_ReferenceCommandsComplete :
    (∃ (r : Bool) (s : State),
      s.refOk r = true) ∧
    (∃ (r : Bool) (s : State),
      s.refSel = r) ∧
    (∃ (s : State),
      s.refOk s.refSel = false ∧ s.on .time TimeR.REF_CFG_BACKUP_EN = false) ∧
    (∃ (s : State),
      s.on .time TimeR.TIME_STAT_BRIDGE = true ∧ s.refOk s.refSel = true ∧ s.relocked = true) ∧
    (∃ (s : State),
      s.onKa = true ∧ s.refOk s.refSel = true) ∧
    (∃ (s : State),
      s.onKa = false ∧ s.on .time TimeR.TIME_STAT_BRIDGE = false ∧ s.time.counting = true ∧ s.time.kaDirty = false) :=
  ⟨⟨false, (((up.setF .time TimeR.REF_STAT_REF0_OK 1).setF .time TimeR.REF_STAT_REF1_OK 1).setF .time TimeR.REF_CFG_BACKUP_EN 1).setF .time TimeR.TIME_STAT_KEEPALIVE 0, by decide +kernel⟩,
    ⟨true, (up.setF .time TimeR.REF_STAT_IN_USE 1).setF .time TimeR.TIME_STAT_KEEPALIVE 0, by decide +kernel⟩,
    ⟨up, by decide +kernel⟩,
    ⟨((up.setF .time TimeR.TIME_STAT_BRIDGE 1).setF .time TimeR.REF_STAT_CHANGING 1).setF .time TimeR.REF_STAT_REF0_OK 1, by decide +kernel⟩,
    ⟨((up.setF .time TimeR.TIME_STAT_KEEPALIVE 1).setF .time TimeR.REF_STAT_REF0_OK 1).setTime { up.time with kaEdges := 2 ^ 33 }, by decide +kernel⟩,
    ⟨(up.setF .time TimeR.TIME_STAT_KEEPALIVE 0).setTime { up.time with counting := true, kaDirty := false, tb := 2 ^ 60 }, by decide +kernel⟩⟩

/-- The hypotheses of each clause of MarkAndPpsCommandsComplete can be met. -/
theorem witness_MarkAndPpsCommandsComplete :
    (∃ (c : Src) (data : Word) (s : State),
      s.takes c .time 0x094 data allOnes = true ∧ 256 ≤ data.toNat) ∧
    (∃ (c : Src) (data : Word) (s : State),
      s.takes c .time 0x090 data allOnes = true ∧ data.toNat ≤ 2) ∧
    (∃ (s : State),
      s.time.ppsDue = true) ∧
    (∃ (s : State),
      s.land.vio = true ∧ (s.device = .ready ∨ s.device = .starting) ∧ s.on .time TimeR.PPS_CTL_IN_EN = true ∧
      s.time.ppsInAt.any (fun x => decide (s.elapsed - x < 500000000000000)) = false) :=
  ⟨⟨.spi, 0x00030000#32, up.setTime { up.time with newGrid := false }, by decide +kernel⟩,
    ⟨.spi, 1#32, up.setTime { up.time with newGrid := false }, by decide +kernel⟩,
    ⟨{ up with time := { up.time with ppsDue := true } }, by decide +kernel⟩,
    ⟨{ (up.setF .time TimeR.PPS_CTL_IN_EN 1).setTime { up.time with ppsInAt := some 0, tb := 12345678901234567890123 } with elapsed := 500000000000000 }, by decide +kernel⟩⟩

/-- The hypotheses of each clause of FramePortCommandsComplete can be met. -/
theorem witness_FramePortCommandsComplete :
    (∃ (k : Port) (fr : RxFrame) (p : Path) (s : State),
      s.extPath k = some p ∧ s.extReady k = true ∧ fr.hdrUncorr = true) ∧
    (∃ (k : Port) (fr : RxFrame) (p : Path) (s : State),
      s.extPath k = some p ∧ s.extReady k = true ∧ fr.hdrUncorr = false ∧ s.addressed k p fr.bytes = some 3 ∧
      s.on .frame FrameR.FRAME_CTL_UM_EN = true) ∧
    (∃ (k : Port) (fr : RxFrame) (p : Path) (s : State),
      s.extPath k = some p ∧ s.extReady k = true ∧ fr.hdrUncorr = false ∧ s.addressed k p fr.bytes = some 1 ∧
      s.mfield (rxDesc k (s.f .frame (FrameR.RX_IDX_RX_HEAD k.val))) 31 31 = 1 ∧
      s.f .frame (FrameR.RX_IDX_RX_HEAD k.val) ≠ s.f .frame (FrameR.RX_IDX_RX_TAIL k.val) ∧
      0x3000 ≤ s.mfield (rxDesc k (s.f .frame (FrameR.RX_IDX_RX_HEAD k.val)) + 4) 31 16 ∧
      s.mfield (rxDesc k (s.f .frame (FrameR.RX_IDX_RX_HEAD k.val)) + 4) 31 16 + 1536 ≤ 0x10000) ∧
    (∃ (c : Src) (k : Port) (tail : BitVec 6) (s : State),
      s.takes c .frame (0x098 + 64 * k.val) (tail.setWidth 32) allOnes = true) ∧
    (∃ (k : Port) (b : Bool) (n : Nat) (s : State),
      s.on .frame (FrameR.PORT_CTL_EN k.val) = true ∧ (s.port k).next = none ∧ s.portNext k = some (b, n) ∧
      s.elapsed - s.frameStart k (b, n) ≤ s.frameDeadline k (b, n) * 1000000000 ∧ (b = true ∨ s.txRefused k n = false)) ∧
    (∃ (k : Port) (run : BitVec 16) (p : Path) (b : Bool) (n : Nat) (s : State),
      s.insPath k = some p ∧ (s.port k).next = some (b, n) ∧ s.insReady k = true ∧ s.frameLate k (b, n) = false ∧
      runNeeded ((s.frameBytes k (b, n)).length + 4) ≤ satNat (s.window p) run.toNat ∧
      (s.frameBytes k (b, n)).length + 4 ≤ s.maxLen p) ∧
    (∃ (k : Port) (b : Bool) (n : Nat) (s : State),
      (s.port k).next = some (b, n)) ∧
    (∃ (c : Src) (k : Port) (s : State),
      s.takesF c .frame (FrameR.PORT_CTL_EN k.val) 0 = true) :=
  ⟨⟨3, { bytes := List.replicate 14 0, hdrUncorr := true }, 9, portUp, by decide +kernel⟩,
    ⟨3, { bytes := List.replicate 12 0 ++ [0x12, 0x34] }, 9, (portUp.setF .frame FrameR.FRAME_CTL_UM_EN 1).setF .frame FrameR.UM_ETYPE_ETYPE 0x1234, by decide +kernel⟩,
    ⟨3, { bytes := [2, 0, 0, 0, 0, 5] ++ List.replicate 8 7 }, 9, ((((portUp.setF .frame (FrameR.MAC_HI_MAC 3) 0x0200).setF .frame (FrameR.MAC_LO_MAC 3) 5).setF .frame (FrameR.RX_IDX_RX_HEAD 3) 63).mfieldSet (rxDesc 3 63) 31 31 1).mfieldSet (rxDesc 3 63 + 4) 31 16 0x3000, by decide +kernel⟩,
    ⟨.spi, 3, 63#6, portUp, by decide +kernel⟩,
    ⟨3, true, 2, portUp.setPort 3 { portUp.port 3 with um := [(2, 0)], next := none }, by decide +kernel⟩,
    ⟨3, 0xFFFF#16, 9, true, 2, ((((portUp.setPort 3 { portUp.port 3 with um := [(2, 0)], next := some (true, 2) }).setF (pp 9) PathR.TRN_STAT_STATE 9).setF (pp 73) PathR.TRN_STAT_STATE 9).setF (pp 9) PathR.PIN_STAT_STATE pinPinned), by decide +kernel⟩,
    ⟨0, true, 3, portUp.setPort 0 { portUp.port 0 with um := [(3, 0)], next := some (true, 3) }, by decide +kernel⟩,
    ⟨.spi, 3, portUp.setPort 3 { portUp.port 3 with um := [(3, 0)], next := some (true, 3) }, by decide +kernel⟩⟩

/-- The hypotheses of each clause of UmatanCommandsComplete can be met. -/
theorem witness_UmatanCommandsComplete :
    (∃ (k : Port) (fr : RxFrame) (l : List RxFrame) (s : State),
      (s.port k).reqs = fr :: l ∧ (umForm fr).isNone = true) ∧
    (∃ (k : Port) (fr : RxFrame) (l : List RxFrame) (r : UmReq) (e : SessSt) (s : State),
      (s.port k).reqs = fr :: l ∧ (s.port k).txns = [] ∧ umForm fr = some r ∧ r.opens = false ∧
      s.security.sessions.find? (fun x => x.num == r.session) = some e ∧ umTag e.key r.msg = r.tag ∧ e.lastSeq < r.seq ∧
      s.umNoRoom k = false) ∧
    (∃ (k : Port) (fr : RxFrame) (l : List RxFrame) (r : UmReq) (slot : Nat) (key : List Byte) (s : State),
      (s.port k).reqs = fr :: l ∧ (s.port k).txns = [] ∧ umForm fr = some r ∧ r.opens = true ∧ s.umOpenSlot r = some (slot, key) ∧
      s.umNoRoom k = false ∧ s.security.sessions.length < 8) ∧
    (∃ (k : Port) (x : UmTxn) (l : List UmTxn) (s : State),
      (s.port k).txns = x :: l ∧ x.answers.any (fun a => a.open_) = false) :=
  ⟨⟨3, { bytes := List.replicate 14 0 }, [], portUp.setPort 3 { portUp.port 3 with reqs := [{ bytes := List.replicate 14 0 }] }, by decide +kernel⟩,
    ⟨3, umFrameWit, [], umReqWit, umSessWit, (portUp.setPort 3 { portUp.port 3 with reqs := [umFrameWit] }).modSec (fun x => { x with sessions := [umSessWit] }), by exact ⟨rfl, rfl, rfl, by decide +kernel, rfl, rfl, by decide, by decide +kernel⟩⟩,
    ⟨3, umOpenFrame, [], umOpenWit, 0, [], (portUp.setPort 3 { portUp.port 3 with reqs := [umOpenFrame] }).modSec (fun x => { x with um0 := { x.um0 with burned := true, valid := true }, loaded := [(0, [])] }), by exact ⟨rfl, rfl, rfl, by decide +kernel, umSlot_open _ (by decide +kernel) rfl (by decide +kernel), by decide +kernel, by decide⟩⟩,
    ⟨3, umTx, [], portUp.setPort 3 { portUp.port 3 with txns := [umTx], umSlot := 3 }, by decide +kernel⟩⟩

/-- The hypotheses of each clause of SceneCommandsComplete can be met. -/
theorem witness_SceneCommandsComplete :
    (∃ (c : Src) (scene : BitVec 10) (base : BitVec 15) (s : State),
      isHost c = true ∧ s.takes c .cue 0x048 (BitVec.ofNat 32 (2 ^ 28 + scene.toNat * 2 ^ 16 + base.toNat)) allOnes = true ∧
      s.follow = false ∧ s.closing 1023 = false ∧ s.scene.overflow.contains 1023 = false ∧ scene.toNat ≤ 1007 ∧
      base.toNat + s.openLen 1023 ≤ 30208) ∧
    (∃ (e : Eng) (scene : BitVec 10) (base : BitVec 15) (s : State),
      s.eng e = egRunning ∧ s.follow = false ∧ s.closing (1008 + e.val) = false ∧ s.scene.overflow.contains (1008 + e.val) = false ∧
      scene.toNat ≤ 1007 ∧ base.toNat + s.openLen (1008 + e.val) ≤ 30208) ∧
    (∃ (c : Src) (s : State),
      isHost c = true ∧ s.takes c .cue 0x048 (BitVec.ofNat 32 (2 * 2 ^ 28)) allOnes = true ∧ s.closing 1023 = false) ∧
    (∃ (c : Src) (s : State),
      isHost c = true ∧ s.takes c .cue 0x048 (BitVec.ofNat 32 (3 * 2 ^ 28)) allOnes = true ∧ s.closing 1023 = false) ∧
    (∃ (x : StoreSt) (s : State),
      s.nextStore = some x ∧ x.scene ≤ 1007 ∧ 1008 ≤ x.src) ∧
    (∃ (c : Src) (base : BitVec 15) (len : BitVec 9) (s : State),
      s.takes c .cue 0x054 (BitVec.ofNat 32 (base.toNat * 2 ^ 16 + len.toNat)) allOnes = true ∧
      s.descClosed (s.f .cue CueR.SCENE_SEL_SCENE) = false ∧ s.f .cue CueR.SCENE_SEL_SCENE < 1008 ∧ base.toNat + len.toNat ≤ 30208 ∧
      len.toNat ≤ 256) ∧
    (∃ (x : JobSt) (s : State),
      s.nextWork = some x ∧ x.job = .host ∧ s.job? .host = some x ∧ s.writesFirst (some x) = s ∧
      s.mustDefer (s.jobLocks x) = false ∧
      ((forAll ((regPages (s.jobLocks x)).filterMap pageOf) (fun p s => s.setF p Hdr.LOCK_SCENE_ID x.scene) s).checkScene .host x.scene).2 = none) ∧
    (∃ (x : JobSt) (s : State),
      s.nextDeferred = some x ∧ s.writesFirst (some x) = s ∧ x.job = .host ∧ s.job? .host = some x ∧
      s.mustDefer (s.jobLocks x) = false ∧
      ((forAll ((regPages (s.jobLocks x)).filterMap pageOf) (fun p s => s.setF p Hdr.LOCK_SCENE_ID x.scene) s).checkScene .host x.scene).2 = none) ∧
    (∃ (x : JobSt) (s : State),
      s.job? .host = some x ∧ s.tcReached x = true) ∧
    (∃ (x : JobSt) (p : Page) (v : Word) (s : State),
      s.job? .host = some x ∧ s.tcReached x = true ∧ x.vals = [(pageAddr p 0x014, v)] ∧ x.masks = [(pageAddr p 0x014, allOnes)]) :=
  ⟨⟨.twt, 1007#10, 30208#15, up, by decide +kernel⟩,
    ⟨8, 1007#10, 30208#15, up.setF (ep 8) StageR.ENG_STAT_STATE 4, by decide +kernel⟩,
    ⟨.um 7, up, by decide +kernel⟩,
    ⟨.spi, { up with scene := { up.scene with openLen := [(1023, 256)], overflow := [1023] } }, by decide +kernel⟩,
    ⟨{ src := 1023, scene := 1007, base := 5, seq := 0 }, { up with scene := { up.scene with openLen := [(1023, 2)], storing := [{ src := 1023, scene := 1007, base := 5, seq := 0 }] } }, by decide +kernel⟩,
    ⟨.spi, 29952#15, 256#9, up.setF .cue CueR.SCENE_SEL_SCENE 1007, by decide +kernel⟩,
    ⟨{ job := .host, scene := 1023, phase := .due, seq := 0 }, { up with scene := { up.scene with jobs := [{ job := .host, scene := 1023, phase := .due, seq := 0 }] } }, by decide +kernel⟩,
    ⟨{ job := .host, scene := 1023, phase := .deferred, seq := 0 }, { up with scene := { up.scene with jobs := [{ job := .host, scene := 1023, phase := .deferred, seq := 0 }] } }, by decide +kernel⟩,
    ⟨stagedJob, { up with scene := { up.scene with jobs := [stagedJob], openLen := [(1023, 1)] } }, by decide +kernel⟩,
    ⟨stagedJob, .path 9, 0x101#32, { up with scene := { up.scene with jobs := [stagedJob] } }, by decide +kernel⟩⟩

/-- The hypotheses of each clause of CueCommandsComplete can be met. -/
theorem witness_CueCommandsComplete :
    (∃ (c : Src) (cue : BitVec 12) (s : State),
      s.takes c .cue 0x044 (BitVec.ofNat 32 (2 ^ 28 + cue.toNat)) allOnes = true ∧ s.cueClosed cue = false ∧ s.cueFree cue = true ∧
      s.cueLegal cue = true ∧ s.cueTrig cue = 4 ∧ s.freeCues ≠ s.f .cue CueR.CUE_CTL_LOW_THR) ∧
    (∃ (c : Src) (cue : BitVec 12) (s : State),
      s.takes c .cue 0x044 (BitVec.ofNat 32 (2 ^ 28 + cue.toNat)) allOnes = true ∧ s.cueClosed cue = false ∧ s.cueFree cue = true ∧
      s.cueLegal cue = true ∧ s.cueTrig cue = 1 ∧ s.time.tb + leadTb ≤ s.cueT cue ∧ s.freeCues ≠ s.f .cue CueR.CUE_CTL_LOW_THR) ∧
    (∃ (c : Src) (cue : BitVec 12) (x : JobSt) (s : State),
      s.takes c .cue 0x044 (BitVec.ofNat 32 (2 ^ 29 + cue.toNat)) allOnes = true ∧ s.cueClosed cue = false ∧
      s.job? (.cue cue) = some x ∧ s.tcReached x = false) :=
  ⟨⟨.spi, 4095#12, up.mwordSet (cueAddr 4095) 0x40000003, by decide +kernel⟩,
    ⟨.spi, 0#12, ((up.mwordSet (cueAddr 0) 0x10000003).mwordSet (cueAddr 0 + 8) 0xFFFF), by decide +kernel⟩,
    ⟨.spi, 0#12, { job := .cue 0, scene := 3, phase := .armed, seq := 0 }, { up with scene := { up.scene with jobs := [{ job := .cue 0, scene := 3, phase := .armed, seq := 0 }] } }, by decide +kernel⟩⟩

/-- The hypotheses of each clause of EngineCommandsComplete can be met. -/
theorem witness_EngineCommandsComplete :
    (∃ (c : Src) (e : Eng) (slot : Bool) (s : State),
      s.takes c (ep e) 0x040 (BitVec.ofNat 32 (256 * b2n slot + 4)) allOnes = true ∧ s.loadOk e = true) ∧
    (∃ (c : Src) (e : Eng) (s : State),
      s.takesF c (ep e) StageR.ENG_CTL_START 1 = true ∧ s.on (ep e) Hdr.PAGE_CTL_OOS = false ∧ s.eng e = egLoaded) ∧
    (∃ (c : Src) (e : Eng) (s : State),
      s.takesF c (ep e) StageR.ENG_CTL_STOP 1 = true ∧ (s.eng e = egStarting ∨ s.eng e = egRunning)) ∧
    (∃ (e : Eng) (slot : Nat) (img : List Byte) (s : State),
      s.flash.run = some (.load e slot, img) ∧ s.eng e = egLoading ∧ s.rehState ≠ 1 ∧ s.reh.toDark = false) ∧
    (∃ (e : Eng) (s : State),
      s.eng e = egStarting) ∧
    (∃ (e : Eng) (s : State),
      s.eng e = egRunning ∧ s.on (ep e) StageR.WDOG_CTL_EN = true) ∧
    (∃ (e : Eng) (r0 r1 : Word) (s : State),
      s.eng e = egRunning) ∧
    (∃ (e : Eng) (n : BitVec 14) (g : Grp) (s : State),
      s.eng e = egRunning ∧ s.engGrp e = some g) ∧
    (∃ (e : Eng) (s : State),
      s.eng e = egRunning) ∧
    (∃ (e : Eng) (r0 r1 : Word) (s : State),
      s.eng e = egRunning ∧ (s.engRec e).rspq.length < 16) :=
  ⟨⟨.spi, 8, true, up.setF (ep 8) StageR.ENG_STAT_STATE 5, by decide +kernel⟩,
    ⟨.um 0, 8, (up.setF (ep 8) StageR.ENG_STAT_STATE 2).setF (ep 8) Hdr.PAGE_CTL_OOS 0, by decide +kernel⟩,
    ⟨.spi, 8, (up.setF (ep 8) StageR.ENG_STAT_STATE 4).modEng 8 (fun x => { x with cmdq := [0, 1] }), by decide +kernel⟩,
    ⟨8, 0, [], (up.setF (ep 8) StageR.ENG_STAT_STATE 1).modFlash (fun x => { x with run := some (.load 8 0, []) }), by decide +kernel⟩,
    ⟨8, up.setF (ep 8) StageR.ENG_STAT_STATE 3, by decide +kernel⟩,
    ⟨8, (stageUp 0 []).setF (ep 8) StageR.WDOG_CTL_EN 1, by decide +kernel⟩,
    ⟨8, 1#32, 2#32, stageUp 0 [], by decide +kernel⟩,
    ⟨8, 5#14, 1, stageUp 0 [], by decide +kernel⟩,
    ⟨8, { stageUp 0 [] with elapsed := 77 }, by decide +kernel⟩,
    ⟨8, 1#32, 2#32, stageUp 0 [], by decide +kernel⟩⟩

/-- The hypotheses of each clause of EngineQueueCommandsComplete can be met. -/
theorem witness_EngineQueueCommandsComplete :
    (∃ (c : Src) (e : Eng) (data : BitVec 128) (s : State),
      s.takes c (ep e) 0x08C (data.setWidth 32) allOnes = true ∧ s.eng e = egRunning ∧ (s.engRec e).cmdq.length < 16) ∧
    (∃ (c : Src) (e : Eng) (data : BitVec 128) (s : State),
      s.refuses { src := c, kind := .write128, addr := BitVec.ofNat 32 (pageAddr (ep e) 0x080), data := data, cost := 0 } = false ∧
      (List.range 4).all (fun i => (s.noWrite c (ep e) (0x080 + 4 * i) (quadWord data i)).isNone) = true ∧ s.eng e = egRunning ∧
      (s.engRec e).cmdq.length < 16) ∧
    (∃ (c : Src) (e : Eng) (r : BitVec 128) (l : List (BitVec 128)) (s : State),
      s.closedToAll = false ∧ s.busyOf (ep e) ≠ .rehearsal ∧ (s.engRec e).rspq = r :: l ∧ (s.engRec e).held = []) ∧
    (∃ (e : Eng) (q : BitVec 128) (l : List (BitVec 128)) (s : State),
      s.headReady e q l = true ∧ cmdOp q = 0x01) ∧
    (∃ (e : Eng) (q : BitVec 128) (l : List (BitVec 128)) (s : State),
      s.headReady e q l = true ∧ cmdOp q = 0x10) ∧
    (∃ (e : Eng) (q : BitVec 128) (l : List (BitVec 128)) (p : Path) (s : State),
      s.headReady e q l = true ∧ cmdOp q = 0x20 ∧ targetPath (cmdTarget q) = some p) ∧
    (∃ (e : Eng) (q : BitVec 128) (l : List (BitVec 128)) (s : State),
      s.headReady e q l = true ∧ cmdOp q = 0x30) ∧
    (∃ (e : Eng) (q : BitVec 128) (l : List (BitVec 128)) (g : Grp) (s : State),
      s.headReady e q l = true ∧ cmdOp q = 0x31 ∧ targetGrp (cmdTarget q) = some g ∧ (s.calBlocked g = true ∨ s.calOn g = true)) ∧
    (∃ (e : Eng) (q : BitVec 128) (l : List (BitVec 128)) (g : LongSt) (s : State),
      s.headReady e q l = true ∧ cmdOp q = 0x70 ∧ (s.engRec e).long = some g ∧ cmdTag g.cmd = cmdArg0 q % 256) ∧
    (∃ (e : Eng) (q : BitVec 128) (l : List (BitVec 128)) (s : State),
      s.headReady e q l = true ∧ cmdOp q = 0x71) ∧
    (∃ (e : Eng) (size : BitVec 14) (q : BitVec 128) (l : List (BitVec 128)) (g : Grp) (s : State),
      s.headReady e q l = true ∧ cmdOp q = 0x72 ∧ s.engGrp e = some g) ∧
    (∃ (e : Eng) (detail : BitVec 16) (r0 r1 : Word) (grid : List (BitVec 16)) (g : LongSt) (p : Path) (s : State),
      (s.engRec e).long = some g ∧ s.eng e = egRunning ∧ cmdOp g.cmd = 0x10 ∧ targetPath (cmdTarget g.cmd) = some p ∧
      (s.engRec e).held = [] ∧ (s.engRec e).rspq.length < 16) :=
  ⟨⟨.um 7, 8, 0xFFFFFFFF#128, ((up.setF (ep 8) StageR.ENG_STAT_STATE 4).setLatch (.um 7) (cmdSlot 8 2) 5).modEng 8 (fun x => { x with cmdq := List.replicate 15 0 }), by decide +kernel⟩,
    ⟨.spi, 0, 0x01020304050607080900010203040506#128, (up.setF (ep 0) StageR.ENG_STAT_STATE 4).modEng 0 (fun x => { x with cmdq := List.replicate 15 0 }), by decide +kernel⟩,
    ⟨.twt, 8, 0x80000000000000010000000200000003#128, [7], up.modEng 8 (fun x => { x with rspq := [0x80000000000000010000000200000003#128, 7] }), by decide +kernel⟩,
    ⟨8, cmdWit 0x01 0x87, [9], stageUp (cmdWit 0x01 0x87) [9], by decide +kernel⟩,
    ⟨8, cmdWit 0x10 9, [], stageUp (cmdWit 0x10 9) [], by decide +kernel⟩,
    ⟨8, eyeWit, [], 9, stageUp eyeWit [], by decide +kernel⟩,
    ⟨8, cmdWit 0x30 9, [], stageUp (cmdWit 0x30 9) [], by decide +kernel⟩,
    ⟨8, cmdWit 0x31 0x81 ||| 1#128 <<< 64, [], 1, (stageUp (cmdWit 0x31 0x81 ||| 1#128 <<< 64) []).setF .cal CalR.CAL_STAT_SUSPENDED 1, by decide +kernel⟩,
    ⟨8, cmdWit 0x70 0x81, [], longWit, (stageUp (cmdWit 0x70 0x81) []).modEng 8 (fun x => { x with long := some longWit }), by decide +kernel⟩,
    ⟨8, cmdWit 0x71 0x81, [3], (stageUp (cmdWit 0x71 0x81) [3]).modEng 8 (fun x => { x with long := some longWit }), by decide +kernel⟩,
    ⟨8, 0x3FFF#14, cmdWit 0x72 0x81, [], 1, stageUp (cmdWit 0x72 0x81) [], by decide +kernel⟩,
    ⟨8, 3#16, 0#32, 0#32, [], longWit, 9, (stageUp (cmdWit 0x70 0x81) []).modEng 8 (fun x => { x with long := some longWit }), by decide +kernel⟩⟩

/-- The hypotheses of each clause of MigrationAndTwinCommandsComplete can be met. -/
theorem witness_MigrationAndTwinCommandsComplete :
    (∃ (c : Src) (g : Grp) (target : BitVec 4) (s : State),
      s.takes c (gp g) 0x280 (BitVec.ofNat 32 (2 ^ 9 + target.toNat)) 0x20F = true ∧ s.migCause g target.toNat = none) ∧
    (∃ (g : Grp) (s : State),
      s.mig g = 1) ∧
    (∃ (g : Grp) (s : State),
      s.mig g = 2) ∧
    (∃ (s : State),
      s.on .twin TwinR.TWIN_CFG_EN = true ∧ s.device = .ready) ∧
    (∃ (lanes : BitVec 4) (message : Bool) (s : State),
      s.linkUp = true) ∧
    (∃ (s : State),
      s.linkUp = true) ∧
    (∃ (h : TwinHello) (resends : BitVec 2) (s : State),
      s.on .twin TwinR.TWIN_CFG_EN = true ∧ s.linkUp = true ∧ h.id ≠ s.twinId ∧
      (s.tw = twSeeking ∨ s.tw = twLinkDown ∨ s.tw = twAlone) ∧ s.hbOk = true) ∧
    (∃ (d21 d43 : BitVec 64) (s : State),
      s.follow = true ∧ s.tw = twPaired ∧ s.on .twin TwinR.TWIN_CFG_TIME_EN = true) ∧
    (∃ (p : Path) (meas held : Word) (st : BitVec 3) (s : State),
      s.tw = twPaired ∧ s.verified p = true ∧ st.toNat = pinPinned) ∧
    (∃ (p : Path) (cfg : TwinCfg) (s : State),
      s.tw = twPaired) ∧
    (∃ (p : Path) (coef : TwinCoef) (s : State),
      s.tw = twPaired) ∧
    (∃ (n : BitVec 10) (b : BitVec 15) (l : BitVec 9) (s : State),
      s.follow = true ∧ s.tw = twPaired ∧ n.toNat ≤ 503) ∧
    (∃ (w : Word) (s : State),
      s.tw = twPaired ∧ s.on .twin TwinR.TWIN_STAT_SYNCING = false) ∧
    (∃ (r : MirRange) (s : State),
      s.on .twin TwinR.TWIN_STAT_SYNCING = true ∧ r.armed = []) ∧
    (∃ (s : State),
      s.hbOk = true) ∧
    (∃ (s : State),
      s.on .twin TwinR.TWIN_CFG_EN = true ∧ s.hbOk = false) ∧
    (∃ (s : State),
      s.tw = twAlone ∧ s.follow = true ∧ s.linkUp = false ∧ s.hbOk = false) ∧
    (∃ (s : State),
      s.follow = true ∧ s.on .twin TwinR.TWIN_CFG_TIME_EN = true ∧ s.f .time TimeR.TIME_CTL_SRC = 2 ∧
      s.on .time TimeR.TIME_STAT_HOLDOVER = false) ∧
    (∃ (c : Src) (force : Bool) (s : State),
      s.takes c .twin 0x050 (BitVec.ofNat 32 (1 + 32 * b2n force)) allOnes = true ∧ s.reqCause force = none) ∧
    (∃ (c : Src) (s : State),
      s.takesF c .twin TwinR.SD_CTL_CONFIRM 1 = true ∧ s.sdState = 1) ∧
    (∃ (c : Src) (s : State),
      s.takesF c .twin TwinR.SD_CTL_CANCEL 1 = true ∧ s.sdState = 1) ∧
    (∃ (c : Src) (s : State),
      s.takesF c .twin TwinR.SD_CTL_REENTER 1 = true ∧ s.sdState = 2 ∧
      (s.tw = twAlone ∨ s.tw = twPaired ∧ s.f .twin TwinR.TWIN_STAT_PEER_SD = 0)) ∧
    (∃ (c : Src) (p : Path) (s : State),
      s.takesF c .twin TwinR.SD_CTL_REPLACE 1 = true ∧ s.method (pathAB (laneOf p)) = 3 ∧
      allPaths.all (fun q => (q == p) != (s.path q).record) = true) ∧
    (∃ (s : State),
      s.sdState = 3 ∧ s.reenterBlock = none) ∧
    (∃ (s : State),
      s.sdState = 3) ∧
    (∃ (c : Src) (v : Bool) (s : State),
      s.takesF c .twin TwinR.TWIN_CFG_EN (b2n v) = true ∧ s.on .twin TwinR.TWIN_CFG_EN ≠ v) :=
  ⟨⟨.spi, 1, 15#4, stageUp 0 [], by decide +kernel⟩,
    ⟨1, ((stageUp 0 []).setF (gp 1) GroupR.MIG_STAT_STATE 1).setF (gp 1) GroupR.MIG_STAT_FROM 8, by decide +kernel⟩,
    ⟨1, ((((stageUp 0 []).setF (gp 1) GroupR.MIG_STAT_STATE 2).setF (gp 1) GroupR.MIG_STAT_FROM 8).setF (gp 1) GroupR.MIG_STAT_TO 5).setF (ep 5) StageR.ENG_STAT_STATE 4, by decide +kernel⟩,
    ⟨up.setF .twin TwinR.TWIN_CFG_EN 1, by decide +kernel⟩,
    ⟨0x7, true, ((paired 2).setF .twin TwinR.LINK_CNT_RESENDS 254).setF .twin TwinR.TWIN_STAT_SYNCING 1, by decide +kernel⟩,
    ⟨(paired 1).setF .twin TwinR.TWIN_STAT_STATE 1, by decide +kernel⟩,
    ⟨peerHello, 1, (paired 0).setF .twin TwinR.TWIN_STAT_STATE 1, by decide +kernel⟩,
    ⟨BitVec.ofInt 64 (-300), 1699, (paired 2).setF .twin TwinR.TWIN_CFG_TIME_EN 1, by decide +kernel⟩,
    ⟨9, 0x20000, 3, 2, pinnedPair, by decide +kernel⟩,
    ⟨9, peerConfig, (paired 1).setF (pp (pathAB (laneOf 9))) Hdr.PAGE_CTL_OOS 1, by decide +kernel⟩,
    ⟨9, { ctle := 1, dfe := 2, fir0 := 3, fir1 := 4, ffe := List.replicate 17 5 }, paired 1, by decide +kernel⟩,
    ⟨503, 7, 9, paired 2, by decide +kernel⟩,
    ⟨5, paired 1, by decide +kernel⟩,
    ⟨{ cells := [(0x00400000, 3)], desc := [(3, 2, 1)], armed := [] }, (paired 2).setF .twin TwinR.TWIN_STAT_SYNCING 1, by decide +kernel⟩,
    ⟨((paired 2).setF .twin TwinR.LINK_STAT_LINK_UP 0).setF .twin TwinR.TWIN_STAT_STATE 3, by decide +kernel⟩,
    ⟨(((paired 2).setF .twin TwinR.LINK_STAT_LINK_UP 0).setF .twin TwinR.TWIN_STAT_STATE 4).setF .twin TwinR.LINK_STAT_HB_OK 0, by decide +kernel⟩,
    ⟨(((paired 2).setF .twin TwinR.LINK_STAT_LINK_UP 0).setF .twin TwinR.TWIN_STAT_STATE 4).setF .twin TwinR.LINK_STAT_HB_OK 0, by decide +kernel⟩,
    ⟨((paired 2).setF .twin TwinR.TWIN_CFG_TIME_EN 1).setF .time TimeR.TIME_CTL_SRC 2, by decide +kernel⟩,
    ⟨.spi, true, paired 1, by decide +kernel⟩,
    ⟨.spi, (paired 2).setF .twin TwinR.SD_STAT_SD_STATE 1, by decide +kernel⟩,
    ⟨.spi, (paired 2).setF .twin TwinR.SD_STAT_SD_STATE 1, by decide +kernel⟩,
    ⟨.spi, (paired 2).setF .twin TwinR.SD_STAT_SD_STATE 2, by decide +kernel⟩,
    ⟨.spi, 9, unplaced 9 1, by decide +kernel⟩,
    ⟨(paired 2).setF .twin TwinR.SD_STAT_SD_STATE 3, by decide +kernel⟩,
    ⟨(paired 2).setF .twin TwinR.SD_STAT_SD_STATE 3, by decide +kernel⟩,
    ⟨.spi, false, paired 2, by decide +kernel⟩⟩

/-- The hypotheses of each clause of SupplyAndFlashCommandsComplete can be met. -/
theorem witness_SupplyAndFlashCommandsComplete :
    (∃ (b : Bool) (s : State),
      s.good b = false ∧ s.device = .off) ∧
    (∃ (b : Bool) (s : State),
      s.good b = true ∧ s.device = .ready) ∧
    (∃ (s : State),
      s.device = .ready ∧ s.sel = 1 ∧ s.good false = true ∧ s.forceB = false) ∧
    (∃ (c : Src) (v : Bool) (s : State),
      s.takesF c .supply SupplyR.SUP_CTL_FORCE_B (b2n v) = true ∧ s.forceB ≠ v) ∧
    (∃ (r : Fin 6) (s : State),
      s.failable = true ∧ (s.good false = true ∨ s.good true = true)) ∧
    (∃ (c : Src) (s : State),
      s.takesF c .supply SupplyR.HUP_CTL_MEASURE 1 = true) ∧
    (∃ (s : State),
      s.device = .ready) ∧
    (∃ (dvc dvd : BitVec 24) (reached : Bool) (s : State),
      s.supply.testing = true ∧ reached = true ∧ dvc.toNat ≤ 300000 ∧ 0 < dvc.toNat + dvd.toNat ∧ s.rehState ≠ 1 ∧
      s.reh.toDark = false) ∧
    (∃ (vina vinb pin hup : BitVec 16) (s : State),
      s.houseOn = true ∧ s.supply.hupZero = false) ∧
    (∃ (s : State),
      s.failable = true ∧ s.good false = false ∧ s.good true = false) ∧
    (∃ (hup : BitVec 16) (s : State),
      s.device = .failing ∧ s.flash.run = none) ∧
    (∃ (c : Src) (region : BitVec 4) (s : State),
      s.nvmTakes c 1 region = true ∧ s.flashFree = true ∧ 213 ≤ s.eAvail) ∧
    (∃ (c : Src) (region : BitVec 4) (s : State),
      s.nvmTakes c 2 region = true ∧ s.device = .ready ∧ s.flash.run = none ∧ s.flash.queue = []) ∧
    (∃ (c : Src) (region : BitVec 4) (s : State),
      s.nvmTakes c 3 region = true ∧ s.flashFree = true ∧ 52 ≤ s.eAvail) ∧
    (∃ (c : Src) (region : BitVec 4) (s : State),
      s.nvmTakes c 4 region = true ∧ s.flashFree = true ∧ 19 ≤ s.eAvail) ∧
    (∃ (ok : Bool) (r addr len : Nat) (rec0 : List Byte) (s : State),
      s.flash.run = some (.host 3 r addr len, rec0) ∧ r ≤ 1 ∧ addr < regionSize r ∧ s.flash.queue = [] ∧ s.rehState ≠ 1 ∧
      s.reh.toDark = false) ∧
    (∃ (b : Bool) (s : State),
      s.good b = false) :=
  ⟨⟨true, { up with device := .off }, by decide +kernel⟩,
    ⟨false, (up.setF .supply (goodFld false) 1).setF .supply (goodFld true) 1, by decide +kernel⟩,
    ⟨(up.setF .supply (goodFld false) 1).setF .supply SupplyR.SUP_STAT_SEL 1, by decide +kernel⟩,
    ⟨.spi, true, up.setF .supply (goodFld true) 1, by decide +kernel⟩,
    ⟨1, (up.setF .supply (goodFld true) 1).setF .supply SupplyR.RAIL_STAT_IN_WIN 0x3F, by decide +kernel⟩,
    ⟨.um 3, up, by decide +kernel⟩,
    ⟨up, by decide +kernel⟩,
    ⟨3333, 1, true, up.modSupply (fun x => { x with testing := true }), by decide +kernel⟩,
    ⟨4800, 0, 9, 2400, ((up.setF .supply SupplyR.HUP_CAP_CAP 4700).modSupply (fun x => { x with hupZero := false })).setF .supply SupplyR.HUP_ENERGY_E_AVAIL 1023, by decide +kernel⟩,
    ⟨up.setF .supply (goodFld false) 0, by decide +kernel⟩,
    ⟨1500, { up with device := .failing }, by decide +kernel⟩,
    ⟨.spi, 6, (up.setF .nvm NvmR.NVM_LEN_LEN 4).setF .supply SupplyR.HUP_ENERGY_E_AVAIL 213, by decide +kernel⟩,
    ⟨.spi, 8, (up.setF .nvm NvmR.NVM_LEN_LEN 1024).setF .nvm NvmR.NVM_ADDR_ADDR 0xFFC00, by decide +kernel⟩,
    ⟨.spi, 1, (up.setF .nvm NvmR.NVM_ADDR_ADDR 0x3F000).setF .supply SupplyR.HUP_ENERGY_E_AVAIL 52, by decide +kernel⟩,
    ⟨.spi, 0, (up.setF .nvm NvmR.NVM_LEN_LEN 1024).setF .supply SupplyR.HUP_ENERGY_E_AVAIL 1023, by decide +kernel⟩,
    ⟨true, 1, 0x3F000, 0, [], up.modFlash (fun x => { x with run := some (.host 3 1 0x3F000 0, []), bytes := [(0x7F004, 3)] }), by decide +kernel⟩,
    ⟨false, up.setF .supply (goodFld false) 0, by decide +kernel⟩⟩

/-- The hypotheses of each clause of PowerStateCommandsComplete can be met. -/
theorem witness_PowerStateCommandsComplete :
    (∃ (c : Src) (g : Grp) (s : State),
      s.takesF c (gp g) GroupR.PWR_CTL_REQ rqRun = true ∧ s.overTemp g = false ∧ s.busyOf (gp g) = .no ∧
      (s.pw g = pwInt ∨ s.pw g = pwOff)) ∧
    (∃ (c : Src) (g : Grp) (s : State),
      s.takesF c (gp g) GroupR.PWR_CTL_REQ rqInt = true ∧ s.overTemp g = false ∧ s.busyOf (gp g) = .no ∧ s.pw g = pwRun) ∧
    (∃ (c : Src) (g : Grp) (s : State),
      s.takesF c (gp g) GroupR.PWR_CTL_REQ rqOff = true ∧ s.busyOf (gp g) = .no ∧ (s.pw g = pwRun ∨ s.pw g = pwInt)) ∧
    (∃ (g : Grp) (s : State),
      s.pwMoving g = true ∧ (s.grp g).pend = none ∧ (s.grp g).target = rqOff ∧ s.device = .ready) ∧
    (∃ (g : Grp) (s : State),
      s.pw g = pwRun ∧ (s.grp g).pend = none ∧ s.on (gp g) GroupR.PWR_CTL_AUTO_EN = true ∧
      s.on (gp g) GroupR.PWR_CTL_WAKE_HOLD = false ∧ s.busyOf (gp g) = .no ∧ s.grpIdle g = true ∧ s.device = .ready ∧
      s.overTemp g = false) ∧
    (∃ (c : Src) (g : Grp) (s : State),
      s.takesF c (gp g) GroupR.PWR_CTL_WAKE_NOW 1 = true ∧ s.pw g = pwInt ∧ s.busyOf (gp g) = .no) ∧
    (∃ (c : Src) (s : State),
      s.takes c .pstate 0x040 0xDA01 allOnes = true) ∧
    (∃ (s : State),
      s.device = .enteringDark ∧ allGroups.all (fun g => s.pw g == pwOff) = true ∧ s.flash.run = none ∧ s.flash.queue = []) ∧
    (∃ (porst : Bool) (s : State),
      s.device = .dark) :=
  ⟨⟨.spi, 7, up.setF (gp 7) GroupR.PWR_STAT_STATE 3, by decide +kernel⟩,
    ⟨.um 0, 0, up, by decide +kernel⟩,
    ⟨.twt, 3, up.setF (gp 3) GroupR.PWR_STAT_STATE 2, by decide +kernel⟩,
    ⟨2, (((up.setF (gp 2) GroupR.PWR_STAT_STATE 5).setGrp 2 { up.grp 2 with target := 3, byHost := true }).setF (pp 32) PathR.RX_STAT_SD 1).setF (gp 2) GroupR.PLL_STAT_A_LOCK 1, by decide +kernel⟩,
    ⟨5, up.setF (gp 5) GroupR.PWR_CTL_AUTO_EN 1, by decide +kernel⟩,
    ⟨.spi, 4, up.setF (gp 4) GroupR.PWR_STAT_STATE 2, by decide +kernel⟩,
    ⟨.spi, up, by decide +kernel⟩,
    ⟨allGroups.foldl (fun s g => s.setF (gp g) GroupR.PWR_STAT_STATE 3) { up with device := .enteringDark }, by decide +kernel⟩,
    ⟨false, ({ up with device := .dark }).setF .pstate PstateR.DEV_STAT_DARK_EXITS 0xFFFE, by decide +kernel⟩⟩

/-- The hypotheses of each clause of CalibrationCommandsComplete can be met. -/
theorem witness_CalibrationCommandsComplete :
    (∃ (i : Fin 9) (reading : BitVec 12) (twin : List (BitVec 3 × Byte × BitVec 16)) (s : State),
      reading.toInt < 8 * (s.f .therm ThermR.OT_CFG_OT_THR : Int)) ∧
    (∃ (c : Src) (g : Grp) (s : State),
      s.takesF c (gp g) GroupR.CAL_CMD_RUN 1 = true ∧ s.calBlocked g = false ∧ s.calOn g = false ∧ s.calBlocks g ≠ 0) ∧
    (∃ (g : Grp) (s : State),
      s.f (gp g) GroupR.CAL_CTL_PERIOD ≠ 0 ∧ s.calBlocked g = false ∧ s.calOn g = false ∧ s.calBlocks g ≠ 0) ∧
    (∃ (g : Grp) (k m : Nat) (r : Bool) (s : State),
      (s.calRec g).pend = some (k, r, m) ∧ s.calBlocked g = false ∧ s.calOn g = false ∧ m % 64 ≠ 0) ∧
    (∃ (g : Grp) (l : List CalRes) (s : State),
      s.calState g = 1 ∧ lowBlock (s.calRec g).mask < 6 ∧ lowBlock ((s.calRec g).mask - 2 ^ lowBlock (s.calRec g).mask) < 6) ∧
    (∃ (c : Src) (p : Path) (s : State),
      s.takesF c (gp (pathGrp p)) GroupR.CAL_CMD_APPLY 1 = true) ∧
    (∃ (c : Src) (g : Grp) (s : State),
      s.takesF c (gp g) GroupR.CAL_CMD_ABORT 1 = true ∧ s.calOn g = true) ∧
    (∃ (p : Path) (s : State),
      s.calOn (pathGrp p) = true ∧ s.ramp p ≠ []) ∧
    (∃ (c : Src) (p : Path) (skew : Bool) (paths : BitVec 16) (s : State),
      s.takes c (gp (pathGrp p)) 0x1A0 (BitVec.ofNat 32 (b2n skew * 2 ^ 16 + paths.toNat)) allOnes = true ∧
      paths.getLsbD (pathIdx p) = true ∧ s.f (pp p) PathR.SWING_STAT_AVAIL = 0 ∧ s.grpDown (pathGrp p) = false) ∧
    (∃ (p : Path) (l : List SliceRes) (s : State),
      (s.path p).disrupt = true) :=
  ⟨⟨8, 879, [], up, by decide +kernel⟩,
    ⟨.spi, 1, ((upP 9).setF .therm (ThermR.THERM_T_NOW 1) 0x123).setF (gp 1) GroupR.CAL_CTL_BLOCKS 0x3C, by decide +kernel⟩,
    ⟨1, ((upP 9).setF (gp 1) GroupR.CAL_CTL_PERIOD 1).setF (gp 1) GroupR.CAL_CTL_BLOCKS 0x20, by decide +kernel⟩,
    ⟨1, 3, 1, true, (upP 9).modCal 1 (fun c => { c with pend := some (3, true, 1) }), by decide +kernel⟩,
    ⟨1, [], (upP 16).setF (gp 1) GroupR.CAL_STAT_STATE 1 |>.modCal 1 (fun c => { c with mask := 0x21 }), by decide +kernel⟩,
    ⟨.spi, 17, (up.setPend 17 [(0, [9, 22]), (1, [-300])]).setPend 16 [(4, [7])], by decide +kernel⟩,
    ⟨.spi, 1, (up.setF (gp 1) GroupR.CAL_STAT_STATE 2).setRamp 17 [(1, [8])], by decide +kernel⟩,
    ⟨17, (up.setF (gp (pathGrp 17)) GroupR.CAL_STAT_STATE 2).setRamp 17 [(1, [8])], by decide +kernel⟩,
    ⟨.spi, 9, true, 0xFFFF, (upP 9).setF (pp 9) PathR.SWING_STAT_AVAIL 0, by decide +kernel⟩,
    ⟨9, [{ slice := 0, ok := true, ofs := 1, gain := 2, skew := 3 }], (upP 9).modPath 9 (fun x => { x with disrupt := true }), by decide +kernel⟩⟩

/-- The hypotheses of each clause of RehearsalAndFuseCommandsComplete can be met. -/
theorem witness_RehearsalAndFuseCommandsComplete :
    (∃ (c : Src) (force : Bool) (s : State),
      s.rehTakes c 1 0 force = true) ∧
    (∃ (c : Src) (target : BitVec 4) (force : Bool) (s : State),
      s.rehTakes c 2 target.toNat force = true) ∧
    (∃ (c : Src) (target : BitVec 4) (s : State),
      s.rehTakes c 3 target.toNat false = true) ∧
    (∃ (c : Src) (s : State),
      s.takes c .reh 0x040 (BitVec.ofNat 32 (4 * 2 ^ 28)) allOnes = true ∧ s.rehRuns = true) ∧
    (∃ (c : Src) (s : State),
      s.takes c .reh 0x040 (BitVec.ofNat 32 (5 * 2 ^ 28)) allOnes = true ∧ s.rehState = 0 ∧ s.fuseSession 0 ≠ [] ∧
      s.flashFree = true ∧ 105 ≤ s.eAvail) ∧
    (∃ (l : List Byte) (s : State),
      s.flash.run = some (.fuseSession, l) ∧ s.rehState = 4 ∧ s.reh.toDark = false) ∧
    (∃ (u : Option Grp) (k : Fin 16) (r : RehRes) (s : State),
      s.rehOn = true ∧ s.rehUnits.contains u = true ∧ s.rehNext u = some k.val ∧ u.any (fun g => s.pw g != pwRun) = false ∧
      r.fails = []) ∧
    (∃ (s : State),
      s.rehOn = true ∧ s.rehAllDone = true ∧ s.rehScope ≠ 1) ∧
    (∃ (s : State),
      s.device ≠ .off) :=
  ⟨⟨.spi, false, up.setF .supply SupplyR.HUP_ENERGY_E_AVAIL 52, by decide +kernel⟩,
    ⟨.spi, 7, true, up.setF .supply SupplyR.HUP_ENERGY_E_AVAIL 17, by decide +kernel⟩,
    ⟨.spi, 8, up.setF .supply SupplyR.HUP_ENERGY_E_AVAIL 17, by decide +kernel⟩,
    ⟨.spi, ((up.setF .reh RehR.REH_STAT_STATE 2).setF .reh RehR.REH_STAT_SCOPE 2).modReh (fun x => { x with opened := true }), by decide +kernel⟩,
    ⟨.spi, (up.setF .supply SupplyR.HUP_ENERGY_E_AVAIL 105).modReh (fun x => { x with soft := [{ word := 0xC0000001, fused := false, test := 0 }] }), by decide +kernel⟩,
    ⟨[], ((up.setF .reh RehR.REH_STAT_STATE 4).modReh (fun x => { x with burning := [0], soft := [{ word := 0xC0000001, fused := false, test := 0 }] })).modFlash (fun x => { x with run := some (.fuseSession, []) }), by decide +kernel⟩,
    ⟨some 3, 9, { dur := 7, fails := [], errs := [], diffs := [] }, (((up.setF .reh RehR.REH_STAT_STATE 2).setF .reh RehR.REH_STAT_SCOPE 2).setF .reh RehR.REH_STAT_TARGET 3).modReh (fun x => { x with done := [(56, 1)] }), by decide +kernel⟩,
    ⟨(((up.setF .reh RehR.REH_STAT_STATE 2).setF .reh RehR.REH_STAT_SCOPE 2).setF .reh RehR.REH_STAT_TARGET 3).modReh (fun x => { x with done := [(56, 1), (57, 1), (58, 1), (59, 1), (60, 1), (61, 1), (62, 1), (63, 2)] }), by decide +kernel⟩,
    ⟨{ up.setF .reh RehR.ONTIME_MIN 0xFFFFFFFF with device := .dark }, by decide +kernel⟩⟩

/-- The hypotheses of each clause of SpiAndTwoWireCommandsComplete can be met. -/
theorem witness_SpiAndTwoWireCommandsComplete :
    (∃ (mode3 : Bool) (addr : BitVec 32) (s : State),
      s.spiTakes .write32 addr = true) ∧
    (∃ (mode3 : Bool) (addr : BitVec 32) (s : State),
      s.spiTakes .write128 addr = true) ∧
    (∃ (mode3 : Bool) (addr : BitVec 32) (full : Bool) (s : State),
      s.spiTakes .read32 addr = true ∧ s.spi.ret.length < 4) ∧
    (∃ (mode3 : Bool) (addr : BitVec 32) (full : Bool) (s : State),
      s.spiTakes .read128 addr = true ∧ s.spi.ret.length < 4) ∧
    (∃ (mode3 full : Bool) (r : SpiRet) (l : List SpiRet) (s : State),
      s.spiHears = true ∧ s.spi.ret = r :: l ∧ (s.spiHead = 1 ∨ s.spiHead = 3)) ∧
    (∃ (data : BitVec 128) (x : Access) (s : State),
      s.spi.open_ = some x) ∧
    (∃ (mode3 : Bool) (s : State),
      s.spiHears = true ∧ s.spi.open_ = none) ∧
    (∃ (s : State),
      s.spi.open_ ≠ none) ∧
    (∃ (c : Src) (s : State),
      s.takesF c .spi SpiR.SPI_CFG_FLUSH 1 = true) ∧
    (∃ (p : BitVec 16) (s : State),
      s.twtHears = true ∧ s.twt.deaf = false ∧ s.twt.xfer = .none ∧ s.access = []) ∧
    (∃ (tScl tLow : BitVec 16) (s : State),
      s.twtStart.2 = true ∧ (s.twtStart.1.twtOffer (s.twtStart.1.twtLead tScl.toNat tLow.toNat)).2 = true) ∧
    (∃ (tScl tLow : BitVec 16) (s : State),
      s.twt.xfer = .read ∧ s.twt.mute = false) ∧
    (∃ (b : Byte) (s : State),
      s.twt.xfer = .write ∧ s.twt.seen = true ∧
      s.admits (s.admQ - bufCost s.twt.window.toNat s.twt.base s.twt.buf) (bufCost s.twt.window.toNat s.twt.base (s.twt.buf.filter (fun e => e.1 != s.twt.next) ++ [(s.twt.next, b)])) = true ∧
      s.bufRefused s.twt.window.toNat s.twt.base (s.twt.buf.filter (fun e => e.1 != s.twt.next) ++ [(s.twt.next, b)]) = false) ∧
    (∃ (s : State),
      s.twt.xfer = .write ∧ s.twt.buf ≠ []) ∧
    (∃ (s : State),
      s.twtHears = true ∧ s.twt.deaf = false ∧ s.twt.xfer ≠ .read) ∧
    (∃ (k : TwtTmo) (s : State),
      s.twtHears = true ∧ s.twt.xfer ≠ .none) ∧
    (∃ (s : State),
      s.promptDue = true) ∧
    (∃ (mine : Bool) (s : State),
      s.promptDue = true) ∧
    (∃ (c : Src) (addr : BitVec 7) (rlen wlen : BitVec 6) (s : State),
      s.takes c .twc 0x044 (BitVec.ofNat 32 (2 ^ 28 + addr.toNat * 2 ^ 16 + rlen.toNat * 256 + wlen.toNat)) allOnes = true ∧
      s.on .twc TwcR.TWC_CFG_EN = true ∧ s.twcOn = false ∧ s.twc.stuck = false ∧ rlen.toNat ≤ 32 ∧ wlen.toNat ≤ 32) ∧
    (∃ (c : Src) (s : State),
      s.takesF c .twc TwcR.TWC_CMD_OP 2 = true ∧ s.twcOn = true) ∧
    (∃ (s : State),
      s.land.vio = true ∧ s.twcOn = true ∧ s.twc.abort = false ∧ s.twc.retries < s.f .twc TwcR.TWC_CFG_RETRIES) ∧
    (∃ (sda started : Bool) (s : State),
      s.land.vio = true ∧ s.twcOn = true) ∧
    (∃ (read : List Byte) (s : State),
      s.land.vio = true ∧ s.twcOn = true ∧ s.twc.abort = false) ∧
    (∃ (freed : Bool) (s : State),
      s.land.vio = true ∧ s.twc.check = true ∧ s.twcOn = false) ∧
    (∃ (s : State),
      s.land.vio = false) ∧
    (∃ (whole : Bool) (s : State),
      s.twt.xfer = .read) :=
  ⟨⟨true, 0x00000014, (up.setF .house HouseR.FAB_SPEED_RATE 900), by decide +kernel⟩,
    ⟨true, 0x00000080, (up.setF .house HouseR.FAB_SPEED_RATE 900), by decide +kernel⟩,
    ⟨true, 0x00000040, true, (up.setF .house HouseR.FAB_SPEED_RATE 900).modSpi (fun x => { x with ret := [⟨4, false, some (some 7)⟩, ⟨8, false, none⟩] }), by decide +kernel⟩,
    ⟨true, 0x00000040, true, (up.setF .house HouseR.FAB_SPEED_RATE 900).modSpi (fun x => { x with ret := [⟨4, false, some (some 7)⟩, ⟨8, false, none⟩] }), by decide +kernel⟩,
    ⟨false, true, ⟨4, false, some none⟩, [], up.modSpi (fun x => { x with ret := [⟨4, false, some none⟩] }), by decide +kernel⟩,
    ⟨0x101, { src := .spi, kind := .write32, addr := 0x14, cost := 32 }, up.modSpi (fun x => { x with open_ := some { src := .spi, kind := .write32, addr := 0x14, cost := 32 } }), by decide +kernel⟩,
    ⟨true, up, by decide +kernel⟩,
    ⟨up.modSpi (fun x => { x with open_ := some { src := .spi, kind := .write32, addr := 0x14, cost := 32 } }), by decide +kernel⟩,
    ⟨.twt, up.modSpi (fun x => { x with ret := [⟨4, false, some none⟩] }), by decide +kernel⟩,
    ⟨0xFFFF, up.setF .house HouseR.TWT_WINDOW_WINDOW 0x70, by decide +kernel⟩,
    ⟨1000, 2000, (up.setF .house HouseR.FAB_SPEED_RATE 900), by decide +kernel⟩,
    ⟨1000, 2000, (up.setF .twt TwtR.TWT_STAT_POINTER 0xFFFE).modTwt (fun x => { x with xfer := .read }), by decide +kernel⟩,
    ⟨0xA5, (up.setF .house HouseR.FAB_SPEED_RATE 900).modTwt (fun x => { x with xfer := .write, seen := true, base := 0, next := 63, buf := [(62, 1)] }), by decide +kernel⟩,
    ⟨up.modTwt (fun x => { x with xfer := .write, seen := true, base := 0x1000, next := 0, last := 63, buf := [(62, 1), (63, 1), (0, 2)] }), by decide +kernel⟩,
    ⟨up.modTwt (fun x => { x with xfer := .write, seen := true, buf := [(62, 1)] }), by decide +kernel⟩,
    ⟨.stall, up.modTwt (fun x => { x with xfer := .write, seen := true, buf := [(62, 1)] }), by decide +kernel⟩,
    ⟨up.setF .house HouseR.ATTN_STAT_PROMPT_REQ 1, by decide +kernel⟩,
    ⟨true, up.setF .house HouseR.ATTN_STAT_PROMPT_REQ 1, by decide +kernel⟩,
    ⟨.spi, 0x50, 32, 32, up.setF .twc TwcR.TWC_CFG_EN 1, by decide +kernel⟩,
    ⟨.spi, up.setF .twc TwcR.TWC_STAT_STATE 3, by decide +kernel⟩,
    ⟨(up.setF .twc TwcR.TWC_STAT_STATE 3).setF .twc TwcR.TWC_CFG_RETRIES 7, by decide +kernel⟩,
    ⟨true, true, up.setF .twc TwcR.TWC_STAT_STATE 3, by decide +kernel⟩,
    ⟨[1, 2, 3], (up.setF .twc TwcR.TWC_STAT_STATE 3).modTwc (fun x => { x with rlen := 2 }), by decide +kernel⟩,
    ⟨false, (up.setF .twc TwcR.TWC_STAT_STATE 1).modTwc (fun x => { x with check := true }), by decide +kernel⟩,
    ⟨{ up with land := { up.land with vio := false } }, by decide +kernel⟩,
    ⟨true, up.modTwt (fun x => { x with xfer := .read, regs := 65535 }), by decide +kernel⟩⟩

/-- The hypotheses of each clause of EventAndResetCommandsComplete can be met. -/
theorem witness_EventAndResetCommandsComplete :
    (∃ (c : Src) (p : Page) (bits : Word) (k : Fin 32) (s : State),
      s.takes c p 0x01C bits allOnes = true ∧ s.busyOf p ≠ .rehearsal ∧ s.on .house HouseR.INJ_CTL_ARM = false ∧
      bits.getLsbD k.val = true ∧ (detectors p).contains k.val = true) ∧
    (∃ (c : Src) (p : Page) (kinds : BitVec 4) (s : State),
      s.takes c p 0x028 (kinds.setWidth 32) allOnes = true ∧ kinds = 9) ∧
    (∃ (c : Src) (sensor : BitVec 4) (s : State),
      s.takes c .house 0x0B8 (BitVec.ofNat 32 (0xA5 * 2 ^ 24 + sensor.toNat * 2 ^ 16 + 1)) allOnes = true ∧ sensor.toNat ≤ 8) ∧
    (∃ (row : BitVec 10) (s : State),
      s.on .house HouseR.ECC_INJ_ARM = true) ∧
    (∃ (c : Src) (code : BitVec 16) (s : State),
      s.takes c .house 0x0C0 (BitVec.ofNat 32 (2 ^ 31 + code.toNat)) allOnes = true) ∧
    (∃ (mac row : BitVec 10) (reader : EccReader) (s : State),
      s.houseOn = true ∧ mac.toNat < 512) ∧
    (∃ (c : Src) (p : Path) (s : State),
      s.takes c .house 0x100 (BitVec.ofNat 32 (2 ^ 8 + p.val)) allOnes = true ∧ s.rstState = 0 ∧ s.busyOf (pp p) = .no) ∧
    (∃ (c : Src) (g : Grp) (s : State),
      s.takes c .house 0x100 (BitVec.ofNat 32 (2 * 2 ^ 8 + g.val)) allOnes = true ∧ s.rstState = 0 ∧
      (grpPages g).all (fun p => s.busyOf p == .no) = true) ∧
    (∃ (s : State),
      s.rstState = 1 ∧ s.resetHeld = false) ∧
    (∃ (s : State),
      s.land.vio = true ∧ s.device = .ready ∧ s.rstState = 0) ∧
    (∃ (s : State),
      s.houseReset = true) ∧
    (∃ (s : State),
      (s.device = .ready ∨ s.device = .starting) ∧ s.land.vio = true) ∧
    (∃ (a b d : BitVec 4) (s : State),
      s.device = .fullReset ∧ s.land.vio = true ∧ s.f .house HouseR.RESET_CAUSE_FULL_CAUSE ≠ 5) ∧
    (∃ (s : State),
      s.device = .starting ∧ s.reh.startRun = true ∧ s.rehState = 0) ∧
    (∃ (s : State),
      s.device = .starting ∧ s.reh.startRun = false ∧ allGroups.any (fun g => s.calOn g) = false) ∧
    (∃ (s : State),
      s.land.vio = true) ∧
    (∃ (s : State),
      s.device = .dark ∧ s.good false = false ∧ s.good true = false) ∧
    (∃ (s : State),
      s.rstState = 2) :=
  ⟨⟨.spi, .path 127, 0xFFFFFFFF, 24, up, by decide +kernel⟩,
    ⟨.um 2, .stage 8, 9, up, by decide +kernel⟩,
    ⟨.spi, 8, up, by decide +kernel⟩,
    ⟨1023, ((up.setF .house HouseR.ECC_INJ_ARM 1).setF .house HouseR.ECC_INJ_MACRO 511).setF .house HouseR.ECC_INJ_NBITS 2, by decide +kernel⟩,
    ⟨.um 7, 0xBEEF, up, by decide +kernel⟩,
    ⟨511, 1023, .engine 8, up.setF (ep 8) StageR.ENG_STAT_STATE 4, by decide +kernel⟩,
    ⟨.spi, 127, upP 127, by decide +kernel⟩,
    ⟨.um 1, 7, upP 127, by decide +kernel⟩,
    ⟨(up.setF .house HouseR.RESET_STAT_LAST_OP 1).setF .house HouseR.RESET_STAT_STATE 1, by decide +kernel⟩,
    ⟨up.setF .house HouseR.RESET_CNT_HOUSE_RESETS 3, by decide +kernel⟩,
    ⟨{ up with houseReset := true }, by decide +kernel⟩,
    ⟨(upP 9).mset 0x00400000 5, by decide +kernel⟩,
    ⟨0xF, 0x9, 0x3, { up with device := .fullReset }, by decide +kernel⟩,
    ⟨({ up with device := .starting }).modReh (fun x => { x with startRun := true }), by decide +kernel⟩,
    ⟨({ up with device := .starting }).setF .house HouseR.START_STAT_PHASE 8, by decide +kernel⟩,
    ⟨upP 9, by decide +kernel⟩,
    ⟨{ up.setF .supply (goodFld false) 0 with device := .dark }, by decide +kernel⟩,
    ⟨(((upP 9).setF .house HouseR.RESET_STAT_LAST_OP 1).setF .house HouseR.RESET_STAT_STATE 2).setF .house HouseR.RESET_STAT_LAST_TARGET 9, by decide +kernel⟩⟩

/-- The hypotheses of each clause of KeyCommandsComplete can be met. -/
theorem witness_KeyCommandsComplete :
    (∃ (c : Src) (slot : BitVec 2) (s : State),
      s.keyTakes c 1 0 slot.toNat = true) ∧
    (∃ (c : Src) (slot : BitVec 2) (s : State),
      s.keyTakes c 2 0 slot.toNat = true) ∧
    (∃ (c : Src) (slot : BitVec 2) (s : State),
      s.keyTakes c 3 0 slot.toNat = true) ∧
    (∃ (c : Src) (value : Byte) (s : State),
      s.keyTakes c 4 value.toNat 0 = true) ∧
    (∃ (l : List Byte) (slot : Nat) (key : List Byte) (s : State),
      s.flash.run = some (.keyOp, l) ∧ s.security.op = some (1, 0, slot, key) ∧ 105 ≤ s.eAvail ∧ s.rehState ≠ 1 ∧
      s.reh.toDark = false) :=
  ⟨⟨.spi, 1, keyUp, by decide +kernel⟩,
    ⟨.spi, 0, keyUp, by decide +kernel⟩,
    ⟨.spi, 3, revokedUp, by exact revokedUp_takes⟩,
    ⟨.spi, 64, keyUp, by decide +kernel⟩,
    ⟨[], 1, List.replicate 32 0x81, (keyUp.modFlash (fun x => { x with run := some (.keyOp, []) })).modSec (fun x => { x with op := some (1, 0, 1, List.replicate 32 0x81) }), by decide +kernel⟩⟩

/-- The hypotheses of each clause of MigrationAndTwinResults can be met. -/
theorem witness_MigrationAndTwinResults :
    (∃ (c : Src) (g : Grp) (target : BitVec 4) (s : State),
      s.takes c (gp g) 0x280 (BitVec.ofNat 32 (2 ^ 9 + target.toNat)) 0x20F = true ∧ s.migCause g target.toNat = none) ∧
    (∃ (g : Grp) (s : State),
      s.mig g = 1) ∧
    (∃ (g : Grp) (s : State),
      s.mig g = 2) ∧
    (∃ (s : State),
      s.on .twin TwinR.TWIN_CFG_EN = true ∧ s.device = .ready) ∧
    (∃ (lanes : BitVec 4) (message : Bool) (s : State),
      s.linkUp = true) ∧
    (∃ (s : State),
      s.linkUp = true ∧ s.tw = twPaired) ∧
    (∃ (h : TwinHello) (resends : BitVec 2) (s : State),
      s.on .twin TwinR.TWIN_CFG_EN = true ∧ s.linkUp = true ∧ h.id = s.twinId) ∧
    (∃ (h : TwinHello) (resends : BitVec 2) (s : State),
      s.on .twin TwinR.TWIN_CFG_EN = true ∧ s.linkUp = true ∧ h.id ≠ s.twinId ∧
      (s.tw = twSeeking ∨ s.tw = twLinkDown ∨ s.tw = twAlone) ∧ s.hbOk = true) ∧
    (∃ (d21 d43 : BitVec 64) (s : State),
      s.follow = true ∧ s.tw = twPaired ∧ s.on .twin TwinR.TWIN_CFG_TIME_EN = true) ∧
    (∃ (p : Path) (meas held : Word) (st : BitVec 3) (s : State),
      s.tw = twPaired ∧ s.verified p = true ∧ st.toNat = pinPinned) ∧
    (∃ (p : Path) (meas held : Word) (st : BitVec 3) (s : State),
      s.tw = twPaired ∧ (s.verified p = false ∨ st.toNat ≠ pinPinned)) ∧
    (∃ (p : Path) (cfg : TwinCfg) (s : State),
      s.tw = twPaired) ∧
    (∃ (p : Path) (cfg : TwinCfg) (s : State),
      s.tw = twPaired ∧ cfg.oos = false ∧ s.oos p = false ∧ s.oos (otherPath p) = false ∧
      (s.peerCfg (otherPath p)).any (fun o => !o.oos && s.cfgAgree (otherPath p) o) = true) ∧
    (∃ (n : BitVec 10) (b : BitVec 15) (l : BitVec 9) (s : State),
      s.follow = true ∧ s.tw = twPaired ∧ n.toNat ≤ 503) ∧
    (∃ (a : Word) (l : List Byte) (s : State),
      s.follow = true ∧ s.tw = twPaired ∧ l.length = 1 ∧ mirrored a.toNat = true) ∧
    (∃ (w : Word) (s : State),
      s.tw = twPaired ∧ s.on .twin TwinR.TWIN_STAT_SYNCING = false) ∧
    (∃ (r : MirRange) (s : State),
      s.on .twin TwinR.TWIN_STAT_SYNCING = true ∧ r.armed = []) ∧
    (∃ (s : State),
      s.hbOk = true) ∧
    (∃ (s : State),
      s.on .twin TwinR.TWIN_CFG_EN = true ∧ s.hbOk = false) ∧
    (∃ (s : State),
      s.tw = twAlone ∧ s.follow = true ∧ s.linkUp = false ∧ s.hbOk = false) ∧
    (∃ (s : State),
      s.follow = true ∧ s.on .twin TwinR.TWIN_CFG_TIME_EN = true ∧ s.f .time TimeR.TIME_CTL_SRC = 2 ∧
      s.on .time TimeR.TIME_STAT_HOLDOVER = false) ∧
    (∃ (c : Src) (force : Bool) (s : State),
      s.takes c .twin 0x050 (BitVec.ofNat 32 (1 + 32 * b2n force)) allOnes = true ∧ s.reqCause force = none) ∧
    (∃ (c : Src) (force : Bool) (cause : Nat) (s : State),
      s.takes c .twin 0x050 (BitVec.ofNat 32 (1 + 32 * b2n force)) allOnes = true ∧ s.reqCause force = some cause) ∧
    (∃ (c : Src) (s : State),
      s.takesF c .twin TwinR.SD_CTL_CONFIRM 1 = true ∧ s.sdState = 1) ∧
    (∃ (c : Src) (s : State),
      s.takesF c .twin TwinR.SD_CTL_CANCEL 1 = true ∧ s.sdState = 1) ∧
    (∃ (c : Src) (s : State),
      s.takesF c .twin TwinR.SD_CTL_REENTER 1 = true ∧ s.sdState = 2 ∧
      (s.tw = twAlone ∨ s.tw = twPaired ∧ s.f .twin TwinR.TWIN_STAT_PEER_SD = 0)) ∧
    (∃ (c : Src) (s : State),
      s.takesF c .twin TwinR.SD_CTL_REPLACE 1 = true) ∧
    (∃ (c : Src) (p : Path) (s : State),
      s.takesF c .twin TwinR.SD_CTL_REPLACE 1 = true ∧ s.method (pathAB (laneOf p)) ≠ 3 ∧ s.sg p ≠ sgDisabled ∧ s.oos p = false ∧
      s.oos (otherPath p) = false ∧ allPaths.all (fun q => (q == p) != (s.path q).record) = true) ∧
    (∃ (s : State),
      s.sdState = 3 ∧ s.reenterBlock = none) ∧
    (∃ (s : State),
      s.sdState = 3) ∧
    (∃ (c : Src) (v : Bool) (s : State),
      s.takesF c .twin TwinR.TWIN_CFG_EN (b2n v) = true ∧ s.on .twin TwinR.TWIN_CFG_EN ≠ v) :=
  ⟨⟨.spi, 1, 15#4, stageUp 0 [], by decide +kernel⟩,
    ⟨1, ((stageUp 0 []).setF (gp 1) GroupR.MIG_STAT_STATE 1).setF (gp 1) GroupR.MIG_STAT_FROM 8, by decide +kernel⟩,
    ⟨1, ((((stageUp 0 []).setF (gp 1) GroupR.MIG_STAT_STATE 2).setF (gp 1) GroupR.MIG_STAT_FROM 8).setF (gp 1) GroupR.MIG_STAT_TO 5).setF (ep 5) StageR.ENG_STAT_STATE 4, by decide +kernel⟩,
    ⟨up.setF .twin TwinR.TWIN_CFG_EN 1, by decide +kernel⟩,
    ⟨0x7, true, ((paired 2).setF .twin TwinR.LINK_CNT_RESENDS 254).setF .twin TwinR.TWIN_STAT_SYNCING 1, by decide +kernel⟩,
    ⟨paired 1, by decide +kernel⟩,
    ⟨{ peerHello with id := false }, 3, paired 2, by decide +kernel⟩,
    ⟨peerHello, 1, (paired 0).setF .twin TwinR.TWIN_STAT_STATE 1, by decide +kernel⟩,
    ⟨BitVec.ofInt 64 (-300), 1699, (paired 2).setF .twin TwinR.TWIN_CFG_TIME_EN 1, by decide +kernel⟩,
    ⟨9, 0x20000, 3, 2, pinnedPair, by decide +kernel⟩,
    ⟨9, 0x20000, 3, 3, pinnedPair.setF (pp 9) PathR.PIN_TWIN_VALID 1, by decide +kernel⟩,
    ⟨9, peerConfig, (paired 1).setF (pp (pathAB (laneOf 9))) Hdr.PAGE_CTL_OOS 1, by decide +kernel⟩,
    ⟨9, peerConfig, (pairIn 9).modTwin (fun x => { x with cfg := [((otherPath 9).val, some (ownConfig (pairIn 9) (otherPath 9)))] }), by decide +kernel⟩,
    ⟨503, 7, 9, paired 2, by decide +kernel⟩,
    ⟨0x00400010, [0xA5], paired 2, by decide +kernel⟩,
    ⟨5, paired 1, by decide +kernel⟩,
    ⟨{ cells := [(0x00400000, 3)], desc := [(3, 2, 1)], armed := [] }, (paired 2).setF .twin TwinR.TWIN_STAT_SYNCING 1, by decide +kernel⟩,
    ⟨((paired 2).setF .twin TwinR.LINK_STAT_LINK_UP 0).setF .twin TwinR.TWIN_STAT_STATE 3, by decide +kernel⟩,
    ⟨(((paired 2).setF .twin TwinR.LINK_STAT_LINK_UP 0).setF .twin TwinR.TWIN_STAT_STATE 4).setF .twin TwinR.LINK_STAT_HB_OK 0, by decide +kernel⟩,
    ⟨(((paired 2).setF .twin TwinR.LINK_STAT_LINK_UP 0).setF .twin TwinR.TWIN_STAT_STATE 4).setF .twin TwinR.LINK_STAT_HB_OK 0, by decide +kernel⟩,
    ⟨((paired 2).setF .twin TwinR.TWIN_CFG_TIME_EN 1).setF .time TimeR.TIME_CTL_SRC 2, by decide +kernel⟩,
    ⟨.spi, true, paired 1, by decide +kernel⟩,
    ⟨.spi, false, 3, pairIn 9, by decide +kernel⟩,
    ⟨.spi, (paired 2).setF .twin TwinR.SD_STAT_SD_STATE 1, by decide +kernel⟩,
    ⟨.spi, (paired 2).setF .twin TwinR.SD_STAT_SD_STATE 1, by decide +kernel⟩,
    ⟨.spi, (paired 2).setF .twin TwinR.SD_STAT_SD_STATE 2, by decide +kernel⟩,
    ⟨.spi, (paired 2).setF .twin TwinR.SD_STAT_SD_STATE 2, by decide +kernel⟩,
    ⟨.spi, 9, (unplaced 9 2).setF (pp 9) PathR.TRN_STAT_STATE 9, by decide +kernel⟩,
    ⟨(paired 2).setF .twin TwinR.SD_STAT_SD_STATE 3, by decide +kernel⟩,
    ⟨(paired 2).setF .twin TwinR.SD_STAT_SD_STATE 3, by decide +kernel⟩,
    ⟨.spi, false, paired 2, by decide +kernel⟩⟩

/-- The hypotheses of each clause of SupplyResults can be met. -/
theorem witness_SupplyResults :
    (∃ (b : Bool) (s : State),
      s.good b = false ∧ s.device = .off) ∧
    (∃ (b : Bool) (s : State),
      s.good b = false ∧ s.device = .ready ∧ s.sel = b2n (!b) ∧ s.good (!b) = false) ∧
    (∃ (b : Bool) (s : State),
      s.good b = true ∧ s.device = .ready) ∧
    (∃ (s : State),
      s.device = .ready ∧ s.sel = 1 ∧ s.good false = true ∧ s.forceB = false) ∧
    (∃ (c : Src) (v : Bool) (s : State),
      s.takesF c .supply SupplyR.SUP_CTL_FORCE_B (b2n v) = true ∧ s.forceB ≠ v) ∧
    (∃ (r : Fin 6) (s : State),
      s.failable = true ∧ (s.good false = true ∨ s.good true = true)) ∧
    (∃ (dvc dvd : BitVec 24) (reached : Bool) (s : State),
      s.supply.testing = true ∧ reached = true ∧ dvc.toNat ≤ 300000 ∧ 0 < dvc.toNat + dvd.toNat ∧ s.rehState ≠ 1 ∧
      s.reh.toDark = false) ∧
    (∃ (vina vinb pin hup : BitVec 16) (s : State),
      s.houseOn = true ∧ s.supply.hupZero = false) ∧
    (∃ (s : State),
      s.failable = true ∧ s.good false = false ∧ s.good true = false) ∧
    (∃ (hup : BitVec 16) (s : State),
      s.device = .failing ∧ s.flash.run = none) ∧
    (∃ (b : Bool) (s : State),
      s.good b = false) :=
  ⟨⟨true, { up with device := .off }, by decide +kernel⟩,
    ⟨true, up.setF .supply (goodFld false) 0, by decide +kernel⟩,
    ⟨false, (up.setF .supply (goodFld false) 1).setF .supply (goodFld true) 1, by decide +kernel⟩,
    ⟨(up.setF .supply (goodFld false) 1).setF .supply SupplyR.SUP_STAT_SEL 1, by decide +kernel⟩,
    ⟨.spi, true, up.setF .supply (goodFld true) 1, by decide +kernel⟩,
    ⟨1, (up.setF .supply (goodFld true) 1).setF .supply SupplyR.RAIL_STAT_IN_WIN 0x3F, by decide +kernel⟩,
    ⟨3333, 1, true, up.modSupply (fun x => { x with testing := true }), by decide +kernel⟩,
    ⟨4800, 0, 9, 2400, ((up.setF .supply SupplyR.HUP_CAP_CAP 4700).modSupply (fun x => { x with hupZero := false })).setF .supply SupplyR.HUP_ENERGY_E_AVAIL 1023, by decide +kernel⟩,
    ⟨up.setF .supply (goodFld false) 0, by decide +kernel⟩,
    ⟨1500, { up with device := .failing }, by decide +kernel⟩,
    ⟨false, up.setF .supply (goodFld false) 0, by decide +kernel⟩⟩

/-- The hypotheses of each clause of FlashResults can be met. -/
theorem witness_FlashResults :
    (∃ (c : Src) (region : BitVec 4) (s : State),
      s.nvmTakes c 1 region = true ∧ s.flashFree = true ∧ 213 ≤ s.eAvail) ∧
    (∃ (c : Src) (region : BitVec 4) (s : State),
      s.nvmTakes c 1 region = true ∧ s.flashFree = true ∧ s.eAvail < 68) ∧
    (∃ (c : Src) (region : BitVec 4) (s : State),
      s.nvmTakes c 2 region = true ∧ s.device = .ready ∧ s.flash.run = none ∧ s.flash.queue = []) ∧
    (∃ (c : Src) (region : BitVec 4) (s : State),
      s.nvmTakes c 3 region = true ∧ s.flashFree = true ∧ 52 ≤ s.eAvail) ∧
    (∃ (c : Src) (region : BitVec 4) (s : State),
      s.takes c .nvm 0x040 (BitVec.ofNat 32 (3 * 2 ^ 28 + region.toNat * 2 ^ 24)) allOnes = true ∧
      s.f .nvm NvmR.NVM_STAT_STATE = 0 ∧ cmdArgsOk 3 region.toNat (s.f .nvm NvmR.NVM_ADDR_ADDR) (s.f .nvm NvmR.NVM_LEN_LEN) = false) ∧
    (∃ (c : Src) (region : BitVec 4) (s : State),
      s.nvmTakes c 4 region = true ∧ s.flashFree = true ∧ 19 ≤ s.eAvail) ∧
    (∃ (ok : Bool) (r addr len : Nat) (rec0 : List Byte) (s : State),
      s.flash.run = some (.host 3 r addr len, rec0) ∧ r ≤ 1 ∧ addr < regionSize r ∧ s.flash.queue = [] ∧ s.rehState ≠ 1 ∧
      s.reh.toDark = false) :=
  ⟨⟨.spi, 6, (up.setF .nvm NvmR.NVM_LEN_LEN 4).setF .supply SupplyR.HUP_ENERGY_E_AVAIL 213, by decide +kernel⟩,
    ⟨.spi, 6, (up.setF .nvm NvmR.NVM_LEN_LEN 4).setF .supply SupplyR.HUP_ENERGY_E_AVAIL 67, by decide +kernel⟩,
    ⟨.spi, 8, (up.setF .nvm NvmR.NVM_LEN_LEN 1024).setF .nvm NvmR.NVM_ADDR_ADDR 0xFFC00, by decide +kernel⟩,
    ⟨.spi, 1, (up.setF .nvm NvmR.NVM_ADDR_ADDR 0x3F000).setF .supply SupplyR.HUP_ENERGY_E_AVAIL 52, by decide +kernel⟩,
    ⟨.spi, 2, up, by decide +kernel⟩,
    ⟨.spi, 0, (up.setF .nvm NvmR.NVM_LEN_LEN 1024).setF .supply SupplyR.HUP_ENERGY_E_AVAIL 1023, by decide +kernel⟩,
    ⟨true, 1, 0x3F000, 0, [], up.modFlash (fun x => { x with run := some (.host 3 1 0x3F000 0, []), bytes := [(0x7F004, 3)] }), by decide +kernel⟩⟩

/-- The hypotheses of each clause of PowerStateResults can be met. -/
theorem witness_PowerStateResults :
    (∃ (c : Src) (g : Grp) (s : State),
      s.takesF c (gp g) GroupR.PWR_CTL_REQ rqRun = true ∧ s.overTemp g = false ∧ s.busyOf (gp g) = .no ∧
      (s.pw g = pwInt ∨ s.pw g = pwOff)) ∧
    (∃ (c : Src) (g : Grp) (s : State),
      s.takesF c (gp g) GroupR.PWR_CTL_REQ rqRun = true ∧ s.overTemp g = false ∧ s.busyOf (gp g) = .no ∧ s.pwMoving g = true) ∧
    (∃ (c : Src) (g : Grp) (s : State),
      s.takesF c (gp g) GroupR.PWR_CTL_REQ rqInt = true ∧ s.overTemp g = false ∧ s.busyOf (gp g) = .no ∧ s.pw g = pwRun) ∧
    (∃ (c : Src) (g : Grp) (s : State),
      s.takesF c (gp g) GroupR.PWR_CTL_REQ rqOff = true ∧ s.busyOf (gp g) = .no ∧ (s.pw g = pwRun ∨ s.pw g = pwInt)) ∧
    (∃ (g : Grp) (s : State),
      s.pwMoving g = true ∧ (s.grp g).pend = none ∧ (s.grp g).target = rqOff ∧ s.device = .ready) ∧
    (∃ (g : Grp) (s : State),
      s.pwMoving g = true ∧ (s.grp g).pend = none ∧ (s.grp g).target = rqInt ∧ s.device = .ready ∧ s.levelWake g = false) ∧
    (∃ (g : Grp) (s : State),
      s.pw g = pwRun ∧ (s.grp g).pend = none ∧ s.on (gp g) GroupR.PWR_CTL_AUTO_EN = true ∧
      s.on (gp g) GroupR.PWR_CTL_WAKE_HOLD = false ∧ s.busyOf (gp g) = .no ∧ s.grpIdle g = true ∧ s.device = .ready ∧
      s.overTemp g = false) ∧
    (∃ (c : Src) (g : Grp) (s : State),
      s.takesF c (gp g) GroupR.PWR_CTL_WAKE_NOW 1 = true ∧ s.pw g = pwInt ∧ s.busyOf (gp g) = .no) ∧
    (∃ (c : Src) (s : State),
      s.takes c .pstate 0x040 0xDA01 allOnes = true) ∧
    (∃ (s : State),
      s.device = .enteringDark ∧ allGroups.all (fun g => s.pw g == pwOff) = true ∧ s.flash.run = none ∧ s.flash.queue = []) ∧
    (∃ (porst : Bool) (s : State),
      s.device = .dark) :=
  ⟨⟨.spi, 7, up.setF (gp 7) GroupR.PWR_STAT_STATE 3, by decide +kernel⟩,
    ⟨.spi, 7, (up.setF (gp 7) GroupR.PWR_STAT_STATE 4).setGrp 7 { up.grp 7 with pend := some (3, 1, true) }, by decide +kernel⟩,
    ⟨.um 0, 0, up, by decide +kernel⟩,
    ⟨.twt, 3, up.setF (gp 3) GroupR.PWR_STAT_STATE 2, by decide +kernel⟩,
    ⟨2, (((up.setF (gp 2) GroupR.PWR_STAT_STATE 5).setGrp 2 { up.grp 2 with target := 3, byHost := true }).setF (pp 32) PathR.RX_STAT_SD 1).setF (gp 2) GroupR.PLL_STAT_A_LOCK 1, by decide +kernel⟩,
    ⟨2, (up.setF (gp 2) GroupR.PWR_STAT_STATE 4).setGrp 2 { up.grp 2 with target := 2 }, by decide +kernel⟩,
    ⟨5, up.setF (gp 5) GroupR.PWR_CTL_AUTO_EN 1, by decide +kernel⟩,
    ⟨.spi, 4, up.setF (gp 4) GroupR.PWR_STAT_STATE 2, by decide +kernel⟩,
    ⟨.spi, up, by decide +kernel⟩,
    ⟨allGroups.foldl (fun s g => s.setF (gp g) GroupR.PWR_STAT_STATE 3) { up with device := .enteringDark }, by decide +kernel⟩,
    ⟨false, ({ up with device := .dark }).setF .pstate PstateR.DEV_STAT_DARK_EXITS 0xFFFE, by decide +kernel⟩⟩

/-- The hypotheses of each clause of CalibrationResults can be met. -/
theorem witness_CalibrationResults :
    (∃ (i : Fin 9) (reading : BitVec 12) (twin : List (BitVec 3 × Byte × BitVec 16)) (s : State),
      reading.toInt < 8 * (s.f .therm ThermR.OT_CFG_OT_THR : Int)) ∧
    (∃ (i : Fin 9) (reading : BitVec 12) (twin : List (BitVec 3 × Byte × BitVec 16)) (s : State),
      8 * (s.f .therm ThermR.OT_CFG_OT_THR : Int) ≤ reading.toInt ∧ tabGet (fun _ => 0) s.cal.hot i.val = 1 ∧ s.rehOn = false) ∧
    (∃ (c : Src) (g : Grp) (s : State),
      s.takesF c (gp g) GroupR.CAL_CMD_RUN 1 = true ∧ s.calBlocked g = false ∧ s.calOn g = false ∧ s.calBlocks g ≠ 0) ∧
    (∃ (c : Src) (g : Grp) (s : State),
      s.takesF c (gp g) GroupR.CAL_CMD_RUN 1 = true ∧ (s.calBlocked g = true ∨ s.calOn g = true)) ∧
    (∃ (g : Grp) (s : State),
      s.f (gp g) GroupR.CAL_CTL_PERIOD ≠ 0 ∧ s.calBlocked g = false ∧ s.calOn g = false ∧ s.calBlocks g ≠ 0) ∧
    (∃ (g : Grp) (k m : Nat) (r : Bool) (s : State),
      (s.calRec g).pend = some (k, r, m) ∧ s.calBlocked g = false ∧ s.calOn g = false ∧ m % 64 ≠ 0) ∧
    (∃ (g : Grp) (l : List CalRes) (s : State),
      s.calState g = 1 ∧ lowBlock (s.calRec g).mask < 6 ∧ lowBlock ((s.calRec g).mask - 2 ^ lowBlock (s.calRec g).mask) < 6) ∧
    (∃ (g : Grp) (l : List CalRes) (s : State),
      s.calState g = 1 ∧ (s.calRec g).mask = 2 ^ lowBlock (s.calRec g).mask ∧ lowBlock (s.calRec g).mask < 6 ∧
      (s.calRec g).ramp = false ∧ (grpPaths g).all (fun p => (s.ramp p).isEmpty) = true) ∧
    (∃ (c : Src) (p : Path) (s : State),
      s.takesF c (gp (pathGrp p)) GroupR.CAL_CMD_APPLY 1 = true) ∧
    (∃ (c : Src) (g : Grp) (s : State),
      s.takesF c (gp g) GroupR.CAL_CMD_ABORT 1 = true ∧ s.calOn g = true) ∧
    (∃ (c : Src) (p : Path) (skew : Bool) (paths : BitVec 16) (s : State),
      s.takes c (gp (pathGrp p)) 0x1A0 (BitVec.ofNat 32 (b2n skew * 2 ^ 16 + paths.toNat)) allOnes = true ∧
      paths.getLsbD (pathIdx p) = true ∧ s.f (pp p) PathR.SWING_STAT_AVAIL = 0 ∧ s.grpDown (pathGrp p) = false) ∧
    (∃ (p : Path) (l : List SliceRes) (s : State),
      (s.path p).disrupt = true) :=
  ⟨⟨8, 879, [], up, by decide +kernel⟩,
    ⟨8, 0x7FF, [], { up with cal := { up.cal with hot := [(8, 1)] } }, by decide +kernel⟩,
    ⟨.spi, 1, ((upP 9).setF .therm (ThermR.THERM_T_NOW 1) 0x123).setF (gp 1) GroupR.CAL_CTL_BLOCKS 0x3C, by decide +kernel⟩,
    ⟨.spi, 6, up.setF (gp 6) Hdr.PAGE_CTL_HOLD 1, by decide +kernel⟩,
    ⟨1, ((upP 9).setF (gp 1) GroupR.CAL_CTL_PERIOD 1).setF (gp 1) GroupR.CAL_CTL_BLOCKS 0x20, by decide +kernel⟩,
    ⟨1, 3, 1, true, (upP 9).modCal 1 (fun c => { c with pend := some (3, true, 1) }), by decide +kernel⟩,
    ⟨1, [], (upP 16).setF (gp 1) GroupR.CAL_STAT_STATE 1 |>.modCal 1 (fun c => { c with mask := 0x21 }), by decide +kernel⟩,
    ⟨1, [], (upP 16).setF (gp 1) GroupR.CAL_STAT_STATE 1 |>.modCal 1 (fun c => { c with mask := 0x10 }), by decide +kernel⟩,
    ⟨.spi, 17, (up.setPend 17 [(0, [9, 22]), (1, [-300])]).setPend 16 [(4, [7])], by decide +kernel⟩,
    ⟨.spi, 1, (up.setF (gp 1) GroupR.CAL_STAT_STATE 2).setRamp 17 [(1, [8])], by decide +kernel⟩,
    ⟨.spi, 9, true, 0xFFFF, (upP 9).setF (pp 9) PathR.SWING_STAT_AVAIL 0, by decide +kernel⟩,
    ⟨9, [{ slice := 0, ok := true, ofs := 1, gain := 2, skew := 3 }], (upP 9).modPath 9 (fun x => { x with disrupt := true }), by decide +kernel⟩⟩

/-- The hypotheses of each clause of RehearsalAndFuseResults can be met. -/
theorem witness_RehearsalAndFuseResults :
    (∃ (c : Src) (force : Bool) (s : State),
      s.rehTakes c 1 0 force = true) ∧
    (∃ (c : Src) (target : BitVec 4) (force : Bool) (s : State),
      s.rehTakes c 2 target.toNat force = true) ∧
    (∃ (c : Src) (target : BitVec 4) (force : Bool) (cause : Nat) (s : State),
      s.takes c .reh 0x040 (BitVec.ofNat 32 (2 * 2 ^ 28 + target.toNat * 2 ^ 8 + 2 * b2n force)) allOnes = true ∧
      s.rehCause 2 target.toNat force = some cause) ∧
    (∃ (c : Src) (target : BitVec 4) (s : State),
      s.rehTakes c 3 target.toNat false = true) ∧
    (∃ (c : Src) (s : State),
      s.takes c .reh 0x040 (BitVec.ofNat 32 (4 * 2 ^ 28)) allOnes = true ∧ s.rehRuns = true) ∧
    (∃ (c : Src) (s : State),
      s.takes c .reh 0x040 (BitVec.ofNat 32 (5 * 2 ^ 28)) allOnes = true ∧ s.rehState = 0 ∧ s.fuseSession 0 ≠ [] ∧
      s.flashFree = true ∧ 105 ≤ s.eAvail) ∧
    (∃ (l : List Byte) (s : State),
      s.flash.run = some (.fuseSession, l) ∧ s.rehState = 4 ∧ s.reh.toDark = false) ∧
    (∃ (u : Option Grp) (k : Fin 16) (r : RehRes) (s : State),
      s.rehOn = true ∧ s.rehUnits.contains u = true ∧ s.rehNext u = some k.val ∧ u.any (fun g => s.pw g != pwRun) = false ∧
      r.fails = []) ∧
    (∃ (s : State),
      s.rehOn = true ∧ s.rehAllDone = true ∧ s.rehScope ≠ 1) :=
  ⟨⟨.spi, false, up.setF .supply SupplyR.HUP_ENERGY_E_AVAIL 52, by decide +kernel⟩,
    ⟨.spi, 7, true, up.setF .supply SupplyR.HUP_ENERGY_E_AVAIL 17, by decide +kernel⟩,
    ⟨.spi, 8, true, 2, up.setF .supply SupplyR.HUP_ENERGY_E_AVAIL 17, by decide +kernel⟩,
    ⟨.spi, 8, up.setF .supply SupplyR.HUP_ENERGY_E_AVAIL 17, by decide +kernel⟩,
    ⟨.spi, ((up.setF .reh RehR.REH_STAT_STATE 2).setF .reh RehR.REH_STAT_SCOPE 2).modReh (fun x => { x with opened := true }), by decide +kernel⟩,
    ⟨.spi, (up.setF .supply SupplyR.HUP_ENERGY_E_AVAIL 105).modReh (fun x => { x with soft := [{ word := 0xC0000001, fused := false, test := 0 }] }), by decide +kernel⟩,
    ⟨[], ((up.setF .reh RehR.REH_STAT_STATE 4).modReh (fun x => { x with burning := [0], soft := [{ word := 0xC0000001, fused := false, test := 0 }] })).modFlash (fun x => { x with run := some (.fuseSession, []) }), by decide +kernel⟩,
    ⟨some 3, 9, { dur := 7, fails := [], errs := [], diffs := [] }, (((up.setF .reh RehR.REH_STAT_STATE 2).setF .reh RehR.REH_STAT_SCOPE 2).setF .reh RehR.REH_STAT_TARGET 3).modReh (fun x => { x with done := [(56, 1)] }), by decide +kernel⟩,
    ⟨(((up.setF .reh RehR.REH_STAT_STATE 2).setF .reh RehR.REH_STAT_SCOPE 2).setF .reh RehR.REH_STAT_TARGET 3).modReh (fun x => { x with done := [(56, 1), (57, 1), (58, 1), (59, 1), (60, 1), (61, 1), (62, 1), (63, 2)] }), by decide +kernel⟩⟩

/-- The hypotheses of each clause of SpiResults can be met. -/
theorem witness_SpiResults :
    (∃ (mode3 : Bool) (addr : BitVec 32) (s : State),
      s.spiTakes .write32 addr = true) ∧
    (∃ (mode3 : Bool) (addr : BitVec 32) (s : State),
      s.spiTakes .write128 addr = true) ∧
    (∃ (mode3 : Bool) (addr : BitVec 32) (s : State),
      s.spiHears = true ∧ s.spi.open_ = none ∧
      (s.refuses { src := .spi, kind := .write32, addr := addr, cost := opCost .write32 addr.toNat } = true ∨ s.admits s.admQ (opCost .write32 addr.toNat) = false)) ∧
    (∃ (mode3 : Bool) (addr : BitVec 32) (full : Bool) (s : State),
      s.spiTakes .read32 addr = true ∧ s.spi.ret.length < 4) ∧
    (∃ (mode3 : Bool) (addr : BitVec 32) (full : Bool) (s : State),
      s.spiTakes .read128 addr = true ∧ s.spi.ret.length < 4) ∧
    (∃ (mode3 full : Bool) (r : SpiRet) (l : List SpiRet) (s : State),
      s.spiHears = true ∧ s.spi.ret = r :: l ∧ (s.spiHead = 1 ∨ s.spiHead = 3)) ∧
    (∃ (data : BitVec 128) (x : Access) (s : State),
      s.spi.open_ = some x) ∧
    (∃ (mode3 : Bool) (s : State),
      s.spiHears = true ∧ s.spi.open_ = none) ∧
    (∃ (mode3 : Bool) (s : State),
      s.spiHears = true ∧ s.spi.open_ ≠ none) ∧
    (∃ (s : State),
      s.spi.open_ ≠ none) :=
  ⟨⟨true, 0x00000014, (up.setF .house HouseR.FAB_SPEED_RATE 900), by decide +kernel⟩,
    ⟨true, 0x00000080, (up.setF .house HouseR.FAB_SPEED_RATE 900), by decide +kernel⟩,
    ⟨false, 0x00000014, { up with access := List.replicate 64 { src := .twt, kind := .read32, addr := 0, cost := 100 } }, by decide +kernel⟩,
    ⟨true, 0x00000040, true, (up.setF .house HouseR.FAB_SPEED_RATE 900).modSpi (fun x => { x with ret := [⟨4, false, some (some 7)⟩, ⟨8, false, none⟩] }), by decide +kernel⟩,
    ⟨true, 0x00000040, true, (up.setF .house HouseR.FAB_SPEED_RATE 900).modSpi (fun x => { x with ret := [⟨4, false, some (some 7)⟩, ⟨8, false, none⟩] }), by decide +kernel⟩,
    ⟨false, true, ⟨4, false, some none⟩, [], up.modSpi (fun x => { x with ret := [⟨4, false, some none⟩] }), by decide +kernel⟩,
    ⟨0x101, { src := .spi, kind := .write32, addr := 0x14, cost := 32 }, up.modSpi (fun x => { x with open_ := some { src := .spi, kind := .write32, addr := 0x14, cost := 32 } }), by decide +kernel⟩,
    ⟨true, up, by decide +kernel⟩,
    ⟨true, up.modSpi (fun x => { x with open_ := some { src := .spi, kind := .write32, addr := 0x14, cost := 32 } }), by decide +kernel⟩,
    ⟨up.modSpi (fun x => { x with open_ := some { src := .spi, kind := .write32, addr := 0x14, cost := 32 } }), by decide +kernel⟩⟩

/-- The hypotheses of each clause of TwoWireResults can be met. -/
theorem witness_TwoWireResults :
    (∃ (p : BitVec 16) (s : State),
      s.twtHears = true ∧ s.twt.deaf = false ∧ s.twt.xfer = .none ∧ s.access = []) ∧
    (∃ (tScl tLow : BitVec 16) (s : State),
      s.twtStart.2 = true ∧ (s.twtStart.1.twtOffer (s.twtStart.1.twtLead tScl.toNat tLow.toNat)).2 = true) ∧
    (∃ (tScl tLow : BitVec 16) (s : State),
      s.twt.xfer = .read ∧ s.twt.mute = false) ∧
    (∃ (b : Byte) (s : State),
      s.twt.xfer = .write ∧ s.twt.seen = true ∧
      s.admits (s.admQ - bufCost s.twt.window.toNat s.twt.base s.twt.buf) (bufCost s.twt.window.toNat s.twt.base (s.twt.buf.filter (fun e => e.1 != s.twt.next) ++ [(s.twt.next, b)])) = true ∧
      s.bufRefused s.twt.window.toNat s.twt.base (s.twt.buf.filter (fun e => e.1 != s.twt.next) ++ [(s.twt.next, b)]) = false) ∧
    (∃ (s : State),
      s.twt.xfer = .write ∧ s.twt.buf ≠ []) ∧
    (∃ (s : State),
      s.twtHears = true ∧ s.twt.deaf = false ∧ s.twt.xfer ≠ .read) ∧
    (∃ (k : TwtTmo) (s : State),
      s.twtHears = true ∧ s.twt.xfer ≠ .none) ∧
    (∃ (s : State),
      s.promptDue = true) ∧
    (∃ (mine : Bool) (s : State),
      s.promptDue = true) ∧
    (∃ (c : Src) (addr : BitVec 7) (rlen wlen : BitVec 6) (s : State),
      s.takes c .twc 0x044 (BitVec.ofNat 32 (2 ^ 28 + addr.toNat * 2 ^ 16 + rlen.toNat * 256 + wlen.toNat)) allOnes = true ∧
      s.on .twc TwcR.TWC_CFG_EN = true ∧ s.twcOn = false ∧ s.twc.stuck = false ∧ rlen.toNat ≤ 32 ∧ wlen.toNat ≤ 32) ∧
    (∃ (c : Src) (s : State),
      s.takesF c .twc TwcR.TWC_CMD_OP 2 = true ∧ s.twcOn = true) ∧
    (∃ (s : State),
      s.land.vio = true ∧ s.twcOn = true ∧ s.twc.abort = false ∧ s.twc.retries < s.f .twc TwcR.TWC_CFG_RETRIES) ∧
    (∃ (s : State),
      s.land.vio = true ∧ s.twcOn = true ∧ s.twc.abort = false ∧ s.f .twc TwcR.TWC_CFG_RETRIES ≤ s.twc.retries) ∧
    (∃ (sda started : Bool) (s : State),
      s.land.vio = true ∧ s.twcOn = true) ∧
    (∃ (read : List Byte) (s : State),
      s.land.vio = true ∧ s.twcOn = true ∧ s.twc.abort = false) ∧
    (∃ (i : BitVec 6) (read : List Byte) (s : State),
      s.land.vio = true ∧ s.twcOn = true ∧ s.twc.abort = false) ∧
    (∃ (freed : Bool) (s : State),
      s.land.vio = true ∧ s.twc.check = true ∧ s.twcOn = false) ∧
    (∃ (s : State),
      s.land.vio = false) ∧
    (∃ (whole : Bool) (s : State),
      s.twt.xfer = .read) :=
  ⟨⟨0xFFFF, up.setF .house HouseR.TWT_WINDOW_WINDOW 0x70, by decide +kernel⟩,
    ⟨1000, 2000, (up.setF .house HouseR.FAB_SPEED_RATE 900), by decide +kernel⟩,
    ⟨1000, 2000, (up.setF .twt TwtR.TWT_STAT_POINTER 0xFFFE).modTwt (fun x => { x with xfer := .read }), by decide +kernel⟩,
    ⟨0xA5, (up.setF .house HouseR.FAB_SPEED_RATE 900).modTwt (fun x => { x with xfer := .write, seen := true, base := 0, next := 63, buf := [(62, 1)] }), by decide +kernel⟩,
    ⟨up.modTwt (fun x => { x with xfer := .write, seen := true, base := 0x1000, next := 0, last := 63, buf := [(62, 1), (63, 1), (0, 2)] }), by decide +kernel⟩,
    ⟨up.modTwt (fun x => { x with xfer := .write, seen := true, buf := [(62, 1)] }), by decide +kernel⟩,
    ⟨.stall, up.modTwt (fun x => { x with xfer := .write, seen := true, buf := [(62, 1)] }), by decide +kernel⟩,
    ⟨up.setF .house HouseR.ATTN_STAT_PROMPT_REQ 1, by decide +kernel⟩,
    ⟨true, up.setF .house HouseR.ATTN_STAT_PROMPT_REQ 1, by decide +kernel⟩,
    ⟨.spi, 0x50, 32, 32, up.setF .twc TwcR.TWC_CFG_EN 1, by decide +kernel⟩,
    ⟨.spi, up.setF .twc TwcR.TWC_STAT_STATE 3, by decide +kernel⟩,
    ⟨(up.setF .twc TwcR.TWC_STAT_STATE 3).setF .twc TwcR.TWC_CFG_RETRIES 7, by decide +kernel⟩,
    ⟨(up.setF .twc TwcR.TWC_STAT_STATE 3).setF .twc TwcR.TWC_CFG_RETRIES 0, by decide +kernel⟩,
    ⟨true, true, up.setF .twc TwcR.TWC_STAT_STATE 3, by decide +kernel⟩,
    ⟨[1, 2, 3], (up.setF .twc TwcR.TWC_STAT_STATE 3).modTwc (fun x => { x with rlen := 2 }), by decide +kernel⟩,
    ⟨5, [], up.setF .twc TwcR.TWC_STAT_STATE 3, by decide +kernel⟩,
    ⟨false, (up.setF .twc TwcR.TWC_STAT_STATE 1).modTwc (fun x => { x with check := true }), by decide +kernel⟩,
    ⟨{ up with land := { up.land with vio := false } }, by decide +kernel⟩,
    ⟨true, up.modTwt (fun x => { x with xfer := .read, regs := 65535 }), by decide +kernel⟩⟩

/-- The hypotheses of each clause of EventAndResetResults can be met. -/
theorem witness_EventAndResetResults :
    (∃ (c : Src) (p : Page) (bits : Word) (s : State),
      s.takes c p 0x01C bits allOnes = true ∧ s.busyOf p ≠ .rehearsal ∧ s.on .house HouseR.INJ_CTL_ARM = false ∧
      (onesBelow 32 bits).all (fun k => !(detectors p).contains k) = true) ∧
    (∃ (c : Src) (p : Page) (kinds : BitVec 4) (s : State),
      s.takes c p 0x028 (kinds.setWidth 32) allOnes = true ∧ kinds = 9) ∧
    (∃ (c : Src) (sensor : BitVec 4) (s : State),
      s.takes c .house 0x0B8 (BitVec.ofNat 32 (0xA5 * 2 ^ 24 + sensor.toNat * 2 ^ 16 + 1)) allOnes = true ∧ sensor.toNat ≤ 8) ∧
    (∃ (row : BitVec 10) (s : State),
      s.on .house HouseR.ECC_INJ_ARM = true) ∧
    (∃ (c : Src) (code : BitVec 16) (s : State),
      s.takes c .house 0x0C0 (BitVec.ofNat 32 (2 ^ 31 + code.toNat)) allOnes = true) ∧
    (∃ (mac row : BitVec 10) (reader : EccReader) (s : State),
      s.houseOn = true ∧ mac.toNat < 512) ∧
    (∃ (mac row : BitVec 10) (reader : EccReader) (s : State),
      s.houseOn = true) ∧
    (∃ (c : Src) (p : Path) (s : State),
      s.takes c .house 0x100 (BitVec.ofNat 32 (2 ^ 8 + p.val)) allOnes = true ∧ s.rstState = 0 ∧ s.busyOf (pp p) = .no) ∧
    (∃ (c : Src) (p : Path) (s : State),
      s.takes c .house 0x100 (BitVec.ofNat 32 (2 ^ 8 + p.val)) allOnes = true ∧ s.rstState = 0 ∧ s.busyOf (pp p) ≠ .no) ∧
    (∃ (c : Src) (g : Grp) (s : State),
      s.takes c .house 0x100 (BitVec.ofNat 32 (2 * 2 ^ 8 + g.val)) allOnes = true ∧ s.rstState = 0 ∧
      (grpPages g).all (fun p => s.busyOf p == .no) = true) ∧
    (∃ (s : State),
      s.land.vio = true ∧ s.device = .ready ∧ s.rstState = 0) ∧
    (∃ (c : Src) (s : State),
      s.takes c .house 0x100 (BitVec.ofNat 32 (0xC3 * 2 ^ 24 + 3 * 2 ^ 8)) allOnes = true) ∧
    (∃ (s : State),
      s.houseReset = true) ∧
    (∃ (s : State),
      (s.device = .ready ∨ s.device = .starting) ∧ s.land.vio = true) ∧
    (∃ (a b d : BitVec 4) (s : State),
      s.device = .fullReset ∧ s.land.vio = true ∧ s.f .house HouseR.RESET_CAUSE_FULL_CAUSE ≠ 5) ∧
    (∃ (s : State),
      s.device = .starting ∧ s.reh.startRun = true ∧ s.rehState = 0) ∧
    (∃ (s : State),
      s.device = .starting ∧ s.reh.startRun = false ∧ allGroups.any (fun g => s.calOn g) = false) ∧
    (∃ (s : State),
      s.land.vio = true) ∧
    (∃ (s : State),
      s.device = .dark ∧ s.good false = false ∧ s.good true = false) ∧
    (∃ (s : State),
      s.rstState = 2) :=
  ⟨⟨.spi, .path 127, 0x80004000, up, by decide +kernel⟩,
    ⟨.um 2, .stage 8, 9, up, by decide +kernel⟩,
    ⟨.spi, 8, up, by decide +kernel⟩,
    ⟨1023, ((up.setF .house HouseR.ECC_INJ_ARM 1).setF .house HouseR.ECC_INJ_MACRO 511).setF .house HouseR.ECC_INJ_NBITS 2, by decide +kernel⟩,
    ⟨.um 7, 0xBEEF, up, by decide +kernel⟩,
    ⟨511, 1023, .engine 8, up.setF (ep 8) StageR.ENG_STAT_STATE 4, by decide +kernel⟩,
    ⟨0, 1, .path 9, up, by decide +kernel⟩,
    ⟨.spi, 127, upP 127, by decide +kernel⟩,
    ⟨.spi, 127, (upP 127).setBusy (pp 127) .rehearsal, by decide +kernel⟩,
    ⟨.um 1, 7, upP 127, by decide +kernel⟩,
    ⟨up.setF .house HouseR.RESET_CNT_HOUSE_RESETS 3, by decide +kernel⟩,
    ⟨.spi, up, by decide +kernel⟩,
    ⟨{ up with houseReset := true }, by decide +kernel⟩,
    ⟨(upP 9).mset 0x00400000 5, by decide +kernel⟩,
    ⟨0xF, 0x9, 0x3, { up with device := .fullReset }, by decide +kernel⟩,
    ⟨({ up with device := .starting }).modReh (fun x => { x with startRun := true }), by decide +kernel⟩,
    ⟨({ up with device := .starting }).setF .house HouseR.START_STAT_PHASE 8, by decide +kernel⟩,
    ⟨upP 9, by decide +kernel⟩,
    ⟨{ up.setF .supply (goodFld false) 0 with device := .dark }, by decide +kernel⟩,
    ⟨(((upP 9).setF .house HouseR.RESET_STAT_LAST_OP 1).setF .house HouseR.RESET_STAT_STATE 2).setF .house HouseR.RESET_STAT_LAST_TARGET 9, by decide +kernel⟩⟩

/-- The hypotheses of each clause of KeyResults can be met. -/
theorem witness_KeyResults :
    (∃ (c : Src) (slot : BitVec 2) (s : State),
      s.keyTakes c 1 0 slot.toNat = true) ∧
    (∃ (c : Src) (slot : BitVec 2) (s : State),
      s.keyWrite c 1 0 slot.toNat false = true) ∧
    (∃ (c : Src) (slot : BitVec 2) (s : State),
      s.keyTakes c 2 0 slot.toNat = true) ∧
    (∃ (c : Src) (slot : BitVec 2) (s : State),
      s.keyWrite c 2 0 slot.toNat false = true) ∧
    (∃ (c : Src) (slot : BitVec 2) (s : State),
      s.keyTakes c 3 0 slot.toNat = true) ∧
    (∃ (c : Src) (value : Byte) (s : State),
      s.keyTakes c 4 value.toNat 0 = true) ∧
    (∃ (c : Src) (value : Byte) (s : State),
      s.keyWrite c 4 value.toNat 0 false = true) ∧
    (∃ (l : List Byte) (slot : Nat) (key : List Byte) (s : State),
      s.flash.run = some (.keyOp, l) ∧ s.security.op = some (1, 0, slot, key) ∧ 105 ≤ s.eAvail ∧ s.rehState ≠ 1 ∧
      s.reh.toDark = false) ∧
    (∃ (l : List Byte) (slot : Nat) (key : List Byte) (s : State),
      s.flash.run = some (.keyOp, l) ∧ s.security.op = some (2, 0, slot, key) ∧ s.rehState ≠ 1 ∧ s.reh.toDark = false) ∧
    (∃ (l : List Byte) (value slot : Nat) (key : List Byte) (s : State),
      s.flash.run = some (.keyOp, l) ∧ s.security.op = some (4, value, slot, key) ∧ s.rehState ≠ 1 ∧ s.reh.toDark = false) ∧
    (∃ (l : List Byte) (slot : Nat) (key : List Byte) (s : State),
      s.flash.run = some (.keyOp, l) ∧ s.security.op = some (1, 0, slot, key) ∧ 105 ≤ s.eAvail ∧ s.rehState ≠ 1 ∧
      s.reh.toDark = false) :=
  ⟨⟨.spi, 1, keyUp, by decide +kernel⟩,
    ⟨.spi, 2, keyUp, by decide +kernel⟩,
    ⟨.spi, 0, keyUp, by decide +kernel⟩,
    ⟨.spi, 3, keyUp, by decide +kernel⟩,
    ⟨.spi, 3, revokedUp, by exact revokedUp_takes⟩,
    ⟨.spi, 64, keyUp, by decide +kernel⟩,
    ⟨.spi, 65, keyUp, by decide +kernel⟩,
    ⟨[], 1, List.replicate 32 0x81, (keyUp.modFlash (fun x => { x with run := some (.keyOp, []) })).modSec (fun x => { x with op := some (1, 0, 1, List.replicate 32 0x81) }), by decide +kernel⟩,
    ⟨[], 1, [], (keyUp.modFlash (fun x => { x with run := some (.keyOp, []) })).modSec (fun x => { x with op := some (2, 0, 1, []), loaded := [(0, []), (1, [1])] }), by decide +kernel⟩,
    ⟨[], 9, 0, [], (keyUp.modFlash (fun x => { x with run := some (.keyOp, []) })).modSec (fun x => { x with op := some (4, 9, 0, []) }), by decide +kernel⟩,
    ⟨[], 0, [1], (keyUp.modFlash (fun x => { x with run := some (.keyOp, []) })).modSec (fun x => { x with op := some (1, 0, 0, [1]) }), by decide +kernel⟩⟩

end Sys2Proof.Machine
end

section
/-!
SUPPORT. The statements of the scope. Every command answers a next state that keeps what `State.After` says of it (tables in canonical
form, the queue), said once over the commands; that a step keeps the canonical form and that every command answers follow from it. Of
the commands that write a register, WING_WRITE is subject to admission (R14).
-/
namespace Sys2Proof.Machine

/-- Every command answers a next state that comes after its own, by the law of the operation that is its meaning. -/
theorem exec_after (c : Instr) (s : State) : Answers c s s.After :=
  have h : s.After s := State.After.refl s
  match c with
  | .fabricSpeedMeasure .. => ⟨_, rfl, State.speedMeasure_after _ _ h⟩
  | .operationTakesEffect => ⟨_, rfl, State.serveAccess_after _ h⟩
  | .registerWrite .. => ⟨_, rfl, State.offerWrite_after _ _ _ _ _ h⟩
  | .wingWrite .. => ⟨_, rfl, State.offerWrite_after _ _ _ _ _ h⟩
  | .wingRead .. => ⟨_, rfl, State.offerRead_after _ _ _ _ h⟩
  | .pageCtlWrite .. => ⟨_, rfl, State.offerReg_after _ _ _ _ _ _ h⟩
  | .evtRawClear .. => ⟨_, rfl, State.offerReg_after _ _ _ _ _ _ h⟩
  | .violCounterWrite .. => ⟨_, rfl, State.offerReg_after _ _ _ _ _ _ h⟩
  | .twtWindowWrite .. => ⟨_, rfl, State.offerReg_after _ _ _ _ _ _ h⟩
  | .minClr .. => ⟨_, rfl, State.offerAct_after _ _ _ _ h⟩
  | .timeNowRead .. => ⟨_, rfl, State.offerReadReg_after _ _ _ _ h⟩
  | .pllLocked .. => ⟨_, rfl, State.pllLocked_after _ _ _ _ h⟩
  | .pllLossOfLock .. => ⟨_, rfl, State.pllLoss_after _ _ _ h⟩
  | .pllHoldExpiry .. => ⟨_, rfl, State.pllHoldEnd_after _ _ _ h⟩
  | .sigDetChange .. => ⟨_, rfl, State.sdChange_after _ _ _ h⟩
  | .sweepDue .. => ⟨_, rfl, State.sweepBegin_after _ _ h⟩
  | .rotationStart .. => ⟨_, rfl, after_ite _ _ _ _ h (State.rotBegin_after _ _ h)⟩
  | .matchWindowEnd .. => ⟨_, rfl, State.matchEnd_after _ _ _ _ _ h⟩
  | .sliceReleaseEnd .. => ⟨_, rfl, State.sliceReleased_after _ _ _ _ _ _ _ h⟩
  | .swingForce .. => ⟨_, rfl, State.offerAct_after _ _ _ _ h⟩
  | .swingAbandon .. => ⟨_, rfl, State.offerAct_after _ _ _ _ h⟩
  | .cdrLockAcquire .. => ⟨_, rfl, State.lockAcquire_after _ _ _ h⟩
  | .cdrLockLoss .. => ⟨_, rfl, State.lockLoss_after _ _ _ h⟩
  | .adaptUpdate .. => ⟨_, rfl, State.adapt_after _ _ _ h⟩
  | .captureStart .. => ⟨_, rfl, State.offerAct_after _ _ _ _ h⟩
  | .captureStop .. => ⟨_, rfl, State.offerAct_after _ _ _ _ h⟩
  | .captureEnd .. => ⟨_, rfl, State.capEnd_after _ _ _ _ h⟩
  | .trnRestart .. => ⟨_, rfl, State.offerAct_after _ _ _ _ h⟩
  | .anPageReceived .. => ⟨_, rfl, State.anPage_after _ _ _ _ _ _ h⟩
  | .anSetupDone .. => ⟨_, rfl, State.anSetup_after _ _ h⟩
  | .anMaskWrite .. => ⟨_, rfl, State.offerReg_after _ _ _ _ _ _ h⟩
  | .trainingFrameReceived .. => ⟨_, rfl, State.trainFrame_after _ _ _ h⟩
  | .requestAnswered .. => ⟨_, rfl, State.reqAnswered_after _ _ h⟩
  | .requestNoAnswer .. => ⟨_, rfl, State.reqNoAnswer_after _ _ h⟩
  | .localConvergence .. => ⟨_, rfl, State.converge_after _ _ _ h⟩
  | .trainingTimeout .. => ⟨_, rfl, State.timeout_after _ _ h⟩
  | .breakTimeElapsed .. => ⟨_, rfl, State.breakEnd_after _ _ h⟩
  | .restartDelayElapsed .. => ⟨_, rfl, State.restartDelay_after _ _ h⟩
  | .closingFramesSent .. => ⟨_, rfl, State.closingSent_after _ _ h⟩
  | .ignoredActivityCount .. => ⟨_, rfl, State.ignoredCount_after _ _ h⟩
  | .probeSample .. => ⟨_, rfl, State.probeSample_after _ _ _ h⟩
  | .probeWindowEnd .. => ⟨_, rfl, State.probeWindow_after _ _ _ h⟩
  | .alignMark => ⟨_, rfl, State.alignMark_after _ h⟩
  | .internalMark => ⟨_, rfl, State.internalMark_after _ h⟩
  | .markMissing => ⟨_, rfl, State.markMissing_after _ h⟩
  | .slewStep .. => ⟨_, rfl, State.slewStep_after _ _ h⟩
  | .framingLockAcquired .. => ⟨_, rfl, State.framingAcquired_after _ _ _ _ h⟩
  | .framingLockLost .. => ⟨_, rfl, State.framingLost_after _ _ _ _ h⟩
  | .converterLockChange .. => ⟨_, rfl, State.convChange_after _ _ _ _ _ _ h⟩
  | .codewordProcessed .. => ⟨_, rfl, State.codeword_after _ _ _ h⟩
  | .ptpEventMessage .. => ⟨_, rfl, State.ptpMessage_after _ _ _ h⟩
  | .counterSnapshot .. => ⟨_, rfl, State.offerAct_after _ _ _ _ h⟩
  | .fecDegradeWindowEnd .. => ⟨_, rfl, State.degEnd_after _ _ h⟩
  | .prbsCheckerLock .. => ⟨_, rfl, State.prbsLock_after _ _ h⟩
  | .prbsCheckerLoss .. => ⟨_, rfl, State.prbsLose_after _ _ _ _ h⟩
  | .fire .. => ⟨_, rfl, State.offerAct_after _ _ _ _ h⟩
  | .injectionDue .. => ⟨_, rfl, State.injDueNow_after _ _ h⟩
  | .timeStep .. => ⟨_, rfl, State.offerAct_after _ _ _ _ h⟩
  | .timeArm .. => ⟨_, rfl, State.offerAct_after _ _ _ _ h⟩
  | .holdReq .. => ⟨_, rfl, State.offerAct_after _ _ _ _ h⟩
  | .timeRateWrite .. => ⟨_, rfl, State.offerReg_after _ _ _ _ _ _ h⟩
  | .timeUncWrite .. => ⟨_, rfl, State.offerReg_after _ _ _ _ _ _ h⟩
  | .holdoverTimeout => ⟨_, rfl, after_ite _ _ _ _ (State.holdoverBegin_after _ h) h⟩
  | .uncThresholdCrossed => ⟨_, rfl, State.uncCross_after _ h⟩
  | .refclkLost .. => ⟨_, rfl, after_ite _ _ _ _ (State.refLost_after _ _ h) h⟩
  | .refclkPresent .. => ⟨_, rfl, State.refPresent_after _ _ h⟩
  | .refclkStartupTimeout => ⟨_, rfl, after_ite _ _ _ _ h (State.refLost_after _ _ h)⟩
  | .bridgeHandover => ⟨_, rfl, State.bridgeEnd_after _ h⟩
  | .keepaliveReturn => ⟨_, rfl, State.kaReturn_after _ h⟩
  | .kaWindowEnd => ⟨_, rfl, State.kaWindow_after _ h⟩
  | .markCfgWrite .. => ⟨_, rfl, State.offerReg_after _ _ _ _ _ _ h⟩
  | .ppsOutPulse => ⟨_, rfl, State.ppsRise_after _ h⟩
  | .ppsOutEnd => ⟨_, rfl, State.ppsFall_after _ h⟩
  | .ppsInEdge => ⟨_, rfl, State.ppsEdge_after _ h⟩
  | .frameExtract .. => ⟨_, rfl, State.frameExtract_after _ _ _ h⟩
  | .txTailWrite .. => ⟨_, rfl, State.offerReg_after _ _ _ _ _ _ h⟩
  | .frameFetch .. => ⟨_, rfl, State.frameFetch_after _ _ h⟩
  | .frameInsert .. => ⟨_, rfl, State.frameInsert_after _ _ _ h⟩
  | .frameDeadlineExpiry .. => ⟨_, rfl, State.frameExpire_after _ _ h⟩
  | .portDisable .. => ⟨_, rfl, State.offerSet_after _ _ _ _ _ h⟩
  | .umatanRequest .. => ⟨_, rfl, State.umRequest_after _ _ h⟩
  | .umatanResponseQueued .. => ⟨_, rfl, State.umQueue_after _ _ h⟩
  | .sessionTimeout .. => ⟨_, rfl, State.sessTimeout_after _ _ h⟩
  | .openStore .. => ⟨_, rfl, State.openOp_after _ _ _ _ _ h⟩
  | .openCommit .. => ⟨_, rfl, State.openOp_after _ _ _ _ _ h⟩
  | .openDiscard .. => ⟨_, rfl, State.openOp_after _ _ _ _ _ h⟩
  | .storeCopyEnd => ⟨_, rfl, State.storeEnd_after _ h⟩
  | .sceneDescWrite .. => ⟨_, rfl, State.offerReg_after _ _ _ _ _ _ h⟩
  | .sceneValidate => ⟨_, rfl, State.sceneValidate_after _ (State.writesFirst_after _ _ h)⟩
  | .deferredResume => ⟨_, rfl, State.deferredResume_after _ (State.writesFirst_after _ _ h)⟩
  | .sceneCommit .. => ⟨_, rfl, State.sceneCommit_after _ _ h⟩
  | .cueArm .. => ⟨_, rfl, State.offerReg_after _ _ _ _ _ _ h⟩
  | .cueDisarm .. => ⟨_, rfl, State.offerReg_after _ _ _ _ _ _ h⟩
  | .load .. => ⟨_, rfl, State.offerReg_after _ _ _ _ _ _ h⟩
  | .start .. => ⟨_, rfl, State.offerAct_after _ _ _ _ h⟩
  | .stop .. => ⟨_, rfl, State.offerAct_after _ _ _ _ h⟩
  | .loadDone .. => ⟨_, rfl, State.flashThen_after _ (State.loadDone_after _ _ h)⟩
  | .engineReady .. => ⟨_, rfl, State.engReady_after _ _ h⟩
  | .cmdqAppend .. => ⟨_, rfl, State.offerCmd_after _ _ _ _ _ h⟩
  | .rspqRead .. => ⟨_, rfl, State.offerReadReg_after _ _ _ _ h⟩
  | .ping .. => ⟨_, rfl, State.cmdPing_after _ _ h⟩
  | .ctleSearch .. => ⟨_, rfl, State.cmdSearch_after _ _ h⟩
  | .eyeScan .. => ⟨_, rfl, State.cmdEye_after _ _ h⟩
  | .sweep .. => ⟨_, rfl, State.cmdSweep_after _ _ h⟩
  | .calRun .. => ⟨_, rfl, State.cmdCal_after _ _ h⟩
  | .abortCommand .. => ⟨_, rfl, State.cmdAbort_after _ _ h⟩
  | .flush .. => ⟨_, rfl, State.cmdFlush_after _ _ h⟩
  | .checkpoint .. => ⟨_, rfl, State.cmdCheckpoint_after _ _ _ h⟩
  | .longCommandEnd .. => ⟨_, rfl, State.longEnd_after _ _ _ _ _ _ h⟩
  | .migrationGo .. => ⟨_, rfl, State.migrationGo_after _ _ _ _ h⟩
  | .migrationSafePoint .. => ⟨_, rfl, State.migSafe_after _ _ h⟩
  | .migrationHandover .. => ⟨_, rfl, State.migHandover_after _ _ h⟩
  | .watchdogExpiry .. => ⟨_, rfl, State.watchdog_after _ _ h⟩
  | .imageFault .. => ⟨_, rfl, State.imageFault_after _ _ _ _ h⟩
  | .twinLinkUp => ⟨_, rfl, State.twinUp_after _ h⟩
  | .twinLinkLost .. => ⟨_, rfl, State.twinDown_after _ _ _ h⟩
  | .twinSendTimer .. => ⟨_, rfl, State.twinSend_after _ _ h⟩
  | .hello .. => ⟨_, rfl, State.twinHello_after _ _ _ h⟩
  | .timeExchange .. => ⟨_, rfl, State.timeExchange_after _ _ _ h⟩
  | .pinReport .. => ⟨_, rfl, State.pinReport_after _ _ _ _ _ h⟩
  | .configReport .. => ⟨_, rfl, State.cfgReport_after _ _ _ h⟩
  | .coefficientReport .. => ⟨_, rfl, State.coefReport_after _ _ _ h⟩
  | .mirrorOperation .. => ⟨_, rfl, State.mirApply_after _ _ h⟩
  | .mirCrc .. => ⟨_, rfl, State.mirCrcIn_after _ _ h⟩
  | .bulkSyncDone .. => ⟨_, rfl, State.syncDone_after _ _ h⟩
  | .hbLost => ⟨_, rfl, State.hbLost_after _ h⟩
  | .heartbeatPresent => ⟨_, rfl, State.hbPresent_after _ h⟩
  | .promotionTimeout => ⟨_, rfl, State.promote_after _ h⟩
  | .timeTransferLost => ⟨_, rfl, State.transferLost_after _ h⟩
  | .req .. => ⟨_, rfl, State.offerReg_after _ _ _ _ _ _ h⟩
  | .confirm .. => ⟨_, rfl, State.offerAct_after _ _ _ _ h⟩
  | .cancel .. => ⟨_, rfl, State.offerAct_after _ _ _ _ h⟩
  | .reenter .. => ⟨_, rfl, State.offerAct_after _ _ _ _ h⟩
  | .replace .. => ⟨_, rfl, State.offerAct_after _ _ _ _ h⟩
  | .reentryComplete => ⟨_, rfl, State.reenterDone_after _ h⟩
  | .reentryTimeout => ⟨_, rfl, State.reenterTimeout_after _ h⟩
  | .twinCfgEnWrite .. => ⟨_, rfl, State.offerSet_after _ _ _ _ _ h⟩
  | .inputGood .. => ⟨_, rfl, State.inputGood_after _ _ h⟩
  | .inputLost .. => ⟨_, rfl, State.inputLost_after _ _ h⟩
  | .returnDelayExpiry => ⟨_, rfl, State.returnExpiry_after _ h⟩
  | .forceBWrite .. => ⟨_, rfl, State.offerSet_after _ _ _ _ _ h⟩
  | .railFault .. => ⟨_, rfl, State.railFault_after _ _ h⟩
  | .measure .. => ⟨_, rfl, State.offerAct_after _ _ _ _ h⟩
  | .capacitanceTestDue => ⟨_, rfl, State.testStart_after _ h⟩
  | .capacitanceTestEnd .. => ⟨_, rfl, State.flashThen_after _ (State.testEnd_after _ _ _ _ h)⟩
  | .energyUpdate .. => ⟨_, rfl, State.energyUpdate_after _ _ _ _ _ h⟩
  | .powerFailure => ⟨_, rfl, State.powerFailure_after _ h⟩
  | .fallRecordWrite .. => ⟨_, rfl, State.fallRecord_after _ _ h⟩
  | .store .. => ⟨_, rfl, State.offerNvm_after _ _ _ _ h⟩
  | .read .. => ⟨_, rfl, State.offerNvm_after _ _ _ _ h⟩
  | .erase .. => ⟨_, rfl, State.offerNvm_after _ _ _ _ h⟩
  | .program .. => ⟨_, rfl, State.offerNvm_after _ _ _ _ h⟩
  | .flashOperationEnd .. => ⟨_, rfl, State.flashThen_after _ (State.flashEnd_after _ _ h)⟩
  | .reqRun .. => ⟨_, rfl, State.offerSet_after _ _ _ _ _ h⟩
  | .reqIntermission .. => ⟨_, rfl, State.offerSet_after _ _ _ _ _ h⟩
  | .reqOff .. => ⟨_, rfl, State.offerSet_after _ _ _ _ _ h⟩
  | .transitionEnd .. => ⟨_, rfl, State.transEnd_after _ _ h⟩
  | .idleTimerExpiry .. => ⟨_, rfl, State.idleExpiry_after _ _ h⟩
  | .wakeNow .. => ⟨_, rfl, State.offerAct_after _ _ _ _ h⟩
  | .dark .. => ⟨_, rfl, State.offerReg_after _ _ _ _ _ _ h⟩
  | .darkReached => ⟨_, rfl, State.darkReached_after _ h⟩
  | .darkWake .. => ⟨_, rfl, State.darkWake_after _ _ h⟩
  | .bandgapCompare .. => ⟨_, rfl, State.bgCompare_after _ _ h⟩
  | .sensorMean .. => ⟨_, rfl, State.sensorMean_after _ _ _ _ h⟩
  | .calCmdRun .. => ⟨_, rfl, State.offerAct_after _ _ _ _ h⟩
  | .calPeriodExpiry .. => ⟨_, rfl, State.calPeriod_after _ _ h⟩
  | .pendingRunStart .. => ⟨_, rfl, State.calPendStart_after _ _ h⟩
  | .calBlockEnd .. => ⟨_, rfl, State.calBlockEnd_after _ _ _ h⟩
  | .apply .. => ⟨_, rfl, State.offerAct_after _ _ _ _ h⟩
  | .calAbort .. => ⟨_, rfl, State.offerAct_after _ _ _ _ h⟩
  | .rampStep .. => ⟨_, rfl, State.rampStep_after _ _ h⟩
  | .disruptiveRun .. => ⟨_, rfl, State.offerReg_after _ _ _ _ _ _ h⟩
  | .disruptiveWindowEnd .. => ⟨_, rfl, State.disruptClose_after _ _ _ h⟩
  | .curtain .. => ⟨_, rfl, State.offerReh_after _ _ _ _ _ h⟩
  | .group .. => ⟨_, rfl, State.offerReh_after _ _ _ _ _ h⟩
  | .engine .. => ⟨_, rfl, State.offerReh_after _ _ _ _ _ h⟩
  | .rehAbort .. => ⟨_, rfl, State.offerReh_after _ _ _ _ _ h⟩
  | .fuse .. => ⟨_, rfl, State.offerReh_after _ _ _ _ _ h⟩
  | .fuseSessionEnd .. => ⟨_, rfl, State.flashThen_after _ (State.fuseSessionEnd_after _ _ h)⟩
  | .rehTestEnd .. => ⟨_, rfl, State.rehTestEnd_after _ _ _ _ h⟩
  | .rehRunClose => ⟨_, rfl, State.rehRunClose_after _ h⟩
  | .ontimeMinute => ⟨_, rfl, State.ontimeMinute_after _ h⟩
  | .write32 .. => ⟨_, rfl, State.spiFrame_after _ _ _ _ _ h⟩
  | .read32 .. => ⟨_, rfl, State.spiFrame_after _ _ _ _ _ h⟩
  | .write128 .. => ⟨_, rfl, State.spiFrame_after _ _ _ _ _ h⟩
  | .read128 .. => ⟨_, rfl, State.spiFrame_after _ _ _ _ _ h⟩
  | .status .. => ⟨_, rfl, State.spiStatus_after _ _ _ h⟩
  | .writeDataComplete .. => ⟨_, rfl, State.spiComplete_after _ _ h⟩
  | .spiFrameFault .. => ⟨_, rfl, State.spiFault_after _ _ _ h⟩
  | .spiStallTimeout => ⟨_, rfl, State.spiStall_after _ h⟩
  | .spiFlush .. => ⟨_, rfl, State.offerAct_after _ _ _ _ h⟩
  | .twtPointerSet .. => ⟨_, rfl, State.twtPointer_after _ _ h⟩
  | .twtAddressRead .. => ⟨_, rfl, State.twtRead_after _ _ _ h⟩
  | .twtReadContinue .. => ⟨_, rfl, State.twtContinue_after _ _ _ h⟩
  | .twtDataByte .. => ⟨_, rfl, State.twtData_after _ _ h⟩
  | .twtBufferApply => ⟨_, rfl, State.twtApply_after _ h⟩
  | .twtStartStopFault => ⟨_, rfl, State.twtFault_after _ h⟩
  | .twtTimeout .. => ⟨_, rfl, State.twtTimeout_after _ _ h⟩
  | .prompt => ⟨_, rfl, State.prompt_after _ h⟩
  | .promptAbandon .. => ⟨_, rfl, State.promptAbandon_after _ _ h⟩
  | .twcGo .. => ⟨_, rfl, State.offerReg_after _ _ _ _ _ _ h⟩
  | .twcAbort .. => ⟨_, rfl, State.offerSet_after _ _ _ _ _ h⟩
  | .arbitrationLost => ⟨_, rfl, State.onBus_after _ _ h (fun _ hu => State.twcArb_after _ hu)⟩
  | .twcTimeout .. => ⟨_, rfl, State.onBus_after _ _ h (fun _ hu => State.twcTimeout_after _ _ _ hu)⟩
  | .twcTransactionEnd .. => ⟨_, rfl, State.onBus_after _ _ h (fun _ hu => State.twcTxnEnd_after _ _ _ hu)⟩
  | .busRecovery .. => ⟨_, rfl, State.onBus_after _ _ h (fun _ hu => State.twcRecovery_after _ _ hu)⟩
  | .vioLoss => ⟨_, rfl, State.vioLoss_after _ h⟩
  | .vioReturn => ⟨_, rfl, State.vioReturn_after _ h⟩
  | .eventInject .. => ⟨_, rfl, State.offerReg_after _ _ _ _ _ _ h⟩
  | .violationInject .. => ⟨_, rfl, State.offerReg_after _ _ _ _ _ _ h⟩
  | .injArm .. => ⟨_, rfl, State.offerReg_after _ _ _ _ _ _ h⟩
  | .eccInject .. => ⟨_, rfl, State.eccInject_after _ _ h⟩
  | .softEvent .. => ⟨_, rfl, State.offerReg_after _ _ _ _ _ _ h⟩
  | .pathReset .. => ⟨_, rfl, State.offerReset_after _ _ _ _ h⟩
  | .groupReset .. => ⟨_, rfl, State.offerReset_after _ _ _ _ h⟩
  | .resetWaitEnd => ⟨_, rfl, State.resetWaitEnd_after _ h⟩
  | .houseReset .. => ⟨_, rfl, State.houseResetBy_after _ _ h⟩
  | .houseResetEnd => ⟨_, rfl, State.houseResetEnd_after _ h⟩
  | .fullReset => ⟨_, rfl, State.fullReset_after _ h⟩
  | .startUp .. => ⟨_, rfl, State.startUp_after _ _ _ _ h⟩
  | .startUpReset => ⟨_, rfl, State.startUpReset_after _ h⟩
  | .lanesReady => ⟨_, rfl, State.lanesReady_after _ h⟩
  | .burnUm .. => ⟨_, rfl, State.offerKey_after _ _ _ _ _ h⟩
  | .revokeUm .. => ⟨_, rfl, State.offerKey_after _ _ _ _ _ h⟩
  | .revokeImgkey .. => ⟨_, rfl, State.offerKey_after _ _ _ _ _ h⟩
  | .raiseSvn .. => ⟨_, rfl, State.offerKey_after _ _ _ _ _ h⟩
  | .keyOpEnd .. => ⟨_, rfl, State.flashThen_after _ (State.keyOpEnd_after _ _ h)⟩
  | .boundaryScanInstruction => ⟨_, rfl, State.boundaryScan_after _ h⟩
  | .vkaLost => ⟨_, rfl, State.vkaLost_after _ h⟩
  | .inputQualificationStart .. => ⟨_, rfl, State.inputQual_after _ _ h⟩
  | .pathOrGroupResetEnd => ⟨_, rfl, State.resetEnd_after _ h⟩
  | .engineHeartbeat .. => ⟨_, rfl, State.heartbeat_after _ _ _ h⟩
  | .firmwareNotice .. => ⟨_, rfl, after_ite _ _ _ _ (State.notice_after _ _ _ _ _ _ h) h⟩
  | .twtReadEnd .. => ⟨_, rfl, State.twtReadEnd_after _ _ h⟩
  | .sramEccError .. => ⟨_, rfl, State.eccRead_after _ _ _ _ _ h⟩

/-- A step leads to a state that comes after the one it began in, the queue of commands apart: the law of the front command, or of the
tick. -/
theorem step_after {s t : State} (h : step s = .next t) : ∃ l, State.After { s with pending := l } t := by
  unfold step at h
  split at h
  case h_1 c rest _ =>
    obtain ⟨u, hu, ha⟩ := exec_after c { s with pending := rest }
    obtain rfl : u = t := by simpa [hu] using h
    exact ⟨rest, ha⟩
  case h_2 =>
    obtain rfl : s.tick = t := by simpa using h
    exact ⟨s.pending, State.tick_after s (State.After.refl s)⟩

/-! ### Admission (R14) -/

/-- An operation that is not admitted changes nothing, refused or not (R14). -/
theorem State.offerAccess_not_admitted {s : State} {x : Access} (h : s.admits s.admQ x.cost = false) : s.offerAccess x = s := by
  simp [State.offerAccess, State.offer, State.offerElse, h]

/-- A read of the EVT_EN of path 0 as it waits in the access queue, at the cost of a lane page (R15). -/
def pathRead : Access := { src := .spi, kind := .read32, addr := BitVec.ofNat 32 (pageAddr (pp 0) 0x014), cost := 180 }

/-- A ready module whose fabric runs at 750 handshakes per µs, the floor of its operating conditions, and whose access queue holds six
reads of path pages: 1,080 of the 1,140 handshakes that R14 admits. -/
def queueNearlyFull : State :=
  { State.reset.setF .house HouseR.FAB_SPEED_RATE 750 with device := .ready, access := List.replicate 6 pathRead }

/-- The wing write at 0x840 of the SPI page is not refused there, and the host's open scene has room. -/
theorem queueNearlyFull_takes_wing :
    queueNearlyFull.closedToAll = false ∧ queueNearlyFull.wordRefused .spi (pageAddr .spi 0x840) = false ∧
      queueNearlyFull.openLen (srcScene .spi) = 0 := by decide +kernel

/-- Its cost of 90 is not admitted beside the 1,080 (R14, R15). -/
theorem queueNearlyFull_not_admits : queueNearlyFull.admits queueNearlyFull.admQ
    (write32Of .spi (pageAddr .spi 0x840) 0 (byteMask 0xF)).cost = false := by decide +kernel

end Sys2Proof.Machine

open Sys2Proof Sys2Proof.Machine

/-- Settles O34: the law of each command's operation says that it leaves the queue as it is. -/
theorem everyCommandAnswers : Obligations.EveryCommandAnswers := by
  intro c s
  obtain ⟨t, ht, ha⟩ := exec_after c s
  exact ⟨t, ht, ha.queue_of⟩

/-- Settles O32: taking the front command off the queue touches no table, and what comes after a canonical state is canonical. -/
theorem stepKeepsCanon : Obligations.StepKeepsCanon := by
  intro s t hs h
  obtain ⟨_, ha⟩ := step_after h
  exact ha.canon hs

/-- Refutes O3: its clause of WING_WRITE does not ask that the write be admitted (R14). A wing write that meets a queue nearly full
is turned away, and the writer's open scene has no entry more. -/
theorem not_registerWriteCommandsComplete : ¬ Obligations.RegisterWriteCommandsComplete := by
  intro ⟨_, hwing, _⟩
  obtain ⟨hopen, hword, hlen⟩ := queueNearlyFull_takes_wing
  obtain ⟨t, ht, hone⟩ := hwing .spi .spi 0x040 0 0xF queueNearlyFull hopen hword rfl (le_refl _) (by rw [hlen]; decide)
  have hsame : t = queueNearlyFull :=
    (Host.Outcome.next.inj ht).symm.trans (State.offerAccess_not_admitted queueNearlyFull_not_admits)
  rw [hsame] at hone
  omega

end

section
/-!
SUPPORT. The architecture and the timebase. What a command of the timebase changes beside its registers is the time record alone: this is
said once (`State.TimeTouches`), with a rule for each operation that such a command is made of. A read that is not admitted (R14) and a
start without power-good (R70) do nothing, and the statements that such commands complete do not ask for either condition.
-/
namespace Sys2Proof.Machine

/-! ### What a command touches -/

/-- `t` has what `s` has, but for the registers at `l` and what an event brings with it. -/
def State.Touches (l : List Nat) (s t : State) : Prop := s.Frame l t ∧ s.SameRest t

/-- Likewise, and but for the time record. -/
def State.TimeTouches (l : List Nat) (s t : State) : Prop := s.Frame l t ∧ State.SameRest { s with time := t.time } t

variable {l m : List Nat} {s t u : State}

theorem State.Touches.refl (l : List Nat) (s : State) : s.Touches l s := ⟨State.Frame.refl s l, State.SameRest.refl s⟩

theorem State.Touches.setF (h : s.Touches l t) {p : Page} {x : Fld} (v : Nat) (k : pageAddr p x.off ∈ l) :
    s.Touches l (t.setF p x v) := ⟨h.1.setF p x v (.inl k), h.2.setF p x v⟩

theorem State.Touches.wr (h : s.Touches l t) {a : Nat} (v : Word) (k : a ∈ l) : s.Touches l (t.wr a v) :=
  ⟨h.1.wr a v (.inl k), h.2.wr a v⟩

theorem State.Touches.raise (h : s.Touches l t) {p : Page} (bit : Nat) (k : pageAddr p 0x010 ∈ l) : s.Touches l (t.raise p bit) :=
  ⟨h.1.raise p bit k, h.2.trans (t.raise_spec p bit).2⟩

theorem State.TimeTouches.refl (l : List Nat) (s : State) : s.TimeTouches l s := State.Touches.refl l s

theorem State.TimeTouches.trans (h : s.TimeTouches l t) (k : t.TimeTouches l u) : s.TimeTouches l u := by
  refine ⟨h.1.trans k.1, State.SameRest.trans (t := { t with time := u.time }) ?_ k.2⟩
  simpa [State.SameRest] using h.2

theorem State.TimeTouches.mono (h : s.TimeTouches l t) (k : ∀ a ∈ l, a ∈ m) : s.TimeTouches m t := ⟨h.1.mono k, h.2⟩

/-- What leaves the time record alone too. -/
theorem State.Touches.time (h : s.Touches l t) : s.TimeTouches l t := by
  obtain ⟨hf, hr⟩ := h
  refine ⟨hf, ?_⟩
  unfold State.SameRest at *
  simp only [hr, and_self]

/-- What touches the time record, from a state in which free values have been drawn. -/
theorem State.TimeTouches.drawn {n : Nat} (h : State.TimeTouches l { s with free := n } t) :
    s.Frame l t ∧ State.SameRest { s with time := t.time, free := t.free } t := by
  obtain ⟨hf, hr⟩ := h
  have hn : t.free = n := hr.2.1
  exact ⟨hf, hn ▸ hr⟩

theorem State.TimeTouches.setTime (h : s.TimeTouches l t) (x : TimeSt) : s.TimeTouches l (t.setTime x) := by
  refine ⟨h.1.of_eq rfl rfl, ?_⟩
  simpa [State.SameRest, State.setTime] using h.2

theorem State.TimeTouches.setF (h : s.TimeTouches l t) {p : Page} {x : Fld} (v : Nat) (k : pageAddr p x.off ∈ l) :
    s.TimeTouches l (t.setF p x v) := h.trans ((State.Touches.refl l t).setF v k).time

theorem State.TimeTouches.inc (h : s.TimeTouches l t) {p : Page} {x : Fld} (k : pageAddr p x.off ∈ l) :
    s.TimeTouches l (t.inc p x) := h.setF _ k

theorem State.TimeTouches.raise (h : s.TimeTouches l t) {p : Page} (bit : Nat) (k : pageAddr p 0x010 ∈ l) :
    s.TimeTouches l (t.raise p bit) := h.trans ((State.Touches.refl l t).raise bit k).time

theorem State.TimeTouches.raiseIf (h : s.TimeTouches l t) (b : Bool) {p : Page} (bit : Nat) (k : pageAddr p 0x010 ∈ l) :
    s.TimeTouches l (t.raiseIf b p bit) := by
  unfold State.raiseIf
  split
  · exact h.raise bit k
  · exact h

/-! ### The operations of the timebase -/

/-- A change of the bound shows in TIME_UNC, and may end UNC_HIGH. -/
theorem State.setUnc_touches (s : State) (b : Option Nat) : s.TimeTouches (regsOf .time [0x058, 0x05C]) (s.setUnc b) := by
  have h : s.TimeTouches (regsOf .time [0x058, 0x05C])
      ((s.setTime { s.time with unc := b }).setF .time TimeR.TIME_UNC_UNC (uncNs b)) :=
    ((State.TimeTouches.refl _ s).setTime _).setF _ (by decide)
  unfold State.setUnc
  dsimp only
  split
  · exact h.setF _ (by decide)
  · exact h

theorem State.TimeTouches.handoverUnc (h : s.TimeTouches l t) (k : ∀ a ∈ regsOf .time [0x058, 0x05C], a ∈ l) :
    s.TimeTouches l t.handoverUnc := h.trans ((t.setUnc_touches _).mono k)

theorem State.uncCross_touches (s : State) : s.Touches (regsOf .time [0x010, 0x058]) s.uncCross := by
  have h : s.Touches (regsOf .time [0x010, 0x058]) (s.setF .time TimeR.TIME_STAT_UNC_HIGH 1) :=
    (State.Touches.refl _ s).setF _ (by decide)
  unfold State.uncCross
  dsimp only
  split
  · split
    · exact (h.setF _ (by decide)).raise _ (by decide)
    · exact h.raise _ (by decide)
  · exact State.Touches.refl _ s

theorem State.holdoverBegin_touches (s : State) : s.TimeTouches (regsOf .time [0x010, 0x058]) s.holdoverBegin := by
  unfold State.holdoverBegin
  split
  · exact State.TimeTouches.refl _ s
  · exact (((State.TimeTouches.refl _ s).setF _ (by decide)).setTime _).raise _ (by decide)

theorem State.bridgeEnd_touches (s : State) : s.TimeTouches (regsOf .time [0x010, 0x058, 0x05C, 0x08C]) s.bridgeEnd := by
  unfold State.bridgeEnd
  split
  · exact (((((State.TimeTouches.refl _ s).setF _ (by decide)).setF _ (by decide)).setTime _).handoverUnc (by decide)).raise _
      (by decide)
  · exact State.TimeTouches.refl _ s

theorem State.kaReturn_touches (s : State) : s.TimeTouches (regsOf .time [0x010, 0x058, 0x05C, 0x07C, 0x08C]) s.kaReturn := by
  unfold State.kaReturn
  dsimp only
  split
  · have h : s.TimeTouches (regsOf .time [0x010, 0x058, 0x05C, 0x07C, 0x08C])
        (((((s.setF .time TimeR.TIME_STAT_KEEPALIVE 0).setF .time TimeR.REF_STAT_CHANGING 0).setF
          .time TimeR.KA_CYCLES (satNat 0xFFFFFFFF s.time.kaEdges)).setTime
          { s.time with kaDirty := true, counting := true, kaChange := false, fromDark := false }).handoverUnc.raiseIf
            (s.on .time TimeR.REF_STAT_CHANGING) .time 4) :=
      (((((((State.TimeTouches.refl _ s).setF _ (by decide)).setF _ (by decide)).setF _ (by decide)).setTime _).handoverUnc
        (by decide)).raiseIf _ _ (by decide))
    split
    · have h' := h.raise (p := .time) 3 (by decide)
      split
      · exact h'
      · exact h'.trans ((State.holdoverBegin_touches _).mono (by decide))
    · exact h
  · exact State.TimeTouches.refl _ s

theorem State.kaWindow_touches (s : State) : s.TimeTouches (regsOf .time [0x078]) s.kaWindow := by
  have h := State.TimeTouches.refl (regsOf .time [0x078]) s
  unfold State.kaWindow
  dsimp only
  split
  · exact h
  · split
    · exact h.setTime _
    · exact (h.setF _ (by decide)).setTime _

/-- The four words of a timestamp are stored from `off` on. -/
theorem State.stampRegs_touches (s : State) (off : Nat) (q : BitVec 128)
    (k : ∀ i ∈ List.range 4, pageAddr .time (off + 4 * i) ∈ l) : s.Touches l (s.stampRegs off q) := by
  have all : ∀ (is : List Nat) (t : State), (∀ i ∈ is, pageAddr .time (off + 4 * i) ∈ l) → s.Touches l t →
      s.Touches l (is.foldl (fun s i => s.wr (pageAddr .time (off + 4 * i)) (quadWord q i)) t) := by
    intro is
    induction is with
    | nil => exact fun _ _ h => h
    | cons i is ih =>
      intro t ki h
      exact ih _ (fun j hj => ki j (List.mem_cons_of_mem _ hj)) (h.wr _ (ki i List.mem_cons_self))
  exact all _ s k (State.Touches.refl l s)

/-- What the capture of an edge stores, for the timestamp `q`. -/
theorem State.ppsCapture_touches (s : State) (q : BitVec 128) (x : TimeSt) :
    s.TimeTouches (regsOf .time [0x010, 0x0B8, 0x0C0, 0x0C4, 0x0C8, 0x0CC])
      ((((s.stampRegs (TimeR.PPS_IN_TS 0).off q).incW .time TimeR.PPS_STAT_IN_CNT).setTime x).raise .time 2) :=
  ((((s.stampRegs_touches _ q (by decide)).setF _ (by decide)).time).setTime _).raise _ (by decide)

/-- A free value is drawn for the instant of a captured edge; the rest is the time record's and the registers'. -/
theorem State.ppsEdge_frame (s : State) :
    s.Frame (regsOf .time [0x010, 0x0B8, 0x0C0, 0x0C4, 0x0C8, 0x0CC]) s.ppsEdge ∧
      State.SameRest { s with time := s.ppsEdge.time, free := s.ppsEdge.free } s.ppsEdge := by
  unfold State.ppsEdge
  split
  · exact State.Touches.refl _ s
  · split
    · exact State.TimeTouches.drawn (n := s.free) ((State.TimeTouches.refl _ s).inc (by decide))
    · exact (State.ppsCapture_touches _ _ _).drawn

theorem State.ontimeMinute_touches (s : State) : s.Touches (regsOf .reh [0x050]) s.ontimeMinute := by
  unfold State.ontimeMinute
  split
  · exact State.Touches.refl _ s
  · exact (State.Touches.refl _ s).setF _ (by decide)

theorem State.speedMeasure_touches (s : State) (rate : Nat) : s.Touches (regsOf .house [0x058, 0x05C]) (s.speedMeasure rate) := by
  unfold State.speedMeasure
  split
  · exact State.Touches.refl _ s
  · exact (((State.Touches.refl _ s).setF _ (by decide)).setF _ (by decide)).setF _ (by decide)

/-! ### A read that is not admitted (R14) -/

/-- A read that is not admitted returns nothing, refused or not (R14). -/
theorem State.offerRead_not_admitted {c : Src} {k : AccKind} {a : Nat} (h : s.admits s.admQ (opCost k a) = false) :
    s.offerRead c k a = s := by
  simp [State.offerRead, State.offer, State.offerElse, h]

/-- The module of `queueNearlyFull`, its queue holding six reads of EVT_EN of path 0, where one event is enabled. -/
def queueNearlyFullEnabled : State := queueNearlyFull.wr (pageAddr (pp 0) 0x014) 1

theorem queueNearlyFullEnabled_open :
    queueNearlyFullEnabled.closedToAll = false ∧ queueNearlyFullEnabled.openLen (srcScene .spi) = 0 := by decide +kernel

/-- One read more of path 0, at the cost of a lane page, is not admitted (R14, R15). -/
theorem queueNearlyFullEnabled_not_admits : queueNearlyFullEnabled.admits queueNearlyFullEnabled.admQ
    (opCost .read32 (pageAddr (pp 0) (0x800 + (0x014#11).toNat))) = false := by decide +kernel

/-- Nothing has been returned to the SPI, and what the read would return is not 0. -/
theorem queueNearlyFullEnabled_returned : queueNearlyFullEnabled.returned .spi = 0 ∧
    (queueNearlyFullEnabled.rd (pageAddr (pp 0) 0x014)).setWidth 128 = 1#128 := by decide +kernel

/-! ### A start without power-good (R70) -/

/-- Without power-good a full reset does not end, and no start begins (R70). -/
theorem State.startUp_of_not_powerGood (a b c : BitVec 4) (h : s.powerGood = false) : s.startUp a b c = s := by
  simp [State.startUp, h]

/-- A module in full reset whose one good input, VINA, has been lost. -/
def inputLostInReset : State := State.reset.setF .supply (goodFld false) 0

/-- It is in full reset with VIO up, not from DARK, and has no power-good. -/
theorem inputLostInReset_meets : inputLostInReset.device = .fullReset ∧ inputLostInReset.land.vio = true ∧
    inputLostInReset.f .house HouseR.RESET_CAUSE_FULL_CAUSE ≠ 5 ∧ inputLostInReset.powerGood = false := by decide +kernel

/-- Its straps have not been sampled: they do not read as four lands pulled high. -/
theorem inputLostInReset_straps : inputLostInReset.rd (pageAddr .house 0x050) ≠ (strapMajority 0xF 0xF 0xF).setWidth 32 := by
  decide +kernel

end Sys2Proof.Machine

open Sys2Proof Sys2Proof.Machine

/-- Settles O1: the step takes the front command off the queue and runs it. -/
theorem stepRunsFrontCommand : Obligations.StepRunsFrontCommand := by
  intro c l s h
  rw [step, h]

/-- Refutes O2: its clause of WING_READ does not ask that the read be admitted (R14). A wing read that meets a queue nearly full is
turned away, and the reader has been given nothing. -/
theorem not_accessQueueCommandsComplete : ¬ Obligations.AccessQueueCommandsComplete := by
  intro ⟨_, _, hread, _⟩
  obtain ⟨hopen, hlen⟩ := queueNearlyFullEnabled_open
  obtain ⟨hnone, hone⟩ := queueNearlyFullEnabled_returned
  obtain ⟨t, ht, hret⟩ := hread .spi (pp 0) queueNearlyFullEnabled hopen hlen
  have hsame : t = queueNearlyFullEnabled :=
    (Host.Outcome.next.inj ht).symm.trans (State.offerRead_not_admitted queueNearlyFullEnabled_not_admits)
  rw [hsame, hnone, hone] at hret
  exact absurd hret (by decide)

/-- Refutes O27: its clause of START_UP does not ask for power-good (R70). A module whose input is lost in full reset stays there. -/
theorem not_eventAndResetCommandsComplete : ¬ Obligations.EventAndResetCommandsComplete := by
  intro ⟨_, _, _, _, _, _, _, _, _, _, _, _, hstart, _⟩
  obtain ⟨hdev, hvio, hcause, hgood⟩ := inputLostInReset_meets
  obtain ⟨t, ht, hstarting⟩ := hstart 0 0 0 inputLostInReset hdev hvio hcause
  have hsame : t = inputLostInReset := (Host.Outcome.next.inj ht).symm.trans (State.startUp_of_not_powerGood 0 0 0 hgood)
  rw [hsame, hdev] at hstarting
  exact absurd hstarting (by decide)

/-- Settles O44: each command's operation touches the registers of its clause, and of the rest only the record that the clause names. -/
theorem timeFrame : Obligations.TimeFrame := by
  refine ⟨fun s => ⟨_, rfl, ?_⟩, fun s => ⟨_, rfl, s.uncCross_touches⟩, fun s => ⟨_, rfl, s.bridgeEnd_touches⟩,
    fun s => ⟨_, rfl, s.kaReturn_touches⟩, fun s => ⟨_, rfl, s.kaWindow_touches⟩, fun s => ⟨_, rfl, s.ppsEdge_frame⟩,
    fun s => ⟨_, rfl, ?_⟩, fun s => ⟨_, rfl, State.Touches.refl _ _⟩, fun s => ⟨_, rfl, s.ontimeMinute_touches⟩,
    fun rate s => ⟨_, rfl, s.speedMeasure_touches _⟩⟩
  · split
    · exact s.holdoverBegin_touches
    · exact State.TimeTouches.refl _ s
  · unfold State.ppsRise
    split <;> exact State.Touches.refl _ _

/-- Refutes O58: its clause of START_UP does not ask for power-good (R70). A module whose input is lost in full reset samples no
straps. -/
theorem not_eventAndResetResults : ¬ Obligations.EventAndResetResults := by
  intro ⟨_, _, _, _, _, _, _, _, _, _, _, _, _, _, hstart, _⟩
  obtain ⟨hdev, hvio, hcause, hgood⟩ := inputLostInReset_meets
  obtain ⟨t, ht, -, hstraps, -⟩ := hstart 0xF 0xF 0xF inputLostInReset hdev hvio hcause
  have hsame : t = inputLostInReset := (Host.Outcome.next.inj ht).symm.trans (State.startUp_of_not_powerGood 0xF 0xF 0xF hgood)
  exact inputLostInReset_straps (hsame ▸ hstraps)

end

section
/-!
SUPPORT. PAGE_CTL and the ACCESS counter of a page. What keeps both registers is said once (`State.KeepsCtl`), with a rule for each
operation that the effect of a write of PAGE_CTL is made of (R31, R287, R289). Then what a write that is taken comes to
(`State.offerReg_of_takes`), and what a write of PAGE_CTL stores (R5, R31).
-/
namespace Sys2Proof.Machine

/-! ### What keeps PAGE_CTL and VIOL_0 of a page -/

/-- `t` has PAGE_CTL and VIOL_0 of page `p` as `s` has them. -/
def State.KeepsCtl (p : Page) (s t : State) : Prop :=
  t.rd (pageAddr p 0x008) = s.rd (pageAddr p 0x008) ∧ t.rd (pageAddr p 0x020) = s.rd (pageAddr p 0x020)

/-- The field lies in another register than PAGE_CTL and VIOL_0. -/
def offCtl (x : Fld) : Bool := x.off != 0x008 && x.off != 0x020 && decide (x.off < 4096)

variable {p : Page} {s t u : State}

theorem State.KeepsCtl.refl (p : Page) (s : State) : s.KeepsCtl p s := ⟨rfl, rfl⟩

theorem State.KeepsCtl.trans (h : s.KeepsCtl p t) (k : t.KeepsCtl p u) : s.KeepsCtl p u :=
  ⟨k.1.trans h.1, k.2.trans h.2⟩

/-- A field of PAGE_CTL or VIOL_0 keeps its code. -/
theorem State.KeepsCtl.f (h : s.KeepsCtl p t) {x : Fld} (hx : x.off = 0x008 ∨ x.off = 0x020) : t.f p x = s.f p x := by
  obtain ⟨hctl, hviol⟩ := h
  rcases hx with hx | hx
  · rw [State.f, State.f, hx, hctl]
  · rw [State.f, State.f, hx, hviol]

theorem State.KeepsCtl.setF (h : s.KeepsCtl p t) (q : Page) {x : Fld} (v : Nat) (hx : offCtl x = true) : s.KeepsCtl p (t.setF q x v) := by
  simp only [offCtl, Bool.and_eq_true, bne_iff_ne, decide_eq_true_eq] at hx
  obtain ⟨⟨hctl, hviol⟩, hlt⟩ := hx
  refine h.trans ⟨?_, ?_⟩ <;> rw [State.rd_setF, if_neg]
  · exact fun e => hctl ((pageAddr_inj (by decide) hlt).1 e).2.symm
  · exact fun e => hviol ((pageAddr_inj (by decide) hlt).1 e).2.symm

theorem State.KeepsCtl.inc (h : s.KeepsCtl p t) (q : Page) {x : Fld} (hx : offCtl x = true) : s.KeepsCtl p (t.inc q x) := h.setF q _ hx

/-- What changes no register. -/
theorem State.KeepsCtl.of_regs (h : s.KeepsCtl p t) (hr : u.regs = t.regs) : s.KeepsCtl p u := by
  refine h.trans ⟨?_, ?_⟩ <;> rw [State.rd, State.rd, hr]

theorem State.KeepsCtl.setPath (h : s.KeepsCtl p t) (q : Path) (v : PathSt) : s.KeepsCtl p (t.setPath q v) := h.of_regs rfl

theorem State.KeepsCtl.setGrp (h : s.KeepsCtl p t) (g : Grp) (v : GroupSt) : s.KeepsCtl p (t.setGrp g v) := h.of_regs rfl

theorem State.KeepsCtl.modCal (h : s.KeepsCtl p t) (g : Grp) (f : CalSt → CalSt) : s.KeepsCtl p (t.modCal g f) := h.setGrp _ _

theorem State.KeepsCtl.setRamp (h : s.KeepsCtl p t) (q : Path) (v : List (Nat × List Int)) : s.KeepsCtl p (t.setRamp q v) :=
  h.of_regs rfl

theorem State.KeepsCtl.setEng (h : s.KeepsCtl p t) (e : Eng) (v : EngSt) : s.KeepsCtl p (t.setEng e v) := h.of_regs rfl

theorem State.KeepsCtl.draw (h : s.KeepsCtl p t) : s.KeepsCtl p t.draw.2 := h.of_regs rfl

theorem State.KeepsCtl.ite (b : Prop) [Decidable b] (h : s.KeepsCtl p t) (k : s.KeepsCtl p u) : s.KeepsCtl p (if b then t else u) := by
  split <;> assumption

theorem State.KeepsCtl.forAll {α : Type} {f : α → State → State} (hf : ∀ a (u : State), u.KeepsCtl p (f a u)) (l : List α)
    (h : s.KeepsCtl p t) : s.KeepsCtl p (forAll l f t) := by
  induction l generalizing t with
  | nil => exact h
  | cons a l ih => exact ih (h.trans (hf a t))

/-- Outside the CUE page, whose VIOL_0 may count a late event cue (R279). -/
theorem State.KeepsCtl.raise (h : s.KeepsCtl p t) (hp : p ≠ .cue) (q : Page) (bit : Nat) : s.KeepsCtl p (t.raise q bit) := by
  have hside : ∀ o, o < 0x040 → (o = 0x020 → p ≠ .cue) → pageAddr p o ∉ sideRegs := by
    intro o ho hc hm
    have hcue : pageNum p = 8 → o ≠ 0x020 := fun e ho => hc ho (pageNum_inj (q := .cue) e)
    simp only [pageAddr, sideRegs, List.mem_cons, List.not_mem_nil, or_false] at hm
    omega
  have hne : ∀ o, o < 4096 → o ≠ 0x010 → pageAddr p o ≠ pageAddr q 0x010 := fun o ho h e =>
    h ((pageAddr_inj ho (by decide)).1 e).2
  exact h.trans ⟨State.rd_raise _ _ _ _ (hside _ (by decide) (by simp)) (hne _ (by decide) (by decide)),
    State.rd_raise _ _ _ _ (hside _ (by decide) fun _ => hp) (hne _ (by decide) (by decide))⟩

/-- The total and VIOL_LAST of a violation. -/
theorem State.KeepsCtl.violTotals (h : s.KeepsCtl p t) (k : Viol) (page : Nat) (inj : Bool) :
    s.KeepsCtl p ((t.inc .house (violTot k)).violLast k page inj) :=
  (((h.inc .house (by cases k <;> decide)).setF _ _ (by decide)).setF _ _ (by decide)).setF _ _ (by decide)

theorem State.pageStored_keepsCtl (s : State) (a : Nat) : s.KeepsCtl p (s.pageStored a) := by
  have hne : ∀ o, o < 0x040 → pageAddr p o ≠ 0x0C4 := fun o ho => by simp only [pageAddr]; omega
  unfold State.pageStored
  split
  · exact State.KeepsCtl.refl p s
  · obtain ⟨hrd, -⟩ := s.sramWrite_spec (pageRow a)
    exact ⟨hrd _ (hne _ (by decide)), hrd _ (hne _ (by decide))⟩

theorem State.peak_keepsCtl (s : State) (v : Nat) : s.KeepsCtl p (s.peak v) :=
  (State.KeepsCtl.refl p s).setF _ _ (by decide)

/-! ### An engine's halt (R286, R287, R289) -/

theorem State.releaseLong_keepsCtl (s : State) (e : Eng) : s.KeepsCtl p (s.releaseLong e) := by
  unfold State.releaseLong
  exact .forAll (fun _ u => .ite _ ((State.KeepsCtl.refl p u).setGrp _ _) (.refl p u)) _ (.refl p s)

theorem State.emptyCmdq_keepsCtl (s : State) (e : Eng) : s.KeepsCtl p (s.emptyCmdq e) := by
  unfold State.emptyCmdq State.add
  exact ((State.KeepsCtl.refl p s).setEng _ _).setF _ _ (by decide)

section
variable (hp : p ≠ .cue)
include hp

theorem State.rotAborted_keepsCtl (s : State) (q : Path) (cause : Nat) : s.KeepsCtl p (s.rotAborted q cause) := by
  unfold State.rotAborted State.modPath State.rotRest
  exact (((((State.KeepsCtl.refl p s).setPath _ _).setF _ _ (by decide)).inc _ (by decide)).setF _ _ (by decide)).raise hp _ _

theorem State.holdRot_keepsCtl (s : State) (g : Grp) : s.KeepsCtl p (s.holdRot g) := by
  unfold State.holdRot State.rotAbandon
  exact .forAll (fun q u => .ite _ (.ite _ (u.rotAborted_keepsCtl hp q 2) (.refl p u)) (.refl p u)) _ (.refl p s)

theorem State.postAnswer_keepsCtl (s : State) (e : Eng) (r : BitVec 128) : s.KeepsCtl p (s.postAnswer e r) := by
  unfold State.postAnswer
  exact .ite _ (((State.KeepsCtl.refl p s).setEng _ _).raise hp _ _) ((State.KeepsCtl.refl p s).setEng _ _)

theorem State.answerCmd_keepsCtl (s : State) (e : Eng) (c : BitVec 128) (epoch status detail : Nat) (r0 r1 : Word) :
    s.KeepsCtl p (s.answerCmd e c epoch status detail r0 r1) := by
  have h := s.postAnswer_keepsCtl hp e (s.answerWord e c epoch status detail r0 r1)
  unfold State.answerCmd
  exact .ite _ h (h.inc _ (by decide))

theorem State.abortLong_keepsCtl (s : State) (e : Eng) : s.KeepsCtl p (s.abortLong e) := by
  have hdraw := (State.KeepsCtl.refl p s).draw
  unfold State.abortLong State.endLong State.modEng
  dsimp only
  split
  · exact hdraw
  · exact ((hdraw.setEng _ _).trans (State.releaseLong_keepsCtl _ e)).trans (State.answerCmd_keepsCtl hp _ _ _ _ _ _ _ _)

theorem State.calCmdEnd_keepsCtl (s : State) (g : Grp) (done : Bool) : s.KeepsCtl p (s.calCmdEnd g done) := by
  unfold State.calCmdEnd State.modEng
  refine .forAll (fun e u => ?_) _ (.refl p s)
  split
  · exact .ite _ (.ite _ ((State.KeepsCtl.refl p u).setEng _ _) (u.abortLong_keepsCtl hp e)) (.refl p u)
  · exact .refl p u

theorem State.calAbandon_keepsCtl (s : State) (g : Grp) (keep : Bool) : s.KeepsCtl p (s.calAbandon g keep) := by
  unfold State.calAbandon
  refine .ite _ (.refl p s) ?_
  extract_lets c ramped kept
  have hramped : s.KeepsCtl p ramped :=
    .forAll (fun _ u => (State.KeepsCtl.refl p u).setRamp _ _) _ ((State.KeepsCtl.refl p s).setF _ _ (by decide))
  have hkept : s.KeepsCtl p kept := .ite _ ((hramped.modCal _ _).setF _ _ (by decide)) hramped
  exact .ite _ (hkept.trans (State.calCmdEnd_keepsCtl hp _ g false)) hkept

theorem State.holdBegun_keepsCtl (s : State) (g : Grp) : s.KeepsCtl p (s.holdBegun g) := by
  unfold State.holdBegun State.calSettle
  exact (s.holdRot_keepsCtl hp g).trans (.ite _ (State.calAbandon_keepsCtl hp _ g true) (.refl p _))

theorem State.engHalt_keepsCtl (s : State) (e : Eng) (st : Nat) : s.KeepsCtl p (s.engHalt e st) := by
  unfold State.engHalt
  extract_lets ran own halted
  have hhalted : s.KeepsCtl p halted :=
    ((s.releaseLong_keepsCtl e).trans (State.emptyCmdq_keepsCtl _ e)).setF _ _ (by decide)
  clear_value halted own
  cases own with
  | none => exact hhalted
  | some g => exact .ite _ ((hhalted.raise hp _ _).trans (State.holdBegun_keepsCtl hp _ _)) hhalted

/-- A change of OOS of a STAGE page halts the engine or gives it back (R287). -/
theorem State.engOos_keepsCtl (s : State) (e : Eng) (v : Bool) : s.KeepsCtl p (s.engOos e v) := by
  have hstop : s.KeepsCtl p (s.engStopNow e) := by
    unfold State.engStopNow
    exact .ite _ (s.engHalt_keepsCtl hp e _) (.refl p s)
  unfold State.engOos State.engSet State.modEng
  exact .ite _ (.refl p s) (.ite _ ((hstop.setEng _ _).setF _ _ (by decide)) ((State.KeepsCtl.refl p s).setF _ _ (by decide)))

end

/-! ### A write that is taken (R2, R14, R16) -/

/-- With no operation before it, an admitted write has its turn at once, and no reset loses it. -/
theorem State.offerReg_of_takes {c : Src} {off : Nat} {data mask : Word} (h : s.takes c p off data mask = true) :
    s.offerReg c p off data mask = (s.peak (s.admQ + writeCost c p off data mask)).regWrite c p off data mask := by
  simp only [State.takes, State.free?, Bool.and_eq_true, Bool.not_eq_true', List.isEmpty_iff] at h
  obtain ⟨⟨hshut, hempty, hadmits⟩, -⟩ := h
  have hdrain : ∀ v, (s.peak v).drain = s.peak v := by simp [State.drain, State.peak, hempty]
  have hopen : s.closedToAll = false := by
    simp only [State.regShut, Bool.or_eq_false_iff] at hshut
    exact hshut.1.1
  have hkept : ∀ v, (s.peak v).opsLost = false := by
    simp only [State.closedToAll, Bool.or_eq_false_iff] at hopen
    obtain ⟨⟨⟨-, hreset⟩, hdevice⟩, -⟩ := hopen
    simp [State.opsLost, State.peak, hreset, hdevice]
  simp [State.offerReg, State.offer, hshut, hadmits, hdrain, hkept]

/-- A write that is taken has an effect (R32, R38). -/
theorem State.noWrite_of_takes {c : Src} {off : Nat} {data mask : Word} (h : s.takes c p off data mask = true) :
    s.noWrite c p off (data &&& mask) = none := by
  simp only [State.takes, Bool.and_eq_true, Option.isNone_iff_eq_none] at h
  exact h.2

/-- Whether a host's write to a register of the header has an effect depends on no state: LOCK closes block registers only (R32, R38). -/
theorem State.noWrite_header {c : Src} (hc : isHost c = true) {off : Nat} (ho : off < 0x040) (d : Word) :
    s.noWrite c p off d = t.noWrite c p off d := by
  have hlow : ¬ 0x040 ≤ off := by omega
  have hrate : off ≠ 0x054 := by omega
  cases c with
  | eng e => simp [isHost] at hc
  | _ => simp [State.noWrite, hlow, hrate]

/-! ### What a write of a register's fields comes to (R5) -/

/-- A field of which no bit is written stays as it is. -/
theorem writeRow_of_not_written {v : Nat → Word} {scene : Bool} {old data mask : Word} {o : WrOut} {r : Row}
    (h : mask &&& fldMask r.fld.hi r.fld.lo = 0) : writeRow v scene p old data mask o r = o := by
  simp [writeRow, h]

/-- A write of an RW field keeps the other fields of the register. -/
theorem fget_writeRow_rw {v : Nat → Word} {scene : Bool} {old data mask : Word} {o : WrOut} {r : Row} {hi lo : Nat}
    (hr : r.acc = .rw) (hle : r.fld.lo ≤ r.fld.hi) (hh : hi < 32) (hd : r.fld.hi < lo ∨ hi < r.fld.lo) :
    fget (writeRow v scene p old data mask o r).word hi lo = fget o.word hi lo := by
  simp only [writeRow, hr]
  split
  · rfl
  · split
    · exact fget_fset_disj _ _ _ _ _ _ hle hh hd
    · rfl

/-- An ACCESS violation once found is counted. -/
theorem writeRow_rw_access {v : Nat → Word} {scene : Bool} {old data mask : Word} {o : WrOut} {r : Row} (hr : r.acc = .rw)
    (ho : o.access = true) : (writeRow v scene p old data mask o r).access = true := by
  simp only [writeRow, hr]
  split
  · exact ho
  · split
    · exact ho
    · rfl

/-- A write of an RW field is no CONSISTENCY violation. -/
theorem writeRow_rw_cons {v : Nat → Word} {scene : Bool} {old data mask : Word} {o : WrOut} {r : Row} (hr : r.acc = .rw) :
    (writeRow v scene p old data mask o r).cons = o.cons := by
  simp only [writeRow, hr]
  split
  · rfl
  · split <;> rfl

/-! ### PAGE_CTL (R31) -/

/-- The page supports HOLD: PAGE_CAP.HOLD is 1. -/
def capHold (p : Page) : Bool := (BitVec.ofNat 32 (pageCap p)).getLsbD Hdr.PAGE_CAP_HOLD.lo

/-- The page supports OOS: PAGE_CAP.OOS is 1. -/
def capOos (p : Page) : Bool := (BitVec.ofNat 32 (pageCap p)).getLsbD Hdr.PAGE_CAP_OOS.lo

/-- The rows of HOLD and OOS. -/
def holdRow : Row := { fld := Hdr.PAGE_CTL_HOLD, acc := .rw, rst := 0 }
def oosRow : Row := { fld := Hdr.PAGE_CTL_OOS, acc := .rw, rst := 0 }

/-- HOLD and OOS are the fields of PAGE_CTL, in every page. -/
theorem rowsAt_pageCtl (p : Page) : rowsAt p 0x008 = [holdRow, oosRow] := by
  have hrows : (pageRows p).filter (rowCovers 0x008) = [holdRow, oosRow] := by
    cases p <;> simp only [pageRows] <;> decide +kernel
  have hmir : mirrorReg p 0x008 = false := by cases p <;> simp [mirrorReg]
  simp [rowsAt, hrows, hmir]

/-- A page without HOLD or without OOS has a PAGE_CTL whose writes bring nothing about but, in a STAGE page, its engine's OOS. -/
theorem State.effPageCtl_keepsCtl (hcap : capHold p = false ∨ capOos p = false) (s : State) (old : Word) :
    s.KeepsCtl p (s.effPageCtl p old) := by
  cases p with
  | group g => simp [capHold, capOos, pageCap, Hdr.PAGE_CAP_HOLD, Hdr.PAGE_CAP_OOS] at hcap
  | path q => simp [capHold, capOos, pageCap, Hdr.PAGE_CAP_HOLD, Hdr.PAGE_CAP_OOS] at hcap
  | stage e => exact .ite _ (s.engOos_keepsCtl (by simp) e _) (.refl _ s)
  | _ => exact .refl _ s

/-- A write of PAGE_CTL by a host stores its fields and counts its violations, and then has its effect. -/
theorem State.regWrite_pageCtl {c : Src} {data : Word} (h : s.noWrite c p 0x008 (data &&& allOnes) = none) :
    s.regWrite c p 0x008 data allOnes =
      ((s.pageStored (pageAddr p 0x008)).regStore p 0x008 (writeOut s.rd false p 0x008 data allOnes)).effPageCtl p
        (s.rd (pageAddr p 0x008)) := by
  have hkind : wrKind p 0x008 = .fields := by cases p <;> rfl
  have hlast : ∀ t : State, t.cmdLast c p 0x008 = t := fun t => by cases p <;> rfl
  simp [State.regWrite, State.regAct, State.regPut, h, hkind, hlast, State.directEffect, State.effHeader]

/-- The bits of PAGE_CTL that act as RSV bits are those whose PAGE_CAP bit is 0. -/
theorem ctlUnsupported_pageCtl_bits (p : Page) :
    (ctlUnsupported p 0x008).getLsbD 1 = !capHold p ∧ (ctlUnsupported p 0x008).getLsbD 0 = !capOos p := by
  unfold capHold capOos
  simp only [ctlUnsupported, if_true, Hdr.PAGE_CAP_HOLD, Hdr.PAGE_CAP_OOS]
  cases (BitVec.ofNat 32 (pageCap p)).getLsbD 2 <;> cases (BitVec.ofNat 32 (pageCap p)).getLsbD 3 <;> decide

/-- A HOLD that the page does not support is not written. -/
theorem holdRow_not_written (h : capHold p = false) (mask : Word) :
    mask &&& ~~~ctlUnsupported p 0x008 &&& fldMask holdRow.fld.hi holdRow.fld.lo = 0 := by
  have hm : fldMask holdRow.fld.hi holdRow.fld.lo = BitVec.twoPow 32 1 := by decide
  rw [hm, BitVec.and_twoPow]
  simp [-BitVec.getLsbD_eq_getElem, ctlUnsupported_pageCtl_bits, h]

/-- An OOS that the page does not support is not written. -/
theorem oosRow_not_written (h : capOos p = false) (mask : Word) :
    mask &&& ~~~ctlUnsupported p 0x008 &&& fldMask oosRow.fld.hi oosRow.fld.lo = 0 := by
  have hm : fldMask oosRow.fld.hi oosRow.fld.lo = BitVec.twoPow 32 0 := by decide
  rw [hm, BitVec.and_twoPow]
  simp [-BitVec.getLsbD_eq_getElem, ctlUnsupported_pageCtl_bits, h]

/-- A write of PAGE_CTL leaves a HOLD that the page does not support as it was. -/
theorem writeOut_hold_of_unsupported (h : capHold p = false) (v : Nat → Word) (scene : Bool) (data mask : Word) :
    fget (writeOut v scene p 0x008 data mask).word 1 1 = fget (v (pageAddr p 0x008)) 1 1 := by
  simp only [writeOut, rowsAt_pageCtl, List.foldl_cons, List.foldl_nil, writeRow_of_not_written (holdRow_not_written h mask)]
  exact fget_writeRow_rw rfl (by decide) (by decide) (by decide)

/-- A write of PAGE_CTL leaves an OOS that the page does not support as it was. -/
theorem writeOut_oos_of_unsupported (h : capOos p = false) (v : Nat → Word) (scene : Bool) (data mask : Word) :
    fget (writeOut v scene p 0x008 data mask).word 0 0 = fget (v (pageAddr p 0x008)) 0 0 := by
  simp only [writeOut, rowsAt_pageCtl, List.foldl_cons, List.foldl_nil, writeRow_of_not_written (oosRow_not_written h mask)]
  exact fget_writeRow_rw rfl (by decide) (by decide) (by decide)

/-- A 1 written to a bit that the page does not support touches an RSV bit. -/
theorem pageCtl_touches_rsv {hold oos : Bool} (h : hold = true ∧ capHold p = false ∨ oos = true ∧ capOos p = false) :
    BitVec.ofNat 32 (2 * b2n hold + b2n oos) &&& allOnes &&& roMask p 0x008 ≠ 0 := by
  obtain ⟨hbit1, hbit0⟩ := ctlUnsupported_pageCtl_bits p
  intro hz
  rcases h with ⟨rfl, hcap⟩ | ⟨rfl, hcap⟩
  · have hdata : (BitVec.ofNat 32 (2 * b2n true + b2n oos) &&& allOnes).getLsbD 1 = true := by cases oos <;> decide
    have hbit := congrArg (BitVec.getLsbD · 1) hz
    rw [BitVec.getLsbD_and, hdata, roMask, BitVec.getLsbD_or, hbit1, hcap] at hbit
    simp at hbit
  · have hdata : (BitVec.ofNat 32 (2 * b2n hold + b2n true) &&& allOnes).getLsbD 0 = true := by cases hold <;> decide
    have hbit := congrArg (BitVec.getLsbD · 0) hz
    rw [BitVec.getLsbD_and, hdata, roMask, BitVec.getLsbD_or, hbit0, hcap] at hbit
    simp at hbit

/-- A write of PAGE_CTL that touches RSV bits counts an ACCESS violation. -/
theorem writeOut_pageCtl_access {v : Nat → Word} {scene : Bool} {data mask : Word} (h : data &&& mask &&& roMask p 0x008 ≠ 0) :
    (writeOut v scene p 0x008 data mask).access = true := by
  simp only [writeOut, rowsAt_pageCtl, List.foldl_cons, List.foldl_nil]
  exact writeRow_rw_access rfl (writeRow_rw_access rfl (by simpa using h))

/-- A write of PAGE_CTL is no CONSISTENCY violation. -/
theorem writeOut_pageCtl_cons (v : Nat → Word) (scene : Bool) (data mask : Word) :
    (writeOut v scene p 0x008 data mask).cons = false := by
  simp only [writeOut, rowsAt_pageCtl, List.foldl_cons, List.foldl_nil]
  rw [writeRow_rw_cons rfl, writeRow_rw_cons rfl]

/-- An ACCESS violation counts one in its page, saturating, and leaves PAGE_CTL as it is (R452). -/
theorem State.viol_access_ctl (s : State) (p : Page) :
    (s.viol p .access).f p Hdr.VIOL_0_ACCESS = satNat 0xFFFF (s.f p Hdr.VIOL_0_ACCESS + 1) ∧
      (s.viol p .access).rd (pageAddr p 0x008) = s.rd (pageAddr p 0x008) := by
  have hrest : (s.inc p Hdr.VIOL_0_ACCESS).KeepsCtl p (s.viol p .access) :=
    (State.KeepsCtl.refl p _).violTotals .access (pageNum p) false
  constructor
  · rw [hrest.f (.inr rfl), State.inc, State.add, State.f_setF_self _ _ _ _ (by decide) (by decide)]
    refine Nat.mod_eq_of_lt ?_
    show satNat 0xFFFF _ < 0x10000
    unfold satNat
    split <;> omega
  · rw [hrest.1, State.inc, State.add, State.rd_setF, if_neg]
    exact fun e => absurd ((pageAddr_inj (by decide) (by decide)).1 e).2 (by decide)

/-- Storing a write of PAGE_CTL that counts an ACCESS violation: the word that it comes to, and one more in the counter. -/
theorem State.regStore_pageCtl {o : WrOut} (ha : o.access = true) (hc : o.cons = false) (s : State) :
    (s.regStore p 0x008 o).rd (pageAddr p 0x008) = o.word ∧
      (s.regStore p 0x008 o).f p Hdr.VIOL_0_ACCESS = satNat 0xFFFF (s.f p Hdr.VIOL_0_ACCESS + 1) := by
  have hsum : feedsSum p 0x008 = false := by simp [feedsSum]
  have hstore : s.regStore p 0x008 o = (s.wr (pageAddr p 0x008) o.word).viol p .access := by
    simp [State.regStore, hsum, ha, hc, State.violIf]
  obtain ⟨hcount, hctl⟩ := (s.wr (pageAddr p 0x008) o.word).viol_access_ctl p
  have hne : pageAddr p 0x020 ≠ pageAddr p 0x008 := fun e => absurd ((pageAddr_inj (by decide) (by decide)).1 e).2 (by decide)
  refine ⟨by rw [hstore, hctl, State.rd_wr_self], ?_⟩
  rw [hstore, hcount, State.f, State.f, State.rd_wr_ne _ _ _ _ (show pageAddr p Hdr.VIOL_0_ACCESS.off ≠ _ from hne)]

/-- A write of PAGE_CTL with a 1 in a bit that the page does not support counts one ACCESS violation in the page, and leaves each of HOLD
and OOS that is not supported as it was (R31). -/
theorem State.regWrite_pageCtl_unsupported {c : Src} {data : Word} (hnow : s.noWrite c p 0x008 (data &&& allOnes) = none)
    (hcap : capHold p = false ∨ capOos p = false) (hrsv : data &&& allOnes &&& roMask p 0x008 ≠ 0) :
    (s.regWrite c p 0x008 data allOnes).f p Hdr.VIOL_0_ACCESS = satNat 0xFFFF (s.f p Hdr.VIOL_0_ACCESS + 1) ∧
      (capHold p = false → (s.regWrite c p 0x008 data allOnes).f p Hdr.PAGE_CTL_HOLD = s.f p Hdr.PAGE_CTL_HOLD) ∧
      (capOos p = false → (s.regWrite c p 0x008 data allOnes).f p Hdr.PAGE_CTL_OOS = s.f p Hdr.PAGE_CTL_OOS) := by
  obtain ⟨hword, hcount⟩ := State.regStore_pageCtl (writeOut_pageCtl_access hrsv) (writeOut_pageCtl_cons s.rd false data allOnes)
    (s.pageStored (pageAddr p 0x008))
  rw [State.regWrite_pageCtl hnow]
  generalize (s.pageStored (pageAddr p 0x008)).regStore p 0x008 _ = stored at *
  have hafter := State.effPageCtl_keepsCtl hcap stored (s.rd (pageAddr p 0x008))
  rw [hafter.f (.inr rfl), hafter.f (.inl rfl), hafter.f (.inl rfl)]
  refine ⟨by rw [hcount, (s.pageStored_keepsCtl _).f (.inr rfl)], fun h => ?_, fun h => ?_⟩
  · exact (congrArg (fget · 1 1) hword).trans (writeOut_hold_of_unsupported h s.rd false data allOnes)
  · exact (congrArg (fget · 0 0) hword).trans (writeOut_oos_of_unsupported h s.rd false data allOnes)

end Sys2Proof.Machine

open Sys2Proof Sys2Proof.Machine

/-- Settles O36: a 1 to a bit that the page does not support touches an RSV bit, and the field that the bit belongs to is not written.
Only a STAGE page then has an effect to bring about, and no part of it touches PAGE_CTL or the page's counter. -/
theorem unsupportedPageCtlBitIsIgnored : Obligations.UnsupportedPageCtlBitIsIgnored := by
  intro c p hold oos s hc htakes hbad
  have hpeak := s.peak_keepsCtl (p := p) (s.admQ + writeCost c p 0x008 (BitVec.ofNat 32 (2 * b2n hold + b2n oos)) allOnes)
  have hoffer := State.offerReg_of_takes htakes
  generalize s.peak _ = u at hpeak hoffer
  have hnow : u.noWrite c p 0x008 (BitVec.ofNat 32 (2 * b2n hold + b2n oos) &&& allOnes) = none := by
    rw [State.noWrite_header (t := s) hc (by decide), State.noWrite_of_takes htakes]
  obtain ⟨hcount, hhold, hoos⟩ :=
    State.regWrite_pageCtl_unsupported hnow (hbad.imp And.right And.right) (pageCtl_touches_rsv hbad)
  refine ⟨_, congrArg Host.Outcome.next hoffer, ?_, fun hcap => ?_, fun hcap => ?_⟩
  · rw [hcount, hpeak.f (.inr rfl)]
  · rw [State.on, State.on, hhold hcap, hpeak.f (.inl rfl)]
  · rw [State.on, State.on, hoos hcap, hpeak.f (.inl rfl)]

end

section
/-!
SUPPORT. Lands and events of a page that is BUSY for rehearsal. A full reset leaves the device in full reset with VIO as it was (R65, R459),
which settles what every output land drives (R68). The detectors of a page that is BUSY for rehearsal set no bit (R402, R454), and two
statements about the events of commands do not ask that the page be free.
-/
namespace Sys2Proof.Machine

/-! ### A full reset (R70, R459) -/

/-- A full reset leaves the device in full reset, and VIO as it was. -/
theorem State.fullResetWith_lands (s : State) (cause : Nat) :
    (s.fullResetWith cause).device = .fullReset ∧ (s.fullResetWith cause).land.vio = s.land.vio := by
  simp [State.fullResetWith, State.flashCut, State.flashUndef, State.modFlash]

/-- FULL_RESET while the module is ready or starting, with VIO up, is one by PORST_N (R70). -/
theorem State.fullReset_of_running {s : State} (hd : s.device = .ready ∨ s.device = .starting) (hv : s.land.vio = true) :
    s.fullReset = s.fullResetWith 2 := by
  rcases hd with hd | hd <;> simp [State.fullReset, hd, hv]

/-! ### Events under rehearsal (R402, R454) -/

/-- A ready module whose group 2 is on its way from OFF to INTERMISSION under a curtain: the curtain brings groups that are down to a
running state, but not one whose exit has begun (R398). -/
def exitUnderCurtain : State :=
  ((up.setF (gp 2) GroupR.PWR_STAT_STATE pwExit).setGrp 2 { up.grp 2 with target := rqInt, fromOff := true }).setBusy (gp 2) .rehearsal

theorem exitUnderCurtain_meets : exitUnderCurtain.pwMoving 2 = true ∧ (exitUnderCurtain.grp 2).pend = none ∧
    (exitUnderCurtain.grp 2).target = rqInt ∧ exitUnderCurtain.device = .ready ∧ exitUnderCurtain.levelWake 2 = false := by
  decide +kernel

/-- The transition ends in INTERMISSION, and the group's page shows no event. -/
theorem exitUnderCurtain_ends :
    (exitUnderCurtain.transEnd 2).pw 2 = pwInt ∧ (exitUnderCurtain.transEnd 2).evt (gp 2) 2 = false := by decide +kernel

/-- A ready module with an open two-wire write and its TWT page BUSY for rehearsal. No scope covers that page (R396); a statement about
every state meets it all the same. -/
def writeUnderRehearsal : State := (up.modTwt (fun x => { x with xfer := .write })).setBusy .twt .rehearsal

theorem writeUnderRehearsal_meets : writeUnderRehearsal.twtHears = true ∧ writeUnderRehearsal.twt.xfer ≠ .none := by
  decide +kernel

/-- The stall closes the transfer, and the TWT page shows no fault. -/
theorem writeUnderRehearsal_stalls : (writeUnderRehearsal.twtTimeout .stall).twt.xfer = .none ∧
    (writeUnderRehearsal.twtTimeout .stall).evt .twt 18 = false := by decide +kernel

end Sys2Proof.Machine

open Sys2Proof Sys2Proof.Machine

/-- Settles O42: in full reset no land is served, and each land at VIO levels follows VIO. -/
theorem outputLandsAfterFullReset : Obligations.OutputLandsAfterFullReset := by
  refine ⟨fun s hd hv => ⟨_, congrArg Host.Outcome.next (State.fullReset_of_running hd hv), ?_⟩, fun s hv l hl => ?_⟩
  · obtain ⟨hdev, hvio⟩ := s.fullResetWith_lands 2
    have hserved : (s.fullResetWith 2).landsServed = false := by simp [State.landsServed, hdev]
    simp [State.drive, State.vioLand, hserved, hvio, hv]
  · cases l <;> simp_all [State.drive, State.vioLand]

/-- Refutes O53: its clause of TRANSITION_END into INTERMISSION asks for the group's event and not that its page be free. Under a curtain
that page's detectors set no bit (R402, R454). -/
theorem not_powerStateResults : ¬ Obligations.PowerStateResults := by
  intro ⟨_, _, _, _, _, hend, _⟩
  obtain ⟨hmoving, hpend, htarget, hready, hwake⟩ := exitUnderCurtain_meets
  obtain ⟨t, ht, -, -, hevt⟩ := hend 2 exitUnderCurtain hmoving hpend htarget hready hwake
  rw [← Host.Outcome.next.inj ht, exitUnderCurtain_ends.2] at hevt
  exact absurd hevt (by decide)

/-- Refutes O57: its clause of TWT_TIMEOUT asks for the fault bit and not that the TWT page be free. While that page is BUSY for rehearsal
its detectors set no bit (R402, R454). -/
theorem not_twoWireResults : ¬ Obligations.TwoWireResults := by
  intro ⟨_, _, _, _, _, _, htimeout, _⟩
  obtain ⟨hhears, hopen⟩ := writeUnderRehearsal_meets
  obtain ⟨t, ht, -, hevt, -⟩ := htimeout .stall writeUnderRehearsal hhears hopen
  rw [← Host.Outcome.next.inj ht, writeUnderRehearsal_stalls.2] at hevt
  exact absurd hevt (by decide)

end

section
/-!
SUPPORT. The frame of the commands of the serial ports. Such a command touches listed registers, what an event or a violation brings with it,
and the records of the ports. Which records is a choice of parts (`PortParts`), so that what a command leaves alone is said once for them all
(`State.PortTouches`), with a rule for each operation that such a command is made of (R420 to R444, R457).
-/
namespace Sys2Proof.Machine

/-- The parts of the state that a command of the ports may touch beside registers: the access queue, the record of the SPI target, of the
two-wire target and of the two-wire controller, the lands, and the count of free values. -/
structure PortParts where
  access : Bool := false
  spi : Bool := false
  twt : Bool := false
  twc : Bool := false
  land : Bool := false
  free : Bool := false

/-- `s` with the chosen parts of `t`. -/
def State.withParts (P : PortParts) (s t : State) : State :=
  { s with
    access := bif P.access then t.access else s.access
    spi := bif P.spi then t.spi else s.spi
    twt := bif P.twt then t.twt else s.twt
    twc := bif P.twc then t.twc else s.twc
    land := bif P.land then t.land else s.land
    free := bif P.free then t.free else s.free }

/-- `t` has what `s` has, but for the registers at `l`, what an event or a violation brings with it, and the chosen parts. -/
def State.PortTouches (P : PortParts) (l : List Nat) (s t : State) : Prop := s.Frame l t ∧ (s.withParts P t).SameRest t

variable {P : PortParts} {l m : List Nat} {s t u : State}

/-! ### Rules -/

/-- What leaves memory, the side tables and every record but the chosen parts alone. -/
theorem State.PortTouches.of_sameRest (hf : s.Frame l t) (hr : s.SameRest t) : s.PortTouches P l t := by
  refine ⟨hf, ?_⟩
  simp only [State.SameRest] at hr
  simp [State.SameRest, State.withParts, hr]

theorem State.PortTouches.refl (P : PortParts) (l : List Nat) (s : State) : s.PortTouches P l s :=
  .of_sameRest (.refl s l) (.refl s)

theorem State.PortTouches.trans (h : s.PortTouches P l t) (k : t.PortTouches P l u) : s.PortTouches P l u := by
  refine ⟨h.1.trans k.1, ?_⟩
  have hr := h.2
  have kr := k.2
  simp only [State.SameRest, State.withParts] at hr kr ⊢
  grind

theorem State.PortTouches.mono (h : s.PortTouches P l t) (k : ∀ a ∈ l, a ∈ m) : s.PortTouches P m t := ⟨h.1.mono k, h.2⟩

theorem State.PortTouches.setF (h : s.PortTouches P l t) (p : Page) (x : Fld) (v : Nat)
    (k : pageAddr p x.off ∈ l ∨ pageAddr p x.off ∈ sideRegs) : s.PortTouches P l (t.setF p x v) :=
  h.trans (.of_sameRest ((State.Frame.refl t l).setF p x v k) ((State.SameRest.refl t).setF p x v))

theorem State.PortTouches.inc (h : s.PortTouches P l t) (p : Page) (x : Fld)
    (k : pageAddr p x.off ∈ l ∨ pageAddr p x.off ∈ sideRegs) : s.PortTouches P l (t.inc p x) := h.setF p x _ k

theorem State.PortTouches.viol (h : s.PortTouches P l t) (p : Page) (v : Viol) (k : pageAddr p (violFld v).off ∈ l) :
    s.PortTouches P l (t.viol p v) :=
  h.trans (.of_sameRest ((State.Frame.refl t l).viol p v (.inl k)) ((State.SameRest.refl t).viol p v))

theorem State.PortTouches.raise (h : s.PortTouches P l t) (p : Page) (bit : Nat) (k : pageAddr p 0x010 ∈ l) :
    s.PortTouches P l (t.raise p bit) :=
  h.trans (.of_sameRest ((State.Frame.refl t l).raise p bit k) (t.raise_spec p bit).2)

/-- A change of chosen parts alone. -/
theorem State.PortTouches.parts (h : s.PortTouches P l t) (hu : t.withParts P u = u) : s.PortTouches P l u := by
  refine h.trans ⟨(State.Frame.refl t l).of_eq ?_ ?_, ?_⟩
  · rw [← hu]; rfl
  · rw [← hu]; rfl
  · rw [hu]; exact .refl u

theorem State.PortTouches.ite {c : Prop} [Decidable c] (h : s.PortTouches P l t) (k : s.PortTouches P l u) :
    s.PortTouches P l (if c then t else u) := by split <;> assumption

theorem State.PortTouches.modSpi (h : s.PortTouches P l t) (f : SpiSt → SpiSt) (hP : P.spi = true) : s.PortTouches P l (t.modSpi f) :=
  h.parts (by simp [State.withParts, State.modSpi, hP])

theorem State.PortTouches.modTwt (h : s.PortTouches P l t) (f : TwtSt → TwtSt) (hP : P.twt = true) : s.PortTouches P l (t.modTwt f) :=
  h.parts (by simp [State.withParts, State.modTwt, hP])

theorem State.PortTouches.modTwc (h : s.PortTouches P l t) (f : TwcSt → TwcSt) (hP : P.twc = true) : s.PortTouches P l (t.modTwc f) :=
  h.parts (by simp [State.withParts, State.modTwc, hP])

theorem State.PortTouches.setLand (h : s.PortTouches P l t) (x : LandSt) (hP : P.land = true) :
    s.PortTouches P l { t with land := x } := h.parts (by simp [State.withParts, hP])

theorem State.PortTouches.setAccess (h : s.PortTouches P l t) (x : List Access) (hP : P.access = true) :
    s.PortTouches P l { t with access := x } := h.parts (by simp [State.withParts, hP])

theorem State.PortTouches.peak (h : s.PortTouches P l t) (v : Nat) (k : pageAddr .house 0x06C ∈ l) : s.PortTouches P l (t.peak v) :=
  h.setF _ _ _ (.inl k)

theorem State.PortTouches.enqueueAt (h : s.PortTouches P l t) (x : Access) (k : pageAddr .house 0x06C ∈ l) (hP : P.access = true) :
    s.PortTouches P l (t.enqueueAt x) := (h.peak _ k).setAccess _ hP

/-! ### The SPI target (R420 to R426) -/

/-- The registers that an SPI frame may touch: the PROTOCOL counter, SPI_STAT and SPI_CNT. -/
def spiFrameRegs : List Nat := regsOf .spi [0x020, 0x024, 0x044, 0x048]

theorem State.spiMissed_touches (s : State) (hP : P.land = true) : s.PortTouches P l s.spiMissed :=
  (State.PortTouches.refl P l s).setLand _ hP

theorem State.spiDrop_touches (s : State) (hP : P.spi = true) : s.PortTouches P l s.spiDrop :=
  (State.PortTouches.refl P l s).modSpi _ hP

/-- A write whose data never completes is forgotten and counts. -/
theorem State.spiDropViol_touches (s : State) (hP : P.spi = true) (k : pageAddr .spi 0x024 ∈ l) :
    s.PortTouches P l (s.spiDrop.viol .spi .protocol) := (s.spiDrop_touches hP).viol _ _ k

theorem State.spiBegin_touches (s : State) (mode3 : Bool) (hP : P.spi = true) : s.PortTouches P spiFrameRegs (s.spiBegin mode3) := by
  unfold State.spiBegin
  exact (State.PortTouches.ite (s.spiDropViol_touches hP (by decide)) (.refl P _ s)).setF _ _ _ (.inl (by decide))

theorem State.spiOut_touches (s : State) (code head : Nat) (carries full : Bool) (hP : P.spi = true) :
    s.PortTouches P l (s.spiOut code head carries full) := by
  unfold State.spiOut
  dsimp only
  split
  · exact .ite ((State.PortTouches.refl P l s).modSpi _ hP) ((State.PortTouches.refl P l s).modSpi _ hP)
  · exact (State.PortTouches.refl P l s).modSpi _ hP

/-- A frame with an operation: heard or missed, busy or accepted. -/
theorem State.spiFrame_touches (s : State) (k : AccKind) (mode3 : Bool) (addr : BitVec 32) (full : Bool) (ha : P.access = true)
    (hs : P.spi = true) (hl : P.land = true) :
    s.PortTouches P (spiFrameRegs ++ regsOf .house [0x06C]) (s.spiFrame k mode3 addr full) := by
  have hbegin : s.PortTouches P (spiFrameRegs ++ regsOf .house [0x06C]) (s.spiBegin mode3) :=
    (s.spiBegin_touches mode3 hs).mono fun a h => List.mem_append_left _ h
  unfold State.spiFrame
  refine .ite (s.spiMissed_touches hl) ?_
  dsimp only
  generalize s.spiBegin mode3 = u at hbegin
  have hcount := hbegin.inc .spi SpiR.SPI_CNT_FRAMES (.inl (by decide))
  refine .ite (hbegin.trans (State.spiOut_touches _ _ _ _ _ hs)) (.ite ?_ ?_)
  · exact ((hcount.peak _ (by decide)).modSpi _ hs).trans (State.spiOut_touches _ _ _ _ _ hs)
  · exact ((hcount.enqueueAt _ (by decide) ha).modSpi _ hs).trans (State.spiOut_touches _ _ _ _ _ hs)

theorem State.spiStatus_touches (s : State) (mode3 full : Bool) (hs : P.spi = true) (hl : P.land = true) :
    s.PortTouches P spiFrameRegs (s.spiStatus mode3 full) := by
  unfold State.spiStatus
  exact .ite (s.spiMissed_touches hl) ((s.spiBegin_touches mode3 hs).trans (State.spiOut_touches _ _ _ _ _ hs))

theorem State.spiComplete_touches (s : State) (data : BitVec 128) (ha : P.access = true) (hs : P.spi = true) :
    s.PortTouches P (spiFrameRegs ++ regsOf .house [0x06C]) (s.spiComplete data) := by
  unfold State.spiComplete
  split
  · exact .refl P _ s
  · exact (s.spiDrop_touches hs).enqueueAt _ (by decide) ha

theorem State.spiFault_touches (s : State) (f : SpiFault) (mode3 : Bool) (hs : P.spi = true) (hl : P.land = true) :
    s.PortTouches P spiFrameRegs (s.spiFault f mode3) := by
  have hbegin := (s.spiBegin_touches mode3 hs).viol .spi .protocol (by decide)
  have hdrop : s.PortTouches P spiFrameRegs (s.spiDrop.viol .spi .protocol) := s.spiDropViol_touches hs (by decide)
  unfold State.spiFault
  refine .ite (s.spiMissed_touches hl) ?_
  cases f with
  | short => exact hbegin
  | opcode => exact hbegin.trans (State.spiOut_touches _ _ _ _ _ hs)
  | shortWrite => exact .ite hdrop (.refl P _ s)
  | partialByte => exact hdrop

theorem State.spiStall_touches (s : State) (hs : P.spi = true) : s.PortTouches P (regsOf .spi [0x010, 0x020, 0x024]) s.spiStall := by
  unfold State.spiStall
  exact .ite ((s.spiDropViol_touches hs (by decide)).raise _ _ (by decide)) (.refl P _ s)

/-! ### The two-wire target (R427 to R437) -/

theorem State.twtClose_touches (s : State) (hP : P.twt = true) (k : pageAddr .twt 0x044 ∈ l) : s.PortTouches P l s.twtClose :=
  (((State.PortTouches.refl P l s).modTwt _ hP).setF _ _ _ (.inl k)).setF _ _ _ (.inl k)

theorem State.twtStop_touches (s : State) (ht : P.twt = true) (hl : P.land = true) : s.PortTouches P l s.twtStop :=
  ((State.PortTouches.refl P l s).modTwt _ ht).setLand _ hl

theorem State.twtOffer_touches (s : State) (lead : Nat) (ha : P.access = true) (k : pageAddr .house 0x06C ∈ l) :
    s.PortTouches P l (s.twtOffer lead).1 := by
  unfold State.twtOffer
  dsimp only
  split
  · exact .refl P l s
  · exact (State.PortTouches.refl P l s).enqueueAt _ k ha

theorem State.twtContinue_touches (s : State) (tScl tLow : BitVec 16) (ha : P.access = true) (ht : P.twt = true) :
    s.PortTouches P (regsOf .twt [0x044] ++ regsOf .house [0x06C]) (s.twtContinue tScl tLow) := by
  unfold State.twtContinue
  refine .ite (.refl P _ s) ?_
  extract_lets next offer
  have hnext : s.PortTouches P (regsOf .twt [0x044] ++ regsOf .house [0x06C]) next :=
    ((State.PortTouches.refl P _ s).modTwt _ ht).setF _ _ _ (.inl (by decide))
  have hoffer : s.PortTouches P (regsOf .twt [0x044] ++ regsOf .house [0x06C]) offer.1 :=
    hnext.trans (next.twtOffer_touches _ ha (by decide))
  exact .ite hoffer (hoffer.modTwt _ ht)

theorem State.twtData_touches (s : State) (b : Byte) (ht : P.twt = true) :
    s.PortTouches P (regsOf .twt [0x044] ++ regsOf .house [0x06C]) (s.twtData b) := by
  have hseen : ∀ f, s.PortTouches P (regsOf .twt [0x044] ++ regsOf .house [0x06C]) (s.modTwt f) :=
    fun f => (State.PortTouches.refl P _ s).modTwt f ht
  unfold State.twtData
  exact .ite (.refl P _ s)
    (.ite ((((hseen _).peak _ (by decide)).modTwt _ ht).setF _ _ _ (.inl (by decide))) (hseen _))

/-- The registers of a page buffer join the access queue. -/
theorem State.PortTouches.joined {α : Type} (h : s.PortTouches P l t) (ws : List α) (f : α → Access) (ha : P.access = true) :
    s.PortTouches P l (ws.foldl (fun s w => { s with access := s.access ++ [f w] }) t) := by
  induction ws generalizing t with
  | nil => exact h
  | cons w ws ih => exact ih (h.setAccess _ ha)

theorem State.twtApply_touches (s : State) (ha : P.access = true) (ht : P.twt = true) (hl : P.land = true) :
    s.PortTouches P (regsOf .twt [0x044, 0x048, 0x04C]) s.twtApply := by
  have hclosed : s.PortTouches P (regsOf .twt [0x044, 0x048, 0x04C]) s.twtClose.twtStop :=
    (s.twtClose_touches ht (by decide)).trans (State.twtStop_touches _ ht hl)
  unfold State.twtApply
  refine .ite (s.twtStop_touches ht hl) (.ite hclosed ?_)
  exact (((hclosed.joined _ _ ha).setF _ _ _ (.inl (by decide))).inc _ _ (.inl (by decide))).setF _ _ _ (.inl (by decide))

theorem State.twtReadEnd_touches (s : State) (whole : Bool) (ht : P.twt = true) (hl : P.land = true) :
    s.PortTouches P (regsOf .twt [0x044, 0x048, 0x04C]) (s.twtReadEnd whole) := by
  unfold State.twtReadEnd
  refine .ite (s.twtStop_touches ht hl) ?_
  extract_lets last n moved ended
  have hmoved : s.PortTouches P (regsOf .twt [0x044, 0x048, 0x04C]) moved :=
    .ite ((State.PortTouches.refl P _ s).setF _ _ _ (.inl (by decide))) (.refl P _ s)
  have hended : s.PortTouches P (regsOf .twt [0x044, 0x048, 0x04C]) ended :=
    ((hmoved.setF _ _ _ (.inl (by decide))).trans (State.twtClose_touches _ ht (by decide))).trans (State.twtStop_touches _ ht hl)
  exact .ite hended (hended.inc _ _ (.inl (by decide)))

theorem State.twtFault_touches (s : State) (ht : P.twt = true) : s.PortTouches P (regsOf .twt [0x020, 0x024, 0x044]) s.twtFault := by
  unfold State.twtFault
  exact .ite (.refl P _ s) ((s.twtClose_touches ht (by decide)).viol _ _ (by decide))

theorem State.twtTimeout_touches (s : State) (k : TwtTmo) (ht : P.twt = true) :
    s.PortTouches P (regsOf .twt [0x010, 0x044]) (s.twtTimeout k) := by
  have hclosed : s.PortTouches P (regsOf .twt [0x010, 0x044]) s.twtClose := s.twtClose_touches ht (by decide)
  have hcut : ∀ f, s.PortTouches P (regsOf .twt [0x010, 0x044]) (if s.twt.xfer != .none then s.twtClose.modTwt f else s) :=
    fun f => .ite (hclosed.modTwt f ht) (.refl P _ s)
  unfold State.twtTimeout
  refine .ite (.refl P _ s) ?_
  cases k with
  | scl => exact (hcut _).raise _ _ (by decide)
  | sda => exact (hcut _).raise _ _ (by decide)
  | stall => exact .ite (hclosed.raise _ _ (by decide)) (.refl P _ s)

theorem State.prompt_touches (s : State) : s.PortTouches P (regsOf .twt [0x04C]) s.prompt := by
  unfold State.prompt
  exact .ite (((State.PortTouches.refl P _ s).setF _ _ _ (.inr (by decide))).inc _ _ (.inl (by decide))) (.refl P _ s)

theorem State.promptAbandon_touches (s : State) (mine : Bool) : s.PortTouches P (regsOf .twt [0x04C]) (s.promptAbandon mine) := by
  have hcount := (State.PortTouches.refl P (regsOf .twt [0x04C]) s).inc .twt TwtR.TWT_CNT_ABANDONED (.inl (by decide))
  unfold State.promptAbandon
  exact .ite (.ite (hcount.setF _ _ _ (.inr (by decide))) hcount) (.refl P _ s)

/-! ### The two-wire controller (R438 to R444) -/

/-- The registers that the end of a transaction may touch: EVT_RAW, TWC_STAT and TWC_CNT. -/
def twcEndRegs : List Nat := regsOf .twc [0x010, 0x048, 0x04C]

/-- Likewise, with the bytes read, TWC_RBUF. -/
def twcReadRegs : List Nat := regsOf .twc [0x010, 0x048, 0x04C, 0x070, 0x074, 0x078, 0x07C, 0x080, 0x084, 0x088, 0x08C]

theorem State.twcResult_touches (s : State) (res : Nat) : s.PortTouches P twcEndRegs (s.twcResult res) := by
  unfold State.twcResult
  extract_lets recorded counted
  have hrecorded : s.PortTouches P twcEndRegs recorded := (State.PortTouches.refl P _ s).setF _ _ _ (.inl (by decide))
  have hcounted : s.PortTouches P twcEndRegs counted :=
    .ite (hrecorded.inc _ _ (.inl (by decide))) (.ite (hrecorded.inc _ _ (.inl (by decide))) hrecorded)
  clear_value counted
  split
  case h_7 => exact hcounted
  all_goals exact hcounted.raise _ _ (by decide)

theorem State.twcEnd_touches (s : State) (res starts : Nat) (hc : P.twc = true) : s.PortTouches P twcEndRegs (s.twcEnd res starts) := by
  unfold State.twcEnd
  exact ((((State.PortTouches.refl P _ s).setF _ _ _ (.inl (by decide))).setF _ _ _ (.inl (by decide))).modTwc _ hc).trans
    (State.twcResult_touches _ _)

theorem State.PortTouches.forAll {α : Type} {f : α → State → State} (h : s.PortTouches P l t) (as : List α)
    (hf : ∀ a ∈ as, ∀ u : State, u.PortTouches P l (f a u)) : s.PortTouches P l (forAll as f t) := by
  induction as generalizing t with
  | nil => exact h
  | cons a as ih => exact ih (h.trans (hf a List.mem_cons_self t)) fun b hb => hf b (List.mem_cons_of_mem _ hb)

/-- Byte `k` of TWC_RBUF lies in one of its eight registers. -/
theorem twcReadRegs_rbuf {k : Nat} (h : k < 32) : pageAddr .twc (0x070 + 4 * (k / 4)) ∈ twcReadRegs := by
  have hk : k / 4 < 8 := by omega
  interval_cases k / 4 <;> decide

/-- At most 32 bytes are read, and each has its place in TWC_RBUF (R438). -/
theorem State.twcRead_touches (s : State) (bytes : List Byte) : s.PortTouches P twcReadRegs (s.twcRead bytes) := by
  unfold State.twcRead
  refine (State.PortTouches.forAll (.refl P _ s) _ fun e he u => ?_).setF _ _ _ (.inl (by decide))
  have hk : e.2 < 32 := by
    have := List.snd_lt_of_mem_zipIdx he
    simp only [List.length_take] at this
    omega
  exact (State.PortTouches.refl P _ u).setF _ _ _ (.inl (twcReadRegs_rbuf hk))

theorem State.twcFinish_touches (s : State) (res index : Nat) (bytes : List Byte) (hc : P.twc = true) :
    s.PortTouches P twcReadRegs (s.twcFinish res index bytes) := by
  have hend : ∀ (u : State) (r n : Nat), u.PortTouches P twcReadRegs (u.twcEnd r n) :=
    fun u r n => (u.twcEnd_touches r n hc).mono (by decide)
  have hread : s.PortTouches P twcReadRegs (s.twcRead bytes) := s.twcRead_touches bytes
  unfold State.twcFinish
  refine .ite (.refl P _ s) ?_
  dsimp only
  generalize s.twcRead bytes = u at hread
  exact .ite (hread.trans (hend u _ _))
    (.ite ((hread.setF _ _ _ (.inl (by decide))).trans (hend _ _ _)) (hread.trans (hend u _ _)))

theorem State.twcTxnEnd_touches (s : State) (fin : TwcEnd) (bytes : List Byte) (hc : P.twc = true) :
    s.PortTouches P twcReadRegs (s.twcTxnEnd fin bytes) := by
  cases fin <;> exact s.twcFinish_touches _ _ _ hc

theorem State.twcArb_touches (s : State) (hc : P.twc = true) : s.PortTouches P twcEndRegs s.twcArb := by
  have hcount : s.PortTouches P twcEndRegs (s.inc .twc TwcR.TWC_CNT_ARB) := (State.PortTouches.refl P _ s).inc _ _ (.inl (by decide))
  unfold State.twcArb
  refine .ite (.refl P _ s) ?_
  dsimp only
  generalize s.inc .twc TwcR.TWC_CNT_ARB = u at hcount
  exact .ite (hcount.trans (u.twcEnd_touches _ _ hc)) (.ite (hcount.modTwc _ hc) (hcount.trans (u.twcEnd_touches _ _ hc)))

theorem State.twcTimeout_touches (s : State) (sda started : Bool) (hc : P.twc = true) :
    s.PortTouches P twcEndRegs (s.twcTimeout sda started) := by
  unfold State.twcTimeout
  extract_lets bit
  have hbit : s.PortTouches P twcEndRegs (s.setB .twc bit true) :=
    (State.PortTouches.refl P _ s).setF _ _ _ (.inl (by cases sda <;> decide))
  refine .ite ((hbit.modTwc _ hc).trans (State.twcEnd_touches _ _ _ hc)) (.ite ?_ (.ite (hbit.raise _ _ (by decide)) (.refl P _ s)))
  exact ((hbit.modTwc _ hc).setF _ _ _ (.inl (by decide))).trans (State.twcResult_touches _ _)

theorem State.twcRecovery_touches (s : State) (freed : Bool) (hc : P.twc = true) :
    s.PortTouches P twcEndRegs (s.twcRecovery freed) := by
  unfold State.twcRecovery
  refine .ite (.refl P _ s) ?_
  extract_lets checked rested stuck
  have hchecked : s.PortTouches P twcEndRegs checked := (State.PortTouches.refl P _ s).modTwc _ hc
  have hrested : s.PortTouches P twcEndRegs rested := .ite hchecked (hchecked.setF _ _ _ (.inl (by decide)))
  have hstuck : s.PortTouches P twcEndRegs stuck := hrested.modTwc _ hc
  exact .ite hrested (.ite (hstuck.trans (stuck.twcEnd_touches _ _ hc)) (hstuck.trans (stuck.twcResult_touches _)))

/-- What the controller does with its bus, or nothing without VIO (R65). -/
theorem State.onBus_touches {f : State → State} (h : s.PortTouches P l (f s)) : s.PortTouches P l (s.onBus f) := .ite h (.refl P l s)

/-! ### VIO and ECC_INJ (R65, R457) -/

theorem State.vioLoss_touches (s : State) (hs : P.spi = true) (ht : P.twt = true) (hl : P.land = true) :
    s.PortTouches P (regsOf .twt [0x044]) s.vioLoss := by
  unfold State.vioLoss
  have hcut := (((State.PortTouches.refl P (regsOf .twt [0x044]) s).setLand
    { s.land with vio := false, twtArmed := false, spiArmed := false } hl).modSpi (fun x => { x with open_ := none }) hs).modTwt
    (fun _ => {}) ht
  exact (hcut.setF _ _ _ (.inl (by decide))).setF _ _ _ (.inl (by decide))

theorem State.vioReturn_touches (s : State) (hl : P.land = true) (hf : P.free = true) : s.PortTouches P l s.vioReturn := by
  unfold State.vioReturn
  refine .ite (.refl P l s) ?_
  exact (State.PortTouches.refl P l s).parts (by simp [State.withParts, State.draw, hl, hf])

theorem State.eccInject_touches (s : State) (row : BitVec 10) : s.PortTouches P l (s.eccInject row) := by
  unfold State.eccInject
  refine .ite ?_ (.refl P l s)
  obtain ⟨hrd, hmem, hrest⟩ := s.sramWrite_spec (1024 * s.f .house HouseR.ECC_INJ_MACRO + row.toNat)
  refine .of_sameRest ⟨fun a _ ha => hrd a ?_, fun a _ => by rw [State.mget, hmem, State.mget]⟩ hrest
  rintro rfl
  exact ha (by decide)

end Sys2Proof.Machine

open Sys2Proof Sys2Proof.Machine

/-- Settles O47: each command's operation touches the registers of its clause, and of the rest only the parts that the clause names. -/
theorem portFrame : Obligations.PortFrame := by
  refine ⟨fun _ _ s => ⟨_, rfl, ?_⟩, fun _ _ _ s => ⟨_, rfl, ?_⟩, fun _ _ s => ⟨_, rfl, ?_⟩, fun _ _ _ s => ⟨_, rfl, ?_⟩,
    fun _ _ s => ⟨_, rfl, ?_⟩, fun _ s => ⟨_, rfl, ?_⟩, fun _ _ s => ⟨_, rfl, ?_⟩, fun s => ⟨_, rfl, ?_⟩, fun _ _ s => ⟨_, rfl, ?_⟩,
    fun _ s => ⟨_, rfl, ?_⟩, fun s => ⟨_, rfl, ?_⟩, fun _ s => ⟨_, rfl, ?_⟩, fun s => ⟨_, rfl, ?_⟩, fun _ s => ⟨_, rfl, ?_⟩,
    fun s => ⟨_, rfl, ?_⟩, fun _ s => ⟨_, rfl, ?_⟩, fun s => ⟨_, rfl, ?_⟩, fun sda started s => ⟨_, rfl, ?_⟩, fun fin bytes s => ⟨_, rfl, ?_⟩,
    fun freed s => ⟨_, rfl, ?_⟩, fun s => ⟨_, rfl, ?_⟩, fun s => ⟨_, rfl, ?_⟩, fun _ s => ⟨_, rfl, ?_⟩⟩
  · exact State.spiFrame_touches (P := { access := true, spi := true, land := true }) s _ _ _ _ rfl rfl rfl
  · exact State.spiFrame_touches (P := { access := true, spi := true, land := true }) s _ _ _ _ rfl rfl rfl
  · exact State.spiFrame_touches (P := { access := true, spi := true, land := true }) s _ _ _ _ rfl rfl rfl
  · exact State.spiFrame_touches (P := { access := true, spi := true, land := true }) s _ _ _ _ rfl rfl rfl
  · exact State.spiStatus_touches (P := { spi := true, land := true }) s _ _ rfl rfl
  · exact State.spiComplete_touches (P := { access := true, spi := true }) s _ rfl rfl
  · exact (State.spiFault_touches (P := { spi := true, land := true }) s _ _ rfl rfl).mono (by decide)
  · exact State.spiStall_touches (P := { spi := true }) s rfl
  · exact State.twtContinue_touches (P := { access := true, twt := true }) s _ _ rfl rfl
  · exact State.twtData_touches (P := { twt := true }) s _ rfl
  · exact State.twtApply_touches (P := { access := true, twt := true, land := true }) s rfl rfl rfl
  · exact State.twtReadEnd_touches (P := { twt := true, land := true }) s _ rfl rfl
  · exact State.twtFault_touches (P := { twt := true }) s rfl
  · exact State.twtTimeout_touches (P := { twt := true }) s _ rfl
  · exact State.prompt_touches (P := {}) s
  · exact State.promptAbandon_touches (P := {}) s _
  · exact State.onBus_touches (State.twcArb_touches (P := { twc := true }) s rfl)
  · exact State.onBus_touches (f := fun u => u.twcTimeout sda started) (State.twcTimeout_touches (P := { twc := true }) s _ _ rfl)
  · exact State.onBus_touches (f := fun u => u.twcTxnEnd fin bytes) (State.twcTxnEnd_touches (P := { twc := true }) s _ _ rfl)
  · exact State.onBus_touches (f := fun u => u.twcRecovery freed) (State.twcRecovery_touches (P := { twc := true }) s _ rfl)
  · exact State.vioLoss_touches (P := { spi := true, twt := true, land := true }) s rfl rfl rfl
  · exact State.vioReturn_touches (P := { land := true, free := true }) s rfl rfl
  · exact State.eccInject_touches (P := {}) s _

end

section
/-!
SUPPORT. What the commands of the serial ports lead to: the frames that the SPI target takes (R420 to R426), the transfers of the two-wire
target (R427 to R437), the transactions of the controller (R438 to R444), and the writes of SPI_CFG and TWC_CMD that are taken (R2, R5).
-/
namespace Sys2Proof.Machine

variable {s : State}

/-! ### A frame that the SPI target takes (R420, R422) -/

/-- Where no write is open, a frame only notes its mode. -/
theorem State.spiBegin_of_closed (h : s.spi.open_ = none) (mode3 : Bool) : s.spiBegin mode3 = s.setB .spi SpiR.SPI_STAT_MODE mode3 := by
  simp [State.spiBegin, h]

theorem State.rehRefuses_spiMode (s : State) (mode3 : Bool) (a : Nat) :
    (s.setB .spi SpiR.SPI_STAT_MODE mode3).rehRefuses a = s.rehRefuses a := by
  have hscope : (s.setB .spi SpiR.SPI_STAT_MODE mode3).rehScope = s.rehScope := s.f_setF_ne _ _ _ _ _ (by decide)
  rw [State.rehRefuses, hscope]
  rfl

theorem State.regRefused_spiMode (s : State) (mode3 : Bool) (p : Page) (off : Nat) :
    (s.setB .spi SpiR.SPI_STAT_MODE mode3).regRefused p off = s.regRefused p off := by
  have hreset : (s.setB .spi SpiR.SPI_STAT_MODE mode3).rstState = s.rstState := s.f_setF_ne _ _ _ _ _ (by decide)
  have hnvm : (s.setB .spi SpiR.SPI_STAT_MODE mode3).f .nvm NvmR.NVM_STAT_STATE = s.f .nvm NvmR.NVM_STAT_STATE :=
    s.f_setF_ne _ _ _ _ _ (by decide)
  simp only [State.regRefused, hreset, hnvm]
  rfl

/-- The mode of a frame refuses nothing. -/
theorem State.refuses_spiMode (s : State) (mode3 : Bool) (x : Access) :
    (s.setB .spi SpiR.SPI_STAT_MODE mode3).refuses x = s.refuses x := by
  simp only [State.refuses, State.wordRefused, State.rehRefuses_spiMode, State.regRefused_spiMode]
  rfl

/-- Nor does it bear on the budget. -/
theorem State.admits_spiMode (s : State) (mode3 : Bool) (q c : Nat) :
    (s.setB .spi SpiR.SPI_STAT_MODE mode3).admits q c = s.admits q c := by
  have hfloor : (s.setB .spi SpiR.SPI_STAT_MODE mode3).on .house HouseR.ADM_CTL_TEST_FLOOR = s.on .house HouseR.ADM_CTL_TEST_FLOOR := by
    rw [State.on, State.setB, State.f_setF_ne _ _ _ _ _ _ (by decide), State.on]
  have hrate : (s.setB .spi SpiR.SPI_STAT_MODE mode3).f .house HouseR.FAB_SPEED_RATE = s.f .house HouseR.FAB_SPEED_RATE :=
    s.f_setF_ne _ _ _ _ _ (by decide)
  have hbudget : (s.setB .spi SpiR.SPI_STAT_MODE mode3).budget = s.budget := by
    rw [State.budget, hfloor, hrate]
    rfl
  rw [State.admits, hbudget, State.admits]

@[simp] theorem State.spiOut_open (s : State) (code head : Nat) (carries full : Bool) :
    (s.spiOut code head carries full).spi.open_ = s.spi.open_ := by
  unfold State.spiOut
  dsimp only
  split
  · split <;> rfl
  · rfl

@[simp] theorem State.spiOut_access (s : State) (code head : Nat) (carries full : Bool) :
    (s.spiOut code head carries full).access = s.access := by
  unfold State.spiOut
  dsimp only
  split
  · split <;> rfl
  · rfl

@[simp] theorem State.spiOut_rd (s : State) (code head : Nat) (carries full : Bool) (a : Nat) :
    (s.spiOut code head carries full).rd a = s.rd a := by
  unfold State.spiOut
  dsimp only
  split
  · split <;> rfl
  · rfl

/-- The access that a frame of the SPI target offers. -/
def spiAccess (k : AccKind) (addr : BitVec 32) : Access := { src := .spi, kind := k, addr := addr, cost := opCost k addr.toNat }

/-- What a frame that the SPI target takes starts from: its mode is noted, and it is counted. -/
def State.spiCounted (s : State) (mode3 : Bool) : State := (s.setB .spi SpiR.SPI_STAT_MODE mode3).inc .spi SpiR.SPI_CNT_FRAMES

/-- A frame that is taken reserves its write, or its read joins the access queue. -/
theorem State.spiFrame_of_takes {k : AccKind} {addr : BitVec 32} (h : s.spiTakes k addr = true)
    (hret : isWrite k = false → s.spi.ret.length < 4) (mode3 full : Bool) :
    s.spiFrame k mode3 addr full =
      if isWrite k then
        (((s.spiCounted mode3).peak ((s.spiCounted mode3).admQ + opCost k addr.toNat)).modSpi
          (fun y => { y with open_ := some { spiAccess k addr with at_ := s.elapsed } })).spiOut 1 s.spiHead false false
      else
        (((s.spiCounted mode3).enqueue (spiAccess k addr)).modSpi
          (fun y => { y with ret := y.ret ++ [⟨addr, isQuad k, none⟩] })).spiOut 1 s.spiHead true full := by
  simp only [State.spiTakes, Bool.and_eq_true, Bool.not_eq_true', Option.isNone_iff_eq_none] at h
  obtain ⟨⟨⟨hhears, hopen⟩, hrefuses⟩, hadmits⟩ := h
  have hfull : (!isWrite k && decide (s.spi.ret.length ≥ 4)) = false := by
    cases hk : isWrite k with
    | true => rfl
    | false => simpa using hret hk
  have hlen : (s.setB .spi SpiR.SPI_STAT_MODE mode3).spi.ret = s.spi.ret := by simp
  have hq : (s.setB .spi SpiR.SPI_STAT_MODE mode3).admQ = s.admQ := by simp [State.admQ, State.reserved]
  have hhead : (s.setB .spi SpiR.SPI_STAT_MODE mode3).spiHead = s.spiHead := by simp [State.spiHead]
  have helapsed : (s.spiCounted mode3).elapsed = s.elapsed := by simp [State.spiCounted]
  have hmode := s.refuses_spiMode mode3 (spiAccess k addr)
  have hbudget := s.admits_spiMode mode3 s.admQ (opCost k addr.toNat)
  rw [State.spiFrame, if_neg (by simp [hhears])]
  simp only [State.spiBegin_of_closed hopen]
  unfold State.spiCounted at helapsed ⊢
  generalize s.setB .spi SpiR.SPI_STAT_MODE mode3 = u at *
  rw [if_neg (by simp_all [spiAccess]), helapsed, hhead]
  rfl

/-- A write frame that is taken stays open for its data. -/
theorem State.spiFrame_opens {k : AccKind} {addr : BitVec 32} (h : s.spiTakes k addr = true) (hk : isWrite k = true) (mode3 : Bool) :
    (s.spiFrame k mode3 addr false).spi.open_ = some { spiAccess k addr with at_ := s.elapsed } := by
  rw [State.spiFrame_of_takes h (by simp [hk]), if_pos hk, State.spiOut_open]
  rfl

/-- The read of a frame that is taken waits in the access queue. -/
theorem State.spiFrame_enqueues {k : AccKind} {addr : BitVec 32} (h : s.spiTakes k addr = true) (hk : isWrite k = false)
    (hret : s.spi.ret.length < 4) (mode3 full : Bool) :
    (s.spiFrame k mode3 addr full).access = s.access ++ [{ spiAccess k addr with at_ := s.elapsed }] := by
  rw [State.spiFrame_of_takes h fun _ => hret, if_neg (by simp [hk]), State.spiOut_access]
  simp [State.modSpi, State.enqueue, State.enqueueAt, State.peak, State.spiCounted]

/-! ### Other frames of the SPI target (R423, R426) -/

theorem State.spiBegin_ret (s : State) (mode3 : Bool) : (s.spiBegin mode3).spi.ret = s.spi.ret := by
  unfold State.spiBegin
  split <;> simp [State.spiDrop, State.modSpi, State.viol]

/-- A status frame gives the return of a head that is READY or ERROR. -/
theorem State.spiStatus_out {r : SpiRet} {l : List SpiRet} (hhears : s.spiHears = true) (hret : s.spi.ret = r :: l)
    (hhead : s.spiHead = 1 ∨ s.spiHead = 3) (mode3 full : Bool) :
    (s.spiStatus mode3 full).spi.out = statusByte 0 s.spiHead (l.length + 1) :: returnBytes r := by
  have hbegun := s.spiBegin_ret mode3
  have hsame : (s.spiBegin mode3).spiHead = s.spiHead := by rw [State.spiHead, hbegun, State.spiHead]
  have hcarried : (s.spiHead == 1 || s.spiHead == 3) = true := by simpa using hhead
  rw [State.spiStatus, if_neg (by simp [hhears])]
  dsimp only
  rw [hsame]
  generalize s.spiBegin mode3 = u at hbegun
  simp [State.spiOut, hbegun, hret, hcarried, State.modSpi]

/-- A frame fault counts one PROTOCOL violation in the SPI page, saturating (R452). -/
theorem State.f_viol_protocol (s : State) :
    (s.viol .spi .protocol).f .spi Hdr.VIOL_1_PROTOCOL = satNat 0xFFFF (s.f .spi Hdr.VIOL_1_PROTOCOL + 1) := by
  have htotals : ∀ u : State, ((u.inc .house (violTot .protocol)).violLast .protocol (pageNum .spi) false).f .spi Hdr.VIOL_1_PROTOCOL =
      u.f .spi Hdr.VIOL_1_PROTOCOL := fun u => by
    simp (disch := decide) only [State.violLast, State.inc, State.add, State.setB, State.f_setF_ne]
  refine (htotals _).trans ?_
  rw [State.inc, State.add, violFld, State.f_setF_self _ _ _ _ (by decide) (by decide)]
  refine Nat.mod_eq_of_lt ?_
  show satNat 0xFFFF _ < 0x10000
  unfold satNat
  split <;> omega

theorem State.spiFault_opcode_counts (hhears : s.spiHears = true) (hopen : s.spi.open_ = none) (mode3 : Bool) :
    (s.spiFault .opcode mode3).f .spi Hdr.VIOL_1_PROTOCOL = satNat 0xFFFF (s.f .spi Hdr.VIOL_1_PROTOCOL + 1) := by
  rw [State.spiFault, if_neg (by simp [hhears])]
  dsimp only
  rw [State.f, State.spiOut_rd, ← State.f, State.f_viol_protocol, State.spiBegin_of_closed hopen, State.setB,
    State.f_setF_ne _ _ _ _ _ _ (by decide)]

theorem State.spiStall_counts (hopen : s.spi.open_ ≠ none) :
    s.spiStall.f .spi Hdr.VIOL_1_PROTOCOL = satNat 0xFFFF (s.f .spi Hdr.VIOL_1_PROTOCOL + 1) := by
  rw [State.spiStall, if_pos (Option.isSome_iff_ne_none.2 hopen), State.f, State.rd_raise _ _ _ _ (by decide) (by decide), ← State.f]
  exact State.f_viol_protocol _

theorem State.spiComplete_closes {x : Access} (h : s.spi.open_ = some x) (data : BitVec 128) :
    (s.spiComplete data).spi.open_ = none := by
  rw [State.spiComplete, h]
  rfl

/-! ### The two-wire target (R427 to R437) -/

/-- An event leaves the record of the target as it is. -/
theorem State.raise_twt (s : State) (p : Page) (bit : Nat) : (s.raise p bit).twt = s.twt := by
  have h := (s.raise_spec p bit).2
  simp only [State.SameRest] at h
  simp only [h]

/-- An addressed START is heard, unless the target ignores the bus. -/
theorem State.twtStart_heard (hhears : s.twtHears = true) (hdeaf : s.twt.deaf = false) : s.twtStart.2 = true := by
  simp [State.twtStart, hhears, hdeaf, wbit]

theorem State.twtPointer_opens (p : BitVec 16) (h : s.twtStart.2 = true) : (s.twtPointer p).twt.xfer = .write := by
  rw [State.twtPointer, if_neg (by simp [h])]
  rfl

theorem State.twtRead_opens {tScl tLow : BitVec 16} (h : s.twtStart.2 = true)
    (hoffer : (s.twtStart.1.twtOffer (s.twtStart.1.twtLead tScl.toNat tLow.toNat)).2 = true) : (s.twtRead tScl tLow).twt.xfer = .read := by
  rw [State.twtRead, if_neg (by simp [h]), if_pos hoffer]
  rfl

theorem State.twtOffer_twt (s : State) (lead : Nat) : (s.twtOffer lead).1.twt = s.twt := by
  unfold State.twtOffer
  dsimp only
  split
  · rfl
  · simp [State.enqueue, State.enqueueAt, State.peak]

theorem State.twtContinue_counts (hread : s.twt.xfer = .read) (hmute : s.twt.mute = false) (tScl tLow : BitVec 16) :
    (s.twtContinue tScl tLow).twt.regs = s.twt.regs + 1 := by
  rw [State.twtContinue, if_neg (by simp [hread, hmute])]
  extract_lets next offer
  have hoffer : offer.1.twt.regs = s.twt.regs + 1 := congrArg TwtSt.regs (next.twtOffer_twt _)
  split
  · exact hoffer
  · exact hoffer

/-- A data byte that is admitted takes its place in the buffer. -/
theorem State.twtData_places {b : Byte} (hwrite : s.twt.xfer = .write) (hseen : s.twt.seen = true)
    (hadmits : s.admits (s.admQ - bufCost s.twt.window.toNat s.twt.base s.twt.buf)
      (bufCost s.twt.window.toNat s.twt.base (s.twt.buf.filter (fun e => e.1 != s.twt.next) ++ [(s.twt.next, b)])) = true)
    (hlegal : s.bufRefused s.twt.window.toNat s.twt.base
      (s.twt.buf.filter (fun e => e.1 != s.twt.next) ++ [(s.twt.next, b)]) = false) :
    (s.twtData b).twt.buf = s.twt.buf.filter (fun e => e.1 != s.twt.next) ++ [(s.twt.next, b)] := by
  simp only [State.twtData, hwrite, hseen, if_true]
  rw [if_neg (by simp), if_pos (by simp [hadmits, hlegal])]
  rfl

/-- Registers that join the access queue leave the target as it is. -/
theorem State.joined_twt {α : Type} (f : α → Access) (ws : List α) (s : State) :
    (ws.foldl (fun s w => { s with access := s.access ++ [f w] }) s).twt = s.twt := by
  induction ws generalizing s with
  | nil => rfl
  | cons w ws ih => exact ih _

theorem State.twtApply_closes (hwrite : s.twt.xfer = .write) (hbuf : s.twt.buf ≠ []) : s.twtApply.twt.xfer = .none := by
  rw [State.twtApply, if_neg (by simp [hwrite]), if_neg (by simp [hbuf])]
  simp [State.inc, State.add, State.joined_twt, State.twtStop, State.twtClose, State.modTwt]

theorem State.twtFault_closes (hhears : s.twtHears = true) (hdeaf : s.twt.deaf = false) (hread : s.twt.xfer ≠ .read) :
    s.twtFault.twt.xfer = .none := by
  rw [State.twtFault, if_neg (by simp [hhears, hdeaf, hread])]
  rfl

theorem State.twtTimeout_closes (k : TwtTmo) (hhears : s.twtHears = true) (hopen : s.twt.xfer ≠ .none) :
    (s.twtTimeout k).twt.xfer = .none := by
  have hon : (s.twt.xfer != .none) = true := by simpa using hopen
  rw [State.twtTimeout, if_neg (by simp [hhears])]
  cases k <;> simp only [hon, if_true, State.raise_twt] <;> rfl

theorem State.twtReadEnd_closes (hread : s.twt.xfer = .read) (whole : Bool) : (s.twtReadEnd whole).twt.xfer = .none := by
  rw [State.twtReadEnd, if_neg (by simp [hread])]
  extract_lets last n moved ended
  have hended : ended.twt.xfer = .none := rfl
  split
  · exact hended
  · exact hended

/-- A prompt that is due is given, and the request for it is gone. -/
theorem State.prompt_answers (h : s.promptDue = true) : s.prompt.on .house HouseR.ATTN_STAT_PROMPT_REQ = false := by
  rw [State.prompt, if_pos h, State.on, State.inc, State.add, State.f_setF_ne _ _ _ _ _ _ (by decide),
    State.f_setF_self _ _ _ _ (by decide) (by decide)]
  rfl

/-- A prompt cut short is forgotten where the transfer that cuts it is the module's own. -/
theorem State.promptAbandon_answers (h : s.promptDue = true) (mine : Bool) :
    (s.promptAbandon mine).on .house HouseR.ATTN_STAT_PROMPT_REQ = !mine := by
  have hreq : s.on .house HouseR.ATTN_STAT_PROMPT_REQ = true := by
    simp only [State.promptDue, Bool.and_eq_true] at h
    exact h.1.2
  rw [State.promptAbandon, if_pos h]
  cases mine with
  | true =>
    rw [if_pos rfl, State.on, State.f_setF_self _ _ _ _ (by decide) (by decide)]
    rfl
  | false =>
    rw [if_neg Bool.false_ne_true, State.on, State.inc, State.add, State.f_setF_ne _ _ _ _ _ _ (by decide)]
    exact hreq

end Sys2Proof.Machine
end

section
/-!
SUPPORT. A write of a register by its fields that is taken (R2, R5, R14): it is stored, with the violations it counts, and then has its
effect. What the stored register holds, field by field, is said for RW fields and for action bits.
-/
namespace Sys2Proof.Machine

variable {p : Page} {s t : State}

/-! ### The peak of the fabric's load bears on no write (R53) -/

theorem State.f_peak (s : State) (v : Nat) (q : Page) (x : Fld) (hx : x.off < 4096) (hne : x.off ≠ 0x06C) : (s.peak v).f q x = s.f q x :=
  s.f_setF_ne _ _ _ _ _ fun h => hne ((pageAddr_inj hx (by decide)).1 h).2

theorem State.on_peak (s : State) (v : Nat) (q : Page) (x : Fld) (hx : x.off < 4096) (hne : x.off ≠ 0x06C) : (s.peak v).on q x = s.on q x := by
  rw [State.on, s.f_peak v q x hx hne, State.on]

/-- Whether an engine may write a page follows from the owners, the engines' states and the holds. -/
theorem State.engineWrites_congr (howner : ∀ g, t.owner g = s.owner g) (heng : ∀ e, t.eng e = s.eng e)
    (hhold : ∀ q, t.on q Hdr.PAGE_CTL_HOLD = s.on q Hdr.PAGE_CTL_HOLD) (e : Eng) (q : Page) : t.engineWrites e q = s.engineWrites e q := by
  simp only [State.engineWrites, State.inHold, State.ownerLost, howner, heng, hhold]

theorem State.engineWrites_peak (s : State) (v : Nat) (e : Eng) (q : Page) : (s.peak v).engineWrites e q = s.engineWrites e q :=
  State.engineWrites_congr (fun _ => s.f_peak v _ _ (by decide) (by decide)) (fun _ => s.f_peak v _ _ (by decide) (by decide))
    (fun _ => s.on_peak v _ _ (by decide) (by decide)) e q

theorem State.noWrite_peak (s : State) (v : Nat) (c : Src) (q : Page) (off : Nat) (d : Word) :
    (s.peak v).noWrite c q off d = s.noWrite c q off d := by
  have hlock : (s.peak v).on q Hdr.LOCK_WLOCK = s.on q Hdr.LOCK_WLOCK := s.on_peak v _ _ (by decide) (by decide)
  have hsrc : (s.peak v).f .time TimeR.TIME_CTL_SRC = s.f .time TimeR.TIME_CTL_SRC := s.f_peak v _ _ (by decide) (by decide)
  simp only [State.noWrite, State.engineWrites_peak, hlock, hsrc]

/-! ### What is stored -/

theorem State.Frame.pageStored {l : List Nat} (h : s.Frame l t) (a : Nat) : s.Frame l (t.pageStored a) := by
  unfold State.pageStored
  split
  · exact h
  · obtain ⟨hrd, hmem, -⟩ := t.sramWrite_spec (pageRow a)
    exact h.trans ⟨fun b _ hb => hrd b (by rintro rfl; exact hb (by decide)), fun b _ => by rw [State.mget, hmem, State.mget]⟩

theorem State.SameRest.pageStored (h : s.SameRest t) (a : Nat) : s.SameRest (t.pageStored a) := by
  unfold State.pageStored
  split
  · exact h
  · exact h.trans (t.sramWrite_spec _).2.2

theorem State.Frame.violIf {l : List Nat} (h : s.Frame l t) (b : Bool) (q : Page) (k : Viol) (hq : pageAddr q (violFld k).off ∈ l) :
    s.Frame l (t.violIf b q k) := by
  unfold State.violIf
  split
  · exact h.viol q k (.inl hq)
  · exact h

theorem State.SameRest.violIf (h : s.SameRest t) (b : Bool) (q : Page) (k : Viol) : s.SameRest (t.violIf b q k) := by
  unfold State.violIf
  split
  · exact h.viol q k
  · exact h

theorem State.rd_violIf (s : State) (b : Bool) (q : Page) (k : Viol) {a : Nat} (ha : a ∉ sideRegs) (hq : a ≠ pageAddr q (violFld k).off) :
    (s.violIf b q k).rd a = s.rd a := by
  unfold State.violIf
  split
  · exact s.rd_violI q k false a ha hq
  · rfl

/-- The registers that a write of the register at `off` of page `p` may store: its own, the page's violation counters, and ADM_PEAK. -/
def storeRegs (p : Page) (off : Nat) : List Nat := [pageAddr p off, pageAddr p 0x020, pageAddr p 0x024, pageAddr .house 0x06C]

/-- The register at `off` of page `p` is one of its own, apart from those that a violation, an event or an admission counts in. -/
def ownReg (p : Page) (off : Nat) : Bool :=
  !feedsSum p off && decide (pageAddr p off ∉ sideRegs) && decide (0x040 ≤ off) && off != 0x06C && decide (off < 4096)

/-- A stored write: its word, and nothing else but the violations it counts. -/
theorem State.regStore_spec (hown : ownReg p off = true) (s : State) (o : WrOut) :
    (s.regStore p off o).rd (pageAddr p off) = o.word ∧ s.Frame (storeRegs p off) (s.regStore p off o) ∧
      s.SameRest (s.regStore p off o) := by
  simp only [ownReg, Bool.and_eq_true, Bool.not_eq_true', decide_eq_true_eq] at hown
  obtain ⟨⟨⟨⟨hsum, hside⟩, hblock⟩, -⟩, hlt⟩ := hown
  have hne : ∀ k : Viol, pageAddr p off ≠ pageAddr p (violFld k).off := fun k h => by
    have := ((pageAddr_inj hlt (by cases k <;> decide)).1 h).2
    cases k <;> simp [violFld, Hdr.VIOL_0_ACCESS, Hdr.VIOL_0_TIMING, Hdr.VIOL_1_PROTOCOL, Hdr.VIOL_1_CONSISTENCY] at this <;> omega
  simp only [State.regStore, hsum, Bool.false_eq_true, if_false]
  refine ⟨?_, ?_, (((State.SameRest.refl s).wr _ _).violIf _ _ _).violIf _ _ _⟩
  · rw [State.rd_violIf _ _ _ _ hside (hne _), State.rd_violIf _ _ _ _ hside (hne _), State.rd_wr_self]
  · exact (((State.Frame.refl s _).wr _ _ (.inl (by simp [storeRegs]))).violIf _ _ _ (by simp [storeRegs, violFld, Hdr.VIOL_0_ACCESS])).violIf
      _ _ _ (by simp [storeRegs, violFld, Hdr.VIOL_1_CONSISTENCY])

/-- A write of a register by its fields that is taken: it is stored, and has its effect in the state `u` that this leaves. -/
theorem State.offerReg_leads {c : Src} {off : Nat} {data mask : Word} (h : s.takes c p off data mask = true)
    (hkind : wrKind p off = .fields) (hlast : ∀ t : State, t.cmdLast c p off = t) (hown : ownReg p off = true) :
    ∃ (v : Nat → Word) (u : State), v (pageAddr p off) = s.rd (pageAddr p off) ∧
      s.offerReg c p off data mask = u.directEffect p off (s.rd (pageAddr p off)) (writeOut v false p off data mask).act
        (mask &&& ~~~(writeOut v false p off data mask).bad) ∧
      u.rd (pageAddr p off) = (writeOut v false p off data mask).word ∧ s.Frame (storeRegs p off) u ∧ s.SameRest u := by
  have hpeak : ∀ v, s.Frame (storeRegs p off) (s.peak v) := fun v => (State.Frame.refl s _).setF _ _ _ (.inl (by simp [storeRegs,
    HouseR.ADM_PEAK_PEAK]))
  have hrest : ∀ v, s.SameRest (s.peak v) := fun v => (State.SameRest.refl s).setF _ _ _
  have hnow : ∀ v, (s.peak v).noWrite c p off (data &&& mask) = none := fun v => by
    rw [State.noWrite_peak, State.noWrite_of_takes h]
  have hold : ∀ v, (s.peak v).rd (pageAddr p off) = s.rd (pageAddr p off) := fun v => by
    simp only [ownReg, Bool.and_eq_true, bne_iff_ne, decide_eq_true_eq] at hown
    obtain ⟨⟨-, hpeakReg⟩, hlt⟩ := hown
    have hne : pageAddr p off ≠ pageAddr .house HouseR.ADM_PEAK_PEAK.off := fun e => hpeakReg ((pageAddr_inj hlt (by decide)).1 e).2
    rw [State.peak, State.rd_setF, if_neg hne]
  rw [State.offerReg_of_takes h]
  generalize s.admQ + writeCost c p off data mask = q
  obtain ⟨hword, hframe, hsame⟩ := State.regStore_spec hown ((s.peak q).pageStored (pageAddr p off))
    (writeOut (s.peak q).rd false p off data mask)
  refine ⟨_, _, hold q, ?_, hword, (((hpeak q).pageStored _).trans hframe), (((hrest q).pageStored _).trans hsame)⟩
  simp [State.regWrite, State.regAct, State.regPut, hnow, hkind, hlast, hold]

/-! ### What the fields of a write come to (R5) -/

/-- A field that is written whole takes the code written. -/
theorem fget_merge {old data mask : Word} {hi lo : Nat} (h : ∀ i, lo ≤ i → i ≤ hi → mask.getLsbD i = true) :
    fget (merge old data mask) hi lo = fget data hi lo :=
  fget_ext _ _ _ _ fun i hlo hhi => by
    have hi32 : i < 32 := by
      by_contra hi32
      simpa [BitVec.getLsbD_of_ge mask i (by omega)] using h i hlo hhi
    simp [merge, -BitVec.getLsbD_eq_getElem, h i hlo hhi, hi32]

/-- A legal code written to an RW field other than TIME_CTL.SRC is stored. -/
theorem writeRow_rw_legal {v : Nat → Word} {scene : Bool} {old data mask : Word} {o : WrOut} {r : Row} (hr : r.acc = .rw)
    (hmask : mask &&& fldMask r.fld.hi r.fld.lo ≠ 0) (hsrc : r.fld ≠ TimeR.TIME_CTL_SRC)
    (hlegal : fieldLegal v p r (fget (merge old data mask) r.fld.hi r.fld.lo) = true) :
    writeRow v scene p old data mask o r =
      { o with word := fset o.word r.fld.hi r.fld.lo (fget (merge old data mask) r.fld.hi r.fld.lo) } := by
  have hfld : (r.fld == TimeR.TIME_CTL_SRC) = false := by simpa using hsrc
  rw [writeRow, if_neg (by simpa using hmask)]
  simp [hr, hlegal, hfld]

/-- A code in a row's legal ranges is legal, but for ERR_INJ.MODE, which also depends on the path's profile (R196). -/
theorem fieldLegal_of_legalCode {v : Nat → Word} {r : Row} {code : Nat} (hl : legalCode r.legal code = true) (hf : r.fld ≠ PathR.ERR_INJ_MODE) :
    fieldLegal v p r code = true := by
  have hfld : (r.fld == PathR.ERR_INJ_MODE) = false := by simpa using hf
  simp [fieldLegal, hl, hfld]

end Sys2Proof.Machine
end

section
/-!
SUPPORT. Writes of SPI_CFG and TWC_CMD that are taken (R425, R438), and the transactions of the two-wire controller (R440 to R443).
-/
namespace Sys2Proof.Machine

variable {s : State}

/-! ### SPI_CFG.FLUSH (R425) -/

/-- The fields of SPI_CFG. -/
def spiTmoRow : Row := { fld := SpiR.SPI_CFG_TMO, acc := .rw, rst := 0x19, legal := [(1, 100)] }
def spiFlushRow : Row := { fld := SpiR.SPI_CFG_FLUSH, acc := .w1s, rst := 0x0 }

theorem rowsAt_spiCfg : rowsAt .spi 0x040 = [spiTmoRow, spiFlushRow] := by decide +kernel

/-- A 1 written to FLUSH alone is an action. -/
theorem writeOut_flush (v : Nat → Word) : (writeOut v false .spi 0x040 (fset 0 0 0 1) (fldMask 0 0)).act = 1#32 := by
  have hmask : fldMask 0 0 &&& ~~~ctlUnsupported .spi 0x040 = fldMask 0 0 := by decide
  simp only [writeOut, rowsAt_spiCfg, List.foldl_cons, List.foldl_nil, hmask]
  rw [writeRow_of_not_written (r := spiTmoRow) (by decide), writeRow, if_neg (by decide)]
  show (0#32 ||| (fset 0 0 0 1 &&& fldMask 0 0 &&& fldMask 0 0)) = 1#32
  decide

/-- A write of 1 to FLUSH that is taken empties the return queue. -/
theorem State.spiFlush_empties {c : Src} (h : s.takesF c .spi SpiR.SPI_CFG_FLUSH 1 = true) :
    (s.offerAct c .spi SpiR.SPI_CFG_FLUSH).spi.ret = [] := by
  obtain ⟨v, u, -, hlead, -⟩ := State.offerReg_leads h (by decide) (fun _ => rfl) (by decide)
  have hact := writeOut_flush v
  rw [State.offerAct, State.offerSet, hlead]
  show (u.directEffect .spi 0x040 _ (writeOut v false .spi 0x040 (fset 0 0 0 1) (fldMask 0 0)).act _).spi.ret = []
  rw [hact]
  rfl

/-! ### TWC_CMD (R438) -/

/-- The fields of TWC_CMD. -/
def twcOpRow : Row := { fld := TwcR.TWC_CMD_OP, acc := .rw, rst := 0x0, legal := [(0, 2)] }
def twcAddrRow : Row := { fld := TwcR.TWC_CMD_ADDR, acc := .rw, rst := 0x0 }
def twcRlenRow : Row := { fld := TwcR.TWC_CMD_RLEN, acc := .rw, rst := 0x0 }
def twcWlenRow : Row := { fld := TwcR.TWC_CMD_WLEN, acc := .rw, rst := 0x0 }

theorem rowsAt_twcCmd : rowsAt .twc 0x044 = [twcOpRow, twcAddrRow, twcRlenRow, twcWlenRow] := by decide +kernel

/-- A write of TWC_CMD with a legal OP stores all four fields. -/
theorem writeOut_twcCmd (v : Nat → Word) {data : Word} (hop : fget data 31 28 ≤ 2) :
    writeOut v false .twc 0x044 data allOnes =
      { word := fset (fset (fset (fset (v (pageAddr .twc 0x044)) 31 28 (fget data 31 28)) 22 16 (fget data 22 16)) 13 8 (fget data 13 8))
          5 0 (fget data 5 0), access := data &&& allOnes &&& roMask .twc 0x044 != 0 } := by
  have hmask : allOnes &&& ~~~ctlUnsupported .twc 0x044 = allOnes := by decide
  have hcode : ∀ hi lo, fget (merge (v (pageAddr .twc 0x044)) data allOnes) hi lo = fget data hi lo := fun hi lo => by
    rw [merge, show allOnes = BitVec.allOnes 32 by decide, BitVec.not_allOnes, BitVec.and_zero, BitVec.zero_or, BitVec.and_allOnes]
  have hlegal : legalCode [(0, 2)] (fget data 31 28) = true := by simp [legalCode, hop]
  simp only [writeOut, rowsAt_twcCmd, List.foldl_cons, List.foldl_nil, hmask]
  rw [writeRow_rw_legal (r := twcOpRow) rfl (by decide) (by decide) (fieldLegal_of_legalCode (by rw [hcode]; exact hlegal) (by decide)),
    writeRow_rw_legal (r := twcAddrRow) rfl (by decide) (by decide) (fieldLegal_of_legalCode rfl (by decide)),
    writeRow_rw_legal (r := twcRlenRow) rfl (by decide) (by decide) (fieldLegal_of_legalCode rfl (by decide)),
    writeRow_rw_legal (r := twcWlenRow) rfl (by decide) (by decide) (fieldLegal_of_legalCode rfl (by decide))]
  simp only [hcode]
  rfl

/-- A write of OP alone stores OP. -/
theorem writeOut_twcOp (v : Nat → Word) {op : Nat} (hop : op ≤ 2) :
    writeOut v false .twc 0x044 (fset 0 31 28 op) (fldMask 31 28) =
      { word := fset (v (pageAddr .twc 0x044)) 31 28 op, access := fset 0 31 28 op &&& fldMask 31 28 &&& roMask .twc 0x044 != 0 } := by
  have hmask : fldMask 31 28 &&& ~~~ctlUnsupported .twc 0x044 = fldMask 31 28 := by decide
  have hcode : fget (merge (v (pageAddr .twc 0x044)) (fset 0 31 28 op) (fldMask 31 28)) 31 28 = op := by
    rw [fget_merge (by decide), fget_fset _ _ _ _ (by decide) (by decide)]
    omega
  have hlegal : legalCode [(0, 2)] op = true := by simp [legalCode, hop]
  simp only [writeOut, rowsAt_twcCmd, List.foldl_cons, List.foldl_nil, hmask]
  rw [writeRow_rw_legal (r := twcOpRow) rfl (by decide) (by decide) (fieldLegal_of_legalCode (hcode.symm ▸ hlegal) (by decide)),
    writeRow_of_not_written (r := twcAddrRow) (by decide), writeRow_of_not_written (r := twcRlenRow) (by decide),
    writeRow_of_not_written (r := twcWlenRow) (by decide)]
  simp only [twcOpRow, TwcR.TWC_CMD_OP, hcode]

/-- A register that a command's store leaves alone keeps its fields. -/
theorem State.Frame.f {l : List Nat} {t : State} (h : s.Frame l t) {p : Page} {x : Fld} (hl : pageAddr p x.off ∉ l)
    (hs : pageAddr p x.off ∉ sideRegs) : t.f p x = s.f p x := by
  rw [State.f, h.1 _ hl hs, State.f]

theorem State.SameRest.twc {t : State} (h : s.SameRest t) : t.twc = s.twc := by
  simp only [State.SameRest] at h
  simp only [h]

/-! ### The transactions of the controller (R438 to R443) -/

/-- GO starts a transaction where the controller is enabled, runs none and may use its bus. -/
theorem State.twcGo_starts (hen : s.on .twc TwcR.TWC_CFG_EN = true) (hidle : s.twcOn = false) (hfree : s.twc.stuck = false)
    (hw : s.f .twc TwcR.TWC_CMD_WLEN ≤ 32) (hr : s.f .twc TwcR.TWC_CMD_RLEN ≤ 32) : s.twcGo.twcOn = true := by
  rw [State.twcGo]
  dsimp only
  rw [if_neg (by simp [hen, hidle, hw, hr])]
  simp only [hfree, Bool.false_eq_true, if_false]
  rw [if_neg (by simp [wbit]), State.twcOn, State.f_setF_self _ _ _ _ (by decide) (by decide)]
  rfl

/-- A result leaves the controller's state and record as they are. -/
theorem State.twcResult_keeps (s : State) (res : Nat) :
    (s.twcResult res).f .twc TwcR.TWC_STAT_STATE = s.f .twc TwcR.TWC_STAT_STATE ∧ (s.twcResult res).twc = s.twc := by
  have hraise : ∀ (u : State) (bit : Nat), u.f .twc TwcR.TWC_STAT_STATE = s.f .twc TwcR.TWC_STAT_STATE ∧ u.twc = s.twc →
      (u.raise .twc bit).f .twc TwcR.TWC_STAT_STATE = s.f .twc TwcR.TWC_STAT_STATE ∧ (u.raise .twc bit).twc = s.twc :=
    fun u bit ⟨hf, hc⟩ => ⟨by rw [State.f, State.rd_raise _ _ _ _ (by decide) (by decide), ← State.f, hf],
      by rw [(u.raise_spec .twc bit).2.twc, hc]⟩
  unfold State.twcResult
  extract_lets recorded counted
  have hrecorded : recorded.f .twc TwcR.TWC_STAT_STATE = s.f .twc TwcR.TWC_STAT_STATE ∧ recorded.twc = s.twc :=
    ⟨s.f_setF_disj _ _ _ _ (by decide) (by decide) (by decide), by simp [recorded]⟩
  have hinc : ∀ x : Fld, pageAddr .twc TwcR.TWC_STAT_STATE.off ≠ pageAddr .twc x.off →
      (recorded.inc .twc x).f .twc TwcR.TWC_STAT_STATE = s.f .twc TwcR.TWC_STAT_STATE ∧ (recorded.inc .twc x).twc = s.twc :=
    fun x hx => ⟨(recorded.f_setF_ne _ _ _ _ _ hx).trans hrecorded.1, by simp [State.inc, State.add, hrecorded.2]⟩
  have hcounted : counted.f .twc TwcR.TWC_STAT_STATE = s.f .twc TwcR.TWC_STAT_STATE ∧ counted.twc = s.twc := by
    simp only [counted]
    split
    · exact hinc _ (by decide)
    · split
      · exact hinc _ (by decide)
      · exact hrecorded
  clear_value counted
  split
  case h_7 => exact hcounted
  all_goals exact hraise _ _ hcounted

theorem State.f_modTwc (s : State) (f : TwcSt → TwcSt) (p : Page) (x : Fld) : (s.modTwc f).f p x = s.f p x := rfl

/-- The end of a transaction leaves the controller idle, or checking its bus. -/
theorem State.twcEnd_off (s : State) (res starts : Nat) : (s.twcEnd res starts).twcOn = false := by
  rw [State.twcOn, State.twcEnd, (State.twcResult_keeps _ _).1, State.f_modTwc, State.f_setF_disj _ _ _ _ _ (by decide) (by decide) (by decide),
    State.f_setF_self _ _ _ _ (by decide) (by decide)]
  cases s.twc.check <;> rfl

/-- A transaction that ends leaves the controller idle, or checking its bus, whatever its result. -/
theorem State.twcFinish_off (hon : s.twcOn = true) (res index : Nat) (read : List Byte) : (s.twcFinish res index read).twcOn = false := by
  rw [State.twcFinish, if_neg (by simp [hon])]
  extract_lets filled starts
  clear_value filled
  split
  · exact State.twcEnd_off _ _ _
  · split
    · exact State.twcEnd_off _ _ _
    · exact State.twcEnd_off _ _ _

theorem State.twcTimeout_off (hon : s.twcOn = true) (sda started : Bool) : (s.twcTimeout sda started).twcOn = false := by
  rw [State.twcTimeout, if_pos hon]
  exact State.twcEnd_off _ _ _

/-- A lost arbitration with retries left is tried again. -/
theorem State.twcArb_retries (hon : s.twcOn = true) (habort : s.twc.abort = false)
    (hleft : s.twc.retries < s.f .twc TwcR.TWC_CFG_RETRIES) : s.twcArb.twc.retries = s.twc.retries + 1 := by
  have hcfg : (s.inc .twc TwcR.TWC_CNT_ARB).f .twc TwcR.TWC_CFG_RETRIES = s.f .twc TwcR.TWC_CFG_RETRIES :=
    s.f_setF_ne _ _ _ _ _ (by decide)
  have hrec : (s.inc .twc TwcR.TWC_CNT_ARB).twc = s.twc := by simp [State.inc, State.add]
  rw [State.twcArb, if_neg (by simp [hon])]
  dsimp only
  generalize s.inc .twc TwcR.TWC_CNT_ARB = u at hcfg hrec
  rw [if_neg (by simp [hrec, habort]), if_pos (by rw [hrec, hcfg]; exact hleft), ← hrec]
  rfl

/-- Outside a transaction, the check of the bus ends with its recovery. -/
theorem State.twcRecovery_ends (hcheck : s.twc.check = true) (hidle : s.twcOn = false) (freed : Bool) :
    (s.twcRecovery freed).twc.check = false := by
  rw [State.twcRecovery, if_neg (by simp [hcheck])]
  extract_lets checked rested stuck
  have hchecked : checked.twcOn = false := by rw [State.twcOn, State.f_modTwc, ← State.twcOn, hidle]
  have hrested : rested.twc.check = false ∧ rested.twcOn = false := by
    have hidled : rested = checked.setF .twc TwcR.TWC_STAT_STATE 0 := if_neg (by simp [hchecked])
    rw [hidled, State.twcOn, State.f_setF_self _ _ _ _ (by decide) (by decide)]
    exact ⟨by simp [checked, State.modTwc], rfl⟩
  have hstuck : stuck.twc.check = false ∧ stuck.twcOn = false := ⟨hrested.1, hrested.2⟩
  clear_value stuck rested
  split
  · exact hrested.1
  · rw [if_neg (by simp [hstuck.2]), State.twcStuck, (State.twcResult_keeps _ _).2]
    exact hstuck.1

/-! ### GO and ABORT that are taken (R438) -/

/-- The word that GO writes. -/
def goWord (addr : BitVec 7) (rlen wlen : BitVec 6) : Word :=
  BitVec.ofNat 32 (2 ^ 28 + addr.toNat * 2 ^ 16 + rlen.toNat * 256 + wlen.toNat)

theorem fget_goWord (addr : BitVec 7) (rlen wlen : BitVec 6) :
    fget (goWord addr rlen wlen) 31 28 = 1 ∧ fget (goWord addr rlen wlen) 13 8 = rlen.toNat ∧
      fget (goWord addr rlen wlen) 5 0 = wlen.toNat := by
  have ha := addr.isLt
  have hr := rlen.isLt
  have hw := wlen.isLt
  simp only [fget, goWord, BitVec.toNat_ofNat]
  omega

/-- The fields of TWC_CMD once a GO is stored. -/
theorem fget_goStored (old : Word) (addr : BitVec 7) (rlen wlen : BitVec 6) {word : Word}
    (h : word = fset (fset (fset (fset old 31 28 (fget (goWord addr rlen wlen) 31 28)) 22 16 (fget (goWord addr rlen wlen) 22 16)) 13 8
      (fget (goWord addr rlen wlen) 13 8)) 5 0 (fget (goWord addr rlen wlen) 5 0)) :
    fget word 31 28 = 1 ∧ fget word 13 8 = rlen.toNat ∧ fget word 5 0 = wlen.toNat := by
  obtain ⟨hop, hrlen, hwlen⟩ := fget_goWord addr rlen wlen
  have hr := rlen.isLt
  have hw := wlen.isLt
  subst h
  rw [hop, hrlen, hwlen]
  refine ⟨?_, ?_, ?_⟩
  · rw [fget_fset_disj _ _ _ _ _ _ (by decide) (by decide) (by decide), fget_fset_disj _ _ _ _ _ _ (by decide) (by decide) (by decide),
      fget_fset_disj _ _ _ _ _ _ (by decide) (by decide) (by decide), fget_fset _ _ _ _ (by decide) (by decide)]
    rfl
  · rw [fget_fset_disj _ _ _ _ _ _ (by decide) (by decide) (by decide), fget_fset _ _ _ _ (by decide) (by decide)]
    omega
  · rw [fget_fset _ _ _ _ (by decide) (by decide)]
    omega

/-- A write of TWC_CMD that is taken leaves the controller's registers beside it as they are. -/
theorem State.Frame.twcCmd {u : State} (h : s.Frame (storeRegs .twc 0x044) u) :
    u.on .twc TwcR.TWC_CFG_EN = s.on .twc TwcR.TWC_CFG_EN ∧ u.twcOn = s.twcOn := by
  have hen : u.f .twc TwcR.TWC_CFG_EN = s.f .twc TwcR.TWC_CFG_EN := h.f (by decide) (by decide)
  have hstate : u.f .twc TwcR.TWC_STAT_STATE = s.f .twc TwcR.TWC_STAT_STATE := h.f (by decide) (by decide)
  exact ⟨by rw [State.on, hen, State.on], by rw [State.twcOn, hstate, State.twcOn]⟩

/-- A written OP of 1 is GO. -/
theorem State.directEffect_go {u : State} {wrote : Word} (hop : u.f .twc TwcR.TWC_CMD_OP = 1) (hc : covers wrote TwcR.TWC_CMD_OP = true)
    (old act : Word) : u.directEffect .twc 0x044 old act wrote = u.twcGo := by
  simp [State.directEffect, State.effect, State.effTwc, hop, hc]

/-- A written OP of 2 is ABORT. -/
theorem State.directEffect_abort {u : State} {wrote : Word} (hop : u.f .twc TwcR.TWC_CMD_OP = 2)
    (hc : covers wrote TwcR.TWC_CMD_OP = true) (old act : Word) : u.directEffect .twc 0x044 old act wrote = u.twcAbort := by
  simp [State.directEffect, State.effect, State.effTwc, hop, hc]

/-- A GO that is taken starts a transaction. -/
theorem State.offerGo_starts {c : Src} {addr : BitVec 7} {rlen wlen : BitVec 6} (h : s.takes c .twc 0x044 (goWord addr rlen wlen) allOnes = true)
    (hen : s.on .twc TwcR.TWC_CFG_EN = true) (hidle : s.twcOn = false) (hfree : s.twc.stuck = false) (hr : rlen.toNat ≤ 32)
    (hw : wlen.toNat ≤ 32) : (s.offerReg c .twc 0x044 (goWord addr rlen wlen) allOnes).twcOn = true := by
  obtain ⟨v, u, -, hlead, hword, hframe, hsame⟩ := State.offerReg_leads h (by decide) (fun _ => rfl) (by decide)
  have hout := writeOut_twcCmd v (data := goWord addr rlen wlen) (by rw [(fget_goWord addr rlen wlen).1]; decide)
  obtain ⟨hcfg, hon⟩ := hframe.twcCmd
  obtain ⟨hop, hrlen, hwlen⟩ := fget_goStored _ addr rlen wlen (hword.trans (congrArg WrOut.word hout))
  rw [hlead, hout, State.directEffect_go hop (show covers (allOnes &&& ~~~0) TwcR.TWC_CMD_OP = true by decide)]
  exact State.twcGo_starts (hcfg.trans hen) (hon.trans hidle) (by rw [hsame.twc, hfree]) (hwlen.le.trans hw) (hrlen.le.trans hr)

/-- An ABORT that is taken is noted in a running transaction. -/
theorem State.offerAbort_noted {c : Src} (h : s.takesF c .twc TwcR.TWC_CMD_OP 2 = true) (hon : s.twcOn = true) :
    (s.offerSet c .twc TwcR.TWC_CMD_OP 2).twc.abort = true := by
  obtain ⟨v, u, -, hlead, hword, hframe, -⟩ := State.offerReg_leads h (by decide) (fun _ => rfl) (by decide)
  have hout := writeOut_twcOp v (op := 2) (by decide)
  have hop : fget (u.rd (pageAddr .twc 0x044)) 31 28 = 2 := by
    rw [show u.rd (pageAddr .twc 0x044) = _ from hword.trans (congrArg WrOut.word hout), fget_fset _ _ _ _ (by decide) (by decide)]
    rfl
  have hled : s.offerSet c .twc TwcR.TWC_CMD_OP 2 = u.twcAbort := by
    rw [State.offerSet, hlead]
    show u.directEffect .twc 0x044 _ (writeOut v false .twc 0x044 (fset 0 31 28 2) (fldMask 31 28)).act
      (fldMask 31 28 &&& ~~~(writeOut v false .twc 0x044 (fset 0 31 28 2) (fldMask 31 28)).bad) = _
    rw [hout]
    exact State.directEffect_abort hop (show covers (fldMask 31 28 &&& ~~~0) TwcR.TWC_CMD_OP = true by decide) _ _
  rw [hled, State.twcAbort, if_pos (hframe.twcCmd.2.trans hon)]
  rfl

end Sys2Proof.Machine

open Sys2Proof Sys2Proof.Machine

/-- Settles O26: what each command leads to, under the hypotheses of its clause. -/
theorem spiAndTwoWireCommandsComplete : Obligations.SpiAndTwoWireCommandsComplete := by
  refine ⟨fun mode3 addr s h => ⟨_, rfl, State.spiFrame_opens h rfl mode3⟩, fun mode3 addr s h => ⟨_, rfl, State.spiFrame_opens h rfl mode3⟩,
    fun mode3 addr full s h hret => ⟨_, rfl, State.spiFrame_enqueues h rfl hret mode3 full⟩,
    fun mode3 addr full s h hret => ⟨_, rfl, State.spiFrame_enqueues h rfl hret mode3 full⟩,
    fun mode3 full r l s hhears hret hhead => ⟨_, rfl, State.spiStatus_out hhears hret hhead mode3 full⟩,
    fun data x s h => ⟨_, rfl, State.spiComplete_closes h data⟩,
    fun mode3 s hhears hopen => ⟨_, rfl, State.spiFault_opcode_counts hhears hopen mode3⟩,
    fun s hopen => ⟨_, rfl, State.spiStall_counts hopen⟩,
    fun c s h => ⟨_, rfl, State.spiFlush_empties h⟩,
    fun p s hhears hdeaf _ _ => ⟨_, rfl, State.twtPointer_opens p (State.twtStart_heard hhears hdeaf)⟩,
    fun tScl tLow s h hoffer => ⟨_, rfl, State.twtRead_opens h hoffer⟩,
    fun tScl tLow s hread hmute => ⟨_, rfl, State.twtContinue_counts hread hmute tScl tLow⟩,
    fun b s hwrite hseen hadmits hlegal => ⟨_, rfl, State.twtData_places hwrite hseen hadmits hlegal⟩,
    fun s hwrite hbuf => ⟨_, rfl, State.twtApply_closes hwrite hbuf⟩,
    fun s hhears hdeaf hread => ⟨_, rfl, State.twtFault_closes hhears hdeaf hread⟩,
    fun k s hhears hopen => ⟨_, rfl, State.twtTimeout_closes k hhears hopen⟩,
    fun s hdue => ⟨_, rfl, State.prompt_answers hdue⟩,
    fun mine s hdue => ⟨_, rfl, State.promptAbandon_answers hdue mine⟩,
    fun c addr rlen wlen s h hen hidle hfree hr hw => ⟨_, rfl, State.offerGo_starts h hen hidle hfree hr hw⟩,
    fun c s h hon => ⟨_, rfl, State.offerAbort_noted h hon⟩, ?_, ?_, ?_, ?_, ?_, ?_, ?_⟩
  · intro s hvio hon habort hleft
    exact ⟨_, congrArg Host.Outcome.next (if_pos hvio), State.twcArb_retries hon habort hleft⟩
  · intro sda started s hvio hon
    exact ⟨_, congrArg Host.Outcome.next (if_pos hvio), State.twcTimeout_off hon sda started⟩
  · intro read s hvio hon _
    exact ⟨_, congrArg Host.Outcome.next (if_pos hvio), State.twcFinish_off hon 1 0 read⟩
  · intro freed s hvio hcheck hidle
    exact ⟨_, congrArg Host.Outcome.next (if_pos hvio), State.twcRecovery_ends hcheck hidle freed⟩
  · exact fun s => ⟨_, rfl, by simp [State.vioLoss]⟩
  · exact fun s hvio => ⟨_, rfl, by simp [State.vioReturn, hvio]⟩
  · exact fun whole s hread => ⟨_, rfl, State.twtReadEnd_closes hread whole⟩

end

section
/-!
SUPPORT. The power states of the groups and the state of the device. What settling a lane pair, abandoning a rotation and a transmit frame
leave of both is said once (`State.KeepsPw`), with a rule for each operation that they are made of (R356, R362, R370).
-/
namespace Sys2Proof.Machine

/-- `t` has PWR_STAT of every group, and the state of the device, as `s` has them. -/
def State.KeepsPw (s t : State) : Prop :=
  (∀ g : Grp, t.rd (pageAddr (gp g) 0x108) = s.rd (pageAddr (gp g) 0x108)) ∧ t.device = s.device

/-- The register at `off` of page `p` is no PWR_STAT. -/
def offPw (p : Page) (off : Nat) : Bool :=
  decide (off < 4096) && (match p with
    | .group _ => off != 0x108
    | _ => true)

theorem offPw_ne {p : Page} {off : Nat} (h : offPw p off = true) (g : Grp) : pageAddr (gp g) 0x108 ≠ pageAddr p off := by
  simp only [offPw, Bool.and_eq_true, decide_eq_true_eq] at h
  obtain ⟨hlt, hpage⟩ := h
  intro e
  obtain ⟨rfl, rfl⟩ := (pageAddr_inj (by decide) hlt).1 e
  exact absurd hpage (by simp)

variable {s t u : State}

/-! ### Rules -/

theorem State.KeepsPw.refl (s : State) : s.KeepsPw s := ⟨fun _ => rfl, rfl⟩

theorem State.KeepsPw.trans (h : s.KeepsPw t) (k : t.KeepsPw u) : s.KeepsPw u := ⟨fun g => (k.1 g).trans (h.1 g), k.2.trans h.2⟩

theorem State.KeepsPw.pw (h : s.KeepsPw t) (g : Grp) : t.pw g = s.pw g := by
  rw [State.pw, State.f, show t.rd (pageAddr (gp g) GroupR.PWR_STAT_STATE.off) = _ from h.1 g]
  rfl

theorem State.KeepsPw.wr (h : s.KeepsPw t) (p : Page) (off : Nat) (v : Word) (hx : offPw p off = true) :
    s.KeepsPw (t.wr (pageAddr p off) v) :=
  h.trans ⟨fun g => t.rd_wr_ne _ _ _ (offPw_ne hx g), rfl⟩

theorem State.KeepsPw.setF (h : s.KeepsPw t) (p : Page) {x : Fld} (v : Nat) (hx : offPw p x.off = true) : s.KeepsPw (t.setF p x v) :=
  h.wr p x.off _ hx

theorem State.KeepsPw.setB (h : s.KeepsPw t) (p : Page) {x : Fld} (b : Bool) (hx : offPw p x.off = true) : s.KeepsPw (t.setB p x b) :=
  h.setF p _ hx

theorem State.KeepsPw.setS (h : s.KeepsPw t) (p : Page) {x : Fld} (i : Int) (hx : offPw p x.off = true) : s.KeepsPw (t.setS p x i) :=
  h.setF p _ hx

theorem State.KeepsPw.inc (h : s.KeepsPw t) (p : Page) {x : Fld} (hx : offPw p x.off = true) : s.KeepsPw (t.inc p x) := h.setF p _ hx

theorem State.KeepsPw.incW (h : s.KeepsPw t) (p : Page) {x : Fld} (hx : offPw p x.off = true) : s.KeepsPw (t.incW p x) := h.setF p _ hx

/-- A table without some of its entries reads as before at the keys that are kept. -/
theorem tabGet_filter_kept {α : Type} (d : Nat → α) (l : List (Nat × α)) (f : Nat → Bool) {k : Nat} (hk : f k = true) :
    tabGet d (l.filter fun e => f e.1) k = tabGet d l k := by
  induction l with
  | nil => rfl
  | cons e l ih =>
    by_cases he : f e.1 = true
    · simp only [List.filter_cons, he, if_true, tabGet, ih]
    · have hne : e.1 ≠ k := fun h => he (h ▸ hk)
      simp only [List.filter_cons, he, Bool.false_eq_true, if_false, tabGet, hne, ih]

/-- Registers of a page other than a group's go back to their reset values. -/
theorem State.KeepsPw.rstRange (h : s.KeepsPw t) (p : Page) (lo hi : Nat) (hp : ∀ g, p ≠ gp g) (hhi : hi < 4096) :
    s.KeepsPw (t.rstRange p lo hi) := by
  refine h.trans ⟨fun g => tabGet_filter_kept _ _ (fun a => !(decide (pageAddr p lo ≤ a) && decide (a ≤ pageAddr p hi))) ?_, rfl⟩
  have hne : pageNum p ≠ pageNum (gp g) := fun e => hp g (pageNum_inj e)
  simp only [Bool.not_eq_true', Bool.and_eq_false_iff, decide_eq_false_iff_not]
  simp only [pageAddr]
  omega

/-- What changes no register and not the device. -/
theorem State.KeepsPw.of_regs (h : s.KeepsPw t) (hr : u.regs = t.regs) (hd : u.device = t.device) : s.KeepsPw u :=
  h.trans ⟨fun g => by rw [State.rd, State.rd, hr], hd⟩

theorem State.KeepsPw.setPath (h : s.KeepsPw t) (p : Path) (v : PathSt) : s.KeepsPw (t.setPath p v) := h.of_regs rfl rfl

theorem State.KeepsPw.modPath (h : s.KeepsPw t) (p : Path) (f : PathSt → PathSt) : s.KeepsPw (t.modPath p f) := h.setPath p _

theorem State.KeepsPw.modSeg (h : s.KeepsPw t) (p : Path) (f : SegSt → SegSt) : s.KeepsPw (t.modSeg p f) := h.setPath p _

theorem State.KeepsPw.setPort (h : s.KeepsPw t) (k : Port) (v : PortSt) : s.KeepsPw (t.setPort k v) := h.of_regs rfl rfl

theorem State.KeepsPw.addCtr (h : s.KeepsPw t) (p : Path) (i n : Nat) : s.KeepsPw (t.addCtr p i n) := h.of_regs rfl rfl

theorem State.KeepsPw.draw (h : s.KeepsPw t) : s.KeepsPw t.draw.2 := h.of_regs rfl rfl

theorem State.KeepsPw.ite {c : Prop} [Decidable c] (h : s.KeepsPw t) (k : s.KeepsPw u) : s.KeepsPw (if c then t else u) := by
  split <;> assumption

theorem State.KeepsPw.foldl {α : Type} {f : State → α → State} (h : s.KeepsPw t) (l : List α)
    (hf : ∀ a ∈ l, ∀ u : State, u.KeepsPw (f u a)) : s.KeepsPw (l.foldl f t) := by
  induction l generalizing t with
  | nil => exact h
  | cons a l ih => exact ih (h.trans (hf a List.mem_cons_self t)) fun b hb => hf b (List.mem_cons_of_mem _ hb)

theorem State.KeepsPw.forAll {α : Type} {f : α → State → State} (h : s.KeepsPw t) (l : List α) (hf : ∀ a (u : State), u.KeepsPw (f a u)) :
    s.KeepsPw (forAll l f t) := h.foldl l fun a _ u => hf a u

/-- A change that leaves every register but listed ones, and every record, as they were. -/
theorem State.KeepsPw.of_frame {l : List Nat} (h : s.KeepsPw t) (hf : t.Frame l u) (hl : ∀ g, pageAddr (gp g) 0x108 ∉ l)
    (hr : t.SameRest u) : s.KeepsPw u := by
  have hside : ∀ g : Grp, pageAddr (gp g) 0x108 ∉ sideRegs := fun g => by
    simp only [pageAddr, pageNum, sideRegs, List.mem_cons, List.not_mem_nil, or_false]
    omega
  simp only [State.SameRest] at hr
  exact h.trans ⟨fun g => hf.1 _ (hl g) (hside g), by simp only [hr]⟩

theorem State.KeepsPw.raise (h : s.KeepsPw t) (p : Page) (bit : Nat) : s.KeepsPw (t.raise p bit) := by
  have hne : ∀ g, pageAddr (gp g) 0x108 ∉ [pageAddr p 0x010] := fun g hm =>
    absurd ((pageAddr_inj (by decide) (by decide)).1 (List.mem_singleton.1 hm)).2 (by decide)
  exact h.of_frame (t.raise_spec p bit).1 hne (t.raise_spec p bit).2

theorem State.KeepsPw.raiseIf (h : s.KeepsPw t) (b : Bool) (p : Page) (bit : Nat) : s.KeepsPw (t.raiseIf b p bit) := .ite (h.raise p bit) h

theorem State.KeepsPw.viol (h : s.KeepsPw t) (p : Page) (k : Viol) : s.KeepsPw (t.viol p k) := by
  have hne : ∀ g, pageAddr (gp g) 0x108 ∉ [pageAddr p (violFld k).off] := fun g hm => by
    have := ((pageAddr_inj (by decide) (by cases k <;> decide)).1 (List.mem_singleton.1 hm)).2
    cases k <;> exact absurd this (by decide)
  exact h.of_frame ((State.Frame.refl t _).viol p k (.inl (by simp))) hne ((State.SameRest.refl t).viol p k)

/-- Bytes of a memory window. -/
theorem State.KeepsPw.msetList (h : s.KeepsPw t) (a : Nat) (l : List Byte) : s.KeepsPw (t.msetList a l) := by
  obtain ⟨hrd, -, hrest⟩ := t.msetList_spec a l
  simp only [State.SameRest] at hrest
  exact h.trans ⟨fun g => hrd _ (by simp only [pageAddr, pageNum]; omega), by simp only [hrest]⟩

theorem State.KeepsPw.mwordSet (h : s.KeepsPw t) (a : Nat) (w : Word) : s.KeepsPw (t.mwordSet a w) := h.msetList a _

theorem State.KeepsPw.mfieldSet (h : s.KeepsPw t) (a hi lo v : Nat) : s.KeepsPw (t.mfieldSet a hi lo v) := h.msetList a _

/-! ### Pinning (R152, R160) -/

theorem State.newWindow_keepsPw (s : State) (p : Path) : s.KeepsPw (s.newWindow p) := (State.KeepsPw.refl s).modPath p _

theorem State.pinTo_keepsPw (s : State) (p : Path) (st : Nat) : s.KeepsPw (s.pinTo p st) :=
  ((State.KeepsPw.refl s).setF _ _ rfl).modPath p _

theorem State.enterUnverified_keepsPw (s : State) (p : Path) (cause : Nat) : s.KeepsPw (s.enterUnverified p cause) :=
  (((s.pinTo_keepsPw p _).setF _ _ rfl).modPath p _).raise _ _

theorem State.setAdj_keepsPw (s : State) (p : Path) (a : Int) : s.KeepsPw (s.setAdj p a) :=
  ((((State.KeepsPw.refl s).setS _ _ rfl).setB _ _ rfl).setB _ _ rfl).raiseIf _ _ _

theorem State.piHold_keepsPw (s : State) (p : Path) : s.KeepsPw (s.piHold p) := (State.KeepsPw.refl s).draw.modPath p _

theorem State.discard_keepsPw (s : State) (p : Path) : s.KeepsPw (s.discard p) :=
  (((State.KeepsPw.refl s).modPath p _).trans (State.newWindow_keepsPw _ p)).trans (State.pinTo_keepsPw _ p _)

theorem State.place_keepsPw (s : State) (p : Path) : s.KeepsPw (s.place p) := by
  unfold State.place
  extract_lets held st placed opened
  have hset : s.KeepsPw ((((s.setF (pp p) PathR.PIN_HELD_HELD held).setF (pp p) PathR.PIN_STAT_PENDING 0).setF (pp p)
      PathR.PIN_PLACE_READ_OFS (enc 14 (st / 64))).setF (pp p) PathR.PIN_PLACE_PHASE (enc 6 (st % 64))) :=
    ((((State.KeepsPw.refl s).setF _ _ rfl).setF _ _ rfl).setF _ _ rfl).setF _ _ rfl
  have hplaced : s.KeepsPw placed := (hset.trans (State.setAdj_keepsPw _ p 0)).inc _ rfl
  have hopened : s.KeepsPw opened := (hplaced.modPath p _).trans (State.newWindow_keepsPw _ p)
  exact .ite (hopened.trans (State.pinTo_keepsPw _ p _)) (hopened.trans (State.enterUnverified_keepsPw _ p _))

theorem State.settleStage_keepsPw (s : State) (p : Path) : s.KeepsPw (s.settleStage p) := by
  unfold State.settleStage
  exact .ite (.ite (s.discard_keepsPw p) (.refl s)) (.ite (.refl s) (s.place_keepsPw p))

/-! ### Transmit frames and framing (R182, R249) -/

theorem State.txDone_keepsPw (s : State) (k : Port) (x : Bool × Nat) (status : Nat) (ts : BitVec 128) :
    s.KeepsPw (s.txDone k x status ts) := by
  have hoff : ∀ off, off < 4096 → offPw .frame off = true := fun off h => by simp [offPw, h]
  unfold State.txDone
  extract_lets a wait described stamped port taken counted
  have hdescribed : s.KeepsPw described := (((State.KeepsPw.refl s).mfieldSet _ _ _ _).mfieldSet _ _ _ _).mwordSet _ _
  have hstamped : s.KeepsPw stamped := hdescribed.msetList _ _
  have htaken : s.KeepsPw taken := .ite (hstamped.setPort _ _)
    ((hstamped.incW _ (hoff _ (by simp only [FrameR.TX_IDX_TX_HEAD]; omega))).setPort _ _)
  have hcounted : s.KeepsPw counted := .ite (htaken.inc _ (hoff _ (by simp only [FrameR.TX_CNT_SENT]; omega)))
    (htaken.inc _ (hoff _ (by simp only [FrameR.TX_CNT_DROPPED]; omega)))
  exact (hcounted.raise _ _).raiseIf _ _ _

theorem State.insertCut_keepsPw (s : State) (p : Path) : s.KeepsPw (s.insertCut p) := by
  unfold State.insertCut
  refine .foldl (.refl s) _ fun k _ u => .ite ?_ (.refl u)
  split
  · exact u.txDone_keepsPw k _ _ _
  · exact .refl u

theorem State.framingLose_keepsPw (s : State) (p : Path) : s.KeepsPw (s.framingLose p) := by
  unfold State.framingLose State.degClear
  exact .ite ((((((State.KeepsPw.refl s).setF _ _ rfl).addCtr _ _ _).modPath p _).modPath p _).raise _ _) (.refl s)

theorem State.ethStat_keepsPw (s : State) (p : Path) (e : BitVec 3) (frm : Bool) : s.KeepsPw (s.ethStat p e frm) := by
  unfold State.ethStat
  exact .ite (.refl s) ((((State.KeepsPw.refl s).setB _ _ rfl).setB _ _ rfl).setB _ _ rfl)

theorem State.convLose_keepsPw (s : State) (p : Path) (from_ : Nat) : s.KeepsPw (s.convLose p from_) := by
  unfold State.convLose
  extract_lets emb mb
  have hemb : s.KeepsPw emb := ((State.KeepsPw.refl s).setF _ _ rfl).modPath p _
  have hmb : s.KeepsPw mb := .ite (hemb.setF _ _ rfl) hemb
  exact .ite ((hmb.setF _ _ rfl).trans (State.framingLose_keepsPw _ p)) hmb

theorem State.framingLost_keepsPw (s : State) (p : Path) (e : BitVec 3) (cut : Bool) : s.KeepsPw (s.framingLost p e cut) := by
  unfold State.framingLost
  extract_lets lost
  have hlost : s.KeepsPw lost := .ite (s.convLose_keepsPw p 0) ((s.ethStat_keepsPw p e false).trans (State.framingLose_keepsPw _ p))
  exact .ite (hlost.trans (lost.insertCut_keepsPw p)) hlost

/-! ### Rotation (R95) -/

theorem State.rotAborted_keepsPw (s : State) (p : Path) (cause : Nat) : s.KeepsPw (s.rotAborted p cause) := by
  unfold State.rotAborted State.rotRest
  exact (((((State.KeepsPw.refl s).modPath p _).setF _ _ rfl).inc _ rfl).setF _ _ rfl).raise _ _

theorem State.rotAbandon_keepsPw (s : State) (p : Path) (cause : Nat) : s.KeepsPw (s.rotAbandon p cause) :=
  .ite (s.rotAborted_keepsPw p cause) (.refl s)

/-! ### Training (R108 to R141) -/

theorem State.setTaps_keepsPw (s : State) (q : Path) (l : List Int) : s.KeepsPw (s.setTaps q l) := by
  have htap : ∀ x ∈ tapFlds, x.off < 4096 := by decide
  exact .foldl (.refl s) _ fun e he u => (State.KeepsPw.refl u).setS _ _ (by simp [offPw, htap _ (List.of_mem_zip he).1])

theorem State.presetNow_keepsPw (s : State) (p : Path) (n : Nat) : s.KeepsPw (s.presetNow p n) := by
  have hbad : ∀ (u : State) (v : Nat), u.KeepsPw (u.setF (pp p) PathR.TRN_STAT_USER_BAD v) := fun u v => (State.KeepsPw.refl u).setF _ _ rfl
  unfold State.presetNow
  exact .ite ((s.setTaps_keepsPw _ _).trans (hbad _ _)) (.ite ((s.setTaps_keepsPw _ _).trans (hbad _ _)) (s.setTaps_keepsPw _ _))

theorem State.presetApply_keepsPw (s : State) (p : Path) (n : Nat) : s.KeepsPw (s.presetApply p n) :=
  .ite ((State.KeepsPw.refl s).modSeg p _) (((State.KeepsPw.refl s).modSeg p _).trans (State.presetNow_keepsPw _ p n))

theorem State.segClear_keepsPw (s : State) (p : Path) : s.KeepsPw (s.segClear p) :=
  ((((State.KeepsPw.refl s).setF _ _ rfl).setF _ _ rfl).setF _ _ rfl).modSeg p _

theorem State.segSet_keepsPw (s : State) (p : Path) (st : Nat) : s.KeepsPw (s.segSet p st) := (State.KeepsPw.refl s).setF _ _ rfl

theorem State.segWait_keepsPw (s : State) (p : Path) : s.KeepsPw (s.segWait p) := by
  have hwait : s.KeepsPw ((s.segClear p).segSet p sgWait) := (s.segClear_keepsPw p).trans (State.segSet_keepsPw _ p _)
  exact .ite (hwait.modSeg _ _) hwait

theorem State.seedRx_keepsPw (s : State) (p : Path) : s.KeepsPw (s.seedRx p) := by
  unfold State.seedRx
  refine .ite (.refl s) ?_
  have hreset : s.KeepsPw (((s.rstReg (pp p) 0x040).rstRange (pp p) 0x100 0x13C).rstReg (pp p) 0x140) :=
    (((State.KeepsPw.refl s).wr _ _ _ rfl).rstRange _ _ _ (by simp) (by decide)).wr _ _ _ rfl
  dsimp only
  split
  · refine .foldl ((hreset.wr _ _ _ rfl).wr _ _ _ rfl) _ fun e he u => (State.KeepsPw.refl u).wr _ _ _ ?_
    have hk := List.mem_range.1 (List.of_mem_zip he).1
    simp only [offPw, Bool.and_true, decide_eq_true_eq]
    omega
  · exact hreset

theorem State.segInit_keepsPw (s : State) (p : Path) : s.KeepsPw (s.segInit p) := by
  unfold State.segInit
  have hinit := (((State.KeepsPw.refl s).draw.trans (State.segClear_keepsPw _ p)).trans (State.segSet_keepsPw _ p sgInit))
  exact ((hinit.modSeg p _).trans (State.seedRx_keepsPw _ p)).trans (State.presetApply_keepsPw _ p _)

theorem State.segAcquire_keepsPw (s : State) (p : Path) : s.KeepsPw (s.segAcquire p) := by
  unfold State.segAcquire
  exact (((s.segClear_keepsPw p).trans (State.segSet_keepsPw _ p _)).modSeg p _).trans (State.presetApply_keepsPw _ p _)

theorem State.waitRow_keepsPw (s : State) (p : Path) : s.KeepsPw (s.waitRow p) :=
  .ite (.refl s) (.ite (s.segAcquire_keepsPw p) (.ite (.refl s) (s.segInit_keepsPw p)))

theorem State.readyRow_keepsPw (s : State) (p : Path) : s.KeepsPw (s.readyRow p) := by
  unfold State.readyRow
  refine .ite (.refl s) ?_
  extract_lets exch st ready
  have hexch : s.KeepsPw exch := .ite (s.segSet_keepsPw p _) (.refl s)
  have hready : s.KeepsPw ready :=
    .ite (hexch.trans (State.segSet_keepsPw _ p _)) (.ite (hexch.trans (State.segSet_keepsPw _ p _)) hexch)
  exact .ite ((hready.trans (State.segSet_keepsPw _ p _)).modSeg p _) hready

theorem State.setupRow_keepsPw (s : State) (p : Path) : s.KeepsPw (s.setupRow p) := .ite (s.segInit_keepsPw p) (.refl s)

theorem State.dropLock_keepsPw (s : State) (p : Path) (fault : Bool) : s.KeepsPw (s.dropLock p fault) := by
  unfold State.dropLock
  refine .ite (.refl s) ?_
  have hheld := ((State.KeepsPw.refl s).setF (pp p) (x := PathR.RX_STAT_CDR_LOCK) 0 rfl).trans (State.piHold_keepsPw _ p)
  exact ((hheld.trans (State.rotAbandon_keepsPw _ p 1)).trans (State.framingLost_keepsPw _ p 0 false)).raiseIf _ _ _

theorem State.relayBegin_keepsPw (s : State) (n : Lane) : s.KeepsPw (s.relayBegin n) := by
  have hdropped := (s.dropLock_keepsPw (pathAB n) false).trans (State.dropLock_keepsPw _ (pathBA n) false)
  have hset := (hdropped.trans (State.segSet_keepsPw _ (pathAB n) sgRelay)).trans (State.segSet_keepsPw _ (pathBA n) sgRelay)
  exact ((hset.setF _ _ rfl).setF _ _ rfl).setF _ _ rfl

theorem State.relayRow_keepsPw (s : State) (n : Lane) : s.KeepsPw (s.relayRow n) := .ite (s.relayBegin_keepsPw n) (.refl s)

theorem State.disableRow_keepsPw (s : State) (p : Path) : s.KeepsPw (s.disableRow p) :=
  .ite (.ite (.refl s) ((s.segClear_keepsPw p).trans (State.segSet_keepsPw _ p _))) (.ite (s.segWait_keepsPw p) (.refl s))

theorem State.settlePath_keepsPw (s : State) (p : Path) : s.KeepsPw (s.settlePath p) := by
  unfold State.settlePath
  exact (State.KeepsPw.ite (s.dropLock_keepsPw p _) (.refl s)).trans (State.settleStage_keepsPw _ p)

theorem State.readyPair_keepsPw (s : State) (n : Lane) : s.KeepsPw (s.readyPair n) :=
  (((s.readyRow_keepsPw _).trans (State.readyRow_keepsPw _ _)).trans (State.readyRow_keepsPw _ _)).trans (State.readyRow_keepsPw _ _)

theorem State.settle_keepsPw (s : State) (n : Lane) : s.KeepsPw (s.settle n) := by
  unfold State.settle
  extract_lets a b disabled trained ready
  have hdisabled : s.KeepsPw disabled := (s.disableRow_keepsPw a).trans (State.disableRow_keepsPw _ b)
  have hwait := ((hdisabled.trans (State.relayRow_keepsPw _ n)).trans (State.waitRow_keepsPw _ a)).trans (State.waitRow_keepsPw _ b)
  have htrained : s.KeepsPw trained := (hwait.trans (State.setupRow_keepsPw _ a)).trans (State.setupRow_keepsPw _ b)
  have hready : s.KeepsPw ready := htrained.trans (State.readyPair_keepsPw _ n)
  exact (hready.trans (State.settlePath_keepsPw _ a)).trans (State.settlePath_keepsPw _ b)

theorem State.settleGrp_keepsPw (s : State) (g : Grp) : s.KeepsPw (s.settleGrp g) :=
  (State.KeepsPw.refl s).forAll _ fun _ u => u.settle_keepsPw _

end Sys2Proof.Machine
end

section
/-!
SUPPORT. Likewise for calibration: a run's start, its blocks and its abandonment, the answers of an engine's commands, and the flash
operation that a stored calibration asks for (R294, R350, R383 to R386).
-/
namespace Sys2Proof.Machine

variable {s t u : State}

/-! ### Records that are no registers -/

theorem State.KeepsPw.setGrp (h : s.KeepsPw t) (g : Grp) (v : GroupSt) : s.KeepsPw (t.setGrp g v) := h.of_regs rfl rfl

theorem State.KeepsPw.modCal (h : s.KeepsPw t) (g : Grp) (f : CalSt → CalSt) : s.KeepsPw (t.modCal g f) := h.setGrp _ _

theorem State.KeepsPw.setEng (h : s.KeepsPw t) (e : Eng) (v : EngSt) : s.KeepsPw (t.setEng e v) := h.of_regs rfl rfl

theorem State.KeepsPw.modEng (h : s.KeepsPw t) (e : Eng) (f : EngSt → EngSt) : s.KeepsPw (t.modEng e f) := h.setEng _ _

theorem State.KeepsPw.modFlash (h : s.KeepsPw t) (f : FlashSt → FlashSt) : s.KeepsPw (t.modFlash f) := h.of_regs rfl rfl

theorem State.KeepsPw.modReh (h : s.KeepsPw t) (f : RehSt → RehSt) : s.KeepsPw (t.modReh f) := h.of_regs rfl rfl

theorem State.KeepsPw.setPend (h : s.KeepsPw t) (p : Path) (v : List (Nat × List Int)) : s.KeepsPw (t.setPend p v) := h.of_regs rfl rfl

theorem State.KeepsPw.setRamp (h : s.KeepsPw t) (p : Path) (v : List (Nat × List Int)) : s.KeepsPw (t.setRamp p v) := h.of_regs rfl rfl

theorem State.KeepsPw.putTrim (h : s.KeepsPw t) (p : Path) (v : TrimSt) : s.KeepsPw (t.putTrim p v) := h.of_regs rfl rfl

theorem State.KeepsPw.setSecurity (h : s.KeepsPw t) (x : SecSt) : s.KeepsPw { t with security := x } := h.of_regs rfl rfl

/-! ### An engine's commands (R294) -/

theorem State.postAnswer_keepsPw (s : State) (e : Eng) (r : BitVec 128) : s.KeepsPw (s.postAnswer e r) :=
  .ite (((State.KeepsPw.refl s).setEng _ _).raise _ _) ((State.KeepsPw.refl s).setEng _ _)

theorem State.answerCmd_keepsPw (s : State) (e : Eng) (c : BitVec 128) (epoch status detail : Nat) (r0 r1 : Word) :
    s.KeepsPw (s.answerCmd e c epoch status detail r0 r1) := by
  unfold State.answerCmd
  exact .ite (s.postAnswer_keepsPw e _) ((s.postAnswer_keepsPw e _).inc _ rfl)

theorem State.releaseLong_keepsPw (s : State) (e : Eng) : s.KeepsPw (s.releaseLong e) :=
  (State.KeepsPw.refl s).forAll _ fun _ u => .ite ((State.KeepsPw.refl u).setGrp _ _) (.refl u)

theorem State.abortLong_keepsPw (s : State) (e : Eng) : s.KeepsPw (s.abortLong e) := by
  have hdraw := (State.KeepsPw.refl s).draw
  unfold State.abortLong State.endLong
  dsimp only
  split
  · exact hdraw
  · exact ((hdraw.modEng e _).trans (State.releaseLong_keepsPw _ e)).trans (State.answerCmd_keepsPw _ e _ _ _ _ _ _)

theorem State.calCmdEnd_keepsPw (s : State) (g : Grp) (done : Bool) : s.KeepsPw (s.calCmdEnd g done) := by
  unfold State.calCmdEnd
  refine (State.KeepsPw.refl s).forAll _ fun e u => ?_
  split
  · exact .ite (.ite ((State.KeepsPw.refl u).modEng e _) (u.abortLong_keepsPw e)) (.refl u)
  · exact .refl u

/-! ### The flash queue (R340, R350) -/

theorem State.energyCheck_keepsPw (s : State) (kind req : Nat) : s.KeepsPw (s.energyCheck kind req).1 := by
  have hset : s.KeepsPw ((((s.setF .nvm NvmR.NVM_ECHK_E_AVAIL s.eAvail).setF .nvm NvmR.NVM_ECHK_E_REQ req).setF .nvm
      NvmR.NVM_ECHK_KIND kind).setB .nvm NvmR.NVM_ECHK_PASS (decide (req ≤ s.eAvail))) :=
    ((((State.KeepsPw.refl s).setF _ _ rfl).setF _ _ rfl).setF _ _ rfl).setB _ _ rfl
  exact .ite hset ((hset.inc _ rfl).raise _ _)

theorem State.hostEnd_keepsPw (s : State) (res : Nat) : s.KeepsPw (s.hostEnd res) := by
  have hset : s.KeepsPw ((s.setF .nvm NvmR.NVM_STAT_STATE 0).setF .nvm NvmR.NVM_STAT_RESULT res) :=
    ((State.KeepsPw.refl s).setF _ _ rfl).setF _ _ rfl
  exact .ite ((hset.inc _ rfl).raise _ _) (.ite (hset.raise _ _) hset)

theorem State.keyEnd_keepsPw (s : State) (res : Nat) : s.KeepsPw (s.keyEnd res) := by
  unfold State.keyEnd
  extract_lets spend spent noted
  have hspend : ∀ u : State, u.KeepsPw (spend u) := fun u => by
    simp only [spend]
    split
    · exact (State.KeepsPw.refl u).setSecurity _
    · exact .refl u
  have hspent : s.KeepsPw spent := .ite (hspend s) (.refl s)
  have hnoted : s.KeepsPw noted := ((hspent.setF _ _ rfl).setF _ _ rfl).rstRange _ _ _ (by simp) (by decide)
  exact (hnoted.setSecurity _).raiseIf _ _ _

theorem State.rehRefused_keepsPw (s : State) (cause : Nat) : s.KeepsPw (s.rehRefused cause) :=
  ((State.KeepsPw.refl s).setF _ _ rfl).viol _ _

theorem State.rehOver_keepsPw (s : State) : s.KeepsPw s.rehOver := ((State.KeepsPw.refl s).setF _ _ rfl).modReh _

theorem State.flashRefused_keepsPw (s : State) (op : FlashOp) : s.KeepsPw (s.flashRefused op) := by
  have hset : ∀ (p : Page) (x : Fld) (v : Nat), offPw p x.off = true → s.KeepsPw (s.setF p x v) :=
    fun p x v hx => (State.KeepsPw.refl s).setF p v hx
  unfold State.flashRefused
  split
  · exact s.hostEnd_keepsPw 2
  · exact hset _ _ _ rfl
  · exact hset _ _ _ rfl
  · exact (hset _ _ _ rfl).setF _ _ rfl
  · exact s.keyEnd_keepsPw 2
  · exact .ite ((s.rehRefused_keepsPw 4).trans (State.rehOver_keepsPw _)) ((hset _ _ _ rfl).trans (State.rehOver_keepsPw _))
  · exact .refl s

theorem State.flashStart_keepsPw (s : State) (op : FlashOp) (rest : List FlashOp) : s.KeepsPw (s.flashStart op rest) := by
  unfold State.flashStart
  dsimp only
  split
  · exact ((State.KeepsPw.refl s).modFlash _).setF _ _ rfl
  · exact (State.KeepsPw.refl s).modFlash _

theorem State.flashHold_keepsPw (s : State) (op : FlashOp) : s.KeepsPw (s.flashHold op) := by
  unfold State.flashHold
  dsimp only
  split
  · exact ((State.KeepsPw.refl s).modFlash _).setF _ _ rfl
  · exact (State.KeepsPw.refl s).modFlash _

theorem State.flashServeN_keepsPw (fuel : Nat) (s : State) : s.KeepsPw (State.flashServeN fuel s) := by
  induction fuel generalizing s with
  | zero => exact .refl s
  | succ fuel ih =>
    unfold State.flashServeN
    split
    · exact .refl s
    · exact .refl s
    · refine .ite (.refl s) ?_
      dsimp only
      split
      · exact s.flashStart_keepsPw _ _
      · have hchecked := s.energyCheck_keepsPw
        refine .ite (s.flashHold_keepsPw _) (.ite ((hchecked _ _).trans (State.flashStart_keepsPw _ _ _)) ?_)
        exact (((hchecked _ _).modFlash _).trans (State.flashRefused_keepsPw _ _)).trans (ih _)

theorem State.flashQueue_keepsPw (s : State) (op : FlashOp) : s.KeepsPw (s.flashQueue op) :=
  ((State.KeepsPw.refl s).modFlash _).trans (State.flashServeN_keepsPw _ _)

/-! ### Calibration (R383 to R386) -/

theorem State.setTrim_keepsPw (s : State) (p : Path) (v : TrimSt) : s.KeepsPw (s.setTrim p v) :=
  .ite (.refl s) ((((State.KeepsPw.refl s).putTrim p v).setF _ _ rfl).modFlash _)

theorem State.calApply_keepsPw (s : State) (g : Grp) : s.KeepsPw (s.calApply g) :=
  (State.KeepsPw.refl s).forAll _ fun p u => (u.setTrim_keepsPw p _).setPend p _

theorem State.calAbandon_keepsPw (s : State) (g : Grp) (keep : Bool) : s.KeepsPw (s.calAbandon g keep) := by
  unfold State.calAbandon
  refine .ite (.refl s) ?_
  extract_lets c ramped kept
  have hramped : s.KeepsPw ramped :=
    ((State.KeepsPw.refl s).setF (gp g) (x := GroupR.CAL_STAT_STATE) 0 rfl).forAll _ fun p u => (State.KeepsPw.refl u).setRamp p _
  have hkept : s.KeepsPw kept := .ite ((hramped.modCal g _).setF _ _ rfl) hramped
  exact .ite (hkept.trans (State.calCmdEnd_keepsPw _ g false)) hkept

theorem State.needRaise_keepsPw (s : State) (g : Grp) (before : List Bool) : s.KeepsPw (s.needRaise g before) :=
  .ite (((State.KeepsPw.refl s).raise _ _).raise _ _) (.refl s)

theorem State.calAutoStore_keepsPw (s : State) : s.KeepsPw s.calAutoStore :=
  .ite (((State.KeepsPw.refl s).setF _ _ rfl).trans (State.flashQueue_keepsPw _ _)) (.refl s)

theorem State.calComplete_keepsPw (s : State) (g : Grp) : s.KeepsPw (s.calComplete g) := by
  unfold State.calComplete
  extract_lets c noted told
  have hnoted : s.KeepsPw noted := ((((State.KeepsPw.refl s).setF _ _ rfl).inc _ rfl).setF _ _ rfl).setF _ _ rfl
  have htold : s.KeepsPw told := ((hnoted.modCal g _).raise _ _).raise _ _
  exact (State.KeepsPw.ite (htold.trans (State.calCmdEnd_keepsPw _ g true)) htold).trans (State.calAutoStore_keepsPw _)

theorem State.sweepBegin_keepsPw (s : State) (p : Path) : s.KeepsPw (s.sweepBegin p) := .ite (.refl s) ((State.KeepsPw.refl s).modPath p _)

theorem State.calNext_keepsPw (s : State) (g : Grp) : s.KeepsPw (s.calNext g) := by
  unfold State.calNext State.calBlocksDone
  extract_lets b begun
  have hbegun : s.KeepsPw begun := ((State.KeepsPw.refl s).setF _ _ rfl).modCal g _
  refine .ite (.ite ((State.KeepsPw.refl s).setF _ _ rfl) (s.calComplete_keepsPw g)) (.ite ?_ hbegun)
  exact hbegun.forAll _ fun p u => .ite (u.sweepBegin_keepsPw p) (.refl u)

theorem State.calStart_keepsPw (s : State) (g : Grp) (trig : Nat) (ramp : Bool) (mask : Nat) : s.KeepsPw (s.calStart g trig ramp mask) := by
  unfold State.calStart
  extract_lets mask before undone begun
  have hundone : s.KeepsPw undone := (State.KeepsPw.refl s).forAll _ fun p u => (State.KeepsPw.refl u).wr (gp (pathGrp p)) 0x1A4 _ rfl
  have hbegun : s.KeepsPw begun := ((hundone.setF _ _ rfl).setF _ _ rfl).modCal g _
  exact (hbegun.trans (State.needRaise_keepsPw _ g _)).trans (State.calNext_keepsPw _ g)

theorem State.calTrigger_keepsPw (s : State) (g : Grp) (trig : Nat) (ramp : Bool) (mask : Nat) :
    s.KeepsPw (s.calTrigger g trig ramp mask) := by
  have hnoted : s.KeepsPw (s.setF (gp g) GroupR.CAL_STAT_LAST_TRIG trig) := (State.KeepsPw.refl s).setF _ _ rfl
  exact .ite ((hnoted.modCal g _).setF _ _ rfl) (hnoted.trans (State.calStart_keepsPw _ g _ _ _))

end Sys2Proof.Machine
end

section
/-!
SUPPORT. Where a transition of a group begins and ends (R362, R365, R368), what the requests of PWR_CTL lead to (R361, R366), and the way
to DARK (R370).
-/
namespace Sys2Proof.Machine

variable {s : State} {g : Grp}

/-! ### Transitions (R362) -/

/-- Setting STATE, and then another field of PWR_STAT, leaves the state set. -/
theorem State.pw_set (s : State) (g : Grp) {st : Nat} (hst : st < 8) {x : Fld} (v : Nat) (hle : x.lo ≤ x.hi) (hx : 2 < x.lo) :
    ((s.setF (gp g) GroupR.PWR_STAT_STATE st).setF (gp g) x v).pw g = st := by
  rw [State.pw, State.f_setF_disj _ _ _ _ _ hle (by decide) (.inr hx), State.f_setF_self _ _ _ _ (by decide) (by decide)]
  exact Nat.mod_eq_of_lt hst

/-- Entry goes through the state given, and keeps the device. -/
theorem State.enterDown_leads (s : State) (g : Grp) {st : Nat} (hst : st < 8) (cause : Nat) :
    (s.enterDown g st cause).pw g = st ∧ (s.enterDown g st cause).device = s.device := by
  unfold State.enterDown
  extract_lets was named record begun cut
  have hbegun : named.KeepsPw begun := (State.KeepsPw.refl named).setGrp g _
  have hpath : ∀ (p : Path) (u : State), u.KeepsPw ((u.rotAbandon p 3).capStopReq p) := fun p u =>
    (u.rotAbandon_keepsPw p 3).trans (.ite ((State.KeepsPw.refl _).modPath p _) (.refl _))
  have hcut : named.KeepsPw cut :=
    .ite (((hbegun.forAll _ hpath).trans (State.calAbandon_keepsPw _ g true)).trans (State.calApply_keepsPw _ g)) hbegun
  have hdone := hcut.trans (State.settleGrp_keepsPw cut g)
  exact ⟨(hdone.pw g).trans (s.pw_set g hst cause (by decide) (by decide)), hdone.2.trans (by simp [named])⟩

/-- Exit goes through EXIT, and keeps the device. -/
theorem State.exitBegin_leads (s : State) (g : Grp) (cause : Nat) :
    (s.exitBegin g cause).pw g = pwExit ∧ (s.exitBegin g cause).device = s.device := by
  unfold State.exitBegin
  extract_lets off named record begun unpinned told
  have hbegun : named.KeepsPw begun := (State.KeepsPw.refl named).setGrp g _
  have hunpinned : named.KeepsPw unpinned := hbegun.forAll _ fun p u => (State.KeepsPw.refl u).setF (pp p) (x := PathR.SVC_STAT_TO_PINNED_US) _ rfl
  have htold : named.KeepsPw told := .ite ((hunpinned.raise _ _).raise _ _) hunpinned
  have hdone : named.KeepsPw (if off = true then told.calRecover g else told) := .ite (htold.trans (State.calTrigger_keepsPw _ g _ _ _)) htold
  exact ⟨(hdone.pw g).trans (s.pw_set g (by decide) cause (by decide) (by decide)), hdone.2.trans (by simp [named])⟩

theorem State.pwBegin_device (s : State) (g : Grp) (rq cause : Nat) (byHost : Bool) : (s.pwBegin g rq cause byHost).device = s.device := by
  have hentry : ∀ u : State, (u.enterDown g (if rq = rqInt then pwEnterInt else pwEnterOff) cause).device = u.device := fun u =>
    (u.enterDown_leads g (by split <;> decide) cause).2
  unfold State.pwBegin
  extract_lets record named st
  split
  · exact hentry named
  · split
    · exact (named.enterDown_leads g (by decide) cause).2
    · exact (named.exitBegin_leads g cause).2

/-- From a running state, entry of INTERMISSION or OFF begins. -/
theorem State.pwBegin_fromRun (h : s.pw g = pwRun) (rq cause : Nat) (byHost : Bool) :
    (s.pwBegin g rq cause byHost).pw g = if rq = rqInt then pwEnterInt else pwEnterOff := by
  unfold State.pwBegin
  extract_lets record named st
  rw [if_pos (show st = pwRun from h)]
  exact (named.enterDown_leads g (by split <;> decide) cause).1

/-- From INTERMISSION, OFF is entered. -/
theorem State.pwBegin_intToOff (h : s.pw g = pwInt) (cause : Nat) (byHost : Bool) :
    (s.pwBegin g rqOff cause byHost).pw g = pwEnterOff := by
  have hst : (s.setGrp g { s.grp g with target := rqOff, byHost := byHost }).pw g = pwInt := h
  rw [State.pwBegin]
  dsimp only
  rw [hst, if_neg (by decide), if_pos ⟨rfl, rfl⟩]
  exact (State.enterDown_leads _ g (by decide) cause).1

/-- From INTERMISSION or OFF, a request of RUN begins exit. -/
theorem State.pwBegin_run (h : s.pw g = pwInt ∨ s.pw g = pwOff) (cause : Nat) (byHost : Bool) :
    (s.pwBegin g rqRun cause byHost).pw g = pwExit := by
  unfold State.pwBegin
  extract_lets record named st
  have hst : st = pwInt ∨ st = pwOff := h
  rw [if_neg (by rcases hst with hst | hst <;> rw [hst] <;> decide), if_neg (by rintro ⟨-, h⟩; exact absurd h (by decide))]
  exact (named.exitBegin_leads g cause).1

/-- A request that no temperature blocks, and that names another state than the one at rest, is acted on at once (R361, R363). -/
theorem State.pwRequest_begins {rq : Nat} (hrq : rq ≠ 0) (hhot : rq ≠ rqOff → s.overTemp g = false) (hrest : s.pw g < 4)
    (hbusy : s.busyOf (gp g) = .no) (hnew : rq ≠ rqOf (s.pw g)) (cause : Nat) (byHost : Bool) :
    s.pwRequest g rq cause byHost = s.pwBegin g rq cause byHost := by
  have hcool : ¬ (rq ≠ rqOff ∧ s.overTemp g = true) := fun ⟨hoff, hot⟩ => by simp [hhot hoff] at hot
  rw [State.pwRequest, if_neg hrq, if_neg hcool, if_neg (by simp [State.pwMoving, hbusy]; omega), if_neg hnew]

/-- The record of a group once it is set. -/
theorem State.grp_setGrp_self (s : State) (g : Grp) (v : GroupSt) : (s.setGrp g v).grp g = v := tabGet_tabSet_self _ _ _ _

theorem State.sdStop_groups (ps : List Path) (s : State) : (forAll ps (fun p s => s.sdStop p) s).groups = s.groups := by
  induction ps generalizing s with
  | nil => rfl
  | cons p ps ih => exact (ih _).trans (by simp [State.sdStop])

/-- The PLLs of a group that stop leave its power state and its pending request. -/
theorem State.pllStop_leads (s : State) (g : Grp) : s.KeepsPw (s.pllStop g) ∧ ((s.pllStop g).grp g).pend = (s.grp g).pend := by
  constructor
  · exact ((((State.KeepsPw.refl s).setF _ _ rfl).setF _ _ rfl).setF _ _ rfl).setF _ _ rfl |>.setGrp _ _
  · rw [State.pllStop, State.grp_setGrp_self]

/-- OFF is reached with its pending request as it was, and the device too. -/
theorem State.pwReach_off (htarget : (s.grp g).target = rqOff) :
    (s.pwReach g).pw g = pwOff ∧ ((s.pwReach g).grp g).pend = (s.grp g).pend ∧ (s.pwReach g).device = s.device := by
  unfold State.pwReach
  extract_lets us rq running resting named
  have hrq : rq = rqOff := htarget
  rw [if_neg (by rw [hrq]; decide), if_neg (by rw [hrq]; decide)]
  have hnamed : named.pw g = pwOff := by
    have hne : pageAddr (gp g) GroupR.PWR_STAT_STATE.off ≠ pageAddr (gp g) GroupR.PWR_TIME_LAST_ENTRY_US.off :=
      fun h => absurd ((pageAddr_inj (by decide) (by decide)).1 h).2 (by decide)
    rw [State.pw, State.f_setF_ne _ _ _ _ _ _ hne, State.f_setF_self _ _ _ _ (by decide) (by decide)]
    rfl
  have hstopped : named.KeepsPw (forAll (grpPaths g) (fun p s => s.sdStop p) named) :=
    (State.KeepsPw.refl named).forAll _ fun p u => (State.KeepsPw.refl u).setF (pp p) (x := PathR.RX_STAT_SD) _ rfl
  have hgroups := State.sdStop_groups (grpPaths g) named
  have hsame : named.groups = s.groups ∧ named.device = s.device := by simp [named]
  clear_value named
  generalize forAll (grpPaths g) (fun p s => s.sdStop p) named = u at hstopped hgroups
  obtain ⟨hpll, hpend⟩ := u.pllStop_leads g
  have hdone := hstopped.trans hpll
  refine ⟨(hdone.pw g).trans hnamed, hpend.trans ?_, hdone.2.trans hsame.2⟩
  rw [State.grp, hgroups, hsame.1, State.grp]

/-- The transition to OFF ends in OFF (R362). -/
theorem State.transEnd_off (hmoving : s.pwMoving g = true) (hpend : (s.grp g).pend = none) (htarget : (s.grp g).target = rqOff)
    (hready : s.device = .ready) : (s.transEnd g).pw g = pwOff := by
  obtain ⟨hoff, hleft, hdev⟩ := State.pwReach_off htarget
  unfold State.transEnd
  rw [if_neg (by simp [hmoving])]
  extract_lets host told
  have htold : (s.pwReach g).KeepsPw told := (State.KeepsPw.refl _).raiseIf host .pstate 0
  have hgroups : told.groups = (s.pwReach g).groups := by
    simp only [told, State.raiseIf]
    split
    · have hsame := ((s.pwReach g).raise_spec .pstate 0).2
      simp only [State.SameRest] at hsame
      simp only [hsame]
    · rfl
  have hrest : told.pw g = pwOff := (htold.pw g).trans hoff
  have hnone : (told.grp g).pend = none := by rw [State.grp, hgroups, ← State.grp, hleft, hpend]
  have hdark : (told.device == .enteringDark) = false := by rw [htold.2, hdev, hready]; rfl
  clear_value told
  have htaken : told.pwTakePend g = told := by simp [State.pwTakePend, hnone]
  rw [if_neg (by simp [hdark]), htaken, State.levelAct, if_neg (by simp [hrest, pwInt, pwOff])]
  exact hrest

/-- The idle timer takes an idle running group to INTERMISSION (R364). -/
theorem State.idleExpiry_enters (hrun : s.pw g = pwRun) (hpend : (s.grp g).pend = none)
    (hauto : s.on (gp g) GroupR.PWR_CTL_AUTO_EN = true) (hhold : s.on (gp g) GroupR.PWR_CTL_WAKE_HOLD = false)
    (hbusy : s.busyOf (gp g) = .no) (hidle : s.grpIdle g = true) (hready : s.device = .ready) (hcool : s.overTemp g = false) :
    (s.idleExpiry g).pw g = pwEnterInt := by
  rw [State.idleExpiry, if_pos (by simp [hrun, hpend, hauto, hhold, hbusy, hidle, hready]),
    State.pwRequest_begins (by decide) (fun _ => hcool) (by rw [hrun]; decide) hbusy (by rw [hrun]; decide), State.pwBegin_fromRun hrun]
  rfl

/-! ### PWR_CTL (R361, R366) -/

/-- The fields of PWR_CTL. -/
def markWakeRow : Row := { fld := GroupR.PWR_CTL_MARK_WAKE, acc := .rw, rst := 0x0 }
def autoEnRow : Row := { fld := GroupR.PWR_CTL_AUTO_EN, acc := .rw, rst := 0x1 }
def wakeHoldRow : Row := { fld := GroupR.PWR_CTL_WAKE_HOLD, acc := .rw, rst := 0x0 }
def wakeNowRow : Row := { fld := GroupR.PWR_CTL_WAKE_NOW, acc := .w1s, rst := 0x0 }
def reqRow : Row := { fld := GroupR.PWR_CTL_REQ, acc := .rw, rst := 0x0 }

theorem rowsAt_pwrCtl (g : Grp) : rowsAt (gp g) 0x100 = [markWakeRow, autoEnRow, wakeHoldRow, wakeNowRow, reqRow] := by
  have hrows : (rowsHdr ++ rowsGroup).filter (rowCovers 0x100) = [markWakeRow, autoEnRow, wakeHoldRow, wakeNowRow, reqRow] := by
    decide +kernel
  simp [rowsAt, pageRows, mirrorReg, hrows]

/-- A write of REQ alone stores it. -/
theorem writeOut_req (v : Nat → Word) (g : Grp) {rq : Nat} (hrq : rq < 4) :
    writeOut v false (gp g) 0x100 (fset 0 1 0 rq) (fldMask 1 0) =
      { word := fset (v (pageAddr (gp g) 0x100)) 1 0 rq, access := fset 0 1 0 rq &&& fldMask 1 0 &&& roMask (gp g) 0x100 != 0 } := by
  have hmask : fldMask 1 0 &&& ~~~ctlUnsupported (gp g) 0x100 = fldMask 1 0 := by
    rw [ctlUnsupported, if_neg (by decide)]
    decide
  have hcode : fget (merge (v (pageAddr (gp g) 0x100)) (fset 0 1 0 rq) (fldMask 1 0)) 1 0 = rq := by
    rw [fget_merge (by decide), fget_fset _ _ _ _ (by decide) (by decide)]
    omega
  simp only [writeOut, rowsAt_pwrCtl, List.foldl_cons, List.foldl_nil, hmask]
  rw [writeRow_of_not_written (r := markWakeRow) (by decide), writeRow_of_not_written (r := autoEnRow) (by decide),
    writeRow_of_not_written (r := wakeHoldRow) (by decide), writeRow_of_not_written (r := wakeNowRow) (by decide),
    writeRow_rw_legal (r := reqRow) rfl (by decide) (by decide) (fieldLegal_of_legalCode rfl (by decide))]
  simp only [reqRow, GroupR.PWR_CTL_REQ, hcode]

/-- A write of WAKE_NOW alone is an action. -/
theorem writeOut_wakeNow (v : Nat → Word) (g : Grp) :
    writeOut v false (gp g) 0x100 (fset 0 4 4 1) (fldMask 4 4) =
      { word := v (pageAddr (gp g) 0x100), access := fset 0 4 4 1 &&& fldMask 4 4 &&& roMask (gp g) 0x100 != 0, act := 16#32 } := by
  have hmask : fldMask 4 4 &&& ~~~ctlUnsupported (gp g) 0x100 = fldMask 4 4 := by
    rw [ctlUnsupported, if_neg (by decide)]
    decide
  have hact : ((0 : Word) ||| (fset 0 4 4 1 &&& fldMask 4 4 &&& fldMask 4 4)) = 16#32 := by decide
  simp only [writeOut, rowsAt_pwrCtl, List.foldl_cons, List.foldl_nil, hmask]
  rw [writeRow_of_not_written (r := markWakeRow) (by decide), writeRow_of_not_written (r := autoEnRow) (by decide),
    writeRow_of_not_written (r := wakeHoldRow) (by decide), writeRow_of_not_written (r := reqRow) (by decide),
    writeRow, if_neg (by decide)]
  simp only [wakeNowRow, GroupR.PWR_CTL_WAKE_NOW, hact]

/-- The registers that a write of PWR_CTL may store hold no state of a group, and no temperature. -/
theorem State.Frame.pwrCtl {u : State} (h : s.Frame (storeRegs (gp g) 0x100) u) (hr : s.SameRest u) :
    s.KeepsPw u ∧ u.overTemp g = s.overTemp g ∧ u.busyOf (gp g) = s.busyOf (gp g) := by
  have hpw : ∀ k : Grp, pageAddr (gp k) 0x108 ∉ storeRegs (gp g) 0x100 := fun k => by
    simp only [storeRegs, pageAddr, pageNum, List.mem_cons, List.not_mem_nil, or_false]
    omega
  have hover : u.f .therm ThermR.THERM_STAT_OVER = s.f .therm ThermR.THERM_STAT_OVER := h.f (by
    simp only [storeRegs, pageAddr, pageNum, ThermR.THERM_STAT_OVER, List.mem_cons, List.not_mem_nil, or_false]
    omega) (by decide)
  have hkeeps := (State.KeepsPw.refl s).of_frame h hpw hr
  simp only [State.SameRest] at hr
  exact ⟨hkeeps, by rw [State.overTemp, hover, State.overTemp], by simp only [State.busyOf, hr]⟩

/-- PWR_CTL is a register of its own. -/
theorem ownReg_pwrCtl (g : Grp) : ownReg (gp g) 0x100 = true := by
  simp only [ownReg, feedsSum, sideRegs, pageAddr, pageNum, List.mem_cons, List.not_mem_nil, or_false]
  simp
  omega

/-- The effect of a write of PWR_CTL is its group's. -/
theorem State.directEffect_pwrCtl (u : State) (g : Grp) (old act wrote : Word) :
    u.directEffect (gp g) 0x100 old act wrote = u.effGroup g 0x100 act wrote := by
  simp [State.directEffect, State.effect]

/-- A request of REQ, with no other bit written, comes to the group's power requests. -/
theorem State.directEffect_req {u : State} {rq : Nat} (hreq : u.f (gp g) GroupR.PWR_CTL_REQ = rq) (hne : rq ≠ 0) (old : Word) :
    u.directEffect (gp g) 0x100 old 0 (fldMask 1 0 &&& ~~~0) = u.pwRequest g rq 1 true := by
  have hhold : covers (fldMask 1 0 &&& ~~~0) GroupR.PWR_CTL_WAKE_HOLD = false := by decide
  have hcovers : covers (fldMask 1 0 &&& ~~~0) GroupR.PWR_CTL_REQ = true := by decide
  have hact : wbit 0 4 = false := by decide
  rw [State.directEffect_pwrCtl, State.effGroup, if_pos rfl]
  simp only [hhold, hact, Bool.and_false, Bool.false_eq_true, if_false]
  rw [hreq, if_pos ⟨hne, hcovers⟩]
  rfl

/-- Likewise WAKE_NOW to a pulse wake. -/
theorem State.directEffect_wakeNow (u : State) (old : Word) :
    u.directEffect (gp g) 0x100 old 16#32 (fldMask 4 4 &&& ~~~0) = u.pulseWake g 4 := by
  have hhold : covers (fldMask 4 4 &&& ~~~0) GroupR.PWR_CTL_WAKE_HOLD = false := by decide
  have hcovers : covers (fldMask 4 4 &&& ~~~0) GroupR.PWR_CTL_REQ = false := by decide
  have hact : wbit 16#32 4 = true := by decide
  rw [State.directEffect_pwrCtl, State.effGroup, if_pos rfl]
  simp only [hhold, hcovers, hact, Bool.and_false, Bool.false_eq_true, if_false, and_false, if_true]

/-- A request that is taken comes to the group's power requests. -/
theorem State.offerReq_leads {c : Src} {rq : Nat} (h : s.takesF c (gp g) GroupR.PWR_CTL_REQ rq = true) (hrq : rq < 4) (hne : rq ≠ 0) :
    ∃ u : State, s.offerSet c (gp g) GroupR.PWR_CTL_REQ rq = u.pwRequest g rq 1 true ∧ s.KeepsPw u ∧ u.overTemp g = s.overTemp g ∧
      u.busyOf (gp g) = s.busyOf (gp g) := by
  obtain ⟨v, u, -, hlead, hword, hframe, hsame⟩ := State.offerReg_leads h rfl (fun _ => rfl) (ownReg_pwrCtl g)
  have hout := writeOut_req v g hrq
  have hreq : u.f (gp g) GroupR.PWR_CTL_REQ = rq := by
    have hcode : fget (u.rd (pageAddr (gp g) 0x100)) 1 0 = rq := by
      rw [show u.rd (pageAddr (gp g) 0x100) = _ from hword.trans (congrArg WrOut.word hout), fget_fset _ _ _ _ (by decide) (by decide)]
      exact Nat.mod_eq_of_lt hrq
    exact hcode
  refine ⟨u, ?_, hframe.pwrCtl hsame⟩
  rw [State.offerSet, hlead]
  show u.directEffect (gp g) 0x100 _ (writeOut v false (gp g) 0x100 (fset 0 1 0 rq) (fldMask 1 0)).act
    (fldMask 1 0 &&& ~~~(writeOut v false (gp g) 0x100 (fset 0 1 0 rq) (fldMask 1 0)).bad) = _
  rw [hout]
  exact State.directEffect_req hreq hne _

/-- A pulse wake that is taken. -/
theorem State.offerWakeNow_leads {c : Src} (h : s.takesF c (gp g) GroupR.PWR_CTL_WAKE_NOW 1 = true) :
    ∃ u : State, s.offerAct c (gp g) GroupR.PWR_CTL_WAKE_NOW = u.pulseWake g 4 ∧ s.KeepsPw u ∧ u.busyOf (gp g) = s.busyOf (gp g) := by
  obtain ⟨v, u, -, hlead, -, hframe, hsame⟩ := State.offerReg_leads h rfl (fun _ => rfl) (ownReg_pwrCtl g)
  obtain ⟨hkeeps, -, hbusy⟩ := hframe.pwrCtl hsame
  refine ⟨u, ?_, hkeeps, hbusy⟩
  rw [State.offerAct, State.offerSet, hlead]
  show u.directEffect (gp g) 0x100 _ (writeOut v false (gp g) 0x100 (fset 0 4 4 1) (fldMask 4 4)).act
    (fldMask 4 4 &&& ~~~(writeOut v false (gp g) 0x100 (fset 0 4 4 1) (fldMask 4 4)).bad) = _
  rw [writeOut_wakeNow]
  exact u.directEffect_wakeNow _

/-- A pulse wake takes a group out of INTERMISSION (R366). -/
theorem State.pulseWake_begins (h : s.pw g = pwInt) (hbusy : s.busyOf (gp g) = .no) (cause : Nat) : (s.pulseWake g cause).pw g = pwExit := by
  have hfree : (s.busyOf (gp g) == .no) = true := by simp [hbusy]
  rw [State.pulseWake]
  dsimp only
  rw [if_pos h, if_pos hfree]
  exact State.pwBegin_run (.inl h) _ _

end Sys2Proof.Machine
end

section
/-!
SUPPORT. The way to DARK (R370): what it brings down leaves the device on that way.
-/
namespace Sys2Proof.Machine

variable {s t u : State}

/-! ### Power requests keep the device (R361, R363, R367) -/

theorem State.forAll_device {α : Type} {f : α → State → State} (hf : ∀ a (u : State), (f a u).device = u.device) (l : List α) (s : State) :
    (forAll l f s).device = s.device := by
  induction l generalizing s with
  | nil => rfl
  | cons a l ih => exact (ih _).trans (hf a s)

theorem State.pwRequest_device (s : State) (g : Grp) (rq cause : Nat) (byHost : Bool) : (s.pwRequest g rq cause byHost).device = s.device := by
  have hviol : s.KeepsPw (s.viol (gp g) .consistency) := (State.KeepsPw.refl s).viol _ _
  have hpend : s.KeepsPw (s.pwPend g rq cause byHost) := (State.KeepsPw.ite ((State.KeepsPw.refl s).inc _ rfl) (.refl s)).setGrp _ _
  unfold State.pwRequest
  split
  · rfl
  · split
    · exact hviol.2
    · split
      · exact hpend.2
      · split
        · rfl
        · exact s.pwBegin_device g rq cause byHost

theorem State.pwTakePend_device (s : State) (g : Grp) : (s.pwTakePend g).device = s.device := by
  unfold State.pwTakePend
  split
  · rfl
  · dsimp only
    split
    · rfl
    · exact State.pwRequest_device _ g _ _ _

theorem State.levelAct_device (s : State) (g : Grp) : (s.levelAct g).device = s.device := by
  unfold State.levelAct
  split
  · exact s.pwBegin_device g _ _ _
  · rfl

theorem State.pwBusyEnd_device (s : State) (g : Grp) : (s.pwBusyEnd g).device = s.device := by
  unfold State.pwBusyEnd
  split
  · exact (State.levelAct_device _ g).trans (s.pwTakePend_device g)
  · rfl

/-! ### Groups and their migrations -/

theorem State.grpFree_device (s : State) (g : Grp) : (s.grpFree g).device = s.device := by
  have hfree := State.forAll_device (f := fun p u => u.setBusy p .no) (fun _ _ => rfl) (grpPages g) s
  rw [State.grpFree, State.pwBusyEnd_device, (State.settleGrp_keepsPw _ g).2, hfree]

theorem State.unstale_keepsPw (s : State) (k : Nat) : s.KeepsPw (s.unstale k) := by
  unfold State.unstale
  split
  · exact (State.KeepsPw.refl s).modEng _ _
  · exact .refl s

theorem State.migFail_device (s : State) (g : Grp) : (s.migFail g).device = s.device := by
  unfold State.migFail
  extract_lets busy named ended
  have hnamed : s.KeepsPw named := ((State.KeepsPw.refl s).setF _ _ rfl).setF _ _ rfl
  have hended : s.KeepsPw ended := (hnamed.inc _ rfl).trans (State.unstale_keepsPw _ _)
  split
  · exact (ended.grpFree_device g).trans hended.2
  · exact hended.2

theorem State.darkGroup_device (s : State) (g : Grp) : (s.darkGroup g).device = s.device := by
  unfold State.darkGroup
  extract_lets ended record cleared
  have hended : ended.device = s.device := by
    simp only [ended]
    split
    · exact s.migFail_device g
    · rfl
  split
  · exact hended
  · exact (cleared.pwBegin_device g _ _ _).trans hended

/-! ### Ports, engines, scenes, the twin link, sessions and the flash -/

theorem State.portDisable_keepsPw (s : State) (k : Port) : s.KeepsPw (s.portDisable k) := by
  have hlt : (FrameR.PORT_CTL_EN k.val).off < 4096 := by
    simp only [FrameR.PORT_CTL_EN]
    omega
  have hoff : offPw .frame (FrameR.PORT_CTL_EN k.val).off = true := by simp [offPw, hlt]
  unfold State.portDisable
  extract_lets closed dropped h n
  have hdropped : s.KeepsPw dropped := ((State.KeepsPw.refl s).setF _ _ hoff).foldl _ fun e _ u => u.txDone_keepsPw k _ _ _
  exact hdropped.foldl _ fun i _ u => u.txDone_keepsPw k _ _ _

theorem State.holdBegun_keepsPw (s : State) (g : Grp) : s.KeepsPw (s.holdBegun g) := by
  unfold State.holdBegun State.holdRot State.calSettle
  have hrot := (State.KeepsPw.refl s).forAll (f := fun p u => if u.inHold (pp p) then u.rotAbandon p 2 else u) (grpPaths g)
    fun p u => .ite (u.rotAbandon_keepsPw p 2) (.refl u)
  exact hrot.trans (.ite (State.calAbandon_keepsPw _ g true) (.refl _))

theorem State.emptyCmdq_keepsPw (s : State) (e : Eng) : s.KeepsPw (s.emptyCmdq e) :=
  ((State.KeepsPw.refl s).setEng _ _).setF (ep e) (x := StageR.CMDQ_STAT_DISCARDED) _ rfl

theorem State.engStopNow_keepsPw (s : State) (e : Eng) : s.KeepsPw (s.engStopNow e) := by
  refine .ite ?_ (.refl s)
  unfold State.engHalt
  extract_lets ran own stopped
  have hstopped : s.KeepsPw stopped := ((s.releaseLong_keepsPw e).trans (State.emptyCmdq_keepsPw _ e)).setF (ep e) _ rfl
  clear_value stopped own
  cases own with
  | none => exact hstopped
  | some g => exact .ite ((hstopped.raise _ _).trans (State.holdBegun_keepsPw _ g)) hstopped

theorem State.scenesClear_keepsPw (s : State) : s.KeepsPw s.scenesClear := by
  unfold State.scenesClear
  extract_lets cut keep record emptied
  have hemptied : s.KeepsPw emptied := (State.KeepsPw.refl s).of_regs rfl rfl
  exact .ite (hemptied.setF _ _ rfl) hemptied

theorem State.scenesDark_keepsPw (s : State) : s.KeepsPw s.scenesDark :=
  State.KeepsPw.rstRange (s.scenesClear_keepsPw.of_regs rfl rfl) _ _ _ (by simp) (by decide)

theorem State.setSrc_keepsPw (s : State) (v : Nat) : s.KeepsPw (s.setSrc v) := by
  have hsrc : s.KeepsPw (s.setF .time TimeR.TIME_CTL_SRC v) := (State.KeepsPw.refl s).setF _ _ rfl
  unfold State.setSrc State.srcChange State.holdoverEnd
  exact .ite (.refl s) (.ite (.ite (((hsrc.setF _ _ rfl).setF _ _ rfl).raise _ _) hsrc) hsrc)

theorem State.KeepsPw.modTwin (h : s.KeepsPw t) (f : TwinSt → TwinSt) : s.KeepsPw (t.modTwin f) := h.of_regs rfl rfl

theorem State.leaveFollow_keepsPw (s : State) : s.KeepsPw s.leaveFollow :=
  ((State.KeepsPw.refl s).setF .twin (x := TwinR.TT_STAT_LOCKED) 0 rfl).trans (State.setSrc_keepsPw _ _)

theorem State.setSd_keepsPw (s : State) (v : Nat) : s.KeepsPw (s.setSd v) := by
  have hset : s.KeepsPw (s.setF .twin TwinR.SD_STAT_SD_STATE v) := (State.KeepsPw.refl s).setF _ _ rfl
  exact .ite (hset.modTwin _) hset

theorem State.twinStop_keepsPw (s : State) : s.KeepsPw s.twinStop := by
  unfold State.twinStop
  extract_lets alone
  have halone : s.KeepsPw alone := (State.KeepsPw.ite s.leaveFollow_keepsPw (.refl s)).trans (State.setSd_keepsPw _ 0)
  exact (((halone.wr _ _ _ rfl).wr _ _ _ rfl).setF _ _ rfl).modTwin _

theorem State.sessDrop_keepsPw (s : State) (f : SessSt → Bool) : s.KeepsPw (s.sessDrop f) := by
  have hdropped : s.KeepsPw (s.modSec (fun x => { x with sessions := x.sessions.filter (fun e => !f e) })) :=
    (State.KeepsPw.refl s).setSecurity _
  exact hdropped.foldl _ fun e _ u => (State.KeepsPw.refl u).of_regs rfl rfl

theorem State.flashHostDrop_keepsPw (s : State) : s.KeepsPw s.flashHostDrop := by
  unfold State.flashHostDrop
  extract_lets isHost host dropped
  have hdropped : s.KeepsPw dropped := (State.KeepsPw.refl s).modFlash _
  exact .ite (hdropped.trans (State.hostEnd_keepsPw _ 5)) hdropped

/-! ### DARK (R71, R370) -/

theorem State.toDevice_device (s : State) (d : Device) : (s.toDevice d).device = d := by
  obtain ⟨-, -, hrest⟩ := State.attnUpdate_spec { s with device := d } s.attnView
  simp only [State.SameRest] at hrest
  simp only [State.toDevice, State.withEvt, hrest]

/-- The entry sequence leaves the device on its way to DARK. -/
theorem State.darkEnter_device (s : State) : s.darkEnter.device = .enteringDark := by
  unfold State.darkEnter
  extract_lets entering ports groups engines sessions
  have hports : ports.device = .enteringDark :=
    (State.forAll_device (fun k u => (u.portDisable_keepsPw k).2) _ _).trans (s.toDevice_device _)
  have hgroups : groups.device = .enteringDark := (State.forAll_device (fun g u => u.darkGroup_device g) _ _).trans hports
  have hengines : engines.device = .enteringDark := (State.forAll_device (fun e u => (u.engStopNow_keepsPw e).2) _ _).trans hgroups
  have hsessions : engines.KeepsPw sessions :=
    (engines.scenesDark_keepsPw.trans (State.twinStop_keepsPw _)).trans (State.sessDrop_keepsPw _ _)
  exact (hsessions.trans sessions.flashHostDrop_keepsPw).2.trans hengines

/-- The fields of DEV_CTL. -/
def darkKeyRow : Row := { fld := PstateR.DEV_CTL_KEY, acc := .rw, rst := 0x0 }
def darkRow : Row := { fld := PstateR.DEV_CTL_DARK, acc := .w1s, rst := 0x0 }

theorem rowsAt_devCtl : rowsAt .pstate 0x040 = [darkKeyRow, darkRow] := by decide +kernel

/-- A 1 written to DARK is an action. -/
theorem writeOut_dark (v : Nat → Word) : (writeOut v false .pstate 0x040 0xDA01 allOnes).act = 1#32 := by
  have hmask : allOnes &&& ~~~ctlUnsupported .pstate 0x040 = allOnes := by decide
  simp only [writeOut, rowsAt_devCtl, List.foldl_cons, List.foldl_nil, hmask]
  rw [writeRow_rw_legal (r := darkKeyRow) rfl (by decide) (by decide) (fieldLegal_of_legalCode rfl (by decide)), writeRow, if_neg (by decide)]
  show (0 : Word) ||| (0xDA01 &&& allOnes &&& fldMask 0 0) = 1#32
  decide

/-- A taken request for DARK begins the entry sequence. -/
theorem State.offerDark_enters {c : Src} (h : s.takes c .pstate 0x040 0xDA01 allOnes = true) :
    (s.offerReg c .pstate 0x040 0xDA01 allOnes).device = .enteringDark := by
  obtain ⟨v, u, -, hlead, -, -, hsame⟩ := State.offerReg_leads h (by decide) (fun _ => rfl) (by decide)
  have hrun : (s.device == .ready || s.device == .starting) = true := by
    simp only [State.takes, State.regShut, State.closedToAll, Bool.and_eq_true, Bool.not_eq_true', Bool.or_eq_false_iff] at h
    obtain ⟨⟨⟨⟨⟨⟨-, hdev⟩, -⟩, -⟩, -⟩, -⟩, -⟩ := h
    simpa only [Bool.not_eq_false'] using hdev
  have hdev : u.device = s.device := by
    simp only [State.SameRest] at hsame
    simp only [hsame]
  have hask : u.directEffect .pstate 0x040 (s.rd (pageAddr .pstate 0x040)) 1#32
      (allOnes &&& ~~~(writeOut v false .pstate 0x040 0xDA01 allOnes).bad) = u.darkAsk := rfl
  rw [hlead, writeOut_dark, hask, State.darkAsk, hdev, if_pos hrun]
  exact State.darkEnter_device _

theorem State.darkReached_dark (hdev : s.device = .enteringDark) (hoff : allGroups.all (fun g => s.pw g == pwOff) = true)
    (hrun : s.flash.run = none) (hqueue : s.flash.queue = []) : s.darkReached.device = .dark := by
  rw [State.darkReached, if_pos (by simp only [hdev, hoff, hrun, hqueue]; rfl)]
  exact State.toDevice_device _ _

theorem State.darkWake_resets (hdev : s.device = .dark) (porst : Bool) : (s.darkWake porst).device = .fullReset := by
  rw [State.darkWake, if_neg (by simp [hdev])]
  extract_lets railed
  cases porst with
  | true => exact (State.fullResetWith_lands _ _).1
  | false =>
    have hreset := (State.fullResetWith_lands railed 5).1
    simpa [State.inc, State.add] using hreset

end Sys2Proof.Machine

open Sys2Proof Sys2Proof.Machine

/-- Settles O23: what each command leads to, under the hypotheses of its clause. -/
theorem powerStateCommandsComplete : Obligations.PowerStateCommandsComplete := by
  refine ⟨fun c g s h hcool hbusy hst => ?_, fun c g s h hcool hbusy hst => ?_, fun c g s h hbusy hst => ?_,
    fun g s hmoving hpend htarget hready => ⟨_, rfl, State.transEnd_off hmoving hpend htarget hready⟩,
    fun g s hrun hpend hauto hhold hbusy hidle hready hcool =>
      ⟨_, rfl, State.idleExpiry_enters hrun hpend hauto hhold hbusy hidle hready hcool⟩,
    fun c g s h hst hbusy => ?_, fun c s h => ⟨_, rfl, State.offerDark_enters h⟩,
    fun s hdev hoff hrun hqueue => ⟨_, rfl, State.darkReached_dark hdev hoff hrun hqueue⟩,
    fun porst s hdev => ⟨_, rfl, State.darkWake_resets hdev porst⟩⟩
  · obtain ⟨u, hlead, hkeeps, hover, hsame⟩ := State.offerReq_leads h (by decide) (by decide)
    have hpw := hkeeps.pw g
    have hrest : u.pw g = pwInt ∨ u.pw g = pwOff := by rwa [hpw]
    refine ⟨_, congrArg Host.Outcome.next hlead, ?_⟩
    rw [State.pwRequest_begins (by decide) (fun _ => hover.trans hcool) (by rcases hrest with h | h <;> rw [h] <;> decide)
      (hsame.trans hbusy) (by rcases hrest with h | h <;> rw [h] <;> decide)]
    exact State.pwBegin_run hrest _ _
  · obtain ⟨u, hlead, hkeeps, hover, hsame⟩ := State.offerReq_leads h (by decide) (by decide)
    have hrest : u.pw g = pwRun := (hkeeps.pw g).trans hst
    refine ⟨_, congrArg Host.Outcome.next hlead, ?_⟩
    rw [State.pwRequest_begins (by decide) (fun _ => hover.trans hcool) (by rw [hrest]; decide) (hsame.trans hbusy)
      (by rw [hrest]; decide)]
    exact State.pwBegin_fromRun hrest _ _ _
  · obtain ⟨u, hlead, hkeeps, -, hsame⟩ := State.offerReq_leads h (by decide) (by decide)
    have hrest : u.pw g = pwRun ∨ u.pw g = pwInt := by rwa [hkeeps.pw g]
    refine ⟨_, congrArg Host.Outcome.next hlead, ?_⟩
    rw [State.pwRequest_begins (by decide) (fun hne => absurd rfl hne) (by rcases hrest with h | h <;> rw [h] <;> decide)
      (hsame.trans hbusy) (by rcases hrest with h | h <;> rw [h] <;> decide)]
    rcases hrest with hrest | hrest
    · exact State.pwBegin_fromRun hrest _ _ _
    · exact State.pwBegin_intToOff hrest _ _
  · obtain ⟨u, hlead, hkeeps, hsame⟩ := State.offerWakeNow_leads h
    exact ⟨_, congrArg Host.Outcome.next hlead, State.pulseWake_begins ((hkeeps.pw g).trans hst) (hsame.trans hbusy) 4⟩

end

section
/-!
SUPPORT. Page mode and a swap that is due. In page mode loss of clock recovery follows the signal alone (R117), and a swap that is due at a
beat boundary comes before the next rotation (R92). The statements that CDR_LOCK_LOSS and ROTATION_START complete ask for neither.
-/
namespace Sys2Proof.Machine

/-! ### Page mode (R117) -/

/-- In page mode clock recovery loses lock with the signal only (R117). -/
theorem State.lockLoss_of_pageMode {s : State} {p : Path} (h : s.sg p = sgRelay) (cut : Bool) : s.lockLoss p cut = s := by
  simp [State.lockLoss, h]

/-- A ready module whose path 9 relays auto-negotiation pages, and has locked to one. -/
def lockedToPages : State := (upP 9).segSet 9 sgRelay

theorem lockedToPages_meets : lockedToPages.lock 9 = true ∧ lockedToPages.sg 9 = sgRelay := by decide +kernel

/-! ### A swap that is due (R92, R97) -/

/-- A ready module whose path 0 is in a sweep: the swap of phase 0 waits for its beat boundary. -/
def swapIsDue : State :=
  ((upP 0).setF (pp 0) PathR.SWING_STAT_ROT_STATE 3).modPath 0 (fun x => { x with sweep := true })

theorem swapIsDue_meets : swapIsDue.scanning 0 = false ∧ swapIsDue.rotAllowed 0 = true ∧
    swapIsDue.swingFree 0 (1 - (swapIsDue.path 0).rotSlot) = true := by decide +kernel

/-- The sweep stands at phase 0; once the swap is made, the rotation that starts is of phase 1. -/
theorem swapIsDue_starts : (swapIsDue.path 0).sweepNext % 32 = 0 ∧
    (swapIsDue.rotBegin 0).f (pp 0) PathR.SWING_STAT_ROT_PHASE = 1 := by decide +kernel

end Sys2Proof.Machine

open Sys2Proof Sys2Proof.Machine

/-- Refutes O4: its clause of CDR_LOCK_LOSS does not ask that the path be outside page mode, where lock is lost with the signal only
(R117). -/
theorem not_pllAndLockCommandsComplete : ¬ Obligations.PllAndLockCommandsComplete := by
  intro ⟨_, _, _, _, _, hloss⟩
  obtain ⟨hlock, hpages⟩ := lockedToPages_meets
  obtain ⟨t, ht, hlost⟩ := hloss 9 false lockedToPages hlock
  have hsame : t = lockedToPages := (Host.Outcome.next.inj ht).symm.trans (State.lockLoss_of_pageMode hpages false)
  rw [hsame, hlock] at hlost
  exact absurd hlost (by decide)

/-- Refutes O5: its clause of ROTATION_START does not ask that no swap be due. A swap that is due comes first, and the rotation that starts
then is of the phase after (R92, R97). -/
theorem not_swingCommandsComplete : ¬ Obligations.SwingCommandsComplete := by
  intro ⟨_, hstart, _⟩
  obtain ⟨hscan, hallowed, hfree⟩ := swapIsDue_meets
  obtain ⟨hnext, hphase⟩ := swapIsDue_starts
  obtain ⟨t, ht, -, hsweep, -⟩ := hstart 0 swapIsDue hscan hallowed hfree
  have hbegun : t = swapIsDue.rotBegin 0 := (Host.Outcome.next.inj ht).symm.trans (if_neg (by simp [hscan]))
  rw [hbegun, hphase, hnext] at hsweep
  exact absurd hsweep (by decide)

end

section
/-!
SUPPORT. The frame of the commands of one path. Such a command touches listed registers, what an event or a violation brings with it, and
parts of the state that are kept by path. Which parts is a choice (`LaneParts`), so that what a command leaves alone is said once for them
all (`State.LaneTouches`), with a rule for each operation that such a command is made of (chapters 04 to 07).
-/
namespace Sys2Proof.Machine

/-- The parts of the state that a command of a path may touch beside registers: the records of the paths, their running counters, and the
count of free values. -/
structure LaneParts where
  paths : Bool := false
  ctrs : Bool := false
  free : Bool := false

/-- `s` with the chosen parts of `t`. -/
def State.withLanes (P : LaneParts) (s t : State) : State :=
  { s with
    paths := bif P.paths then t.paths else s.paths
    ctrs := bif P.ctrs then t.ctrs else s.ctrs
    free := bif P.free then t.free else s.free }

/-- `t` has what `s` has, but for the registers at `l`, what an event or a violation brings with it, and the chosen parts; and no path but
those of `qs` has another record. -/
def State.LaneTouches (P : LaneParts) (qs : List Path) (l : List Nat) (s t : State) : Prop :=
  s.Frame l t ∧ (s.withLanes P t).SameRest t ∧ ∀ q, q ∉ qs → t.path q = s.path q

variable {P : LaneParts} {qs : List Path} {l m : List Nat} {offs more : List Nat} {g : Page} {p : Path} {s t u : State}

/-! ### Addresses -/

theorem mem_regsOf {off : Nat} (h : off ∈ offs) : pageAddr g off ∈ regsOf g offs := List.mem_map_of_mem h

theorem regsOf_mono (h : ∀ o ∈ offs, o ∈ more) : ∀ a ∈ regsOf g offs, a ∈ regsOf g more := by
  intro a ha
  obtain ⟨o, ho, rfl⟩ := List.mem_map.1 ha
  exact mem_regsOf (h o ho)

/-- An event or a violation brings no register of a path with it. -/
theorem pageAddr_path_not_side (p : Path) (off : Nat) : pageAddr (pp p) off ∉ sideRegs := by
  simp only [pageAddr, pageNum, sideRegs, List.mem_cons, List.not_mem_nil, or_false]
  omega

/-- A code of a field is below the field's size. -/
theorem State.f_lt (s : State) (q : Page) (x : Fld) : s.f q x < 2 ^ (x.hi + 1 - x.lo) := Nat.mod_lt _ (by positivity)

/-! ### Rules -/

/-- What touches registers alone. -/
theorem State.LaneTouches.of_touches (h : s.Touches l t) : s.LaneTouches P qs l t := by
  obtain ⟨hf, hr⟩ := h
  simp only [State.SameRest] at hr
  refine ⟨hf, ?_, fun q _ => by simp only [State.path, hr]⟩
  simp [State.SameRest, State.withLanes, hr]

theorem State.LaneTouches.refl (P : LaneParts) (qs : List Path) (l : List Nat) (s : State) : s.LaneTouches P qs l s :=
  .of_touches (State.Touches.refl l s)

theorem State.LaneTouches.trans (h : s.LaneTouches P qs l t) (k : t.LaneTouches P qs l u) : s.LaneTouches P qs l u := by
  obtain ⟨hf, hr, hq⟩ := h
  obtain ⟨kf, kr, kq⟩ := k
  refine ⟨hf.trans kf, ?_, fun q hmem => (kq q hmem).trans (hq q hmem)⟩
  simp only [State.SameRest, State.withLanes] at hr kr ⊢
  grind

theorem State.LaneTouches.mono (h : s.LaneTouches P qs l t) (k : ∀ a ∈ l, a ∈ m) : s.LaneTouches P qs m t := ⟨h.1.mono k, h.2⟩

/-- Further registers of the same page. -/
theorem State.LaneTouches.widen (h : s.LaneTouches P qs (regsOf g offs) t) (k : ∀ o ∈ offs, o ∈ more) :
    s.LaneTouches P qs (regsOf g more) t := h.mono (regsOf_mono k)

theorem State.LaneTouches.ite {c : Prop} [Decidable c] (h : s.LaneTouches P qs l t) (k : s.LaneTouches P qs l u) :
    s.LaneTouches P qs l (if c then t else u) := by split <;> assumption

theorem State.LaneTouches.foldl {α : Type} {f : State → α → State} (h : s.LaneTouches P qs l t) (as : List α)
    (hf : ∀ a ∈ as, ∀ v : State, v.LaneTouches P qs l (f v a)) : s.LaneTouches P qs l (as.foldl f t) := by
  induction as generalizing t with
  | nil => exact h
  | cons a as ih => exact ih (h.trans (hf a List.mem_cons_self t)) fun b hb => hf b (List.mem_cons_of_mem _ hb)

theorem State.LaneTouches.setF (h : s.LaneTouches P qs (regsOf g offs) t) {x : Fld} (v : Nat) (k : x.off ∈ offs) :
    s.LaneTouches P qs (regsOf g offs) (t.setF g x v) := h.trans (.of_touches ((State.Touches.refl _ t).setF v (mem_regsOf k)))

theorem State.LaneTouches.setB (h : s.LaneTouches P qs (regsOf g offs) t) {x : Fld} (b : Bool) (k : x.off ∈ offs) :
    s.LaneTouches P qs (regsOf g offs) (t.setB g x b) := h.setF _ k

theorem State.LaneTouches.setS (h : s.LaneTouches P qs (regsOf g offs) t) {x : Fld} (i : Int) (k : x.off ∈ offs) :
    s.LaneTouches P qs (regsOf g offs) (t.setS g x i) := h.setF _ k

theorem State.LaneTouches.inc (h : s.LaneTouches P qs (regsOf g offs) t) {x : Fld} (k : x.off ∈ offs) :
    s.LaneTouches P qs (regsOf g offs) (t.inc g x) := h.setF _ k

theorem State.LaneTouches.raise (h : s.LaneTouches P qs (regsOf g offs) t) (bit : Nat) (k : 0x010 ∈ offs) :
    s.LaneTouches P qs (regsOf g offs) (t.raise g bit) := h.trans (.of_touches ((State.Touches.refl _ t).raise bit (mem_regsOf k)))

theorem State.LaneTouches.raiseIf (h : s.LaneTouches P qs (regsOf g offs) t) (b : Bool) (bit : Nat) (k : 0x010 ∈ offs) :
    s.LaneTouches P qs (regsOf g offs) (t.raiseIf b g bit) := .ite (h.raise bit k) h

theorem State.LaneTouches.violIf (h : s.LaneTouches P qs (regsOf g offs) t) (b : Bool) (v : Viol) (k : (violFld v).off ∈ offs) :
    s.LaneTouches P qs (regsOf g offs) (t.violIf b g v) :=
  h.trans (.of_touches ⟨(State.Frame.refl t _).violIf b g v (mem_regsOf k), (State.SameRest.refl t).violIf b g v⟩)

/-- A change of chosen parts alone, and of the records of chosen paths. -/
theorem State.LaneTouches.parts (h : s.LaneTouches P qs l t) (hu : t.withLanes P u = u) (hq : ∀ q, q ∉ qs → u.path q = t.path q) :
    s.LaneTouches P qs l u := by
  refine h.trans ⟨(State.Frame.refl t l).of_eq ?_ ?_, ?_, hq⟩
  · rw [← hu]; rfl
  · rw [← hu]; rfl
  · rw [hu]; exact .refl u

theorem State.LaneTouches.setPath (h : s.LaneTouches P qs l t) (v : PathSt) (hP : P.paths = true) (hp : p ∈ qs) :
    s.LaneTouches P qs l (t.setPath p v) :=
  h.parts (by simp [State.withLanes, State.setPath, hP]) fun q hq => t.path_setPath_ne p q v (by rintro rfl; exact hq hp)

theorem State.LaneTouches.modPath (h : s.LaneTouches P qs l t) (f : PathSt → PathSt) (hP : P.paths = true) (hp : p ∈ qs) :
    s.LaneTouches P qs l (t.modPath p f) := h.setPath _ hP hp

theorem State.LaneTouches.setSeg (h : s.LaneTouches P qs l t) (v : SegSt) (hP : P.paths = true) (hp : p ∈ qs) :
    s.LaneTouches P qs l (t.setSeg p v) := h.setPath _ hP hp

theorem State.LaneTouches.modSeg (h : s.LaneTouches P qs l t) (f : SegSt → SegSt) (hP : P.paths = true) (hp : p ∈ qs) :
    s.LaneTouches P qs l (t.modSeg p f) := h.setPath _ hP hp

theorem State.LaneTouches.addCtr (h : s.LaneTouches P qs l t) (q : Path) (i n : Nat) (hC : P.ctrs = true) :
    s.LaneTouches P qs l (t.addCtr q i n) := h.parts (by simp [State.withLanes, State.addCtr, State.setCtr, hC]) fun _ _ => rfl

theorem State.LaneTouches.draw (h : s.LaneTouches P qs l t) (hF : P.free = true) : s.LaneTouches P qs l t.draw.2 :=
  h.parts (by simp [State.withLanes, State.draw, hF]) fun _ _ => rfl

/-- What a command that touches the record of one path leaves alone. -/
theorem State.LaneTouches.one (h : s.LaneTouches P [p] l t) :
    s.Frame l t ∧ (s.withLanes P t).SameRest t ∧ ∀ q, q ≠ p → t.path q = s.path q :=
  ⟨h.1, h.2.1, fun q hq => h.2.2 q (by simpa using hq)⟩

/-- What a command that touches the records of the two paths of a lane pair leaves alone. -/
theorem State.LaneTouches.pair (h : s.LaneTouches P [p, otherPath p] l t) :
    s.Frame l t ∧ (s.withLanes P t).SameRest t ∧ ∀ q, q ≠ p → q ≠ otherPath p → t.path q = s.path q :=
  ⟨h.1, h.2.1, fun q hq ho => h.2.2 q (by simpa using ⟨hq, ho⟩)⟩

/-- What a command that touches no record leaves alone. -/
theorem State.LaneTouches.none (h : s.LaneTouches {} [] l t) : s.Frame l t ∧ s.SameRest t := ⟨h.1, h.2.1⟩

end Sys2Proof.Machine

end

section
/-!
SUPPORT. The operations of the commands of one path, each with the registers of the path's page that it touches (chapters 04 to 07).
-/
namespace Sys2Proof.Machine

variable {P : LaneParts} {qs : List Path} {l : List Nat} {p : Path} {s : State}

/-! ### Adaptation (R100) -/

/-- The registers of the adaptation loops: RX_CTLE, the FFE taps, DFE_TAP and RX_LVL. -/
def adaptOffs : List Nat :=
  [0x040, 0x100, 0x104, 0x108, 0x10C, 0x110, 0x114, 0x118, 0x11C, 0x120, 0x124, 0x128, 0x12C, 0x130, 0x134, 0x138, 0x13C, 0x140, 0x144]

/-- Tap `k` of the FFE has its place among them. -/
theorem ffeTap_mem_adaptOffs : ∀ k < 32,
    (if k % 2 = 0 then PathR.FFE_TAP_LO (k / 2) else PathR.FFE_TAP_HI (k / 2)).off ∈ adaptOffs := by decide

theorem State.ffeSteps_touches (s : State) (steps : List (Option Bool)) :
    s.LaneTouches P qs (regsOf (pp p) adaptOffs) (s.ffeSteps p steps) := by
  unfold State.ffeSteps
  refine .foldl (.refl P qs _ s) _ fun e he u => ?_
  have hk : e.1 < 32 := List.mem_range.1 (List.of_mem_zip he).1
  cases e.2 with
  | none => exact .refl P qs _ u
  | some up => exact (State.LaneTouches.refl P qs _ u).setF _ (ffeTap_mem_adaptOffs e.1 hk)

theorem State.searchStep_touches (s : State) (loop : Loop) {x : Fld} (top : Nat) (st : Option Bool) (hx : x.off ∈ adaptOffs) :
    s.LaneTouches P qs (regsOf (pp p) adaptOffs) (s.searchStep p loop x top st) := by
  unfold State.searchStep
  exact .ite (.refl P qs _ s) ((State.LaneTouches.refl P qs _ s).setF _ hx)

theorem State.adapt_touches (s : State) (v : AdaptVal) : s.LaneTouches P qs (regsOf (pp p) adaptOffs) (s.adapt p v) := by
  have h := State.LaneTouches.refl P qs (regsOf (pp p) adaptOffs) s
  cases v with
  | ctle peak pole vga =>
    exact ((s.searchStep_touches _ _ _ (by decide)).trans (State.searchStep_touches _ _ _ _ (by decide))).trans
      (State.searchStep_touches _ _ _ _ (by decide))
  | ffe steps => exact .ite h (s.ffeSteps_touches steps)
  | dfe st =>
    cases st with
    | none => exact h
    | some up => exact .ite h (h.setF _ (by decide))
  | levels l3 l2 l1 l0 =>
    exact .ite h ((((h.setF _ (by decide)).setF _ (by decide)).setF _ (by decide)).setF _ (by decide))

/-! ### Counts and checks that keep the path's record (R138, R141, R195) -/

theorem State.timeout_touches (hinit : s.sg p ≠ sgInit) (hexch : s.sg p ≠ sgExch) :
    s.LaneTouches P qs (regsOf (pp p) [0x010, 0x224]) (s.timeout p) := by
  have h := State.LaneTouches.refl P qs (regsOf (pp p) [0x010, 0x224]) s
  unfold State.timeout
  dsimp only
  rw [if_neg (c := (s.sg p == sgInit || s.sg p == sgExch) = true) (by simp [hinit, hexch])]
  exact .ite h (.ite ((h.setF _ (by decide)).raise _ (by decide)) h)

theorem State.ignoredCount_touches (s : State) : s.LaneTouches P qs (regsOf (pp p) [0x23C]) (s.ignoredCount p) := by
  have h := State.LaneTouches.refl P qs (regsOf (pp p) [0x23C]) s
  unfold State.ignoredCount
  exact .ite (h.inc (by decide)) h

theorem State.prbsLock_touches (s : State) : s.LaneTouches P qs (regsOf (pp p) [0x010, 0x3F8]) (s.prbsLock p) := by
  have h := State.LaneTouches.refl P qs (regsOf (pp p) [0x010, 0x3F8]) s
  unfold State.prbsLock
  exact .ite ((h.setF _ (by decide)).raise _ (by decide)) h

theorem State.prbsLose_touches (s : State) (bits errs : Nat) (hC : P.ctrs = true) :
    s.LaneTouches P qs (regsOf (pp p) [0x3F8]) (s.prbsLose p bits errs) := by
  have h := State.LaneTouches.refl P qs (regsOf (pp p) [0x3F8]) s
  unfold State.prbsLose
  exact .ite (((h.addCtr _ _ _ hC).addCtr _ _ _ hC).setF _ (by decide)) h

theorem State.matchEnd_touches (s : State) (ofs gain skew : Byte) :
    s.LaneTouches P qs (regsOf (pp p) [0x010, 0x0A0, 0x0AC]) (s.matchEnd p ofs gain skew) := by
  have h := State.LaneTouches.refl P qs (regsOf (pp p) [0x010, 0x0A0, 0x0AC]) s
  unfold State.matchEnd
  extract_lets shown
  have hshown : s.LaneTouches P qs (regsOf (pp p) [0x010, 0x0A0, 0x0AC]) shown :=
    ((h.setF _ (by decide)).setF _ (by decide)).setF _ (by decide)
  exact .ite h (.ite (hshown.setF _ (by decide)) (.ite hshown ((hshown.setF _ (by decide)).raise _ (by decide))))

section
variable (hP : P.paths = true) (hp : p ∈ qs)
include hP hp

/-! ### Rotation (R92 to R97) -/

/-- The registers of a swap: ADC_MAP and SWING_STAT. -/
def swapOffs : List Nat := [0x080, 0x084, 0x088, 0x08C, 0x090, 0x094, 0x098, 0x09C, 0x0A0]

omit hP hp in
/-- Each phase has its field in ADC_MAP. -/
theorem mapFld_mem_swapOffs : ∀ ph < 32, (mapFld ph).off ∈ swapOffs := by decide

omit hP hp in
theorem swFld_off (i : Nat) : (swFld i).off = 0x0A0 := by
  unfold swFld
  split <;> rfl

theorem State.sweepBegin_touches (s : State) : s.LaneTouches P qs l (s.sweepBegin p) := by
  unfold State.sweepBegin
  exact .ite (.refl P qs l s) ((State.LaneTouches.refl P qs l s).modPath _ hP hp)

theorem State.rotSwap_touches (s : State) : s.LaneTouches P qs (regsOf (pp p) swapOffs) (s.rotSwap p) := by
  unfold State.rotSwap State.sweepStep State.rotRest
  extract_lets ph slot old fed released
  have hph : ph < 32 := s.f_lt _ _
  have hfed : s.LaneTouches P qs (regsOf (pp p) swapOffs) fed :=
    ((State.LaneTouches.refl P qs _ s).setF _ (mapFld_mem_swapOffs ph hph)).setF _ (by rw [swFld_off]; decide)
  exact ((hfed.modPath _ hP hp).modPath _ hP hp).setF _ (by decide)

theorem State.rotBegin_touches (s : State) : s.LaneTouches P qs (regsOf (pp p) swapOffs) (s.rotBegin p) := by
  have hswap : s.LaneTouches P qs (regsOf (pp p) swapOffs) (s.swapNow p) := .ite (s.rotSwap_touches hP hp) (.refl P qs _ s)
  unfold State.rotBegin State.rotStart
  generalize s.swapNow p = u at *
  exact .ite (((hswap.modPath _ hP hp).setF _ (by decide)).setF _ (by decide)) hswap

/-! ### Requests (R123, R126) -/

theorem State.reqAnswered_touches (s : State) : s.LaneTouches P qs (regsOf (pp p) [0x238]) (s.reqAnswered p) := by
  have h := State.LaneTouches.refl P qs (regsOf (pp p) [0x238]) s
  unfold State.reqAnswered
  split
  · exact h
  · exact .ite h ((h.modSeg _ hP hp).inc (by decide))

theorem State.reqNoAnswer_touches (s : State) : s.LaneTouches P qs (regsOf (pp p) [0x23C]) (s.reqNoAnswer p) := by
  have h := State.LaneTouches.refl P qs (regsOf (pp p) [0x23C]) s
  unfold State.reqNoAnswer
  exact .ite ((h.modSeg _ hP hp).inc (by decide)) h

/-! ### Pinning (R152 to R166) -/

theorem State.newWindow_touches (s : State) : s.LaneTouches P qs l (s.newWindow p) :=
  (State.LaneTouches.refl P qs l s).modPath _ hP hp

theorem State.pinTo_touches (s : State) (st : Nat) : s.LaneTouches P qs (regsOf (pp p) [0x2C8]) (s.pinTo p st) :=
  ((State.LaneTouches.refl P qs _ s).setF _ (by decide)).modPath _ hP hp

/-- The registers that entering LOST may touch: EVT_RAW, PIN_STAT and PIN_CNT. -/
def lostOffs : List Nat := [0x010, 0x2C8, 0x2EC]

theorem State.enterLost_touches (s : State) (cause : Nat) : s.LaneTouches P qs (regsOf (pp p) lostOffs) (s.enterLost p cause) :=
  (((((s.pinTo_touches hP hp _).widen (by decide)).setF _ (by decide)).inc (by decide)).raise _ (by decide))

theorem State.windowInvalid_touches (s : State) : s.LaneTouches P qs (regsOf (pp p) lostOffs) (s.windowInvalid p) := by
  unfold State.windowInvalid
  extract_lets ended
  have hended : s.LaneTouches P qs (regsOf (pp p) lostOffs) ended :=
    ((State.LaneTouches.refl P qs _ s).modPath _ hP hp).trans (State.newWindow_touches hP hp _)
  exact .ite (hended.trans (ended.enterLost_touches hP hp 3)) hended

theorem State.probeSample_touches (s : State) (lat : Nat) : s.LaneTouches P qs (regsOf (pp p) lostOffs) (s.probeSample p lat) := by
  have h := State.LaneTouches.refl P qs (regsOf (pp p) lostOffs) s
  unfold State.probeSample
  exact .ite h (.ite (s.windowInvalid_touches hP hp) (h.setPath _ hP hp))

/-- The registers that a move of ADJ may touch: EVT_RAW, PIN_STAT and PIN_ADJ. -/
def adjOffs : List Nat := [0x010, 0x2C8, 0x2D4]

omit hP hp in
theorem State.moveAdj_touches (s : State) (d : Int) : s.LaneTouches P qs (regsOf (pp p) adjOffs) (s.moveAdj p d) := by
  have h := State.LaneTouches.refl P qs (regsOf (pp p) adjOffs) s
  unfold State.moveAdj State.setAdj
  exact .ite h ((((h.setS _ (by decide)).setB _ (by decide)).setB _ (by decide)).raiseIf _ _ (by decide))

theorem State.slewStep_touches (s : State) : s.LaneTouches P qs (regsOf (pp p) adjOffs) (s.slewStep p) := by
  have h := State.LaneTouches.refl P qs (regsOf (pp p) adjOffs) s
  unfold State.slewStep
  exact .ite h ((h.setPath _ hP hp).trans (State.moveAdj_touches _ _))

/-- The registers that the table of R164 may touch: EVT_RAW, PIN_STAT, PIN_CNT and SVC_STAT. -/
def pinOffs : List Nat := [0x010, 0x2C8, 0x2EC, 0x4C4]

theorem State.enterPinned_touches (s : State) : s.LaneTouches P qs (regsOf (pp p) pinOffs) (s.enterPinned p) := by
  unfold State.enterPinned State.toPinned
  have hpinned : s.LaneTouches P qs (regsOf (pp p) pinOffs) ((s.pinTo p pinPinned).setF (pp p) PathR.PIN_STAT_UNV_CAUSE 0) :=
    ((s.pinTo_touches hP hp _).widen (by decide)).setF _ (by decide)
  exact (State.LaneTouches.ite (hpinned.setF _ (by decide)) hpinned).raise _ (by decide)

theorem State.pinStep_touches (s : State) : s.LaneTouches P qs (regsOf (pp p) pinOffs) (s.pinStep p) := by
  have h := State.LaneTouches.refl P qs (regsOf (pp p) pinOffs) s
  have hpinned := s.enterPinned_touches hP hp
  have hlost : ∀ cause, s.LaneTouches P qs (regsOf (pp p) pinOffs) (s.enterLost p cause) := fun cause =>
    (s.enterLost_touches hP hp cause).widen (by decide)
  unfold State.pinStep
  exact .ite (.ite hpinned (.ite (hlost _) h)) (.ite (.ite hpinned (.ite (hlost _) h)) (.ite (.ite (hlost _) h)
    (.ite (.ite hpinned h) (.ite (.ite hpinned (.ite (hlost _) h)) h))))

/-- The registers that the end of a window may touch. -/
def windowOffs : List Nat := [0x010, 0x2C8, 0x2CC, 0x2D0, 0x2D4, 0x2E4, 0x2EC, 0x2F0, 0x4C4]

theorem State.windowEnd_touches (s : State) (fixed : Nat) : s.LaneTouches P qs (regsOf (pp p) windowOffs) (s.windowEnd p fixed) := by
  unfold State.windowEnd
  extract_lets x mean held e good bad shown worst d ended
  have hshown : s.LaneTouches P qs (regsOf (pp p) windowOffs) shown :=
    (((State.LaneTouches.refl P qs _ s).setF _ (by decide)).setS _ (by decide)).setF _ (by decide)
  have hworst : s.LaneTouches P qs (regsOf (pp p) windowOffs) worst := .ite (hshown.setF _ (by decide)) hshown
  have hended : s.LaneTouches P qs (regsOf (pp p) windowOffs) ended :=
    (hworst.trans ((worst.moveAdj_touches d).widen (by decide))).modPath _ hP hp
  exact (hended.trans (ended.newWindow_touches hP hp)).trans ((State.pinStep_touches hP hp _).widen (by decide))

theorem State.probeWindow_touches (s : State) (fixed : Nat) :
    s.LaneTouches P qs (regsOf (pp p) windowOffs) (s.probeWindow p fixed) := by
  unfold State.probeWindow
  exact .ite (.refl P qs _ s) (s.windowEnd_touches hP hp fixed)

/-! ### Training (R111 to R116, R133) -/

theorem State.readyRow_touches (s : State) : s.LaneTouches P qs (regsOf (pp p) [0x224]) (s.readyRow p) := by
  have hset : ∀ (u : State) (st : Nat), u.LaneTouches P qs (regsOf (pp p) [0x224]) (u.segSet p st) := fun u st =>
    (State.LaneTouches.refl P qs _ u).setF _ (by decide)
  have h := State.LaneTouches.refl P qs (regsOf (pp p) [0x224]) s
  unfold State.readyRow
  extract_lets exch st hold
  have hexch : s.LaneTouches P qs (regsOf (pp p) [0x224]) exch := .ite (hset _ _) h
  have hhold : s.LaneTouches P qs (regsOf (pp p) [0x224]) hold :=
    .ite (hexch.trans (hset _ _)) (.ite (hexch.trans (hset _ _)) hexch)
  exact .ite h (.ite ((hhold.trans (hset _ _)).modSeg _ hP hp) hhold)

theorem State.segData_touches (s : State) : s.LaneTouches P qs (regsOf (pp p) [0x010, 0x224, 0x240]) (s.segData p) := by
  unfold State.segData State.segSet
  exact ((((((State.LaneTouches.refl P qs _ s).setF _ (by decide)).setF _ (by decide)).setB _ (by decide)).setB _ (by decide)).modSeg
    _ hP hp).raise _ (by decide)

/-- A frame that is not valid, at a segment without frame lock. -/
theorem State.frameLock_bad_touches (hlock : s.on (pp p) PathR.TRN_STAT_FRAME_LOCK = false) (f : TrnFrame) :
    s.LaneTouches P qs (regsOf (pp p) [0x224]) (s.frameLock p f false) := by
  unfold State.frameLock
  extract_lets x had wx off noted get lose
  have hnoted : s.LaneTouches P qs (regsOf (pp p) [0x224]) noted := (State.LaneTouches.refl P qs _ s).setSeg _ hP hp
  have hlose : lose = false := by simp [lose, had, hlock]
  rw [hlose]
  exact .ite (hnoted.setF _ (by decide)) hnoted

/-! ### Framing (R178, R184, R188) -/

omit hP hp in
theorem State.framingGet_touches (s : State) : s.LaneTouches P qs (regsOf (pp p) [0x010, 0x344]) (s.framingGet p) := by
  have h := State.LaneTouches.refl P qs (regsOf (pp p) [0x010, 0x344]) s
  unfold State.framingGet
  exact .ite h ((h.setF _ (by decide)).raise _ (by decide))

theorem State.framingLose_touches (s : State) (hC : P.ctrs = true) :
    s.LaneTouches P qs (regsOf (pp p) [0x010, 0x344]) (s.framingLose p) := by
  have h := State.LaneTouches.refl P qs (regsOf (pp p) [0x010, 0x344]) s
  unfold State.framingLose State.degClear
  exact .ite (((((h.setF _ (by decide)).addCtr _ _ _ hC).modPath _ hP hp).modPath _ hP hp).raise _ (by decide)) h

omit hP hp in
theorem State.ethStat_touches (s : State) (e : BitVec 3) (frm : Bool) : s.LaneTouches P qs (regsOf (pp p) [0x370]) (s.ethStat p e frm) := by
  have h := State.LaneTouches.refl P qs (regsOf (pp p) [0x370]) s
  unfold State.ethStat
  exact .ite h (((h.setB _ (by decide)).setB _ (by decide)).setB _ (by decide))

omit hP hp in
theorem State.wxStat_touches (s : State) (m : Marker) : s.LaneTouches P qs (regsOf (pp p) [0x360]) (s.wxStat p m) :=
  ((((State.LaneTouches.refl P qs _ s).setF _ (by decide)).setF _ (by decide)).setB _ (by decide)).setF _ (by decide)

theorem State.wxAcquired_touches (s : State) (m : Marker) :
    s.LaneTouches P qs (regsOf (pp p) [0x010, 0x344, 0x360]) (s.wxAcquired p m) := by
  unfold State.wxAcquired
  extract_lets shown
  have hshown : s.LaneTouches P qs (regsOf (pp p) [0x010, 0x344, 0x360]) shown :=
    .ite ((s.wxStat_touches m).widen (by decide)) ((State.LaneTouches.refl P qs _ s).setF _ (by decide))
  exact (hshown.modPath _ hP hp).trans ((State.framingGet_touches _).widen (by decide))

/-- The registers that framing lock may touch: EVT_RAW, PROF_STAT, CONV_STAT, WX_STAT and ETH_STAT. -/
def framingOffs : List Nat := [0x010, 0x344, 0x354, 0x360, 0x370]

theorem State.framingAcquired_touches (s : State) (e : BitVec 3) (find : Option WxFind) :
    s.LaneTouches P qs (regsOf (pp p) framingOffs) (s.framingAcquired p e find) := by
  have h := State.LaneTouches.refl P qs (regsOf (pp p) framingOffs) s
  unfold State.framingAcquired
  refine .ite h (.ite ?_ ?_)
  · cases find with
    | none => exact h
    | some w => exact .ite ((s.wxAcquired_touches hP hp w.second).widen (by decide)) h
  · have heth : s.LaneTouches P qs (regsOf (pp p) framingOffs) (s.ethStat p e true) := (s.ethStat_touches e true).widen (by decide)
    exact (State.LaneTouches.ite (heth.setF _ (by decide)) heth).trans ((State.framingGet_touches _).widen (by decide))

/-- The registers that the locks of a Converter path may touch: EVT_RAW, PROF_STAT and CONV_STAT. -/
def convOffs : List Nat := [0x010, 0x344, 0x354]

theorem State.convLose_touches (s : State) (from_ : Nat) (hC : P.ctrs = true) :
    s.LaneTouches P qs (regsOf (pp p) convOffs) (s.convLose p from_) := by
  unfold State.convLose
  extract_lets emb mb
  have hemb : s.LaneTouches P qs (regsOf (pp p) convOffs) emb :=
    ((State.LaneTouches.refl P qs _ s).setF _ (by decide)).modPath _ hP hp
  have hmb : s.LaneTouches P qs (regsOf (pp p) convOffs) mb := .ite (hemb.setF _ (by decide)) hemb
  exact .ite ((hmb.setF _ (by decide)).trans ((State.framingLose_touches hP hp _ hC).widen (by decide))) hmb

theorem State.convChange_touches (s : State) (which : Fin 3) (gain : Bool) (run gap : Nat) (hC : P.ctrs = true) :
    s.LaneTouches P qs (regsOf (pp p) convOffs) (s.convChange p which gain run gap) := by
  have h := State.LaneTouches.refl P qs (regsOf (pp p) convOffs) s
  have hset : ∀ x : Fld, x.off = 0x354 → s.LaneTouches P qs (regsOf (pp p) convOffs) (s.setF (pp p) x 1) := fun x hx =>
    h.setF _ (by rw [hx]; decide)
  unfold State.convChange
  exact .ite h (.ite (s.convLose_touches hP hp _ hC) (.ite (.ite ((hset _ rfl).trans ((State.framingGet_touches _).widen (by decide))) h)
    (.ite (.ite (hset _ rfl) h) (.ite (hset _ rfl) h))))

/-! ### Codewords and the degrade window (R183 to R193) -/

theorem State.degEnd_touches (s : State) : s.LaneTouches P qs (regsOf (pp p) [0x010, 0x3E4]) (s.degEnd p) := by
  have h := State.LaneTouches.refl P qs (regsOf (pp p) [0x010, 0x3E4]) s
  unfold State.degEnd State.degClear
  exact .ite h ((((h.setF _ (by decide)).setB _ (by decide)).modPath _ hP hp).raiseIf _ _ (by decide))

theorem State.injected_touches (s : State) (c : Codeword) (hF : P.free = true) : s.LaneTouches P qs l (s.injected p c).1 := by
  have h := State.LaneTouches.refl P qs l s
  unfold State.injected
  extract_lets k taken n d sum
  have htaken : s.LaneTouches P qs l taken := h.modPath _ hP hp
  have hd : s.LaneTouches P qs l d.2 := by
    simp only [d]
    split
    · exact htaken
    · exact htaken.draw hF
  split
  · exact h
  · exact hd

theorem State.injectedRaw_touches (s : State) (c : Codeword) (hF : P.free = true) : s.LaneTouches P qs l (s.injectedRaw p c).1 := by
  have h := State.LaneTouches.refl P qs l s
  unfold State.injectedRaw
  dsimp only
  split
  · exact h
  · exact (h.modPath _ hP hp).draw hF

theorem State.fecCount_touches (s : State) (c : Codeword) (hC : P.ctrs = true) : s.LaneTouches P qs l (s.fecCount p c) := by
  unfold State.fecCount
  extract_lets n counted corrected all
  have hcounted : s.LaneTouches P qs l counted := (State.LaneTouches.refl P qs l s).addCtr _ _ _ hC
  have hcorrected : s.LaneTouches P qs l corrected := .ite ((hcounted.addCtr _ _ _ hC).addCtr _ _ _ hC) hcounted
  have hall : s.LaneTouches P qs l all := .ite (hcounted.addCtr _ _ _ hC) (.ite hcorrected (hcorrected.addCtr _ _ _ hC))
  exact hall.modPath _ hP hp

/-- The registers that a codeword may touch: EVT_RAW, the violation counters, PROF_STAT and WX_STAT. -/
def codewordOffs : List Nat := [0x010, 0x020, 0x024, 0x344, 0x360]

theorem State.wxMarker_touches (s : State) (m : Marker) (hC : P.ctrs = true) :
    s.LaneTouches P qs (regsOf (pp p) codewordOffs) (s.wxMarker p m) := by
  unfold State.wxMarker
  extract_lets good idBad seqOk valid judged phased shown out sent counted
  have hjudged : s.LaneTouches P qs (regsOf (pp p) codewordOffs) judged := (State.LaneTouches.refl P qs _ s).violIf _ _ (by decide)
  have hphased : s.LaneTouches P qs (regsOf (pp p) codewordOffs) phased := .ite (hjudged.addCtr _ _ _ hC) hjudged
  have hshown : s.LaneTouches P qs (regsOf (pp p) codewordOffs) shown :=
    .ite (hphased.trans ((phased.wxStat_touches m).widen (by decide))) hphased
  have hsent : s.LaneTouches P qs (regsOf (pp p) codewordOffs) sent := hshown.modPath _ hP hp
  have hcounted : s.LaneTouches P qs (regsOf (pp p) codewordOffs) counted := .ite hsent (hsent.addCtr _ _ _ hC)
  exact .ite (hcounted.trans ((counted.framingLose_touches hP hp hC).widen (by decide))) hcounted

theorem State.wxCodeword_touches (s : State) (c : Codeword) (hC : P.ctrs = true) :
    s.LaneTouches P qs (regsOf (pp p) codewordOffs) (s.wxCodeword p c) := by
  unfold State.wxCodeword
  extract_lets pos n tagged marked
  have htagged : s.LaneTouches P qs (regsOf (pp p) codewordOffs) tagged := (s.fecCount_touches hP hp c hC).addCtr _ _ _ hC
  have hmarked : s.LaneTouches P qs (regsOf (pp p) codewordOffs) marked :=
    .ite (htagged.trans (tagged.wxMarker_touches hP hp _ hC)) htagged
  exact hmarked.modPath _ hP hp

/-- What has been decoded, once receive-side injection is in it. -/
theorem State.decoded_touches (s : State) (c : Codeword) (hF : P.free = true) :
    s.LaneTouches P qs l (if s.hasFec p then s.injected p c else s.injectedRaw p c).1 := by
  split
  · exact s.injected_touches hP hp c hF
  · exact s.injectedRaw_touches hP hp c hF

theorem State.codeword_touches (s : State) (c : Codeword) (hC : P.ctrs = true) (hF : P.free = true) :
    s.LaneTouches P qs (regsOf (pp p) codewordOffs) (s.codeword p c) := by
  unfold State.codeword
  extract_lets decoded raw seen hit conv fec eth
  have hhit : s.LaneTouches P qs (regsOf (pp p) codewordOffs) hit := (s.decoded_touches hP hp c hF).modPath _ hP hp
  have hconv : s.LaneTouches P qs (regsOf (pp p) codewordOffs) conv := hhit.addCtr _ _ _ hC
  have hfec : s.LaneTouches P qs (regsOf (pp p) codewordOffs) fec := .ite (hhit.trans (hit.fecCount_touches hP hp seen hC)) hhit
  have heth : s.LaneTouches P qs (regsOf (pp p) codewordOffs) eth := .ite hfec (hfec.addCtr _ _ _ hC)
  have hwx := hhit.trans (hit.wxCodeword_touches hP hp seen hC)
  exact .ite (.refl P qs _ s) (.ite (.ite (hconv.addCtr _ _ _ hC) hconv) (.ite hwx (.ite (heth.addCtr _ _ _ hC) hhit)))

/-! ### The transparent clock and error injection (R196, R197, R219 to R223) -/

theorem State.ptpMessage_touches (s : State) (fr : RxFrame) (hC : P.ctrs = true) :
    s.LaneTouches P qs (regsOf (pp p) [0x010]) (s.ptpMessage p fr) := by
  have h := State.LaneTouches.refl P qs (regsOf (pp p) [0x010]) s
  have hcount : ∀ i, s.LaneTouches P qs (regsOf (pp p) [0x010]) (s.addCtr p i 1) := fun i => h.addCtr _ _ _ hC
  unfold State.ptpMessage
  refine .ite h ?_
  split
  · exact h
  · exact .ite h (.ite (hcount _) (.ite (hcount _) (.ite (hcount _) (.ite ((hcount _).raise _ (by decide)) ((hcount _).modPath _ hP hp)))))

theorem State.injMake_touches (s : State) (mode : Nat) (side : Bool) (hC : P.ctrs = true) : s.LaneTouches P qs l (s.injMake p mode side) := by
  unfold State.injMake
  extract_lets nsym what made entered
  have hmade : s.LaneTouches P qs l made := (State.LaneTouches.refl P qs l s).modPath _ hP hp
  have hentered : s.LaneTouches P qs l entered := .ite (hmade.modPath _ hP hp) hmade
  exact .ite hmade (.ite (hentered.addCtr _ _ _ hC) hentered)

theorem State.injDueNow_touches (s : State) (hC : P.ctrs = true) : s.LaneTouches P qs (regsOf (pp p) [0x010, 0x418]) (s.injDueNow p) := by
  have h := State.LaneTouches.refl P qs (regsOf (pp p) [0x010, 0x418]) s
  unfold State.injDueNow
  extract_lets mode side oneShot skip taken
  have htaken : s.LaneTouches P qs (regsOf (pp p) [0x010, 0x418]) taken := .ite (h.modPath _ hP hp) h
  exact .ite h (.ite htaken (((htaken.trans (taken.injMake_touches hP hp _ _ hC)).inc (by decide)).raiseIf _ _ (by decide)))

end

/-! ### Both segments of a lane pair (R111, R112, R131) -/

/-- A lane pair has two paths. -/
theorem pathAB_laneOf_mem (p : Path) : pathAB (laneOf p) ∈ [p, otherPath p] := by
  simp only [pathAB, laneOf, otherPath, List.mem_cons, List.not_mem_nil, or_false, Fin.ext_iff]
  omega

theorem pathBA_laneOf_mem (p : Path) : pathBA (laneOf p) ∈ [p, otherPath p] := by
  simp only [pathBA, laneOf, otherPath, List.mem_cons, List.not_mem_nil, or_false, Fin.ext_iff]
  omega

theorem State.readyPair_touches (s : State) (p : Path) (hP : P.paths = true)
    (hl : ∀ q ∈ [p, otherPath p], pageAddr (pp q) 0x224 ∈ l) : s.LaneTouches P [p, otherPath p] l (s.readyPair (laneOf p)) := by
  have hrow : ∀ q ∈ [p, otherPath p], ∀ u : State, u.LaneTouches P [p, otherPath p] l (u.readyRow q) := fun q hq u =>
    (u.readyRow_touches hP hq).mono (by simpa [regsOf] using hl q hq)
  have ha := hrow _ (pathAB_laneOf_mem p)
  have hb := hrow _ (pathBA_laneOf_mem p)
  exact (((ha s).trans (hb _)).trans (ha _)).trans (hb _)

/-- The registers that local convergence may touch: EVT_RAW and TRN_STAT of both segments, and EQ_QUAL and TRN_LAST of the one. -/
def convergeRegs (p : Path) : List Nat := regsOf (pp p) [0x010, 0x148, 0x224, 0x240] ++ regsOf (pp (otherPath p)) [0x010, 0x224]

theorem State.converge_touches (s : State) (p : Path) (snr : Nat) (hP : P.paths = true) :
    s.LaneTouches P [p, otherPath p] (convergeRegs p) (s.converge p snr) := by
  unfold State.converge
  extract_lets st done
  have hdone : s.LaneTouches P [p, otherPath p] (regsOf (pp p) [0x010, 0x148, 0x224, 0x240]) done :=
    ((State.LaneTouches.refl P _ _ s).setF _ (by decide)).setF _ (by decide)
  have hdata := hdone.trans ((done.segData_touches hP (List.mem_cons_self)).widen (by decide))
  refine .ite (.ite (hdata.mono fun a => List.mem_append_left _) ?_) (.refl P _ _ s)
  refine (hdone.mono fun a => List.mem_append_left _).trans (State.readyPair_touches _ p hP fun q hq => ?_)
  rcases List.mem_pair.1 hq with rfl | rfl
  · exact List.mem_append_left _ (mem_regsOf (by decide))
  · exact List.mem_append_right _ (mem_regsOf (by decide))

/-- The registers that a frame which is not valid may touch: EVT_RAW, the violation counters and TRN_CNT0 of the segment, and TRN_STAT of
both. -/
def badFrameRegs (p : Path) : List Nat := regsOf (pp p) [0x010, 0x020, 0x024, 0x224, 0x238] ++ regsOf (pp (otherPath p)) [0x224]

theorem State.trainFrame_bad_touches {f : TrnFrame} (hvalid : s.frameValid p f = false)
    (hlock : s.on (pp p) PathR.TRN_STAT_FRAME_LOCK = false) (hP : P.paths = true) :
    s.LaneTouches P [p, otherPath p] (badFrameRegs p) (s.trainFrame p f) := by
  have hid : s.idMismatch p f = false := by simp [State.idMismatch, hvalid]
  have hr : (s.frameIn p f).valid = false := hvalid
  unfold State.trainFrame
  simp only [hid, hr, Bool.false_or, Bool.false_eq_true, if_false]
  have hcounted : s.LaneTouches P [p, otherPath p] (regsOf (pp p) [0x010, 0x020, 0x024, 0x238])
      (if (s.frameIn p f).absent = true then s else s.inc (pp p) PathR.TRN_CNT0_FRAME_ERR) :=
    .ite (.refl P _ _ s) ((State.LaneTouches.refl P _ _ s).inc (by decide))
  have hjudged := hcounted.violIf (s.frameBreaks p f) .protocol (by decide)
  generalize State.violIf _ _ _ _ = judged at hjudged ⊢
  have hstill : judged.on (pp p) PathR.TRN_STAT_FRAME_LOCK = false := by
    have hne : pageAddr (pp p) 0x224 ∉ regsOf (pp p) [0x010, 0x020, 0x024, 0x238] := by simp [regsOf, pageAddr]
    rw [State.on, hjudged.1.f hne (pageAddr_path_not_side p _), ← State.on, hlock]
  have hframe : s.LaneTouches P [p, otherPath p] (regsOf (pp p) [0x010, 0x020, 0x024, 0x224, 0x238]) (judged.frameLock p f false) :=
    (hjudged.widen (by decide)).trans ((State.frameLock_bad_touches hP List.mem_cons_self hstill f).widen (by decide))
  refine .ite (.refl P _ _ s) ((hframe.mono fun a => List.mem_append_left _).trans (State.readyPair_touches _ p hP fun q hq => ?_))
  rcases List.mem_pair.1 hq with rfl | rfl
  · exact List.mem_append_left _ (mem_regsOf (by decide))
  · exact List.mem_append_right _ (mem_regsOf (by decide))

end Sys2Proof.Machine

open Sys2Proof Sys2Proof.Machine

/-- Settles O43: each command's operation touches the registers of its clause, and of the rest only the parts that the clause names. -/
theorem pathFrame : Obligations.PathFrame := by
  have hp : ∀ p : Path, p ∈ [p] := fun p => List.mem_cons_self
  refine ⟨fun p s => ⟨_, rfl, ?_⟩, fun p s => ⟨_, rfl, ?_⟩, fun p v s => ⟨_, rfl, ?_⟩, fun p s => ⟨_, rfl, ?_⟩,
    fun p s => ⟨_, rfl, ?_⟩, fun p snr s => ⟨_, rfl, ?_⟩, fun p s hinit hexch => ⟨_, rfl, ?_⟩, fun p s => ⟨_, rfl, ?_⟩,
    fun p lat s => ⟨_, rfl, ?_⟩, fun p fixed s => ⟨_, rfl, ?_⟩, fun p s => ⟨_, rfl, ?_⟩, fun p eth find s => ⟨_, rfl, ?_⟩,
    fun p s => ⟨_, rfl, ?_⟩, fun p s => ⟨_, rfl, ?_⟩, fun p bits errs s => ⟨_, rfl, ?_⟩, fun p s => ⟨_, rfl, ?_⟩,
    fun p which w s => ⟨_, rfl, ?_⟩, fun p w s => ⟨_, rfl, ?_⟩, fun p fr s => ⟨_, rfl, ?_⟩,
    fun p f s hvalid hlock => ⟨_, rfl, ?_⟩, fun p ofs gain skew s => ⟨_, rfl, ?_⟩⟩
  · exact (State.sweepBegin_touches (P := { paths := true }) (l := []) rfl (hp p) s).one
  · exact (State.LaneTouches.ite (.refl _ _ _ s) (State.rotBegin_touches (P := { paths := true }) rfl (hp p) s)).one
  · exact (s.adapt_touches v).none
  · exact (State.reqAnswered_touches (P := { paths := true }) rfl (hp p) s).one
  · exact (State.reqNoAnswer_touches (P := { paths := true }) rfl (hp p) s).one
  · exact (s.converge_touches (P := { paths := true }) p _ rfl).pair
  · exact (State.timeout_touches hinit hexch).none
  · exact s.ignoredCount_touches.none
  · exact (State.probeSample_touches (P := { paths := true }) rfl (hp p) s _).one
  · exact (State.probeWindow_touches (P := { paths := true }) rfl (hp p) s _).one
  · exact (State.slewStep_touches (P := { paths := true }) rfl (hp p) s).one
  · exact (State.framingAcquired_touches (P := { paths := true }) rfl (hp p) s eth find).one
  · exact (State.degEnd_touches (P := { paths := true }) rfl (hp p) s).one
  · exact s.prbsLock_touches.none
  · obtain ⟨hframe, hrest, -⟩ := State.prbsLose_touches (P := { ctrs := true }) (qs := []) (p := p) s bits.toNat errs.toNat rfl
    exact ⟨hframe, hrest⟩
  · exact (State.injDueNow_touches (P := { paths := true, ctrs := true }) rfl (hp p) s rfl).one
  · exact (State.convChange_touches (P := { paths := true, ctrs := true }) rfl (hp p) s which _ _ _ rfl).one
  · exact (State.codeword_touches (P := { paths := true, ctrs := true, free := true }) rfl (hp p) s w rfl rfl).one
  · exact (State.ptpMessage_touches (P := { paths := true, ctrs := true }) rfl (hp p) s fr rfl).one
  · exact (State.trainFrame_bad_touches (P := { paths := true }) hvalid hlock rfl).pair
  · exact (State.matchEnd_touches (P := { paths := true }) (qs := [p]) s ofs gain skew).one

end

section
/-!
SUPPORT. What the updates of receiver adaptation (R100) and the commands of a capture (R105, R106) lead to.
-/
namespace Sys2Proof.Machine

variable {p : Path} {s u : State}

/-! ### Updates of the levels (R100) -/

/-- A byte is stored whole in a field of eight bits. -/
theorem State.f_setF_byte (s : State) (q : Page) {x : Fld} {v : Nat} (hx : x.hi = x.lo + 7) (hh : x.hi < 32) (hv : v < 256) :
    (s.setF q x v).f q x = v := by
  rw [s.f_setF_self q x v (by omega) hh, show x.hi + 1 - x.lo = 8 by omega]
  exact Nat.mod_eq_of_lt hv

/-- An update of the levels stores each in its field; without PAM4 the inner ones stand at the middle. -/
theorem State.adapt_levels (hfree : s.frozen p .lvl = false) (l3 l2 l1 l0 : Byte) :
    (s.adapt p (.levels l3 l2 l1 l0)).f (pp p) PathR.RX_LVL_L3 = l3.toNat ∧
      (s.adapt p (.levels l3 l2 l1 l0)).f (pp p) PathR.RX_LVL_L0 = l0.toNat ∧
      (s.adapt p (.levels l3 l2 l1 l0)).f (pp p) PathR.RX_LVL_L2 = (if vPam4 s.now p then l2.toNat else 0x80) ∧
      (s.adapt p (.levels l3 l2 l1 l0)).f (pp p) PathR.RX_LVL_L1 = (if vPam4 s.now p then l1.toNat else 0x80) := by
  have hinner : ∀ b : Byte, (if vPam4 s.now p then b.toNat else 0x80) < 256 := fun b => by
    have := b.isLt
    split <;> omega
  simp only [State.adapt, hfree, Bool.false_eq_true, if_false]
  refine ⟨?_, ?_, ?_, ?_⟩
  · simp (disch := decide) only [State.f_setF_disj]
    exact s.f_setF_byte _ rfl (by decide) l3.isLt
  · exact State.f_setF_byte _ _ rfl (by decide) l0.isLt
  · simp (disch := decide) only [State.f_setF_disj]
    exact State.f_setF_byte _ _ rfl (by decide) (hinner l2)
  · simp (disch := decide) only [State.f_setF_disj]
    exact State.f_setF_byte _ _ rfl (by decide) (hinner l1)

/-! ### Steps of the search (R100, R101) -/

/-- A code of RX_CTLE freezes no loop. -/
theorem State.frozen_setCtle (s : State) (v : Nat) {x : Fld} (hx : x.off = 0x040) (loop : Loop) :
    (s.setF (pp p) x v).frozen p loop = s.frozen p loop := by
  have hf : ∀ (q : Page) (y : Fld), y.off < 4096 → y.off ≠ 0x040 → (s.setF (pp p) x v).f q y = s.f q y := fun q y hy hne =>
    s.f_setF_ne _ _ _ _ _ fun h => hne (((pageAddr_inj hy (by rw [hx]; decide)).1 h).2.trans hx)
  have hfrz : (s.setF (pp p) x v).f (pp p) (loopFrz loop) = s.f (pp p) (loopFrz loop) := by
    cases loop <;> exact hf _ _ (by decide) (by decide)
  have hcauses : (s.setF (pp p) x v).freezeCauses p = s.freezeCauses p := by
    simp (disch := decide) only [State.freezeCauses, State.inHold, State.ownerLost, State.owner, State.eng, State.sd, State.lock,
      State.rotating, State.rot, State.grpDown, State.on, hf]
    rfl
  rw [State.frozen, State.on, hfrz, hcauses, State.frozen, State.on]

/-- A step keeps a code within its field. -/
theorem codeStep_lt {top v n : Nat} (hv : v < n) (htop : top < n) (st : Option Bool) : codeStep top v st < n := by
  rcases st with _ | _ | _
  · exact hv
  · exact (Nat.sub_le v 1).trans_lt hv
  · simp only [codeStep, satNat]
    split <;> omega

/-- A step of the search is stored, where its loop is not frozen. -/
theorem State.searchStep_of_free {loop : Loop} (hfree : s.frozen p loop = false) (x : Fld) (top : Nat) (st : Option Bool) :
    s.searchStep p loop x top st = s.setF (pp p) x (codeStep top (s.f (pp p) x) st) := by
  simp [State.searchStep, hfree]

/-- A step of the search reads back. -/
theorem State.f_setF_codeStep (s : State) (q : Page) (x : Fld) {top : Nat} (hle : x.lo ≤ x.hi) (hh : x.hi < 32)
    (htop : top < 2 ^ (x.hi + 1 - x.lo)) (st : Option Bool) :
    (s.setF q x (codeStep top (s.f q x) st)).f q x = codeStep top (s.f q x) st := by
  rw [s.f_setF_self q x _ hle hh, Nat.mod_eq_of_lt (codeStep_lt (s.f_lt q x) htop st)]

/-- An update of the CTLE and the VGA moves each code by its step. -/
theorem State.adapt_ctle (hctle : s.frozen p .ctle = false) (hvga : s.frozen p .vga = false) (peak pole vga : Option Bool) :
    (s.adapt p (.ctle peak pole vga)).f (pp p) PathR.RX_CTLE_PEAK = codeStep 40 (s.f (pp p) PathR.RX_CTLE_PEAK) peak ∧
      (s.adapt p (.ctle peak pole vga)).f (pp p) PathR.RX_CTLE_POLE = codeStep 3 (s.f (pp p) PathR.RX_CTLE_POLE) pole ∧
      (s.adapt p (.ctle peak pole vga)).f (pp p) PathR.RX_CTLE_VGA = codeStep 72 (s.f (pp p) PathR.RX_CTLE_VGA) vga := by
  simp only [State.adapt]
  rw [State.searchStep_of_free hctle]
  generalize hpeak : s.setF (pp p) PathR.RX_CTLE_PEAK _ = t
  have hctle' : t.frozen p .ctle = false := by rw [← hpeak, State.frozen_setCtle _ _ rfl, hctle]
  have hvga' : ∀ w, (t.setF (pp p) PathR.RX_CTLE_POLE w).frozen p .vga = false := fun w => by
    rw [State.frozen_setCtle _ _ rfl, ← hpeak, State.frozen_setCtle _ _ rfl, hvga]
  rw [State.searchStep_of_free hctle', State.searchStep_of_free (hvga' _), ← hpeak]
  refine ⟨?_, ?_, ?_⟩
  · rw [State.f_setF_disj _ _ _ _ _ (by decide) (by decide) (by decide), State.f_setF_disj _ _ _ _ _ (by decide) (by decide) (by decide),
      State.f_setF_codeStep _ _ _ (by decide) (by decide) (by decide)]
  · rw [State.f_setF_disj _ _ _ _ _ (by decide) (by decide) (by decide), State.f_setF_codeStep _ _ _ (by decide) (by decide) (by decide),
      State.f_setF_disj _ _ _ _ _ (by decide) (by decide) (by decide)]
  · rw [State.f_setF_codeStep _ _ _ (by decide) (by decide) (by decide), State.f_setF_disj _ _ _ _ _ (by decide) (by decide) (by decide),
      State.f_setF_disj _ _ _ _ _ (by decide) (by decide) (by decide)]

/-! ### CAP_CTL (R106) -/

/-- The fields of CAP_CTL. -/
def capStopRow : Row := { fld := PathR.CAP_CTL_STOP, acc := .w1s, rst := 0x0 }
def capStartRow : Row := { fld := PathR.CAP_CTL_START, acc := .w1s, rst := 0x0 }
def capLenRow : Row := { fld := PathR.CAP_CTL_LEN, acc := .rw, rst := 0x0, legal := [(0, 511)] }
def capTrigRow : Row := { fld := PathR.CAP_CTL_TRIG, acc := .rw, rst := 0x0, legal := [(0, 2)] }
def capSrcRow : Row := { fld := PathR.CAP_CTL_SRC, acc := .rw, rst := 0x0, legal := [(0, 2)] }

theorem rowsAt_capCtl (p : Path) : rowsAt (pp p) 0x0E0 = [capStopRow, capStartRow, capLenRow, capTrigRow, capSrcRow] := by
  have hrows : (rowsHdr ++ rowsPath).filter (rowCovers 0x0E0) = [capStopRow, capStartRow, capLenRow, capTrigRow, capSrcRow] := by
    decide +kernel
  simp [rowsAt, pageRows, mirrorReg, hrows]

/-- A write that covers an action bit asks for its action where it writes a 1. -/
theorem writeRow_w1s {v : Nat → Word} {scene : Bool} {q : Page} {old data mask : Word} {o : WrOut} {r : Row} (hr : r.acc = .w1s)
    (hmask : mask &&& fldMask r.fld.hi r.fld.lo ≠ 0) :
    writeRow v scene q old data mask o r = { o with act := o.act ||| (data &&& mask &&& fldMask r.fld.hi r.fld.lo) } := by
  rw [writeRow, if_neg (by simpa using hmask)]
  simp only [hr]

/-- START or STOP written alone is an action, and leaves the register as it is. -/
theorem writeOut_capAct (v : Nat → Word) (p : Path) {b : Nat} (hb : b = 24 ∨ b = 25) :
    (writeOut v false (pp p) 0x0E0 (fset 0 b b 1) (fldMask b b)).word = v (pageAddr (pp p) 0x0E0) ∧
      (writeOut v false (pp p) 0x0E0 (fset 0 b b 1) (fldMask b b)).act = 1#32 <<< b := by
  have hmask : fldMask b b &&& ~~~ctlUnsupported (pp p) 0x0E0 = fldMask b b := by
    rw [ctlUnsupported, if_neg (by decide)]
    exact BitVec.and_allOnes
  have hact : (0 : Word) ||| (fset 0 b b 1 &&& fldMask b b &&& fldMask b b) = 1#32 <<< b := by
    rcases hb with rfl | rfl <;> decide
  simp only [writeOut, rowsAt_capCtl, List.foldl_cons, List.foldl_nil, hmask]
  rcases hb with rfl | rfl
  · rw [writeRow_of_not_written (r := capStopRow) (by decide), writeRow_w1s (r := capStartRow) rfl (by decide),
      writeRow_of_not_written (r := capLenRow) (by decide), writeRow_of_not_written (r := capTrigRow) (by decide),
      writeRow_of_not_written (r := capSrcRow) (by decide)]
    exact ⟨rfl, hact⟩
  · rw [writeRow_w1s (r := capStopRow) rfl (by decide), writeRow_of_not_written (r := capStartRow) (by decide),
      writeRow_of_not_written (r := capLenRow) (by decide), writeRow_of_not_written (r := capTrigRow) (by decide),
      writeRow_of_not_written (r := capSrcRow) (by decide)]
    exact ⟨rfl, hact⟩

/-- A register of a path beyond the header is one of its own. -/
theorem ownReg_path (p : Path) {off : Nat} (hblock : 0x040 ≤ off) (hpeak : off ≠ 0x06C) (hlt : off < 4096) : ownReg (pp p) off = true := by
  have hside := pageAddr_path_not_side p off
  simp [ownReg, feedsSum, hside, hblock, hpeak, hlt]
  omega

/-- The effect of a write of CAP_CTL is its path's. -/
theorem State.directEffect_capCtl (u : State) (p : Path) (old act wrote : Word) :
    u.directEffect (pp p) 0x0E0 old act wrote = u.effPath p 0x0E0 old act := by
  simp [State.directEffect, State.effect]

/-- START or STOP that is taken acts in a state that has CAP_CTL and CAP_STAT, and every record, as they were. -/
theorem State.offerCap_leads {c : Src} {b : Nat} (hb : b = 24 ∨ b = 25)
    (h : s.takes c (pp p) 0x0E0 (fset 0 b b 1) (fldMask b b) = true) :
    ∃ u : State, s.offerReg c (pp p) 0x0E0 (fset 0 b b 1) (fldMask b b) = u.effPath p 0x0E0 (s.rd (pageAddr (pp p) 0x0E0)) (1#32 <<< b) ∧
      (∀ x : Fld, x.off = 0x0E0 ∨ x.off = 0x0E4 → u.f (pp p) x = s.f (pp p) x) ∧ s.SameRest u := by
  have hkind : wrKind (pp p) 0x0E0 = .fields := by simp [wrKind, isCmdWord]
  obtain ⟨v, u, hold, hlead, hword, hframe, hsame⟩ :=
    State.offerReg_leads h hkind (fun _ => rfl) (ownReg_path p (by decide) (by decide) (by decide))
  obtain ⟨hkept, hact⟩ := writeOut_capAct v p hb
  refine ⟨u, by rw [hlead, hact, State.directEffect_capCtl], fun x hx => ?_, hsame⟩
  rcases hx with hx | hx
  · rw [State.f, hx, hword, hkept, hold, State.f, hx]
  · refine hframe.f ?_ (pageAddr_path_not_side p _)
    simp only [hx, storeRegs, pageAddr, pageNum, List.mem_cons, List.not_mem_nil, or_false]
    omega

/-- The ones written to CAP_CTL start or stop a capture. -/
theorem State.effPath_capStart (u : State) (p : Path) (old : Word) : u.effPath p 0x0E0 old (1#32 <<< 24) = u.capStart p := by
  simp [State.effPath, wbit]

theorem State.effPath_capStop (u : State) (p : Path) (old : Word) : u.effPath p 0x0E0 old (1#32 <<< 25) = u.capStopReq p := by
  simp [State.effPath, wbit]

/-! ### What a write of a register or a record leaves -/

theorem State.grp_setF (s : State) (q : Page) (x : Fld) (v : Nat) (g : Grp) : (s.setF q x v).grp g = s.grp g := rfl

theorem State.grp_modPath (s : State) (p : Path) (f : PathSt → PathSt) (g : Grp) : (s.modPath p f).grp g = s.grp g := rfl

theorem State.f_modPath (s : State) (p : Path) (f : PathSt → PathSt) (q : Page) (x : Fld) : (s.modPath p f).f q x = s.f q x := rfl

theorem State.f_setGrp (s : State) (g : Grp) (v : GroupSt) (q : Page) (x : Fld) : (s.setGrp g v).f q x = s.f q x := rfl

theorem State.mget_setF (s : State) (q : Page) (x : Fld) (v a : Nat) : (s.setF q x v).mget a = s.mget a := rfl

theorem State.mget_modPath (s : State) (p : Path) (f : PathSt → PathSt) (a : Nat) : (s.modPath p f).mget a = s.mget a := rfl

theorem State.mget_setGrp (s : State) (g : Grp) (v : GroupSt) (a : Nat) : (s.setGrp g v).mget a = s.mget a := rfl

theorem State.busyOf_setF (s : State) (q : Page) (x : Fld) (v : Nat) (r : Page) : (s.setF q x v).busyOf r = s.busyOf r := rfl

theorem State.busyOf_modPath (s : State) (p : Path) (f : PathSt → PathSt) (r : Page) : (s.modPath p f).busyOf r = s.busyOf r := rfl

theorem State.busyOf_setGrp (s : State) (g : Grp) (v : GroupSt) (r : Page) : (s.setGrp g v).busyOf r = s.busyOf r := rfl

/-! ### The beginning and the stop of a capture (R106) -/

/-- What a capture begins from: it holds its group's buffer, and CAP_STAT shows no conflict and nothing written. -/
def State.capCleared (s : State) (p : Path) : State :=
  ((((s.setGrp (pathGrp p) { s.grp (pathGrp p) with cap := some p.val }).modPath p (fun x => { x with capStop := false })).setF
    (pp p) PathR.CAP_STAT_CONFLICT 0).setF (pp p) PathR.CAP_STAT_WRITTEN 0).setF (pp p) PathR.CAP_STAT_OLDEST 0

theorem State.capCleared_spec (s : State) (p : Path) :
    ((s.capCleared p).grp (pathGrp p)).cap = some p.val ∧ (s.capCleared p).f (pp p) PathR.CAP_STAT_CONFLICT = 0 ∧
      (s.capCleared p).f (pp p) PathR.CAP_STAT_WRITTEN = 0 ∧
      (s.capCleared p).f (pp p) PathR.CAP_CTL_TRIG = s.f (pp p) PathR.CAP_CTL_TRIG := by
  unfold State.capCleared
  refine ⟨?_, ?_, ?_, ?_⟩
  · rw [State.grp_setF, State.grp_setF, State.grp_setF, State.grp_modPath, State.grp_setGrp]
  · simp (disch := decide) only [State.f_setF_disj, State.f_setF_self, Nat.zero_mod]
  · simp (disch := decide) only [State.f_setF_disj, State.f_setF_self, Nat.zero_mod]
  · simp (disch := decide) only [State.f_setF_disj]
    rw [State.f_modPath, State.f_setGrp]

/-- A capture that finds its group's buffer free holds it, shows no conflict and nothing written, and waits for a mark or runs. -/
theorem State.capStart_begins (hfree : (s.grp (pathGrp p)).cap = none) :
    ((s.capStart p).grp (pathGrp p)).cap = some p.val ∧ (s.capStart p).f (pp p) PathR.CAP_STAT_CONFLICT = 0 ∧
      (s.capStart p).f (pp p) PathR.CAP_STAT_WRITTEN = 0 ∧
      (s.capStart p).f (pp p) PathR.CAP_STAT_STATE = (if s.f (pp p) PathR.CAP_CTL_TRIG = 1 then 1 else 2) := by
  obtain ⟨hcap, hconflict, hwritten, htrig⟩ := s.capCleared_spec p
  have hbegins : s.capStart p =
      if (s.capCleared p).f (pp p) PathR.CAP_CTL_TRIG = 1 then (s.capCleared p).setF (pp p) PathR.CAP_STAT_STATE 1
      else (s.capCleared p).capRun p := if_pos (by simp [hfree])
  have hshown : ∀ (u : State) (st : Nat), u.grp (pathGrp p) = (s.capCleared p).grp (pathGrp p) →
      (∀ x, u.f (pp p) x = (s.capCleared p).f (pp p) x) →
      ((u.setF (pp p) PathR.CAP_STAT_STATE st).grp (pathGrp p)).cap = some p.val ∧
        (u.setF (pp p) PathR.CAP_STAT_STATE st).f (pp p) PathR.CAP_STAT_CONFLICT = 0 ∧
        (u.setF (pp p) PathR.CAP_STAT_STATE st).f (pp p) PathR.CAP_STAT_WRITTEN = 0 ∧
        (u.setF (pp p) PathR.CAP_STAT_STATE st).f (pp p) PathR.CAP_STAT_STATE = st % 4 := fun u st hgrp hf =>
    ⟨by rw [State.grp_setF, hgrp, hcap],
      by rw [State.f_setF_disj _ _ _ _ _ (by decide) (by decide) (by decide), hf, hconflict],
      by rw [State.f_setF_disj _ _ _ _ _ (by decide) (by decide) (by decide), hf, hwritten],
      State.f_setF_self _ _ _ _ (by decide) (by decide)⟩
  rw [hbegins, htrig]
  split
  · exact hshown _ 1 rfl fun _ => rfl
  · exact hshown ((s.capCleared p).modPath p _) 2 (State.grp_modPath _ _ _ _) fun x => State.f_modPath _ _ _ _ x

/-- STOP is noted while a capture is armed or runs. -/
theorem State.capStopReq_noted (hon : s.capOn p = true) : ((s.capStopReq p).path p).capStop = true := by
  simp [State.capStopReq, hon, State.modPath]

/-- START that is taken begins a capture. -/
theorem State.offerCapStart_begins {c : Src} (h : s.takesF c (pp p) PathR.CAP_CTL_START 1 = true) (hfree : (s.grp (pathGrp p)).cap = none) :
    ((s.offerAct c (pp p) PathR.CAP_CTL_START).grp (pathGrp p)).cap = some p.val ∧
      (s.offerAct c (pp p) PathR.CAP_CTL_START).f (pp p) PathR.CAP_STAT_CONFLICT = 0 ∧
      (s.offerAct c (pp p) PathR.CAP_CTL_START).f (pp p) PathR.CAP_STAT_WRITTEN = 0 ∧
      (s.offerAct c (pp p) PathR.CAP_CTL_START).f (pp p) PathR.CAP_STAT_STATE = (if s.f (pp p) PathR.CAP_CTL_TRIG = 1 then 1 else 2) := by
  obtain ⟨u, hlead, hkept, hsame⟩ := State.offerCap_leads (.inl rfl) h
  have hgrp : (u.grp (pathGrp p)).cap = none := by
    simp only [State.SameRest] at hsame
    simp only [State.grp, hsame] at hfree ⊢
    exact hfree
  have hbegun : s.offerAct c (pp p) PathR.CAP_CTL_START = u.capStart p := hlead.trans (u.effPath_capStart p _)
  rw [hbegun, ← hkept PathR.CAP_CTL_TRIG (.inl rfl)]
  exact State.capStart_begins hgrp

/-- STOP that is taken is noted. -/
theorem State.offerCapStop_noted {c : Src} (h : s.takesF c (pp p) PathR.CAP_CTL_STOP 1 = true) (hon : s.capOn p = true) :
    ((s.offerAct c (pp p) PathR.CAP_CTL_STOP).path p).capStop = true := by
  obtain ⟨u, hlead, hkept, -⟩ := State.offerCap_leads (.inr rfl) h
  have hnoted : s.offerAct c (pp p) PathR.CAP_CTL_STOP = u.capStopReq p := hlead.trans (u.effPath_capStop p _)
  rw [hnoted]
  exact State.capStopReq_noted (by rw [State.capOn, hkept _ (.inr rfl), ← State.capOn, hon])

/-! ### The end of a capture (R106) -/

/-- The bytes written from `a` on read back. -/
theorem State.mget_msetRaw (s : State) (a : Nat) (bytes : List Byte) (i : Fin bytes.length) :
    (s.msetRaw a bytes).mget (a + i.val) = bytes[i] := by
  induction bytes generalizing s a with
  | nil => exact i.elim0
  | cons b bs ih =>
    obtain ⟨i, hi⟩ := i
    cases i with
    | zero => exact (((s.mset a b).msetRaw_spec (a + 1) bs).2.1 a (.inl (by omega))).trans (s.mget_mset a b)
    | succ i =>
      have hbyte := ih (s.mset a b) (a + 1) ⟨i, by simpa using hi⟩
      rw [show a + 1 + i = a + (i + 1) by omega] at hbyte
      exact hbyte

theorem State.mget_msetList (s : State) (a : Nat) (bytes : List Byte) (i : Fin bytes.length) :
    (s.msetList a bytes).mget (a + i.val) = bytes[i] := by
  rw [State.msetList, State.mget, (State.sramWrites_spec _ _).2.1]
  exact s.mget_msetRaw a bytes i

/-- The buffers of the captures lie outside the cue sheet. -/
theorem capBase_not_inSheet (g : Grp) {i : Nat} (hi : i < 0x80000) : ¬ inSheet (capBase g + i) := by
  simp only [inSheet, capBase]
  omega

/-- A capture has fewer than 1,024 beats. -/
theorem State.capLen_lt (s : State) (p : Path) : s.capLen p < 1024 := by
  have hlen : s.f (pp p) PathR.CAP_CTL_LEN < 1024 := s.f_lt _ _
  unfold State.capLen
  dsimp only
  split
  · decide
  · exact hlen

/-- What a capture of `bytes` stores as it ends, before its event. -/
def State.capStored (s : State) (p : Path) (bytes : List Byte) (oldest : Nat) : State :=
  (((((s.msetList (capBase (pathGrp p)) bytes).setF (pp p) PathR.CAP_STAT_WRITTEN (bytes.length / 128)).setF
    (pp p) PathR.CAP_STAT_OLDEST oldest).setF (pp p) PathR.CAP_STAT_STATE 3).setGrp (pathGrp p)
      { s.grp (pathGrp p) with cap := none }).modPath p (fun x => { x with capStop := false })

theorem State.capStored_spec (s : State) (p : Path) (bytes : List Byte) {oldest : Nat} (hold : oldest < 512) :
    (s.capStored p bytes oldest).f (pp p) PathR.CAP_STAT_STATE = 3 ∧
      (s.capStored p bytes oldest).f (pp p) PathR.CAP_STAT_OLDEST = oldest ∧
      (s.capStored p bytes oldest).f (pp p) PathR.CAP_STAT_WRITTEN =
        bytes.length / 128 % 2 ^ (PathR.CAP_STAT_WRITTEN.hi + 1 - PathR.CAP_STAT_WRITTEN.lo) ∧
      ((s.capStored p bytes oldest).grp (pathGrp p)).cap = none ∧
      (∀ i : Fin bytes.length, (s.capStored p bytes oldest).mget (capBase (pathGrp p) + i.val) = bytes[i]) ∧
      (s.capStored p bytes oldest).busyOf (pp p) = s.busyOf (pp p) := by
  have hbusy := (s.msetList_spec (capBase (pathGrp p)) bytes).2.2
  simp only [State.SameRest] at hbusy
  unfold State.capStored
  refine ⟨?_, ?_, ?_, ?_, ?_, ?_⟩
  · rw [State.f_modPath, State.f_setGrp]
    simp (disch := decide) only [State.f_setF_self]
    decide
  · rw [State.f_modPath, State.f_setGrp]
    simp (disch := decide) only [State.f_setF_disj, State.f_setF_self]
    exact Nat.mod_eq_of_lt hold
  · rw [State.f_modPath, State.f_setGrp]
    simp (disch := decide) only [State.f_setF_disj, State.f_setF_self]
  · rw [State.grp_modPath, State.grp_setGrp]
  · intro i
    rw [State.mget_modPath, State.mget_setGrp, State.mget_setF, State.mget_setF, State.mget_setF, State.mget_msetList]
  · rw [State.busyOf_modPath, State.busyOf_setGrp, State.busyOf_setF, State.busyOf_setF, State.busyOf_setF]
    simp only [State.busyOf, hbusy]

/-- An event of a path keeps its registers but EVT_RAW. -/
theorem State.f_raise_path (s : State) (p : Path) (bit : Nat) {x : Fld} (hx : x.off < 4096) (hne : x.off ≠ 0x010) :
    (s.raise (pp p) bit).f (pp p) x = s.f (pp p) x := by
  rw [State.f, State.rd_raise _ _ _ _ (pageAddr_path_not_side p _) fun e => hne ((pageAddr_inj hx (by decide)).1 e).2, State.f]

/-- A detector sets its bit, unless the page is BUSY for rehearsal (R402, R454). -/
theorem State.evt_raise {q : Page} {bit : Nat} (hbit : bit < 32) (h : s.busyOf q ≠ .rehearsal) : (s.raise q bit).evt q bit = true := by
  rw [State.evt, s.raise_bit q bit h, wbit, BitVec.getLsbD_or]
  simp [hbit]

/-- A running capture that is over ends with the bytes it has captured. -/
theorem State.capEnd_stores {data : List Byte} (hrun : s.f (pp p) PathR.CAP_STAT_STATE = 2) (hover : s.capOver p data = true)
    (hlen : data.length ≤ 128 * s.capLen p) (oldest : Nat) :
    s.capEnd p data oldest =
      (s.capStored p (data.map (s.capByte p)) (if s.f (pp p) PathR.CAP_CTL_TRIG = 2 then oldest else 0)).raise (pp p) 2 := by
  rw [State.capEnd, if_neg (by simp [hover])]
  simp only [hrun, List.take_of_length_le hlen]
  rfl

/-- What the end of a running capture leads to. -/
theorem State.capEnd_ends {data : List Byte} {oldest : BitVec 9} (hrun : s.f (pp p) PathR.CAP_STAT_STATE = 2)
    (hover : s.capOver p data = true) (hlen : data.length ≤ 128 * s.capLen p) (hbusy : s.busyOf (pp p) ≠ .rehearsal) :
    (s.capEnd p data oldest.toNat).f (pp p) PathR.CAP_STAT_STATE = 3 ∧
      (s.capEnd p data oldest.toNat).f (pp p) PathR.CAP_STAT_OLDEST =
        (if s.f (pp p) PathR.CAP_CTL_TRIG = 2 then oldest.toNat else 0) ∧
      (s.capEnd p data oldest.toNat).f (pp p) PathR.CAP_STAT_WRITTEN =
        data.length / 128 % 2 ^ (PathR.CAP_STAT_WRITTEN.hi + 1 - PathR.CAP_STAT_WRITTEN.lo) ∧
      ((s.capEnd p data oldest.toNat).grp (pathGrp p)).cap = none ∧
      (∀ i : Fin data.length, (s.capEnd p data oldest.toNat).mget (capBase (pathGrp p) + i.val) = s.capByte p data[i]) ∧
      (s.capEnd p data oldest.toNat).evt (pp p) 2 = true := by
  have hold : (if s.f (pp p) PathR.CAP_CTL_TRIG = 2 then oldest.toNat else 0) < 512 := by
    have := oldest.isLt
    split <;> omega
  have hbeats := s.capLen_lt p
  obtain ⟨hstate, hoffset, hwritten, hcap, hbytes, hfree⟩ := s.capStored_spec p (data.map (s.capByte p)) hold
  rw [State.capEnd_stores hrun hover hlen]
  generalize s.capStored p _ _ = stored at *
  obtain ⟨⟨-, hmem⟩, hrest⟩ := stored.raise_spec (pp p) 2
  simp only [State.SameRest] at hrest
  refine ⟨(stored.f_raise_path p 2 (by decide) (by decide)).trans hstate, (stored.f_raise_path p 2 (by decide) (by decide)).trans hoffset,
    ((stored.f_raise_path p 2 (by decide) (by decide)).trans hwritten).trans (by rw [List.length_map]), ?_, fun i => ?_,
    State.evt_raise (by decide) (hfree ▸ hbusy)⟩
  · simpa only [State.grp, hrest] using hcap
  · have hbyte := hbytes ⟨i.val, by simp⟩
    rw [hmem _ (capBase_not_inSheet _ (by omega)), hbyte]
    simp

end Sys2Proof.Machine

open Sys2Proof Sys2Proof.Machine

/-- Settles O6: what each command leads to, under the hypotheses of its clause. -/
theorem adaptAndCaptureCommandsComplete : Obligations.AdaptAndCaptureCommandsComplete :=
  ⟨fun _ l3 l2 l1 l0 _ hfree => ⟨_, rfl, State.adapt_levels hfree l3 l2 l1 l0⟩,
    fun _ peak pole vga _ hctle hvga => ⟨_, rfl, State.adapt_ctle hctle hvga peak pole vga⟩,
    fun _ _ _ h hfree => ⟨_, rfl, State.offerCapStart_begins h hfree⟩,
    fun _ _ _ h hon => ⟨_, rfl, State.offerCapStop_noted h hon⟩,
    fun _ _ _ _ hrun hover hlen hbusy => ⟨_, rfl, State.capEnd_ends hrun hover hlen hbusy⟩⟩

end

section
/-!
SUPPORT. The WX training frame (R127 to R131): the bits of a field as a number, the coding of a bit by eight symbols, and what the search
for the marker and the decoder make of the symbols 0 to 703 of a frame.
-/
namespace Sys2Proof.Machine

/-! ### The bits of a field, the most significant first (R127) -/

theorem length_bitsOf (n v : Nat) : (bitsOf n v).length = n := by
  induction n with
  | zero => rfl
  | succ n ih => rw [bitsOf, List.length_cons, ih]

/-- Reading the lowest `n` bits of `v` after a number `a` shifts `a` up and appends them. -/
theorem foldl_bitsOf (n v a : Nat) : (bitsOf n v).foldl (fun x b => 2 * x + b2n b) a = a * 2 ^ n + v % 2 ^ n := by
  induction n generalizing a with
  | zero => simp [bitsOf, Nat.mod_one]
  | succ n ih =>
    have hbit : v % 2 ^ (n + 1) = v % 2 ^ n + 2 ^ n * b2n (v.testBit n) := by
      rw [pow_succ, Nat.mod_mul, Nat.testBit_eq_decide_div_mod_eq, b2n]
      rcases Nat.mod_two_eq_zero_or_one (v / 2 ^ n) with h | h <;> simp [h]
    rw [bitsOf, List.foldl_cons, ih, hbit]
    ring

theorem natOfBits_bitsOf (n v : Nat) : natOfBits (bitsOf n v) = v % 2 ^ n := by
  rw [natOfBits, foldl_bitsOf, Nat.zero_mul, Nat.zero_add]

/-- A word's own bits read back as the word. -/
theorem natOfBits_bitsOf_toNat {n : Nat} (w : BitVec n) : natOfBits (bitsOf n w.toNat) = w.toNat := by
  rw [natOfBits_bitsOf, Nat.mod_eq_of_lt w.isLt]

/-! ### The coding of a bit (R128) -/

theorem length_wxBit (b : Bool) : (wxBit b).length = 8 := by cases b <;> rfl

theorem wxBitOf_wxBit (b : Bool) : wxBitOf (wxBit b) = some b := by cases b <;> rfl

/-- Coded bits decode to themselves, whatever symbols follow. -/
theorem wxBitsOf_flatMap (bits : List Bool) (rest : List Sym) : wxBitsOf bits.length (bits.flatMap wxBit ++ rest) = some bits := by
  induction bits with
  | nil => rfl
  | cons b bits ih =>
    rw [List.flatMap_cons, List.append_assoc, List.length_cons, wxBitsOf, List.take_left' (length_wxBit b),
      List.drop_left' (length_wxBit b), wxBitOf_wxBit, ih]

/-! ### The frame (R127, R131) -/

theorem length_wxBits (ctrl sts : Word) : (wxBits ctrl sts).length = 80 := by
  rw [wxBits, List.length_append, List.length_append, length_bitsOf, length_bitsOf, length_bitsOf]

/-- The first bit of a frame is control bit 31 (R127). -/
theorem wxBits_eq_cons (ctrl sts : Word) : ∃ bits, wxBits ctrl sts = ctrl.getLsbD 31 :: bits :=
  ⟨_, rfl⟩

/-- The marker is found where control bit 31 is 0: only then do exactly 36 symbols of level 0 follow its 32 of level 3 (R128). -/
theorem wxFound_wxHead (ctrl sts : Word) (rest : List Sym) : wxFound (wxHead ctrl sts ++ rest) = !ctrl.getLsbD 31 := by
  obtain ⟨bits, hbits⟩ := wxBits_eq_cons ctrl sts
  have hhead : wxHead ctrl sts ++ rest = (wxMarkerSyms ++ wxBit (ctrl.getLsbD 31)) ++ (bits.flatMap wxBit ++ rest) := by
    simp only [wxHead, hbits, List.flatMap_cons, List.append_assoc]
  rw [wxFound, hhead]
  generalize ctrl.getLsbD 31 = top
  rw [List.take_append_of_le_length (by rw [List.length_append, length_wxBit]; decide)]
  cases top <;> rfl

/-- The 80 bits after the marker decode to those of the frame. -/
theorem wxBitsOf_wxHead (ctrl sts : Word) (rest : List Sym) :
    wxBitsOf 80 ((wxHead ctrl sts ++ rest).drop 64) = some (wxBits ctrl sts) := by
  rw [wxHead, List.append_assoc, List.drop_left' (by rfl), ← length_wxBits ctrl sts, wxBitsOf_flatMap]

/-- The fields of a frame's bits are those it was built from, and its check is met (R131). -/
theorem wxFields_wxBits (ctrl sts : Word) : wxFields (wxBits ctrl sts) = { valid := true, ctrl := ctrl, sts := sts } := by
  have hctrl : (wxBits ctrl sts).take 32 = bitsOf 32 ctrl.toNat := by
    rw [wxBits, List.append_assoc, List.take_left' (length_bitsOf _ _)]
  have hsts : ((wxBits ctrl sts).drop 32).take 32 = bitsOf 32 sts.toNat := by
    rw [wxBits, List.append_assoc, List.drop_left' (length_bitsOf _ _), List.take_left' (length_bitsOf _ _)]
  have hcheck : ((wxBits ctrl sts).drop 64).take 16 = bitsOf 16 (crc16 ctrl sts).toNat := by
    rw [wxBits, List.drop_left' (by rw [List.length_append, length_bitsOf, length_bitsOf]), List.take_of_length_le (length_bitsOf _ _).le]
  simp only [wxFields, hctrl, hsts, hcheck, natOfBits_bitsOf_toNat, BitVec.ofNat_toNat, BitVec.setWidth_eq, beq_self_eq_true]

end Sys2Proof.Machine

open Sys2Proof Sys2Proof.Machine

/-- Settles O41: the marker is found by control bit 31 alone, and where it is found the 80 coded bits decode to the frame's own. -/
theorem wxFrameIsReadBack : Obligations.WxFrameIsReadBack := by
  intro ctrl sts rest
  refine ⟨fun h => ?_, fun h => ?_⟩
  · simp only [wxIn, wxFound_wxHead, h, Bool.not_false, Bool.not_true, Bool.false_eq_true, if_false, wxBitsOf_wxHead, wxFields_wxBits]
  · simp only [wxIn, wxFound_wxHead, h, Bool.not_true, Bool.not_false, if_true]

end

section
/-!
SUPPORT. A training timeout on a disabled lane pair. The statement that a timeout ends in FAILED does not ask that the lane pair be enabled;
the disabling condition of R114 and R141 holds from every state, and the timeout settles the port.
-/
namespace Sys2Proof.Machine

/-- Path 9 stands in TRAIN_INIT, without local convergence, while its lane pair is out of service. -/
def disabledInTraining : State := up.setF (pp 9) PathR.TRN_STAT_STATE sgInit

theorem disabledInTraining_meets : disabledInTraining.on (pp 9) PathR.TRN_STAT_LOCAL_DONE = false ∧
    disabledInTraining.sg 9 = sgInit ∧ disabledInTraining.disabling (laneOf 9) = true := by decide +kernel

/-- The timeout stops the segment, and the lane pair's disabling condition takes it on to DISABLED. -/
theorem disabledInTraining_timeout : (disabledInTraining.timeout 9).sg 9 = sgDisabled := by decide +kernel

end Sys2Proof.Machine

open Sys2Proof Sys2Proof.Machine

/-- Refutes O8: its clause of TRAINING_TIMEOUT does not ask that the lane pair be enabled. On a lane pair out of service the segment that
times out ends in DISABLED (R114, R141), not in FAILED. -/
theorem not_trainingCommandsComplete : ¬ Obligations.TrainingCommandsComplete := by
  intro ⟨_, _, _, _, _, htimeout, _⟩
  obtain ⟨hlocal, hinit, -⟩ := disabledInTraining_meets
  obtain ⟨t, ht, hfailed, -⟩ := htimeout 9 disabledInTraining hlocal (.inl hinit)
  rw [← Host.Outcome.next.inj ht, disabledInTraining_timeout] at hfailed
  exact absurd hfailed (by decide)

end

section
/-!
SUPPORT. What settling one path, stopping a segment and entering TRAIN_INIT touch (R99, R114, R124, R139, R159), as rules of the frame of
the commands of one path (`State.LaneTouches`).
-/
namespace Sys2Proof.Machine

variable {P : LaneParts} {qs : List Path} {l offs : List Nat} {p q : Path} {s t : State}

/-- A field of a path that is not among the registers touched keeps its code. -/
theorem State.LaneTouches.f_path (h : s.LaneTouches P qs (regsOf (pp p) offs) t) {x : Fld} (hx : x.off < 4096)
    (ho : ∀ o ∈ offs, o < 4096) (hne : q = p → x.off ∉ offs) : t.f (pp q) x = s.f (pp q) x := by
  refine h.1.f (fun hm => ?_) (pageAddr_path_not_side q _)
  obtain ⟨o, hmem, heq⟩ := List.mem_map.1 hm
  obtain ⟨hpage, rfl⟩ := (pageAddr_inj (ho o hmem) hx).1 heq
  exact hne (Page.path.inj hpage).symm hmem

/-- What touches no record at all leaves the table of records as it is. -/
theorem State.LaneTouches.paths_eq (h : s.LaneTouches {} qs l t) : t.paths = s.paths := by
  have hr := h.2.1
  simp only [State.SameRest, State.withLanes, cond_false] at hr
  simp only [hr]

/-- Registers of the page between two offsets go back to their reset values. -/
theorem State.LaneTouches.rstRange (h : s.LaneTouches P qs (regsOf (pp p) offs) t) {lo hi : Nat}
    (k : ∀ o, lo ≤ o → o ≤ hi → o ∈ offs) : s.LaneTouches P qs (regsOf (pp p) offs) (t.rstRange (pp p) lo hi) := by
  refine h.trans (.of_touches ⟨⟨fun a ha _ => ?_, fun _ _ => rfl⟩, State.SameRest.refl t⟩)
  refine tabGet_filter_kept _ _ (fun a => !(decide (pageAddr (pp p) lo ≤ a) && decide (a ≤ pageAddr (pp p) hi))) ?_
  by_contra hin
  obtain ⟨hlo, hhi⟩ : pageAddr (pp p) lo ≤ a ∧ a ≤ pageAddr (pp p) hi := by simpa using hin
  simp only [pageAddr] at hlo hhi
  refine ha (List.mem_map.2 ⟨a - pageNum (pp p) * 4096, k _ (by omega) (by omega), ?_⟩)
  simp only [pageAddr]
  omega

theorem State.LaneTouches.wr (h : s.LaneTouches P qs (regsOf (pp p) offs) t) {o : Nat} (v : Word) (k : o ∈ offs) :
    s.LaneTouches P qs (regsOf (pp p) offs) (t.wr (pageAddr (pp p) o) v) :=
  h.trans (.of_touches ((State.Touches.refl _ t).wr v (mem_regsOf k)))

section
variable (hP : P.paths = true) (hp : p ∈ qs)
include hP hp

/-! ### The elastic stage (R159, R164) -/

/-- The registers that placing or discarding a stage may touch: EVT_RAW, PIN_STAT, PIN_ADJ, PIN_PLACE, PIN_HELD and PIN_CNT. -/
def stageOffs : List Nat := [0x010, 0x2C8, 0x2D4, 0x2D8, 0x2E8, 0x2EC]

theorem State.discard_touches (s : State) : s.LaneTouches P qs (regsOf (pp p) [0x2C8]) (s.discard p) := by
  unfold State.discard
  exact (((State.LaneTouches.refl P qs _ s).modPath _ hP hp).trans (State.newWindow_touches hP hp _)).trans (State.pinTo_touches hP hp _ _)

theorem State.enterUnverified_touches (s : State) (cause : Nat) :
    s.LaneTouches P qs (regsOf (pp p) [0x010, 0x2C8]) (s.enterUnverified p cause) := by
  unfold State.enterUnverified
  exact ((((s.pinTo_touches hP hp _).widen (by decide)).setF _ (by decide)).modPath _ hP hp).raise _ (by decide)

omit hP hp in
theorem State.setAdj_touches (s : State) (a : Int) : s.LaneTouches P qs (regsOf (pp p) [0x010, 0x2C8, 0x2D4]) (s.setAdj p a) := by
  unfold State.setAdj
  exact ((((State.LaneTouches.refl P qs _ s).setS _ (by decide)).setB _ (by decide)).setB _ (by decide)).raiseIf _ _ (by decide)

theorem State.place_touches (s : State) : s.LaneTouches P qs (regsOf (pp p) stageOffs) (s.place p) := by
  unfold State.place
  extract_lets held steps placed opened
  have hplaced : s.LaneTouches P qs (regsOf (pp p) stageOffs) placed :=
    ((((((State.LaneTouches.refl P qs _ s).setF _ (by decide)).setF _ (by decide)).setF _ (by decide)).setF _ (by decide)).trans
      ((State.setAdj_touches _ 0).widen (by decide))).inc (by decide)
  have hopened : s.LaneTouches P qs (regsOf (pp p) stageOffs) opened :=
    (hplaced.modPath _ hP hp).trans (State.newWindow_touches hP hp _)
  exact .ite (hopened.trans ((State.pinTo_touches hP hp _ _).widen (by decide)))
    (hopened.trans ((State.enterUnverified_touches hP hp _ _).widen (by decide)))

theorem State.settleStage_touches (s : State) : s.LaneTouches P qs (regsOf (pp p) stageOffs) (s.settleStage p) := by
  have h := State.LaneTouches.refl P qs (regsOf (pp p) stageOffs) s
  unfold State.settleStage
  exact .ite (.ite ((s.discard_touches hP hp).widen (by decide)) h) (.ite h (s.place_touches hP hp))

/-! ### The lock (R98, R357) -/

/-- The registers that dropping the lock of a path may touch: EVT_RAW, RX_STAT, SWING_STAT, SWING_CNT, SWING_LAST, PROF_STAT, CONV_STAT and
ETH_STAT. -/
def lockOffs : List Nat := [0x010, 0x04C, 0x0A0, 0x0A8, 0x0AC, 0x344, 0x354, 0x370]

theorem State.rotAbandon_touches (s : State) (cause : Nat) : s.LaneTouches P qs (regsOf (pp p) lockOffs) (s.rotAbandon p cause) := by
  have h := State.LaneTouches.refl P qs (regsOf (pp p) lockOffs) s
  unfold State.rotAbandon State.rotAborted State.rotRest
  exact .ite (((((h.modPath _ hP hp).setF _ (by decide)).inc (by decide)).setF _ (by decide)).raise _ (by decide)) h

/-- Framing lock is lost while no frame is being inserted. -/
theorem State.framingLost_uncut_touches (s : State) (e : BitVec 3) (hC : P.ctrs = true) :
    s.LaneTouches P qs (regsOf (pp p) lockOffs) (s.framingLost p e false) := by
  unfold State.framingLost
  simp only [Bool.false_eq_true, if_false]
  exact .ite ((s.convLose_touches hP hp 0 hC).widen (by decide))
    (((s.ethStat_touches e false).widen (by decide)).trans ((State.framingLose_touches hP hp _ hC).widen (by decide)))

theorem State.dropLock_touches (s : State) (fault : Bool) (hC : P.ctrs = true) (hF : P.free = true) :
    s.LaneTouches P qs (regsOf (pp p) lockOffs) (s.dropLock p fault) := by
  have h := State.LaneTouches.refl P qs (regsOf (pp p) lockOffs) s
  unfold State.dropLock State.piHold
  have hheld := ((h.setF (x := PathR.RX_STAT_CDR_LOCK) 0 (by decide)).draw hF).modPath (p := p)
    (fun x => { x with piHeld := (s.setF (pp p) PathR.RX_STAT_CDR_LOCK 0).draw.1 &&& 0xFFFFFF3F#32 }) hP hp
  exact .ite h (((hheld.trans (State.rotAbandon_touches hP hp _ 1)).trans (State.framingLost_uncut_touches hP hp _ 0 hC)).raiseIf
    _ _ (by decide))

/-- Settling one path touches its lock and its stage. -/
theorem State.settlePath_touches (s : State) (hC : P.ctrs = true) (hF : P.free = true) :
    s.LaneTouches P qs (regsOf (pp p) (lockOffs ++ stageOffs)) (s.settlePath p) := by
  unfold State.settlePath
  exact (State.LaneTouches.ite ((s.dropLock_touches hP hp _ hC hF).widen (by decide)) (.refl P qs _ s)).trans
    ((State.settleStage_touches hP hp _).widen (by decide))

/-! ### A segment stops (R139) -/

theorem State.segClear_touches (s : State) : s.LaneTouches P qs (regsOf (pp p) [0x224]) (s.segClear p) := by
  unfold State.segClear
  exact ((((State.LaneTouches.refl P qs _ s).setF _ (by decide)).setF _ (by decide)).setF _ (by decide)).modSeg _ hP hp

/-- The registers that a segment's stop may touch: EVT_RAW, TRN_STAT, TRN_CNT1 and PIN_STAT. -/
def stopOffs : List Nat := [0x010, 0x224, 0x23C, 0x2C8]

theorem State.segStop_touches (s : State) (st cause : Nat) :
    s.LaneTouches P qs (regsOf (pp p) stopOffs) (s.segStop p st cause) := by
  unfold State.segStop
  have hdiscarded : s.LaneTouches P qs (regsOf (pp p) stopOffs) (if (s.path p).placed then s.discard p else s) :=
    .ite ((s.discard_touches hP hp).widen (by decide)) (.refl P qs _ s)
  have hcleared := hdiscarded.trans ((State.segClear_touches hP hp _).widen (by decide))
  exact ((((hcleared.setF _ (by decide)).setF _ (by decide)).inc (by decide)).raise _ (by decide)).raiseIf _ _ (by decide)

end

/-! ### The search and the presets at the entry to TRAIN_INIT (R124, R316) -/

/-- The registers that a new search may touch: RX_CTLE, the FFE registers and DFE. -/
def searchOffs : List Nat := 0x040 :: (List.range 0x41).map (0x100 + ·)

theorem State.seedRx_touches (s : State) : s.LaneTouches P qs (regsOf (pp p) searchOffs) (s.seedRx p) := by
  have h := State.LaneTouches.refl P qs (regsOf (pp p) searchOffs) s
  have hin : ∀ o, 0x100 ≤ o → o ≤ 0x13C → o ∈ searchOffs := fun o hlo hhi =>
    List.mem_cons_of_mem _ (List.mem_map.2 ⟨o - 0x100, List.mem_range.2 (by omega), by omega⟩)
  unfold State.seedRx
  refine .ite h ?_
  have hreset := ((h.wr (regReset (pageAddr (pp p) 0x040)) List.mem_cons_self).rstRange hin).wr (o := 0x140)
    (regReset (pageAddr (pp p) 0x140)) (by decide)
  dsimp only
  split
  · refine .foldl ((hreset.wr _ List.mem_cons_self).wr _ (by decide)) _ fun e he u => (State.LaneTouches.refl P qs _ u).wr _ ?_
    have hk := List.mem_range.1 (List.of_mem_zip he).1
    exact hin _ (by omega) (by omega)
  · exact hreset

theorem State.setTaps_touches (s : State) (taps : List Int) : s.LaneTouches P qs (regsOf (pp q) [0x1C0, 0x1C4]) (s.setTaps q taps) := by
  have htap : ∀ x ∈ tapFlds, x.off ∈ [0x1C0, 0x1C4] := by decide
  exact .foldl (.refl P qs _ s) _ fun e he u => (State.LaneTouches.refl P qs _ u).setS _ (htap _ (List.of_mem_zip he).1)

/-- The registers that a preset of a segment may touch: TRN_STAT of its page, and TXFIR of its transmitter. -/
def presetRegs (p : Path) : List Nat := regsOf (pp p) [0x224] ++ regsOf (pp (otherPath p)) [0x1C0, 0x1C4]

theorem State.presetNow_touches (s : State) (n : Nat) : s.LaneTouches P qs (presetRegs p) (s.presetNow p n) := by
  have htaps : ∀ taps, s.LaneTouches P qs (presetRegs p) (s.setTaps (otherPath p) taps) := fun taps =>
    (s.setTaps_touches taps).mono fun _ => List.mem_append_right _
  have hbad : ∀ (u : State) (v : Nat), u.LaneTouches P qs (presetRegs p) (u.setF (pp p) PathR.TRN_STAT_USER_BAD v) := fun u v =>
    ((State.LaneTouches.refl P qs (regsOf (pp p) [0x224]) u).setF v (by decide)).mono fun _ => List.mem_append_left _
  unfold State.presetNow
  exact .ite ((htaps _).trans (hbad _ _)) (.ite ((htaps _).trans (hbad _ _)) (htaps _))

theorem State.presetApply_touches (hP : P.paths = true) (hp : p ∈ qs) (s : State) (n : Nat) :
    s.LaneTouches P qs (presetRegs p) (s.presetApply p n) := by
  have h := State.LaneTouches.refl P qs (presetRegs p) s
  exact .ite (h.modSeg _ hP hp) ((h.modSeg _ hP hp).trans (State.presetNow_touches _ n))

/-- The registers that the entry to TRAIN_INIT may touch: those of the search, and those of a preset. -/
def initRegs (p : Path) : List Nat := regsOf (pp p) searchOffs ++ presetRegs p

theorem State.segInit_touches (hP : P.paths = true) (hp : p ∈ qs) (hF : P.free = true) (s : State) :
    s.LaneTouches P qs (initRegs p) (s.segInit p) := by
  have hstat : ∀ a ∈ regsOf (pp p) [0x224], a ∈ initRegs p := fun _ ha => List.mem_append_right _ (List.mem_append_left _ ha)
  unfold State.segInit
  extract_lets drawn
  have hset : s.LaneTouches P qs (regsOf (pp p) [0x224]) ((drawn.2.segClear p).segSet p sgInit) :=
    (((State.LaneTouches.refl P qs _ s).draw hF).trans (State.segClear_touches hP hp _)).setF _ (by decide)
  exact (((hset.mono hstat).modSeg _ hP hp).trans ((State.seedRx_touches _).mono fun _ => List.mem_append_left _)).trans
    ((State.presetApply_touches hP hp _ _).mono fun _ => List.mem_append_right _)

end Sys2Proof.Machine
end


section
/-!
SUPPORT. The commands of auto-negotiation: a page that arrives, the set-up scene that is already in place, and a write of AN_MASK (R118 to
R120, R145).
-/
namespace Sys2Proof.Machine

variable {n : Lane} {p q : Path} {s t : State}

/-! ### Counters and violations (R145, R452) -/

/-- Counting one saturates at the field's largest code. -/
theorem State.f_inc_self (s : State) (g : Page) {x : Fld} (hle : x.lo ≤ x.hi) (hh : x.hi < 32) :
    (s.inc g x).f g x = satNat (fldTop x) (s.f g x + 1) := by
  rw [State.inc, State.add, s.f_setF_self g x _ hle hh]
  refine Nat.mod_eq_of_lt ?_
  have hpos : 0 < 2 ^ (x.hi + 1 - x.lo) := by positivity
  unfold satNat fldTop
  split <;> omega

/-- The total and VIOL_LAST of a violation are side registers. -/
theorem State.violTotals_frame (s : State) (k : Viol) (page : Nat) (inj : Bool) :
    s.Frame [] ((s.inc .house (violTot k)).violLast k page inj) := by
  have htot : pageAddr .house (violTot k).off ∈ sideRegs := by cases k <;> decide
  exact ((((State.Frame.refl s []).setF _ _ _ (.inr htot)).setF _ _ _ (.inr (by decide))).setF _ _ _ (.inr (by decide))).setF _ _ _
    (.inr (by decide))

/-- A violation of a path counts one in its page. -/
theorem State.f_viol_path (s : State) (p : Path) (k : Viol) :
    (s.viol (pp p) k).f (pp p) (violFld k) = satNat 0xFFFF (s.f (pp p) (violFld k) + 1) := by
  have hcounted : (s.viol (pp p) k).f (pp p) (violFld k) = (s.inc (pp p) (violFld k)).f (pp p) (violFld k) :=
    (State.violTotals_frame _ k _ false).f (by simp) (pageAddr_path_not_side p _)
  rw [hcounted, s.f_inc_self _ (by cases k <;> decide) (by cases k <;> decide)]
  cases k <;> rfl

/-! ### Pages that arrive in AN_RELAY (R118, R145) -/

theorem State.seg_modSeg_self (s : State) (p : Path) (f : SegSt → SegSt) : (s.modSeg p f).seg p = f (s.seg p) := State.seg_setSeg s p _

theorem State.seg_modSeg_ne (s : State) (f : SegSt → SegSt) (h : q ≠ p) : (s.modSeg p f).seg q = s.seg q := by
  rw [State.seg, State.modSeg, State.setSeg, State.path_setPath_ne _ _ _ _ h, State.seg]

theorem State.seg_inc (s : State) (g : Page) (x : Fld) (p : Path) : (s.inc g x).seg p = s.seg p := rfl

theorem State.f_modSeg (s : State) (p : Path) (f : SegSt → SegSt) (g : Page) (x : Fld) : (s.modSeg p f).f g x = s.f g x := rfl

/-- A page with a coding error counts a frame error and a violation. -/
theorem State.anPageBad_counts (s : State) (p : Path) :
    (s.anPageBad p).f (pp p) PathR.TRN_CNT0_FRAME_ERR = satNat 0xFFFF (s.f (pp p) PathR.TRN_CNT0_FRAME_ERR + 1) ∧
      (s.anPageBad p).f (pp p) Hdr.VIOL_1_PROTOCOL = satNat 0xFFFF (s.f (pp p) Hdr.VIOL_1_PROTOCOL + 1) := by
  have hviol : ((s.inc (pp p) PathR.TRN_CNT0_FRAME_ERR).viol (pp p) .protocol).f (pp p) PathR.TRN_CNT0_FRAME_ERR =
      (s.inc (pp p) PathR.TRN_CNT0_FRAME_ERR).f (pp p) PathR.TRN_CNT0_FRAME_ERR :=
    ((State.LaneTouches.refl {} [] (regsOf (pp p) [0x024]) _).violIf true .protocol (by decide)).f_path (by decide) (by decide)
      fun _ => by decide
  have hcount : (s.inc (pp p) PathR.TRN_CNT0_FRAME_ERR).f (pp p) Hdr.VIOL_1_PROTOCOL = s.f (pp p) Hdr.VIOL_1_PROTOCOL :=
    ((State.LaneTouches.refl {} [] (regsOf (pp p) [0x238]) s).inc (by decide)).f_path (by decide) (by decide) fun _ => by decide
  exact ⟨hviol.trans (s.f_inc_self _ (by decide) (by decide)),
    (State.f_viol_path _ p .protocol).trans (by rw [show violFld .protocol = Hdr.VIOL_1_PROTOCOL from rfl, hcount])⟩

/-- PAGES of the direction that a page arrives on. -/
def pagesFld (p : Path) : Fld := if p.val < 64 then PathR.AN_STAT_PAGES_AB else PathR.AN_STAT_PAGES_BA

theorem pagesFld_cases (p : Path) : pagesFld p = PathR.AN_STAT_PAGES_AB ∨ pagesFld p = PathR.AN_STAT_PAGES_BA := by
  unfold pagesFld
  split
  · exact .inl rfl
  · exact .inr rfl

/-- A page that is relayed is sent on by the other segment, a base page masked, and counts. -/
theorem State.anRelay_sends (s : State) (p : Path) (page : BitVec 48) (base : Bool) :
    ((s.anRelay p page base).seg (otherPath p)).pageOut =
        some (if base then anMasked page (s.anAbilities (laneOf p)) else page) ∧
      (s.anRelay p page base).f (pp (pathAB (laneOf p))) (pagesFld p) =
        satNat 0xFF (s.f (pp (pathAB (laneOf p))) (pagesFld p) + 1) := by
  unfold State.anRelay
  extract_lets a mask locked based noted
  have hlocked : s.LaneTouches {} [] (regsOf (pp p) [0x010, 0x04C, 0x21C, 0x220]) locked :=
    .ite (.refl _ _ _ s) (((State.LaneTouches.refl _ _ _ s).setF _ (by decide)).raise _ (by decide))
  have hbased : s.LaneTouches {} [] (regsOf (pp p) [0x010, 0x04C, 0x21C, 0x220]) based :=
    .ite ((hlocked.setF _ (by decide)).setF _ (by decide)) hlocked
  have hcount : based.f a (pagesFld p) = s.f a (pagesFld p) := by
    rcases pagesFld_cases p with h | h <;> rw [h] <;> exact hbased.f_path (by decide) (by decide) fun _ => by decide
  refine ⟨by rw [State.seg_inc, State.seg_modSeg_self], ?_⟩
  change (State.inc _ a (pagesFld p)).f a (pagesFld p) = satNat 0xFF (s.f a (pagesFld p) + 1)
  rw [← hcount]
  rcases pagesFld_cases p with h | h <;> rw [h] <;> exact State.f_inc_self _ a (by decide) (by decide)

/-- A page that arrives in AN_RELAY without an error, while nothing is resolved, is relayed. -/
theorem State.anPage_relays (hrelay : s.sg p = sgRelay) (page : BitVec 48) (base : Bool) :
    s.anPage p page base false none = s.anRelay p page base := by
  simp [State.anPage, hrelay]

theorem State.anPage_bad (hrelay : s.sg p = sgRelay) (page : BitVec 48) (base : Bool) (res : Option AnResult) :
    s.anPage p page base true res = s.anPageBad p := by
  simp [State.anPage, hrelay]

/-! ### A set-up scene that changes nothing (R119) -/

/-- The segments of a port belong to one group: a port has at most eight lane pairs, the first a multiple of its width (R121). -/
theorem State.pathGrp_of_mem_portSegs (h : p ∈ s.portSegs n) : pathGrp p = pathGrp (pathAB n) := by
  obtain ⟨m, hm, hpm⟩ := List.mem_flatMap.1 h
  obtain ⟨i, hi, rfl⟩ := List.mem_map.1 hm
  have hwidth : s.f (pp (pathAB n)) PathR.TRN_PAIR_PORT_W < 4 := s.f_lt _ _
  have hlane : (laneAt ((s.leader n).val + i)).val / 8 = n.val / 8 := by
    have hi' := List.mem_range.1 hi
    simp only [State.leader, State.portW, laneAt] at hi' ⊢
    generalize s.f (pp (pathAB n)) PathR.TRN_PAIR_PORT_W = w at *
    interval_cases w <;> omega
  rcases List.mem_pair.1 hpm with rfl | rfl <;> simp only [pathGrp, pathAB, pathBA, Fin.mk.injEq] <;> omega

/-- The PLL and divider chosen are an enabled PLL and a divider that meet the rate. -/
theorem State.anChoose_spec {g : Grp} {kbd k : Nat} {b : Bool} (h : s.anChoose g kbd = some (b, k)) :
    k < 4 ∧ vPllEn s.now g b = true ∧
      (((vFvco s.now g b : Nat) : Int) - ((2 ^ 24 * 2 ^ k * 1000 * kbd : Nat) : Int)).natAbs * 10000 ≤ 2 ^ 24 * 2 ^ k * 1000 * kbd := by
  have hmeets := List.find?_some h
  have hmem := List.mem_of_find?_eq_some h
  simp only [Bool.and_eq_true] at hmeets
  have hsmall : ∀ c ∈ [(false, 0), (false, 1), (false, 2), (true, 0), (true, 1), (true, 2)], c.2 < 4 := by decide
  exact ⟨hsmall _ hmem, hmeets.1, of_decide_eq_true hmeets.2⟩

/-- LINE_CFG of a path that the set-up scene would not change gives the scene's modulation, divider and PLL. -/
theorem State.line_of_anWrites {r : AnResult} {b : Bool} {k : Nat} (hk : k < 4)
    (h : ∀ e ∈ s.anWrites r (b, k) p, s.rd e.1 = e.2) : vPam4 s.now p = r.pam4 ∧ vDiv s.now p = 2 ^ k ∧ vSel s.now p = b := by
  have hline := h _ List.mem_cons_self
  dsimp only at hline
  have hmod : vf s.now (pp p) PathR.LINE_CFG_MOD = b2n r.pam4 % 2 := by
    show fget (s.rd (pageAddr (pp p) 0x050)) 8 8 = _
    rw [hline, fget_fset_disj _ _ _ _ _ _ (by decide) (by decide) (by decide),
      fget_fset_disj _ _ _ _ _ _ (by decide) (by decide) (by decide), fget_fset _ _ _ _ (by decide) (by decide), Nat.add_sub_cancel_left,
      pow_one]
  have hdiv : vf s.now (pp p) PathR.LINE_CFG_DIV = k := by
    show fget (s.rd (pageAddr (pp p) 0x050)) 5 4 = _
    rw [hline, fget_fset_disj _ _ _ _ _ _ (by decide) (by decide) (by decide), fget_fset _ _ _ _ (by decide) (by decide)]
    exact Nat.mod_eq_of_lt hk
  have hsel : vf s.now (pp p) PathR.LINE_CFG_PLL_SEL = b2n b % 2 := by
    show fget (s.rd (pageAddr (pp p) 0x050)) 0 0 = _
    rw [hline, fget_fset _ _ _ _ (by decide) (by decide), Nat.add_sub_cancel_left, pow_one]
  refine ⟨?_, by rw [vDiv, hdiv], ?_⟩
  · rw [vPam4, hmod]
    cases r.pam4 <;> rfl
  · rw [vSel, hsel]
    cases b <;> rfl

/-- PROF_CFG of an Ethernet-aware path that the set-up scene would not change gives the scene's PHY and FEC. -/
theorem State.prof_of_anWrites {r : AnResult} {c : Bool × Nat} (hprof : s.profile p = 3)
    (h : ∀ e ∈ s.anWrites r c p, s.rd e.1 = e.2) :
    s.f (pp p) PathR.PROF_CFG_PHY = r.phy.toNat ∧ s.f (pp p) PathR.PROF_CFG_FEC = r.fec.toNat := by
  have hcfg := h (pageAddr (pp p) 0x340, _) (List.mem_cons_of_mem _ (by rw [if_pos hprof]; exact List.mem_cons_self))
  dsimp only at hcfg
  constructor
  · show fget (s.rd (pageAddr (pp p) 0x340)) 10 8 = _
    rw [hcfg, fget_fset_disj _ _ _ _ _ _ (by decide) (by decide) (by decide), fget_fset _ _ _ _ (by decide) (by decide)]
    exact Nat.mod_eq_of_lt r.phy.isLt
  · show fget (s.rd (pageAddr (pp p) 0x340)) 6 4 = _
    rw [hcfg, fget_fset _ _ _ _ (by decide) (by decide)]
    exact Nat.mod_eq_of_lt r.fec.isLt

/-- Where every write of the set-up scene finds its own value, the port already meets the resolution. -/
theorem State.anMeets_of_scene {r : AnResult} {b : Bool} {k : Nat}
    (hchoose : s.anChoose (pathGrp (pathAB n)) r.kbd.toNat = some (b, k))
    (hscene : (s.anScene n r (b, k)).all (fun e => s.rd e.1 == e.2) = true) : s.anMeets n r = true := by
  obtain ⟨hk, hpll, hrate⟩ := State.anChoose_spec hchoose
  refine List.all_eq_true.2 fun p hp => ?_
  have hwrites : ∀ e ∈ s.anWrites r (b, k) p, s.rd e.1 = e.2 := fun e he =>
    beq_iff_eq.1 (List.all_eq_true.1 hscene e (List.mem_flatMap.2 ⟨p, hp, he⟩))
  obtain ⟨hmod, hdiv, hsel⟩ := State.line_of_anWrites hk hwrites
  have hgrp := State.pathGrp_of_mem_portSegs hp
  have hat : vRateAt s.now p r.kbd.toNat = true := by
    rw [vRateAt, vPathFvco, hdiv, hsel, hgrp]
    exact decide_eq_true hrate
  rw [hsel, hgrp, hpll, hmod, hat, beq_self_eq_true, Bool.true_and, Bool.true_and, Bool.true_and]
  by_cases hprof : s.profile p = 3
  · obtain ⟨hphy, hfec⟩ := State.prof_of_anWrites hprof hwrites
    simp [hphy, hfec]
  · simp [hprof]

/-! ### The entry to TRAIN_INIT leaves a set-up and AN_STAT alone (R114) -/

/-- `t` has the set-up under way of every segment as `s` has it. -/
def State.KeepsSetup (s t : State) : Prop := ∀ m : Path, (t.seg m).setup = (s.seg m).setup

theorem State.KeepsSetup.trans {u : State} (h : s.KeepsSetup t) (k : t.KeepsSetup u) : s.KeepsSetup u := fun m => (k m).trans (h m)

/-- What touches no record. -/
theorem State.KeepsSetup.of_paths (h : t.paths = s.paths) : s.KeepsSetup t := fun m => by
  rw [State.seg, State.path, h, ← State.path, ← State.seg]

theorem State.modSeg_keepsSetup (s : State) (p : Path) (f : SegSt → SegSt) (hf : ∀ x, (f x).setup = x.setup) :
    s.KeepsSetup (s.modSeg p f) := fun m => by
  by_cases h : m = p
  · rw [h, State.seg_modSeg_self, hf]
  · rw [State.seg_modSeg_ne _ _ h]

theorem State.presetApply_keepsSetup (s : State) (p : Path) (k : Nat) : s.KeepsSetup (s.presetApply p k) := by
  unfold State.presetApply
  split
  · exact s.modSeg_keepsSetup p _ fun _ => rfl
  · refine (s.modSeg_keepsSetup p _ ?_).trans (.of_paths (State.presetNow_touches (qs := []) _ k).paths_eq)
    exact fun _ => rfl

theorem State.segClear_keepsSetup (s : State) (p : Path) : s.KeepsSetup (s.segClear p) := by
  unfold State.segClear
  refine State.KeepsSetup.trans (.of_paths (State.LaneTouches.paths_eq (qs := []) (l := regsOf (pp p) [0x224]) ?_))
    (State.modSeg_keepsSetup _ p _ ?_)
  · exact (((State.LaneTouches.refl _ _ _ s).setF _ (by decide)).setF _ (by decide)).setF _ (by decide)
  · exact fun _ => rfl

theorem State.segInit_keepsSetup (s : State) (p : Path) : s.KeepsSetup (s.segInit p) := by
  have hset : ∀ u : State, u.KeepsSetup (u.segSet p sgInit) := fun u => .of_paths
    ((State.LaneTouches.refl {} [] (regsOf (pp p) [0x224]) u).setF sgInit (by decide)).paths_eq
  have hdrawn : s.KeepsSetup s.draw.2 := .of_paths rfl
  unfold State.segInit
  refine ((((hdrawn.trans (State.segClear_keepsSetup _ p)).trans (hset _)).trans (State.modSeg_keepsSetup _ p _ ?_)).trans
    (.of_paths (State.seedRx_touches (qs := []) _).paths_eq)).trans (State.presetApply_keepsSetup _ p _)
  exact fun _ => rfl

/-- The entry to TRAIN_INIT of one segment keeps AN_STAT of every path. -/
theorem State.segInit_anStat (s : State) (p m : Path) :
    (s.segInit p).f (pp m) PathR.AN_STAT_AN_STATE = s.f (pp m) PathR.AN_STAT_AN_STATE := by
  have hoff : ∀ g : Path, ∀ offs : List Nat, (∀ o ∈ offs, o < 4096 ∧ o ≠ 0x214) → pageAddr (pp m) 0x214 ∉ regsOf (pp g) offs :=
    fun g offs ho hm => by
      obtain ⟨o, hmem, heq⟩ := List.mem_map.1 hm
      exact (ho o hmem).2 ((pageAddr_inj (ho o hmem).1 (by decide)).1 heq).2
  refine (State.segInit_touches (P := { paths := true, free := true }) (qs := [p]) rfl List.mem_cons_self rfl s).1.f ?_
    (pageAddr_path_not_side m _)
  simp only [initRegs, presetRegs, List.mem_append, not_or]
  exact ⟨hoff p _ (by decide), hoff p _ (by decide), hoff (otherPath p) _ (by decide)⟩

/-- A property that each step of a sequence keeps holds after it. -/
theorem forAll_keeps {α : Type} {M : State → Prop} (h : M s) (as : List α) {f : α → State → State} (hf : ∀ a u, M u → M (f a u)) :
    M (forAll as f s) := by
  induction as generalizing s with
  | nil => exact h
  | cons a as ih => exact ih (hf a s h)

/-- Once a set-up is done AN_STATE shows it, and none is under way. -/
theorem State.anDone_done (s : State) (n : Lane) :
    (s.anDone n).f (pp (pathAB n)) PathR.AN_STAT_AN_STATE = 3 ∧ ((s.anDone n).seg (pathAB n)).setup = none := by
  unfold State.anDone
  extract_lets done raised
  have hraise : ∀ (u : State) (q : Path), u.LaneTouches {} [] (regsOf (pp q) [0x010]) (u.raise (pp q) 7) := fun u q =>
    (State.LaneTouches.refl {} [] (regsOf (pp q) [0x010]) u).raise 7 (by decide)
  have hstat : ∀ (u : State) (q : Path), (u.raise (pp q) 7).f (pp (pathAB n)) PathR.AN_STAT_AN_STATE =
      u.f (pp (pathAB n)) PathR.AN_STAT_AN_STATE := fun u q => (hraise u q).f_path (by decide) (by decide) fun _ => by decide
  refine forAll_keeps (M := fun u => u.f (pp (pathAB n)) PathR.AN_STAT_AN_STATE = 3 ∧ (u.seg (pathAB n)).setup = none) ⟨?_, ?_⟩ _
    fun q u ⟨hstate, hsetup⟩ => ?_
  · rw [hstat, hstat, State.f_modSeg, State.f_setF_self _ _ _ _ (by decide) (by decide)]
    rfl
  · rw [State.KeepsSetup.of_paths (hraise _ _).paths_eq _, State.KeepsSetup.of_paths (hraise _ _).paths_eq _,
      State.seg_modSeg_self]
  · unfold State.setupRow
    split
    · exact ⟨(u.segInit_anStat q _).trans hstate, (u.segInit_keepsSetup q _).trans hsetup⟩
    · exact ⟨hstate, hsetup⟩

/-- A set-up whose scene finds its own values in place, with the segment in AN_SETUP and not held, is done. -/
theorem State.anSetup_of_scene {r : AnResult} {b : Bool} {k : Nat} (hset : (s.seg (pathAB n)).setup = some r)
    (hsg : s.sg (pathAB n) = sgSetup) (hfree : s.inHold (pp (pathAB n)) = false)
    (hchoose : s.anChoose (pathGrp (pathAB n)) r.kbd.toNat = some (b, k))
    (hscene : (s.anScene n r (b, k)).all (fun e => s.rd e.1 == e.2) = true) : s.anSetup n = s.anDone n := by
  simp [State.anSetup, hset, hsg, hfree, State.anMeets_of_scene hchoose hscene]

/-! ### AN_MASK (R120) -/

/-- The field of AN_MASK. -/
def anMaskRow : Row := { fld := PathR.AN_MASK_MASK, acc := .rw, rst := 0xFFFFFFFF }

theorem rowsAt_anMask (n : Lane) : rowsAt (pp (pathAB n)) 0x210 = [anMaskRow] := by
  have hrows : (rowsHdr ++ rowsPath).filter (rowCovers 0x210) = [anMaskRow] := by decide +kernel
  have hmir : mirrorReg (pp (pathAB n)) 0x210 = false := by
    have hlow : ¬ 64 ≤ (pathAB n).val := Nat.not_le.2 n.isLt
    simp only [mirrorReg, hlow, decide_false, Bool.false_and]
  simp [rowsAt, pageRows, hrows, hmir]

/-- A whole word laid over another replaces it. -/
theorem fset_merge_whole (w old data : Word) : fset w 31 0 (fget (merge old data allOnes) 31 0) = data := by
  have hall : ∀ i, 0 ≤ i → i ≤ 31 → allOnes.getLsbD i = true := by decide
  have hlt := data.isLt
  have hw := w.isLt
  apply BitVec.eq_of_toNat_eq
  rw [fget_merge hall, fset, fget, BitVec.toNat_ofNat]
  omega

/-- A whole word written to AN_MASK is what it holds. -/
theorem writeOut_anMask (v : Nat → Word) (n : Lane) (mask : Word) :
    (writeOut v false (pp (pathAB n)) 0x210 mask allOnes).word = mask := by
  have hmask : allOnes &&& ~~~ctlUnsupported (pp (pathAB n)) 0x210 = allOnes := by
    rw [ctlUnsupported, if_neg (by decide)]
    rfl
  have hwritten : ¬ (allOnes &&& fldMask 31 0 == 0) = true := by decide
  simp only [writeOut, rowsAt_anMask, List.foldl_cons, List.foldl_nil, hmask, writeRow, anMaskRow, PathR.AN_MASK_MASK, hwritten]
  exact fset_merge_whole _ _ _

/-- A write of AN_MASK that is taken stores it, and clears AN_AUTOMASK. -/
theorem State.offerAnMask_stores {c : Src} {mask : Word} (h : s.takes c (pp (pathAB n)) 0x210 mask allOnes = true) :
    (s.offerReg c (pp (pathAB n)) 0x210 mask allOnes).rd (pageAddr (pp (pathAB n)) 0x210) = mask ∧
      (s.offerReg c (pp (pathAB n)) 0x210 mask allOnes).rd (pageAddr (pp (pathAB n)) 0x218) = 0 := by
  have hkind : wrKind (pp (pathAB n)) 0x210 = .fields := by simp [wrKind, isCmdWord]
  obtain ⟨v, u, -, hlead, hword, -⟩ :=
    State.offerReg_leads h hkind (fun _ => rfl) (ownReg_path (pathAB n) (by decide) (by decide) (by decide))
  have heffect : ∀ old act wrote, u.directEffect (pp (pathAB n)) 0x210 old act wrote = u.wr (pageAddr (pp (pathAB n)) 0x218) 0 := by
    intros
    simp [State.directEffect, State.effect, State.effPath]
  have hne : pageAddr (pp (pathAB n)) 0x210 ≠ pageAddr (pp (pathAB n)) 0x218 := fun e =>
    absurd ((pageAddr_inj (by decide) (by decide)).1 e).2 (by decide)
  rw [hlead, heffect]
  exact ⟨by rw [State.rd_wr_ne _ _ _ _ hne, hword, writeOut_anMask], State.rd_wr_self ..⟩

end Sys2Proof.Machine
end

section
/-!
SUPPORT. A training restart (R114, R139): both segments of the lane pair go to BREAK with cause 8, and neither the propagation to their port
nor the settling of the lane pair counts another restart of theirs.
-/
namespace Sys2Proof.Machine

variable {P : LaneParts} {qs : List Path} {offs : List Nat} {n : Lane} {p q : Path} {st r : Nat} {s t : State}

/-- The segment stands in state `st` after a restart by the host, which has brought its RESTARTS to `r`. -/
def State.Restarted (s : State) (p : Path) (st r : Nat) : Prop :=
  s.sg p = st ∧ s.f (pp p) PathR.TRN_STAT_LAST_CAUSE = 8 ∧ s.f (pp p) PathR.TRN_CNT1_RESTARTS = r

/-- What leaves TRN_STAT and TRN_CNT1 of the segment alone. -/
theorem State.Restarted.of_touches (h : s.Restarted p st r) (k : s.LaneTouches P qs (regsOf (pp q) offs) t) (ho : ∀ o ∈ offs, o < 4096)
    (hne : p = q → 0x224 ∉ offs ∧ 0x23C ∉ offs) : t.Restarted p st r := by
  obtain ⟨hsg, hcause, hcount⟩ := h
  exact ⟨(k.f_path (x := PathR.TRN_STAT_STATE) (by decide) ho fun e => (hne e).1).trans hsg,
    (k.f_path (by decide) ho fun e => (hne e).1).trans hcause, (k.f_path (by decide) ho fun e => (hne e).2).trans hcount⟩

/-! ### The segments stop -/

/-- A segment stopped in BREAK with cause 8 has one restart more. -/
theorem State.segStop_restarted (s : State) (p : Path) :
    (s.segStop p sgBreak 8).Restarted p sgBreak (satNat 0xFFF (s.f (pp p) PathR.TRN_CNT1_RESTARTS + 1)) := by
  unfold State.segStop
  extract_lets discarded
  have hcleared : s.LaneTouches { paths := true } [p] (regsOf (pp p) [0x224, 0x2C8]) ((discarded.segClear p).segSet p sgBreak) := by
    refine State.LaneTouches.setF (State.LaneTouches.trans ?_ ((State.segClear_touches rfl List.mem_cons_self _).widen (by decide))) _
      (by decide)
    exact .ite ((s.discard_touches rfl List.mem_cons_self).widen (by decide)) (.refl _ _ _ s)
  have hcount := hcleared.f_path (q := p) (x := PathR.TRN_CNT1_RESTARTS) (by decide) (by decide) fun _ => by decide
  have hstate : ((discarded.segClear p).segSet p sgBreak).sg p = sgBreak := State.f_setF_self _ _ _ _ (by decide) (by decide)
  generalize (discarded.segClear p).segSet p sgBreak = stopped at *
  have hraised : ∀ u : State, u.LaneTouches {} [] (regsOf (pp p) [0x010]) ((u.raise (pp p) 6).raiseIf (sgBreak == sgFailed) (pp p) 19) :=
    fun u => ((State.LaneTouches.refl _ _ _ u).raise _ (by decide)).raiseIf _ _ (by decide)
  have hcounted : ∀ (u : State) (x : Fld), x.off = 0x224 → (u.inc (pp p) PathR.TRN_CNT1_RESTARTS).f (pp p) x = u.f (pp p) x :=
    fun u x hx => ((State.LaneTouches.refl {} [] (regsOf (pp p) [0x23C]) u).inc (by decide)).f_path (by rw [hx]; decide) (by decide)
      fun _ => by rw [hx]; decide
  refine State.Restarted.of_touches ⟨?_, ?_, ?_⟩ (hraised _) (by decide) fun _ => by decide
  · rw [State.sg, hcounted _ _ rfl, State.f_setF_disj _ _ _ _ _ (by decide) (by decide) (by decide), ← State.sg, hstate]
  · rw [hcounted _ _ rfl, State.f_setF_self _ _ _ _ (by decide) (by decide)]
    rfl
  · rw [State.f_inc_self _ _ (by decide) (by decide), ← hcount,
      ((State.LaneTouches.refl {} [] (regsOf (pp p) [0x224]) stopped).setF 8 (by decide)).f_path (by decide) (by decide) fun _ => by decide]
    rfl

/-- A restart that reaches any segment leaves one that is in BREAK as it is (R139). -/
theorem State.Restarted.segBreak (h : s.Restarted p sgBreak r) (cause : Nat) (q : Path) : (s.segBreak cause q).Restarted p sgBreak r := by
  unfold State.segBreak
  split
  · exact h
  next hidle =>
    have hne : p ≠ q := by
      rintro rfl
      exact hidle (by rw [State.segIdle, h.1]; decide)
    exact h.of_touches (s.segStop_touches (P := { paths := true }) (qs := [q]) rfl List.mem_cons_self sgBreak cause) (by decide)
      fun e => absurd e hne

theorem State.Restarted.propagate (h : s.Restarted p sgBreak r) (q : Path) : (s.propagate q).Restarted p sgBreak r := by
  unfold State.propagate State.propagateBy
  split
  · exact h
  · exact forAll_keeps (M := fun u => u.Restarted p sgBreak r) h _ fun q u hu => hu.segBreak 7 q

theorem pathAB_ne_pathBA (n : Lane) : pathAB n ≠ pathBA n := fun h => by
  have := congrArg Fin.val h
  simp only [pathAB, pathBA] at this
  omega

/-- The host's restart puts both segments in BREAK and counts one in each. -/
theorem State.restart_restarted (ha : s.sg (pathAB n) ≠ sgDisabled) (hb : s.sg (pathBA n) ≠ sgDisabled) :
    (s.restart n).Restarted (pathAB n) sgBreak (satNat 0xFFF (s.f (pp (pathAB n)) PathR.TRN_CNT1_RESTARTS + 1)) ∧
      (s.restart n).Restarted (pathBA n) sgBreak (satNat 0xFFF (s.f (pp (pathBA n)) PathR.TRN_CNT1_RESTARTS + 1)) := by
  have htouch : ∀ (u : State) (q : Path), u.LaneTouches { paths := true } [q] (regsOf (pp q) stopOffs) (u.segStop q sgBreak 8) :=
    fun u q => u.segStop_touches rfl List.mem_cons_self sgBreak 8
  have hforceA : s.segForce (pathAB n) = s.segStop (pathAB n) sgBreak 8 := by simp [State.segForce, ha]
  have hstay : ∀ x : Fld, x.off < 4096 → (s.segStop (pathAB n) sgBreak 8).f (pp (pathBA n)) x = s.f (pp (pathBA n)) x := fun x hx =>
    (htouch s (pathAB n)).f_path hx (by decide) fun e => absurd e.symm (pathAB_ne_pathBA n)
  have hforceB : (s.segStop (pathAB n) sgBreak 8).segForce (pathBA n) = (s.segStop (pathAB n) sgBreak 8).segStop (pathBA n) sgBreak 8 := by
    have hb' : (s.segStop (pathAB n) sgBreak 8).sg (pathBA n) ≠ sgDisabled := (hstay PathR.TRN_STAT_STATE (by decide)).trans_ne hb
    simp [State.segForce, hb']
  have hstopA := (s.segStop_restarted (pathAB n)).of_touches (htouch _ (pathBA n)) (by decide) fun e => absurd e (pathAB_ne_pathBA n)
  have hstopB := (s.segStop (pathAB n) sgBreak 8).segStop_restarted (pathBA n)
  rw [hstay _ (by decide)] at hstopB
  unfold State.restart
  rw [hforceA, hforceB]
  exact ⟨(hstopA.propagate _).propagate _, (hstopB.propagate _).propagate _⟩

/-! ### The lane pair settles -/

/-- A segment rests in BREAK or DISABLED: no row of R114 moves it by itself. -/
def restsAt (st : Nat) : Prop := st = sgBreak ∨ st = sgDisabled

/-- The disabling condition takes a segment in BREAK to DISABLED at the most. -/
theorem State.disableRow_of_break (h : s.sg p = sgBreak) :
    s.disableRow p = s ∨ s.disableRow p = (s.segClear p).segSet p sgDisabled := by
  have hne : (s.sg p == sgDisabled) = false := by rw [h]; decide
  unfold State.disableRow
  simp only [hne, Bool.false_eq_true, if_false]
  split
  · exact .inr rfl
  · exact .inl rfl

/-- Going to DISABLED moves neither the cause nor the count. -/
theorem State.f_segDisabled (s : State) (p : Path) {x : Fld} (hx : x = PathR.TRN_STAT_LAST_CAUSE ∨ x = PathR.TRN_CNT1_RESTARTS) :
    ((s.segClear p).segSet p sgDisabled).f (pp p) x = s.f (pp p) x := by
  unfold State.segClear State.segSet
  rcases hx with rfl | rfl <;> simp (disch := decide) only [State.f_setF_disj, State.f_modSeg]

theorem State.Restarted.disableRow (h : s.Restarted p sgBreak r) : ∃ st, restsAt st ∧ (s.disableRow p).Restarted p st r := by
  rcases State.disableRow_of_break h.1 with e | e
  · exact ⟨sgBreak, .inl rfl, by rwa [e]⟩
  · obtain ⟨-, hcause, hcount⟩ := h
    refine ⟨sgDisabled, .inr rfl, ?_⟩
    rw [e]
    exact ⟨State.f_setF_self _ _ _ _ (by decide) (by decide), (s.f_segDisabled p (.inl rfl)).trans hcause,
      (s.f_segDisabled p (.inr rfl)).trans hcount⟩

/-- The disabling of one segment in BREAK leaves the others alone. -/
theorem State.Restarted.disableRow_other (h : s.Restarted p st r) (hq : s.sg q = sgBreak) (hne : p ≠ q) :
    (s.disableRow q).Restarted p st r := by
  rcases State.disableRow_of_break hq with e | e
  · rwa [e]
  · rw [e]
    exact h.of_touches ((s.segClear_touches (P := { paths := true }) (qs := [q]) rfl List.mem_cons_self).setF _ (by decide)) (by decide)
      fun e => absurd e hne

theorem State.waitRow_of_rests (h : restsAt (s.sg p)) : s.waitRow p = s := by
  unfold State.waitRow
  rcases h with h | h <;> simp [h, sgBreak, sgDisabled, sgWait]

theorem State.setupRow_of_rests (h : restsAt (s.sg p)) : s.setupRow p = s := by
  unfold State.setupRow
  rcases h with h | h <;> simp [h, sgBreak, sgDisabled, sgSetup]

theorem State.readyRow_of_rests (h : restsAt (s.sg p)) : s.readyRow p = s := by
  unfold State.readyRow
  rcases h with h | h <;> simp [h, sgBreak, sgDisabled, sgInit, sgExch, sgHold, sgReady]

theorem State.relayRow_of_rests (h : restsAt (s.sg (pathAB n))) : s.relayRow n = s := by
  unfold State.relayRow
  rcases h with h | h <;> simp [h, sgBreak, sgDisabled, sgWait]

theorem State.readyPair_of_rests (ha : restsAt (s.sg (pathAB n))) (hb : restsAt (s.sg (pathBA n))) : s.readyPair n = s := by
  simp only [State.readyPair, State.readyRow_of_rests ha, State.readyRow_of_rests hb]

/-- Settling the lane pair moves neither segment's cause nor its count. -/
theorem State.settle_restarted {ra rb : Nat} (ha : s.Restarted (pathAB n) sgBreak ra) (hb : s.Restarted (pathBA n) sgBreak rb) :
    ∃ sta stb, (s.settle n).Restarted (pathAB n) sta ra ∧ (s.settle n).Restarted (pathBA n) stb rb := by
  have hpath : ∀ (u : State) (p q : Path) (st r : Nat), u.Restarted p st r → (u.settlePath q).Restarted p st r := fun u p q st r h =>
    h.of_touches (u.settlePath_touches (P := { paths := true, ctrs := true, free := true }) (qs := [q]) rfl List.mem_cons_self rfl rfl)
      (by decide) fun _ => by decide
  have hb' := hb.disableRow_other ha.1 (pathAB_ne_pathBA n).symm
  obtain ⟨sta, hresta, ha'⟩ := ha.disableRow
  obtain ⟨stb, hrestb, hb''⟩ := hb'.disableRow
  have ha'' := ha'.disableRow_other hb'.1 (pathAB_ne_pathBA n)
  rw [← ha''.1] at hresta
  rw [← hb''.1] at hrestb
  refine ⟨sta, stb, ?_⟩
  unfold State.settle
  simp only [State.relayRow_of_rests hresta, State.waitRow_of_rests hresta, State.waitRow_of_rests hrestb, State.setupRow_of_rests hresta,
    State.setupRow_of_rests hrestb, State.readyPair_of_rests hresta hrestb]
  exact ⟨hpath _ _ _ _ _ (hpath _ _ _ _ _ ha''), hpath _ _ _ _ _ (hpath _ _ _ _ _ hb'')⟩

/-! ### TRN_CTL (R139) -/

/-- The fields of TRN_CTL. -/
def precodeRow : Row := { fld := PathR.TRN_CTL_PRECODE_REQ, acc := .rw, rst := 0x2, legal := [(0, 2)] }
def holdReadyRow : Row := { fld := PathR.TRN_CTL_HOLD_READY, acc := .rw, rst := 0x0 }
def restartRow : Row := { fld := PathR.TRN_CTL_RESTART, acc := .w1s, rst := 0x0 }

theorem rowsAt_trnCtl (p : Path) : rowsAt (pp p) 0x204 = [precodeRow, holdReadyRow, restartRow] := by
  have hrows : (rowsHdr ++ rowsPath).filter (rowCovers 0x204) = [precodeRow, holdReadyRow, restartRow] := by decide +kernel
  simp [rowsAt, pageRows, mirrorReg, hrows]

/-- RESTART written alone is an action. -/
theorem writeOut_restart (v : Nat → Word) (p : Path) : (writeOut v false (pp p) 0x204 (fset 0 0 0 1) (fldMask 0 0)).act = 1#32 := by
  have hmask : fldMask 0 0 &&& ~~~ctlUnsupported (pp p) 0x204 = fldMask 0 0 := by
    rw [ctlUnsupported, if_neg (by decide)]
    exact BitVec.and_allOnes
  simp only [writeOut, rowsAt_trnCtl, List.foldl_cons, List.foldl_nil, hmask]
  rw [writeRow_of_not_written (r := precodeRow) (by decide), writeRow_of_not_written (r := holdReadyRow) (by decide),
    writeRow_w1s (r := restartRow) rfl (by decide)]
  exact (by decide : (0 : Word) ||| (fset 0 0 0 1 &&& fldMask 0 0 &&& fldMask 0 0) = 1#32)

/-- RESTART that is taken restarts and settles the lane pair, from a state that has TRN_STAT and TRN_CNT1 of every path as they were. -/
theorem State.offerRestart_leads {c : Src} (h : s.takesF c (pp p) PathR.TRN_CTL_RESTART 1 = true) :
    ∃ u : State, s.offerAct c (pp p) PathR.TRN_CTL_RESTART = (u.restart (laneOf p)).settle (laneOf p) ∧
      ∀ (q : Path) (x : Fld), x.off = 0x224 ∨ x.off = 0x23C → u.f (pp q) x = s.f (pp q) x := by
  have htakes : s.takes c (pp p) 0x204 (fset 0 0 0 1) (fldMask 0 0) = true := h
  have hkind : wrKind (pp p) 0x204 = .fields := by simp [wrKind, isCmdWord]
  obtain ⟨v, u, -, hlead, -, hframe, -⟩ :=
    State.offerReg_leads htakes hkind (fun _ => rfl) (ownReg_path p (by decide) (by decide) (by decide))
  have heffect : ∀ old wrote, u.directEffect (pp p) 0x204 old 1#32 wrote = (u.restart (laneOf p)).settle (laneOf p) := by
    intros
    simp [State.directEffect, State.effect, State.effPath, wbit]
  refine ⟨u, ?_, fun q x hx => hframe.f ?_ (pageAddr_path_not_side q _)⟩
  · rw [writeOut_restart, heffect] at hlead
    exact hlead
  · rcases hx with hx | hx <;> simp only [hx, storeRegs, pageAddr, pageNum, List.mem_cons, List.not_mem_nil, or_false] <;> omega

/-- RESTART that is taken counts one in each segment of the lane pair, with cause 8. -/
theorem State.offerRestart_counts {c : Src} (h : s.takesF c (pp p) PathR.TRN_CTL_RESTART 1 = true)
    (ha : s.sg (pathAB (laneOf p)) ≠ sgDisabled) (hb : s.sg (pathBA (laneOf p)) ≠ sgDisabled) :
    ∃ sta stb, (s.offerAct c (pp p) PathR.TRN_CTL_RESTART).Restarted (pathAB (laneOf p)) sta
        (satNat 0xFFF (s.f (pp (pathAB (laneOf p))) PathR.TRN_CNT1_RESTARTS + 1)) ∧
      (s.offerAct c (pp p) PathR.TRN_CTL_RESTART).Restarted (pathBA (laneOf p)) stb
        (satNat 0xFFF (s.f (pp (pathBA (laneOf p))) PathR.TRN_CNT1_RESTARTS + 1)) := by
  obtain ⟨u, hlead, hkept⟩ := State.offerRestart_leads h
  have hsg : ∀ q, u.sg q = s.sg q := fun q => hkept q PathR.TRN_STAT_STATE (.inl rfl)
  obtain ⟨hbroken, hbroken'⟩ := State.restart_restarted (s := u) ((hsg _).trans_ne ha) ((hsg _).trans_ne hb)
  rw [hkept _ PathR.TRN_CNT1_RESTARTS (.inr rfl)] at hbroken hbroken'
  rw [hlead]
  exact State.settle_restarted hbroken hbroken'

end Sys2Proof.Machine

open Sys2Proof Sys2Proof.Machine

/-- Settles O7: what each command leads to, under the hypotheses of its clause. What a bad page counts, the place of the abilities in a base
page and the end of a set-up are as the model has them (logs 27, 28 and 69). -/
theorem autonegCommandsComplete : Obligations.AutonegCommandsComplete := by
  refine ⟨fun c p s h ha hb => ⟨_, rfl, ?_⟩, fun p page base s hrelay => ⟨_, rfl, ?_⟩, fun p page base res s hrelay => ⟨_, rfl, ?_⟩,
    fun n r b k s hset hsg hfree hchoose hscene _ => ⟨_, rfl, ?_⟩, fun c n mask s h => ⟨_, rfl, State.offerAnMask_stores h⟩⟩
  · obtain ⟨_, _, ⟨-, hcause, hcount⟩, ⟨-, hcause', hcount'⟩⟩ := State.offerRestart_counts h ha hb
    exact ⟨hcount, hcount', hcause, hcause'⟩
  · rw [State.anPage_relays hrelay]
    exact s.anRelay_sends p page base
  · rw [State.anPage_bad hrelay]
    exact s.anPageBad_counts p
  · rw [State.anSetup_of_scene hset hsg hfree hchoose hscene]
    exact s.anDone_done n

end

section
/-!
SUPPORT. What leaves the TIME page and the time record alone (`State.KeepsTime`): the captures, the wakes, the cues and the probes that a
mark comes to (R106, R154 to R156, R366, R278).
-/
namespace Sys2Proof.Machine

variable {s t u : State}

/-! ### Rules -/

/-- `t` has every register of the TIME page, and the time record, as `s` has them. -/
def State.KeepsTime (s t : State) : Prop :=
  (∀ off, off < 4096 → t.rd (pageAddr .time off) = s.rd (pageAddr .time off)) ∧ t.time = s.time

theorem pageAddr_time_ne {off o : Nat} (h : off < 4096) {g : Page} (hg : g ≠ .time) (ho : o < 4096) :
    pageAddr .time off ≠ pageAddr g o := fun e => hg ((pageAddr_inj h ho).1 e).1.symm

theorem pageAddr_time_not_side {off : Nat} (h : off < 4096) : pageAddr .time off ∉ sideRegs := by
  simp only [pageAddr, pageNum, sideRegs, List.mem_cons, List.not_mem_nil, or_false]
  omega

theorem pageAddr_time_notMem_regsOf {off : Nat} (h : off < 4096) {g : Page} (hg : g ≠ .time) {offs : List Nat}
    (ho : ∀ o ∈ offs, o < 4096) : pageAddr .time off ∉ regsOf g offs := fun hm => by
  obtain ⟨o, hmem, heq⟩ := List.mem_map.1 hm
  exact pageAddr_time_ne h hg (ho o hmem) heq.symm

theorem State.KeepsTime.refl (s : State) : s.KeepsTime s := ⟨fun _ _ => rfl, rfl⟩

theorem State.KeepsTime.trans (h : s.KeepsTime t) (k : t.KeepsTime u) : s.KeepsTime u :=
  ⟨fun off ho => (k.1 off ho).trans (h.1 off ho), k.2.trans h.2⟩

theorem State.KeepsTime.f (h : s.KeepsTime t) {x : Fld} (hx : x.off < 4096) : t.f .time x = s.f .time x := by
  rw [State.f, h.1 _ hx, State.f]

theorem State.KeepsTime.markP (h : s.KeepsTime t) : t.markP = s.markP := h.f (by decide)

theorem State.KeepsTime.ite {c : Prop} [Decidable c] (h : s.KeepsTime t) (k : s.KeepsTime u) : s.KeepsTime (if c then t else u) := by
  split <;> assumption

theorem State.KeepsTime.foldl {α : Type} {f : State → α → State} (h : s.KeepsTime t) (l : List α)
    (hf : ∀ a (u : State), u.KeepsTime (f u a)) : s.KeepsTime (l.foldl f t) := by
  induction l generalizing t with
  | nil => exact h
  | cons a l ih => exact ih (h.trans (hf a t))

theorem State.KeepsTime.forAll {α : Type} {f : α → State → State} (h : s.KeepsTime t) (l : List α)
    (hf : ∀ a (u : State), u.KeepsTime (f a u)) : s.KeepsTime (forAll l f t) := h.foldl l hf

/-- What changes no register and not the time record. -/
theorem State.KeepsTime.of_regs (h : s.KeepsTime t) (hr : u.regs = t.regs) (ht : u.time = t.time) : s.KeepsTime u :=
  h.trans ⟨fun off _ => by rw [State.rd, State.rd, hr], ht⟩

/-- A command of a path, of whose registers none is of the TIME page. -/
theorem State.LaneTouches.keepsTime {P : LaneParts} {qs : List Path} {l : List Nat} (h : s.LaneTouches P qs l t)
    (hl : ∀ off < 4096, pageAddr .time off ∉ l) : s.KeepsTime t := by
  obtain ⟨hframe, hrest, -⟩ := h
  simp only [State.SameRest, State.withLanes] at hrest
  exact ⟨fun off ho => hframe.1 _ (hl off ho) (pageAddr_time_not_side ho), by simp only [hrest]⟩

/-- Likewise what touches registers alone. -/
theorem State.KeepsTime.of_touches {l : List Nat} (h : s.KeepsTime t) (hu : t.Touches l u) (hl : ∀ off < 4096, pageAddr .time off ∉ l) :
    s.KeepsTime u :=
  h.trans (State.LaneTouches.keepsTime (.of_touches (P := {}) (qs := []) hu) hl)

/-- A field of another page. -/
theorem State.KeepsTime.setF (h : s.KeepsTime t) {g : Page} {x : Fld} (v : Nat) (hg : g ≠ .time := by simp) (hx : x.off < 4096 := by decide) :
    s.KeepsTime (t.setF g x v) :=
  h.of_touches ((State.Touches.refl _ t).setF v List.mem_cons_self) fun _ ho hm =>
    pageAddr_time_ne ho hg hx (List.mem_singleton.1 hm)

theorem State.KeepsTime.raise (h : s.KeepsTime t) {g : Page} (bit : Nat) (hg : g ≠ .time := by simp) : s.KeepsTime (t.raise g bit) :=
  h.of_touches (t.raise_spec g bit) fun _ ho hm => pageAddr_time_ne ho hg (by decide) (List.mem_singleton.1 hm)

theorem State.KeepsTime.viol (h : s.KeepsTime t) {g : Page} (k : Viol) (hg : g ≠ .time := by simp) : s.KeepsTime (t.viol g k) :=
  h.of_touches ⟨(State.Frame.refl t [pageAddr g (violFld k).off]).viol g k (.inl List.mem_cons_self), (State.SameRest.refl t).viol g k⟩
    fun _ ho hm => pageAddr_time_ne ho hg (by cases k <;> decide) (List.mem_singleton.1 hm)

theorem State.KeepsTime.setPath (h : s.KeepsTime t) (p : Path) (v : PathSt) : s.KeepsTime (t.setPath p v) := h.of_regs rfl rfl

theorem State.KeepsTime.modPath (h : s.KeepsTime t) (p : Path) (f : PathSt → PathSt) : s.KeepsTime (t.modPath p f) := h.setPath p _

theorem State.KeepsTime.setGrp (h : s.KeepsTime t) (g : Grp) (v : GroupSt) : s.KeepsTime (t.setGrp g v) := h.of_regs rfl rfl

theorem State.KeepsTime.setJob (h : s.KeepsTime t) (x : JobSt) : s.KeepsTime (t.setJob x) := h.of_regs rfl rfl

theorem State.KeepsTime.draw (h : s.KeepsTime t) : s.KeepsTime t.draw.2 := h.of_regs rfl rfl

/-- Bits of a word of a memory window. -/
theorem State.KeepsTime.mfieldSet (h : s.KeepsTime t) (a hi lo v : Nat) : s.KeepsTime (t.mfieldSet a hi lo v) := by
  obtain ⟨hrd, -, hrest⟩ := t.msetList_spec a (wordBytes (fset (t.mword a) hi lo v))
  simp only [State.SameRest] at hrest
  refine h.trans ⟨fun off _ => hrd _ ?_, by simp only [State.mfieldSet, State.mwordSet, hrest]⟩
  simp only [pageAddr, pageNum]
  omega

/-! ### Captures and wakes at a mark (R106, R366) -/

theorem State.capMark_keepsTime (s : State) (p : Path) : s.KeepsTime (s.capMark p) := by
  unfold State.capMark State.capRun
  exact .ite (((State.KeepsTime.refl s).modPath p _).setF _) (.refl s)

variable {g : Grp}

/-- Exit from INTERMISSION asks for no calibration. -/
theorem State.exitBegin_keepsTime (h : s.pw g ≠ pwOff) (cause : Nat) : s.KeepsTime (s.exitBegin g cause) := by
  unfold State.exitBegin
  extract_lets off named record begun unpinned told
  have hoff : off = false := beq_false_of_ne h
  have hbegun : s.KeepsTime begun := (((State.KeepsTime.refl s).setF _).setF _).setGrp g _
  have hunpinned : s.KeepsTime unpinned := hbegun.forAll _ fun p u => (State.KeepsTime.refl u).setF _
  rw [hoff, if_neg Bool.false_ne_true]
  exact .ite ((hunpinned.raise _).raise _) hunpinned

/-- A wake from INTERMISSION. -/
theorem State.pwBegin_run_keepsTime (h : s.pw g = pwInt) (cause : Nat) (byHost : Bool) : s.KeepsTime (s.pwBegin g rqRun cause byHost) := by
  have hst : (s.setGrp g { s.grp g with target := rqRun, byHost := byHost }).pw g = pwInt := h
  unfold State.pwBegin
  dsimp only
  rw [hst, if_neg (by decide), if_neg (by decide)]
  exact ((State.KeepsTime.refl s).setGrp g _).trans (State.exitBegin_keepsTime (hst.trans_ne (by decide)) cause)

theorem State.pwPend_keepsTime (s : State) (g : Grp) (rq cause : Nat) (byHost : Bool) : s.KeepsTime (s.pwPend g rq cause byHost) :=
  (State.KeepsTime.ite ((State.KeepsTime.refl s).setF _) (.refl s)).setGrp g _

/-- A request during a transition waits for its end (R363). -/
theorem State.pwRequest_moving_keepsTime (h : s.pwMoving g = true) (rq cause : Nat) (byHost : Bool) :
    s.KeepsTime (s.pwRequest g rq cause byHost) := by
  unfold State.pwRequest
  rw [h, Bool.true_or, if_pos rfl]
  exact .ite (.refl s) (.ite ((State.KeepsTime.refl s).viol _) (s.pwPend_keepsTime g rq cause byHost))

theorem State.pulseWake_keepsTime (s : State) (g : Grp) (cause : Nat) : s.KeepsTime (s.pulseWake g cause) := by
  unfold State.pulseWake
  dsimp only
  split
  case isTrue hint => exact .ite (State.pwBegin_run_keepsTime hint _ _) (s.pwPend_keepsTime g _ _ _)
  case isFalse =>
    split
    case isTrue henter =>
      have hmoving : s.draw.2.pwMoving g = true := decide_eq_true (show 4 ≤ s.pw g by rw [henter]; decide)
      have hdrawn : s.KeepsTime s.draw.2 := (State.KeepsTime.refl s).draw
      exact .ite hdrawn (hdrawn.trans (State.pwRequest_moving_keepsTime hmoving _ _ _))
    case isFalse =>
      split
      case isTrue hst =>
        have hmoving : s.pwMoving g = true := decide_eq_true (by rcases hst with hst | hst <;> rw [hst] <;> decide)
        exact State.pwRequest_moving_keepsTime hmoving _ _ _
      case isFalse => exact .refl s

theorem State.markWake_keepsTime (s : State) : s.KeepsTime s.markWake :=
  (State.KeepsTime.refl s).forAll _ fun g u => .ite (u.pulseWake_keepsTime g 5) (.refl u)

/-! ### Cues at a mark (R274, R278) -/

theorem State.KeepsTime.cueOutcome (h : s.KeepsTime t) (c : BitVec 12) (o : Nat) : s.KeepsTime (t.cueOutcome c o) := h.mfieldSet _ _ _ _

theorem State.KeepsTime.cueSetState (h : s.KeepsTime t) (c : BitVec 12) (st : Nat) : s.KeepsTime (t.cueSetState c st) := h.mfieldSet _ _ _ _

theorem State.KeepsTime.cueSkipped (h : s.KeepsTime t) (c : BitVec 12) (n : Nat) : s.KeepsTime (t.cueSkipped c n) := h.mfieldSet _ _ _ _

theorem State.KeepsTime.endCue (h : s.KeepsTime t) (c : BitVec 12) (st o : Nat) : s.KeepsTime (t.endCue c st o) :=
  ((h.cueSetState c st).cueOutcome c o).of_regs rfl rfl

theorem State.jobDue_keepsTime (s : State) (x : JobSt) : s.KeepsTime (s.jobDue x) := by
  have hdue : ∀ y : JobSt, s.KeepsTime (s.nextSeq.2.setJob y) := fun _ => (State.KeepsTime.refl s).of_regs rfl rfl
  unfold State.jobDue
  dsimp only
  split
  · exact (hdue _).cueSetState _ 1
  · exact hdue _

theorem State.rearm_keepsTime (s : State) (x : JobSt) (c : BitVec 12) : s.KeepsTime (s.rearm x c) := by
  unfold State.rearm
  refine .ite (s.jobDue_keepsTime _) ?_
  split
  · exact s.jobDue_keepsTime _
  · exact ((State.KeepsTime.refl s).setJob _).cueSetState c 1

theorem State.lateTime_keepsTime (s : State) (x : JobSt) (c : BitVec 12) (trig : Option Nat) (outcome : Nat) :
    s.KeepsTime (s.lateTime x c trig outcome) := by
  unfold State.lateTime
  extract_lets counted
  have hcounted : s.KeepsTime counted := .ite ((State.KeepsTime.refl s).viol _) (.refl s)
  exact .ite (.ite (hcounted.trans (counted.jobDue_keepsTime _)) (hcounted.setJob _))
    (.ite ((hcounted.cueOutcome c outcome).trans (State.rearm_keepsTime _ x c)) (hcounted.endCue c 6 outcome))

theorem State.markCue_keepsTime (s : State) (x : JobSt) (c : BitVec 12) : s.KeepsTime (s.markCue x c) := by
  unfold State.markCue
  extract_lets due noted counted late next
  have hcounted : s.KeepsTime counted := (State.KeepsTime.refl s).setJob _
  have hlate : s.KeepsTime late := hcounted.viol _
  exact .ite hcounted (.ite (.ite (hcounted.setJob _) (hcounted.trans (counted.lateTime_keepsTime _ c _ 3)))
    (.ite hlate (.ite (hlate.setJob _) ((hlate.setJob _).cueOutcome c 3))))

/-- Presets whose lock is released set TXFIR and TRN_STAT of paths (R124). -/
theorem State.presetsDue_keepsTime (s : State) : s.KeepsTime s.presetsDue := by
  refine (State.KeepsTime.refl s).foldl _ fun e u => ?_
  split
  · next n _ =>
    refine (State.presetApply_touches (P := { paths := true }) (qs := [pathAt e.1]) rfl List.mem_cons_self u n).keepsTime fun off ho hm => ?_
    rcases List.mem_append.1 hm with hm | hm
    · exact pageAddr_time_notMem_regsOf ho (by simp) (by decide) hm
    · exact pageAddr_time_notMem_regsOf ho (by simp) (by decide) hm
  · exact .refl u

theorem State.markCueMiss_keepsTime (s : State) (x : JobSt) (c : BitVec 12) : s.KeepsTime (s.markCueMiss x c) := by
  unfold State.markCueMiss
  extract_lets due noted counted skipped
  have hcounted : s.KeepsTime counted := (State.KeepsTime.refl s).setJob _
  have hskipped : s.KeepsTime skipped := hcounted.cueSkipped c 1
  exact .ite hcounted (.ite (.ite hcounted (((hcounted.setJob _).cueSkipped c 1).cueOutcome c 8))
    ((State.KeepsTime.ite ((hskipped.cueOutcome c 8).trans (State.rearm_keepsTime _ noted c)) (hskipped.endCue c 6 8)).trans
      (State.presetsDue_keepsTime _)))

theorem State.markCues_keepsTime (s : State) {f : State → JobSt → BitVec 12 → State} (hf : ∀ (u : State) x c, u.KeepsTime (f u x c)) :
    s.KeepsTime (s.markCues f) := by
  refine (State.KeepsTime.refl s).foldl _ fun x u => ?_
  split
  · exact .ite (hf u x _) (.refl u)
  · exact .refl u

/-! ### The probes at a mark (R154 to R156, R180) -/

theorem State.newWindow_keepsTime (s : State) (p : Path) : s.KeepsTime (s.newWindow p) := (State.KeepsTime.refl s).modPath p _

theorem State.enterUnverified_keepsTime (s : State) (p : Path) (cause : Nat) : s.KeepsTime (s.enterUnverified p cause) :=
  (State.enterUnverified_touches (P := { paths := true }) (qs := [p]) rfl List.mem_cons_self s cause).keepsTime fun _ ho =>
    pageAddr_time_notMem_regsOf ho (by simp) (by decide)

theorem State.zeroPath_keepsTime (s : State) (p : Path) : s.KeepsTime (s.zeroPath p) := by
  unfold State.zeroPath State.resumeProbe
  extract_lets zeroed cause
  have hzeroed : s.KeepsTime zeroed := ((State.KeepsTime.refl s).modPath p _).setF _
  exact .ite ((hzeroed.modPath p _).trans (State.newWindow_keepsTime _ p)) hzeroed

theorem State.pauseProbe_keepsTime (s : State) (p : Path) (cause : Nat) : s.KeepsTime (s.pauseProbe p cause) := by
  unfold State.pauseProbe
  extract_lets record paused st
  have hpaused : s.KeepsTime paused := ((State.KeepsTime.refl s).setPath p _).trans (State.newWindow_keepsTime _ p)
  exact .ite (.refl s) (.ite hpaused (.ite (hpaused.setF _) (hpaused.trans (paused.enterUnverified_keepsTime p cause))))

theorem State.missPath_keepsTime (s : State) (moved : Bool) (p : Path) : s.KeepsTime (s.missPath moved p) := by
  unfold State.missPath
  extract_lets missed shown
  have hshown : s.KeepsTime shown := ((State.KeepsTime.refl s).modPath p _).setF _
  exact .ite (hshown.trans (shown.pauseProbe_keepsTime p _)) hshown

theorem State.convRecord_keepsTime (s : State) (p : Path) : s.KeepsTime (s.convRecord p) := by
  unfold State.convRecord
  extract_lets now measured
  have hmeasured : s.KeepsTime measured.2 := by
    have hdrawn : s.KeepsTime s.draw.2 := (State.KeepsTime.refl s).draw
    simp only [measured]
    split
    · split
      · exact .refl s
      · exact hdrawn
    · exact hdrawn
  exact .ite (.refl s) (((hmeasured.modPath p _).setF _).setF _)

end Sys2Proof.Machine
end

section
/-!
SUPPORT. Marks: what one that is seen shows (`State.ShowsMark`), and when the next one is expected (R154, R155, R491).
-/
namespace Sys2Proof.Machine

variable {s t u : State}

/-! ### A mark that is seen (R216) -/

/-- `t` shows one mark more than `s`, which came at the instant of `s`; the other fields of its register, and the period, are as in `s`. -/
structure State.ShowsMark (s t : State) : Prop where
  marks : t.f .time TimeR.MARK_STAT_MARKS = (s.f .time TimeR.MARK_STAT_MARKS + 1) % 2 ^ 16
  stamp : ∀ i : Fin 4, t.rd (pageAddr .time (0x0A0 + 4 * i.val)) = quadWord s.stamp i.val
  internal : t.f .time TimeR.MARK_STAT_INTERNAL = s.f .time TimeR.MARK_STAT_INTERNAL
  moved : t.f .time TimeR.MARK_STAT_MOVED = s.f .time TimeR.MARK_STAT_MOVED
  period : t.markP = s.markP

theorem State.ShowsMark.keeps (h : s.ShowsMark t) (k : t.KeepsTime u) : s.ShowsMark u where
  marks := (k.f (by decide)).trans h.marks
  stamp i := (k.1 _ (by omega)).trans (h.stamp i)
  internal := (k.f (by decide)).trans h.internal
  moved := (k.f (by decide)).trans h.moved
  period := k.markP.trans h.period

theorem State.ShowsMark.setTime (h : s.ShowsMark t) (x : TimeSt) : s.ShowsMark (t.setTime x) where
  marks := h.marks
  stamp := h.stamp
  internal := h.internal
  moved := h.moved
  period := h.period

/-- The four registers of a timestamp. -/
theorem State.stampRegs_eq (s : State) (off : Nat) (q : BitVec 128) :
    s.stampRegs off q = (((s.wr (pageAddr .time off) (quadWord q 0)).wr (pageAddr .time (off + 4)) (quadWord q 1)).wr
      (pageAddr .time (off + 8)) (quadWord q 2)).wr (pageAddr .time (off + 12)) (quadWord q 3) := rfl

theorem State.rd_stampRegs (s : State) (off : Nat) (q : BitVec 128) (i : Fin 4) :
    (s.stampRegs off q).rd (pageAddr .time (off + 4 * i.val)) = quadWord q i.val := by
  rw [State.stampRegs_eq]
  fin_cases i <;> simp [State.rd_wr, pageAddr]

theorem State.rd_stampRegs_ne (s : State) {off a : Nat} (q : BitVec 128) (h : a < pageAddr .time off) :
    (s.stampRegs off q).rd a = s.rd a := by
  simp only [pageAddr] at h
  rw [State.stampRegs_eq]
  simp only [State.rd_wr, pageAddr]
  iterate 4 rw [if_neg (by omega)]

theorem State.f_stampRegs (s : State) (q : BitVec 128) {x : Fld} (hx : x.off < 0x0A0) :
    (s.stampRegs (TimeR.MARK_TS 0).off q).f .time x = s.f .time x := by
  rw [State.f, s.rd_stampRegs_ne q (by simp only [pageAddr, TimeR.MARK_TS]; omega), State.f]

theorem State.markSeen_shows (s : State) : s.ShowsMark s.markSeen ∧ s.markSeen.time = s.time := by
  unfold State.markSeen
  extract_lets counted
  have hcounted : s.ShowsMark counted := {
    marks := by
      rw [← s.f_stampRegs s.stamp (x := TimeR.MARK_STAT_MARKS) (by decide)]
      exact State.f_setF_self _ _ _ _ (by decide) (by decide)
    stamp := fun i => by
      have hne : pageAddr .time (0x0A0 + 4 * i.val) ≠ pageAddr .time TimeR.MARK_STAT_MARKS.off := by
        simp only [pageAddr, TimeR.MARK_STAT_MARKS]
        omega
      exact (State.rd_wr_ne _ _ _ _ hne).trans (s.rd_stampRegs 0x0A0 s.stamp i)
    internal := (State.f_setF_disj _ _ _ _ _ (by decide) (by decide) (.inl (by decide))).trans (s.f_stampRegs _ (by decide))
    moved := (State.f_setF_disj _ _ _ _ _ (by decide) (by decide) (.inl (by decide))).trans (s.f_stampRegs _ (by decide))
    period := (State.f_setF_ne _ _ _ _ _ _ (by decide)).trans (s.f_stampRegs _ (by decide)) }
  have hkeeps := ((State.KeepsTime.refl counted).forAll allPaths fun p u => u.capMark_keepsTime p).trans (State.markWake_keepsTime _)
  exact ⟨hcounted.keeps hkeeps, hkeeps.2.trans (by simp [counted, State.stampRegs_eq])⟩

/-! ### Marks (R154, R155, R491) -/

/-- A zeroing mark is where the next one is expected from; it leaves the registers of the TIME page alone. -/
theorem State.zeroMark_keepsTime (s : State) :
    (s.setTime { s.time with expect := some (s.time.refCount + s.markP), newGrid := false, faultDone := false }).KeepsTime s.zeroMark := by
  unfold State.zeroMark
  exact (State.KeepsTime.refl _).forAll allPaths fun p u => (u.zeroPath_keepsTime p).trans (State.convRecord_keepsTime _ p)

theorem State.zeroMark_time (s : State) :
    s.zeroMark.time = { s.time with expect := some (s.time.refCount + s.markP), newGrid := false, faultDone := false } :=
  s.zeroMark_keepsTime.2

theorem State.markP_setTime (s : State) (x : TimeSt) : (s.setTime x).markP = s.markP := rfl

/-- A bad mark comes to every path, and MARK_FAULT is raised unless it has been in its run. -/
theorem State.badMark_eq (s : State) (moved : Bool) : ∃ u, s.KeepsTime u ∧
    s.badMark moved = if u.time.faultDone then u else (u.setTime { u.time with faultDone := true }).raise .house 17 :=
  ⟨_, (State.KeepsTime.refl s).forAll allPaths fun p u => u.missPath_keepsTime moved p, rfl⟩

/-- After a bad mark MARK_FAULT of its run has been raised, and the period is as before. -/
theorem State.badMark_leads (s : State) (moved : Bool) : (s.badMark moved).time.faultDone = true ∧ (s.badMark moved).markP = s.markP := by
  obtain ⟨u, hu, heq⟩ := s.badMark_eq moved
  rw [heq]
  split
  · next hdone => exact ⟨hdone, hu.markP⟩
  · have hraised := (State.KeepsTime.refl (u.setTime { u.time with faultDone := true })).raise (g := .house) 17
    exact ⟨by rw [hraised.2]; rfl, by rw [hraised.markP, State.markP_setTime, hu.markP]⟩

theorem State.ShowsMark.zeroMark (h : s.ShowsMark t) : s.ShowsMark t.zeroMark := (h.setTime _).keeps t.zeroMark_keepsTime

/-- A field of MARK_STAT is no part of a timestamp or of the period. -/
theorem State.setF_markStat (s : State) {x : Fld} (hx : x.off = 0x098) (v : Nat) :
    (s.setF .time x v).stamp = s.stamp ∧ (s.setF .time x v).markP = s.markP := by
  have hkept : ∀ y : Fld, y.off < 4096 → y.off ≠ 0x098 → (s.setF .time x v).f .time y = s.f .time y := fun y hy hne =>
    s.f_setF_ne _ _ _ _ _ fun e => hne (((pageAddr_inj hy (by omega)).1 e).2.trans hx)
  refine ⟨?_, hkept _ (by decide) (by decide)⟩
  simp only [State.stamp, State.stampOf, State.qual, State.on]
  rw [hkept TimeR.TIME_STAT_VALID (by decide) (by decide), hkept TimeR.TIME_STAT_UNC_HIGH (by decide) (by decide)]
  rfl

/-- What an ALIGN mark that has not moved sets first. -/
def State.alignShown (s : State) : State := (s.setF .time TimeR.MARK_STAT_INTERNAL 0).setB .time TimeR.MARK_STAT_MOVED false

/-- An ALIGN mark that starts a grid, or comes where one is expected or in one-shot mode, is seen and zeroes (R154, R491). -/
theorem State.alignMark_zeroes
    (hgrid : s.time.newGrid = true ∨ s.markMode = 1 ∨ (s.markMode = 0 ∧ (s.time.expect = none ∨ s.time.expect = some s.time.refCount)))
    (hmode : s.markMode ≠ 2) : ∃ u, s.alignShown.ShowsMark u ∧ u.time = s.time ∧ s.alignMark = u.zeroMark := by
  unfold State.alignMark
  extract_lets newGrid m named moved expected seen fired record
  have hmoved : moved = false := by
    rcases hgrid with hnew | hone | ⟨-, hnone | hsame⟩
    · simp [moved, newGrid, hnew]
    · simp [moved, m, hone]
    · simp [moved, named, hnone]
    · simp [moved, named, hsame]
  have hshown : s.alignShown.time = s.time := by simp [State.alignShown]
  have hseen : seen = s.alignShown.markSeen := by
    simp only [seen, hmoved]
    rfl
  obtain ⟨hmark, htime⟩ := s.alignShown.markSeen_shows
  rw [← hseen] at hmark htime
  have hfired : seen.KeepsTime fired := .ite (seen.markCues_keepsTime State.markCue_keepsTime) (.refl seen)
  exact ⟨fired, hmark.keeps hfired, (hfired.2.trans htime).trans hshown,
    by rw [if_neg fun h => hmode h.1, hmoved, if_neg Bool.false_ne_true, if_neg hmode]⟩

/-- An ALIGN mark that zeroes shows its timestamp, and the next is expected a period after it. -/
theorem State.alignMark_shows
    (hgrid : s.time.newGrid = true ∨ s.markMode = 1 ∨ (s.markMode = 0 ∧ (s.time.expect = none ∨ s.time.expect = some s.time.refCount)))
    (hmode : s.markMode ≠ 2) :
    s.alignMark.time.expect = some (s.time.refCount + s.markP) ∧ s.alignMark.time.newGrid = false ∧
      s.alignMark.f .time TimeR.MARK_STAT_MARKS = (s.f .time TimeR.MARK_STAT_MARKS + 1) % 2 ^ 16 ∧
      s.alignMark.f .time TimeR.MARK_STAT_INTERNAL = 0 ∧ s.alignMark.f .time TimeR.MARK_STAT_MOVED = 0 ∧
      ∀ i : Fin 4, s.alignMark.rd (pageAddr .time (0x0A0 + 4 * i.val)) = quadWord s.stamp i.val := by
  obtain ⟨u, hu, htime, heq⟩ := State.alignMark_zeroes hgrid hmode
  obtain ⟨hstampI, hperiodI⟩ := s.setF_markStat (x := TimeR.MARK_STAT_INTERNAL) rfl 0
  obtain ⟨hstampM, hperiodM⟩ := (s.setF .time TimeR.MARK_STAT_INTERNAL 0).setF_markStat (x := TimeR.MARK_STAT_MOVED) rfl (b2n false)
  have hperiod : u.markP = s.markP := (hu.period.trans hperiodM).trans hperiodI
  have hmarks : s.alignShown.f .time TimeR.MARK_STAT_MARKS = s.f .time TimeR.MARK_STAT_MARKS :=
    (State.f_setF_disj _ _ _ _ _ (by decide) (by decide) (.inr (by decide))).trans
      (State.f_setF_disj _ _ _ _ _ (by decide) (by decide) (.inr (by decide)))
  have hinternal : s.alignShown.f .time TimeR.MARK_STAT_INTERNAL = 0 :=
    (State.f_setF_disj _ _ _ _ _ (by decide) (by decide) (.inr (by decide))).trans (State.f_setF_self _ _ _ _ (by decide) (by decide))
  have hmoved : s.alignShown.f .time TimeR.MARK_STAT_MOVED = 0 := State.f_setF_self _ _ _ _ (by decide) (by decide)
  have hstamp : s.alignShown.stamp = s.stamp := hstampM.trans hstampI
  have hzero := hu.zeroMark
  rw [heq]
  refine ⟨by rw [u.zeroMark_time, htime, hperiod], by rw [u.zeroMark_time], by rw [hzero.marks, hmarks], hzero.internal.trans hinternal,
    hzero.moved.trans hmoved, fun i => by rw [hzero.stamp, hstamp]⟩

/-- `s`, with its next mark expected a period after a count. -/
def State.expectAfter (s : State) (e : Nat) : State := s.setTime { s.time with expect := some (e + s.markP) }

theorem State.expectAfter_expect (s : State) (e : Nat) : (s.expectAfter e).time.expect = some (e + s.markP) := rfl

theorem State.expectAfter_faultDone (s : State) (e : Nat) : (s.expectAfter e).time.faultDone = s.time.faultDone := rfl

theorem State.ShowsMark.expectAfter (h : s.ShowsMark t) (e : Nat) : s.ShowsMark (t.expectAfter e) := h.setTime _

theorem State.internalMark_zeroes {e : Nat} (hnext : s.time.expect = some e) (hmode : s.markMode ≠ 0) :
    s.internalMark = ((s.setF .time TimeR.MARK_STAT_INTERNAL 1).markSeen.markCues State.markCue).zeroMark.expectAfter e := by
  rw [State.internalMark, hnext]
  exact if_neg hmode

theorem State.markMissing_misses {e : Nat} (hnext : s.time.expect = some e) (hmode : s.markMode = 0) :
    s.markMissing = ((s.badMark false).markCues State.markCueMiss).expectAfter e := by
  rw [State.markMissing, hnext]
  exact if_neg (not_not.2 hmode)

/-- An internal mark is seen, and the next is expected a period after its count (R154). -/
theorem State.internalMark_shows {e : Nat} (hnext : s.time.expect = some e) (hmode : s.markMode ≠ 0) :
    s.internalMark.time.expect = some (e + s.markP) ∧
      s.internalMark.f .time TimeR.MARK_STAT_MARKS = (s.f .time TimeR.MARK_STAT_MARKS + 1) % 2 ^ 16 ∧
      s.internalMark.f .time TimeR.MARK_STAT_INTERNAL = 1 := by
  rw [State.internalMark_zeroes hnext hmode]
  have hshows : (s.setF .time TimeR.MARK_STAT_INTERNAL 1).ShowsMark
      ((s.setF .time TimeR.MARK_STAT_INTERNAL 1).markSeen.markCues State.markCue).zeroMark :=
    ((State.markSeen_shows _).1.keeps (State.markCues_keepsTime _ State.markCue_keepsTime)).zeroMark
  have hmarks : (s.setF .time TimeR.MARK_STAT_INTERNAL 1).f .time TimeR.MARK_STAT_MARKS = s.f .time TimeR.MARK_STAT_MARKS :=
    State.f_setF_disj _ _ _ _ _ (by decide) (by decide) (.inr (by decide))
  have hinternal : (s.setF .time TimeR.MARK_STAT_INTERNAL 1).f .time TimeR.MARK_STAT_INTERNAL = 1 :=
    State.f_setF_self _ _ _ _ (by decide) (by decide)
  have hperiod := hshows.period.trans (s.setF_markStat rfl 1).2
  have hafter := hshows.expectAfter e
  exact ⟨by rw [State.expectAfter_expect, hperiod], by rw [hafter.marks, hmarks], by rw [hafter.internal, hinternal]⟩

/-- Where a mark is missing the next is expected a period after its count, and MARK_FAULT has been raised (R155, R157). -/
theorem State.markMissing_leads {e : Nat} (hnext : s.time.expect = some e) (hmode : s.markMode = 0) :
    s.markMissing.time.expect = some (e + s.markP) ∧ s.markMissing.time.faultDone = true := by
  rw [State.markMissing_misses hnext hmode]
  obtain ⟨hfault, hperiod⟩ := s.badMark_leads false
  have hmissed := State.markCues_keepsTime (s.badMark false) State.markCueMiss_keepsTime
  exact ⟨by rw [State.expectAfter_expect, hmissed.markP, hperiod], by rw [State.expectAfter_faultDone, hmissed.2, hfault]⟩

end Sys2Proof.Machine
end

section
/-!
SUPPORT. The commands of latency pinning: a sample, the end of a window and a step of a slew (R152, R160, R165).
-/
namespace Sys2Proof.Machine

variable {s : State} {p : Path}

/-! ### Signed fields -/

/-- A code of `n` bits gives back the integer it codes, if that is within the range of `n` bits. -/
theorem sx_enc {n : Nat} (hn : 0 < n) {i : Int} (hlo : -2 ^ (n - 1) ≤ i) (hhi : i < 2 ^ (n - 1)) : sx n (enc n i) = i := by
  obtain ⟨m, rfl⟩ : ∃ m, n = m + 1 := ⟨n - 1, by omega⟩
  rw [Nat.add_sub_cancel] at hlo hhi
  have hpow : (2 : Int) ^ (m + 1) = 2 * 2 ^ m := by ring
  have hcast : ((2 ^ m : Nat) : Int) = 2 ^ m := by push_cast; rfl
  simp only [sx, enc, hpow, Nat.add_sub_cancel]
  generalize (2 : Int) ^ m = k at *
  rcases lt_or_ge i 0 with hneg | hpos
  · rw [← Int.add_emod_right i (2 * k), Int.emod_eq_of_lt (by omega) (by omega)]
    split <;> omega
  · rw [Int.emod_eq_of_lt hpos (by omega)]
    split <;> omega

theorem neg_le_clampInt (m : Nat) (i : Int) : -(m : Int) ≤ clampInt m i := by
  unfold clampInt
  split_ifs <;> omega

theorem clampInt_le (m : Nat) (i : Int) : clampInt m i ≤ m := by
  unfold clampInt
  split_ifs <;> omega

/-- A signed field reads back an integer that is held within what the field can code. -/
theorem State.sf_setS_clampInt (s : State) (g : Page) {x : Fld} {m : Nat} (i : Int) (hle : x.lo ≤ x.hi) (hh : x.hi < 32)
    (hm : m < 2 ^ (x.hi - x.lo)) : (s.setS g x (clampInt m i)).sf g x = clampInt m i := by
  have hn : x.hi + 1 - x.lo - 1 = x.hi - x.lo := by omega
  have hm' : (m : Int) < 2 ^ (x.hi - x.lo) := by exact_mod_cast hm
  have hlo := neg_le_clampInt m i
  have hhi := clampInt_le m i
  have hcode : enc (x.hi + 1 - x.lo) (clampInt m i) < 2 ^ (x.hi + 1 - x.lo) := by
    have hpos : (0 : Int) < 2 ^ (x.hi + 1 - x.lo) := by positivity
    have hlt := Int.emod_lt_of_pos (clampInt m i) hpos
    rw [enc, Int.toNat_lt (Int.emod_nonneg _ hpos.ne')]
    exact_mod_cast hlt
  rw [State.sf, State.setS, s.f_setF_self g x _ hle hh, Nat.mod_eq_of_lt hcode]
  exact sx_enc (by omega) (by rw [hn]; omega) (by rw [hn]; omega)

/-! ### The probe (R152, R160) -/

/-- A sample of a probe that runs joins its window. -/
theorem State.probeSample_counts (hpin : s.pin p ≠ pinIdle) (hrun : (s.path p).pause = 0) (hroom : (s.path p).samples < 256)
    (hstill : (s.path p).adjMoved = false) (l : Nat) :
    ((s.probeSample p l).path p).samples = (s.path p).samples + 1 ∧ ((s.probeSample p l).path p).sum = (s.path p).sum + l := by
  have hjoins : s.probeSample p l = s.setPath p { s.path p with samples := (s.path p).samples + 1, sum := (s.path p).sum + l } := by
    simp [State.probeSample, hpin, hrun, hroom, hstill]
  rw [hjoins, State.path_setPath]
  exact ⟨rfl, rfl⟩

/-- The mean of a window, in 1/16 ps, rounded to the nearest (log 73). -/
def State.windowMean (s : State) (p : Path) : Nat := (2 * (s.path p).sum + 256) / 512

/-- The error of a window, in 1/16 ps. -/
def State.windowErr (s : State) (p : Path) : Int :=
  clampInt 0x7FFF ((s.windowMean p : Int) - 16 * ((s.f (pp p) PathR.PIN_HELD_HELD : Nat) : Int))

/-- What the end of a window shows first. -/
def State.windowShown (s : State) (p : Path) (fixed : Nat) : State :=
  ((s.setF (pp p) PathR.PIN_MEAS_MEAS (s.windowMean p)).setS (pp p) PathR.PIN_ERR_ERR (s.windowErr p)).setF (pp p) PathR.PIN_FIXED_FIXED
    fixed

theorem State.windowShown_shows (s : State) (p : Path) (fixed : Nat) :
    (s.windowShown p fixed).f (pp p) PathR.PIN_MEAS_MEAS = s.windowMean p % 2 ^ 24 ∧
      (s.windowShown p fixed).sf (pp p) PathR.PIN_ERR_ERR = s.windowErr p ∧
      (s.windowShown p fixed).f (pp p) PathR.PIN_FIXED_FIXED = fixed % 2 ^ 20 := by
  have hne : ∀ (u : State) (x y : Fld) (v : Nat), x.off < 4096 → y.off < 4096 → y.off ≠ x.off →
      (u.setF (pp p) x v).f (pp p) y = u.f (pp p) y :=
    fun u x y v hx hy hxy => u.f_setF_ne _ _ _ _ _ fun e => hxy ((pageAddr_inj hy hx).1 e).2
  unfold State.windowShown
  refine ⟨?_, ?_, State.f_setF_self _ _ _ _ (by decide) (by decide)⟩
  · rw [hne _ _ _ _ (by decide) (by decide) (by decide), State.setS, hne _ _ _ _ (by decide) (by decide) (by decide),
      State.f_setF_self _ _ _ _ (by decide) (by decide)]
    rfl
  · rw [State.sf, hne _ _ _ _ (by decide) (by decide) (by decide), ← State.sf]
    exact State.sf_setS_clampInt _ _ _ (by decide) (by decide) (by decide)

/-- The registers that the loop and the table of R164 may touch after that: EVT_RAW, PIN_STAT, PIN_ADJ, PIN_CNT, PIN_ERRMAX and
SVC_STAT. -/
def loopOffs : List Nat := [0x010, 0x2C8, 0x2D4, 0x2EC, 0x2F0, 0x4C4]

theorem State.windowEnd_touches_shown (s : State) (p : Path) (fixed : Nat) :
    (s.windowShown p fixed).LaneTouches { paths := true } [p] (regsOf (pp p) loopOffs) (s.windowEnd p fixed) := by
  unfold State.windowEnd
  extract_lets x mean held e good bad shown worst d ended
  have hworst : shown.LaneTouches { paths := true } [p] (regsOf (pp p) loopOffs) worst :=
    .ite ((State.LaneTouches.refl _ _ _ shown).setF _ (by decide)) (.refl _ _ _ shown)
  have hended : shown.LaneTouches { paths := true } [p] (regsOf (pp p) loopOffs) ended :=
    (hworst.trans ((worst.moveAdj_touches d).widen (by decide))).modPath _ rfl List.mem_cons_self
  exact (hended.trans (ended.newWindow_touches rfl List.mem_cons_self)).trans
    ((State.pinStep_touches rfl List.mem_cons_self _).widen (by decide))

/-- The end of a window shows its mean, its error and the fixed part. -/
theorem State.windowEnd_shows (s : State) (p : Path) (fixed : Nat) :
    (s.windowEnd p fixed).f (pp p) PathR.PIN_MEAS_MEAS = s.windowMean p % 2 ^ 24 ∧
      (s.windowEnd p fixed).sf (pp p) PathR.PIN_ERR_ERR = s.windowErr p ∧
      (s.windowEnd p fixed).f (pp p) PathR.PIN_FIXED_FIXED = fixed % 2 ^ 20 := by
  have hkept : ∀ x : Fld, x.off < 4096 → x.off ∉ loopOffs → (s.windowEnd p fixed).f (pp p) x = (s.windowShown p fixed).f (pp p) x :=
    fun x hx hoff => (s.windowEnd_touches_shown p fixed).f_path hx (by decide) fun _ => hoff
  obtain ⟨hmeas, herr, hfixed⟩ := s.windowShown_shows p fixed
  refine ⟨(hkept _ (by decide) (by decide)).trans hmeas, ?_, (hkept _ (by decide) (by decide)).trans hfixed⟩
  rw [State.sf, hkept _ (by decide) (by decide), ← State.sf, herr]

/-- A window of 256 samples of a probe that runs ends. -/
theorem State.probeWindow_ends (hpin : s.pin p ≠ pinIdle) (hrun : (s.path p).pause = 0) (hfull : (s.path p).samples = 256) (fixed : Nat) :
    s.probeWindow p fixed = s.windowEnd p fixed := by
  simp [State.probeWindow, hpin, hrun, hfull]

/-! ### Slews (R160, R165) -/

/-- A move of ADJ, no further than ±255, leaves the record of every path alone. -/
theorem State.moveAdj_moves (s : State) (p : Path) {d : Int} (hd : d ≠ 0) :
    (s.moveAdj p d).sf (pp p) PathR.PIN_ADJ_ADJ = clampInt 255 (s.sf (pp p) PathR.PIN_ADJ_ADJ + d) ∧
      (s.moveAdj p d).path p = s.path p := by
  refine ⟨?_, (State.moveAdj_touches (P := {}) (qs := []) s d).2.2 p List.not_mem_nil⟩
  rw [State.moveAdj, if_neg hd]
  unfold State.setAdj
  extract_lets was margin
  have hstat : ∀ u : State, u.LaneTouches {} [] (regsOf (pp p) [0x010, 0x2C8])
      (((u.setB (pp p) PathR.PIN_STAT_AT_LIMIT (decide ((clampInt 255 (s.sf (pp p) PathR.PIN_ADJ_ADJ + d)).natAbs ≥ 255))).setB (pp p)
        PathR.PIN_STAT_MARGIN margin).raiseIf (margin && !was) (pp p) 9) := fun u =>
    (((State.LaneTouches.refl _ _ _ u).setB _ (by decide)).setB _ (by decide)).raiseIf _ _ (by decide)
  rw [State.sf, (hstat _).f_path (by decide) (by decide) fun _ => by decide, ← State.sf]
  exact s.sf_setS_clampInt _ _ (by decide) (by decide) (by decide)

/-- The direction of the steps of a slew. -/
def State.slewDir (s : State) (p : Path) : Int := if (s.path p).slewLeft > 0 then 1 else -1

theorem State.slewDir_ne_zero (s : State) (p : Path) : s.slewDir p ≠ 0 := by
  unfold State.slewDir
  split <;> decide

/-- The record of a path after a step of its slew: the step is taken, the window under way is invalid, and the runs start again. -/
def State.slewed (s : State) (p : Path) : PathSt :=
  { s.path p with slewLeft := (s.path p).slewLeft - s.slewDir p, adjMoved := true, good := 0, bad := 0 }

/-- A step of a slew leaves one step less, and moves ADJ one step in its direction. -/
theorem State.slewStep_moves (hpin : s.pin p = pinSlewing) (hleft : (s.path p).slewLeft ≠ 0) (hfree : s.on (pp p) PathR.PIN_CTL_FRZ = false) :
    ((s.slewStep p).path p).slewLeft = (s.path p).slewLeft - s.slewDir p ∧ ((s.slewStep p).path p).adjMoved = true ∧
      (s.slewStep p).sf (pp p) PathR.PIN_ADJ_ADJ = clampInt 255 (s.sf (pp p) PathR.PIN_ADJ_ADJ + s.slewDir p) := by
  have hstep : s.slewStep p = (s.setPath p (s.slewed p)).moveAdj p (s.slewDir p) := by
    simp [State.slewStep, State.slewed, State.slewDir, hpin, hleft, hfree]
  obtain ⟨hadj, hpath⟩ := (s.setPath p (s.slewed p)).moveAdj_moves p (s.slewDir_ne_zero p)
  rw [hstep, hpath, State.path_setPath]
  exact ⟨rfl, rfl, hadj⟩

theorem State.slewLeft_sub_slewDir (s : State) (p : Path) : (s.path p).slewLeft - s.slewDir p =
    if (s.path p).slewLeft > 0 then (s.path p).slewLeft - 1 else (s.path p).slewLeft + 1 := by
  unfold State.slewDir
  split <;> rfl

end Sys2Proof.Machine

open Sys2Proof Sys2Proof.Machine

/-- Settles O9: what each command leads to, under the hypotheses of its clause. The rounding of PIN_MEAS, and which marks are expected, are
as the model has them (logs 73, 50 and 51). -/
theorem pinningCommandsComplete : Obligations.PinningCommandsComplete := by
  refine ⟨fun p l s hpin hrun hroom hstill => ⟨_, rfl, State.probeSample_counts hpin hrun hroom hstill l.toNat⟩,
    fun p fixed s hpin hrun hfull => ⟨_, rfl, ?_⟩,
    fun s hgrid hmode => ⟨_, rfl, State.alignMark_shows hgrid hmode⟩,
    fun e s hnext hmode => ⟨_, rfl, State.internalMark_shows hnext hmode⟩,
    fun e s hnext hmode => ⟨_, rfl, State.markMissing_leads hnext hmode⟩,
    fun p s hpin hleft hfree => ⟨_, rfl, ?_⟩⟩
  · obtain ⟨hmeas, herr, hfixed⟩ := s.windowEnd_shows p fixed.toNat
    rw [State.probeWindow_ends hpin hrun hfull]
    exact ⟨hmeas, herr, hfixed.trans (Nat.mod_eq_of_lt fixed.isLt)⟩
  · obtain ⟨hslew, hmoved, hadj⟩ := State.slewStep_moves hpin hleft hfree
    exact ⟨hslew.trans (s.slewLeft_sub_slewDir p), hmoved, hadj⟩

end

section
/-!
SUPPORT. Locks, running counters and records of a path: what each operation of a path's profile reads back and what it leaves alone.
-/
namespace Sys2Proof.Machine

variable {P : LaneParts} {qs : List Path} {l : List Nat} {offs : List Nat} {p : Path} {s t : State}

/-! ### Fields of one bit -/

theorem State.on_setF_one (s : State) (g : Page) {x : Fld} (hle : x.lo ≤ x.hi) (hh : x.hi < 32) : (s.setF g x 1).on g x = true := by
  have hone : 1 < 2 ^ (x.hi + 1 - x.lo) := Nat.one_lt_two_pow (by omega)
  rw [State.on, s.f_setF_self g x 1 hle hh, Nat.mod_eq_of_lt hone]
  rfl

theorem State.on_setF_zero (s : State) (g : Page) {x : Fld} (hle : x.lo ≤ x.hi) (hh : x.hi < 32) : (s.setF g x 0).on g x = false := by
  rw [State.on, s.f_setF_self g x 0 hle hh, Nat.zero_mod]
  rfl

theorem State.on_setB (s : State) (g : Page) {x : Fld} (b : Bool) (hle : x.lo ≤ x.hi) (hh : x.hi < 32) : (s.setB g x b).on g x = b := by
  cases b
  · exact s.on_setF_zero g hle hh
  · exact s.on_setF_one g hle hh

theorem State.on_setF_disj (s : State) (g : Page) {x y : Fld} (v : Nat) (hle : x.lo ≤ x.hi) (hh : y.hi < 32) (hd : x.hi < y.lo ∨ y.hi < x.lo) :
    (s.setF g x v).on g y = s.on g y := by
  rw [State.on, s.f_setF_disj g x y v hle hh hd, State.on]

theorem State.LaneTouches.on_path (h : s.LaneTouches P qs (regsOf (pp p) offs) t) {x : Fld} (hx : x.off < 4096)
    (ho : ∀ o ∈ offs, o < 4096) (hne : x.off ∉ offs) : t.on (pp p) x = s.on (pp p) x := by
  rw [State.on, h.f_path hx ho fun _ => hne, State.on]

/-! ### Running counters and records -/

theorem State.ctr_addCtr_self (s : State) (p : Path) (i n : Nat) : (s.addCtr p i n).ctr p i = satNat (ctrTop i) (s.ctr p i + n) :=
  tabGet_tabSet_self _ _ _ _

theorem State.ctr_addCtr_ne (s : State) (p : Path) {i j : Nat} (n : Nat) (h : j ≠ i) : (s.addCtr p i n).ctr p j = s.ctr p j :=
  tabGet_tabSet_ne _ _ _ _ _ (by omega)

theorem State.ctr_modPath (s : State) (p q : Path) (f : PathSt → PathSt) (i : Nat) : (s.modPath p f).ctr q i = s.ctr q i := rfl

theorem State.ctr_setF (s : State) (g : Page) (x : Fld) (v : Nat) (q : Path) (i : Nat) : (s.setF g x v).ctr q i = s.ctr q i := rfl

theorem State.path_modPath (s : State) (p : Path) (f : PathSt → PathSt) : (s.modPath p f).path p = f (s.path p) := s.path_setPath p _

theorem State.path_addCtr (s : State) (p q : Path) (i n : Nat) : (s.addCtr p i n).path q = s.path q := rfl

theorem State.path_setF (s : State) (g : Page) (x : Fld) (v : Nat) (q : Path) : (s.setF g x v).path q = s.path q := rfl

theorem State.f_addCtr (s : State) (p : Path) (i n : Nat) (g : Page) (x : Fld) : (s.addCtr p i n).f g x = s.f g x := rfl

theorem State.busyOf_addCtr (s : State) (p : Path) (i n : Nat) (g : Page) : (s.addCtr p i n).busyOf g = s.busyOf g := rfl

/-- What touches no running counter. -/
theorem State.LaneTouches.ctr (h : s.LaneTouches P qs l t) (hC : P.ctrs = false) (q : Path) (i : Nat) : t.ctr q i = s.ctr q i := by
  have hr := h.2.1
  simp only [State.SameRest, State.withLanes, hC, cond_false] at hr
  simp only [State.ctr, hr]

/-- No command of a path makes a page BUSY. -/
theorem State.LaneTouches.busyOf (h : s.LaneTouches P qs l t) (g : Page) : t.busyOf g = s.busyOf g := by
  have hr := h.2.1
  simp only [State.SameRest, State.withLanes] at hr
  simp only [State.busyOf, hr]

theorem State.raise_touches (s : State) (p : Path) (bit : Nat) : s.LaneTouches {} [] (regsOf (pp p) [0x010]) (s.raise (pp p) bit) :=
  (State.LaneTouches.refl _ _ _ s).raise bit (by decide)

theorem State.ctr_raise (s : State) (p : Path) (bit : Nat) (q : Path) (i : Nat) : (s.raise (pp p) bit).ctr q i = s.ctr q i :=
  (s.raise_touches p bit).ctr rfl q i

theorem State.path_raise (s : State) (p : Path) (bit : Nat) (q : Path) : (s.raise (pp p) bit).path q = s.path q :=
  (s.raise_touches p bit).2.2 q List.not_mem_nil

theorem State.on_raise (s : State) (p : Path) (bit : Nat) {x : Fld} (hx : x.off < 4096) (hne : x.off ≠ 0x010) :
    (s.raise (pp p) bit).on (pp p) x = s.on (pp p) x := by
  rw [State.on, s.f_raise_path p bit hx hne, State.on]

/-! ### Framing lock (R178, R191, R199) -/

/-- What leaves PROF_STAT alone leaves framing lock. -/
theorem State.LaneTouches.framed (h : s.LaneTouches P qs (regsOf (pp p) offs) t) (ho : ∀ o ∈ offs, o < 4096) (hne : 0x344 ∉ offs) :
    t.framed p = s.framed p := by
  rw [State.framed, h.f_path (by decide) ho fun _ => hne, State.framed]

theorem State.framed_raise (s : State) (p : Path) (bit : Nat) : (s.raise (pp p) bit).framed p = s.framed p :=
  (s.raise_touches p bit).framed (by decide) (by decide)

theorem State.framingGet_framed (s : State) (p : Path) : (s.framingGet p).framed p = true := by
  unfold State.framingGet
  split
  case isTrue hframed => exact hframed
  case isFalse =>
    rw [State.framed_raise, State.framed, State.f_setF_self _ _ _ _ (by decide) (by decide)]
    rfl

theorem State.framingGet_on (s : State) (p : Path) {x : Fld} (hx : x.off < 4096) (hne : x.off ∉ [0x010, 0x344]) :
    (s.framingGet p).on (pp p) x = s.on (pp p) x :=
  (State.framingGet_touches (P := {}) (qs := []) s).on_path hx (by decide) hne

/-- Without the lock there is none to lose. -/
theorem State.framingLose_framed (s : State) (p : Path) : (s.framingLose p).framed p = false := by
  unfold State.framingLose
  split
  case isTrue =>
    rw [State.framed_raise]
    exact beq_false_of_ne (by
      rw [State.f_modPath, State.degClear, State.f_modPath, State.f_addCtr, State.f_setF_self _ _ _ _ (by decide) (by decide)]
      decide)
  case isFalse hframed => simpa using hframed

/-- A framing lock that is lost is counted, and FRM_LOSS is raised. -/
theorem State.framingLose_counts (hframed : s.framed p = true) :
    (s.framingLose p).ctr p ctrFrmLoss = satNat (ctrTop ctrFrmLoss) (s.ctr p ctrFrmLoss + 1) ∧
      (s.busyOf (pp p) ≠ .rehearsal → (s.framingLose p).evt (pp p) 22 = true) := by
  rw [State.framingLose, if_pos hframed]
  refine ⟨?_, fun hfree => State.evt_raise (by decide) ?_⟩
  · rw [State.ctr_raise, State.ctr_modPath, State.degClear, State.ctr_modPath, State.ctr_addCtr_self, State.ctr_setF]
  · rwa [State.busyOf_modPath, State.degClear, State.busyOf_modPath, State.busyOf_addCtr, State.busyOf_setF]

/-- The alignment markers and codewords of an Ethernet-aware path with FEC are locked while it holds framing lock (R188). -/
theorem State.ethStat_locks (hprof : s.profile p = 3) (hfec : s.hasFec p = true) (e : BitVec 3) :
    (s.ethStat p e true).on (pp p) PathR.ETH_STAT_CW_LOCK = true ∧ (s.ethStat p e true).on (pp p) PathR.ETH_STAT_AM_LOCK = true := by
  rw [State.ethStat, if_neg (by simp [hprof])]
  refine ⟨?_, (State.on_setB _ _ _ (by decide) (by decide)).trans (by simp [hfec])⟩
  rw [State.setB, State.on_setF_disj _ _ _ (by decide) (by decide) (.inl (by decide)), State.on_setB _ _ _ (by decide) (by decide)]
  simp [hfec]

/-- A Converter or Ethernet-aware path with CDR lock acquires framing lock (R178, R179, R188). -/
theorem State.framingAcquired_locks (hprof : s.profile p = 1 ∨ s.profile p = 3) (hlock : s.lock p = true) (e : BitVec 3)
    (find : Option WxFind) :
    (s.framingAcquired p e find).framed p = true ∧
      (s.profile p = 1 → (s.framingAcquired p e find).on (pp p) PathR.CONV_STAT_SH_LOCK = true) ∧
      (s.profile p = 3 → s.hasFec p = true → (s.framingAcquired p e find).on (pp p) PathR.ETH_STAT_CW_LOCK = true ∧
        (s.framingAcquired p e find).on (pp p) PathR.ETH_STAT_AM_LOCK = true) := by
  have hseen : (s.ethStat p e true).profile p = s.profile p :=
    (State.ethStat_touches (P := {}) (qs := []) s e true).f_path (by decide) (by decide) fun _ => by decide
  have hget : s.framingAcquired p e find = (if s.profile p = 1 then (s.ethStat p e true).setF (pp p) PathR.CONV_STAT_SH_LOCK 1
      else s.ethStat p e true).framingGet p := by
    unfold State.framingAcquired
    rw [if_neg (by rcases hprof with h | h <;> simp [h, hlock]), if_neg (by omega)]
    simp only [hseen]
  rw [hget]
  refine ⟨State.framingGet_framed _ p, fun h1 => ?_, fun h3 hfec => ?_⟩
  · rw [if_pos h1, State.framingGet_on _ _ (by decide) (by decide)]
    exact State.on_setF_one _ _ (by decide) (by decide)
  · rw [if_neg (by omega), State.framingGet_on _ _ (by decide) (by decide), State.framingGet_on _ _ (by decide) (by decide)]
    exact State.ethStat_locks h3 hfec e

/-- WX_STAT.PERIOD takes the PERIOD of a marker. -/
theorem State.wxStat_period (s : State) (p : Path) (m : Marker) : (s.wxStat p m).f (pp p) PathR.WX_STAT_PERIOD = markerPeriod m :=
  (State.f_setF_self _ _ _ _ (by decide) (by decide)).trans (Nat.mod_mod _ _)

/-- What a WX path shows and notes of the marker on which it acquires lock (R183, R184). -/
def State.wxNoted (s : State) (p : Path) (m : Marker) : State :=
  (if markerGood m then s.wxStat p m else s.setF (pp p) PathR.WX_STAT_PERIOD (markerPeriod m)).modPath p
    fun x => { x with badMarks := 0, cwPos := 1, tagPhase := (markerPhase m + wxBlocks 0) % 8 }

theorem State.wxNoted_period (s : State) (p : Path) (m : Marker) : (s.wxNoted p m).f (pp p) PathR.WX_STAT_PERIOD = markerPeriod m := by
  rw [State.wxNoted, State.f_modPath]
  split
  · exact s.wxStat_period p m
  · exact (State.f_setF_self _ _ _ _ (by decide) (by decide)).trans (Nat.mod_mod _ _)

/-- A WX path that hunts acquires framing lock on the second of two markers (R184). -/
theorem State.framingAcquired_finds (hprof : s.profile p = 2) (hlock : s.lock p = true) (hhunts : s.framed p = false) {w : WxFind}
    (hw : findLocks w = true) (e : BitVec 3) :
    (s.framingAcquired p e (some w)).framed p = true ∧
      (s.framingAcquired p e (some w)).f (pp p) PathR.WX_STAT_PERIOD = markerPeriod w.second ∧
      ((s.framingAcquired p e (some w)).path p).cwPos = 1 ∧ ((s.framingAcquired p e (some w)).path p).badMarks = 0 := by
  have hget : s.framingAcquired p e (some w) = (s.wxNoted p w.second).framingGet p := by
    simp [State.framingAcquired, State.wxAcquired, State.wxNoted, hprof, hlock, hhunts, hw]
  have htouches := State.framingGet_touches (P := {}) (qs := []) (p := p) (s.wxNoted p w.second)
  have hpath : (s.wxNoted p w.second).path p = _ := State.path_modPath _ p _
  rw [hget, htouches.f_path (by decide) (by decide) fun _ => by decide, htouches.2.2 p List.not_mem_nil, hpath]
  exact ⟨State.framingGet_framed _ p, s.wxNoted_period p _, rfl, rfl⟩

/-! ### The locks of a Converter path (R179) -/

/-- EMB_LOCK, and with `from_` up to 1 MB_LOCK too, are lost. -/
def State.convUnlocked (s : State) (p : Path) (from_ : Nat) : State :=
  if from_ ≤ 1 then
    ((s.setF (pp p) PathR.CONV_STAT_EMB_LOCK 0).modPath p fun x => { x with embOfs := none }).setF (pp p) PathR.CONV_STAT_MB_LOCK 0
  else (s.setF (pp p) PathR.CONV_STAT_EMB_LOCK 0).modPath p fun x => { x with embOfs := none }

theorem State.convUnlocked_emb (s : State) (p : Path) (from_ : Nat) :
    (s.convUnlocked p from_).on (pp p) PathR.CONV_STAT_EMB_LOCK = false := by
  have hemb := s.on_setF_zero (pp p) (x := PathR.CONV_STAT_EMB_LOCK) (by decide) (by decide)
  unfold State.convUnlocked
  split
  · exact (State.on_setF_disj _ _ _ (by decide) (by decide) (.inl (by decide))).trans hemb
  · exact hemb

theorem State.convUnlocked_mb (s : State) (p : Path) {from_ : Nat} (h : from_ ≤ 1) :
    (s.convUnlocked p from_).on (pp p) PathR.CONV_STAT_MB_LOCK = false := by
  rw [State.convUnlocked, if_pos h]
  exact State.on_setF_zero _ _ (by decide) (by decide)

/-- The locks above SH_LOCK alone touch neither framing nor its count. -/
theorem State.convLose_upper {from_ : Nat} (h : from_ ≠ 0) : s.convLose p from_ = s.convUnlocked p from_ := if_neg h

theorem State.convLose_all (s : State) (p : Path) :
    s.convLose p 0 = ((s.convUnlocked p 0).setF (pp p) PathR.CONV_STAT_SH_LOCK 0).framingLose p := rfl

/-- A lock that is lost takes with it those that rest on it, and SH_LOCK framing lock. -/
theorem State.convLose_unlocks (s : State) (p : Path) (from_ : Nat) :
    (s.convLose p from_).on (pp p) PathR.CONV_STAT_EMB_LOCK = false ∧
      (from_ ≤ 1 → (s.convLose p from_).on (pp p) PathR.CONV_STAT_MB_LOCK = false) ∧
      (from_ = 0 → (s.convLose p from_).on (pp p) PathR.CONV_STAT_SH_LOCK = false ∧ (s.convLose p from_).framed p = false) := by
  by_cases hzero : from_ = 0
  · subst hzero
    have hkept : ∀ x : Fld, x.off = 0x354 → ∀ u : State, (u.framingLose p).on (pp p) x = u.on (pp p) x := fun x hx u =>
      (State.framingLose_touches (P := { paths := true, ctrs := true }) (qs := [p]) rfl List.mem_cons_self u rfl).on_path
        (by rw [hx]; decide) (by decide) (by rw [hx]; decide)
    rw [State.convLose_all, hkept _ rfl, hkept _ rfl, hkept _ rfl, State.on_setF_disj _ _ _ (by decide) (by decide) (.inl (by decide)),
      State.on_setF_disj _ _ _ (by decide) (by decide) (.inl (by decide))]
    exact ⟨s.convUnlocked_emb p 0, fun _ => s.convUnlocked_mb p (by decide),
      fun _ => ⟨State.on_setF_zero _ _ (by decide) (by decide), State.framingLose_framed _ p⟩⟩
  · rw [State.convLose_upper hzero]
    exact ⟨s.convUnlocked_emb p from_, s.convUnlocked_mb p, fun h => absurd h hzero⟩

/-- The lock with a number. -/
def convFld (which : Fin 3) : Fld :=
  if which = 0 then PathR.CONV_STAT_SH_LOCK else if which = 1 then PathR.CONV_STAT_MB_LOCK else PathR.CONV_STAT_EMB_LOCK

/-- A lock whose criterion is met is gained over the one it rests on. -/
theorem State.convChange_gains {which : Fin 3} {run gap : Nat} (hprof : s.profile p = 1) (hmet : s.convMet p which true run gap = true)
    (hcdr : which = 0 → s.lock p = true) (hsh : which = 1 → s.on (pp p) PathR.CONV_STAT_SH_LOCK = true)
    (hmb : which = 2 → s.on (pp p) PathR.CONV_STAT_MB_LOCK = true) :
    (s.convChange p which true run gap).on (pp p) (convFld which) = true := by
  have hset : ∀ x : Fld, x.lo ≤ x.hi → x.hi < 32 → (s.setF (pp p) x 1).on (pp p) x = true := fun x => s.on_setF_one (pp p)
  rw [State.convChange, if_neg (by simp [hprof, hmet]), if_neg (by decide)]
  match which with
  | 0 =>
    simp only [hcdr rfl, if_true]
    exact (State.framingGet_on _ p (by decide) (by decide)).trans (hset _ (by decide) (by decide))
  | 1 =>
    simp only [hsh rfl, if_true]
    exact hset _ (by decide) (by decide)
  | 2 =>
    simp only [hmb rfl, if_true]
    exact hset _ (by decide) (by decide)

theorem State.convChange_loses {which : Fin 3} {run gap : Nat} (hprof : s.profile p = 1) (hmet : s.convMet p which false run gap = true) :
    s.convChange p which false run gap = s.convLose p which := by
  rw [State.convChange, if_neg (by simp [hprof, hmet]), if_pos (by decide)]

/-- Framing lock that is lost, of whatever profile, is counted, and FRM_LOSS is raised (R178, R191, R199). -/
theorem State.framingLost_counts (hframed : s.framed p = true) (e : BitVec 3) :
    (s.framingLost p e false).framed p = false ∧
      (s.framingLost p e false).ctr p ctrFrmLoss = satNat (ctrTop ctrFrmLoss) (s.ctr p ctrFrmLoss + 1) ∧
      (s.busyOf (pp p) ≠ .rehearsal → (s.framingLost p e false).evt (pp p) 22 = true) := by
  have hlose : ∃ u : State, s.framingLost p e false = u.framingLose p ∧
      s.LaneTouches { paths := true } [p] (regsOf (pp p) [0x354, 0x370]) u := by
    have h := State.LaneTouches.refl { paths := true } [p] (regsOf (pp p) [0x354, 0x370]) s
    rw [State.framingLost, if_neg (by decide)]
    split
    · have hemb := (h.setF (x := PathR.CONV_STAT_EMB_LOCK) 0 (by decide)).modPath (fun x => { x with embOfs := none }) rfl List.mem_cons_self
      have hunlocked : s.LaneTouches { paths := true } [p] (regsOf (pp p) [0x354, 0x370]) (s.convUnlocked p 0) :=
        .ite (hemb.setF (x := PathR.CONV_STAT_MB_LOCK) 0 (by decide)) hemb
      exact ⟨_, s.convLose_all p, hunlocked.setF _ (by decide)⟩
    · exact ⟨_, rfl, (s.ethStat_touches e false).widen (by decide)⟩
  obtain ⟨u, heq, hu⟩ := hlose
  obtain ⟨hcount, hevt⟩ := State.framingLose_counts ((hu.framed (by decide) (by decide)).trans hframed)
  rw [hu.ctr rfl] at hcount
  rw [hu.busyOf] at hevt
  rw [heq]
  exact ⟨State.framingLose_framed u p, hcount, hevt⟩

end Sys2Proof.Machine
end

section
/-!
SUPPORT. Codewords and PTP event messages of a path: what is counted, where the next codeword of a WX path stands, and the frame that is
sent on (R183, R184, R187, R191, R222).
-/
namespace Sys2Proof.Machine

variable {p : Path} {s : State}

/-! ### Codewords (R183, R184, R187, R191) -/

/-- Symbols that injection has put into a codeword are used up; no other part of the record changes. -/
theorem State.injected_path (s : State) (p : Path) (c : Codeword) : ∃ k, (s.injected p c).1.path p = { s.path p with injSyms := k } := by
  unfold State.injected
  extract_lets k taken n d sum
  have htaken : d.2.path p = taken.path p := by
    simp only [d]
    split <;> rfl
  split
  · exact ⟨_, rfl⟩
  · exact ⟨0, htaken.trans (s.path_modPath p _)⟩

theorem State.injectedRaw_path (s : State) (p : Path) (c : Codeword) :
    ∃ k, (s.injectedRaw p c).1.path p = { s.path p with injSyms := k } := by
  unfold State.injectedRaw
  extract_lets k taken d
  have htaken : d.2.path p = taken.path p := rfl
  split
  · exact ⟨_, rfl⟩
  · exact ⟨0, htaken.trans (s.path_modPath p _)⟩

theorem State.injected_badTags (s : State) (p : Path) (c : Codeword) : (s.injected p c).2.badTags = c.badTags := by
  unfold State.injected
  extract_lets k taken n d sum
  split
  · rfl
  · dsimp only
    split <;> rfl

theorem State.injectedRaw_badTags (s : State) (p : Path) (c : Codeword) : (s.injectedRaw p c).2.badTags = c.badTags := by
  unfold State.injectedRaw
  dsimp only
  split <;> rfl

/-- What a path decodes of a codeword, with the symbols or blocks that injection has put into it. -/
def State.decoded (s : State) (p : Path) (c : Codeword) : State × Codeword := if s.hasFec p then s.injected p c else s.injectedRaw p c

/-- Injection leaves invalid tags, the running counters and the place in the alignment period as they were. -/
theorem State.decoded_spec (s : State) (p : Path) (c : Codeword) :
    (s.decoded p c).2.badTags = c.badTags ∧ (∀ i, (s.decoded p c).1.ctr p i = s.ctr p i) ∧
      ∃ k, (s.decoded p c).1.path p = { s.path p with injSyms := k } := by
  have htouches := State.decoded_touches (P := { paths := true, free := true }) (qs := [p]) (l := []) rfl List.mem_cons_self s c rfl
  refine ⟨?_, htouches.ctr rfl p, ?_⟩
  · unfold State.decoded
    split
    · exact s.injected_badTags p c
    · exact s.injectedRaw_badTags p c
  · unfold State.decoded
    split
    · exact s.injected_path p c
    · exact s.injectedRaw_path p c

/-- The counters of FEC are others than that of invalid blocks, and the record of the degrade window says nothing of tags. -/
theorem State.fecCount_spec (s : State) (p : Path) (c : Codeword) :
    (s.fecCount p c).ctr p ctrBlock = s.ctr p ctrBlock ∧ ((s.fecCount p c).path p).tagPhase = (s.path p).tagPhase := by
  have hadd : ∀ (u : State) (i n : Nat), ctrBlock ≠ i → u.ctr p ctrBlock = s.ctr p ctrBlock ∧ u.path p = s.path p →
      (u.addCtr p i n).ctr p ctrBlock = s.ctr p ctrBlock ∧ (u.addCtr p i n).path p = s.path p := fun u i n hi hu =>
    ⟨(u.ctr_addCtr_ne p n hi).trans hu.1, hu.2⟩
  unfold State.fecCount
  extract_lets n counted corrected all
  have hcounted := hadd s ctrCw 1 (by decide) ⟨rfl, rfl⟩
  have hcorrected : corrected.ctr p ctrBlock = s.ctr p ctrBlock ∧ corrected.path p = s.path p := by
    simp only [corrected]
    split
    · exact hadd _ _ _ (by decide) (hadd _ _ _ (by decide) hcounted)
    · exact hcounted
  have hall : all.ctr p ctrBlock = s.ctr p ctrBlock ∧ all.path p = s.path p := by
    simp only [all]
    split
    · exact hadd _ _ _ (by decide) hcounted
    · split
      · exact hcorrected
      · exact hadd _ _ _ (by simp only [ctrBlock, ctrHist]; omega) hcorrected
  rw [State.ctr_modPath, State.path_modPath, ← hall.2]
  exact ⟨hall.1, rfl⟩

/-- A codeword of a WX path other than that of the marker counts its invalid tags, and moves the place and the phase on (R183). -/
theorem State.wxCodeword_counts (hpos : 0 < (s.path p).cwPos) (c : Codeword) :
    ((s.wxCodeword p c).path p).tagPhase = ((s.path p).tagPhase + 20) % 8 ∧
      ((s.wxCodeword p c).path p).cwPos = ((s.path p).cwPos + 1) % 1024 ∧
      (s.wxCodeword p c).ctr p ctrBlock =
        satNat (ctrTop ctrBlock) (s.ctr p ctrBlock + min c.badTags.toNat (((s.path p).tagPhase + 20) / 8)) := by
  obtain ⟨hcount, hphase⟩ := s.fecCount_spec p c
  have hblocks : wxBlocks (s.path p).cwPos = 20 := if_neg hpos.ne'
  unfold State.wxCodeword
  extract_lets pos n tagged marked
  have hmarked : marked = tagged := if_neg hpos.ne'
  have hn : n = 20 := hblocks
  rw [hmarked, State.path_modPath, State.ctr_modPath]
  simp only [tagged, State.path_addCtr, State.ctr_addCtr_self, hcount, hphase, hn, pos]
  trivial

/-- In lock a codeword is decoded, and what is decoded counts by the profile (R187). -/
theorem State.codeword_wx (hframed : s.framed p = true) (hprof : s.profile p = 2) (c : Codeword) :
    ∃ w : Codeword, w.badTags = (s.decoded p c).2.badTags ∧
      s.codeword p c = ((s.decoded p c).1.modPath p fun x => { x with cwHit := x.disrupt }).wxCodeword p w := by
  have hkept : ∀ f, ((s.decoded p c).1.modPath p f).profile p = 2 := fun f => by
    have hdecoded := State.decoded_touches (P := { paths := true, free := true }) (qs := [p]) (l := regsOf (pp p) []) rfl
      List.mem_cons_self s c rfl
    rw [State.profile, State.f_modPath, ← hprof]
    exact hdecoded.f_path (by decide) (by decide) fun _ => by decide
  refine ⟨if (s.path p).cwHit && s.hasFec p then { (s.decoded p c).2 with uncorr := true } else (s.decoded p c).2, by split <;> rfl, ?_⟩
  unfold State.codeword
  rw [if_neg (by simp [hframed])]
  extract_lets decoded raw seen hit conv fec eth
  have h2 : hit.profile p = 2 := hkept _
  rw [if_neg (by omega), if_pos h2]
  rfl

/-- A codeword of a WX path in lock (R183, R184). -/
theorem State.codeword_wx_counts (hframed : s.framed p = true) (hprof : s.profile p = 2) (hpos : 0 < (s.path p).cwPos) (c : Codeword) :
    ((s.codeword p c).path p).tagPhase = ((s.path p).tagPhase + 20) % 8 ∧
      ((s.codeword p c).path p).cwPos = ((s.path p).cwPos + 1) % 1024 ∧
      (s.codeword p c).ctr p ctrBlock =
        satNat (ctrTop ctrBlock) (s.ctr p ctrBlock + min c.badTags.toNat (((s.path p).tagPhase + 20) / 8)) := by
  obtain ⟨w, htags, heq⟩ := State.codeword_wx hframed hprof c
  obtain ⟨hbad, hctr, k, hpath⟩ := s.decoded_spec p c
  have hnoted := State.path_modPath (s.decoded p c).1 p fun x => { x with cwHit := x.disrupt }
  rw [hpath] at hnoted
  have hcounts := State.wxCodeword_counts (by rw [hnoted]; exact hpos) w
  rw [hnoted, State.ctr_modPath, hctr, htags, hbad, ← heq] at hcounts
  exact hcounts

/-- A block of a Converter path in lock, without injected errors, counts what is invalid in it. -/
theorem State.codeword_conv_counts (hframed : s.framed p = true) (hprof : s.profile p = 1) (hclean : (s.path p).injSyms = 0) (c : Codeword) :
    (s.codeword p c).ctr p ctrBlock = satNat (ctrTop ctrBlock) (s.ctr p ctrBlock + c.badBlocks.toNat) := by
  have hfec : s.hasFec p = false := by simp [State.hasFec, hprof]
  have hdecoded : (if s.hasFec p then s.injected p c else s.injectedRaw p c) = (s, c) := by
    rw [hfec, if_neg (by decide), State.injectedRaw]
    exact if_pos hclean
  unfold State.codeword
  rw [if_neg (by simp [hframed]), hdecoded]
  extract_lets decoded raw seen hit conv fec eth
  have hseen : seen = c := by simp [seen, decoded, hfec]
  have h1 : hit.profile p = 1 := hprof
  have hconv : conv.ctr p ctrBlock = satNat (ctrTop ctrBlock) (s.ctr p ctrBlock + c.badBlocks.toNat) :=
    (State.ctr_addCtr_self hit p _ _).trans (by rw [hseen]; rfl)
  rw [if_pos h1]
  split
  · exact (conv.ctr_addCtr_ne p _ (by decide)).trans hconv
  · exact hconv

/-! ### The transparent clock (R222) -/

/-- An event message on a verified path is sent on with its correction, and counted (R222). -/
theorem State.ptpMessage_corrects {fr : RxFrame} {m : PtpMsg} (hprof : s.profile p = 3) (hon : s.on (pp p) PathR.PTP_CFG_EN = true)
    (hframed : s.framed p = true) (hmsg : s.ptpMsg p fr.bytes = some m) (htype : ptpType fr.bytes m < 2) (hmap : ¬ m.map = .v6)
    (hskip : ptpSkipped fr m = false) (hverified : s.verified p = true) (hstays : s.extracts p fr = false) :
    ((s.ptpMessage p fr).path p).sentFrame = withFcs (s.ptpFix p fr.bytes m) ∧
      (s.ptpMessage p fr).ctr p ctrPtpCorr = satNat (ctrTop ctrPtpCorr) (s.ctr p ctrPtpCorr + 1) := by
  have hsent : s.ptpMessage p fr = (s.addCtr p ctrPtpCorr 1).modPath p
      fun x => { x with sentFrame := withFcs (s.ptpFix p fr.bytes m), sentBlocks := [] } := by
    have hearly : ¬ ptpType fr.bytes m > 3 := by omega
    have hevent : ¬ ptpType fr.bytes m ≥ 2 := by omega
    simp [State.ptpMessage, hprof, hon, hframed, hstays, hmsg, hearly, hevent, hmap, hskip, hverified]
  rw [hsent, State.path_modPath, State.ctr_modPath, State.ctr_addCtr_self]
  exact ⟨rfl, rfl⟩

end Sys2Proof.Machine

open Sys2Proof Sys2Proof.Machine

/-- Settles O10: what each command leads to, under the hypotheses of its clause. -/
theorem framingCommandsComplete : Obligations.FramingCommandsComplete := by
  refine ⟨fun p e find s hprof hlock => ⟨_, rfl, State.framingAcquired_locks hprof hlock e find⟩,
    fun p e w s hprof hlock hhunts hw => ⟨_, rfl, State.framingAcquired_finds hprof hlock hhunts hw e⟩,
    fun p e s hframed => ⟨_, rfl, State.framingLost_counts hframed e⟩,
    fun p which run gap s hprof hmet hcdr hsh hmb => ⟨_, rfl, State.convChange_gains hprof hmet hcdr hsh hmb⟩,
    fun p which run gap s hprof hmet => ⟨_, rfl, ?_⟩,
    fun p w s hframed hprof hclean => ⟨_, rfl, State.codeword_conv_counts hframed hprof hclean w⟩,
    fun p w s hframed hprof hpos => ⟨_, rfl, State.codeword_wx_counts hframed hprof hpos w⟩,
    fun p fr m s hprof hon hframed hmsg htype hmap hskip hverified hstays =>
      ⟨_, rfl, State.ptpMessage_corrects hprof hon hframed hmsg htype hmap hskip hverified hstays⟩⟩
  obtain ⟨hemb, hmb, hsh⟩ := s.convLose_unlocks p which
  rw [State.convChange_loses hprof hmet]
  exact ⟨hemb, fun h => hmb (by omega), fun h => hsh (congrArg Fin.val h)⟩

end

section
/-!
SUPPORT. Counter snapshots, the degrade window, the PRBS checker and error injection (R192, R193, R195 to R197), and the writes of CNT_CTL
and ERR_INJ that ask for a snapshot and for an injection.
-/
namespace Sys2Proof.Machine

variable {off : Nat} {p : Path} {s : State}

/-! ### An action in bit 0 of a register of a path (R5) -/

/-- Fields of which no bit is written stay as they are. -/
theorem foldl_writeRow_of_not_written {v : Nat → Word} {scene : Bool} {g : Page} {old data mask : Word} (o : WrOut) {rows : List Row}
    (h : ∀ r ∈ rows, mask &&& fldMask r.fld.hi r.fld.lo = 0) : rows.foldl (writeRow v scene g old data mask) o = o := by
  induction rows with
  | nil => rfl
  | cons r rows ih =>
    rw [List.foldl_cons, writeRow_of_not_written (h r List.mem_cons_self)]
    exact ih fun a ha => h a (List.mem_cons_of_mem r ha)

/-- An action bit in bit 0, written alone, is an action, and leaves the register as it is. -/
theorem writeOut_bit0 (v : Nat → Word) (p : Path) (hoff : off ≠ 0x008) {before after : List Row} {r : Row}
    (hrows : rowsAt (pp p) off = before ++ r :: after) (hacc : r.acc = .w1s) (hfld : r.fld = ⟨off, 0, 0⟩)
    (hothers : ∀ a ∈ before ++ after, fldMask 0 0 &&& fldMask a.fld.hi a.fld.lo = 0) :
    (writeOut v false (pp p) off (fset 0 0 0 1) (fldMask 0 0)).word = v (pageAddr (pp p) off) ∧
      (writeOut v false (pp p) off (fset 0 0 0 1) (fldMask 0 0)).act = 1#32 := by
  have hmask : fldMask 0 0 &&& ~~~ctlUnsupported (pp p) off = fldMask 0 0 := by
    rw [ctlUnsupported, if_neg hoff]
    exact BitVec.and_allOnes
  have hact : (0 : Word) ||| (fset 0 0 0 1 &&& fldMask 0 0 &&& fldMask 0 0) = 1#32 := by decide
  have hbit : fldMask 0 0 &&& fldMask 0 0 ≠ 0 := by decide
  have hwritten : fldMask 0 0 &&& fldMask r.fld.hi r.fld.lo ≠ 0 := by rwa [hfld]
  simp only [writeOut, hrows, hmask, List.foldl_append, List.foldl_cons]
  rw [foldl_writeRow_of_not_written _ fun a ha => hothers a (List.mem_append_left _ ha), writeRow_w1s hacc hwritten,
    foldl_writeRow_of_not_written _ fun a ha => hothers a (List.mem_append_right _ ha), hfld]
  exact ⟨rfl, hact⟩

/-- An action in bit 0 of a register of a path that is taken acts in a state that has the register, every running counter and the record
of every path as they were. -/
theorem State.offerBit0_leads {c : Src} (h : s.takesF c (pp p) ⟨off, 0, 0⟩ 1 = true) (hown : ownReg (pp p) off = true)
    {before after : List Row} {r : Row} (hrows : rowsAt (pp p) off = before ++ r :: after) (hacc : r.acc = .w1s)
    (hfld : r.fld = ⟨off, 0, 0⟩) (hothers : ∀ a ∈ before ++ after, fldMask 0 0 &&& fldMask a.fld.hi a.fld.lo = 0) :
    ∃ u : State, s.offerAct c (pp p) ⟨off, 0, 0⟩ = u.effPath p off (s.rd (pageAddr (pp p) off)) 1#32 ∧
      (∀ x : Fld, x.off = off → u.f (pp p) x = s.f (pp p) x) ∧ s.SameRest u := by
  have hblock : 0x040 ≤ off := by
    simp only [ownReg, Bool.and_eq_true, decide_eq_true_eq] at hown
    exact hown.1.1.2
  have htakes : s.takes c (pp p) off (fset 0 0 0 1) (fldMask 0 0) = true := h
  have hkind : wrKind (pp p) off = .fields := by simp [wrKind, isCmdWord]
  obtain ⟨v, u, hold, hlead, hword, -, hsame⟩ := State.offerReg_leads htakes hkind (fun _ => rfl) hown
  obtain ⟨hkept, hact⟩ := writeOut_bit0 v p (by omega) hrows hacc hfld hothers
  have heffect : ∀ old act wrote, u.directEffect (pp p) off old act wrote = u.effPath p off old act := fun old act wrote => by
    simp [State.directEffect, State.effect, Nat.not_lt.2 hblock]
  rw [hact, heffect] at hlead
  refine ⟨u, hlead, fun x hx => ?_, hsame⟩
  rw [State.f, hx, hword, hkept, hold, State.f, hx]

/-! ### Snapshots (R192) -/

/-- A list of fields of a page, set one after the other. -/
def State.setAll (s : State) (g : Page) (l : List (Fld × Nat)) : State := l.foldl (fun u e => u.setF g e.1 e.2) s

theorem State.setAll_touches {P : LaneParts} {qs : List Path} {offs : List Nat} {l : List (Fld × Nat)} (s : State)
    (h : ∀ e ∈ l, e.1.off ∈ offs) : s.LaneTouches P qs (regsOf (pp p) offs) (s.setAll (pp p) l) :=
  .foldl (.refl P qs _ s) l fun e he u => (State.LaneTouches.refl P qs _ u).setF _ (h e he)

/-- The counter registers that a snapshot sets after FEC_CORR_CW, with the running counts that they take. -/
def snapRest (c : Nat → Nat) : List (Fld × Nat) :=
  [(PathR.FEC_UNCORR_CW_UNCORR_CW, c ctrUncorr), (PathR.FEC_CORR_SYM_CORR_SYM, c ctrCorrSym), (PathR.CODE_ERR_BLOCK, c ctrBlock),
    (PathR.CODE_ERR_CRC_FCS, c ctrCheck), (PathR.LINK_ERR_FRM_LOSS, c ctrFrmLoss), (PathR.LINK_ERR_ECC_ERR, c ctrEcc),
    (PathR.PRBS_ERR_ERR, c ctrPrbsErr), (PathR.PRBS_BITS_HI_BITS, c ctrPrbsBits / 2 ^ 32), (PathR.PRBS_BITS_LO_BITS, c ctrPrbsBits),
    (PathR.PTP_CNT0_CORR, c ctrPtpCorr), (PathR.PTP_CNT1_UNV, c ctrPtpUnv), (PathR.PTP_CNT1_IPV6, c ctrPtpV6),
    (PathR.PTP_CNT2_PDELAY, c ctrPtpPdelay), (PathR.PTP_CNT2_SKIP, c ctrPtpSkip), (PathR.FP_CNT0_EXTRACTED, c ctrExtracted),
    (PathR.FP_CNT0_INSERTED, c ctrInserted), (PathR.FP_CNT1_COPIED, c ctrCopied), (PathR.FP_CNT1_UNCORR_HDR, c ctrUncorrHdr),
    (PathR.FP_RUN_RUN_MAX, c ctrRunMax)] ++ (List.range 16).map fun k => (PathR.FEC_HIST k, c (ctrHist + k))

/-- FEC_CW comes before FEC_CORR_CW. -/
def State.snapCw (s : State) (p : Path) : State :=
  s.setAll (pp p) [(PathR.FEC_CW_HI_CW, s.ctr p ctrCw / 2 ^ 32), (PathR.FEC_CW_LO_CW, s.ctr p ctrCw)]

theorem State.snapRegs_eq (s : State) (p : Path) :
    s.snapRegs p = ((s.snapCw p).setF (pp p) PathR.FEC_CORR_CW_CORR_CW (s.ctr p ctrCorrCw)).setAll (pp p) (snapRest (s.ctr p)) := by
  rw [State.setAll, snapRest, List.foldl_append, List.foldl_map]
  rfl

/-- The registers that a snapshot sets after FEC_CORR_CW. -/
def snapRestOffs : List Nat := (snapRest fun _ => 0).map fun e => e.1.off

theorem mem_snapRestOffs (c : Nat → Nat) : ∀ e ∈ snapRest c, e.1.off ∈ snapRestOffs := fun _ he => by
  have hoffs : (snapRest c).map (fun e => e.1.off) = snapRestOffs := by
    simp only [snapRestOffs, snapRest, List.map_append, List.map_map]
    rfl
  exact hoffs ▸ List.mem_map_of_mem he

/-- The counter registers take the running counts, and CNT_CTL stays. -/
theorem State.snapRegs_captures (s : State) (p : Path) :
    (s.snapRegs p).f (pp p) PathR.FEC_CORR_CW_CORR_CW = s.ctr p ctrCorrCw % 2 ^ 32 ∧
      (∀ x : Fld, x.off = 0x380 → (s.snapRegs p).f (pp p) x = s.f (pp p) x) ∧ ∀ i, (s.snapRegs p).ctr p i = s.ctr p i := by
  have hcw : s.LaneTouches {} [] (regsOf (pp p) [0x384, 0x388, 0x38C])
      ((s.snapCw p).setF (pp p) PathR.FEC_CORR_CW_CORR_CW (s.ctr p ctrCorrCw)) :=
    (s.setAll_touches (by simp [PathR.FEC_CW_HI_CW, PathR.FEC_CW_LO_CW])).setF _ (by decide)
  have hrest := State.setAll_touches (P := {}) (qs := []) (p := p)
    ((s.snapCw p).setF (pp p) PathR.FEC_CORR_CW_CORR_CW (s.ctr p ctrCorrCw)) (mem_snapRestOffs (s.ctr p))
  rw [s.snapRegs_eq p]
  refine ⟨?_, fun x hx => ?_, fun i => (hrest.ctr rfl p i).trans (hcw.ctr rfl p i)⟩
  · rw [hrest.f_path (by decide) (by decide) fun _ => by decide]
    exact State.f_setF_self _ _ _ _ (by decide) (by decide)
  · rw [hrest.f_path (by rw [hx]; decide) (by decide) fun _ => by rw [hx]; decide,
      hcw.f_path (by rw [hx]; decide) (by decide) fun _ => by rw [hx]; decide]

/-- A table without some of its entries reads its default where they were. -/
theorem tabGet_filter_dropped {α : Type} (d : Nat → α) (l : List (Nat × α)) (f : Nat → Bool) {k : Nat} (hk : f k = false) :
    tabGet d (l.filter fun e => f e.1) k = d k := by
  induction l with
  | nil => rfl
  | cons e l ih =>
    rw [List.filter_cons]
    split
    case isTrue he => rw [tabGet, if_neg (by rintro rfl; simp [hk] at he), ih]
    case isFalse => exact ih

theorem State.ctr_zeroCtrs (s : State) (p : Path) {i : Nat} (hi : i < 64) : (s.zeroCtrs p).ctr p i = 0 :=
  tabGet_filter_dropped _ _ (fun k => k / 64 != p.val) (by simp; omega)

theorem State.f_zeroCtrs (s : State) (p : Path) (g : Page) (x : Fld) : (s.zeroCtrs p).f g x = s.f g x := rfl

/-- The counts of the PRBS checker are brought up to date while it is locked (R192). -/
def State.snapPrbs (s : State) (p : Path) (bits errs : Nat) : State :=
  if s.on (pp p) PathR.PRBS_STAT_LOCK then (s.addCtr p ctrPrbsBits bits).addCtr p ctrPrbsErr errs else s

theorem State.snapPrbs_spec (s : State) (p : Path) (bits errs : Nat) :
    (s.snapPrbs p bits errs).ctr p ctrCorrCw = s.ctr p ctrCorrCw ∧ ∀ x, (s.snapPrbs p bits errs).f (pp p) x = s.f (pp p) x := by
  unfold State.snapPrbs
  split
  · exact ⟨(State.ctr_addCtr_ne _ p _ (by decide)).trans (s.ctr_addCtr_ne p _ (by decide)), fun _ => rfl⟩
  · exact ⟨rfl, fun _ => rfl⟩

/-- The state of a snapshot before the counts restart: the registers show the counts, and the snapshot is counted. -/
def State.snapCounted (s : State) (p : Path) (bits errs : Nat) : State :=
  ((s.snapPrbs p bits errs).snapRegs p).incW (pp p) PathR.CNT_CTL_SNAP_SEQ

theorem State.snapCounted_spec (s : State) (p : Path) (bits errs : Nat) :
    (s.snapCounted p bits errs).f (pp p) PathR.CNT_CTL_SNAP_SEQ = (s.f (pp p) PathR.CNT_CTL_SNAP_SEQ + 1) % 2 ^ 16 ∧
      (s.snapCounted p bits errs).f (pp p) PathR.FEC_CORR_CW_CORR_CW = s.ctr p ctrCorrCw % 2 ^ 32 ∧
      (s.snapCounted p bits errs).on (pp p) PathR.CNT_CTL_CLR_ON_SNAP = s.on (pp p) PathR.CNT_CTL_CLR_ON_SNAP ∧
      (s.snapCounted p bits errs).ctr p ctrCorrCw = s.ctr p ctrCorrCw := by
  obtain ⟨hprbs, hregs⟩ := s.snapPrbs_spec p bits errs
  obtain ⟨hcorr, hctl, hctr⟩ := (s.snapPrbs p bits errs).snapRegs_captures p
  rw [State.snapCounted, State.incW]
  refine ⟨?_, ?_, ?_, ?_⟩
  · rw [State.f_setF_self _ _ _ _ (by decide) (by decide), hctl _ rfl, hregs]
    rfl
  · rw [State.f_setF_ne _ _ _ _ _ _ fun e => absurd ((pageAddr_inj (by decide) (by decide)).1 e).2 (by decide), hcorr, hprbs]
  · rw [State.on_setF_disj _ _ _ (by decide) (by decide) (.inr (by decide)), State.on, hctl _ rfl, hregs, State.on]
  · rw [State.ctr_setF, hctr, hprbs]

theorem State.snapshot_eq (s : State) (p : Path) (bits errs : Nat) :
    s.snapshot p bits errs = if (s.snapCounted p bits errs).on (pp p) PathR.CNT_CTL_CLR_ON_SNAP then (s.snapCounted p bits errs).zeroCtrs p
      else s.snapCounted p bits errs := by
  unfold State.snapshot State.snapCounted State.snapPrbs
  rfl

/-- A snapshot captures the running counts, counts itself, and restarts the counts where CLR_ON_SNAP asks for it (R192). -/
theorem State.snapshot_captures (s : State) (p : Path) (bits errs : Nat) :
    (s.snapshot p bits errs).f (pp p) PathR.CNT_CTL_SNAP_SEQ = (s.f (pp p) PathR.CNT_CTL_SNAP_SEQ + 1) % 2 ^ 16 ∧
      (s.snapshot p bits errs).f (pp p) PathR.FEC_CORR_CW_CORR_CW = s.ctr p ctrCorrCw % 2 ^ 32 ∧
      (s.on (pp p) PathR.CNT_CTL_CLR_ON_SNAP = true → (s.snapshot p bits errs).ctr p ctrCorrCw = 0) ∧
      (s.on (pp p) PathR.CNT_CTL_CLR_ON_SNAP = false → (s.snapshot p bits errs).ctr p ctrCorrCw = s.ctr p ctrCorrCw) := by
  obtain ⟨hseq, hshown, hclr, hctr⟩ := s.snapCounted_spec p bits errs
  rw [s.snapshot_eq, hclr]
  cases s.on (pp p) PathR.CNT_CTL_CLR_ON_SNAP with
  | true =>
    rw [if_pos rfl, State.f_zeroCtrs, State.f_zeroCtrs]
    exact ⟨hseq, hshown, fun _ => State.ctr_zeroCtrs _ p (by decide), fun h => absurd h (by decide)⟩
  | false =>
    rw [if_neg Bool.false_ne_true]
    exact ⟨hseq, hshown, fun h => absurd h (by decide), fun _ => hctr⟩

/-- The fields of CNT_CTL. -/
def snapSeqRow : Row := { fld := PathR.CNT_CTL_SNAP_SEQ, acc := .ro, rst := 0x0 }
def clrOnSnapRow : Row := { fld := PathR.CNT_CTL_CLR_ON_SNAP, acc := .rw, rst := 0x1 }
def snapRow : Row := { fld := PathR.CNT_CTL_SNAP, acc := .w1s, rst := 0x0 }

theorem rowsAt_cntCtl (p : Path) : rowsAt (pp p) 0x380 = [snapSeqRow, clrOnSnapRow] ++ snapRow :: [] := by
  have hrows : (rowsHdr ++ rowsPath).filter (rowCovers 0x380) = [snapSeqRow, clrOnSnapRow] ++ snapRow :: [] := by decide +kernel
  simp [rowsAt, pageRows, mirrorReg, hrows]

/-- SNAP that is taken makes a snapshot, with what the checker has seen since. -/
theorem State.offerSnap_leads {c : Src} (h : s.takesF c (pp p) PathR.CNT_CTL_SNAP 1 = true) :
    ∃ (u : State) (bits errs : Nat), s.offerAct c (pp p) PathR.CNT_CTL_SNAP = u.snapshot p bits errs ∧
      (∀ x : Fld, x.off = 0x380 → u.f (pp p) x = s.f (pp p) x) ∧ u.ctr p ctrCorrCw = s.ctr p ctrCorrCw := by
  obtain ⟨u, hlead, hctl, hsame⟩ := State.offerBit0_leads h (ownReg_path p (by decide) (by decide) (by decide)) (rowsAt_cntCtl p) rfl rfl
    (by decide)
  have heffect : ∀ old, u.effPath p 0x380 old 1#32 = u.drawPrbs.1.snapshot p u.drawPrbs.2.1 u.drawPrbs.2.2 := fun old => by
    simp [State.effPath, wbit]
  simp only [State.SameRest] at hsame
  exact ⟨_, _, _, hlead.trans (heffect _), hctl, by simp only [State.ctr, State.drawPrbs, State.draw, hsame]⟩

/-! ### The degrade window (R193) -/

/-- A window that has its codewords is judged, and the next begins. -/
theorem State.degEnd_judges (hfull : s.degLen p ≤ (s.path p).degN) :
    (s.degEnd p).f (pp p) PathR.FEC_DEG_STAT_LAST = satNat 0xFFFFF (s.path p).degSym ∧
      (s.degEnd p).on (pp p) PathR.FEC_DEG_STAT_DEGRADED = (decide ((s.path p).degSym > s.f (pp p) PathR.FEC_DEG_CFG_THR) ||
        (s.on (pp p) PathR.FEC_DEG_CFG_UNC_DEG && (s.path p).degUnc)) ∧
      ((s.degEnd p).path p).degN = 0 := by
  have hsat : satNat 0xFFFFF (s.path p).degSym < 2 ^ 20 := by
    unfold satNat
    split <;> omega
  unfold State.degEnd
  extract_lets x bad was
  rw [if_neg (Nat.not_lt.2 hfull)]
  have hraised : ∀ u : State, u.LaneTouches {} [] (regsOf (pp p) [0x010]) (u.raiseIf (bad && !was) (pp p) 23) := fun u =>
    (State.LaneTouches.refl _ _ _ u).raiseIf _ _ (by decide)
  rw [(hraised _).f_path (by decide) (by decide) fun _ => by decide, (hraised _).on_path (by decide) (by decide) (by decide),
    (hraised _).2.2 p List.not_mem_nil, State.degClear, State.path_modPath, State.f_modPath]
  refine ⟨?_, ?_, rfl⟩
  · rw [State.setB, State.f_setF_disj _ _ _ _ _ (by decide) (by decide) (.inr (by decide)),
      State.f_setF_self _ _ _ _ (by decide) (by decide)]
    exact Nat.mod_eq_of_lt hsat
  · rw [State.on, State.f_modPath, ← State.on, State.on_setB _ _ _ (by decide) (by decide)]

/-! ### The PRBS checker (R195) -/

theorem State.prbsLock_locks (hon : s.on (pp p) PathR.PRBS_CHK_EN = true) (hunlocked : s.on (pp p) PathR.PRBS_STAT_LOCK = false) :
    (s.prbsLock p).on (pp p) PathR.PRBS_STAT_LOCK = true ∧ (s.busyOf (pp p) ≠ .rehearsal → (s.prbsLock p).evt (pp p) 12 = true) := by
  rw [State.prbsLock, if_pos (by simp [hon, hunlocked])]
  refine ⟨?_, fun hfree => State.evt_raise (by decide) hfree⟩
  rw [State.on_raise _ _ _ (by decide) (by decide)]
  exact State.on_setF_one _ _ (by decide) (by decide)

/-- The counts are brought up to date when lock is lost. -/
theorem State.prbsLose_counts (hlocked : s.on (pp p) PathR.PRBS_STAT_LOCK = true) (bits errs : Nat) :
    (s.prbsLose p bits errs).on (pp p) PathR.PRBS_STAT_LOCK = false ∧
      (s.prbsLose p bits errs).ctr p ctrPrbsBits = satNat (ctrTop ctrPrbsBits) (s.ctr p ctrPrbsBits + bits) ∧
      (s.prbsLose p bits errs).ctr p ctrPrbsErr = satNat (ctrTop ctrPrbsErr) (s.ctr p ctrPrbsErr + errs) := by
  rw [State.prbsLose, if_pos hlocked]
  refine ⟨State.on_setF_zero _ _ (by decide) (by decide), ?_, ?_⟩
  · rw [State.ctr_setF, State.ctr_addCtr_ne _ _ _ (by decide), State.ctr_addCtr_self]
  · rw [State.ctr_setF, State.ctr_addCtr_self, State.ctr_addCtr_ne _ _ _ (by decide)]

/-! ### Error injection (R196, R197) -/

/-- The fields of ERR_INJ. -/
def injIntervalRow : Row := { fld := PathR.ERR_INJ_INTERVAL, acc := .rw, rst := 0x0 }
def injPosRow : Row := { fld := PathR.ERR_INJ_POS, acc := .rw, rst := 0x0 }
def injModeRow : Row := { fld := PathR.ERR_INJ_MODE, acc := .rw, rst := 0x0 }
def injSideRow : Row := { fld := PathR.ERR_INJ_SIDE, acc := .rw, rst := 0x0 }
def injFireRow : Row := { fld := PathR.ERR_INJ_FIRE, acc := .w1s, rst := 0x0 }

theorem rowsAt_errInj (p : Path) :
    rowsAt (pp p) 0x410 = [injIntervalRow, injPosRow, injModeRow, injSideRow] ++ injFireRow :: [] := by
  have hrows : (rowsHdr ++ rowsPath).filter (rowCovers 0x410) =
      [injIntervalRow, injPosRow, injModeRow, injSideRow] ++ injFireRow :: [] := by decide +kernel
  simp [rowsAt, pageRows, mirrorReg, hrows]

/-- FIRE that is taken in one-shot mode makes an injection due. -/
theorem State.offerFire_due {c : Src} (h : s.takesF c (pp p) PathR.ERR_INJ_FIRE 1 = true) (hone : s.f (pp p) PathR.ERR_INJ_INTERVAL = 0)
    (hmode : s.f (pp p) PathR.ERR_INJ_MODE ≠ 0) : ((s.offerAct c (pp p) PathR.ERR_INJ_FIRE).path p).injDue = true := by
  obtain ⟨u, hlead, hctl, -⟩ := State.offerBit0_leads h (ownReg_path p (by decide) (by decide) (by decide)) (rowsAt_errInj p) rfl rfl
    (by decide)
  have hfire : s.offerAct c (pp p) PathR.ERR_INJ_FIRE = u.injFire p := hlead.trans (by simp [State.effPath, wbit])
  rw [hfire, State.injFire, if_pos ⟨(hctl _ rfl).trans hone, (hctl _ rfl).trans_ne hmode⟩, State.path_modPath]

/-- Making an injection leaves the record of what is due. -/
theorem State.injMake_injDue (s : State) (p : Path) (mode : Nat) (side : Bool) :
    ((s.injMake p mode side).path p).injDue = (s.path p).injDue := by
  unfold State.injMake
  extract_lets nsym what made entered
  have hmade : (made.path p).injDue = (s.path p).injDue := by simp only [made, State.path_modPath]
  have hentered : (entered.path p).injDue = (s.path p).injDue := by
    simp only [entered]
    split
    · rw [State.path_modPath]
      exact hmade
    · exact hmade
  split
  · exact hmade
  · split
    · exact hentered
    · exact hentered

/-- A one-shot injection that is due is made, while something is sent, and counted (R197). -/
theorem State.injDueNow_makes (hmode : s.f (pp p) PathR.ERR_INJ_MODE ≠ 0) (hmode3 : s.f (pp p) PathR.ERR_INJ_MODE ≠ 3)
    (hone : s.f (pp p) PathR.ERR_INJ_INTERVAL = 0) (hdue : (s.path p).injDue = true) (hsends : s.txIdle p = false) :
    (s.injDueNow p).f (pp p) PathR.ERR_INJ_CNT_DONE = satNat 0xFFFFFFFF (s.f (pp p) PathR.ERR_INJ_CNT_DONE + 1) ∧
      ((s.injDueNow p).path p).injDue = false ∧
      (s.busyOf (pp p) ≠ .rehearsal → (s.injDueNow p).evt (pp p) 13 = true) := by
  unfold State.injDueNow
  extract_lets mode side oneShot skip taken
  have hshot : oneShot = true := beq_iff_eq.2 hone
  have hgo : ¬ (mode = 0 ∨ (oneShot && !(s.path p).injDue) = true) := by simp [mode, hmode, hdue]
  have hskip : skip = false := by simp [skip, mode, hmode3, hsends]
  have htaken : taken = s.modPath p fun x => { x with injDue := false } := if_pos hshot
  have hmade : s.LaneTouches { paths := true, ctrs := true } [p] (regsOf (pp p) []) (taken.injMake p mode side) := by
    rw [htaken]
    exact ((State.LaneTouches.refl _ _ _ s).modPath _ rfl List.mem_cons_self).trans
      (State.injMake_touches rfl List.mem_cons_self _ _ _ rfl)
  rw [if_neg hgo, hskip, if_neg Bool.false_ne_true, hshot, State.raiseIf, if_pos rfl]
  refine ⟨?_, ?_, fun hfree => State.evt_raise (by decide) ?_⟩
  · rw [State.f_raise_path _ _ _ (by decide) (by decide), State.f_inc_self _ _ (by decide) (by decide),
      hmade.f_path (by decide) (by decide) fun _ => by decide]
    rfl
  · rw [State.path_raise, State.inc, State.add, State.path_setF, State.injMake_injDue, htaken, State.path_modPath]
  · rw [State.inc, State.add, State.busyOf_setF, hmade.busyOf]
    exact hfree

end Sys2Proof.Machine

open Sys2Proof Sys2Proof.Machine

/-- Settles O11: what each command leads to, under the hypotheses of its clause. -/
theorem counterCommandsComplete : Obligations.CounterCommandsComplete := by
  refine ⟨fun c p s h => ⟨_, rfl, ?_⟩,
    fun p s hfull => ⟨_, rfl, State.degEnd_judges hfull⟩,
    fun p s hon hunlocked => ⟨_, rfl, State.prbsLock_locks hon hunlocked⟩,
    fun p bits errs s hlocked => ⟨_, rfl, State.prbsLose_counts hlocked bits.toNat errs.toNat⟩,
    fun c p s h hone hmode => ⟨_, rfl, State.offerFire_due h hone hmode⟩,
    fun p s hmode hmode3 hone hdue hsends => ⟨_, rfl, State.injDueNow_makes hmode hmode3 hone hdue hsends⟩⟩
  obtain ⟨u, bits, errs, hlead, hctl, hctr⟩ := State.offerSnap_leads h
  have hcaptures := u.snapshot_captures p bits errs
  rw [State.on, hctl _ rfl, hctl _ rfl, hctr] at hcaptures
  rw [hlead]
  exact hcaptures

end

section
/-!
SUPPORT. The idle step and the references. One edge of what the timebase counts, and the beats that pass meanwhile, store to no memory
window (R202, R211, R212, log 5). A reference declared present during a full reset does not make the timebase count (R210), and one
statement about REFCLK_PRESENT does not ask that the full reset be over.
-/
namespace Sys2Proof.Machine

variable {s : State}

/-! ### What a tick stores (R202, R211, R212) -/

theorem State.setUnc_mem (s : State) (b : Option Nat) : (s.setUnc b).mem = s.mem := by
  unfold State.setUnc
  dsimp only
  split <;> simp [State.setTime]

theorem State.growUnc_mem (s : State) (d : Nat) : (s.growUnc d).mem = s.mem := s.setUnc_mem _

theorem State.countTo_mem (s : State) (tb : Nat) : (s.countTo tb).mem = s.mem := by simp [State.countTo, State.setTime]

/-- Whatever the timebase counts, one edge of it grows the bound and adds to the timebase. -/
theorem State.clockTick_mem (s : State) : s.clockTick.mem = s.mem := by
  unfold State.clockTick
  split
  · simp [State.kaEdge, State.countTo_mem, State.growUnc_mem]
  · split
    · simp [State.bridgeCycle, State.countTo_mem, State.growUnc_mem]
    · split
      · simp [State.refCycle, State.countTo_mem, State.growUnc_mem]
      · rfl

/-- A beat boundary changes registers and the record of its path. -/
theorem State.rotBeat_mem (s : State) (p : Path) : (s.rotBeat p).mem = s.mem := by
  unfold State.rotBeat State.swapNow
  split
  · simp
  · split
    · simp [State.rotSwap, State.sweepStep, State.rotRest, State.modPath]
    · rfl

theorem State.frameBeat_mem (s : State) (p : Path) : (s.frameBeat p).mem = s.mem := by
  unfold State.frameBeat
  dsimp only
  split_ifs <;> simp [State.setSeg]

theorem State.tick_mem (s : State) : s.tick.mem = s.mem :=
  forAll_keeps (M := fun t => t.mem = s.mem) s.clockTick_mem allPaths fun p u hu =>
    ((u.rotBeat p).frameBeat_mem p).trans ((u.rotBeat_mem p).trans hu)

/-! ### A reference declared present (R210) -/

theorem State.resumeProbe_keepsTime (s : State) (p : Path) : s.KeepsTime (s.resumeProbe p) :=
  ((State.KeepsTime.refl s).modPath p _).trans (State.newWindow_keepsTime _ p)

/-- A presence bit is not the selection. -/
theorem State.refSel_setF_refOk (s : State) (r : Bool) (v : Nat) : (s.setF .time (refOkFld r) v).refSel = s.refSel := by
  cases r <;> exact s.on_setF_disj .time v (by decide) (by decide) (by decide)

/-- The selected reference, declared present in full reset, leaves the timebase as it is: counting or not. -/
theorem State.refPresent_counting_of_fullReset {r : Bool} (hsel : s.refSel = r) (hreset : s.device = .fullReset) :
    (s.refPresent r).time.counting = s.time.counting := by
  unfold State.refPresent
  extract_lets shown record present
  have hshown : shown.refSel = r := (s.refSel_setF_refOk r 1).trans hsel
  have hprobes : present.KeepsTime (forAll allPaths (fun p u => if (u.path p).pause == 4 then u.resumeProbe p else u) present) :=
    (State.KeepsTime.refl present).forAll allPaths fun p u => .ite (u.resumeProbe_keepsTime p) (.refl u)
  rw [if_neg (by simp [hshown]), hprobes.2]
  simp [present, record, shown, State.setTime, hreset]

/-- At the end of a full reset REFCLK0 is selected, the keep-alive oscillator is not counted and the timebase does not count. -/
theorem reset_meets_refclkPresent :
    State.reset.refSel = false ∧ State.reset.onKa = false ∧ State.reset.device = .fullReset ∧ State.reset.time.counting = false := by
  decide +kernel

end Sys2Proof.Machine

open Sys2Proof Sys2Proof.Machine

/-- Settles O29: the tick that a step with no command waiting makes comes after its state, and stores to no memory window. What the tick is,
is the model's choice (log 5). -/
theorem idleStepTicks : Obligations.IdleStepTicks := by
  intro s hidle
  have hafter := State.tick_after s (State.After.refl s)
  exact ⟨by rw [step, hidle], hafter.elapsed_le, s.tick_mem, hafter.queue_of.trans hidle⟩

/-- Refutes O13: its clause of REFCLK_PRESENT does not ask that the full reset be over. In full reset, as in the state after reset, the
timebase does not begin to count when the selected reference is declared present. -/
theorem not_referenceCommandsComplete : ¬ Obligations.ReferenceCommandsComplete := by
  intro ⟨_, hpresent, _⟩
  obtain ⟨hsel, hka, hdevice, hidle⟩ := reset_meets_refclkPresent
  obtain ⟨t, ht, -, hcounts⟩ := hpresent false State.reset hsel
  have hstill := (State.refPresent_counting_of_fullReset hsel hdevice).trans hidle
  rw [Host.Outcome.next.inj ht, hcounts hka] at hstill
  exact absurd hstill (by decide)

end

section
/-!
SUPPORT. A write of the TIME page that is taken (R2, R5): what it stores, and the state in which it then has its effect.
-/
namespace Sys2Proof.Machine

variable {s : State} {off : Nat}

/-! ### What a write of one field of a register comes to (R5) -/

/-- An action bit, written alone, is an action, and leaves the register as it is. -/
theorem writeOut_action (v : Nat → Word) {g : Page} (hoff : off ≠ 0x008) {b : Nat} (hb : b < 32) {before after : List Row} {r : Row}
    (hrows : rowsAt g off = before ++ r :: after) (hacc : r.acc = .w1s) (hfld : r.fld = ⟨off, b, b⟩)
    (hothers : ∀ a ∈ before ++ after, fldMask b b &&& fldMask a.fld.hi a.fld.lo = 0) :
    (writeOut v false g off (fset 0 b b 1) (fldMask b b)).word = v (pageAddr g off) ∧
      (writeOut v false g off (fset 0 b b 1) (fldMask b b)).act = 1#32 <<< b := by
  have hmask : fldMask b b &&& ~~~ctlUnsupported g off = fldMask b b := by
    rw [ctlUnsupported, if_neg hoff]
    exact BitVec.and_allOnes
  have hact : ∀ i : Fin 32, (0 : Word) ||| (fset 0 i.val i.val 1 &&& fldMask i.val i.val &&& fldMask i.val i.val) = 1#32 <<< i.val := by
    decide +kernel
  have hbit : ∀ i : Fin 32, fldMask i.val i.val &&& fldMask i.val i.val ≠ 0 := by decide +kernel
  have hwritten : fldMask b b &&& fldMask r.fld.hi r.fld.lo ≠ 0 := by
    rw [hfld]
    exact hbit ⟨b, hb⟩
  simp only [writeOut, hrows, hmask, List.foldl_append, List.foldl_cons]
  rw [foldl_writeRow_of_not_written _ fun a ha => hothers a (List.mem_append_left _ ha), writeRow_w1s hacc hwritten,
    foldl_writeRow_of_not_written _ fun a ha => hothers a (List.mem_append_right _ ha), hfld]
  exact ⟨rfl, hact ⟨b, hb⟩⟩

/-- The code of a field that is a whole register is the register's word. -/
theorem fget_whole (w : Word) : fget w 31 0 = w.toNat := by
  have := w.isLt
  rw [fget]
  omega

/-- A legal code written to the one field of a register is stored. -/
theorem writeOut_rw_alone (v : Nat → Word) {g : Page} (hoff : off ≠ 0x008) {hi : Nat} {r : Row} {data : Word}
    (hrows : rowsAt g off = [r]) (hacc : r.acc = .rw) (hfld : r.fld = ⟨off, hi, 0⟩) (hhi : hi < 32) (hsrc : off ≠ 0x050 ∧ off ≠ 0x410)
    (hlegal : legalCode r.legal (fget data hi 0) = true) :
    (writeOut v false g off data allOnes).word = fset (v (pageAddr g off)) hi 0 (fget data hi 0) := by
  have hmask : allOnes &&& ~~~ctlUnsupported g off = allOnes := by
    rw [ctlUnsupported, if_neg hoff]
    decide
  have hones : ∀ i : Fin 32, allOnes.getLsbD i.val = true ∧ allOnes &&& fldMask i.val 0 ≠ 0 := by decide +kernel
  have hcode : fget (merge (v (pageAddr g off)) data allOnes) hi 0 = fget data hi 0 :=
    fget_merge fun i _ hi' => (hones ⟨i, by omega⟩).1
  have hne : ∀ x : Fld, x.off = 0x050 ∨ x.off = 0x410 → r.fld ≠ x := by
    rintro x hx rfl
    simp [hfld, hsrc] at hx
  simp only [writeOut, hrows, hmask, List.foldl_cons, List.foldl_nil]
  rw [writeRow_rw_legal hacc (by rw [hfld]; exact (hones ⟨hi, hhi⟩).2) (hne _ (.inl rfl))
      (fieldLegal_of_legalCode (by rw [hfld, hcode]; exact hlegal) (hne _ (.inr rfl))), hfld]
  exact congrArg (fset _ hi 0) hcode

/-- A code of 32 bits replaces the whole register. -/
theorem fset_whole (w data : Word) : fset w 31 0 (fget data 31 0) = data := by
  rw [← fget_merge (old := w) (mask := allOnes) (by decide)]
  exact fset_merge_whole w w data

/-! ### Where a write of the TIME page has its effect -/

/-- `t` has the fields of the TIME page's block, but for those at `off`, and every record as `s` has them. -/
def State.TimeBlockBut (off : Nat) (s t : State) : Prop :=
  (∀ x : Fld, 0x040 ≤ x.off → x.off < 4096 → x.off ≠ off → t.f .time x = s.f .time x) ∧ s.SameRest t

theorem State.TimeBlockBut.time {t : State} (h : s.TimeBlockBut off t) : t.time = s.time := by
  have hrest := h.2
  simp only [State.SameRest] at hrest
  simp only [hrest]

/-- A write of a register of the block that is taken has its effect in a state that holds what it stores. -/
theorem State.offerTime_leads {c : Src} {data mask : Word} (h : s.takes c .time off data mask = true) (hblock : 0x040 ≤ off)
    (hpeak : off ≠ 0x06C) (hlt : off < 4096) :
    ∃ (v : Nat → Word) (u : State), v (pageAddr .time off) = s.rd (pageAddr .time off) ∧
      s.offerReg c .time off data mask = u.effTime off (s.rd (pageAddr .time off)) (writeOut v false .time off data mask).act
        (mask &&& ~~~(writeOut v false .time off data mask).bad) ∧
      u.rd (pageAddr .time off) = (writeOut v false .time off data mask).word ∧ s.TimeBlockBut off u := by
  have hkind : wrKind .time off = .fields := by simp [wrKind, isCmdWord]
  have hown : ownReg .time off = true := by
    simp [ownReg, feedsSum, pageAddr_time_not_side hlt, hblock, hpeak, hlt]
    omega
  obtain ⟨v, u, hold, hlead, hword, hframe, hsame⟩ := State.offerReg_leads h hkind (fun _ => rfl) hown
  have heffect : ∀ old act wrote, u.directEffect .time off old act wrote = u.effTime off old act wrote := fun old act wrote => by
    simp [State.directEffect, State.effect, Nat.not_lt.2 hblock]
  refine ⟨v, u, hold, hlead.trans (heffect _ _ _), hword, fun x hlo hx hne => hframe.f ?_ (pageAddr_time_not_side hx), hsame⟩
  simp only [storeRegs, pageAddr, pageNum, List.mem_cons, List.not_mem_nil, or_false]
  omega

/-! ### TIME_CTL -/

/-- The fields of TIME_CTL. -/
def autoRearmRow : Row := { fld := TimeR.TIME_CTL_AUTO_REARM, acc := .rw, rst := 0x1 }
def timeSrcRow : Row := { fld := TimeR.TIME_CTL_SRC, acc := .rw, rst := 0x0, legal := [(0, 2)] }
def holdReqRow : Row := { fld := TimeR.TIME_CTL_HOLD_REQ, acc := .w1s, rst := 0x0 }
def timeArmRow : Row := { fld := TimeR.TIME_CTL_ARM, acc := .w1s, rst := 0x0 }
def timeStepRow : Row := { fld := TimeR.TIME_CTL_STEP, acc := .w1s, rst := 0x0 }

theorem rowsAt_timeCtl : rowsAt .time 0x050 = [autoRearmRow, timeSrcRow, holdReqRow, timeArmRow, timeStepRow] := by decide +kernel

/-- STEP, ARM or HOLD_REQ written alone is an action, and leaves TIME_CTL as it is. -/
theorem writeOut_timeAct (v : Nat → Word) {b : Nat} (hb : b < 3) :
    (writeOut v false .time 0x050 (fset 0 b b 1) (fldMask b b)).word = v (pageAddr .time 0x050) ∧
      (writeOut v false .time 0x050 (fset 0 b b 1) (fldMask b b)).act = 1#32 <<< b := by
  interval_cases b
  · exact writeOut_action v (by decide) (by decide) (before := [autoRearmRow, timeSrcRow, holdReqRow, timeArmRow]) (after := [])
      rowsAt_timeCtl rfl rfl (by decide)
  · exact writeOut_action v (by decide) (by decide) (before := [autoRearmRow, timeSrcRow, holdReqRow]) (after := [timeStepRow])
      rowsAt_timeCtl rfl rfl (by decide)
  · exact writeOut_action v (by decide) (by decide) (before := [autoRearmRow, timeSrcRow]) (after := [timeArmRow, timeStepRow])
      rowsAt_timeCtl rfl rfl (by decide)

/-- STEP, ARM or HOLD_REQ that is taken acts in a state that has the whole block, SRC too, as it was. -/
theorem State.offerTimeAct_leads {c : Src} {b : Nat} (hb : b < 3) (h : s.takesF c .time ⟨0x050, b, b⟩ 1 = true) :
    ∃ (u : State) (old wrote : Word), s.offerAct c .time ⟨0x050, b, b⟩ = u.effTime 0x050 old (1#32 <<< b) wrote ∧
      fget old 5 4 = u.f .time TimeR.TIME_CTL_SRC ∧ s.TimeBlockBut 0 u := by
  have htakes : s.takes c .time 0x050 (fset 0 b b 1) (fldMask b b) = true := h
  obtain ⟨v, u, hold, hlead, hword, hblock, hsame⟩ := State.offerTime_leads htakes (by decide) (by decide) (by decide)
  obtain ⟨hkept, hact⟩ := writeOut_timeAct v hb
  have hctl : u.rd (pageAddr .time 0x050) = s.rd (pageAddr .time 0x050) := hword.trans (hkept.trans hold)
  refine ⟨u, _, _, hact ▸ hlead, congrArg (fget · 5 4) hctl.symm, fun x hlo hx _ => ?_, hsame⟩
  by_cases hoff : x.off = 0x050
  · rw [State.f, hoff, hctl, State.f, hoff]
  · exact hblock x hlo hx hoff

variable {old wrote : Word} (hsrc : fget old 5 4 = s.f .time TimeR.TIME_CTL_SRC)
include hsrc

theorem State.effTime_step : s.effTime 0x050 old (1#32 <<< 0) wrote = s.timeStep := by
  simp [State.effTime, wbit, hsrc]

theorem State.effTime_arm : s.effTime 0x050 old (1#32 <<< 1) wrote = s.setF .time TimeR.TIME_STAT_ARMED 1 := by
  simp [State.effTime, wbit, hsrc]

theorem State.effTime_holdReq (hhost : s.f .time TimeR.TIME_CTL_SRC = 1) :
    s.effTime 0x050 old (1#32 <<< 2) wrote = s.holdoverBegin := by
  simp [State.effTime, wbit, hsrc, hhost]

end Sys2Proof.Machine
end

section
/-!
SUPPORT. The timebase and its bound: what a step (R205, R276), holdover (R208), a rate (R203), a write of TIME_UNC (R209) and a crossing of
UNC_THR (R206) leave to be read.
-/
namespace Sys2Proof.Machine

variable {s : State}

/-! ### Fields of the TIME page -/

/-- An event of the TIME page keeps its registers but EVT_RAW. -/
theorem State.f_raise_time (s : State) (bit : Nat) {x : Fld} (hx : x.off < 4096) (hne : x.off ≠ 0x010) :
    (s.raise .time bit).f .time x = s.f .time x := by
  rw [State.f, State.rd_raise _ _ _ _ (pageAddr_time_not_side hx) fun e => hne ((pageAddr_inj hx (by decide)).1 e).2, State.f]

theorem State.on_raise_time (s : State) (bit : Nat) {x : Fld} (hx : x.off < 4096) (hne : x.off ≠ 0x010) :
    (s.raise .time bit).on .time x = s.on .time x := by
  rw [State.on, s.f_raise_time bit hx hne, State.on]

/-- No event touches the time record. -/
theorem State.time_raise (s : State) (g : Page) (bit : Nat) : (s.raise g bit).time = s.time := by
  have hrest := (s.raise_spec g bit).2
  simp only [State.SameRest] at hrest
  simp only [hrest]

theorem State.time_setF (s : State) (g : Page) (x : Fld) (v : Nat) : (s.setF g x v).time = s.time := rfl

/-- A field of one register keeps the code that it has when one of another is set. -/
theorem State.on_setF_ne (s : State) {x y : Fld} (v : Nat) (hne : pageAddr .time y.off ≠ pageAddr .time x.off) :
    (s.setF .time x v).on .time y = s.on .time y := by
  rw [State.on, s.f_setF_ne _ _ _ _ v hne, State.on]

/-- A new bound is taken, and of TIME_STAT no field but UNC_HIGH changes. -/
theorem State.setUnc_spec (s : State) (b : Option Nat) : (s.setUnc b).time = { s.time with unc := b } ∧
    ∀ x : Fld, x.off = 0x058 → x.hi < 32 → x.hi < 5 ∨ 5 < x.lo → (s.setUnc b).f .time x = s.f .time x := by
  have hne : ∀ x : Fld, x.off = 0x058 → pageAddr .time x.off ≠ pageAddr .time TimeR.TIME_UNC_UNC.off := fun x hx => by
    rw [hx]
    decide
  unfold State.setUnc
  dsimp only
  split
  · exact ⟨rfl, fun x hx hh hd => (State.f_setF_disj _ _ _ _ _ (by decide) hh hd.symm).trans (State.f_setF_ne _ _ _ _ _ _ (hne x hx))⟩
  · exact ⟨rfl, fun x hx hh hd => State.f_setF_ne _ _ _ _ _ _ (hne x hx)⟩

/-! ### The cues after a step (R276) -/

variable {t : State}

theorem State.stepForward_keepsTime (s : State) (x : JobSt) (c : BitVec 12) : s.KeepsTime (s.stepForward x c) := by
  unfold State.stepForward
  exact .ite (.refl s) (.ite (.ite ((State.KeepsTime.refl s).setJob _) (.ite (.refl s) (s.lateTime_keepsTime x c none 5)))
    (((((State.KeepsTime.refl s).setJob _).cueSetState c 1).cueSkipped c _).cueOutcome c 5))

theorem State.stepBack_keepsTime (s : State) (x : JobSt) (c : BitVec 12) : s.KeepsTime (s.stepBack x c) := by
  unfold State.stepBack
  exact .ite ((State.KeepsTime.refl s).setJob _) (.ite (.refl s) (((State.KeepsTime.refl s).setJob _).cueSetState c 1))

theorem State.stepPending_keepsTime (s : State) (x : JobSt) (c : BitVec 12) (old : Nat) : s.KeepsTime (s.stepPending x c old) := by
  unfold State.stepPending
  extract_lets following n moved
  have hmoved : s.KeepsTime moved := (State.KeepsTime.refl s).setJob _
  exact .ite (.refl s) (.ite hmoved ((hmoved.cueSkipped c n).cueOutcome c 5))

theorem State.cueStepped_keepsTime (s : State) (x : JobSt) (c : BitVec 12) (old : Nat) : s.KeepsTime (s.cueStepped x c old) := by
  unfold State.cueStepped
  extract_lets came y
  have hcame : s.KeepsTime (s.setJob y) := (State.KeepsTime.refl s).setJob y
  exact .ite (hcame.setJob _) (.ite (hcame.trans (State.stepPending_keepsTime _ y c old))
    (.ite (s.stepForward_keepsTime x c) (s.stepBack_keepsTime x c)))

theorem State.cuesStepped_keepsTime (s : State) (old : Nat) : s.KeepsTime (s.cuesStepped old) := by
  refine State.KeepsTime.trans (State.KeepsTime.foldl (.refl s) _ fun x u => ?_) (State.presetsDue_keepsTime _)
  split
  · exact .ite (u.cueStepped_keepsTime x _ old) (.refl u)
  · exact .refl u

/-! ### The step (R205) -/

/-- What an armed step within range sets, before its event and its cues. -/
def State.stepShown (s : State) (tb : Nat) : State :=
  ((((s.setTime { s.time with tb := tb, kaDirty := true }).setUnc (some 0)).setF .time TimeR.TIME_STAT_ARMED 0).setF
    .time TimeR.TIME_STAT_VALID 1).inc .time TimeR.TIME_STAT_STEPS

theorem State.stepShown_time (s : State) (tb : Nat) :
    (s.stepShown tb).time = { s.time with tb := tb, kaDirty := true, unc := some 0 } := by
  rw [State.stepShown, State.inc, State.add, State.time_setF, State.time_setF, State.time_setF, (State.setUnc_spec _ _).1]
  rfl

theorem State.stepShown_stat (s : State) (tb : Nat) :
    (s.stepShown tb).on .time TimeR.TIME_STAT_ARMED = false ∧ (s.stepShown tb).on .time TimeR.TIME_STAT_VALID = true ∧
      (s.stepShown tb).f .time TimeR.TIME_STAT_STEPS = satNat 0xFF (s.f .time TimeR.TIME_STAT_STEPS + 1) := by
  have hsteps := (State.setUnc_spec (s.setTime { s.time with tb := tb, kaDirty := true }) (some 0)).2 TimeR.TIME_STAT_STEPS rfl
    (by decide) (.inr (by decide))
  unfold State.stepShown
  refine ⟨?_, ?_, ?_⟩
  · rw [State.inc, State.add, State.on_setF_disj _ _ _ (by decide) (by decide) (by decide),
      State.on_setF_disj _ _ _ (by decide) (by decide) (by decide), State.on_setF_zero _ _ (by decide) (by decide)]
  · rw [State.inc, State.add, State.on_setF_disj _ _ _ (by decide) (by decide) (by decide),
      State.on_setF_one _ _ (by decide) (by decide)]
  · rw [State.f_inc_self _ _ (by decide) (by decide), State.f_setF_disj _ _ _ _ _ (by decide) (by decide) (by decide),
      State.f_setF_disj _ _ _ _ _ (by decide) (by decide) (by decide), hsteps]
    rfl

/-- An armed step within range is made: the timebase moves by its offset, its bound is 0 and the next step must be armed. -/
theorem State.stepBy_steps {ofs : Int} (harmed : s.on .time TimeR.TIME_STAT_ARMED = true)
    (hrange : stepInRange ((s.time.tb : Int) + ofs) (2 ^ 48 - 1) = true) :
    ((s.stepBy ofs).time.tb : Int) = (s.time.tb : Int) + ofs ∧ (s.stepBy ofs).time.unc = some 0 ∧
      (s.stepBy ofs).on .time TimeR.TIME_STAT_ARMED = false ∧ (s.stepBy ofs).on .time TimeR.TIME_STAT_VALID = true ∧
      (s.stepBy ofs).f .time TimeR.TIME_STAT_STEPS = satNat 0xFF (s.f .time TimeR.TIME_STAT_STEPS + 1) := by
  have hstep : s.stepBy ofs = ((s.stepShown ((s.time.tb : Int) + ofs).toNat).raise .time 0).cuesStepped s.time.tb := by
    have hgo : ¬ (!s.on .time TimeR.TIME_STAT_ARMED || !stepInRange ((s.time.tb : Int) + ofs) (2 ^ 48 - 1)) = true := by
      rw [harmed, hrange]
      decide
    unfold State.stepBy
    dsimp only
    rw [if_neg hgo]
    rfl
  have hpos : 0 ≤ (s.time.tb : Int) + ofs := (of_decide_eq_true hrange).1
  have hcues := State.cuesStepped_keepsTime ((s.stepShown ((s.time.tb : Int) + ofs).toNat).raise .time 0) s.time.tb
  have htime := hcues.2.trans ((State.time_raise _ .time 0).trans (s.stepShown_time _))
  have hfield : ∀ x : Fld, x.off < 4096 → x.off ≠ 0x010 →
      (s.stepBy ofs).f .time x = (s.stepShown ((s.time.tb : Int) + ofs).toNat).f .time x := fun x hx hne => by
    rw [hstep, hcues.f hx, State.f_raise_time _ _ hx hne]
  obtain ⟨hdisarmed, hvalid, hcount⟩ := s.stepShown_stat ((s.time.tb : Int) + ofs).toNat
  rw [← hstep] at htime
  refine ⟨by rw [htime]; exact Int.toNat_of_nonneg hpos, by rw [htime], ?_, ?_, (hfield _ (by decide) (by decide)).trans hcount⟩
  · rw [State.on, hfield _ (by decide) (by decide), ← State.on, hdisarmed]
  · rw [State.on, hfield _ (by decide) (by decide), ← State.on, hvalid]

/-! ### Holdover (R208) and the rate (R203) -/

/-- In holdover after its beginning, which is now unless the timebase was in holdover before. -/
theorem State.holdoverBegin_begins (s : State) : s.holdoverBegin.on .time TimeR.TIME_STAT_HOLDOVER = true ∧
    (s.on .time TimeR.TIME_STAT_HOLDOVER = false → s.holdoverBegin.time.holdAt = s.elapsed) := by
  unfold State.holdoverBegin
  split
  case isTrue hin => exact ⟨hin, fun hout => absurd (hin.symm.trans hout) (by decide)⟩
  case isFalse =>
    refine ⟨?_, fun _ => by rw [State.time_raise]; rfl⟩
    rw [State.on_raise_time _ _ (by decide) (by decide)]
    exact State.on_setF_one _ _ (by decide) (by decide)

theorem State.holdoverEnd_ends (s : State) : s.holdoverEnd.on .time TimeR.TIME_STAT_HOLDOVER = false ∧
    ∀ x : Fld, x.off < 4096 → x.off ∉ [0x010, 0x058] → s.holdoverEnd.f .time x = s.f .time x := by
  unfold State.holdoverEnd
  split
  case isTrue =>
    refine ⟨?_, fun x hx hoff => ?_⟩
    · rw [State.on_raise_time _ _ (by decide) (by decide), State.on_setF_zero _ _ (by decide) (by decide)]
    · simp only [List.mem_cons, List.not_mem_nil, or_false, not_or] at hoff
      obtain ⟨hevt, hstat⟩ := hoff
      have hne : pageAddr .time x.off ≠ pageAddr .time 0x058 := fun e => hstat ((pageAddr_inj hx (by decide)).1 e).2
      rw [State.f_raise_time _ _ hx hevt, State.f_setF_ne _ _ _ _ _ _ hne, State.f_setF_ne _ _ _ _ _ _ hne]
  case isFalse hout => exact ⟨Bool.eq_false_iff.2 hout, fun _ _ _ => rfl⟩

/-- A rate that is written is read back, and ends a holdover that the host sources. -/
theorem State.rateWrite_applies (s : State) (rate : Nat) :
    (s.rateWrite rate).f .time TimeR.TIME_RATE_RATE = rate % 2 ^ 32 ∧
      (s.f .time TimeR.TIME_CTL_SRC = 1 → (s.rateWrite rate).on .time TimeR.TIME_STAT_HOLDOVER = false) := by
  unfold State.rateWrite
  extract_lets record marked rated
  have hmarked : ∀ x : Fld, marked.f .time x = s.f .time x := fun x => by
    simp only [marked]
    split <;> rfl
  have hrate : rated.f .time TimeR.TIME_RATE_RATE = rate % 2 ^ 32 := State.f_setF_self _ _ _ _ (by decide) (by decide)
  have hsrc : rated.f .time TimeR.TIME_CTL_SRC = s.f .time TimeR.TIME_CTL_SRC :=
    (State.f_setF_ne _ _ _ _ _ _ (by decide)).trans (hmarked _)
  obtain ⟨hends, hkept⟩ := rated.holdoverEnd_ends
  rw [hsrc]
  split
  case isTrue => exact ⟨(hkept _ (by decide) (by decide)).trans hrate, fun _ => hends⟩
  case isFalse hother => exact ⟨hrate, fun hhost => absurd hhost hother⟩

/-! ### The bound (R206, R209) -/

/-- A crossing of UNC_THR sets UNC_HIGH, and arms the step where AUTO_REARM asks for it. -/
theorem State.uncCross_shows (hover : uncNs s.time.unc > s.f .time TimeR.UNC_CFG_UNC_THR)
    (hlow : s.on .time TimeR.TIME_STAT_UNC_HIGH = false) :
    s.uncCross.on .time TimeR.TIME_STAT_UNC_HIGH = true ∧
      (s.on .time TimeR.TIME_CTL_AUTO_REARM = true → s.uncCross.on .time TimeR.TIME_STAT_ARMED = true) := by
  have hcross : (decide (uncNs s.time.unc > s.f .time TimeR.UNC_CFG_UNC_THR) && !s.on .time TimeR.TIME_STAT_UNC_HIGH) = true := by
    rw [decide_eq_true hover, hlow]
    rfl
  unfold State.uncCross
  rw [if_pos hcross]
  extract_lets high armed
  have hhigh : high.on .time TimeR.TIME_STAT_UNC_HIGH = true := State.on_setF_one _ _ (by decide) (by decide)
  have hrearm : high.on .time TimeR.TIME_CTL_AUTO_REARM = s.on .time TimeR.TIME_CTL_AUTO_REARM := s.on_setF_ne _ (by decide)
  rw [State.on_raise_time _ _ (by decide) (by decide), State.on_raise_time _ _ (by decide) (by decide)]
  simp only [armed, hrearm]
  split
  case isTrue => exact ⟨(State.on_setF_disj _ _ _ (by decide) (by decide) (by decide)).trans hhigh, fun _ =>
      State.on_setF_one _ _ (by decide) (by decide)⟩
  case isFalse hoff => exact ⟨hhigh, fun hon => absurd hon hoff⟩

/-! ### The writes that are taken -/

/-- The offset of a step stands in TIME_STEP. -/
theorem State.TimeBlockBut.stepOffset {off : Nat} (h : s.TimeBlockBut off t) (hoff : off < 0x060) : t.stepOffset = s.stepOffset := by
  have hkept : ∀ x : Fld, 0x060 ≤ x.off → x.off < 4096 → t.f .time x = s.f .time x := fun x hlo hx =>
    h.1 x (by omega) hx (by omega)
  simp (disch := decide) only [State.stepOffset, hkept]

/-- STEP that is taken steps the timebase, where the step is armed and within range. -/
theorem State.offerStep_steps {c : Src} (h : s.takesF c .time TimeR.TIME_CTL_STEP 1 = true)
    (harmed : s.on .time TimeR.TIME_STAT_ARMED = true)
    (hrange : stepInRange ((s.time.tb : Int) + s.stepOffset) (2 ^ 48 - 1) = true) :
    ((s.offerAct c .time TimeR.TIME_CTL_STEP).time.tb : Int) = (s.time.tb : Int) + s.stepOffset ∧
      (s.offerAct c .time TimeR.TIME_CTL_STEP).time.unc = some 0 ∧
      (s.offerAct c .time TimeR.TIME_CTL_STEP).on .time TimeR.TIME_STAT_ARMED = false ∧
      (s.offerAct c .time TimeR.TIME_CTL_STEP).on .time TimeR.TIME_STAT_VALID = true ∧
      (s.offerAct c .time TimeR.TIME_CTL_STEP).f .time TimeR.TIME_STAT_STEPS = satNat 0xFF (s.f .time TimeR.TIME_STAT_STEPS + 1) := by
  obtain ⟨u, old, wrote, hlead, hsrc, hblock⟩ := State.offerTimeAct_leads (b := 0) (by decide) h
  have hstat : ∀ x : Fld, x.off = 0x058 → u.f .time x = s.f .time x := fun x hx => hblock.1 x (by omega) (by omega) (by omega)
  have hstep : s.offerAct c .time TimeR.TIME_CTL_STEP = u.stepBy s.stepOffset := by
    rw [← hblock.stepOffset (by decide)]
    exact hlead.trans (State.effTime_step hsrc)
  have hsteps := State.stepBy_steps (s := u) (ofs := s.stepOffset) (by rw [State.on, hstat _ rfl, ← State.on, harmed])
    (by rw [hblock.time, hrange])
  rw [hblock.time, hstat _ rfl] at hsteps
  rw [hstep]
  exact hsteps

/-- ARM that is taken arms the step. -/
theorem State.offerArm_arms {c : Src} (h : s.takesF c .time TimeR.TIME_CTL_ARM 1 = true) :
    (s.offerAct c .time TimeR.TIME_CTL_ARM).on .time TimeR.TIME_STAT_ARMED = true := by
  obtain ⟨u, old, wrote, hlead, hsrc, -⟩ := State.offerTimeAct_leads (b := 1) (by decide) h
  have harm : s.offerAct c .time TimeR.TIME_CTL_ARM = _ := hlead.trans (State.effTime_arm hsrc)
  rw [harm]
  exact State.on_setF_one _ _ (by decide) (by decide)

/-- HOLD_REQ that is taken begins holdover, where the host sources the timebase. -/
theorem State.offerHoldReq_begins {c : Src} (h : s.takesF c .time TimeR.TIME_CTL_HOLD_REQ 1 = true)
    (hhost : s.f .time TimeR.TIME_CTL_SRC = 1) :
    (s.offerAct c .time TimeR.TIME_CTL_HOLD_REQ).on .time TimeR.TIME_STAT_HOLDOVER = true := by
  obtain ⟨u, old, wrote, hlead, hsrc, hblock⟩ := State.offerTimeAct_leads (b := 2) (by decide) h
  have hhost' : u.f .time TimeR.TIME_CTL_SRC = 1 := (hblock.1 _ (by decide) (by decide) (by decide)).trans hhost
  have hhold : s.offerAct c .time TimeR.TIME_CTL_HOLD_REQ = _ := hlead.trans (State.effTime_holdReq hsrc hhost')
  rw [hhold]
  exact u.holdoverBegin_begins.1

/-- The one field of TIME_RATE, and of TIME_UNC. -/
def timeRateRow : Row := { fld := TimeR.TIME_RATE_RATE, acc := .rw, rst := 0x0 }
def timeUncRow : Row := { fld := TimeR.TIME_UNC_UNC, acc := .cnt, rst := 0xFFFFFFFF }

theorem rowsAt_timeRate : rowsAt .time 0x054 = [timeRateRow] := by decide +kernel

theorem rowsAt_timeUnc : rowsAt .time 0x05C = [timeUncRow] := by decide +kernel

/-- A write of TIME_RATE that is taken is read back, and ends a holdover that the host sources. -/
theorem State.offerRate_applies {c : Src} {rate : Word} (h : s.takes c .time 0x054 rate allOnes = true) :
    (s.offerReg c .time 0x054 rate allOnes).rd (pageAddr .time 0x054) = rate ∧ (s.f .time TimeR.TIME_CTL_SRC = 1 →
      (s.offerReg c .time 0x054 rate allOnes).on .time TimeR.TIME_STAT_HOLDOVER = false) := by
  obtain ⟨v, u, -, hlead, hword, hblock, -⟩ := State.offerTime_leads h (by decide) (by decide) (by decide)
  have hstored : u.f .time TimeR.TIME_RATE_RATE = rate.toNat := by
    refine (congrArg (fget · 31 0) hword).trans ?_
    rw [writeOut_rw_alone v (by decide) rowsAt_timeRate rfl rfl (by decide) (by decide) rfl, fset_whole, fget_whole]
  have heffect : ∀ old act wrote, u.effTime 0x054 old act wrote =
      (u.wr (pageAddr .time 0x054) old).rateWrite (u.f .time TimeR.TIME_RATE_RATE) := fun old act wrote => by simp [State.effTime]
  have hsrc : ∀ old, (u.wr (pageAddr .time 0x054) old).f .time TimeR.TIME_CTL_SRC = s.f .time TimeR.TIME_CTL_SRC := fun old => by
    rw [State.f, State.rd_wr_ne _ _ _ _ (by decide), ← State.f, hblock _ (by decide) (by decide) (by decide)]
  rw [hlead, heffect, hstored]
  obtain ⟨hrate, hends⟩ := (u.wr (pageAddr .time 0x054) (s.rd (pageAddr .time 0x054))).rateWrite_applies rate.toNat
  rw [hsrc] at hends
  refine ⟨BitVec.eq_of_toNat_eq ?_, hends⟩
  rw [← fget_whole]
  exact hrate.trans (Nat.mod_eq_of_lt rate.isLt)

/-- A write of TIME_UNC stores 0 or leaves it (R209). -/
theorem writeOut_timeUnc (v : Nat → Word) (data : Word) : writeOut v false .time 0x05C data allOnes =
    { word := if data = 0 then 0 else v (pageAddr .time 0x05C), access := data &&& allOnes &&& roMask .time 0x05C != 0 } := by
  have hmask : allOnes &&& ~~~ctlUnsupported .time 0x05C = allOnes := by decide
  have hfld : fldMask timeUncRow.fld.hi timeUncRow.fld.lo = allOnes := by decide
  have hall : ∀ w : Word, w &&& allOnes = w := fun w => BitVec.and_allOnes
  simp only [writeOut, rowsAt_timeUnc, List.foldl_cons, List.foldl_nil, hmask, writeRow, hfld, hall]
  rw [if_neg (by decide)]
  rcases eq_or_ne data 0#32 with rfl | hsome
  · simp [timeUncRow, allOnes]
  · simp [timeUncRow, hsome, allOnes]

/-- A write of TIME_UNC that is taken sets the bound to 0 if it writes 0, and else leaves the bound. -/
theorem State.offerUnc_clears {c : Src} {data : Word} (h : s.takes c .time 0x05C data allOnes = true)
    (hknown : data = 0 ∨ s.rd (pageAddr .time 0x05C) ≠ 0) :
    (s.offerReg c .time 0x05C data allOnes).time.unc = if data = 0 then some 0 else s.time.unc := by
  obtain ⟨v, u, hold, hlead, hword, hblock⟩ := State.offerTime_leads h (by decide) (by decide) (by decide)
  rw [writeOut_timeUnc] at hlead hword
  have heffect : ∀ old act, u.effTime 0x05C old act (allOnes &&& ~~~0) =
      if u.rd (pageAddr .time 0x05C) = 0 then u.setUnc (some 0) else u := fun old act => by simp [State.effTime, allOnes]
  rw [hlead, heffect, hword]
  by_cases hzero : data = 0
  · rw [if_pos hzero, if_pos rfl, if_pos hzero, (State.setUnc_spec _ _).1]
  · have hkept : v (pageAddr .time 0x05C) ≠ 0 := hold ▸ hknown.resolve_left hzero
    rw [if_neg hzero, if_neg hkept, if_neg hzero, hblock.time]

end Sys2Proof.Machine

open Sys2Proof Sys2Proof.Machine

/-- Settles O12: what each command leads to, under the hypotheses of its clause. -/
theorem timebaseCommandsComplete : Obligations.TimebaseCommandsComplete := by
  refine ⟨fun c s h harmed hrange => ⟨_, rfl, State.offerStep_steps h harmed hrange⟩,
    fun c s h => ⟨_, rfl, State.offerArm_arms h⟩,
    fun c s h hhost => ⟨_, rfl, State.offerHoldReq_begins h hhost⟩,
    fun c rate s h => ⟨_, rfl, State.offerRate_applies h⟩,
    fun c v s h hknown => ⟨_, rfl, State.offerUnc_clears h hknown⟩,
    fun s hhost => ⟨_, congrArg Host.Outcome.next (if_pos hhost), s.holdoverBegin_begins⟩,
    fun s hover hlow => ⟨_, rfl, State.uncCross_shows hover hlow⟩⟩

end

section
/-!
SUPPORT. The writes of MARK_CFG and MARK_PERIOD that are taken (R216), and the pulses on PPS_OUT and PPS_IN (R217, R218).
-/
namespace Sys2Proof.Machine

variable {s : State}

/-! ### The mark grid (R216) -/

/-- The one field of MARK_CFG, and of MARK_PERIOD. -/
def markModeRow : Row := { fld := TimeR.MARK_CFG_MODE, acc := .rw, rst := 0x2, legal := [(0, 2)], nvm := true }
def markPeriodRow : Row := { fld := TimeR.MARK_PERIOD_P, acc := .rw, rst := 0x258000, legal := [(256, 4294967295)], nvm := true }

theorem rowsAt_markCfg : rowsAt .time 0x090 = [markModeRow] := by decide +kernel

theorem rowsAt_markPeriod : rowsAt .time 0x094 = [markPeriodRow] := by decide +kernel

/-- A legal period that is taken is P, and where it changes P a new grid starts. -/
theorem State.offerMarkPeriod_starts {c : Src} {data : Word} (h : s.takes c .time 0x094 data allOnes = true)
    (hlegal : 256 ≤ data.toNat) :
    (s.offerReg c .time 0x094 data allOnes).markP = data.toNat ∧ (s.markP ≠ data.toNat →
      (s.offerReg c .time 0x094 data allOnes).time.newGrid = true ∧
      (s.offerReg c .time 0x094 data allOnes).time.expect = if s.markMode = 0 then none else some (s.time.refCount + data.toNat)) := by
  obtain ⟨v, u, -, hlead, hword, hblock⟩ := State.offerTime_leads h (by decide) (by decide) (by decide)
  have hcode : legalCode markPeriodRow.legal (fget data 31 0) = true := by
    have := data.isLt
    rw [fget_whole]
    simp [legalCode, markPeriodRow, hlegal]
    omega
  rw [writeOut_rw_alone v (by decide) rowsAt_markPeriod rfl rfl (by decide) (by decide) hcode, fset_whole] at hword
  have hperiod : u.markP = data.toNat := (congrArg (fget · 31 0) hword).trans (fget_whole data)
  have hmode : u.markMode = s.markMode := hblock.1 _ (by decide) (by decide) (by decide)
  have heffect : ∀ old act wrote, u.effTime 0x094 old act wrote = if old = data then u else u.markCfgChange := fun old act wrote => by
    simp [State.effTime, hword]
  have hgrid : u.markCfgChange.time.newGrid = true ∧ u.markCfgChange.time.expect =
      if s.markMode = 0 then none else some (s.time.refCount + data.toNat) := by
    rw [← hmode, ← hperiod, ← hblock.time]
    exact ⟨rfl, rfl⟩
  rw [hlead, heffect]
  refine ⟨?_, fun hchange => ?_⟩
  · split <;> exact hperiod
  · have hne : s.rd (pageAddr .time 0x094) ≠ data := fun hsame => hchange ((congrArg (fget · 31 0) hsame).trans (fget_whole data))
    rw [if_neg hne]
    exact hgrid

/-- A legal mode that is taken is MODE, and where it changes MODE a new grid starts. -/
theorem State.offerMarkMode_starts {c : Src} {data : Word} (h : s.takes c .time 0x090 data allOnes = true) (hlegal : data.toNat ≤ 2) :
    (s.offerReg c .time 0x090 data allOnes).markMode = data.toNat ∧ (s.markMode ≠ data.toNat →
      (s.offerReg c .time 0x090 data allOnes).time.newGrid = true ∧
      (s.offerReg c .time 0x090 data allOnes).time.expect = if data = 0 then none else some (s.time.refCount + s.markP)) := by
  obtain ⟨v, u, -, hlead, hword, hblock⟩ := State.offerTime_leads h (by decide) (by decide) (by decide)
  have hdata : fget data 1 0 = data.toNat := by
    rw [fget]
    omega
  have hcode : legalCode markModeRow.legal (fget data 1 0) = true := by
    rw [hdata]
    simp [legalCode, markModeRow, hlegal]
  rw [writeOut_rw_alone v (by decide) rowsAt_markCfg rfl rfl (by decide) (by decide) hcode] at hword
  have hmode : u.markMode = data.toNat := by
    refine (congrArg (fget · 1 0) hword).trans ?_
    rw [fget_fset _ _ _ _ (by decide) (by decide), hdata]
    omega
  have hperiod : u.markP = s.markP := hblock.1 _ (by decide) (by decide) (by decide)
  have heffect : ∀ old act wrote, u.effTime 0x090 old act wrote = if fget old 1 0 = data.toNat then u else u.markCfgChange :=
    fun old act wrote => by simp [State.effTime, hmode]
  have hgrid : u.markCfgChange.time.newGrid = true ∧ u.markCfgChange.time.expect =
      if data = 0 then none else some (s.time.refCount + s.markP) := by
    have hzero : u.markMode = 0 ↔ data = 0 := by rw [hmode, BitVec.toNat_eq]; rfl
    rw [← hperiod, ← hblock.time]
    exact ⟨rfl, if_congr hzero rfl rfl⟩
  rw [hlead, heffect]
  refine ⟨?_, fun hchange => ?_⟩
  · split <;> exact hmode
  · have hne : ¬ fget (s.rd (pageAddr .time 0x090)) 1 0 = data.toNat := hchange
    rw [if_neg hne]
    exact hgrid

/-! ### PPS (R217, R218) -/

theorem State.ppsRise_of_due (hdue : s.time.ppsDue = true) : s.ppsRise.land.pps = true ∧ s.ppsRise.time.ppsDue = false := by
  rw [State.ppsRise, if_pos hdue]
  exact ⟨rfl, rfl⟩

theorem State.f_setTime (s : State) (x : TimeSt) (g : Page) (y : Fld) : (s.setTime x).f g y = s.f g y := rfl

theorem State.rd_setTime (s : State) (x : TimeSt) (a : Nat) : (s.setTime x).rd a = s.rd a := rfl

/-- What an edge on PPS_IN that is captured sets, for its timestamp, before its event. -/
def State.ppsStored (s : State) (q : BitVec 128) : State :=
  ((s.stampRegs (TimeR.PPS_IN_TS 0).off q).incW .time TimeR.PPS_STAT_IN_CNT).setTime { s.time with ppsInAt := some s.elapsed }

theorem State.ppsStored_time (s : State) (q : BitVec 128) : (s.ppsStored q).time = { s.time with ppsInAt := some s.elapsed } := rfl

theorem State.busyOf_ppsStored (s : State) (q : BitVec 128) (g : Page) : (s.ppsStored q).busyOf g = s.busyOf g := by
  simp [State.ppsStored, State.stampRegs_eq, State.busyOf, State.setTime]

theorem State.ppsStored_shows (s : State) (q : BitVec 128) :
    (s.ppsStored q).f .time TimeR.PPS_STAT_IN_CNT = (s.f .time TimeR.PPS_STAT_IN_CNT + 1) % 2 ^ 16 ∧
      ∀ i : Fin 4, (s.ppsStored q).rd (pageAddr .time (0x0C0 + 4 * i.val)) = quadWord q i.val := by
  have hcount : (s.stampRegs (TimeR.PPS_IN_TS 0).off q).f .time TimeR.PPS_STAT_IN_CNT = s.f .time TimeR.PPS_STAT_IN_CNT := by
    rw [State.f, State.rd_stampRegs_ne _ _ (by decide), State.f]
  refine ⟨?_, fun i => ?_⟩
  · rw [State.ppsStored, State.f_setTime, State.incW, State.f_setF_self _ _ _ _ (by decide) (by decide), hcount]
    rfl
  · have hne : pageAddr .time (0x0C0 + 4 * i.val) ≠ pageAddr .time TimeR.PPS_STAT_IN_CNT.off := by
      simp only [pageAddr, TimeR.PPS_STAT_IN_CNT]
      omega
    rw [State.ppsStored, State.rd_setTime, State.incW, State.rd_setF, if_neg hne]
    exact s.rd_stampRegs 0x0C0 q i

/-- An edge that the input sees and that is not ignored is captured, at one of 64 places in the present cycle: a free value (log 160). -/
theorem State.ppsEdge_captures (hvio : s.land.vio = true) (hdevice : s.device = .ready ∨ s.device = .starting)
    (hen : s.on .time TimeR.PPS_CTL_IN_EN = true)
    (hfar : s.time.ppsInAt.any (fun x => decide (s.elapsed - x < 500000000000000)) = false) :
    ∃ k : Fin 64, s.ppsEdge = (s.draw.2.ppsStored (s.stampOf (s.time.tb + k.val * s.refPeriod / 64))).raise .time 2 := by
  have hseen : (!s.on .time TimeR.PPS_CTL_IN_EN || !s.land.vio || !(s.device == .ready || s.device == .starting)) = false := by
    rcases hdevice with hdevice | hdevice <;> simp [hen, hvio, hdevice]
  refine ⟨⟨s.draw.1.toNat % 64, Nat.mod_lt _ (by decide)⟩, ?_⟩
  unfold State.ppsEdge
  rw [hseen, hfar, if_neg Bool.false_ne_true, if_neg Bool.false_ne_true]
  rfl

/-- What an edge that is captured leads to. -/
theorem State.ppsEdge_shows (hvio : s.land.vio = true) (hdevice : s.device = .ready ∨ s.device = .starting)
    (hen : s.on .time TimeR.PPS_CTL_IN_EN = true)
    (hfar : s.time.ppsInAt.any (fun x => decide (s.elapsed - x < 500000000000000)) = false) :
    s.ppsEdge.time.ppsInAt = some s.elapsed ∧
      s.ppsEdge.f .time TimeR.PPS_STAT_IN_CNT = (s.f .time TimeR.PPS_STAT_IN_CNT + 1) % 2 ^ 16 ∧
      (∃ k : Fin 64, ∀ i : Fin 4, s.ppsEdge.rd (pageAddr .time (0x0C0 + 4 * i.val)) =
        quadWord (s.stampOf (s.time.tb + k.val * s.refPeriod / 64)) i.val) ∧
      (s.busyOf .time ≠ .rehearsal → s.ppsEdge.evt .time 2 = true) := by
  obtain ⟨k, hcapture⟩ := State.ppsEdge_captures hvio hdevice hen hfar
  obtain ⟨hcount, hstamp⟩ := s.draw.2.ppsStored_shows (s.stampOf (s.time.tb + k.val * s.refPeriod / 64))
  have hdrawn : s.draw.2.f .time TimeR.PPS_STAT_IN_CNT = s.f .time TimeR.PPS_STAT_IN_CNT := rfl
  rw [hdrawn] at hcount
  rw [hcapture]
  refine ⟨by rw [State.time_raise, State.ppsStored_time]; rfl, (State.f_raise_time _ _ (by decide) (by decide)).trans hcount,
    ⟨k, fun i => ?_⟩, fun hfree => State.evt_raise (by decide) (by rw [State.busyOf_ppsStored]; exact hfree)⟩
  have hne : pageAddr .time (0x0C0 + 4 * i.val) ≠ pageAddr .time 0x010 := fun e => by
    have := ((pageAddr_inj (by omega) (by decide)).1 e).2
    omega
  rw [State.rd_raise _ _ _ _ (pageAddr_time_not_side (by omega)) hne, hstamp]

end Sys2Proof.Machine

open Sys2Proof Sys2Proof.Machine

/-- Settles O14: what each command leads to, under the hypotheses of its clause. Where in its cycle an edge on PPS_IN is stamped, is a free
value of the model's (log 160). -/
theorem markAndPpsCommandsComplete : Obligations.MarkAndPpsCommandsComplete :=
  ⟨fun _ _ _ h hlegal => ⟨_, rfl, State.offerMarkPeriod_starts h hlegal⟩,
    fun _ _ _ h hlegal => ⟨_, rfl, State.offerMarkMode_starts h hlegal⟩,
    fun _ hdue => ⟨_, rfl, State.ppsRise_of_due hdue⟩,
    fun _ => ⟨_, rfl, rfl⟩,
    fun _ hvio hdevice hen hfar => ⟨_, rfl, State.ppsEdge_shows hvio hdevice hen hfar⟩⟩

end

section
/-!
SUPPORT. The frame ports (chapter 09): what each of their operations reads back, and what it leaves alone. What one leaves alone of the FRAME
page's block, of the running counters and of the BUSY pages is said once for them all (`State.PortKeeps`), with a rule for each operation
that they are made of; the record of a port is followed by an equation for each.
-/
namespace Sys2Proof.Machine

variable {offs : List Nat} {k : Port} {s t u : State}

/-! ### What is kept -/

/-- `t` has the fields of the FRAME page's block, but for those at `offs`, the running counters and the BUSY pages as `s` has them. -/
def State.PortKeeps (offs : List Nat) (s t : State) : Prop :=
  (∀ x : Fld, 0x040 ≤ x.off → x.off < 4096 → x.off ∉ offs → t.f .frame x = s.f .frame x) ∧ t.ctrs = s.ctrs ∧ t.busy = s.busy

/-- An event or a violation brings no register of the FRAME page with it. -/
theorem pageAddr_frame_not_side {off : Nat} (h : off < 4096) : pageAddr .frame off ∉ sideRegs := by
  simp only [pageAddr, pageNum, sideRegs, List.mem_cons, List.not_mem_nil, or_false]
  omega

theorem State.PortKeeps.refl (offs : List Nat) (s : State) : s.PortKeeps offs s := ⟨fun _ _ _ _ => rfl, rfl, rfl⟩

theorem State.PortKeeps.trans (h : s.PortKeeps offs t) (g : t.PortKeeps offs u) : s.PortKeeps offs u :=
  ⟨fun x hlo hx hne => (g.1 x hlo hx hne).trans (h.1 x hlo hx hne), g.2.1.trans h.2.1, g.2.2.trans h.2.2⟩

theorem State.PortKeeps.on (h : s.PortKeeps offs t) {x : Fld} (hlo : 0x040 ≤ x.off) (hx : x.off < 4096) (hne : x.off ∉ offs) :
    t.on .frame x = s.on .frame x := by
  rw [State.on, h.1 x hlo hx hne, State.on]

theorem State.PortKeeps.ctr (h : s.PortKeeps offs t) (p : Path) (i : Nat) : t.ctr p i = s.ctr p i := by rw [State.ctr, h.2.1, State.ctr]

theorem State.PortKeeps.busyOf (h : s.PortKeeps offs t) (g : Page) : t.busyOf g = s.busyOf g := by rw [State.busyOf, h.2.2, State.busyOf]

/-! ### Rules -/

/-- What changes no record, and no register of the block but those at `offs`. -/
theorem State.PortKeeps.of_sameRest
    (hrd : ∀ off, 0x040 ≤ off → off < 4096 → off ∉ offs → t.rd (pageAddr .frame off) = s.rd (pageAddr .frame off)) (hrest : s.SameRest t) :
    s.PortKeeps offs t := by
  simp only [State.SameRest] at hrest
  exact ⟨fun x hlo hx hne => by rw [State.f, hrd x.off hlo hx hne, State.f], by simp only [hrest], by simp only [hrest]⟩

theorem State.PortKeeps.setF (h : s.PortKeeps offs t) {x : Fld} (v : Nat) (hx : x.off < 4096) (hmem : x.off ∈ offs) :
    s.PortKeeps offs (t.setF .frame x v) := by
  refine h.trans (.of_sameRest (fun off _ hlt hne => ?_) ((State.SameRest.refl t).setF .frame x v))
  rw [State.rd_setF, if_neg]
  exact fun e => hne (((pageAddr_inj hlt hx).1 e).2 ▸ hmem)

theorem State.PortKeeps.inc (h : s.PortKeeps offs t) {x : Fld} (hx : x.off < 4096) (hmem : x.off ∈ offs) :
    s.PortKeeps offs (t.inc .frame x) := h.setF _ hx hmem

theorem State.PortKeeps.incW (h : s.PortKeeps offs t) {x : Fld} (hx : x.off < 4096) (hmem : x.off ∈ offs) :
    s.PortKeeps offs (t.incW .frame x) := h.setF _ hx hmem

/-- An event of the FRAME page changes its EVT_RAW, which is not in the block. -/
theorem State.PortKeeps.raise (h : s.PortKeeps offs t) (bit : Nat) : s.PortKeeps offs (t.raise .frame bit) := by
  refine h.trans (.of_sameRest (fun off hlo hlt _ => t.rd_raise .frame bit _ (pageAddr_frame_not_side hlt) fun e => ?_)
    (t.raise_spec .frame bit).2)
  have := ((pageAddr_inj hlt (by decide)).1 e).2
  omega

theorem State.PortKeeps.raiseIf (h : s.PortKeeps offs t) (b : Bool) (bit : Nat) : s.PortKeeps offs (t.raiseIf b .frame bit) := by
  unfold State.raiseIf
  split
  · exact h.raise bit
  · exact h

/-- Bytes stored in a window change no register of the page. -/
theorem State.PortKeeps.msetList (h : s.PortKeeps offs t) (a : Nat) (l : List Byte) : s.PortKeeps offs (t.msetList a l) := by
  obtain ⟨hrd, -, hrest⟩ := t.msetList_spec a l
  refine h.trans (.of_sameRest (fun off _ _ _ => hrd _ ?_) hrest)
  simp only [pageAddr, pageNum]
  omega

theorem State.PortKeeps.mwordSet (h : s.PortKeeps offs t) (a : Nat) (w : Word) : s.PortKeeps offs (t.mwordSet a w) := h.msetList a _

theorem State.PortKeeps.mfieldSet (h : s.PortKeeps offs t) (a hi lo v : Nat) : s.PortKeeps offs (t.mfieldSet a hi lo v) := h.mwordSet a _

theorem State.PortKeeps.setPort (h : s.PortKeeps offs t) (j : Port) (v : PortSt) : s.PortKeeps offs (t.setPort j v) := h

theorem State.PortKeeps.edgeStamp (h : s.PortKeeps offs t) (ofs : Nat) : s.PortKeeps offs (t.edgeStamp ofs).1 := h

theorem State.PortKeeps.foldl {α : Type} {f : State → α → State} (h : s.PortKeeps offs t) (as : List α)
    (hf : ∀ a ∈ as, ∀ v : State, v.PortKeeps offs (f v a)) : s.PortKeeps offs (as.foldl f t) := by
  induction as generalizing t with
  | nil => exact h
  | cons a as ih => exact ih (h.trans (hf a List.mem_cons_self t)) fun b hb => hf b (List.mem_cons_of_mem _ hb)

/-! ### The record of a port -/

@[simp] theorem State.port_setPort (s : State) (k : Port) (v : PortSt) : (s.setPort k v).port k = v := tabGet_tabSet_self _ _ _ _

theorem State.port_of_sameRest (h : s.SameRest t) (k : Port) : t.port k = s.port k := by
  simp only [State.SameRest] at h
  simp only [State.port, h]

@[simp] theorem State.port_setF (s : State) (g : Page) (x : Fld) (v : Nat) (k : Port) : (s.setF g x v).port k = s.port k := rfl

@[simp] theorem State.port_inc (s : State) (g : Page) (x : Fld) (k : Port) : (s.inc g x).port k = s.port k := rfl

@[simp] theorem State.port_incW (s : State) (g : Page) (x : Fld) (k : Port) : (s.incW g x).port k = s.port k := rfl

@[simp] theorem State.port_raise (s : State) (g : Page) (bit : Nat) (k : Port) : (s.raise g bit).port k = s.port k :=
  State.port_of_sameRest (s.raise_spec g bit).2 k

@[simp] theorem State.port_raiseIf (s : State) (b : Bool) (g : Page) (bit : Nat) (k : Port) : (s.raiseIf b g bit).port k = s.port k := by
  unfold State.raiseIf
  split
  · exact s.port_raise g bit k
  · rfl

@[simp] theorem State.port_msetList (s : State) (a : Nat) (l : List Byte) (k : Port) : (s.msetList a l).port k = s.port k :=
  State.port_of_sameRest (s.msetList_spec a l).2.2 k

@[simp] theorem State.port_mwordSet (s : State) (a : Nat) (w : Word) (k : Port) : (s.mwordSet a w).port k = s.port k :=
  s.port_msetList a _ k

@[simp] theorem State.port_mfieldSet (s : State) (a hi lo v : Nat) (k : Port) : (s.mfieldSet a hi lo v).port k = s.port k :=
  s.port_mwordSet a _ k

/-! ### A frame is done with (R240, R241, R248, R251) -/

/-- The descriptor of a frame is written back. -/
def State.txWritten (s : State) (k : Port) (x : Bool × Nat) (status : Nat) (ts : BitVec 128) : State :=
  (((s.mfieldSet (frameDesc k x) 31 31 0).mfieldSet (frameDesc k x) 27 24 status).mwordSet (frameDesc k x + 0xC)
    (BitVec.ofNat 32 (satNat 0xFFFFFFFF ((s.elapsed - s.frameStart k x) / 1000000)))).msetList (frameDesc k x + 0x10)
      ((List.range 16).map (quadByte ts))

/-- A frame leaves its queue or its ring, and the port has none fetched. -/
def State.txTaken (s : State) (k : Port) (x : Bool × Nat) : State :=
  if x.1 then s.setPort k { s.port k with um := (s.port k).um.filter (fun e => e.1 != x.2), next := none }
  else (s.incW .frame (FrameR.TX_IDX_TX_HEAD k.val)).setPort k { s.port k with next := none }

/-- The counter in which a frame that is done with counts. -/
def txCnt (k : Port) (status : Nat) : Fld := if status = txSent then FrameR.TX_CNT_SENT k.val else FrameR.TX_CNT_DROPPED k.val

theorem txCnt_spec (k : Port) (status : Nat) : (txCnt k status).off = 0x0A4 + 64 * k.val ∧ (txCnt k status).lo ≤ (txCnt k status).hi ∧
    (txCnt k status).hi < 32 ∧ fldTop (txCnt k status) = 0xFFFF := by
  unfold txCnt
  split
  · exact ⟨rfl, (by decide : 0 ≤ 15), (by decide : 15 < 32), rfl⟩
  · exact ⟨rfl, (by decide : 16 ≤ 31), (by decide : 31 < 32), rfl⟩

theorem State.txDone_eq (s : State) (k : Port) (x : Bool × Nat) (status : Nat) (ts : BitVec 128) :
    s.txDone k x status ts = ((((s.txWritten k x status ts).txTaken k x).inc .frame (txCnt k status)).raise .frame (4 * k.val + 1)).raiseIf
      (status != txSent) .frame (4 * k.val + 2) := by
  unfold txCnt
  split
  case isTrue h => rw [State.txDone, if_pos h]; rfl
  case isFalse h => rw [State.txDone, if_neg h]; rfl

theorem State.txWritten_keeps (s : State) (k : Port) (x : Bool × Nat) (status : Nat) (ts : BitVec 128) :
    s.PortKeeps offs (s.txWritten k x status ts) :=
  ((((State.PortKeeps.refl offs s).mfieldSet _ _ _ _).mfieldSet _ _ _ _).mwordSet _ _).msetList _ _

@[simp] theorem State.port_txWritten (s : State) (k : Port) (x : Bool × Nat) (status : Nat) (ts : BitVec 128) (j : Port) :
    (s.txWritten k x status ts).port j = s.port j := by simp [State.txWritten]

/-- A Umatan response leaves the ring alone. -/
theorem State.txTaken_keeps (s : State) {x : Bool × Nat} (hring : x.1 = true ∨ 0x098 + 64 * k.val ∈ offs) :
    s.PortKeeps offs (s.txTaken k x) := by
  unfold State.txTaken
  split
  case isTrue => exact (State.PortKeeps.refl offs s).setPort k _
  case isFalse h =>
    exact ((State.PortKeeps.refl offs s).incW (by simp only [FrameR.TX_IDX_TX_HEAD]; omega) (hring.resolve_left h)).setPort k _

theorem State.port_txTaken (s : State) (k : Port) (x : Bool × Nat) : ((s.txTaken k x).port k).next = none ∧
    (x.1 = true → ((s.txTaken k x).port k).um = (s.port k).um.filter (fun e => e.1 != x.2)) := by
  unfold State.txTaken
  split
  case isTrue => simp
  case isFalse h => simp [h]

theorem State.txDone_keeps (s : State) {x : Bool × Nat} (status : Nat) (ts : BitVec 128)
    (hring : x.1 = true ∨ 0x098 + 64 * k.val ∈ offs) (hcnt : 0x0A4 + 64 * k.val ∈ offs) : s.PortKeeps offs (s.txDone k x status ts) := by
  have hoff := (txCnt_spec k status).1
  rw [State.txDone_eq]
  exact ((((s.txWritten_keeps k x status ts).trans (State.txTaken_keeps _ hring)).inc (by omega) (hoff ▸ hcnt)).raise _).raiseIf _ _

theorem State.port_txDone (s : State) (k : Port) (x : Bool × Nat) (status : Nat) (ts : BitVec 128) :
    ((s.txDone k x status ts).port k).next = none ∧
      (x.1 = true → ((s.txDone k x status ts).port k).um = (s.port k).um.filter (fun e => e.1 != x.2)) := by
  simpa [State.txDone_eq] using (s.txWritten k x status ts).port_txTaken k x

/-- A frame that is done with is counted, by its status. -/
theorem State.txDone_counts (s : State) (k : Port) (x : Bool × Nat) (status : Nat) (ts : BitVec 128) :
    (s.txDone k x status ts).f .frame (txCnt k status) = satNat 0xFFFF (s.f .frame (txCnt k status) + 1) := by
  obtain ⟨hoff, hle, hhi, htop⟩ := txCnt_spec k status
  have htaken : s.PortKeeps [0x098 + 64 * k.val] ((s.txWritten k x status ts).txTaken k x) :=
    (s.txWritten_keeps k x status ts).trans (State.txTaken_keeps _ (.inr (by simp)))
  have hkept := htaken.1 (txCnt k status) (by omega) (by omega) (by simp [hoff])
  generalize hu : (s.txWritten k x status ts).txTaken k x = u at hkept
  have hafter := (((State.PortKeeps.refl [] (u.inc .frame (txCnt k status))).raise (4 * k.val + 1)).raiseIf (status != txSent)
    (4 * k.val + 2)).1 (txCnt k status) (by omega) (by omega) (by simp)
  rw [State.txDone_eq, hu, hafter, State.f_inc_self _ _ hle hhi, hkept, htop]

/-- A frame that is dropped raises the port's error event. -/
theorem State.txDone_evt (s : State) (k : Port) (x : Bool × Nat) {status : Nat} (ts : BitVec 128) (hdrop : status ≠ txSent)
    (hfree : s.busyOf .frame ≠ .rehearsal) : (s.txDone k x status ts).evt .frame (4 * k.val + 2) = true := by
  have hoff := (txCnt_spec k status).1
  have hkept : s.PortKeeps [0x098 + 64 * k.val, 0x0A4 + 64 * k.val]
      ((((s.txWritten k x status ts).txTaken k x).inc .frame (txCnt k status)).raise .frame (4 * k.val + 1)) :=
    (((s.txWritten_keeps k x status ts).trans (State.txTaken_keeps _ (.inr (by simp)))).inc (by omega) (by simp [hoff])).raise _
  rw [State.txDone_eq, State.raiseIf, if_pos (by simpa using hdrop)]
  exact State.evt_raise (by omega) (by rwa [hkept.busyOf])

end Sys2Proof.Machine
end

section
/-!
SUPPORT. Frames that are extracted and delivered (R230, R231, R238, R240, R243), fetched (R235), inserted (R234) and dropped (R236).
-/
namespace Sys2Proof.Machine

variable {k : Port} {p : Path} {fr : RxFrame} {s : State}

/-! ### Extraction (R230, R231) -/

/-- A frame with an uncorrectable header is counted. -/
theorem State.frameExtract_of_hdrUncorr (hpath : s.extPath k = some p) (hready : s.extReady k = true) (hbad : fr.hdrUncorr = true) :
    s.frameExtract k fr = s.addCtr p ctrUncorrHdr 1 := by
  simp [State.frameExtract, hpath, hready, hbad]

/-- The state in which an addressed frame is handed on: counted, and its blocks replaced by idles. -/
def State.extracted (s : State) (p : Path) (fr : RxFrame) : State := (s.addCtr p ctrExtracted 1).idleOut p fr

theorem State.ctr_extracted (s : State) (p : Path) (fr : RxFrame) :
    (s.extracted p fr).ctr p ctrExtracted = satNat (ctrTop ctrExtracted) (s.ctr p ctrExtracted + 1) := s.ctr_addCtr_self p ctrExtracted 1

/-- An addressed frame is extracted, and goes to Umatan or to the receive ring. -/
theorem State.frameExtract_of_addressed {r : Nat} (hpath : s.extPath k = some p) (hready : s.extReady k = true)
    (hgood : fr.hdrUncorr = false) (haddr : s.addressed k p fr.bytes = some r) :
    s.frameExtract k fr =
      if r = 3 ∧ s.on .frame FrameR.FRAME_CTL_UM_EN = true then
        (s.extracted p fr).setPort k { s.port k with reqs := (s.port k).reqs ++ [fr] }
      else (s.extracted p fr).rxDeliver 64 k r fr := by
  simp only [State.frameExtract, hpath, hready, hgood, haddr, Bool.not_true, Bool.false_eq_true, if_false]
  rfl

/-! ### Delivery (R240, R243) -/

/-- The descriptor at the head of the receive ring, and the offset of its buffer in the port's region. -/
def State.rxAt (s : State) (k : Port) : Nat := rxDesc k (s.f .frame (FrameR.RX_IDX_RX_HEAD k.val))
def State.rxBuf (s : State) (k : Port) : Nat := s.mfield (s.rxAt k + 4) 31 16

/-- The descriptor at the head is taken for a frame, and the head moves on. -/
def State.rxClaimed (s : State) (k : Port) (reason : Nat) : State :=
  ((s.mfieldSet (s.rxAt k) 31 31 0).mfieldSet (s.rxAt k) 27 24 reason).incW .frame (FrameR.RX_IDX_RX_HEAD k.val)

/-- It is written back, but for the timestamp. -/
def State.rxDescribed (s : State) (k : Port) (reason : Nat) (fr : RxFrame) : State :=
  let u := (((s.rxClaimed k reason).mfieldSet (s.rxAt k) 23 23 (b2n fr.fcsErr)).mfieldSet (s.rxAt k) 22 22
    (b2n (fr.cut || decide (fr.bytes.length > 1518)))).mfieldSet (s.rxAt k) 21 21 (b2n fr.uncorr)
  (u.mfieldSet (s.rxAt k) 10 0 (fr.bytes.take 1518).length).mfieldSet (s.rxAt k + 8) 15 0 (u.port k).seq

/-- The frame's bytes and its timestamp are stored. -/
def State.rxStored (s : State) (k : Port) (reason : Nat) (fr : RxFrame) : State :=
  let e := ((s.rxDescribed k reason fr).msetList (portBase k + s.rxBuf k) (fr.bytes.take 1518)).edgeStamp 0
  let u := e.1.msetList (s.rxAt k + 0x10) ((List.range 16).map (quadByte e.2))
  u.setPort k { u.port k with seq := ((u.port k).seq + 1) % 65536 }

/-- A frame that finds a posted descriptor with a good buffer is delivered there. -/
theorem State.rxDeliver_of_posted {n reason : Nat} (hown : s.mfield (s.rxAt k) 31 31 = 1)
    (hring : s.f .frame (FrameR.RX_IDX_RX_HEAD k.val) ≠ s.f .frame (FrameR.RX_IDX_RX_TAIL k.val)) (hlo : 0x3000 ≤ s.rxBuf k)
    (hhi : s.rxBuf k + 1536 ≤ 0x10000) :
    s.rxDeliver (n + 1) k reason fr = ((s.rxStored k reason fr).inc .frame (FrameR.RX_CNT_RECEIVED k.val)).raise .frame (4 * k.val) := by
  have hposted : ¬ (s.f .frame (FrameR.RX_IDX_RX_HEAD k.val) = s.f .frame (FrameR.RX_IDX_RX_TAIL k.val) ∨
      s.mfield (rxDesc k (s.f .frame (FrameR.RX_IDX_RX_HEAD k.val))) 31 31 = 0) :=
    not_or.2 ⟨hring, fun h => absurd (hown.symm.trans h) (by decide)⟩
  have hbuf : ¬ (s.rxBuf k < 0x3000 ∨ s.rxBuf k + 1536 > 0x10000) := by omega
  rw [State.rxDeliver]
  dsimp only
  rw [if_neg hposted]
  exact if_neg hbuf

/-- The head moves on by one, in the 64 of the ring. -/
theorem State.rxClaimed_head (s : State) (k : Port) (reason : Nat) :
    (s.rxClaimed k reason).f .frame (FrameR.RX_IDX_RX_HEAD k.val) = (s.f .frame (FrameR.RX_IDX_RX_HEAD k.val) + 1) % 64 := by
  have hkept : s.PortKeeps [] ((s.mfieldSet (s.rxAt k) 31 31 0).mfieldSet (s.rxAt k) 27 24 reason) :=
    ((State.PortKeeps.refl [] s).mfieldSet _ _ _ _).mfieldSet _ _ _ _
  have hhead := hkept.1 (FrameR.RX_IDX_RX_HEAD k.val) (by simp only [FrameR.RX_IDX_RX_HEAD]; omega)
    (by simp only [FrameR.RX_IDX_RX_HEAD]; omega) List.not_mem_nil
  rw [State.rxClaimed, State.incW, State.f_setF_self _ _ _ _ (by decide : 16 ≤ 21) (by decide : 21 < 32), hhead]
  rfl

theorem State.rxClaimed_keeps (s : State) (k : Port) (reason : Nat) : s.PortKeeps [0x09C + 64 * k.val] (s.rxClaimed k reason) :=
  (((State.PortKeeps.refl _ s).mfieldSet _ _ _ _).mfieldSet _ _ _ _).incW (by simp only [FrameR.RX_IDX_RX_HEAD]; omega)
    (List.mem_singleton_self _)

/-- What follows stores bytes, and no field of the page's block. -/
theorem State.rxStored_keeps (s : State) (k : Port) (reason : Nat) (fr : RxFrame) :
    (s.rxClaimed k reason).PortKeeps [] (s.rxStored k reason fr) := by
  have hdescribed : (s.rxClaimed k reason).PortKeeps [] (s.rxDescribed k reason fr) :=
    (((((State.PortKeeps.refl [] _).mfieldSet _ _ _ _).mfieldSet _ _ _ _).mfieldSet _ _ _ _).mfieldSet _ _ _ _).mfieldSet _ _ _ _
  exact (((hdescribed.msetList _ _).edgeStamp 0).msetList _ _).setPort k _

/-- The first 1,518 bytes of the frame stand in its buffer, which the descriptors do not reach. -/
theorem State.rxStored_bytes (s : State) (reason : Nat) (fr : RxFrame) (hlo : 0x3000 ≤ s.rxBuf k) (i : Fin (fr.bytes.take 1518).length) :
    (s.rxStored k reason fr).mget (portBase k + s.rxBuf k + i.val) = (fr.bytes.take 1518)[i] := by
  have hhead : s.f .frame (FrameR.RX_IDX_RX_HEAD k.val) < 64 := s.f_lt _ _
  have hbeyond : s.rxAt k + 0x10 + 16 ≤ portBase k + s.rxBuf k + i.val := by
    simp only [State.rxAt, rxDesc]
    omega
  rw [← (s.rxDescribed k reason fr).mget_msetList (portBase k + s.rxBuf k) (fr.bytes.take 1518) i]
  exact (State.msetList_spec _ _ _).2.1 _ (.inr hbeyond)

/-- What a frame that is delivered leads to. -/
theorem State.rxDeliver_delivers {n reason : Nat} (hown : s.mfield (s.rxAt k) 31 31 = 1)
    (hring : s.f .frame (FrameR.RX_IDX_RX_HEAD k.val) ≠ s.f .frame (FrameR.RX_IDX_RX_TAIL k.val)) (hlo : 0x3000 ≤ s.rxBuf k)
    (hhi : s.rxBuf k + 1536 ≤ 0x10000) :
    let t := s.rxDeliver (n + 1) k reason fr
    t.f .frame (FrameR.RX_CNT_RECEIVED k.val) = satNat 0xFFFF (s.f .frame (FrameR.RX_CNT_RECEIVED k.val) + 1) ∧
      t.f .frame (FrameR.RX_IDX_RX_HEAD k.val) = (s.f .frame (FrameR.RX_IDX_RX_HEAD k.val) + 1) % 64 ∧
      (∀ i : Fin (fr.bytes.take 1518).length, t.mget (portBase k + s.rxBuf k + i.val) = (fr.bytes.take 1518)[i]) ∧
      (s.busyOf .frame ≠ .rehearsal → t.evt .frame (4 * k.val) = true) := by
  have hcntLo : 0x040 ≤ (FrameR.RX_CNT_RECEIVED k.val).off := by simp only [FrameR.RX_CNT_RECEIVED]; omega
  have hcntLt : (FrameR.RX_CNT_RECEIVED k.val).off < 4096 := by simp only [FrameR.RX_CNT_RECEIVED]; omega
  have hheadLo : 0x040 ≤ (FrameR.RX_IDX_RX_HEAD k.val).off := by simp only [FrameR.RX_IDX_RX_HEAD]; omega
  have hheadLt : (FrameR.RX_IDX_RX_HEAD k.val).off < 4096 := by simp only [FrameR.RX_IDX_RX_HEAD]; omega
  have hclaimed := s.rxClaimed_keeps k reason
  have hstored := s.rxStored_keeps k reason fr
  have hbytes := s.rxStored_bytes (k := k) reason fr hlo
  have hcnt : (s.rxStored k reason fr).f .frame (FrameR.RX_CNT_RECEIVED k.val) = s.f .frame (FrameR.RX_CNT_RECEIVED k.val) :=
    (hstored.1 _ hcntLo hcntLt List.not_mem_nil).trans (hclaimed.1 _ hcntLo hcntLt (by simp [FrameR.RX_CNT_RECEIVED]))
  have hhead := (hstored.1 _ hheadLo hheadLt List.not_mem_nil).trans (s.rxClaimed_head k reason)
  have hbusy : (s.rxStored k reason fr).busyOf .frame = s.busyOf .frame := (hstored.busyOf _).trans (hclaimed.busyOf _)
  rw [State.rxDeliver_of_posted hown hring hlo hhi]
  generalize s.rxStored k reason fr = u at *
  have hcounted : u.PortKeeps [0x0A8 + 64 * k.val] (u.inc .frame (FrameR.RX_CNT_RECEIVED k.val)) :=
    (State.PortKeeps.refl _ u).inc hcntLt (List.mem_singleton_self _)
  have hraised := (State.PortKeeps.refl [] (u.inc .frame (FrameR.RX_CNT_RECEIVED k.val))).raise (4 * k.val)
  refine ⟨?_, ?_, fun i => ?_, fun hfree => State.evt_raise (by omega) ?_⟩
  · rw [hraised.1 _ hcntLo hcntLt List.not_mem_nil, State.f_inc_self _ _ (by decide : 0 ≤ 15) (by decide : 15 < 32), hcnt]
    rfl
  · rw [(hcounted.raise _).1 _ hheadLo hheadLt (by simp [FrameR.RX_IDX_RX_HEAD]), hhead]
  · have houtside : ¬ inSheet (portBase k + s.rxBuf k + i.val) := by
      have hi := i.isLt
      simp only [List.length_take] at hi
      simp only [inSheet, portBase]
      omega
    rw [((State.raise_spec _ _ _).1).2 _ houtside, ← hbytes i]
    rfl
  · rwa [hcounted.busyOf, hbusy]

/-- An addressed frame for Umatan waits with the port's requests. -/
theorem State.frameExtract_requests (hpath : s.extPath k = some p) (hready : s.extReady k = true) (hgood : fr.hdrUncorr = false)
    (haddr : s.addressed k p fr.bytes = some 3) (hum : s.on .frame FrameR.FRAME_CTL_UM_EN = true) :
    ((s.frameExtract k fr).port k).reqs = (s.port k).reqs ++ [fr] ∧
      (s.frameExtract k fr).ctr p ctrExtracted = satNat (ctrTop ctrExtracted) (s.ctr p ctrExtracted + 1) := by
  rw [State.frameExtract_of_addressed hpath hready hgood haddr, if_pos ⟨rfl, hum⟩, State.port_setPort]
  exact ⟨rfl, s.ctr_extracted p fr⟩

/-- A frame addressed by the port's MAC address is delivered to a posted descriptor with a good buffer. -/
theorem State.frameExtract_delivers (hpath : s.extPath k = some p) (hready : s.extReady k = true) (hgood : fr.hdrUncorr = false)
    (haddr : s.addressed k p fr.bytes = some 1) : s.frameExtract k fr = (s.extracted p fr).rxDeliver 64 k 1 fr := by
  rw [State.frameExtract_of_addressed hpath hready hgood haddr, if_neg (by simp)]

/-! ### Fetch, insertion and deadline (R234 to R236) -/

/-- A queued frame that is in time and whose descriptor is good is fetched by a port that is enabled and has none. -/
theorem State.frameFetch_fetches {b : Bool} {n : Nat} (hen : s.on .frame (FrameR.PORT_CTL_EN k.val) = true)
    (hnone : (s.port k).next = none) (hnext : s.portNext k = some (b, n))
    (htime : s.elapsed - s.frameStart k (b, n) ≤ s.frameDeadline k (b, n) * 1000000000) (hgood : b = true ∨ s.txRefused k n = false) :
    ((s.frameFetch k).port k).next = some (b, n) := by
  have hlate : s.frameLate k (b, n) = false := by simpa [State.frameLate] using htime
  have hbad : (!b && s.txRefused k n) = false := by rcases hgood with rfl | hgood <;> simp [*]
  simp [State.frameFetch, hnone, hnext, hlate, hbad, hen]

/-- A port's fetched frame that meets its deadline is dropped. -/
theorem State.frameExpire_drops {x : Bool × Nat} (hnext : (s.port k).next = some x) :
    ((s.frameExpire k).port k).next = none ∧
      (s.frameExpire k).f .frame (FrameR.TX_CNT_DROPPED k.val) = satNat 0xFFFF (s.f .frame (FrameR.TX_CNT_DROPPED k.val) + 1) ∧
      (s.busyOf .frame ≠ .rehearsal → (s.frameExpire k).evt .frame (4 * k.val + 2) = true) := by
  rw [State.frameExpire, hnext]
  exact ⟨(s.port_txDone k x txDeadline 0).1, s.txDone_counts k x txDeadline 0, s.txDone_evt k x 0 (by decide)⟩

/-- An eligible frame that fits the run is inserted: counted on its path and done with as SENT, in a state that has the fields of the
FRAME page and the count of insertions as they were. -/
theorem State.frameInsert_of_eligible {run : Nat} {x : Bool × Nat} (hpath : s.insPath k = some p) (hnext : (s.port k).next = some x)
    (hready : s.insReady k = true) (hlate : s.frameLate k x = false)
    (hrun : runNeeded ((s.frameBytes k x).length + 4) ≤ satNat (s.window p) run) (hlen : (s.frameBytes k x).length + 4 ≤ s.maxLen p) :
    ∃ (u : State) (ts : BitVec 128), s.frameInsert k run = (u.addCtr p ctrInserted 1).txDone k x txSent ts ∧
      (∀ y, u.f .frame y = s.f .frame y) ∧ u.ctr p ctrInserted = s.ctr p ctrInserted := by
  let v := s.setCtr p ctrRunMax (max (s.ctr p ctrRunMax) (satNat (s.window p) run))
  have hfetched : (v.port k).next = some x := hnext
  have hintime : v.frameLate k x = false := hlate
  have hfits : (v.insReady k && decide (runNeeded ((v.frameBytes k x).length + 4) ≤ satNat (s.window p) run) &&
      decide ((v.frameBytes k x).length + 4 ≤ v.maxLen p)) = true := by
    simp only [Bool.and_eq_true, decide_eq_true_eq]
    exact ⟨⟨hready, hrun⟩, hlen⟩
  have hkept : v.ctr p ctrInserted = s.ctr p ctrInserted := tabGet_tabSet_ne _ _ _ _ _ (by simp [ctrInserted, ctrRunMax])
  rw [State.frameInsert, hpath]
  dsimp only
  rw [hfetched]
  dsimp only
  rw [if_neg (ne_true_of_eq_false hintime), if_pos hfits]
  exact ⟨_, _, rfl, fun _ => rfl, hkept⟩

/-- What an insertion leads to. -/
theorem State.frameInsert_inserts {run : Nat} {x : Bool × Nat} (hpath : s.insPath k = some p) (hnext : (s.port k).next = some x)
    (hready : s.insReady k = true) (hlate : s.frameLate k x = false)
    (hrun : runNeeded ((s.frameBytes k x).length + 4) ≤ satNat (s.window p) run) (hlen : (s.frameBytes k x).length + 4 ≤ s.maxLen p) :
    ((s.frameInsert k run).port k).next = none ∧
      (s.frameInsert k run).f .frame (FrameR.TX_CNT_SENT k.val) = satNat 0xFFFF (s.f .frame (FrameR.TX_CNT_SENT k.val) + 1) ∧
      (s.frameInsert k run).ctr p ctrInserted = satNat (ctrTop ctrInserted) (s.ctr p ctrInserted + 1) := by
  obtain ⟨u, ts, hdone, hfields, hctr⟩ := State.frameInsert_of_eligible hpath hnext hready hlate hrun hlen
  let v := u.addCtr p ctrInserted 1
  have hkept : v.PortKeeps [0x098 + 64 * k.val, 0x0A4 + 64 * k.val] (v.txDone k x txSent ts) :=
    v.txDone_keeps txSent ts (.inr (by simp)) (by simp)
  rw [hdone, ← hctr, ← hfields]
  exact ⟨(v.port_txDone k x txSent ts).1, v.txDone_counts k x txSent ts, (hkept.ctr p _).trans (u.ctr_addCtr_self p ctrInserted 1)⟩

end Sys2Proof.Machine
end

section
/-!
SUPPORT. The writes of TX_IDX and PORT_CTL that are taken (R240, R249): what each stores, and its effect on the port.
-/
namespace Sys2Proof.Machine

variable {k : Port} {off : Nat} {s : State}

/-! ### Where a write of the FRAME page's block has its effect -/

/-- A write of a register of the block that is taken has its effect in a state that holds what it stores, and keeps every other register of
the block and the record of every port. -/
theorem State.offerFrame_leads {c : Src} {data mask : Word} (h : s.takes c .frame off data mask = true) (hblock : 0x040 ≤ off)
    (hpeak : off ≠ 0x06C) (hlt : off < 4096) :
    ∃ (v : Nat → Word) (u : State), v (pageAddr .frame off) = s.rd (pageAddr .frame off) ∧
      s.offerReg c .frame off data mask =
        u.effFrame off (s.rd (pageAddr .frame off)) (mask &&& ~~~(writeOut v false .frame off data mask).bad) ∧
      u.rd (pageAddr .frame off) = (writeOut v false .frame off data mask).word ∧ s.PortKeeps [off] u ∧
      ∀ j, u.port j = s.port j := by
  have hkind : wrKind .frame off = .fields := by simp [wrKind, isCmdWord]
  have hown : ownReg .frame off = true := by
    simp [ownReg, feedsSum, pageAddr_frame_not_side hlt, hblock, hpeak, hlt]
    omega
  obtain ⟨v, u, hold, hlead, hword, hframe, hsame⟩ := State.offerReg_leads h hkind (fun _ => rfl) hown
  have heffect : ∀ old act wrote, u.directEffect .frame off old act wrote = u.effFrame off old wrote := fun old act wrote => by
    simp [State.directEffect, State.effect, Nat.not_lt.2 hblock]
  refine ⟨v, u, hold, hlead.trans (heffect _ _ _), hword, .of_sameRest (fun o hlo hx hne => hframe.1 _ ?_ (pageAddr_frame_not_side hx)) hsame,
    State.port_of_sameRest hsame⟩
  simp only [storeRegs, pageAddr, pageNum, List.mem_cons, List.not_mem_nil, or_false] at hne ⊢
  omega

/-- What acts on one port alone, for every port. -/
theorem forAll_ports_of_others {f : Port → State → State} (s : State) (h : ∀ j, j ≠ k → ∀ u, f j u = u) :
    forAll (List.finRange 4) f s = f k s := by
  have hports : List.finRange 4 = [0, 1, 2, 3] := by decide
  fin_cases k <;> simp [forAll, hports, h]

/-! ### TX_IDX (R240) -/

/-- The fields of a TX_IDX register. -/
def txHeadRow : Row := { fld := FrameR.TX_IDX_TX_HEAD 0, acc := .ro, rst := 0x0, n := 4, stride := 64 }
def txTailRow : Row := { fld := FrameR.TX_IDX_TX_TAIL 0, acc := .rw, rst := 0x0, n := 4, stride := 64 }

theorem rowsAt_txIdx : ∀ k : Port, rowsAt .frame (0x098 + 64 * k.val) = [txHeadRow, txTailRow] := by decide +kernel

/-- A field that is read only stays as it is. -/
theorem writeRow_ro {v : Nat → Word} {scene : Bool} {g : Page} {old data mask : Word} {o : WrOut} {r : Row} (hr : r.acc = .ro) :
    writeRow v scene g old data mask o r = o := by
  simp [writeRow, hr]

/-- A write of TX_IDX stores TX_TAIL. -/
theorem writeOut_txIdx (v : Nat → Word) (k : Port) (data : Word) :
    (writeOut v false .frame (0x098 + 64 * k.val) data allOnes).word =
      fset (v (pageAddr .frame (0x098 + 64 * k.val))) 5 0 (fget data 5 0) := by
  have hmask : allOnes &&& ~~~ctlUnsupported .frame (0x098 + 64 * k.val) = allOnes := by
    rw [ctlUnsupported, if_neg (by omega)]
    decide
  have hcode : fget (merge (v (pageAddr .frame (0x098 + 64 * k.val))) data allOnes) 5 0 = fget data 5 0 :=
    fget_merge (by decide)
  simp only [writeOut, rowsAt_txIdx, hmask, List.foldl_cons, List.foldl_nil]
  rw [writeRow_ro (r := txHeadRow) rfl,
    writeRow_rw_legal (r := txTailRow) rfl (by decide) (by decide) (fieldLegal_of_legalCode rfl (by decide))]
  exact congrArg (fset _ 5 0) hcode

/-- A write of TX_IDX posts the descriptors up to the new TX_TAIL. -/
theorem State.effFrame_txIdx (s : State) (k : Port) (old wrote : Word) :
    s.effFrame (0x098 + 64 * k.val) old wrote =
      (s.setF .frame (FrameR.TX_IDX_TX_TAIL k.val) (fget old 5 0)).txTail k (s.f .frame (FrameR.TX_IDX_TX_TAIL k.val)) := by
  have hctl : ∀ j : Port, 0x098 + 64 * k.val ≠ 0x080 + 64 * j.val := fun j => by omega
  unfold State.effFrame
  rw [forAll_ports_of_others (k := k) s fun j hj u => ?_]
  · simp
  · have hother : 0x098 + 64 * k.val ≠ 0x098 + 64 * j.val := fun e => hj (Fin.ext (by omega))
    rw [if_neg (hctl j), if_neg hother]

/-- TX_TAIL reads what the write gives. -/
theorem State.f_txTail (s : State) (k : Port) (tail : Nat) :
    (s.txTail k tail).f .frame (FrameR.TX_IDX_TX_TAIL k.val) = tail % 64 :=
  State.f_setF_self _ _ _ _ (by decide : 0 ≤ 5) (by decide : 5 < 32)

/-- A write of TX_TAIL that is taken is read back. -/
theorem State.offerTxTail_posts {c : Src} {tail : BitVec 6} (h : s.takes c .frame (0x098 + 64 * k.val) (tail.setWidth 32) allOnes = true) :
    (s.offerReg c .frame (0x098 + 64 * k.val) (tail.setWidth 32) allOnes).f .frame (FrameR.TX_IDX_TX_TAIL k.val) = tail.toNat := by
  have htail := tail.isLt
  obtain ⟨v, u, -, hlead, hword, -⟩ := State.offerFrame_leads h (by omega) (by omega) (by omega)
  have hstored : u.f .frame (FrameR.TX_IDX_TX_TAIL k.val) = tail.toNat := by
    refine (congrArg (fget · 5 0) hword).trans ?_
    rw [writeOut_txIdx, fget_fset _ _ _ _ (by decide) (by decide), fget, BitVec.toNat_setWidth]
    omega
  rw [hlead, State.effFrame_txIdx, State.f_txTail, hstored, Nat.mod_eq_of_lt htail]

/-! ### PORT_CTL.EN (R249) -/

/-- The fields of a PORT_CTL register: EN, and the others. -/
def portEnRow : Row := { fld := FrameR.PORT_CTL_EN 0, acc := .rw, rst := 0x0, n := 4, stride := 64 }
def portCtlOthers : List Row := [
  { fld := FrameR.PORT_CTL_DEF_DEADLINE 0, acc := .rw, rst := 0x3E8, n := 4, stride := 64, legal := [(1, 65535)] },
  { fld := FrameR.PORT_CTL_DOMAIN 0, acc := .rw, rst := 0x18, n := 4, stride := 64 },
  { fld := FrameR.PORT_CTL_PTP_EXT 0, acc := .rw, rst := 0x1, n := 4, stride := 64 },
  { fld := FrameR.PORT_CTL_SNOOP 0, acc := .rw, rst := 0x0, n := 4, stride := 64 }]

theorem rowsAt_portCtl : ∀ k : Port, rowsAt .frame (0x080 + 64 * k.val) = portCtlOthers ++ [portEnRow] := by decide +kernel

/-- A 0 written to EN alone is stored, and no bit written is refused. -/
theorem writeOut_portDisable (v : Nat → Word) (k : Port) :
    (writeOut v false .frame (0x080 + 64 * k.val) (fset 0 0 0 0) (fldMask 0 0)).word =
        fset (v (pageAddr .frame (0x080 + 64 * k.val))) 0 0 0 ∧
      (writeOut v false .frame (0x080 + 64 * k.val) (fset 0 0 0 0) (fldMask 0 0)).bad = 0 := by
  have hmask : fldMask 0 0 &&& ~~~ctlUnsupported .frame (0x080 + 64 * k.val) = fldMask 0 0 := by
    rw [ctlUnsupported, if_neg (by omega)]
    decide
  have hcode : fget (merge (v (pageAddr .frame (0x080 + 64 * k.val))) (fset 0 0 0 0) (fldMask 0 0)) 0 0 = 0 :=
    (fget_merge (by decide)).trans (by decide)
  simp only [writeOut, rowsAt_portCtl, hmask]
  rw [List.foldl_append, foldl_writeRow_of_not_written (rows := portCtlOthers) _ (by decide), List.foldl_cons, List.foldl_nil,
    writeRow_rw_legal (r := portEnRow) rfl (by decide) (by decide) (fieldLegal_of_legalCode rfl (by decide))]
  exact ⟨congrArg (fset _ 0 0) hcode, rfl⟩

/-- A write that leaves EN at 0 disables the port. -/
theorem State.effFrame_portCtl {wrote : Word} (hoff : s.on .frame (FrameR.PORT_CTL_EN k.val) = false) (hcovers : wrote &&& fldMask 0 0 ≠ 0)
    (old : Word) : s.effFrame (0x080 + 64 * k.val) old wrote = s.portDisable k := by
  have hidx : ∀ j : Port, 0x080 + 64 * k.val ≠ 0x098 + 64 * j.val := fun j => by omega
  have hen : covers wrote (FrameR.PORT_CTL_EN k.val) = true := by simpa [covers, FrameR.PORT_CTL_EN] using hcovers
  unfold State.effFrame
  rw [forAll_ports_of_others (k := k) s fun j hj u => ?_]
  · simp [hen, hoff]
  · have hother : 0x080 + 64 * k.val ≠ 0x080 + 64 * j.val := fun e => hj (Fin.ext (by omega))
    rw [if_neg hother, if_neg (hidx j)]

/-- A port that is disabled has EN at 0, whatever was queued. -/
theorem State.portDisable_off (s : State) (k : Port) : (s.portDisable k).on .frame (FrameR.PORT_CTL_EN k.val) = false := by
  have hdone : (s.setF .frame (FrameR.PORT_CTL_EN k.val) 0).PortKeeps [0x098 + 64 * k.val, 0x0A4 + 64 * k.val] (s.portDisable k) :=
    ((State.PortKeeps.refl _ _).foldl _ fun e _ u => u.txDone_keeps _ _ (.inl rfl) (by simp)).foldl _
      fun i _ u => u.txDone_keeps _ _ (.inr (by simp)) (by simp)
  rw [hdone.on (by simp only [FrameR.PORT_CTL_EN]; omega) (by simp only [FrameR.PORT_CTL_EN]; omega) (by simp [FrameR.PORT_CTL_EN])]
  exact State.on_setF_zero _ _ (by decide : 0 ≤ 0) (by decide : 0 < 32)

/-- With one response queued and nothing in the ring, a port that is disabled writes back that one. -/
theorem State.portDisable_of_one {e : Nat × Nat} (hum : (s.port k).um = [e])
    (hring : s.f .frame (FrameR.TX_IDX_TX_HEAD k.val) = s.f .frame (FrameR.TX_IDX_TX_TAIL k.val)) :
    s.portDisable k = (s.setF .frame (FrameR.PORT_CTL_EN k.val) 0).txDone k (true, e.1) txDisabled 0 := by
  let v := s.setF .frame (FrameR.PORT_CTL_EN k.val) 0
  have hkept : s.PortKeeps [0x080 + 64 * k.val, 0x0A4 + 64 * k.val] (v.txDone k (true, e.1) txDisabled 0) :=
    ((State.PortKeeps.refl _ s).setF 0 (by simp only [FrameR.PORT_CTL_EN]; omega) (by simp [FrameR.PORT_CTL_EN])).trans
      (v.txDone_keeps _ _ (.inl rfl) (by simp))
  have hidx : ∀ x : Fld, x.off = 0x098 + 64 * k.val → (v.txDone k (true, e.1) txDisabled 0).f .frame x = s.f .frame x :=
    fun x hx => hkept.1 x (by omega) (by omega) (by simp [hx])
  have htail : s.f .frame (FrameR.TX_IDX_TX_TAIL k.val) < 64 := s.f_lt _ _
  have hnone : (s.f .frame (FrameR.TX_IDX_TX_TAIL k.val) + 64 - s.f .frame (FrameR.TX_IDX_TX_TAIL k.val)) % 64 = 0 := by omega
  have hvum : (v.port k).um = [e] := hum
  unfold State.portDisable
  dsimp only
  rw [hvum, List.foldl_cons, List.foldl_nil, hidx _ rfl, hidx _ rfl, hring, hnone]
  rfl

/-- A write of 0 to EN that is taken disables the port, in a state that has its queue, its ring and its counters as they were. -/
theorem State.offerDisable_leads {c : Src} (h : s.takesF c .frame (FrameR.PORT_CTL_EN k.val) 0 = true) :
    ∃ u : State, s.offerSet c .frame (FrameR.PORT_CTL_EN k.val) 0 = u.portDisable k ∧ s.PortKeeps [0x080 + 64 * k.val] u ∧
      ∀ j, u.port j = s.port j := by
  have htakes : s.takes c .frame (0x080 + 64 * k.val) (fset 0 0 0 0) (fldMask 0 0) = true := h
  obtain ⟨v, u, -, hlead, hword, hkept, hport⟩ := State.offerFrame_leads htakes (by omega) (by omega) (by omega)
  obtain ⟨hstored, hbad⟩ := writeOut_portDisable v k
  have hoff : u.on .frame (FrameR.PORT_CTL_EN k.val) = false := by
    have hcode : u.f .frame (FrameR.PORT_CTL_EN k.val) = 0 := by
      refine (congrArg (fget · 0 0) (hword.trans hstored)).trans ?_
      rw [fget_fset _ _ _ _ (by decide) (by decide), Nat.zero_mod]
    rw [State.on, hcode]
    rfl
  rw [hbad] at hlead
  exact ⟨u, hlead.trans (State.effFrame_portCtl hoff (by decide) _), hkept, hport⟩

/-- A write of 0 to EN that is taken leaves EN at 0, and drops the one response queued where the ring is empty. -/
theorem State.offerDisable_disables {c : Src} (h : s.takesF c .frame (FrameR.PORT_CTL_EN k.val) 0 = true) :
    let t := s.offerSet c .frame (FrameR.PORT_CTL_EN k.val) 0
    t.on .frame (FrameR.PORT_CTL_EN k.val) = false ∧
      (s.on .frame (FrameR.PORT_CTL_EN k.val) = true →
        s.f .frame (FrameR.TX_IDX_TX_HEAD k.val) = s.f .frame (FrameR.TX_IDX_TX_TAIL k.val) → (s.port k).um.length = 1 →
        (t.port k).um = [] ∧ t.f .frame (FrameR.TX_CNT_DROPPED k.val) = satNat 0xFFFF (s.f .frame (FrameR.TX_CNT_DROPPED k.val) + 1)) := by
  obtain ⟨u, hlead, hkept, hport⟩ := State.offerDisable_leads h
  rw [hlead]
  refine ⟨u.portDisable_off k, fun _ hring hone => ?_⟩
  obtain ⟨e, hum⟩ := List.length_eq_one_iff.1 hone
  have hblock : ∀ x : Fld, x.off = 0x098 + 64 * k.val ∨ x.off = 0x0A4 + 64 * k.val → u.f .frame x = s.f .frame x := fun x hx =>
    hkept.1 x (by omega) (by omega) (by simp only [List.mem_singleton]; omega)
  have hidx : u.f .frame (FrameR.TX_IDX_TX_HEAD k.val) = u.f .frame (FrameR.TX_IDX_TX_TAIL k.val) := by
    rw [hblock _ (.inl rfl), hblock _ (.inl rfl), hring]
  let v := u.setF .frame (FrameR.PORT_CTL_EN k.val) 0
  have hcnt : v.f .frame (FrameR.TX_CNT_DROPPED k.val) = s.f .frame (FrameR.TX_CNT_DROPPED k.val) :=
    (u.f_setF_ne _ _ _ _ _ (by simp [pageAddr, FrameR.TX_CNT_DROPPED, FrameR.PORT_CTL_EN])).trans (hblock _ (.inr rfl))
  have hqueue : (v.port k).um = [e] := (congrArg PortSt.um (hport k)).trans hum
  rw [State.portDisable_of_one (s := u) hqueue hidx, ← hcnt]
  refine ⟨?_, v.txDone_counts k (true, e.1) txDisabled 0⟩
  rw [(v.port_txDone k (true, e.1) txDisabled 0).2 rfl, hqueue]
  simp

end Sys2Proof.Machine

open Sys2Proof Sys2Proof.Machine

/-- Settles O15: what each command leads to, under the hypotheses of its clause. -/
theorem framePortCommandsComplete : Obligations.FramePortCommandsComplete := by
  refine ⟨fun k fr p s hpath hready hbad => ⟨_, rfl, ?_⟩,
    fun k fr p s hpath hready hgood haddr hum => ⟨_, rfl, State.frameExtract_requests hpath hready hgood haddr hum⟩,
    fun k fr p s hpath hready hgood haddr hown hring hlo hhi => ⟨_, rfl, ?_⟩,
    fun c k tail s h => ⟨_, rfl, State.offerTxTail_posts h⟩,
    fun k b n s hen hnone hnext htime hgood => ⟨_, rfl, State.frameFetch_fetches hen hnone hnext htime hgood⟩,
    fun k run p b n s hpath hnext hready hlate hrun hlen => ⟨_, rfl, State.frameInsert_inserts hpath hnext hready hlate hrun hlen⟩,
    fun k b n s hnext => ⟨_, rfl, State.frameExpire_drops hnext⟩,
    fun c k s h => ⟨_, rfl, State.offerDisable_disables h⟩⟩
  · rw [State.frameExtract_of_hdrUncorr hpath hready hbad]
    exact s.ctr_addCtr_self p ctrUncorrHdr 1
  · obtain ⟨hcnt, hhead, hbytes, hevt⟩ := State.rxDeliver_delivers (s := s.extracted p fr) (n := 63) (reason := 1) (fr := fr) hown hring hlo hhi
    rw [State.frameExtract_delivers hpath hready hgood haddr]
    refine ⟨hcnt, hhead, fun i hmin hmax => ?_, hevt⟩
    have hwhole : fr.bytes.take 1518 = fr.bytes := List.take_of_length_le hmax
    have hi : i.val < fr.bytes.length := by omega
    have hbyte := hbytes ⟨i.val, by rwa [hwhole]⟩
    simp only [hwhole, Fin.getElem_fin] at hbyte
    rw [List.getElem?_eq_getElem hi]
    exact congrArg some hbyte

end

section
/-!
SUPPORT. A request that waits while the one before it is in execution (R246), which the statement that requests complete does not ask to be
done with.
-/
namespace Sys2Proof.Machine

variable {k : Port} {s : State}

/-- The requests of a port wait while one is in execution: its response is queued before the next is checked (R246, log 45). -/
theorem State.umRequest_of_executing (h : (s.port k).txns ≠ []) : s.umRequest k = s := by
  unfold State.umRequest
  split
  · rfl
  · exact if_pos (by simpa using h)

/-- A frame without a Umatan header. -/
def headless : RxFrame := { bytes := List.replicate 14 0 }

theorem umForm_headless : umForm headless = none := by decide +kernel

/-- An opened session whose response has not been queued yet. -/
def opening : UmTxn := { sess := 0, num := 1, key := [], eth := List.replicate 14 0, seq := 1, answers := [] }

/-- A module that is ready, its port 0 with a request in execution and the headless frame behind it. -/
def headlessWaits : State := State.setPort { State.reset with device := .ready } 0 { reqs := [headless], txns := [opening] }

theorem headlessWaits_port : headlessWaits.port 0 = { reqs := [headless], txns := [opening] } := State.port_setPort _ _ _

end Sys2Proof.Machine

open Sys2Proof Sys2Proof.Machine

/-- Refutes O16: its clause of a request whose form is bad does not ask that no request be in execution (R246, log 45). Behind one that is,
a frame without a Umatan header stays where it is. -/
theorem not_umatanCommandsComplete : ¬ Obligations.UmatanCommandsComplete := by
  intro ⟨hbad, _⟩
  have hreqs : (headlessWaits.port 0).reqs = [headless] := congrArg PortSt.reqs headlessWaits_port
  have hexecuting : (headlessWaits.port 0).txns ≠ [] := by
    rw [headlessWaits_port]
    exact List.cons_ne_nil _ _
  obtain ⟨t, ht, hserved, -⟩ := hbad 0 headless [] headlessWaits hreqs (by rw [umForm_headless]; rfl)
  have hsame : t = headlessWaits := (Host.Outcome.next.inj ht).symm.trans (State.umRequest_of_executing hexecuting)
  rw [hsame, hreqs] at hserved
  exact List.cons_ne_nil _ _ hserved

end

section
/-!
SUPPORT. What the cues stand in: the words of the cue sheet (R270), the jobs of the scene checker, and what leaves both alone
(`State.KeepsCues`).
-/
namespace Sys2Proof.Machine

variable {s t u : State} {c : BitVec 12}

/-! ### Words of a memory window -/

theorem wordByte_append (w : Word) : wordByte w 0 ++ wordByte w 1 ++ wordByte w 2 ++ wordByte w 3 = w := by
  apply BitVec.eq_of_toNat_eq
  have hw := w.isLt
  simp only [wordByte, BitVec.toNat_append, BitVec.toNat_setWidth, BitVec.toNat_ushiftRight, Nat.shiftRight_eq_div_pow]
  rw [← Nat.shiftLeft_add_eq_or_of_lt (by omega), ← Nat.shiftLeft_add_eq_or_of_lt (by omega),
    ← Nat.shiftLeft_add_eq_or_of_lt (by omega)]
  omega

/-- A word reads back as it was set. -/
theorem State.mword_mwordSet (s : State) (a : Nat) (w : Word) : (s.mwordSet a w).mword a = w := by
  have hbyte : ∀ i : Fin 4, (s.mwordSet a w).mget (a + i.val) = wordByte w i.val := fun i =>
    (s.mget_msetList a (wordBytes w) i).trans (by fin_cases i <;> rfl)
  have hfirst : (s.mwordSet a w).mget a = wordByte w 0 := hbyte 0
  have hsecond : (s.mwordSet a w).mget (a + 1) = wordByte w 1 := hbyte 1
  have hthird : (s.mwordSet a w).mget (a + 2) = wordByte w 2 := hbyte 2
  have hfourth : (s.mwordSet a w).mget (a + 3) = wordByte w 3 := hbyte 3
  rw [State.mword, hfirst, hsecond, hthird, hfourth, wordByte_append]

/-- Another word keeps its value. -/
theorem State.mword_mwordSet_ne (s : State) {a b : Nat} (w : Word) (h : b + 4 ≤ a ∨ a + 4 ≤ b) :
    (s.mwordSet a w).mword b = s.mword b := by
  have hbyte : ∀ i < 4, (s.mwordSet a w).mget (b + i) = s.mget (b + i) := fun i hi =>
    (s.msetList_spec a (wordBytes w)).2.1 _ (by simp only [wordBytes, List.length_cons, List.length_nil]; omega)
  have hfirst : (s.mwordSet a w).mget b = s.mget b := hbyte 0 (by decide)
  rw [State.mword, State.mword, hfirst, hbyte 1 (by decide), hbyte 2 (by decide), hbyte 3 (by decide)]

theorem State.mfield_mfieldSet_self (s : State) (a : Nat) {hi lo : Nat} (v : Nat) (h : lo ≤ hi) (hh : hi < 32) :
    (s.mfieldSet a hi lo v).mfield a hi lo = v % 2 ^ (hi + 1 - lo) := by
  rw [State.mfield, State.mfieldSet, State.mword_mwordSet, fget_fset _ _ _ _ h hh]

theorem State.mfield_mfieldSet_disj (s : State) (a : Nat) {hi lo hi' lo' : Nat} (v : Nat) (h : lo ≤ hi) (hh : hi' < 32)
    (hd : hi < lo' ∨ hi' < lo) : (s.mfieldSet a hi lo v).mfield a hi' lo' = s.mfield a hi' lo' := by
  rw [State.mfield, State.mfieldSet, State.mword_mwordSet, fget_fset_disj _ _ _ _ _ _ h hh hd, State.mfield]

theorem State.mfield_mfieldSet_ne (s : State) {a b : Nat} (hi lo v hi' lo' : Nat) (h : b + 4 ≤ a ∨ a + 4 ≤ b) :
    (s.mfieldSet a hi lo v).mfield b hi' lo' = s.mfield b hi' lo' := by
  rw [State.mfield, State.mfieldSet, State.mword_mwordSet_ne s _ h, State.mfield]

/-- Setting bits of a word of a window keeps every register but ECC_INJ. -/
theorem State.rd_mfieldSet (s : State) (a hi lo v : Nat) {b : Nat} (hb : b ≠ 0x0C4) : (s.mfieldSet a hi lo v).rd b = s.rd b :=
  (s.msetList_spec a _).1 b hb

/-! ### Windows and the scene checker -/

theorem State.scene_sramWrite (s : State) (row : Nat) : (s.sramWrite row).scene = s.scene := by
  unfold State.sramWrite
  split
  · generalize tabSet (fun _ => 0) s.ecc row _ = ecc
    simp
  · rfl

theorem State.scene_msetRaw (s : State) (a : Nat) (l : List Byte) : (s.msetRaw a l).scene = s.scene := by
  induction l generalizing s a with
  | nil => rfl
  | cons b l ih => exact ih (s.mset a b) (a + 1)

@[simp] theorem State.scene_mfieldSet (s : State) (a hi lo v : Nat) : (s.mfieldSet a hi lo v).scene = s.scene := by
  have hrows : ∀ (rows : List Nat) (u : State), (rows.foldl State.sramWrite u).scene = u.scene := fun rows => by
    induction rows with
    | nil => exact fun _ => rfl
    | cons r rows ih => exact fun u => (ih _).trans (u.scene_sramWrite r)
  exact (hrows _ _).trans (s.scene_msetRaw a _)

@[simp] theorem State.scene_cueSetState (s : State) (c : BitVec 12) (st : Nat) : (s.cueSetState c st).scene = s.scene :=
  s.scene_mfieldSet _ _ _ _

@[simp] theorem State.scene_cueOutcome (s : State) (c : BitVec 12) (o : Nat) : (s.cueOutcome c o).scene = s.scene :=
  s.scene_mfieldSet _ _ _ _

/-! ### Jobs -/

/-- A job that comes after those of another state, which has none of its name. -/
theorem State.job?_of_append {y : JobSt} (hjobs : t.scene.jobs = s.scene.jobs ++ [y]) (hfree : s.job? y.job = none) :
    t.job? y.job = some y := by
  unfold State.job? at *
  rw [hjobs, List.find?_append, hfree]
  simp

/-- Replacing the last job, where no other has its name. -/
theorem State.jobs_setJob_of_append {x y : JobSt} (hjobs : t.scene.jobs = s.scene.jobs ++ [x]) (hname : x.job = y.job)
    (hfree : s.job? y.job = none) : (t.setJob y).scene.jobs = s.scene.jobs ++ [y] := by
  have hothers : ∀ z ∈ s.scene.jobs, (if z.job == y.job then y else z) = z := fun z hz =>
    if_neg (List.find?_eq_none.1 hfree z hz)
  show t.scene.jobs.map _ = _
  rw [hjobs, List.map_append, List.map_congr_left hothers, List.map_id']
  simp [hname]

/-- One cue more that a reset has not cleared, and one free cue less. -/
theorem State.freeCues_of_append {y : JobSt} (hjobs : t.scene.jobs = s.scene.jobs ++ [y]) (hname : y.job = .cue c)
    (hgone : y.gone = none) : t.freeCues = s.freeCues - 1 := by
  simp only [State.freeCues, hjobs, List.filter_append, List.length_append]
  simp [hname, hgone]
  omega

/-! ### What leaves the sheet and the jobs alone -/

/-- `t` has the memory and the scene work of `s`. -/
def State.KeepsCues (s t : State) : Prop := t.mem = s.mem ∧ t.scene = s.scene

theorem State.KeepsCues.refl (s : State) : s.KeepsCues s := ⟨rfl, rfl⟩

theorem State.KeepsCues.trans (h : s.KeepsCues t) (k : t.KeepsCues u) : s.KeepsCues u := ⟨k.1.trans h.1, k.2.trans h.2⟩

theorem State.KeepsCues.foldl {α : Type} {f : State → α → State} (h : s.KeepsCues t) (l : List α)
    (hf : ∀ a (u : State), u.KeepsCues (f u a)) : s.KeepsCues (l.foldl f t) := by
  induction l generalizing t with
  | nil => exact h
  | cons a l ih => exact ih (h.trans (hf a t))

theorem State.KeepsCues.ite {p : Prop} [Decidable p] (h : s.KeepsCues t) (k : s.KeepsCues u) : s.KeepsCues (if p then t else u) := by
  split <;> assumption

theorem State.KeepsCues.setF (h : s.KeepsCues t) (p : Page) (x : Fld) (v : Nat) : s.KeepsCues (t.setF p x v) :=
  h.trans ⟨by simp, by simp⟩

theorem State.KeepsCues.violIf (h : s.KeepsCues t) (b : Bool) (p : Page) (k : Viol) : s.KeepsCues (t.violIf b p k) :=
  .ite (h.trans ⟨by simp, by simp⟩) h

theorem State.KeepsCues.pageStored (h : s.KeepsCues t) (a : Nat) : s.KeepsCues (t.pageStored a) :=
  .ite h (h.trans ⟨(t.sramWrite_spec _).2.1, t.scene_sramWrite _⟩)

/-- A stored write of a register that no roll-up follows. -/
theorem State.KeepsCues.regStore {p : Page} {off : Nat} (h : s.KeepsCues t) (hsum : feedsSum p off = false) (o : WrOut) :
    s.KeepsCues (t.regStore p off o) := by
  have hput : s.KeepsCues (t.wr (pageAddr p off) o.word) := h.trans ⟨by simp, by simp⟩
  simp only [State.regStore, hsum, Bool.false_eq_true, if_false]
  exact (hput.violIf _ _ _).violIf _ _ _

theorem State.mirCue_keepsCues (s : State) (c : BitVec 12) (op : MirOp) : s.KeepsCues (s.mirCue c op) := by
  unfold State.mirCue State.mirSent
  exact .ite (.ite ⟨by simp, by simp⟩ (.refl s)) (.refl s)

theorem State.setTaps_keepsCues (s : State) (q : Path) (l : List Int) : s.KeepsCues (s.setTaps q l) :=
  (State.KeepsCues.refl s).foldl _ fun _ _ => ⟨by simp, by simp⟩

/-- A preset sets taps and flags of the segment (R124). -/
theorem State.presetNow_keepsCues (s : State) (p : Path) (n : Nat) : s.KeepsCues (s.presetNow p n) := by
  unfold State.presetNow
  exact .ite ((s.setTaps_keepsCues _ _).setF _ _ _) (.ite ((s.setTaps_keepsCues _ _).setF _ _ _) (s.setTaps_keepsCues _ _))

theorem State.presetApply_keepsCues (s : State) (p : Path) (n : Nat) : s.KeepsCues (s.presetApply p n) := by
  have hwait : ∀ f, s.KeepsCues (s.modSeg p f) := fun _ => ⟨rfl, rfl⟩
  unfold State.presetApply
  exact .ite (hwait _) ((hwait _).trans (State.presetNow_keepsCues _ p n))

theorem State.locksFreed_keepsCues (s : State) : s.KeepsCues s.locksFreed := by
  refine (State.KeepsCues.refl s).foldl _ fun e u => ?_
  split
  · exact u.presetApply_keepsCues _ _
  · exact .refl u

section
variable (h : s.KeepsCues t)
include h

theorem State.KeepsCues.mword (a : Nat) : t.mword a = s.mword a := by
  simp only [State.mword, State.mget, h.1]

theorem State.KeepsCues.mfield (a hi lo : Nat) : t.mfield a hi lo = s.mfield a hi lo := by
  rw [State.mfield, h.mword, State.mfield]

theorem State.KeepsCues.cueTrig (c : BitVec 12) : t.cueTrig c = s.cueTrig c := h.mfield _ _ _

theorem State.KeepsCues.cueScene (c : BitVec 12) : t.cueScene c = s.cueScene c := h.mfield _ _ _

theorem State.KeepsCues.cueT (c : BitVec 12) : t.cueT c = s.cueT c := by
  simp only [State.cueT, h.mfield, h.mword]

/-- Whether an entry is legal is read from the sheet alone (R273). -/
theorem State.KeepsCues.cueLegal (c : BitVec 12) : t.cueLegal c = s.cueLegal c := by
  have hsheet : ∀ v : State, v.cueLegal c = ({ State.reset with mem := v.mem } : State).cueLegal c := fun _ => rfl
  rw [hsheet t, h.1, ← hsheet s]

theorem State.KeepsCues.job? (j : Job) : t.job? j = s.job? j := by
  rw [State.job?, h.2, State.job?]

theorem State.KeepsCues.cueFree (c : BitVec 12) : t.cueFree c = s.cueFree c := by
  rw [State.cueFree, h.job?, State.cueFree]

theorem State.KeepsCues.freeCues : t.freeCues = s.freeCues := by
  rw [State.freeCues, h.2, State.freeCues]

/-- Whether T_c of a job has been reached follows from the sheet and the time. -/
theorem State.KeepsCues.tcReached (hrest : s.SameRest t) (x : JobSt) : t.tcReached x = s.tcReached x := by
  simp only [State.SameRest] at hrest
  simp only [State.tcReached, State.timeReached, h.cueTrig, hrest]

end

end Sys2Proof.Machine
end

section
/-!
SUPPORT. Writes of CUE_OP that are taken (R273, R280): where each has its effect, and what arming and disarming a cue leave to be read.
-/
namespace Sys2Proof.Machine

variable {s t u : State} {c : BitVec 12} {src : Src}

/-! ### CUE_OP -/

/-- The fields of CUE_OP. -/
def cueOpRow : Row := { fld := CueR.CUE_OP_OP, acc := .rw, rst := 0x0, legal := [(0, 2)] }
def cueNumRow : Row := { fld := CueR.CUE_OP_CUE, acc := .rw, rst := 0x0 }

theorem rowsAt_cueOp : rowsAt .cue 0x044 = [cueOpRow, cueNumRow] := by decide +kernel

/-- A write of CUE_OP with a legal OP stores both fields, and no bit written is refused. -/
theorem writeOut_cueOp (v : Nat → Word) {data : Word} (hop : fget data 31 28 ≤ 2) :
    (writeOut v false .cue 0x044 data allOnes).word =
        fset (fset (v (pageAddr .cue 0x044)) 31 28 (fget data 31 28)) 11 0 (fget data 11 0) ∧
      (writeOut v false .cue 0x044 data allOnes).bad = 0 := by
  have hmask : allOnes &&& ~~~ctlUnsupported .cue 0x044 = allOnes := by decide
  have hopCode : fget (merge (v (pageAddr .cue 0x044)) data allOnes) 31 28 = fget data 31 28 := fget_merge (by decide)
  have hcueCode : fget (merge (v (pageAddr .cue 0x044)) data allOnes) 11 0 = fget data 11 0 := fget_merge (by decide)
  have hlegal : legalCode [(0, 2)] (fget data 31 28) = true := by simp [legalCode, hop]
  simp only [writeOut, rowsAt_cueOp, List.foldl_cons, List.foldl_nil, hmask]
  rw [writeRow_rw_legal (r := cueOpRow) rfl (by decide) (by decide) (fieldLegal_of_legalCode (hopCode.symm ▸ hlegal) (by decide)),
    writeRow_rw_legal (r := cueNumRow) rfl (by decide) (by decide) (fieldLegal_of_legalCode rfl (by decide))]
  exact ⟨congrArg₂ (fun x y => fset (fset _ 31 28 x) 11 0 y) hopCode hcueCode, rfl⟩

/-- `t` has the sheet, the scene work and every record as `s` has them, and every register but those that a write of CUE_OP stores. -/
def State.CueOpStored (s t : State) : Prop := s.KeepsCues t ∧ s.SameRest t ∧ s.Frame (storeRegs .cue 0x044) t

/-- A write of CUE_OP that is taken has its effect in a state that holds what it stores. -/
theorem State.offerCueOp_leads {data : Word} (h : s.takes src .cue 0x044 data allOnes = true) (hop : fget data 31 28 ≤ 2) :
    ∃ u, s.offerReg src .cue 0x044 data allOnes = u.effCue 0x044 allOnes ∧ u.f .cue CueR.CUE_OP_OP = fget data 31 28 ∧
      u.f .cue CueR.CUE_OP_CUE = fget data 11 0 ∧ s.CueOpStored u := by
  rw [State.offerReg_of_takes h]
  have hnow := fun v => (s.noWrite_peak v src .cue 0x044 (data &&& allOnes)).trans (State.noWrite_of_takes h)
  generalize s.admQ + writeCost src .cue 0x044 data allOnes = q
  have hpeak : s.CueOpStored (s.peak q) := ⟨.refl s, (State.SameRest.refl s).setF _ _ _,
    (State.Frame.refl s _).setF _ _ _ (.inl (by decide))⟩
  obtain ⟨hcues, hrest, hframe⟩ := hpeak
  obtain ⟨hword, hbad⟩ := writeOut_cueOp (s.peak q).rd hop
  obtain ⟨hstored, hframe', hrest'⟩ := State.regStore_spec (p := .cue) (off := 0x044) (by decide)
    ((s.peak q).pageStored (pageAddr .cue 0x044)) (writeOut (s.peak q).rd false .cue 0x044 data allOnes)
  rw [hword] at hstored
  refine ⟨_, ?_, ?_, ?_, (hcues.pageStored _).regStore (by decide) _, (hrest.pageStored _).trans hrest',
    (hframe.pageStored _).trans hframe'⟩
  · simp [State.regWrite, State.regAct, State.regPut, hnow, wrKind, isCmdWord, State.cmdLast, State.directEffect, hbad,
      show allOnes &&& 4294967295#32 = allOnes from by decide]
  · refine (congrArg (fget · 31 28) hstored).trans ?_
    rw [fget_fset_disj _ _ _ _ _ _ (by decide) (by decide) (by decide), fget_fset _ _ _ _ (by decide) (by decide)]
    exact Nat.mod_eq_of_lt (by omega)
  · refine (congrArg (fget · 11 0) hstored).trans ?_
    rw [fget_fset _ _ _ _ (by decide) (by decide)]
    exact Nat.mod_eq_of_lt (Nat.mod_lt _ (by decide))

/-- The words that ARM and DISARM of a cue write. -/
theorem fget_armWord (c : BitVec 12) : fget (BitVec.ofNat 32 (2 ^ 28 + c.toNat)) 31 28 = 1 ∧
    fget (BitVec.ofNat 32 (2 ^ 28 + c.toNat)) 11 0 = c.toNat := by
  have hc := c.isLt
  simp only [fget, BitVec.toNat_ofNat]
  omega

theorem fget_disarmWord (c : BitVec 12) : fget (BitVec.ofNat 32 (2 ^ 29 + c.toNat)) 31 28 = 2 ∧
    fget (BitVec.ofNat 32 (2 ^ 29 + c.toNat)) 11 0 = c.toNat := by
  have hc := c.isLt
  simp only [fget, BitVec.toNat_ofNat]
  omega

/-- The role of the module in its pair is not stored. -/
theorem State.CueOpStored.cueClosed (h : s.CueOpStored t) (c : BitVec 12) : t.cueClosed c = s.cueClosed c := by
  obtain ⟨-, -, hframe⟩ := h
  have hrole : t.role = s.role := hframe.f (by decide) (by decide)
  rw [State.cueClosed, State.follow, hrole, State.cueClosed, State.follow]

theorem State.CueOpStored.time (h : s.CueOpStored t) : t.time = s.time := by
  obtain ⟨-, hrest, -⟩ := h
  simp only [State.SameRest] at hrest
  simp only [hrest]

/-- Nor is LOW_THR, and the free cues are as many as they were. -/
theorem State.CueOpStored.lowThr (h : s.CueOpStored t) (hthr : s.freeCues ≠ s.f .cue CueR.CUE_CTL_LOW_THR) :
    t.freeCues ≠ t.f .cue CueR.CUE_CTL_LOW_THR := by
  obtain ⟨hcues, -, hframe⟩ := h
  rwa [hcues.freeCues, hframe.f (by decide) (by decide)]

/-- ARM that is taken, of a cue that is not a follow's mirrored one, arms the cue. -/
theorem State.offerArm_leads (h : s.takes src .cue 0x044 (BitVec.ofNat 32 (2 ^ 28 + c.toNat)) allOnes = true)
    (hopen : s.cueClosed c = false) :
    ∃ u, s.offerReg src .cue 0x044 (BitVec.ofNat 32 (2 ^ 28 + c.toNat)) allOnes = (u.cueArm c).mirCue c (.arm c) ∧
      s.CueOpStored u := by
  obtain ⟨hop, hcue⟩ := fget_armWord c
  obtain ⟨u, hlead, huop, hucue, hstored⟩ := State.offerCueOp_leads h (by rw [hop]; decide)
  rw [hop] at huop
  rw [hcue] at hucue
  have huopen : u.cueClosed c = false := (hstored.cueClosed c).trans hopen
  have hcovers : covers allOnes CueR.CUE_OP_OP = true := by decide
  exact ⟨u, hlead.trans (by simp [State.effCue, hcovers, huop, hucue, State.armOp, huopen]), hstored⟩

/-- DISARM that is taken, of such a cue, disarms it. -/
theorem State.offerDisarm_leads (h : s.takes src .cue 0x044 (BitVec.ofNat 32 (2 ^ 29 + c.toNat)) allOnes = true)
    (hopen : s.cueClosed c = false) :
    ∃ u, s.offerReg src .cue 0x044 (BitVec.ofNat 32 (2 ^ 29 + c.toNat)) allOnes = (u.cueDisarmNow c).mirCue c (.disarm c) ∧
      s.CueOpStored u := by
  obtain ⟨hop, hcue⟩ := fget_disarmWord c
  obtain ⟨u, hlead, huop, hucue, hstored⟩ := State.offerCueOp_leads h (by rw [hop])
  rw [hop] at huop
  rw [hcue] at hucue
  have huopen : u.cueClosed c = false := (hstored.cueClosed c).trans hopen
  have hcovers : covers allOnes CueR.CUE_OP_OP = true := by decide
  exact ⟨u, hlead.trans (by simp [State.effCue, hcovers, huop, hucue, State.cueDisarm, huopen]), hstored⟩

/-! ### Arming (R273) -/

/-- The job of a cue that is armed for an occurrence. -/
def State.armJob (s : State) (c : BitVec 12) (next : Nat) : JobSt :=
  { job := .cue c, scene := s.cueScene c, phase := .armed, seq := 0, next := next }

/-- The cue stands ARMED with that job, its FIRES and SKIPPED at 0, before its lead is judged. -/
def State.armedFor (s : State) (c : BitVec 12) (next : Nat) : State :=
  (((s.addJob (s.armJob c next)).cueSetState c 1).mfieldSet (cueAddr c + 0x18) 15 0 0).mfieldSet (cueAddr c + 0x1C) 31 16 0

theorem State.armedFor_jobs (s : State) (c : BitVec 12) (next : Nat) :
    (s.armedFor c next).scene.jobs = s.scene.jobs ++ [s.armJob c next] := by
  simp [State.armedFor, State.addJob]

/-- Arming stores bits of the sheet, and no register but ECC_INJ. -/
theorem State.armedFor_rd (s : State) (c : BitVec 12) (next : Nat) {a : Nat} (ha : a ≠ 0x0C4) : (s.armedFor c next).rd a = s.rd a := by
  rw [State.armedFor, State.rd_mfieldSet _ _ _ _ _ ha, State.rd_mfieldSet _ _ _ _ _ ha, State.cueSetState,
    State.rd_mfieldSet _ _ _ _ _ ha, State.rd, (s.addJob_frame _).1, State.rd]

theorem State.armedFor_time (s : State) (c : BitVec 12) (next : Nat) : (s.armedFor c next).time = s.time :=
  (((((State.KeepsTime.refl s).of_regs (u := s.addJob (s.armJob c next)) rfl rfl).cueSetState c 1).mfieldSet _ _ _ _).mfieldSet
    _ _ _ _).2

/-- FIRES of the cue is 0. -/
theorem State.armedFor_fires (s : State) (c : BitVec 12) (next : Nat) : (s.armedFor c next).mfield (cueAddr c + 0x18) 15 0 = 0 := by
  rw [State.armedFor, State.mfield_mfieldSet_ne _ _ _ _ _ _ (.inl (by omega))]
  exact State.mfield_mfieldSet_self _ _ _ (by decide) (by decide)

/-- One free cue less is no fall below LOW_THR, unless the free cues were LOW_THR (R282). -/
theorem State.sheetLow_of_append {y : JobSt} (hjobs : t.scene.jobs = s.scene.jobs ++ [y]) (hname : y.job = .cue c)
    (hgone : y.gone = none) (hthr : s.freeCues ≠ t.f .cue CueR.CUE_CTL_LOW_THR) : t.sheetLow s.freeCues = t := by
  have hfree := State.freeCues_of_append hjobs hname hgone
  have hstays : (decide (t.f .cue CueR.CUE_CTL_LOW_THR ≤ s.freeCues) && decide (t.freeCues < t.f .cue CueR.CUE_CTL_LOW_THR)) = false := by
    rw [hfree, Bool.and_eq_false_iff, decide_eq_false_iff_not, decide_eq_false_iff_not]
    omega
  rw [State.sheetLow, hstays]
  rfl

/-- A job's record once its work is due. -/
def JobSt.fallenDue (x : JobSt) (seq : Nat) : JobSt := { x with phase := .due, seq := seq, vals := [], locks := [] }

/-- A cue's work falls due: its job, and its STATE. -/
theorem State.jobDue_of_cue {x : JobSt} (hname : x.job = .cue c) (s : State) :
    s.jobDue x = (s.nextSeq.2.setJob (x.fallenDue s.scene.seq)).cueSetState c 1 := by
  cases x
  cases hname
  rfl

theorem State.jobDue_jobs_of_append {x : JobSt} (hjobs : t.scene.jobs = s.scene.jobs ++ [x]) (hname : x.job = .cue c)
    (hfree : s.job? (.cue c) = none) : (t.jobDue x).scene.jobs = s.scene.jobs ++ [x.fallenDue t.scene.seq] := by
  rw [State.jobDue_of_cue hname, State.scene_cueSetState]
  exact State.jobs_setJob_of_append (t := t.nextSeq.2) (y := x.fallenDue t.scene.seq) hjobs rfl
    ((congrArg s.job? hname).trans hfree)

theorem State.jobDue_rd {x : JobSt} (hname : x.job = .cue c) (s : State) {a : Nat} (ha : a ≠ 0x0C4) : (s.jobDue x).rd a = s.rd a := by
  rw [State.jobDue_of_cue hname, State.cueSetState, State.rd_mfieldSet _ _ _ _ _ ha]
  rfl

/-- STATE of the cue is ARMED, and FIRES stays as it was. -/
theorem State.jobDue_stat {x : JobSt} (hname : x.job = .cue c) (s : State) :
    (s.jobDue x).mfield (cueAddr c + 0x18) 31 28 = 1 ∧
      (s.jobDue x).mfield (cueAddr c + 0x18) 15 0 = s.mfield (cueAddr c + 0x18) 15 0 := by
  rw [State.jobDue_of_cue hname]
  exact ⟨State.mfield_mfieldSet_self _ _ _ (by decide) (by decide),
    State.mfield_mfieldSet_disj _ _ _ (by decide) (by decide) (by decide)⟩

/-- The work of an immediate cue is due as it is armed (R273). -/
theorem State.cueArm_immediate (hfree : s.cueFree c = true) (hlegal : s.cueLegal c = true) (htrig : s.cueTrig c = 4)
    (hthr : s.freeCues ≠ s.f .cue CueR.CUE_CTL_LOW_THR) :
    ((s.cueArm c).job? (.cue c)).map (fun y => (y.scene, y.phase)) = some (s.cueScene c, .due) ∧
      (s.cueArm c).mfield (cueAddr c + 0x18) 31 28 = 1 ∧ (s.cueArm c).mfield (cueAddr c + 0x18) 15 0 = 0 := by
  have hnone : s.job? (.cue c) = none := Option.isNone_iff_eq_none.1 hfree
  have hjobs := State.jobDue_jobs_of_append (s.armedFor_jobs c 0) rfl hnone
  have hlow : ((s.armedFor c 0).jobDue (s.armJob c 0)).f .cue CueR.CUE_CTL_LOW_THR = s.f .cue CueR.CUE_CTL_LOW_THR :=
    congrArg (fget · 12 0) ((State.jobDue_rd rfl _ (by decide)).trans (s.armedFor_rd c 0 (by decide)))
  have harm : s.cueArm c = (s.armedFor c 0).jobDue (s.armJob c 0) := by
    rw [← State.sheetLow_of_append hjobs rfl rfl (hlow ▸ hthr), State.cueArm, if_neg (by simp [hfree]), if_neg (by simp [hlegal])]
    dsimp only
    rw [htrig, if_neg (by decide), if_neg (by decide), if_neg (by decide), if_neg (by decide)]
    rfl
  obtain ⟨hstate, hfires⟩ := State.jobDue_stat (x := s.armJob c 0) rfl (s.armedFor c 0)
  have hjob := State.job?_of_append hjobs hnone
  rw [harm]
  exact ⟨congrArg (Option.map _) hjob, hstate, hfires.trans (s.armedFor_fires c 0)⟩

/-- A time cue whose first occurrence is 20 µs ahead or more waits for it (R273, R275). -/
theorem State.cueArm_timed (hfree : s.cueFree c = true) (hlegal : s.cueLegal c = true) (htrig : s.cueTrig c = 1)
    (hlead : s.time.tb + leadTb ≤ s.cueT c) (hthr : s.freeCues ≠ s.f .cue CueR.CUE_CTL_LOW_THR) :
    (s.cueArm c).job? (.cue c) = some (s.armJob c (s.cueT c)) := by
  have hnone : s.job? (.cue c) = none := Option.isNone_iff_eq_none.1 hfree
  have hjobs := s.armedFor_jobs c (s.cueT c)
  have hearly : (s.armedFor c (s.cueT c)).armTime (s.armJob c (s.cueT c)) c = s.armedFor c (s.cueT c) := by
    rw [State.armTime, State.armedFor_time]
    exact if_pos hlead
  have hlow : (s.armedFor c (s.cueT c)).f .cue CueR.CUE_CTL_LOW_THR = s.f .cue CueR.CUE_CTL_LOW_THR :=
    congrArg (fget · 12 0) (s.armedFor_rd c _ (by decide))
  have harm : s.cueArm c = s.armedFor c (s.cueT c) := by
    rw [← State.sheetLow_of_append hjobs rfl rfl (hlow ▸ hthr), State.cueArm, if_neg (by simp [hfree]), if_neg (by simp [hlegal])]
    dsimp only
    rw [htrig, if_pos rfl, if_pos rfl]
    exact congrArg (State.sheetLow · s.freeCues) hearly
  rw [harm]
  exact State.job?_of_append hjobs hnone

/-! ### Disarming (R280) -/

/-- A cue whose T_c has not been reached is IDLE and free once it is disarmed, with OUTCOME 6. -/
theorem State.cueDisarmNow_idles {x : JobSt} (hjob : s.job? (.cue c) = some x) (hahead : s.tcReached x = false) :
    (s.cueDisarmNow c).cueFree c = true ∧ (s.cueDisarmNow c).mfield (cueAddr c + 0x18) 31 28 = 0 ∧
      (s.cueDisarmNow c).mfield (cueAddr c + 0x18) 27 24 = 6 := by
  have hkept := (s.endCue c 0 6).locksFreed_keepsCues
  have hdisarm : s.cueDisarmNow c = (s.endCue c 0 6).locksFreed := by
    simp [State.cueDisarmNow, State.cueFree, hjob, hahead]
  rw [hdisarm, hkept.cueFree, hkept.mfield, hkept.mfield]
  refine ⟨?_, ?_, ?_⟩
  · simp [State.endCue, State.dropJob, State.cueFree, State.job?]
  · show ((s.cueSetState c 0).cueOutcome c 6).mfield (cueAddr c + 0x18) 31 28 = 0
    rw [State.cueOutcome, State.mfield_mfieldSet_disj _ _ _ (by decide) (by decide) (by decide)]
    exact State.mfield_mfieldSet_self _ _ _ (by decide) (by decide)
  · exact State.mfield_mfieldSet_self _ _ _ (by decide) (by decide)

/-! ### The writes that are taken -/

/-- ARM that is taken makes the work of a free, legal, immediate cue due. -/
theorem State.offerArm_immediate (h : s.takes src .cue 0x044 (BitVec.ofNat 32 (2 ^ 28 + c.toNat)) allOnes = true)
    (hopen : s.cueClosed c = false) (hfree : s.cueFree c = true) (hlegal : s.cueLegal c = true) (htrig : s.cueTrig c = 4)
    (hthr : s.freeCues ≠ s.f .cue CueR.CUE_CTL_LOW_THR) :
    let t := s.offerReg src .cue 0x044 (BitVec.ofNat 32 (2 ^ 28 + c.toNat)) allOnes
    (t.job? (.cue c)).map (fun y => (y.scene, y.phase)) = some (s.cueScene c, .due) ∧
      t.mfield (cueAddr c + 0x18) 31 28 = 1 ∧ t.mfield (cueAddr c + 0x18) 15 0 = 0 := by
  obtain ⟨u, heffect, hstored⟩ := State.offerArm_leads h hopen
  have hcues := hstored.1
  have hsent := (u.cueArm c).mirCue_keepsCues c (.arm c)
  dsimp only
  rw [heffect, hsent.job?, hsent.mfield, hsent.mfield, ← hcues.cueScene]
  exact State.cueArm_immediate ((hcues.cueFree c).trans hfree) ((hcues.cueLegal c).trans hlegal) ((hcues.cueTrig c).trans htrig)
    (hstored.lowThr hthr)

/-- ARM that is taken of a free, legal time cue whose first occurrence is 20 µs ahead or more: the cue waits for it. -/
theorem State.offerArm_timed (h : s.takes src .cue 0x044 (BitVec.ofNat 32 (2 ^ 28 + c.toNat)) allOnes = true)
    (hopen : s.cueClosed c = false) (hfree : s.cueFree c = true) (hlegal : s.cueLegal c = true) (htrig : s.cueTrig c = 1)
    (hlead : s.time.tb + leadTb ≤ s.cueT c) (hthr : s.freeCues ≠ s.f .cue CueR.CUE_CTL_LOW_THR) :
    (s.offerReg src .cue 0x044 (BitVec.ofNat 32 (2 ^ 28 + c.toNat)) allOnes).job? (.cue c) = some (s.armJob c (s.cueT c)) := by
  obtain ⟨u, heffect, hstored⟩ := State.offerArm_leads h hopen
  have hcues := hstored.1
  have hlead' : u.time.tb + leadTb ≤ u.cueT c := by rwa [hcues.cueT, hstored.time]
  rw [heffect, ((u.cueArm c).mirCue_keepsCues c _).job?, State.cueArm_timed ((hcues.cueFree c).trans hfree)
    ((hcues.cueLegal c).trans hlegal) ((hcues.cueTrig c).trans htrig) hlead' (hstored.lowThr hthr), State.armJob, hcues.cueScene,
    hcues.cueT, State.armJob]

/-- DISARM that is taken, of a cue whose T_c has not been reached. -/
theorem State.offerDisarm_idles {x : JobSt} (h : s.takes src .cue 0x044 (BitVec.ofNat 32 (2 ^ 29 + c.toNat)) allOnes = true)
    (hopen : s.cueClosed c = false) (hjob : s.job? (.cue c) = some x) (hahead : s.tcReached x = false) :
    let t := s.offerReg src .cue 0x044 (BitVec.ofNat 32 (2 ^ 29 + c.toNat)) allOnes
    t.cueFree c = true ∧ t.mfield (cueAddr c + 0x18) 31 28 = 0 ∧ t.mfield (cueAddr c + 0x18) 27 24 = 6 := by
  obtain ⟨u, heffect, hcues, hrest, -⟩ := State.offerDisarm_leads h hopen
  have hsent := (u.cueDisarmNow c).mirCue_keepsCues c (.disarm c)
  dsimp only
  rw [heffect, hsent.cueFree, hsent.mfield, hsent.mfield]
  exact State.cueDisarmNow_idles ((hcues.job? _).trans hjob) ((hcues.tcReached hrest x).trans hahead)

end Sys2Proof.Machine

open Sys2Proof Sys2Proof.Machine

/-- Settles O18: what each command leads to, under the hypotheses of its clause. -/
theorem cueCommandsComplete : Obligations.CueCommandsComplete := by
  exact ⟨fun src c s h hopen hfree hlegal htrig hthr => ⟨_, rfl, State.offerArm_immediate h hopen hfree hlegal htrig hthr⟩,
    fun src c s h hopen hfree hlegal htrig hlead hthr => ⟨_, rfl,
      congrArg (Option.map fun y => (y.scene, y.phase, y.next)) (State.offerArm_timed h hopen hfree hlegal htrig hlead hthr)⟩,
    fun src c x s h hopen hjob hahead => ⟨_, rfl, State.offerDisarm_idles h hopen hjob hahead⟩⟩

end

section
/-!
SUPPORT. A copy from a scene that no writer has (R253), which the statement that copies complete does not leave out.
-/
namespace Sys2Proof.Machine

/-- A ready module whose checker is to copy scene 1,017 into scene 0, with one entry counted for it. That scene is reserved and holds no
entries (R253). -/
def copyOfReserved : State :=
  { up with scene := { up.scene with openLen := [(1017, 1)], storing := [{ src := 1017, scene := 0, base := 0, seq := 0 }] } }

theorem copyOfReserved_meets :
    copyOfReserved.nextStore = some { src := 1017, scene := 0, base := 0, seq := 0 } ∧ copyOfReserved.openLen 1017 = 1 := by
  decide +kernel

/-- The copy has no entries, and scene 0 takes an empty extent. -/
theorem copyOfReserved_ends : copyOfReserved.storeEnd.extent 0 = (0, 0) := by decide +kernel

end Sys2Proof.Machine

open Sys2Proof Sys2Proof.Machine

/-- Refutes O17: its clause of STORE_COPY_END asks of the scene copied from only that its number is 1,008 or more, and not that it is the
open scene of a writer (R253). A copy from scene 1,017, which is reserved, has no entries, whatever number is counted for that scene. -/
theorem not_sceneCommandsComplete : ¬ Obligations.SceneCommandsComplete := by
  intro ⟨_, _, _, _, hcopy, _⟩
  obtain ⟨hnext, hlen⟩ := copyOfReserved_meets
  obtain ⟨t, ht, -, hextent, -⟩ := hcopy _ copyOfReserved hnext (by decide) (by decide)
  rw [← Host.Outcome.next.inj ht, copyOfReserved_ends, hlen] at hextent
  exact absurd hextent (by decide)

end

section
/-!
SUPPORT. What stays, and the bytes of the flash. That what is burned stays burned follows from the law of every command's operation
(`State.After`). A byte of the flash outside cut sectors reads back as it was last put (R350).
-/

-- Proofs are elaborated one at a time: side by side their threads reserve more memory than a check has.
set_option Elab.async false

namespace Sys2Proof.Machine

/-- What comes after a state has gone back in nothing. -/
theorem State.After.later {b s : State} (h : b.After s) : b.Later s := h.2.2.2.2.2.2.2.2.2.2.2.2.2

/-! ### The bytes of the flash -/

theorem State.flashGet_of_uncut {s : State} (h : s.flash.cut = []) (a : Nat) :
    s.flashGet a = tabGet flashReset s.flash.bytes a := by simp [State.flashGet, h]

@[simp] theorem State.flashPut_cut (s : State) (a : Nat) (b : Byte) : (s.flashPut a b).flash.cut = s.flash.cut := rfl

theorem State.flashGet_flashPut_same {s : State} (h : s.flash.cut = []) (a : Nat) (b : Byte) :
    (s.flashPut a b).flashGet a = b := by
  rw [State.flashGet_of_uncut (by simpa using h)]
  exact tabGet_tabSet_self _ _ _ _

theorem State.flashGet_flashPut_other {s : State} (h : s.flash.cut = []) {a k : Nat} (b : Byte) (hk : k ≠ a) :
    (s.flashPut a b).flashGet k = s.flashGet k := by
  rw [State.flashGet_of_uncut (by simpa using h), State.flashGet_of_uncut h]
  exact tabGet_tabSet_ne _ _ _ _ _ hk

/-- Puts at distinct addresses: one address reads as what is put there. -/
theorem State.flashGet_puts (a : Nat) (ps : List (Nat × Byte)) (s : State) (h : s.flash.cut = []) (k : Nat) :
    (∀ b, (k, b) ∈ ps → (ps.map Prod.fst).Nodup → (ps.foldl (fun s e => s.flashPut (a + e.1) e.2) s).flashGet (a + k) = b) ∧
    (∀ x, (∀ e ∈ ps, a + e.1 ≠ x) → (ps.foldl (fun s e => s.flashPut (a + e.1) e.2) s).flashGet x = s.flashGet x) := by
  induction ps generalizing s with
  | nil => simp
  | cons e ps ih =>
    obtain ⟨hhit, hmiss⟩ := ih (s.flashPut (a + e.1) e.2) (by simpa using h)
    constructor
    · intro b hb hnd
      obtain ⟨hfresh, hrest⟩ := List.nodup_cons.1 (by simpa using hnd : (e.1 :: ps.map Prod.fst).Nodup)
      rcases List.mem_cons.1 hb with rfl | hb
      · rw [List.foldl_cons, hmiss _ (fun e he hek => hfresh (List.mem_map.2 ⟨e, he, by simpa using hek⟩))]
        exact State.flashGet_flashPut_same h _ _
      · exact hhit b hb hrest
    · intro x hx
      rw [List.foldl_cons, hmiss x (fun e he => hx e (List.mem_cons_of_mem _ he))]
      exact State.flashGet_flashPut_other h _ (hx e List.mem_cons_self).symm

/-- The bytes written read back. -/
theorem State.flashGet_flashWrite_mem {s : State} (h : s.flash.cut = []) (a : Nat) (l : List Byte) {k : Nat} (hk : k < l.length) :
    (s.flashWrite a l).flashGet (a + k) = l[k] := by
  refine (State.flashGet_puts a _ s h k).1 _ ?_ ?_
  · exact List.mem_iff_getElem.2 ⟨k, by simpa using hk, by simp⟩
  · rw [List.map_fst_zip (by simp)]
    exact List.nodup_range

/-- Every other byte is as before. -/
theorem State.flashGet_flashWrite_other {s : State} (h : s.flash.cut = []) (a : Nat) (l : List Byte) {x : Nat}
    (hx : x < a ∨ a + l.length ≤ x) : (s.flashWrite a l).flashGet x = s.flashGet x := by
  refine (State.flashGet_puts a _ s h 0).2 x ?_
  rintro ⟨i, b⟩ he
  have hi : i < l.length := List.mem_range.1 (List.of_mem_zip he).1
  dsimp only
  omega

/-- What programming asks for: the old bytes AND the new ones (R350). -/
def State.progBytes (s : State) (a : Nat) (l : List Byte) : List Byte := List.zipWith (· &&& ·) (s.flashBytes a l.length) l

@[simp] theorem State.length_progBytes (s : State) (a : Nat) (l : List Byte) : (s.progBytes a l).length = l.length := by
  simp [State.progBytes, State.flashBytes]

theorem State.getElem_progBytes (s : State) (a : Nat) (l : List Byte) {k : Nat} (hk : k < (s.progBytes a l).length) :
    (s.progBytes a l)[k] = s.flashGet (a + k) &&& l[k]'(by simpa using hk) := by
  simp [State.progBytes, State.flashBytes]

theorem State.flashProgram_eq (s : State) (a : Nat) (l : List Byte) :
    s.flashProgram a l = (s.flashWrite a (s.progBytes a l), s.progBytes a l == l) := rfl

end Sys2Proof.Machine

open Sys2Proof Sys2Proof.Machine

/-- Settles O33: what comes after a state, its queue apart, has gone back in nothing, and the queue is no part of that. -/
theorem stepKeepsLater : Obligations.StepKeepsLater := by
  intro s t h
  obtain ⟨_, ha⟩ := step_after h
  exact ha.later

/-- Settles O30: each table of the reset state is empty. -/
theorem resetIsCanonical : Obligations.ResetIsCanonical := by
  unfold Obligations.ResetIsCanonical State.Canon
  decide

/-- Settles O38: the four answers are taken in the order of the rule. -/
theorem overallRehearsalResult : Obligations.OverallRehearsalResult := by
  intro l
  refine ⟨?_, ?_, ?_, ?_⟩
  · intro h3
    simp [rehOverall, h3]
  · intro h3 hinc
    have hany : l.any (fun r => r == 4 || r == 5 || r == 6) = true := by
      rw [List.any_eq_true]
      rcases hinc with h | h | h
      · exact ⟨4, h, rfl⟩
      · exact ⟨6, h, rfl⟩
      · exact ⟨5, h, rfl⟩
    simp only [rehOverall, hany]
    simp [h3]
  all_goals
    intro h3 h4 h6 h5 h2
    have hany : l.any (fun r => r == 4 || r == 5 || r == 6) = false := by
      rw [List.any_eq_false]
      rintro r hr
      have : r ≠ 4 ∧ r ≠ 5 ∧ r ≠ 6 := ⟨ne_of_mem_of_not_mem hr h4, ne_of_mem_of_not_mem hr h5, ne_of_mem_of_not_mem hr h6⟩
      simp [this]
    simp only [rehOverall, hany]
    simp [h3, h2]

/-- Settles O40: what is written is the old bytes AND the new, and the answer compares that with the new. -/
theorem programOnlyClearsBits : Obligations.ProgramOnlyClearsBits := by
  intro s a l h
  rw [State.flashProgram_eq]
  refine ⟨fun k hk => ?_, fun b hb => ?_, ?_⟩
  · rw [State.flashGet_flashWrite_mem h a _ (by simpa using hk), State.getElem_progBytes, List.getElem?_eq_getElem hk]
    rfl
  · exact State.flashGet_flashWrite_other h a _ (by simpa using hb)
  · rw [beq_iff_eq]
    constructor
    · intro heq k hk
      have := State.getElem_progBytes s a l (k := k) (by simpa using hk)
      rw [List.getElem?_eq_getElem hk]
      simpa [heq] using this.symm
    · intro hall
      refine List.ext_getElem (by simp) fun k hk hk' => ?_
      rw [State.getElem_progBytes]
      simpa [List.getElem?_eq_getElem hk'] using hall k hk'

end

section
/-!
SUPPORT. States that meet the hypotheses of a clause and not what it names. A page that is BUSY for rehearsal shows no event of its
detectors (R402, R454), an operation that waits before a run's last entry is refused while the run closes (R351), and a read that is not
admitted does nothing (R14); the statements that these refute do not ask for the contrary.
-/

-- Proofs are elaborated one at a time: side by side their threads reserve more memory than a check has.
set_option Elab.async false

namespace Sys2Proof.Machine

/-! ### Events under rehearsal (R402, R454) -/

/-- A ready module whose heartbeat is present, its TWIN page BUSY for rehearsal. No scope covers that page, nor the other pages of the
house below (R396); a statement about every state meets them all the same. -/
def beatUnderRehearsal : State := (up.setF .twin TwinR.LINK_STAT_HB_OK 1).setBusy .twin .rehearsal

/-- The loss of the heartbeat is taken, and the TWIN page shows no fault. -/
theorem beatUnderRehearsal_lost : beatUnderRehearsal.hbOk = true ∧ beatUnderRehearsal.hbLost.evt .twin 16 = false := by
  decide +kernel

/-- A ready module whose input VINA is good, its SUPPLY page BUSY for rehearsal. -/
def inputUnderRehearsal : State := (up.setF .supply (goodFld false) 1).setBusy .supply .rehearsal

theorem inputUnderRehearsal_lost : inputUnderRehearsal.good false = true ∧ inputUnderRehearsal.device = .ready ∧
    (inputUnderRehearsal.inputLost false).evt .supply (16 + b2n false) = false := by decide +kernel

/-- A ready module that erases the first sector for the host, its NVM page BUSY for rehearsal. -/
def eraseUnderRehearsal : State := (up.modFlash (fun x => { x with run := some (.host 3 0 0 0, []) })).setBusy .nvm .rehearsal

theorem eraseUnderRehearsal_meets : eraseUnderRehearsal.flash.run = some (.host 3 0 0 0, []) ∧ 0 < regionSize 0 ∧
    eraseUnderRehearsal.flash.queue = [] ∧ eraseUnderRehearsal.rehState ≠ 1 ∧ eraseUnderRehearsal.reh.toDark = false := by
  decide +kernel

theorem eraseUnderRehearsal_ends : (eraseUnderRehearsal.flashEnd true).flashThen.evt .nvm 0 = false := by decide +kernel

/-- A ready module, its CAL page BUSY for rehearsal: a comparison 301 steps off suspends calibration, and the page shows no fault. -/
def bandgapUnderRehearsal : State := up.setBusy .cal .rehearsal

theorem bandgapUnderRehearsal_off : (bandgapUnderRehearsal.bgCompare 301).evt .cal 17 = false := by decide +kernel

/-- A ready module with an open SPI write, its SPI page BUSY for rehearsal. -/
def frameUnderRehearsal : State := (up.modSpi (fun x => { x with open_ := some pathRead })).setBusy .spi .rehearsal

theorem frameUnderRehearsal_stalls : frameUnderRehearsal.spi.open_ ≠ none ∧ frameUnderRehearsal.spiStall.evt .spi 17 = false := by
  decide +kernel

/-- A ready module that burns a Umatan key into slot 0, with the energy for it, its SEC page BUSY for rehearsal. -/
def burnUnderRehearsal : State :=
  (((up.setF .supply SupplyR.HUP_ENERGY_E_AVAIL 105).modFlash (fun x => { x with run := some (.keyOp, []) })).modSec
    (fun x => { x with op := some (1, 0, 0, []) })).setBusy .sec .rehearsal

theorem burnUnderRehearsal_meets : burnUnderRehearsal.flash.run = some (.keyOp, []) ∧
    burnUnderRehearsal.security.op = some (1, 0, 0, []) ∧ 105 ≤ burnUnderRehearsal.eAvail ∧
    burnUnderRehearsal.rehState ≠ 1 ∧ burnUnderRehearsal.reh.toDark = false := by decide +kernel

theorem burnUnderRehearsal_fails : (burnUnderRehearsal.keyOpEnd false).flashThen.evt .sec 20 = false := by decide +kernel

/-! ### A run that closes behind a fuse session -/

/-- A ready module without stored energy whose engine run has all its results while a fuse session and a load wait for the flash. -/
def runBehindFuses : State :=
  (((up.setF .reh RehR.REH_STAT_STATE 2).setF .reh RehR.REH_STAT_SCOPE 3).modReh
    (fun x => { x with opened := true, done := [(131, 1), (133, 1)] })).modFlash
    (fun x => { x with queue := [.fuseSession, .load 0 0] })

theorem runBehindFuses_takes_abort : runBehindFuses.takes .spi .reh 0x040 (BitVec.ofNat 32 (4 * 2 ^ 28)) allOnes = true ∧
    runBehindFuses.rehRuns = true := by decide +kernel

/-- The closing brings the flash to the session, and its refusal writes its own cause over that of the abort (R397, R413). -/
theorem runBehindFuses_aborted : (runBehindFuses.offerReh .spi 4 0 false).f .reh RehR.REH_STAT_CAUSE = 4 := by decide +kernel

/-- Likewise, its REH page BUSY for rehearsal. -/
def closingUnderRehearsal : State := runBehindFuses.setBusy .reh .rehearsal

theorem closingUnderRehearsal_meets : closingUnderRehearsal.rehOn = true ∧ closingUnderRehearsal.rehAllDone = true ∧
    closingUnderRehearsal.rehScope ≠ 1 ∧
    rehOverall (closingUnderRehearsal.rehUnits.flatMap closingUnderRehearsal.rehResults) = 1 := by decide +kernel

/-- The refusal of the session leaves the run over, and the page shows no event of its closing. -/
theorem closingUnderRehearsal_closes : closingUnderRehearsal.rehRunClose.rehState = 0 ∧
    closingUnderRehearsal.rehRunClose.evt .reh 0 = false := by decide +kernel

/-! ### A read of the response queue that is not admitted (R14) -/

/-- `queueNearlyFull` with one response in the queue of engine 0. -/
def responseBehindFullQueue : State := queueNearlyFull.modEng 0 (fun x => { x with rspq := [0] })

theorem responseBehindFullQueue_meets : responseBehindFullQueue.closedToAll = false ∧
    responseBehindFullQueue.busyOf (ep 0) ≠ .rehearsal ∧ (responseBehindFullQueue.engRec 0).rspq = [0] ∧
    (responseBehindFullQueue.engRec 0).held = [] := by decide +kernel

theorem responseBehindFullQueue_stays :
    ((responseBehindFullQueue.offerReadReg .spi (ep 0) 0x0A0).engRec 0).rspq = [0] := by decide +kernel

end Sys2Proof.Machine

open Sys2Proof Sys2Proof.Machine

/-- Refutes O50: its clause of HB_LOST asks for the fault bit and not that the TWIN page be free. While that page is BUSY for rehearsal its
detectors set no bit (R402, R454). -/
theorem not_migrationAndTwinResults : ¬ Obligations.MigrationAndTwinResults := by
  intro ⟨_, _, _, _, _, _, _, _, _, _, _, _, _, _, _, _, _, hlost, _⟩
  obtain ⟨hok, hsilent⟩ := beatUnderRehearsal_lost
  obtain ⟨t, ht, -, hevt, -⟩ := hlost beatUnderRehearsal hok
  rw [← Host.Outcome.next.inj ht, hsilent] at hevt
  exact absurd hevt (by decide)

/-- Refutes O51: its clause of INPUT_LOST asks for the fault bit and not that the SUPPLY page be free. While that page is BUSY for rehearsal
its detectors set no bit (R402, R454). -/
theorem not_supplyResults : ¬ Obligations.SupplyResults := by
  intro ⟨_, _, hlost, _⟩
  obtain ⟨hgood, hready, hsilent⟩ := inputUnderRehearsal_lost
  obtain ⟨t, ht, hevt, -⟩ := hlost false inputUnderRehearsal hgood hready
  rw [← Host.Outcome.next.inj ht, hsilent] at hevt
  exact absurd hevt (by decide)

/-- Refutes O52: its clause of FLASH_OPERATION_END asks for the event DONE and not that the NVM page be free. While that page is BUSY for
rehearsal its detectors set no bit (R402, R454). -/
theorem not_flashResults : ¬ Obligations.FlashResults := by
  intro ⟨_, _, _, _, _, _, hend⟩
  obtain ⟨hrun, haddr, hqueue, hstate, hdark⟩ := eraseUnderRehearsal_meets
  obtain ⟨t, ht, -, -, hdone, -⟩ := hend true 0 0 0 [] eraseUnderRehearsal hrun (by decide) haddr hqueue hstate hdark
  obtain ⟨-, hevt⟩ := hdone rfl
  rw [← Host.Outcome.next.inj ht, eraseUnderRehearsal_ends] at hevt
  exact absurd hevt (by decide)

/-- Refutes O54: its clause of BANDGAP_COMPARE asks for the fault bit and not that the CAL page be free. While that page is BUSY for
rehearsal its detectors set no bit (R402, R454). -/
theorem not_calibrationResults : ¬ Obligations.CalibrationResults := by
  intro ⟨hcompare, _⟩
  obtain ⟨t, ht, -, hoff⟩ := hcompare 301 bandgapUnderRehearsal
  obtain ⟨-, hevt⟩ := hoff (by decide)
  rw [← Host.Outcome.next.inj ht, bandgapUnderRehearsal_off] at hevt
  exact absurd hevt (by decide)

/-- Refutes O56: its clause of SPI_STALL_TIMEOUT asks for the fault bit and not that the SPI page be free. While that page is BUSY for
rehearsal its detectors set no bit (R402, R454). -/
theorem not_spiResults : ¬ Obligations.SpiResults := by
  intro ⟨_, _, _, _, _, _, _, _, _, hstall⟩
  obtain ⟨hopen, hsilent⟩ := frameUnderRehearsal_stalls
  obtain ⟨t, ht, -, hevt, -⟩ := hstall frameUnderRehearsal hopen
  rw [← Host.Outcome.next.inj ht, hsilent] at hevt
  exact absurd hevt (by decide)

/-- Refutes O59: its clause of KEY_OP_END after a failed burn asks for the fault bit and not that the SEC page be free. While that page is
BUSY for rehearsal its detectors set no bit (R402, R454). -/
theorem not_keyResults : ¬ Obligations.KeyResults := by
  intro ⟨_, _, _, _, _, _, _, _, _, _, hfail⟩
  obtain ⟨hrun, hop, henergy, hstate, hdark⟩ := burnUnderRehearsal_meets
  obtain ⟨t, ht, -, -, -, hevt⟩ := hfail [] 0 [] burnUnderRehearsal hrun hop henergy hstate hdark
  rw [← Host.Outcome.next.inj ht, burnUnderRehearsal_fails] at hevt
  exact absurd hevt (by decide)

/-- Refutes O25: its clause of REH_ABORT asks for cause 8 and not that the flash queue be empty. A fuse session that waits there without
energy is refused while the run closes, and its cause stands last (R351, R397). -/
theorem not_rehearsalAndFuseCommandsComplete : ¬ Obligations.RehearsalAndFuseCommandsComplete := by
  intro ⟨_, _, _, habort, _⟩
  obtain ⟨htakes, hruns⟩ := runBehindFuses_takes_abort
  obtain ⟨t, ht, hcause, -⟩ := habort .spi runBehindFuses htakes hruns
  rw [← Host.Outcome.next.inj ht, runBehindFuses_aborted] at hcause
  exact absurd hcause (by decide)

/-- Refutes O55: its clause of REH_RUN_CLOSE asks for the event of a run that is over and not that the REH page be free. While that page is
BUSY for rehearsal its detectors set no bit (R402, R454). -/
theorem not_rehearsalAndFuseResults : ¬ Obligations.RehearsalAndFuseResults := by
  intro ⟨_, _, _, _, _, _, _, _, hclose⟩
  obtain ⟨hon, hdone, hscope, hoverall⟩ := closingUnderRehearsal_meets
  obtain ⟨hover, hsilent⟩ := closingUnderRehearsal_closes
  obtain ⟨t, ht, hend⟩ := hclose closingUnderRehearsal hon hdone hscope
  rw [← Host.Outcome.next.inj ht, hoverall, hover] at hend
  obtain h | ⟨-, hevt⟩ := hend
  · exact absurd h (by decide)
  · exact absurd (hsilent.symm.trans hevt) (by decide)

/-- Refutes O20: its clause of RSPQ_READ does not ask that the read be admitted (R14). A read that meets a queue nearly full is turned
away, and the response stays in its queue. -/
theorem not_engineQueueCommandsComplete : ¬ Obligations.EngineQueueCommandsComplete := by
  intro ⟨_, _, hread, _⟩
  obtain ⟨hopen, hbusy, hrspq, hheld⟩ := responseBehindFullQueue_meets
  obtain ⟨t, ht, hone, -⟩ := hread .spi 0 0 [] responseBehindFullQueue hopen hbusy hrspq hheld
  rw [← Host.Outcome.next.inj ht, responseBehindFullQueue_stays] at hone
  exact absurd hone (by decide)

end

section
/-!
SUPPORT. Injected violations. Fields that share no bit of a register are apart (`apart`), and setting one keeps the other; what counting a
violation does to the counters and to VIOL_LAST is said once with it (R452), and a write of VIOL_INJ counts its kinds one after another
(R456).
-/

-- Proofs are elaborated one at a time: side by side their threads reserve more memory than a check has.
set_option Elab.async false

namespace Sys2Proof.Machine

variable {p q : Page} {s t : State}

/-! ### Fields apart from each other -/

/-- The fields share no bit of any register. -/
def apart (x y : Fld) : Bool :=
  decide (x.off < 4096) && decide (y.off < 4096) &&
    (x.off != y.off || decide (x.lo ≤ x.hi) && decide (y.hi < 32) && (decide (x.hi < y.lo) || decide (y.hi < x.lo)))

/-- Setting a field keeps every field apart from it, in any page. -/
theorem State.f_setF_apart (s : State) (p q : Page) {x y : Fld} (v : Nat) (h : apart x y = true) : (s.setF p x v).f q y = s.f q y := by
  simp only [apart, Bool.and_eq_true, Bool.or_eq_true, bne_iff_ne, decide_eq_true_eq] at h
  obtain ⟨⟨hx, hy⟩, hne | ⟨⟨hle, hh⟩, hd⟩⟩ := h
  · exact s.f_setF_ne _ _ _ _ _ fun e => hne ((pageAddr_inj hy hx).1 e).2.symm
  · by_cases hpq : q = p
    · subst hpq
      exact s.f_setF_disj _ _ _ _ hle hh hd
    · exact s.f_setF_ne _ _ _ _ _ fun e => hpq ((pageAddr_inj hy hx).1 e).1

theorem State.on_setF_apart (s : State) (p q : Page) {x y : Fld} (v : Nat) (h : apart x y = true) : (s.setF p x v).on q y = s.on q y := by
  rw [State.on, s.f_setF_apart p q v h, State.on]

theorem State.f_inc_apart (s : State) (p q : Page) {x y : Fld} (h : apart x y = true) : (s.inc p x).f q y = s.f q y :=
  s.f_setF_apart p q _ h

/-! ### Counting a violation (R452) -/

theorem violFld_apart {k j : Viol} (h : j ≠ k) : apart (violFld k) (violFld j) = true := by
  revert h
  cases k <;> cases j <;> decide

theorem violTot_apart {k j : Viol} (h : j ≠ k) : apart (violTot k) (violTot j) = true := by
  revert h
  cases k <;> cases j <;> decide

theorem violFld_apart_violTot (k j : Viol) : apart (violFld k) (violTot j) = true ∧ apart (violTot k) (violFld j) = true := by
  cases k <;> cases j <;> decide

/-- Setting VIOL_LAST keeps every field of another register. -/
theorem State.f_violLast (s : State) (k : Viol) (n : Nat) (inj : Bool) (q : Page) {x : Fld} (hx : x.off < 0x0B4) :
    (s.violLast k n inj).f q x = s.f q x := by
  have hother : ∀ y : Fld, y.off = 0x0B4 → apart y x = true := fun y hy => by
    simp only [apart, hy, Bool.and_eq_true, Bool.or_eq_true, bne_iff_ne, decide_eq_true_eq]
    omega
  simp only [State.violLast, State.setB]
  rw [State.f_setF_apart _ _ _ _ (hother HouseR.VIOL_LAST_INJ rfl), State.f_setF_apart _ _ _ _ (hother HouseR.VIOL_LAST_PAGE rfl),
    State.f_setF_apart _ _ _ _ (hother HouseR.VIOL_LAST_KIND rfl)]

/-- A violation counts one in the page's counter of its kind, and in no other of them. -/
theorem State.f_violI_page (s : State) (p : Page) (k : Viol) (inj : Bool) (j : Viol) :
    (s.violI p k inj).f p (violFld j) = if j = k then satNat 0xFFFF (s.f p (violFld j) + 1) else s.f p (violFld j) := by
  rw [State.violI, State.f_violLast _ _ _ _ _ (by cases j <;> decide), State.f_inc_apart _ _ _ (violFld_apart_violTot k j).2]
  split
  · subst j
    rw [s.f_inc_self p (by cases k <;> decide) (by cases k <;> decide), show fldTop (violFld k) = 0xFFFF by cases k <;> rfl]
  · rw [State.f_inc_apart _ _ _ (violFld_apart ‹_›)]

/-- It counts one in the device-wide total of its kind, and in no other of them. -/
theorem State.f_violI_total (s : State) (p : Page) (k : Viol) (inj : Bool) (j : Viol) :
    (s.violI p k inj).f .house (violTot j) =
      if j = k then satNat 0xFFFFFFFF (s.f .house (violTot j) + 1) else s.f .house (violTot j) := by
  rw [State.violI, State.f_violLast _ _ _ _ _ (by cases j <;> decide)]
  have hpage : (s.inc p (violFld k)).f .house (violTot j) = s.f .house (violTot j) :=
    State.f_inc_apart _ _ _ (violFld_apart_violTot k j).1
  split
  · subst j
    rw [State.f_inc_self _ _ (by cases k <;> decide) (by cases k <;> decide), hpage,
      show fldTop (violTot k) = 0xFFFFFFFF by cases k <;> rfl]
  · rw [State.f_inc_apart _ _ _ (violTot_apart ‹_›), hpage]

/-- VIOL_LAST tells of an injected violation in page `p`. -/
def State.LastInjected (p : Page) (s : State) : Prop :=
  s.on .house HouseR.VIOL_LAST_INJ = true ∧ s.f .house HouseR.VIOL_LAST_PAGE = pageNum p

/-- An injected violation stands in VIOL_LAST with its page and kind. -/
theorem State.violI_last (s : State) (p : Page) (k : Viol) :
    State.LastInjected p (s.violI p k true) ∧ (s.violI p k true).f .house HouseR.VIOL_LAST_KIND = violCode k := by
  have hn := pageNum_lt p
  simp only [State.violI, State.violLast, State.LastInjected]
  generalize (s.inc p (violFld k)).inc .house (violTot k) = u
  refine ⟨⟨State.on_setB _ _ _ (by decide) (by decide), ?_⟩, ?_⟩
  · rw [State.setB, State.f_setF_apart _ _ _ _ (by decide), State.f_setF_self _ _ _ _ (by decide) (by decide)]
    exact Nat.mod_eq_of_lt (lt_trans hn (by decide))
  · rw [State.setB, State.f_setF_apart _ _ _ _ (by decide), State.f_setF_apart _ _ _ _ (by decide),
      State.f_setF_self _ _ _ _ (by decide) (by decide)]
    cases k <;> rfl

/-! ### Injected violations (R456) -/

/-- The violation of kind `k` that a word written to VIOL_INJ names, if it does. -/
def State.injKind (s : State) (p : Page) (w : Word) (k : Viol) : State := if w.getLsbD (violCode k) then s.violI p k true else s

/-- A write to VIOL_INJ counts the kinds that it names, one after another. -/
theorem State.violInject_eq (s : State) (p : Page) (w : Word) :
    s.violInject p w = (((s.injKind p w .access).injKind p w .timing).injKind p w .protocol).injKind p w .consistency := rfl

theorem State.f_injKind_page (s : State) (p : Page) (w : Word) (k j : Viol) : (s.injKind p w k).f p (violFld j) =
    if j = k ∧ w.getLsbD (violCode k) = true then satNat 0xFFFF (s.f p (violFld j) + 1) else s.f p (violFld j) := by
  by_cases h : w.getLsbD (violCode k) = true <;> simp [State.injKind, h, State.f_violI_page]

theorem State.f_injKind_total (s : State) (p : Page) (w : Word) (k j : Viol) : (s.injKind p w k).f .house (violTot j) =
    if j = k ∧ w.getLsbD (violCode k) = true then satNat 0xFFFFFFFF (s.f .house (violTot j) + 1) else s.f .house (violTot j) := by
  by_cases h : w.getLsbD (violCode k) = true <;> simp [State.injKind, h, State.f_violI_total]

theorem State.injKind_lastInjected {w : Word} (k : Viol) (h : State.LastInjected p s ∨ w.getLsbD (violCode k) = true) :
    State.LastInjected p (s.injKind p w k) := by
  unfold State.injKind
  split
  · exact (s.violI_last p k).1
  · exact h.resolve_right ‹_›

/-- Of a kind that is named: one higher, in the page and in the total. Of any other: as it was. -/
theorem State.violInject_counts (s : State) (p : Page) (w : Word) (k : Viol) :
    (s.violInject p w).f p (violFld k) =
      (if w.getLsbD (violCode k) then satNat 0xFFFF (s.f p (violFld k) + 1) else s.f p (violFld k)) ∧
    (s.violInject p w).f .house (violTot k) =
      (if w.getLsbD (violCode k) then satNat 0xFFFFFFFF (s.f .house (violTot k) + 1) else s.f .house (violTot k)) := by
  simp only [State.violInject_eq, State.f_injKind_page, State.f_injKind_total]
  cases k <;> simp

/-- If any kind is named, VIOL_LAST tells of an injected violation in the page. -/
theorem State.violInject_lastInjected (s : State) (p : Page) {w : Word} {k : Viol} (h : w.getLsbD (violCode k) = true) :
    State.LastInjected p (s.violInject p w) := by
  rw [State.violInject_eq]
  cases k with
  | access => exact State.injKind_lastInjected _ (.inl (State.injKind_lastInjected _ (.inl (State.injKind_lastInjected _ (.inl (State.injKind_lastInjected _ (.inr h)))))))
  | timing => exact State.injKind_lastInjected _ (.inl (State.injKind_lastInjected _ (.inl (State.injKind_lastInjected _ (.inr h)))))
  | protocol => exact State.injKind_lastInjected _ (.inl (State.injKind_lastInjected _ (.inr h)))
  | consistency => exact State.injKind_lastInjected _ (.inr h)

/-- A kind named alone is the only one counted. -/
theorem State.violInject_alone (s : State) (p : Page) {w : Word} {k : Viol} (h : ∀ j, w.getLsbD (violCode j) = decide (j = k)) :
    s.violInject p w = s.violI p k true := by
  rw [State.violInject_eq]
  cases k <;> simp [State.injKind, h]

/-! ### The write -/

def violInjRow : Row := { fld := Hdr.VIOL_INJ_INJ, acc := .w1s, rst := 0 }

/-- VIOL_INJ has one field, in every page. -/
theorem rowsAt_violInj (p : Page) : rowsAt p 0x028 = [violInjRow] := by
  have hrows : (pageRows p).filter (rowCovers 0x028) = [violInjRow] := by
    cases p <;> simp only [pageRows] <;> decide +kernel
  have hmir : mirrorReg p 0x028 = false := by cases p <;> simp [mirrorReg]
  simp [rowsAt, hrows, hmir]

/-- Every other bit of the register is RSV. -/
theorem roMask_violInj (p : Page) : roMask p 0x028 = ~~~0xF#32 := by
  simp only [roMask, accMask, rowsAt_violInj, ctlUnsupported, if_neg (show ¬ (0x028 : Nat) = 0x008 by decide)]
  decide

/-- A write of kinds stores nothing, counts nothing of its own and asks for the kinds written. -/
theorem writeOut_violInj (v : Nat → Word) (p : Page) (kinds : BitVec 4) :
    writeOut v false p 0x028 (kinds.setWidth 32) allOnes = { word := v (pageAddr p 0x028), act := kinds.setWidth 32 } := by
  have hbits : kinds.setWidth 32 &&& allOnes &&& ~~~0xF#32 = 0 ∧
      0#32 ||| (kinds.setWidth 32 &&& (allOnes &&& ~~~0#32) &&& 0xF#32) = kinds.setWidth 32 := by
    revert kinds
    decide
  obtain ⟨hro, hact⟩ := hbits
  have hfld : fldMask violInjRow.fld.hi violInjRow.fld.lo = 0xF#32 := by decide
  simp only [writeOut, rowsAt_violInj, List.foldl_cons, List.foldl_nil, ctlUnsupported, roMask_violInj, hro,
    if_neg (show ¬ (0x028 : Nat) = 0x008 by decide)]
  rw [writeRow_w1s rfl (by decide), hfld]
  exact congrArg (fun a => ({ word := v (pageAddr p 0x028), act := a } : WrOut)) hact

/-- A write of kinds that has an effect counts them, once its row of the page storage is stored anew. -/
theorem State.regWrite_violInj {c : Src} {kinds : BitVec 4} (h : s.noWrite c p 0x028 (kinds.setWidth 32 &&& allOnes) = none) :
    s.regWrite c p 0x028 (kinds.setWidth 32) allOnes =
      ((s.pageStored (pageAddr p 0x028)).wr (pageAddr p 0x028) (s.rd (pageAddr p 0x028))).violInject p (kinds.setWidth 32) := by
  have hkind : wrKind p 0x028 = .fields := by cases p <;> rfl
  have hlast : ∀ t : State, t.cmdLast c p 0x028 = t := fun t => by cases p <;> rfl
  have hsum : feedsSum p 0x028 = false := by simp [feedsSum]
  simp [State.regWrite, State.regAct, State.regPut, h, hkind, hlast, hsum, writeOut_violInj, State.regStore, State.violIf,
    State.directEffect, State.effHeader]

/-- What stands between the offer of the write and its counts leaves the page's counters and the totals as they are. -/
theorem State.f_before_violInj (s : State) (p : Page) (n : Nat) (w : Word) (q : Page) {x : Fld} (hx : x.off < 0x0B4)
    (h28 : x.off ≠ 0x028) (hpeak : x.off ≠ 0x06C) :
    (((s.peak n).pageStored (pageAddr p 0x028)).wr (pageAddr p 0x028) w).f q x = s.f q x := by
  have hstored : ((s.peak n).pageStored (pageAddr p 0x028)).rd (pageAddr q x.off) = (s.peak n).rd (pageAddr q x.off) := by
    unfold State.pageStored
    split
    · rfl
    · exact ((s.peak n).sramWrite_spec _).1 _ (by simp only [pageAddr]; omega)
  rw [State.f, State.rd_wr_ne _ _ _ _ fun e => h28 ((pageAddr_inj (by omega) (by decide)).1 e).2, hstored]
  exact s.f_peak n q x (by omega) hpeak

end Sys2Proof.Machine

open Sys2Proof Sys2Proof.Machine

/-- Settles O37: the write is one action of its one field, and its kinds are counted one after another. -/
theorem injectedViolationsCount : Obligations.InjectedViolationsCount := by
  intro c p kinds s htakes
  have hnow := fun v => (s.noWrite_peak v c p 0x028 (kinds.setWidth 32 &&& allOnes)).trans (State.noWrite_of_takes htakes)
  refine ⟨_, congrArg Host.Outcome.next ((State.offerReg_of_takes htakes).trans (State.regWrite_violInj (hnow _))), ?_⟩
  have hbefore := s.f_before_violInj p (s.admQ + writeCost c p 0x028 (kinds.setWidth 32) allOnes)
    ((s.peak (s.admQ + writeCost c p 0x028 (kinds.setWidth 32) allOnes)).rd (pageAddr p 0x028))
  generalize State.wr _ _ _ = u at *
  have hbit : ∀ k : Viol, (kinds.setWidth 32).getLsbD (violCode k) = kinds.getLsbD (violCode k) := fun k => by cases k <;> simp [violCode]
  refine ⟨fun k => ?_, fun hne => ?_, fun k hk => ?_⟩
  · obtain ⟨hpage, htotal⟩ := u.violInject_counts p (kinds.setWidth 32) k
    rw [hpage, htotal, hbit, hbefore p (by cases k <;> decide) (by cases k <;> decide) (by cases k <;> decide),
      hbefore .house (by cases k <;> decide) (by cases k <;> decide) (by cases k <;> decide)]
    exact ⟨rfl, rfl⟩
  · obtain ⟨k, hk⟩ : ∃ k : Viol, kinds.getLsbD (violCode k) = true := by
      by_contra hnone
      simp only [not_exists, Bool.not_eq_true] at hnone
      refine hne (BitVec.eq_of_getLsbD_eq fun i hi => ?_)
      obtain rfl | rfl | rfl | rfl : i = 0 ∨ i = 1 ∨ i = 2 ∨ i = 3 := by omega
      · simpa [violCode] using hnone .access
      · simpa [violCode] using hnone .timing
      · simpa [violCode] using hnone .protocol
      · simpa [violCode] using hnone .consistency
    exact u.violInject_lastInjected p ((hbit k).trans hk)
  · rw [u.violInject_alone p (k := k) fun j => by rw [hbit, hk]; cases k <;> cases j <;> rfl]
    exact (u.violI_last p k).2

end

section
/-!
SUPPORT. The frame of the commands of the supplies, of the twin link and of an engine's queues. Such a command touches listed registers, what
an event or a violation brings with it, and parts of the state that are a choice (`HouseParts`), so that what a command leaves alone is said
once for them all (`State.HouseTouches`), with a rule for each operation that such a command is made of (chapters 11 to 13).
-/

-- Proofs are elaborated one at a time: side by side their threads reserve more memory than a check has.
set_option Elab.async false

namespace Sys2Proof.Machine

/-- The parts of the state that a command of the supplies, of the twin link or of an engine's queues may touch beside registers. -/
structure HouseParts where
  supply : Bool := false
  flash : Bool := false
  reh : Bool := false
  security : Bool := false
  device : Bool := false
  twin : Bool := false
  time : Bool := false
  engines : Bool := false
  groups : Bool := false
  paths : Bool := false
  free : Bool := false

/-- `s` with the chosen parts of `t`. -/
def State.withHouse (P : HouseParts) (s t : State) : State :=
  { s with
    supply := bif P.supply then t.supply else s.supply
    flash := bif P.flash then t.flash else s.flash
    reh := bif P.reh then t.reh else s.reh
    security := bif P.security then t.security else s.security
    device := bif P.device then t.device else s.device
    twin := bif P.twin then t.twin else s.twin
    time := bif P.time then t.time else s.time
    engines := bif P.engines then t.engines else s.engines
    groups := bif P.groups then t.groups else s.groups
    paths := bif P.paths then t.paths else s.paths
    free := bif P.free then t.free else s.free }

/-- `t` has what `s` has, but for the registers at `l`, what an event or a violation brings with it, and the chosen parts; and no engine
but those of `es` has another record. -/
def State.HouseTouches (P : HouseParts) (es : List Eng) (l : List Nat) (s t : State) : Prop :=
  s.Frame l t ∧ (s.withHouse P t).SameRest t ∧ ∀ d, d ∉ es → t.engRec d = s.engRec d

variable {P : HouseParts} {es : List Eng} {l m : List Nat} {s t u : State} {e : Eng}

/-- What touches registers alone. -/
theorem State.HouseTouches.of_touches (h : s.Touches l t) : s.HouseTouches P es l t := by
  obtain ⟨hf, hr⟩ := h
  simp only [State.SameRest] at hr
  refine ⟨hf, ?_, fun d _ => by simp only [State.engRec, hr]⟩
  simp [State.SameRest, State.withHouse, hr]

theorem State.HouseTouches.refl (P : HouseParts) (es : List Eng) (l : List Nat) (s : State) : s.HouseTouches P es l s :=
  .of_touches (State.Touches.refl l s)

theorem State.HouseTouches.trans (h : s.HouseTouches P es l t) (k : t.HouseTouches P es l u) : s.HouseTouches P es l u := by
  obtain ⟨hf, hr, hd⟩ := h
  obtain ⟨kf, kr, kd⟩ := k
  refine ⟨hf.trans kf, ?_, fun d hmem => (kd d hmem).trans (hd d hmem)⟩
  simp only [State.SameRest, State.withHouse] at hr kr ⊢
  and_intros <;> grind

theorem State.HouseTouches.mono (h : s.HouseTouches P es l t) (k : ∀ a ∈ l, a ∈ m) : s.HouseTouches P es m t := ⟨h.1.mono k, h.2⟩

theorem State.HouseTouches.ite {c : Prop} [Decidable c] (h : s.HouseTouches P es l t) (k : s.HouseTouches P es l u) :
    s.HouseTouches P es l (if c then t else u) := by split <;> assumption

theorem State.HouseTouches.foldl {α : Type} {f : State → α → State} (h : s.HouseTouches P es l t) (as : List α)
    (hf : ∀ a ∈ as, ∀ v : State, v.HouseTouches P es l (f v a)) : s.HouseTouches P es l (as.foldl f t) := by
  induction as generalizing t with
  | nil => exact h
  | cons a as ih => exact ih (h.trans (hf a List.mem_cons_self t)) fun b hb => hf b (List.mem_cons_of_mem _ hb)

theorem State.HouseTouches.setF (h : s.HouseTouches P es l t) {p : Page} {x : Fld} (v : Nat) (k : pageAddr p x.off ∈ l) :
    s.HouseTouches P es l (t.setF p x v) := h.trans (.of_touches ((State.Touches.refl _ t).setF v k))

theorem State.HouseTouches.wr (h : s.HouseTouches P es l t) {a : Nat} (v : Word) (k : a ∈ l) :
    s.HouseTouches P es l (t.wr a v) := h.trans (.of_touches ((State.Touches.refl _ t).wr v k))

theorem State.HouseTouches.inc (h : s.HouseTouches P es l t) {p : Page} {x : Fld} (k : pageAddr p x.off ∈ l) :
    s.HouseTouches P es l (t.inc p x) := h.setF _ k

theorem State.HouseTouches.raise (h : s.HouseTouches P es l t) {p : Page} (bit : Nat) (k : pageAddr p 0x010 ∈ l) :
    s.HouseTouches P es l (t.raise p bit) := h.trans (.of_touches ((State.Touches.refl _ t).raise bit k))

theorem State.HouseTouches.raiseIf (h : s.HouseTouches P es l t) (b : Bool) {p : Page} (bit : Nat) (k : pageAddr p 0x010 ∈ l) :
    s.HouseTouches P es l (t.raiseIf b p bit) := .ite (h.raise bit k) h

/-- A change of chosen parts alone, and of the records of chosen engines. -/
theorem State.HouseTouches.parts (h : s.HouseTouches P es l t) (hu : t.withHouse P u = u) (hd : ∀ d, d ∉ es → u.engRec d = t.engRec d) :
    s.HouseTouches P es l u := by
  refine h.trans ⟨(State.Frame.refl t l).of_eq ?_ ?_, ?_, hd⟩
  · rw [← hu]; rfl
  · rw [← hu]; rfl
  · rw [hu]; exact .refl u

theorem State.HouseTouches.modTwin (h : s.HouseTouches P es l t) (f : TwinSt → TwinSt) (hP : P.twin = true) :
    s.HouseTouches P es l (t.modTwin f) := h.parts (by simp [State.withHouse, State.modTwin, hP]) fun _ _ => rfl

theorem State.HouseTouches.modSupply (h : s.HouseTouches P es l t) (f : SupplySt → SupplySt) (hP : P.supply = true) :
    s.HouseTouches P es l (t.modSupply f) := h.parts (by simp [State.withHouse, State.modSupply, hP]) fun _ _ => rfl

theorem State.HouseTouches.setSupply (h : s.HouseTouches P es l t) (x : SupplySt) (hP : P.supply = true) :
    s.HouseTouches P es l { t with supply := x } := h.parts (by simp [State.withHouse, hP]) fun _ _ => rfl

theorem State.HouseTouches.modFlash (h : s.HouseTouches P es l t) (f : FlashSt → FlashSt) (hP : P.flash = true) :
    s.HouseTouches P es l (t.modFlash f) := h.parts (by simp [State.withHouse, State.modFlash, hP]) fun _ _ => rfl

theorem State.HouseTouches.modReh (h : s.HouseTouches P es l t) (f : RehSt → RehSt) (hP : P.reh = true) :
    s.HouseTouches P es l (t.modReh f) := h.parts (by simp [State.withHouse, State.modReh, hP]) fun _ _ => rfl

theorem State.HouseTouches.setSecurity (h : s.HouseTouches P es l t) (x : SecSt) (hP : P.security = true) :
    s.HouseTouches P es l { t with security := x } := h.parts (by simp [State.withHouse, hP]) fun _ _ => rfl

theorem State.HouseTouches.viol (h : s.HouseTouches P es l t) {p : Page} (k : Viol) (hp : pageAddr p (violFld k).off ∈ l) :
    s.HouseTouches P es l (t.viol p k) :=
  h.trans (.of_touches ⟨(State.Frame.refl t _).viol p k (.inl hp), (State.SameRest.refl t).viol p k⟩)

theorem State.HouseTouches.rstReg (h : s.HouseTouches P es l t) {p : Page} {off : Nat} (k : pageAddr p off ∈ l) :
    s.HouseTouches P es l (t.rstReg p off) := h.wr _ k

theorem State.HouseTouches.setDevice (h : s.HouseTouches P es l t) (d : Device) (hP : P.device = true) :
    s.HouseTouches P es l { t with device := d } := h.parts (by simp [State.withHouse, hP]) fun _ _ => rfl

theorem State.HouseTouches.setEng (h : s.HouseTouches P es l t) (v : EngSt) (hP : P.engines = true) (he : e ∈ es) :
    s.HouseTouches P es l (t.setEng e v) :=
  h.parts (by simp [State.withHouse, State.setEng, hP]) fun d hd => by
    have hne : d.val ≠ e.val := fun hv => hd (Fin.ext hv ▸ he)
    exact tabGet_tabSet_ne _ _ _ _ _ hne

theorem State.HouseTouches.modEng (h : s.HouseTouches P es l t) (f : EngSt → EngSt) (hP : P.engines = true) (he : e ∈ es) :
    s.HouseTouches P es l (t.modEng e f) := h.setEng _ hP he

theorem State.HouseTouches.setGrp (h : s.HouseTouches P es l t) (g : Grp) (v : GroupSt) (hP : P.groups = true) :
    s.HouseTouches P es l (t.setGrp g v) := h.parts (by simp [State.withHouse, State.setGrp, hP]) fun _ _ => rfl

theorem State.HouseTouches.modPath (h : s.HouseTouches P es l t) (p : Path) (f : PathSt → PathSt) (hP : P.paths = true) :
    s.HouseTouches P es l (t.modPath p f) :=
  h.parts (by simp [State.withHouse, State.modPath, State.setPath, hP]) fun _ _ => rfl

theorem State.HouseTouches.draw (h : s.HouseTouches P es l t) (hP : P.free = true) : s.HouseTouches P es l t.draw.2 :=
  h.parts (by simp [State.withHouse, State.draw, hP]) fun _ _ => rfl

/-- A change of the device's state brings ATTN_STAT with it. -/
theorem State.HouseTouches.toDevice (h : s.HouseTouches P es l t) (d : Device) (hP : P.device = true) :
    s.HouseTouches P es l (t.toDevice d) := by
  refine (h.setDevice d hP).trans (.of_touches ?_)
  obtain ⟨hrd, hmem, hrest⟩ := State.attnUpdate_spec { t with device := d } t.attnView
  exact ⟨⟨fun a _ ha => hrd a fun e => ha (by rw [e]; decide), fun a _ => by rw [State.mget, State.toDevice, State.withEvt, hmem, State.mget]⟩,
    hrest⟩

/-! ### The supplies (R334 to R344) -/

/-- The registers of the SUPPLY page that a change of an input touches: EVT_RAW, SUP_STAT and SUP_CNT. -/
def inputRegs : List Nat := regsOf .supply [0x010, 0x048, 0x054]

theorem goodFld_mem (b : Bool) : pageAddr .supply (goodFld b).off ∈ inputRegs := by cases b <;> decide
theorem seenFld_mem (b : Bool) : pageAddr .supply (seenFld b).off ∈ inputRegs := by cases b <;> decide
theorem lossFld_mem (b : Bool) : pageAddr .supply (lossFld b).off ∈ inputRegs := by cases b <;> decide

theorem State.switchTo_touches (s : State) (b : Bool) : s.HouseTouches P es inputRegs (s.switchTo b) := by
  unfold State.switchTo
  refine .ite (.refl P es _ s) ?_
  have hsel := ((State.HouseTouches.refl P es inputRegs s).setF (p := .supply) (x := SupplyR.SUP_STAT_SEL) (b2n b) (by decide)).setF
    (p := .supply) (x := SupplyR.SUP_STAT_RET_WAIT) (if b then s.f .supply SupplyR.SUP_STAT_RET_WAIT else 0) (by decide)
  exact .ite ((hsel.inc (by decide)).raise _ (by decide)) hsel

theorem State.inputGone_touches (s : State) (b : Bool) : s.HouseTouches P es inputRegs (s.inputGone b) := by
  have hgone := (State.HouseTouches.refl P es inputRegs s).setF (p := .supply) (x := goodFld b) 0 (goodFld_mem b)
  have hwait := State.HouseTouches.ite (c := b = true) hgone (hgone.setF (p := .supply) (x := SupplyR.SUP_STAT_RET_WAIT) 0 (by decide))
  unfold State.inputGone
  exact .ite (hwait.trans (State.switchTo_touches _ _)) hwait

theorem State.inputLost_touches (s : State) (b : Bool) : s.HouseTouches P es inputRegs (s.inputLost b) := by
  have h := State.HouseTouches.refl P es inputRegs s
  unfold State.inputLost
  refine .ite (.ite h (h.setF _ (by decide))) ?_
  exact (State.HouseTouches.ite ((h.inc (lossFld_mem b)).raise _ (by decide)) h).trans (State.inputGone_touches _ b)

theorem State.inputQual_touches (s : State) (b : Bool) : s.HouseTouches P es (regsOf .supply [0x048]) (s.inputQual b) :=
  have h := State.HouseTouches.refl P es (regsOf .supply [0x048]) s
  .ite h (h.setF _ (by decide))

/-- The registers that an input that becomes good may touch: at a power-up also RAIL_STAT. -/
theorem State.inputGood_touches (s : State) (b : Bool) :
    s.HouseTouches P es (regsOf .supply [0x010, 0x048, 0x054, 0x058]) (s.inputGood b) := by
  have hwide : ∀ a ∈ inputRegs, a ∈ regsOf .supply [0x010, 0x048, 0x054, 0x058] := regsOf_mono (by decide)
  have h := State.HouseTouches.refl P es (regsOf .supply [0x010, 0x048, 0x054, 0x058]) s
  have hseen := (h.setF 1 (hwide _ (goodFld_mem b))).setF 1 (hwide _ (seenFld_mem b))
  have hswitch : ∀ v, s.HouseTouches P es (regsOf .supply [0x010, 0x048, 0x054, 0x058]) (State.switchTo _ v) :=
    fun v => hseen.trans ((State.switchTo_touches _ v).mono hwide)
  unfold State.inputGood
  refine .ite h (.ite ?_ (.ite hseen (.ite (hswitch b) (.ite (.ite (hswitch true) hseen) (hseen.setF _ (by decide))))))
  exact ((hseen.setF _ (by decide)).setF _ (by decide)).setF _ (by decide)

theorem State.returnExpiry_touches (s : State) : s.HouseTouches P es inputRegs s.returnExpiry :=
  .ite (s.switchTo_touches false) (.refl P es _ s)

theorem State.testStart_touches (s : State) (hP : P.supply = true) : s.HouseTouches P es l s.testStart :=
  have h := State.HouseTouches.refl P es l s
  .ite h (h.modSupply _ hP)

theorem State.energyUpdate_touches (s : State) (vina vinb pin hup : BitVec 16) :
    s.HouseTouches P es (regsOf .supply [0x010, 0x04C, 0x050, 0x068]) (s.energyUpdate vina vinb pin hup) := by
  have h := State.HouseTouches.refl P es (regsOf .supply [0x010, 0x04C, 0x050, 0x068]) s
  unfold State.energyUpdate
  refine .ite h ?_
  have hmeas := (((h.setF (p := .supply) (x := SupplyR.SUP_VIN_VINA) vina.toNat (by decide)).setF (p := .supply) (x := SupplyR.SUP_VIN_VINB)
    vinb.toNat (by decide)).setF (p := .supply) (x := SupplyR.SUP_PWR_P_IN) pin.toNat (by decide)).setF (p := .supply)
    (x := SupplyR.SUP_PWR_HUP) hup.toNat (by decide)
  exact (hmeas.setF _ (by decide)).raiseIf _ _ (by decide)

theorem State.flashWrite_touches (s : State) (a : Nat) (bs : List Byte) (hP : P.flash = true) :
    s.HouseTouches P es l (s.flashWrite a bs) :=
  (State.HouseTouches.refl P es l s).foldl _ fun _ _ v => (State.HouseTouches.refl P es l v).modFlash _ hP

theorem State.flashCut_touches (s : State) (hP : P.flash = true) : s.HouseTouches P es l s.flashCut :=
  ((State.HouseTouches.refl P es l s).modFlash _ hP).modFlash _ hP

theorem State.fallWrite_touches (s : State) (hup : BitVec 16) (cut : Bool) (hP : P.flash = true) :
    s.HouseTouches P es l (s.fallWrite hup cut) := by
  unfold State.fallWrite
  split
  · exact .refl P es l s
  · exact State.flashWrite_touches _ _ _ hP

theorem State.fallRecord_touches (s : State) (hup : BitVec 16) (hF : P.flash = true) (hS : P.supply = true) (hD : P.device = true) :
    s.HouseTouches P es (regsOf .supply [0x058]) (s.fallRecord hup) := by
  have h := State.HouseTouches.refl P es (regsOf .supply [0x058]) s
  unfold State.fallRecord
  refine .ite h ?_
  have hwritten := (State.HouseTouches.ite (c := s.flash.run.isSome = true) (s.flashCut_touches hF) h).trans
    (State.fallWrite_touches _ hup s.flash.run.isSome hF)
  exact ((hwritten.setF _ (by decide)).toDevice _ hD).setSupply _ hS

theorem State.vkaLost_touches (s : State) (hS : P.supply = true) (hD : P.device = true) :
    s.HouseTouches P es (regsOf .supply [0x058]) s.vkaLost := by
  have h := State.HouseTouches.refl P es (regsOf .supply [0x058]) s
  have hrails := h.setF (p := .supply) (x := SupplyR.RAIL_STAT_IN_WIN) 0 (by decide)
  unfold State.vkaLost
  exact .ite ((hrails.setDevice .off hD).setSupply _ hS) (.ite (h.modSupply _ hS) h)

/-! ### The twin link (R309 to R330) -/

/-- The registers that the roles of the twin and the end of holdover touch. -/
def roleRegs : List Nat := regsOf .twin [0x010, 0x044, 0x07C] ++ regsOf .time [0x010, 0x050, 0x058]

theorem State.holdoverEnd_touches (s : State) : s.HouseTouches P es roleRegs s.holdoverEnd := by
  have h := State.HouseTouches.refl P es roleRegs s
  unfold State.holdoverEnd
  exact .ite (((h.setF _ (by decide)).setF _ (by decide)).raise _ (by decide)) h

theorem State.setSrc_touches (s : State) (v : Nat) : s.HouseTouches P es roleRegs (s.setSrc v) := by
  have h := State.HouseTouches.refl P es roleRegs s
  have hsrc := h.setF (p := .time) (x := TimeR.TIME_CTL_SRC) v (by decide)
  exact .ite h (.ite (hsrc.trans (State.holdoverEnd_touches _)) hsrc)

theorem State.enterFollow_touches (s : State) : s.HouseTouches P es roleRegs s.enterFollow := by
  have h := ((State.HouseTouches.refl P es roleRegs s).setF (p := .time) (x := TimeR.TIME_STAT_ARMED) 1 (by decide)).setF
    (p := .twin) (x := TwinR.TT_STAT_STEPPED) 0 (by decide)
  exact .ite (h.trans (State.setSrc_touches _ 2)) h

theorem State.leaveFollow_touches (s : State) : s.HouseTouches P es roleRegs s.leaveFollow :=
  ((State.HouseTouches.refl P es roleRegs s).setF _ (by decide)).trans (State.setSrc_touches _ _)

theorem State.setRole_touches (s : State) (r : Nat) : s.HouseTouches P es roleRegs (s.setRole r) := by
  have h := State.HouseTouches.refl P es roleRegs s
  have hrole := ((h.setF (p := .twin) (x := TwinR.TWIN_STAT_ROLE) r (by decide)).inc (p := .twin) (x := TwinR.TWIN_STAT_ROLE_CHANGES)
    (by decide)).raise (p := .twin) 0 (by decide)
  exact .ite h (.ite (hrole.trans (State.enterFollow_touches _)) (.ite (hrole.trans (State.leaveFollow_touches _)) hrole))

theorem State.promote_touches (s : State) : s.HouseTouches P es roleRegs s.promote := .ite (s.setRole_touches 1) (.refl P es _ s)

theorem State.setSd_touches (s : State) (v : Nat) (hP : P.twin = true) : s.HouseTouches P es (regsOf .twin [0x054]) (s.setSd v) := by
  have h := (State.HouseTouches.refl P es (regsOf .twin [0x054]) s).setF (p := .twin) (x := TwinR.SD_STAT_SD_STATE) v (by decide)
  exact .ite (h.modTwin _ hP) h

/-- The registers that a hello may touch. -/
def helloRegs : List Nat :=
  regsOf .twin [0x010, 0x044, 0x048, 0x04C, 0x054, 0x07C, 0x084] ++ regsOf .time [0x010, 0x050, 0x058]

theorem roleRegs_sub_helloRegs : ∀ a ∈ roleRegs, a ∈ helloRegs := by decide
theorem sdStat_sub_helloRegs : ∀ a ∈ regsOf .twin [0x054], a ∈ helloRegs := by decide

theorem State.conflict_touches (s : State) : s.HouseTouches P es helloRegs s.conflict := by
  have h := State.HouseTouches.refl P es helloRegs s
  have hstate := (((h.setF (p := .twin) (x := TwinR.TWIN_STAT_STATE) twConflict (by decide)).setF (p := .twin)
    (x := TwinR.TWIN_STAT_ROLE) 0 (by decide)).setF (p := .twin) (x := TwinR.TWIN_STAT_SYNCING) 0 (by decide)).raise (p := .twin) 20
    (by decide)
  exact .ite h (.ite (hstate.trans ((State.leaveFollow_touches _).mono roleRegs_sub_helloRegs)) hstate)

theorem State.joinReentry_touches (s : State) (h : TwinHello) (before : Nat) (hP : P.twin = true) :
    s.HouseTouches P es helloRegs (s.joinReentry h before) :=
  .ite ((s.setSd_touches 3 hP).mono sdStat_sub_helloRegs) (.refl P es _ s)

theorem State.enterPaired_touches (s : State) (h : TwinHello) (before : Nat) (hP : P.twin = true) :
    s.HouseTouches P es helloRegs (s.enterPaired h before) := by
  have hstate := (State.HouseTouches.refl P es helloRegs s).setF (p := .twin) (x := TwinR.TWIN_STAT_STATE) twPaired (by decide)
  have hpaired := ((hstate.trans ((State.setRole_touches _ (s.roleFrom h)).mono roleRegs_sub_helloRegs)).raise (p := .twin) 1
    (by decide)).modTwin (fun x => { x with paired := true }) hP
  have hsd : ∀ v, s.HouseTouches P es helloRegs (State.setSd _ v) :=
    fun v => hpaired.trans ((State.setSd_touches _ v hP).mono sdStat_sub_helloRegs)
  unfold State.enterPaired
  exact .ite (.ite (hsd 2) (hsd 3)) (hpaired.trans (State.joinReentry_touches _ h before hP))

theorem State.peerIs_touches (s : State) (h : TwinHello) : s.HouseTouches P es helloRegs (s.peerIs h) := by
  have hserial := (((State.HouseTouches.refl P es helloRegs s).setF (p := .twin) (x := TwinR.PEER_SERIAL_HI_SERIAL)
    (h.serial.toNat / 2 ^ 32) (by decide)).setF (p := .twin) (x := TwinR.PEER_SERIAL_LO_SERIAL) h.serial.toNat (by decide)).setF
    (p := .twin) (x := TwinR.TWIN_STAT_PEER_SD) h.sd.toNat (by decide)
  have hid := hserial.setF (p := .twin) (x := TwinR.TWIN_STAT_PEER_TWIN_ID) (b2n h.id) (by decide)
  unfold State.peerIs
  exact (hid.setF _ (by decide)).raiseIf _ _ (by decide)

theorem State.twinHello_touches (s : State) (h : TwinHello) (resends : Nat) (hP : P.twin = true) :
    s.HouseTouches P es helloRegs (s.twinHello h resends) := by
  have hrefl := State.HouseTouches.refl P es helloRegs s
  have hpeer := (hrefl.setF (p := .twin) (x := TwinR.LINK_CNT_RESENDS)
    (satNat (fldTop TwinR.LINK_CNT_RESENDS) (s.f .twin TwinR.LINK_CNT_RESENDS + resends)) (by decide)).trans
    (State.peerIs_touches _ h)
  unfold State.twinHello
  refine .ite hrefl (.ite (hpeer.trans (State.conflict_touches _)) (.ite hpeer (.ite ?_ (.ite ?_ hpeer))))
  · exact (State.HouseTouches.ite (hpeer.trans ((State.setRole_touches _ 1).mono roleRegs_sub_helloRegs)) hpeer).trans
      (State.joinReentry_touches _ h _ hP)
  · exact hpeer.trans (State.enterPaired_touches _ h _ hP)

/-- The registers that the link and the heartbeat touch. -/
def linkRegs : List Nat := regsOf .twin [0x010, 0x044, 0x080, 0x084]

theorem State.twSettle_touches (s : State) : s.HouseTouches P es (regsOf .twin [0x044]) s.twSettle := by
  have h := State.HouseTouches.refl P es (regsOf .twin [0x044]) s
  unfold State.twSettle
  exact .ite (.ite h (.ite (h.setF _ (by decide)) (h.setF _ (by decide)))) h

theorem State.twinUp_touches (s : State) : s.HouseTouches P es (regsOf .twin [0x080]) s.twinUp := by
  have h := State.HouseTouches.refl P es (regsOf .twin [0x080]) s
  exact .ite ((h.setF _ (by decide)).setF _ (by decide)) h

theorem State.twinDown_touches (s : State) (lanes : BitVec 4) (message : Bool) : s.HouseTouches P es linkRegs (s.twinDown lanes message) := by
  have h := State.HouseTouches.refl P es linkRegs s
  have hresent := State.HouseTouches.ite (c := message = true) (h.setF (p := .twin) (x := TwinR.LINK_CNT_RESENDS)
    (satNat (fldTop TwinR.LINK_CNT_RESENDS) (s.f .twin TwinR.LINK_CNT_RESENDS + 3)) (by decide)) h
  have hdown := ((hresent.setF (p := .twin) (x := TwinR.LINK_STAT_LINK_UP) 0 (by decide)).setF (p := .twin)
    (x := TwinR.LINK_STAT_LANE_LOCK) lanes.toNat (by decide)).setF (p := .twin) (x := TwinR.TWIN_STAT_SYNCING) 0 (by decide)
  have hsettled := (hdown.inc (p := .twin) (x := TwinR.LINK_CNT_LOSSES) (by decide)).trans
    ((State.twSettle_touches _).mono (m := linkRegs) (by decide))
  exact .ite h (hsettled.raise 17 (by decide))

theorem State.hbLost_touches (s : State) : s.HouseTouches P es linkRegs s.hbLost := by
  have h := State.HouseTouches.refl P es linkRegs s
  have hlost := (h.setF (p := .twin) (x := TwinR.LINK_STAT_HB_OK) 0 (by decide)).inc (p := .twin) (x := TwinR.LINK_CNT_HB_LOSSES) (by decide)
  exact .ite h ((hlost.trans ((State.twSettle_touches _).mono (m := linkRegs) (by decide))).raise 16 (by decide))

theorem State.hbPresent_touches (s : State) : s.HouseTouches P es (regsOf .twin [0x044, 0x080]) s.hbPresent := by
  have h := State.HouseTouches.refl P es (regsOf .twin [0x044, 0x080]) s
  exact .ite ((h.setF _ (by decide)).trans ((State.twSettle_touches _).mono (regsOf_mono (by decide)))) h

theorem State.twinSend_touches (s : State) (item : BitVec 3) (hP : P.twin = true) : s.HouseTouches P es l (s.twinSend item) := by
  have h := State.HouseTouches.refl P es l s
  exact .ite h (h.modTwin _ hP)

theorem State.transferLost_touches (s : State) (hP : P.time = true) :
    s.HouseTouches P es (regsOf .twin [0x010, 0x07C] ++ regsOf .time [0x010, 0x058]) s.transferLost := by
  have h := State.HouseTouches.refl P es (regsOf .twin [0x010, 0x07C] ++ regsOf .time [0x010, 0x058]) s
  have hbegin : ∀ v : State, v.HouseTouches P es (regsOf .twin [0x010, 0x07C] ++ regsOf .time [0x010, 0x058]) v.holdoverBegin := by
    intro v
    obtain ⟨hframe, hrest⟩ := v.holdoverBegin_touches
    have hset := (State.HouseTouches.refl P es (regsOf .twin [0x010, 0x07C] ++ regsOf .time [0x010, 0x058]) v).parts
      (u := { v with time := v.holdoverBegin.time }) (by simp [State.withHouse, hP]) fun _ _ => rfl
    refine ⟨hframe.mono fun a ha => List.mem_append_right _ ha, ?_, ?_⟩
    all_goals
      simp only [State.SameRest] at hrest
      simp [State.SameRest, State.withHouse, State.engRec, hrest, hP]
  unfold State.transferLost
  exact .ite (.ite (((h.setF _ (by decide)).trans (hbegin _)).raise _ (by decide)) (hbegin s)) h

/-! ### Reports of the twin (R316, R317, R324) -/

/-- The registers of the comparisons of pins and of configuration. -/
def compareRegs : List Nat := regsOf .twin [0x010, 0x060, 0x064, 0x068, 0x06C]

theorem State.setLpBit_touches (s : State) {off : Nat} (hoff : off = 0x060 ∨ off = 0x068) (n : Lane) (b : Bool) :
    s.HouseTouches P es compareRegs (s.setLpBit off n b) := by
  refine (State.HouseTouches.refl P es compareRegs s).wr _ ?_
  rcases hoff with rfl | rfl <;> split <;> decide

theorem State.cfgReport_touches (s : State) (p : Path) (c : TwinCfg) (hP : P.twin = true) :
    s.HouseTouches P es compareRegs (s.cfgReport p c) := by
  have h := State.HouseTouches.refl P es compareRegs s
  have htaken := h.modTwin (fun x => { x with cfg := tabSet (fun _ => none) x.cfg p.val (some c) }) hP
  unfold State.cfgReport
  exact .ite h (.ite htaken ((htaken.trans (State.setLpBit_touches _ (.inr rfl) _ _)).raiseIf _ _ (by decide)))

theorem State.coefReport_touches (s : State) (p : Path) (c : TwinCoef) (hP : P.twin = true) : s.HouseTouches P es l (s.coefReport p c) := by
  have h := State.HouseTouches.refl P es l s
  exact .ite h (h.modTwin _ hP)

theorem State.judgeWindow_touches (s : State) (p : Path) (matched : Bool) (hP : P.twin = true) :
    s.HouseTouches P es compareRegs (s.judgeWindow p matched) := by
  unfold State.judgeWindow
  extract_lets run x old up judged now counted n was bit
  have hcounted : s.HouseTouches P es compareRegs counted := (State.HouseTouches.refl P es _ s).modTwin _ hP
  exact (hcounted.trans (State.setLpBit_touches _ (.inl rfl) _ _)).raiseIf _ _ (by decide)

theorem State.pinReport_touches (s : State) (p : Path) (meas held : Word) (st : BitVec 3) (hP : P.twin = true) :
    s.HouseTouches P es (regsOf (pp p) [0x2F8] ++ compareRegs) (s.pinReport p meas held st) := by
  have h := State.HouseTouches.refl P es (regsOf (pp p) [0x2F8] ++ compareRegs) s
  have hpin : pageAddr (pp p) 0x2F8 ∈ regsOf (pp p) [0x2F8] ++ compareRegs := List.mem_append_left _ (mem_regsOf (by decide))
  have htaken := h.modTwin (fun x => { x with pins := tabSet (fun _ => (0, 0, 0)) x.pins p.val (meas.toNat, st.toNat, held.toNat) }) hP
  unfold State.pinReport
  refine .ite h (.ite ?_ ((htaken.setF (x := PathR.PIN_TWIN_VALID) 0 hpin).modTwin _ hP))
  have hjudged : ∀ (v : State) (b : Bool), v.HouseTouches P es (regsOf (pp p) [0x2F8] ++ compareRegs) (v.judgeWindow p b) :=
    fun v b => (v.judgeWindow_touches p b hP).mono fun a ha => List.mem_append_right _ ha
  exact ((htaken.setF (x := PathR.PIN_TWIN_DIFF) _ hpin).setF (x := PathR.PIN_TWIN_VALID) 1 hpin).trans (hjudged _ _)

/-! ### Re-entrance (R329) -/

theorem State.reenterDone_touches (s : State) (hP : P.twin = true) : s.HouseTouches P es (regsOf .twin [0x010, 0x054]) s.reenterDone :=
  .ite (((s.setSd_touches 0 hP).mono (regsOf_mono (by decide))).raise 4 (by decide)) (.refl P es _ s)

theorem State.reenterTimeout_touches (s : State) (hP : P.twin = true) :
    s.HouseTouches P es (regsOf .twin [0x010, 0x054]) s.reenterTimeout :=
  .ite ((((s.setSd_touches 2 hP).mono (regsOf_mono (by decide))).setF _ (by decide)).raise 21 (by decide)) (.refl P es _ s)

/-! ### The queues of an engine (R290 to R297) -/

/-- The registers of an engine's page that its command queue touches: EVT_RAW and ENG_CNT. -/
def queueRegs (e : Eng) : List Nat := regsOf (ep e) [0x010, 0x060]

theorem evtRaw_mem_queueRegs (e : Eng) : pageAddr (ep e) 0x010 ∈ queueRegs e := mem_regsOf (by decide)
theorem engCnt_mem_queueRegs (e : Eng) : pageAddr (ep e) StageR.ENG_CNT_COMMANDS.off ∈ queueRegs e := mem_regsOf (by decide)

theorem State.releaseLong_touches (s : State) (e : Eng) (hG : P.groups = true) : s.HouseTouches P [e] l (s.releaseLong e) :=
  (State.HouseTouches.refl P _ _ s).foldl _ fun g _ v =>
    have hv := State.HouseTouches.refl P [e] l v
    .ite (hv.setGrp g _ hG) hv

section Queue
variable (hE : P.engines = true)
include hE

theorem State.postAnswer_touches (s : State) (e : Eng) (r : BitVec 128) : s.HouseTouches P [e] (queueRegs e) (s.postAnswer e r) := by
  have h := State.HouseTouches.refl P [e] (queueRegs e) s
  unfold State.postAnswer
  exact .ite ((h.setEng _ hE List.mem_cons_self).raise 1 (evtRaw_mem_queueRegs e)) (h.setEng _ hE List.mem_cons_self)

theorem State.answerCmd_touches (s : State) (e : Eng) (c : BitVec 128) (epoch status detail : Nat) (r0 r1 : Word) :
    s.HouseTouches P [e] (queueRegs e) (s.answerCmd e c epoch status detail r0 r1) := by
  have hposted := State.postAnswer_touches hE s e (s.answerWord e c epoch status detail r0 r1)
  unfold State.answerCmd
  exact .ite hposted (hposted.inc (engCnt_mem_queueRegs e))

theorem State.cmdPop_touches (s : State) (e : Eng) : s.HouseTouches P [e] l (s.cmdPop e) :=
  (State.HouseTouches.refl P [e] l s).modEng _ hE List.mem_cons_self

theorem State.cmdSkip_touches (e : Eng) (n : Nat) (s : State) : s.HouseTouches P [e] (queueRegs e) (State.cmdSkip e n s) := by
  induction n generalizing s with
  | zero => exact .refl P _ _ s
  | succ n ih =>
    unfold State.cmdSkip
    split
    · exact .ite (((s.cmdPop_touches hE e).trans (State.answerCmd_touches hE _ e _ _ _ _ _ _)).trans (ih _)) (.refl P _ _ s)
    · exact .refl P _ _ s

theorem State.cmdHead_touches (s : State) (e : Eng) (op : Nat) : s.HouseTouches P [e] (queueRegs e) (s.cmdHead e op).1 := by
  have h := State.cmdSkip_touches hE e (s.engRec e).cmdq.length s
  unfold State.cmdHead
  dsimp only
  split
  · split <;> exact h
  · exact h

/-- A command that is served touches what its own effect touches, beside the queue. -/
theorem State.cmdServe_touches (s : State) (e : Eng) (op : Nat) {f : State → BitVec 128 → Nat → State}
    (hf : ∀ (v : State) (c : BitVec 128) (n : Nat), v.HouseTouches P [e] (queueRegs e) (f v c n)) :
    s.HouseTouches P [e] (queueRegs e) (s.cmdServe e op f) := by
  have hhead := State.cmdHead_touches hE s e op
  unfold State.cmdServe
  dsimp only
  split
  · exact hhead
  · have hpopped := hhead.trans (State.cmdPop_touches hE _ e)
    split
    · exact hpopped.trans (State.answerCmd_touches hE _ e _ _ _ _ _ _)
    · split
      · exact hpopped.trans (State.answerCmd_touches hE _ e _ _ _ _ _ _)
      · exact hpopped.trans (hf _ _ _)

theorem State.cmdStarted_touches (s : State) (e : Eng) (c : BitVec 128) (n : Nat) :
    s.HouseTouches P [e] (queueRegs e) (s.cmdStarted e c n) :=
  ((State.HouseTouches.refl P [e] _ s).modEng _ hE List.mem_cons_self).trans (State.answerCmd_touches hE _ e _ _ _ _ _ _)

theorem State.cmdPing_touches (s : State) (e : Eng) (hF : P.free = true) : s.HouseTouches P [e] (queueRegs e) (s.cmdPing e) :=
  State.cmdServe_touches hE s e _ fun v _ _ =>
    ((State.HouseTouches.refl P _ _ v).draw hF).trans (State.answerCmd_touches hE _ e _ _ _ _ _ _)

theorem State.cmdSearch_touches (s : State) (e : Eng) : s.HouseTouches P [e] (queueRegs e) (s.cmdSearch e) :=
  State.cmdServe_touches hE s e _ fun v c n => v.cmdStarted_touches hE e c n

theorem State.cmdEye_touches (s : State) (e : Eng) (hG : P.groups = true) : s.HouseTouches P [e] (queueRegs e) (s.cmdEye e) := by
  refine State.cmdServe_touches hE s e _ fun v c n => ?_
  have hheld : v.HouseTouches P [e] (queueRegs e) (match targetGrp (cmdTarget c) with
      | some g => v.setGrp g { v.grp g with cap := some (128 + e.val) }
      | none => v) := by
    split
    · exact (State.HouseTouches.refl P _ _ v).setGrp _ _ hG
    · exact .refl P _ _ v
  exact hheld.trans (State.cmdStarted_touches hE _ e c n)

theorem State.cmdSweep_touches (s : State) (e : Eng) (hP : P.paths = true) : s.HouseTouches P [e] (queueRegs e) (s.cmdSweep e) := by
  refine State.cmdServe_touches hE s e _ fun v c n => ?_
  have hswept : v.HouseTouches P [e] (queueRegs e) (forAll (cmdPaths c) (fun p s => s.sweepBegin p) v) :=
    (State.HouseTouches.refl P _ _ v).foldl _ fun p _ w =>
      have hw := State.HouseTouches.refl P [e] (queueRegs e) w
      .ite hw (hw.modPath p _ hP)
  exact hswept.trans (State.cmdStarted_touches hE _ e c n)

theorem State.heartbeat_touches (s : State) (e : Eng) (ckpt : Option (BitVec 14)) : s.HouseTouches P [e] l (s.heartbeat e ckpt) := by
  have h := State.HouseTouches.refl P [e] l s
  unfold State.heartbeat
  refine .ite h ?_
  dsimp only
  split
  · exact h.setEng _ hE List.mem_cons_self
  · exact h.setEng _ hE List.mem_cons_self

theorem State.cmdCheckpoint_touches (s : State) (e : Eng) (size : BitVec 14) :
    s.HouseTouches P [e] (queueRegs e) (s.cmdCheckpoint e size) :=
  State.cmdServe_touches hE s e _ fun v _ _ =>
    (v.heartbeat_touches hE e _).trans (State.answerCmd_touches hE _ e _ _ _ _ _ _)

theorem State.notice_touches (s : State) (e : Eng) (code : Nat) (r0 r1 : Word) (ev : Bool) :
    s.HouseTouches P [e] (regsOf (ep e) [0x010, 0x0B0]) (s.notice e code r0 r1 ev) := by
  have h := State.HouseTouches.refl P [e] (regsOf (ep e) [0x010, 0x0B0]) s
  unfold State.notice
  exact .ite ((h.setEng _ hE List.mem_cons_self).raiseIf _ _ (mem_regsOf (by decide))) (h.inc (mem_regsOf (by decide)))

theorem State.abortLong_touches (s : State) (e : Eng) (hG : P.groups = true) (hF : P.free = true) :
    s.HouseTouches P [e] (queueRegs e) (s.abortLong e) := by
  have hdrawn := (State.HouseTouches.refl P [e] (queueRegs e) s).draw hF
  unfold State.abortLong State.endLong
  dsimp only
  split
  · exact hdrawn
  · exact ((hdrawn.modEng _ hE List.mem_cons_self).trans (State.releaseLong_touches _ e hG)).trans
      (State.answerCmd_touches hE _ e _ _ _ _ _ _)

theorem State.cmdAbort_touches (s : State) (e : Eng) (hG : P.groups = true) (hF : P.free = true) :
    s.HouseTouches P [e] (queueRegs e) (s.cmdAbort e) := by
  refine State.cmdServe_touches hE s e _ fun v c n => ?_
  have hanswer : ∀ (w : State) (d : BitVec 128) (epoch status detail : Nat),
      w.HouseTouches P [e] (queueRegs e) (w.answerCmd e d epoch status detail 0 0) := fun w _ _ _ _ => w.answerCmd_touches hE e _ _ _ _ _ _
  refine .ite ((v.abortLong_touches hE e hG hF).trans (hanswer _ _ _ _ _)) ?_
  split
  · exact (((State.HouseTouches.refl P _ _ v).setEng _ hE List.mem_cons_self).trans (hanswer _ _ _ _ _)).trans (hanswer _ _ _ _ _)
  · exact hanswer _ _ _ _ _

theorem State.cmdFlush_touches (s : State) (e : Eng) (hG : P.groups = true) (hF : P.free = true) :
    s.HouseTouches P [e] (queueRegs e) (s.cmdFlush e) := by
  refine State.cmdServe_touches hE s e _ fun v c n => ?_
  have hemptied := (v.abortLong_touches hE e hG hF).modEng (fun x => { x with cmdq := [] }) hE List.mem_cons_self
  have hanswered := hemptied.foldl (f := fun s d => s.answerCmd e d (s.cmdGrpEpoch d) 7 0 0 0) (v.engRec e).cmdq fun d _ w =>
    w.answerCmd_touches hE e d _ _ _ _ _
  exact hanswered.trans (State.answerCmd_touches hE _ e _ _ _ _ _ _)

end Queue

/-- What a command at the queues of one engine leaves alone. -/
theorem State.HouseTouches.one (h : s.HouseTouches P [e] l t) :
    s.Frame l t ∧ (s.withHouse P t).SameRest t ∧ ∀ d, d ≠ e → t.engRec d = s.engRec d :=
  ⟨h.1, h.2.1, fun d hd => h.2.2 d (by simpa using hd)⟩

/-- What the command leaves alone, without the engines' records. -/
theorem State.HouseTouches.frame (h : s.HouseTouches P es l t) : s.Frame l t ∧ (s.withHouse P t).SameRest t := ⟨h.1, h.2.1⟩

end Sys2Proof.Machine

open Sys2Proof Sys2Proof.Machine

/-- Settles O46: each command's operation touches the registers of its clause, and of the rest only the parts that the clause names. -/
theorem supplyFrame : Obligations.SupplyFrame := by
  refine ⟨fun b s => ⟨_, rfl, ?_⟩, fun b s => ⟨_, rfl, ?_⟩, fun b s => ⟨_, rfl, ?_⟩, fun s => ⟨_, rfl, ?_⟩, fun s => ⟨_, rfl, ?_⟩,
    fun vina vinb pin hup s => ⟨_, rfl, ?_⟩, fun hup s => ⟨_, rfl, ?_⟩, fun s => ⟨_, rfl, ?_⟩⟩
  · exact ((s.inputGood_touches (P := { supply := true }) (es := []) b).mono (regsOf_mono (by decide))).frame
  · exact ((s.inputLost_touches (P := { supply := true }) (es := []) b).mono (regsOf_mono (by decide))).frame
  · exact (s.inputQual_touches (P := { supply := true }) (es := []) b).frame
  · exact (s.returnExpiry_touches (P := { supply := true }) (es := [])).frame
  · exact (s.testStart_touches (P := { supply := true }) (es := []) rfl).frame
  · exact (s.energyUpdate_touches (P := {}) (es := []) vina vinb pin hup).frame
  · exact (s.fallRecord_touches (P := { flash := true, supply := true, device := true }) (es := []) hup rfl rfl rfl).frame
  · exact (s.vkaLost_touches (P := { supply := true, device := true }) (es := []) rfl rfl).frame

/-- Settles O45: each command's operation touches the registers of its clause, and of the rest only the parts that the clause names. -/
theorem twinFrame : Obligations.TwinFrame := by
  refine ⟨fun s => ⟨_, rfl, ?_⟩, fun lanes message s => ⟨_, rfl, ?_⟩, fun item s => ⟨_, rfl, ?_⟩, fun h resends s => ⟨_, rfl, ?_⟩,
    fun p meas held st s => ⟨_, rfl, ?_⟩, fun p cfg s => ⟨_, rfl, ?_⟩, fun p coef s => ⟨_, rfl, ?_⟩, fun s => ⟨_, rfl, ?_⟩,
    fun s => ⟨_, rfl, ?_⟩, fun s => ⟨_, rfl, ?_⟩, fun s => ⟨_, rfl, ?_⟩, fun s => ⟨_, rfl, ?_⟩, fun s => ⟨_, rfl, ?_⟩⟩
  · exact (s.twinUp_touches (P := {}) (es := [])).frame
  · exact (s.twinDown_touches (P := { twin := true }) (es := []) lanes message).frame
  · exact (s.twinSend_touches (P := { twin := true }) (es := []) item rfl).frame
  · exact (s.twinHello_touches (P := { twin := true }) (es := []) h _ rfl).frame
  · exact (s.pinReport_touches (P := { twin := true }) (es := []) p meas held st rfl).frame
  · exact (s.cfgReport_touches (P := { twin := true }) (es := []) p cfg rfl).frame
  · exact (s.coefReport_touches (P := { twin := true }) (es := []) p coef rfl).frame
  · exact (s.hbLost_touches (P := { twin := true }) (es := [])).frame
  · exact (s.hbPresent_touches (P := { twin := true }) (es := [])).frame
  · exact (s.promote_touches (P := { twin := true }) (es := [])).frame
  · exact (s.transferLost_touches (P := { twin := true, time := true }) (es := []) rfl).frame
  · exact (s.reenterDone_touches (P := { twin := true }) (es := []) rfl).frame
  · exact (s.reenterTimeout_touches (P := { twin := true }) (es := []) rfl).frame

/-- Settles O48: each command's operation touches the registers of its clause, of the rest only the parts that the clause names, and of the
engines' records only that of its own engine. -/
theorem engineFrame : Obligations.EngineFrame := by
  refine ⟨fun e s => ⟨_, rfl, ?_⟩, fun e s => ⟨_, rfl, ?_⟩, fun e s => ⟨_, rfl, ?_⟩, fun e s => ⟨_, rfl, ?_⟩, fun e size s => ⟨_, rfl, ?_⟩,
    fun e ckpt s => ⟨_, rfl, ?_⟩, fun e r0 r1 s => ⟨_, rfl, ?_⟩, fun e s => ⟨_, rfl, ?_⟩, fun e s => ⟨_, rfl, ?_⟩⟩
  · exact (s.cmdPing_touches (P := { free := true, engines := true }) rfl e rfl).one
  · exact (s.cmdSearch_touches (P := { engines := true }) rfl e).one
  · exact (s.cmdEye_touches (P := { groups := true, engines := true }) rfl e rfl).one
  · exact (s.cmdSweep_touches (P := { paths := true, engines := true }) rfl e rfl).one
  · exact (s.cmdCheckpoint_touches (P := { engines := true }) rfl e size).one
  · exact (s.heartbeat_touches (P := { engines := true }) rfl e ckpt).one
  · exact (State.HouseTouches.ite (s.notice_touches (P := { engines := true }) rfl e 4 r0 r1 true) (.refl _ _ _ s)).one
  · exact (s.cmdAbort_touches (P := { free := true, groups := true, engines := true }) rfl e rfl rfl).one
  · exact (s.cmdFlush_touches (P := { free := true, groups := true, engines := true }) rfl e rfl rfl).one

end

section
/-!
SUPPORT. The queue of the flash as `State.HouseTouches`: what serving it touches, what it leaves a rehearsal (`State.RehQuiet`), when an
operation begins at once (R340 to R342, R351), and with that the operations of the key bank (R476).
-/

-- Proofs are elaborated one at a time: side by side their threads reserve more memory than a check has.
set_option Elab.async false

namespace Sys2Proof.Machine

variable {P : HouseParts} {es : List Eng} {l : List Nat} {s t u : State}

/-! ### The queue of the flash (R340, R342, R351) -/

/-- The registers of the NVM page that an energy check and the end of a host command touch: EVT_RAW, NVM_STAT, NVM_ECHK and NVM_CNT. -/
def nvmRegs : List Nat := regsOf .nvm [0x010, 0x04C, 0x050, 0x054]

/-- The registers that the flash's queue touches: those of NVM, CAL_STAT, and of REH the consistency count, REH_STAT and REP_STAT. -/
def serveRegs : List Nat := nvmRegs ++ regsOf .cal [0x044] ++ regsOf .reh [0x024, 0x048, 0x0A0]

theorem nvmRegs_mem_serveRegs : ∀ a ∈ nvmRegs, a ∈ serveRegs := by decide

/-- The registers that the end of a key operation touches: EVT_RAW, SEC_OPSTAT and the staged key. -/
def keyRegs : List Nat := regsOf .sec ([0x010, 0x048] ++ (List.range 29).map (0x050 + ·))

/-- A range of registers goes back to its reset values. -/
theorem State.HouseTouches.rstRange (h : s.HouseTouches P es l t) {p : Page} {lo hi : Nat}
    (hl : ∀ off, lo ≤ off → off ≤ hi → pageAddr p off ∈ l) : s.HouseTouches P es l (t.rstRange p lo hi) := by
  refine h.trans (.of_touches ⟨⟨fun a ha _ => ?_, fun _ _ => rfl⟩, .refl _⟩)
  refine tabGet_filter_kept _ _ (fun b => !(decide (pageAddr p lo ≤ b) && decide (b ≤ pageAddr p hi))) ?_
  have hout : ¬ (pageAddr p lo ≤ a ∧ a ≤ pageAddr p hi) := fun hin => by
    simp only [pageAddr] at hin
    refine ha ?_
    have hmem := hl (a - 4096 * pageNum p) (by omega) (by omega)
    simpa only [pageAddr, show pageNum p * 4096 + (a - 4096 * pageNum p) = a by omega] using hmem
  rw [Bool.not_eq_true', Bool.and_eq_false_iff, decide_eq_false_iff_not, decide_eq_false_iff_not]
  exact not_and_or.1 hout

theorem State.eAvail_of_touches (h : s.HouseTouches P es l t) (hl : pageAddr .supply 0x068 ∉ l) : t.eAvail = s.eAvail :=
  h.1.f (x := SupplyR.HUP_ENERGY_E_AVAIL) hl (by decide)

theorem State.f_of_regs (hr : t.regs = s.regs) (p : Page) (x : Fld) : t.f p x = s.f p x := by rw [State.f, State.rd, hr, State.f, State.rd]

theorem State.f_modFlash (s : State) (f : FlashSt → FlashSt) (p : Page) (x : Fld) : (s.modFlash f).f p x = s.f p x := rfl

theorem State.eAvail_of_regs (hr : t.regs = s.regs) : t.eAvail = s.eAvail := State.f_of_regs hr _ _

theorem State.energyCheck_touches (s : State) (kind req : Nat) : s.HouseTouches P es nvmRegs (s.energyCheck kind req).1 := by
  have h := State.HouseTouches.refl P es nvmRegs s
  have hset := (((h.setF (p := .nvm) (x := NvmR.NVM_ECHK_E_AVAIL) s.eAvail (by decide)).setF (p := .nvm) (x := NvmR.NVM_ECHK_E_REQ) req
    (by decide)).setF (p := .nvm) (x := NvmR.NVM_ECHK_KIND) kind (by decide)).setF (p := .nvm) (x := NvmR.NVM_ECHK_PASS)
    (b2n (decide (req ≤ s.eAvail))) (by decide)
  exact .ite hset ((hset.inc (by decide)).raise 16 (by decide))

theorem State.hostEnd_touches (s : State) (res : Nat) : s.HouseTouches P es nvmRegs (s.hostEnd res) := by
  have h := ((State.HouseTouches.refl P es nvmRegs s).setF (p := .nvm) (x := NvmR.NVM_STAT_STATE) 0 (by decide)).setF (p := .nvm)
    (x := NvmR.NVM_STAT_RESULT) res (by decide)
  exact .ite ((h.inc (by decide)).raise _ (by decide)) (.ite (h.raise _ (by decide)) h)

theorem State.keyEnd_touches (s : State) (res : Nat) (hP : P.security = true) (hl : ∀ a ∈ keyRegs, a ∈ l) :
    s.HouseTouches P es l (s.keyEnd res) := by
  have hmem : ∀ off ∈ [0x010, 0x048] ++ (List.range 29).map (0x050 + ·), pageAddr .sec off ∈ l := fun off h => hl _ (mem_regsOf h)
  unfold State.keyEnd
  extract_lets spend spent noted
  have hspend : ∀ v : State, v.HouseTouches P es l (spend v) := fun v => by
    simp only [spend]
    split
    · exact (State.HouseTouches.refl P es l v).setSecurity _ hP
    · exact .refl P es l v
  have hspent : s.HouseTouches P es l spent := .ite (hspend s) (.refl P es l s)
  have hnoted : s.HouseTouches P es l noted := ((hspent.setF _ (hmem _ (by decide))).setF _ (hmem _ (by decide))).rstRange fun off hlo hhi =>
    hmem off (List.mem_append_right _ (List.mem_map.2 ⟨off - 0x050, List.mem_range.2 (by omega), by omega⟩))
  exact (hnoted.setSecurity _ hP).raiseIf _ _ (hmem _ (by decide))

theorem State.rehOver_touches (s : State) (hR : P.reh = true) : s.HouseTouches P es serveRegs s.rehOver :=
  ((State.HouseTouches.refl P es serveRegs s).setF (p := .reh) (x := RehR.REH_STAT_STATE) 0 (by decide)).modReh _ hR

section Serve
variable (hR : P.reh = true) (hl : ∀ a ∈ serveRegs, a ∈ l)
include hR hl

/-- What a refused operation brings, where a key operation may be refused only if its parts are free to change. -/
theorem State.flashRefused_touches (s : State) (op : FlashOp) (hk : op = .keyOp → P.security = true ∧ ∀ a ∈ keyRegs, a ∈ l) :
    s.HouseTouches P es l (s.flashRefused op) := by
  have hset : ∀ (v : State) (p : Page) (x : Fld) (n : Nat), pageAddr p x.off ∈ serveRegs → v.HouseTouches P es l (v.setF p x n) :=
    fun v p x n hx => (State.HouseTouches.refl P es l v).setF n (hl _ hx)
  have hover : ∀ v : State, v.HouseTouches P es l v.rehOver := fun v => (v.rehOver_touches hR).mono hl
  unfold State.flashRefused
  split
  · exact (s.hostEnd_touches 2).mono fun a ha => hl a (nvmRegs_mem_serveRegs a ha)
  · exact hset _ _ _ _ (by decide)
  · exact hset _ _ _ _ (by decide)
  · exact (hset _ _ _ _ (by decide)).trans (hset _ _ _ _ (by decide))
  · exact s.keyEnd_touches 2 (hk rfl).1 (hk rfl).2
  · exact .ite (((hset s _ _ _ (by decide)).viol .consistency (hl _ (by decide))).trans (hover _)) ((hset s _ _ _ (by decide)).trans (hover _))
  · exact .refl P es l s

variable (hF : P.flash = true)
include hF

omit hR in
theorem State.flashStart_touches (s : State) (op : FlashOp) (rest : List FlashOp) : s.HouseTouches P es l (s.flashStart op rest) := by
  have h := State.HouseTouches.refl P es l s
  unfold State.flashStart
  dsimp only
  split
  · exact (h.modFlash _ hF).setF _ (hl _ (by decide))
  · exact h.modFlash _ hF

omit hR in
theorem State.flashHold_touches (s : State) (op : FlashOp) : s.HouseTouches P es l (s.flashHold op) := by
  have h := State.HouseTouches.refl P es l s
  unfold State.flashHold
  dsimp only
  split
  · exact (h.modFlash _ hF).setF _ (hl _ (by decide))
  · exact h.modFlash _ hF

/-- What serving the queue brings: a key operation is refused only where the energy does not reach for it. -/
theorem State.flashServeN_touches (hE : pageAddr .supply 0x068 ∉ l) (fuel : Nat) (s : State)
    (hk : 105 ≤ s.eAvail ∨ P.security = true ∧ ∀ a ∈ keyRegs, a ∈ l) : s.HouseTouches P es l (State.flashServeN fuel s) := by
  induction fuel generalizing s with
  | zero => exact .refl P es l s
  | succ fuel ih =>
    unfold State.flashServeN
    split
    · exact .refl P es l s
    · exact .refl P es l s
    next op rest _ _ =>
      refine .ite (.refl P es l s) ?_
      dsimp only
      split
      · exact s.flashStart_touches hl hF _ _
      next kind req hcheck =>
        have hchecked : s.HouseTouches P es l (s.energyCheck kind req).1 := (s.energyCheck_touches kind req).mono fun a ha => hl a (nvmRegs_mem_serveRegs a ha)
        refine .ite (s.flashHold_touches hl hF _) ?_
        split
        · exact hchecked.trans (State.flashStart_touches hl hF _ _ _)
        next hpass =>
          have hrefused := (hchecked.modFlash (fun x => { x with queue := rest, wait := false }) hF).trans
            (State.flashRefused_touches hR hl _ op fun hop => hk.resolve_left fun henough => hpass (by
              subst hop
              obtain ⟨-, rfl⟩ : 3 = kind ∧ 105 = req := by simpa [State.flashFirst, opCheck] using hcheck
              exact decide_eq_true henough))
          exact hrefused.trans (ih _ (by rwa [State.eAvail_of_touches hrefused hE]))

theorem State.flashServe_touches (hE : pageAddr .supply 0x068 ∉ l) (hk : 105 ≤ s.eAvail ∨ P.security = true ∧ ∀ a ∈ keyRegs, a ∈ l) :
    s.HouseTouches P es l s.flashServe := State.flashServeN_touches hR hl hF hE _ s hk

end Serve

/-! ### A rehearsal that the flash has nothing to tell (R398, R415) -/

/-- A run that is no longer opening, and no DARK that it owes. -/
def State.RehQuiet (s : State) : Prop := s.rehState ≠ 1 ∧ s.reh.toDark = false

theorem State.flashThen_of_quiet (h : s.RehQuiet) : s.flashThen = s := by
  obtain ⟨hstate, hdark⟩ := h
  have hidle : (s.rehState == 1) = false := by simpa using hstate
  have hgo : s.rehGoOn = s := by
    rw [State.rehGoOn, State.rehOpening, hidle]
    rfl
  rw [State.flashThen, hgo, if_neg (by simp [hdark])]

/-- What leaves the rehearsal's record and REH_STAT as they are. -/
theorem State.RehQuiet.of_touches (q : s.RehQuiet) (h : s.HouseTouches P es l t) (hR : P.reh = false) (hl : pageAddr .reh 0x048 ∉ l) :
    t.RehQuiet := by
  have hreh : t.reh = s.reh := by
    obtain ⟨-, hr, -⟩ := h
    simp only [State.SameRest] at hr
    have hkept : t.reh = (s.withHouse P t).reh := by simp only [hr]
    rw [hkept, State.withHouse, hR, cond_false]
  have hstate : t.rehState = s.rehState := h.1.f (x := RehR.REH_STAT_STATE) hl (by decide)
  exact ⟨by rw [hstate]; exact q.1, by rw [hreh]; exact q.2⟩

/-- What leaves the registers and the rehearsal's record as they are. -/
theorem State.RehQuiet.of_eq (q : s.RehQuiet) (hr : t.regs = s.regs) (hq : t.reh = s.reh) : t.RehQuiet := by
  obtain ⟨hstate, hdark⟩ := q
  exact ⟨by rwa [State.rehState, State.f_of_regs hr], by rw [hq, hdark]⟩

theorem State.RehQuiet.modFlash (q : s.RehQuiet) (f : FlashSt → FlashSt) : (s.modFlash f).RehQuiet := q.of_eq rfl rfl

theorem State.f_modReh (s : State) (f : RehSt → RehSt) (p : Page) (x : Fld) : (s.modReh f).f p x = s.f p x := rfl

theorem State.rehState_rehOver (s : State) : s.rehOver.rehState = 0 := by
  rw [State.rehOver, State.rehState, State.f_modReh, State.f_setF_self _ _ _ _ (by decide) (by decide)]
  rfl

theorem State.RehQuiet.over (h : s.RehQuiet) : s.rehOver.RehQuiet :=
  ⟨by rw [State.rehState_rehOver]; exact Nat.zero_ne_one, by simpa [State.rehOver, State.modReh] using h.2⟩

theorem State.RehQuiet.setF (h : s.RehQuiet) {p : Page} {x : Fld} (v : Nat) (hx : pageAddr p x.off ≠ pageAddr .reh 0x048) :
    (s.setF p x v).RehQuiet :=
  h.of_touches (P := {}) (es := []) ((State.HouseTouches.refl _ _ [pageAddr p x.off] s).setF v List.mem_cons_self) rfl
    (by rw [List.mem_singleton]; exact hx.symm)

/-- A refused operation leaves a rehearsal as it is, or ends it. -/
theorem State.flashRefused_quiet (h : s.RehQuiet) (op : FlashOp) : (s.flashRefused op).RehQuiet := by
  unfold State.flashRefused
  split
  · exact h.of_touches (s.hostEnd_touches (P := {}) (es := []) 2) rfl (by decide)
  · exact h.setF _ (by decide)
  · exact h.setF _ (by decide)
  · refine ⟨?_, by simpa using h.2⟩
    rw [State.rehState, State.f_setF_apart _ _ _ _ (by decide), State.f_setF_self _ _ _ _ (by decide) (by decide)]
    decide
  · exact h.of_touches (s.keyEnd_touches (P := { security := true }) (es := []) 2 rfl fun _ ha => ha) rfl (by decide)
  · have hcause : ∀ (x : Fld) (n : Nat), x.off = 0x048 → apart x RehR.REH_STAT_STATE = true → (s.setF .reh x n).RehQuiet := fun x n _ hx =>
      ⟨by rw [State.rehState, State.f_setF_apart _ _ _ _ hx]; exact h.1, by simpa using h.2⟩
    have hviol : (s.rehRefused 4).RehQuiet := (hcause RehR.REH_STAT_CAUSE 4 rfl (by decide)).of_touches (P := {}) (es := [])
      ((State.HouseTouches.refl _ _ (regsOf .reh [0x024]) _).viol .consistency (by decide)) rfl (by decide)
    split
    · exact hviol.over
    · exact (hcause RehR.REH_STAT_LOG_LOST 1 rfl (by decide)).over
  · exact h

theorem State.flashServeN_quiet (fuel : Nat) (h : s.RehQuiet) : (State.flashServeN fuel s).RehQuiet := by
  induction fuel generalizing s with
  | zero => exact h
  | succ fuel ih =>
    have hchecked : ∀ kind req, (s.energyCheck kind req).1.RehQuiet := fun kind req =>
      h.of_touches (s.energyCheck_touches (P := {}) (es := []) kind req) rfl (by decide)
    have hstart : ∀ (v : State) (op : FlashOp) (rest : List FlashOp), v.RehQuiet → (v.flashStart op rest).RehQuiet := fun v op rest hv => by
      unfold State.flashStart
      dsimp only
      split
      · exact State.RehQuiet.setF (s := v.modFlash _) hv _ (by decide)
      · exact hv
    unfold State.flashServeN
    split
    · exact h
    · exact h
    next op rest _ _ =>
      split
      · exact h
      · dsimp only
        split
        · exact hstart s _ _ h
        · split
          · unfold State.flashHold
            dsimp only
            split
            · exact State.RehQuiet.setF (s := s.modFlash _) h _ (by decide)
            · exact h
          · split
            · exact hstart _ _ _ (hchecked _ _)
            · exact ih (State.flashRefused_quiet (s := (State.energyCheck s _ _).1.modFlash _) (hchecked _ _) op)

theorem State.flashServe_quiet (h : s.RehQuiet) : s.flashServe.RehQuiet := State.flashServeN_quiet _ h

/-! ### An operation that the flash begins at once (R351) -/

theorem State.flashStart_run (s : State) (op : FlashOp) (rest : List FlashOp) : (s.flashStart op rest).flash.run.map Prod.fst = some op := by
  unfold State.flashStart
  cases op <;> simp [State.modFlash]

/-- An operation queued at a flash that is served, runs none and has none waiting begins, where its check allows it. -/
theorem State.flashQueue_starts {op : FlashOp} (hdev : s.device = .ready) (hres : s.houseReset = false) (hrun : s.flash.run = none)
    (hqueue : s.flash.queue = []) (hfirst : ∀ v : State, v.flashFirst op = op)
    (hcheck : ∀ kind req, opCheck op = some (kind, req) → s.supply.testing = false ∧ req ≤ s.eAvail) (hF : P.flash = true) :
    (s.flashQueue op).flash.run.map Prod.fst = some op ∧ s.HouseTouches P es serveRegs (s.flashQueue op) := by
  have hqueued : s.flashQueue op = State.flashServeN 2 (s.modFlash fun x => { x with queue := [op] }) := by
    simp only [State.flashQueue, State.flashServe, State.modFlash, hqueue, List.nil_append, List.length_singleton]
  have htouch := (State.HouseTouches.refl P es serveRegs s).modFlash (fun x => { x with queue := [op] }) hF
  have hmem : ∀ a ∈ serveRegs, a ∈ serveRegs := fun _ ha => ha
  rw [hqueued, State.flashServeN]
  split
  case h_1 _ _ _ hsome => exact absurd (hrun.symm.trans hsome) (by simp)
  case h_2 _ _ _ hnil => exact absurd hnil (List.cons_ne_nil _ _)
  case h_3 _ _ op' rest _ hcons =>
    obtain ⟨rfl, rfl⟩ : op = op' ∧ [] = rest := List.cons.inj hcons
    rw [if_neg (by simp [State.modFlash, hdev, hres])]
    dsimp only
    rw [hfirst]
    split
    · exact ⟨State.flashStart_run _ _ _, htouch.trans (State.flashStart_touches hmem hF _ _ _)⟩
    next kind req hsome =>
      obtain ⟨htest, henough⟩ := hcheck kind req hsome
      have hpass : (State.energyCheck (s.modFlash fun x => { x with queue := [op] }) kind req).2 = true := decide_eq_true henough
      rw [if_neg (by simpa [State.modFlash] using htest), if_pos hpass, if_pos rfl]
      exact ⟨State.flashStart_run _ _ _, (htouch.trans ((State.energyCheck_touches _ _ _).mono nvmRegs_mem_serveRegs)).trans
        (State.flashStart_touches hmem hF _ _ _)⟩

/-! ### A key operation that is asked for (R476) -/

theorem State.houseReset_of_takes {c : Src} {p : Page} {off : Nat} {data mask : Word} (h : s.takes c p off data mask = true) :
    s.houseReset = false := by
  simp only [State.takes, State.regShut, State.closedToAll, Bool.and_eq_true, Bool.not_eq_true', Bool.or_eq_false_iff] at h
  simp only [h]

/-- The fields of SEC_CTL. -/
def secKeyRow : Row := { fld := SecR.SEC_CTL_KEY, acc := .rw, rst := 0x0 }
def secOpRow : Row := { fld := SecR.SEC_CTL_OP, acc := .rw, rst := 0x0, legal := [(0, 4)] }
def secValueRow : Row := { fld := SecR.SEC_CTL_VALUE, acc := .rw, rst := 0x0 }
def secSlotRow : Row := { fld := SecR.SEC_CTL_SLOT, acc := .rw, rst := 0x0 }

theorem rowsAt_secCtl : rowsAt .sec 0x044 = [secKeyRow, secOpRow, secValueRow, secSlotRow] := by decide +kernel

/-- A word written whole merges to itself. -/
theorem merge_allOnes (old data : Word) : merge old data allOnes = data := by
  rw [merge, show allOnes = BitVec.allOnes 32 by decide, BitVec.not_allOnes, BitVec.and_zero, BitVec.zero_or, BitVec.and_allOnes]

/-- A write of SEC_CTL with a legal OP stores all four fields. -/
theorem writeOut_secCtl (v : Nat → Word) {data : Word} (hop : fget data 19 16 ≤ 4) :
    writeOut v false .sec 0x044 data allOnes =
      { word := fset (fset (fset (fset (v (pageAddr .sec 0x044)) 31 24 (fget data 31 24)) 19 16 (fget data 19 16)) 15 8 (fget data 15 8))
          1 0 (fget data 1 0), access := data &&& allOnes &&& roMask .sec 0x044 != 0 } := by
  have hmask : allOnes &&& ~~~ctlUnsupported .sec 0x044 = allOnes := by decide
  have hlegal : legalCode [(0, 4)] (fget data 19 16) = true := by simp [legalCode, hop]
  simp only [writeOut, rowsAt_secCtl, List.foldl_cons, List.foldl_nil, hmask]
  rw [writeRow_rw_legal (r := secKeyRow) rfl (by decide) (by decide) (fieldLegal_of_legalCode rfl (by decide)),
    writeRow_rw_legal (r := secOpRow) rfl (by decide) (by decide)
      (fieldLegal_of_legalCode (by rw [merge_allOnes]; exact hlegal) (by decide)),
    writeRow_rw_legal (r := secValueRow) rfl (by decide) (by decide) (fieldLegal_of_legalCode rfl (by decide)),
    writeRow_rw_legal (r := secSlotRow) rfl (by decide) (by decide) (fieldLegal_of_legalCode rfl (by decide))]
  simp only [merge_allOnes]
  rfl

/-- The word that asks for a key operation. -/
def keyWord (op value slot : Nat) : Word := BitVec.ofNat 32 (0x3C * 2 ^ 24 + op * 2 ^ 16 + value * 2 ^ 8 + slot)

theorem fget_keyWord {op value slot : Nat} (hop : op ≤ 4) (hvalue : value < 256) (hslot : slot < 4) :
    fget (keyWord op value slot) 19 16 = op ∧ fget (keyWord op value slot) 15 8 = value ∧ fget (keyWord op value slot) 1 0 = slot := by
  simp only [fget, keyWord, BitVec.toNat_ofNat]
  omega

/-- The fields of SEC_CTL once a whole write is stored. -/
theorem fget_secStored (old data : Word) {word : Word}
    (h : word = fset (fset (fset (fset old 31 24 (fget data 31 24)) 19 16 (fget data 19 16)) 15 8 (fget data 15 8)) 1 0 (fget data 1 0)) :
    fget word 19 16 = fget data 19 16 ∧ fget word 15 8 = fget data 15 8 ∧ fget word 1 0 = fget data 1 0 := by
  have hlt : ∀ hi lo, fget data hi lo < 2 ^ (hi + 1 - lo) := fun hi lo => Nat.mod_lt _ (Nat.two_pow_pos _)
  subst h
  refine ⟨?_, ?_, ?_⟩
  · rw [fget_fset_disj _ _ _ _ _ _ (by decide) (by decide) (by decide), fget_fset_disj _ _ _ _ _ _ (by decide) (by decide) (by decide),
      fget_fset _ _ _ _ (by decide) (by decide)]
    exact Nat.mod_eq_of_lt (hlt 19 16)
  · rw [fget_fset_disj _ _ _ _ _ _ (by decide) (by decide) (by decide), fget_fset _ _ _ _ (by decide) (by decide)]
    exact Nat.mod_eq_of_lt (hlt 15 8)
  · rw [fget_fset _ _ _ _ (by decide) (by decide)]
    exact Nat.mod_eq_of_lt (hlt 1 0)

/-- A key operation whose conditions hold is noted with the staged key, and its burn begins at once. -/
theorem State.keyOp_noted {op value slot : Nat} (hgated : s.gated = false) (hnone : s.security.op = none) (hfuse : s.rehState ≠ 4)
    (hok : s.keyOpOk op value slot = true) (hfree : s.flashFree = true) (hres : s.houseReset = false) (henough : 105 ≤ s.eAvail) :
    (s.keyOp op value slot).security.op = some (op, value, slot, s.umKey) := by
  simp only [State.flashFree, Bool.and_eq_true, beq_iff_eq, Option.isNone_iff_eq_none, List.isEmpty_iff, Bool.not_eq_true'] at hfree
  obtain ⟨⟨⟨hdev, hrun⟩, hqueue⟩, htest⟩ := hfree
  rw [State.keyOp, if_neg (by simp [hgated, hnone, hfuse, hok])]
  dsimp only
  have hkept := ((((State.HouseTouches.refl {} [] (regsOf .sec [0x048]) (s.modSec fun x => { x with op := some (op, value, slot, s.umKey) })).setF
    (p := .sec) (x := SecR.SEC_OPSTAT_STATE) 1 (by decide)).setF (p := .sec) (x := SecR.SEC_OPSTAT_RESULT) 0 (by decide)).setF (p := .sec)
    (x := SecR.SEC_OPSTAT_SESSIONS) 0 (by decide))
  have hstarts := State.flashQueue_starts (P := { flash := true }) (es := []) (op := .keyOp)
    (s := (((s.modSec fun x => { x with op := some (op, value, slot, s.umKey) }).setF .sec SecR.SEC_OPSTAT_STATE 1).setF .sec
      SecR.SEC_OPSTAT_RESULT 0).setF .sec SecR.SEC_OPSTAT_SESSIONS 0) (by simpa [State.modSec] using hdev)
    (by simpa [State.modSec] using hres) (by simpa [State.modSec] using hrun) (by simpa [State.modSec] using hqueue) (fun _ => rfl)
    (fun kind req hc => by
      obtain ⟨-, rfl⟩ : 3 = kind ∧ 105 = req := by simpa [opCheck] using hc
      exact ⟨by simpa [State.modSec] using htest, by rw [State.eAvail_of_touches hkept (by decide)]; exact henough⟩) rfl
  obtain ⟨-, -, hr, -⟩ := hstarts
  simp only [State.SameRest] at hr
  simp only [hr]
  simp [State.withHouse, State.modSec]

/-- A written OP asks for its key operation. -/
theorem State.directEffect_secOp {op value slot : Nat} {wrote : Word} (hop : s.f .sec SecR.SEC_CTL_OP = op) (hne : op ≠ 0)
    (hvalue : s.f .sec SecR.SEC_CTL_VALUE = value) (hslot : s.f .sec SecR.SEC_CTL_SLOT = slot) (hc : covers wrote SecR.SEC_CTL_OP = true)
    (old act : Word) : s.directEffect .sec 0x044 old act wrote = s.keyOp op value slot := by
  simp [State.directEffect, State.effSec, hop, hne, hvalue, hslot, hc]

/-- A key operation that is taken and begins at once. -/
theorem State.offerKey_noted {c : Src} {op value slot : Nat} (h : s.keyTakes c op value slot = true) (hop : op ≤ 4) (hne : op ≠ 0)
    (hvalue : value < 256) (hslot : slot < 4) : (s.offerKey c op value slot).security.op = some (op, value, slot, s.umKey) := by
  simp only [State.keyTakes, State.keyWrite, Bool.and_eq_true, beq_iff_eq, Bool.not_eq_true', Option.isNone_iff_eq_none, bne_iff_ne,
    decide_eq_true_eq] at h
  obtain ⟨⟨⟨⟨⟨⟨htakes, hok⟩, hgated⟩, hnone⟩, hfuse⟩, hfree⟩, henough⟩ := h
  obtain ⟨v, u, -, hlead, hword, hframe, hsame⟩ :=
    State.offerReg_leads (data := keyWord op value slot) htakes (by decide) (fun _ => rfl) (by decide)
  obtain ⟨hwop, hwvalue, hwslot⟩ := fget_keyWord hop hvalue hslot
  have hout := writeOut_secCtl v (data := keyWord op value slot) (by rw [hwop]; exact hop)
  obtain ⟨huop, huvalue, huslot⟩ := fget_secStored _ (keyWord op value slot) (hword.trans (congrArg WrOut.word hout))
  have hkey : u.umKey = s.umKey := by
    have hrd : ∀ i ∈ List.range 8, u.rd (pageAddr .sec (0x050 + 4 * i)) = s.rd (pageAddr .sec (0x050 + 4 * i)) := fun i hi =>
      hframe.1 _ (by have := List.mem_range.1 hi; simp only [storeRegs, pageAddr, pageNum, List.mem_cons, List.not_mem_nil, or_false]; omega)
        (by have := List.mem_range.1 hi; simp only [sideRegs, pageAddr, pageNum, List.mem_cons, List.not_mem_nil, or_false]; omega)
    exact List.flatMap_congr fun i hi => by rw [hrd i hi]
  have hugated : u.gated = false := by
    rw [State.gated, State.on, hframe.f (by decide) (by decide)]
    exact hgated
  have hufuse : u.rehState ≠ 4 := by
    rw [State.rehState, hframe.f (by decide) (by decide)]
    exact hfuse
  have huenough : 105 ≤ u.eAvail := by
    rw [State.eAvail, hframe.f (by decide) (by decide)]
    exact henough
  have hres := State.houseReset_of_takes htakes
  simp only [State.SameRest] at hsame
  have huok : u.keyOpOk op value slot = true := by
    rw [← hok]
    simp only [State.keyOpOk, State.umSlot, State.imgKeyOk, hsame]
  have hled : s.offerKey c op value slot = u.keyOp op value slot := by
    rw [State.offerKey, ← keyWord, hlead, hout]
    exact State.directEffect_secOp (huop.trans hwop) hne (huvalue.trans hwvalue) (huslot.trans hwslot)
      (show covers (allOnes &&& ~~~0) SecR.SEC_CTL_OP = true by decide) _ _
  rw [hled, ← hkey]
  refine State.keyOp_noted hugated (by simp only [hsame, hnone]) hufuse huok ?_ (by simp only [hsame, hres]) huenough
  rw [← hfree]
  simp only [State.flashFree, hsame]

/-! ### The end of a burn (R476) -/

/-- With the energy for a session the checks of all sessions pass, and touch NVM alone. -/
theorem State.keyChecks_pass (n done : Nat) (s : State) (henough : 105 ≤ s.eAvail) :
    (State.keyChecks n done s).2.2 = true ∧ s.HouseTouches P es nvmRegs (State.keyChecks n done s).1 := by
  induction n generalizing done s with
  | zero => exact ⟨rfl, .refl P es _ s⟩
  | succ n ih =>
    have hchecked : s.HouseTouches P es nvmRegs (s.energyCheck 3 105).1 := s.energyCheck_touches 3 105
    obtain ⟨hpass, hrest⟩ := ih (done + 1) (s.energyCheck 3 105).1 (by rwa [State.eAvail_of_touches hchecked (by decide)])
    have hstep : State.keyChecks (n + 1) done s = State.keyChecks n (done + 1) (s.energyCheck 3 105).1 := if_pos (decide_eq_true henough)
    rw [hstep]
    exact ⟨hpass, hchecked.trans hrest⟩

theorem State.f_withSecurity (s : State) (x : SecSt) (p : Page) (y : Fld) : { s with security := x }.f p y = s.f p y := rfl

theorem State.keyEnd_right (s : State) :
    s.keyEnd 1 = { ((s.setF .sec SecR.SEC_OPSTAT_STATE 0).setF .sec SecR.SEC_OPSTAT_RESULT 1).rstRange .sec 0x050 0x06C with
      security := { s.security with op := none } } := by
  simp [State.keyEnd, State.raiseIf, State.rstRange]

/-- A key operation that ends right is RESULT 1, and the slots are as it left them. -/
theorem State.keyEnd_done (s : State) (slot : Nat) :
    (s.keyEnd 1).umSlot slot = s.umSlot slot ∧ (s.keyEnd 1).f .sec SecR.SEC_OPSTAT_RESULT = 1 := by
  have hrange : ∀ v : State, v.HouseTouches {} [] (regsOf .sec ((List.range 29).map (0x050 + ·))) (v.rstRange .sec 0x050 0x06C) := fun v =>
    (State.HouseTouches.refl _ _ _ v).rstRange fun off hlo hhi =>
      mem_regsOf (List.mem_map.2 ⟨off - 0x050, List.mem_range.2 (by omega), by omega⟩)
  rw [State.keyEnd_right]
  refine ⟨by rw [State.umSlot, State.umSlot], ?_⟩
  rw [State.f_withSecurity, (hrange _).1.f (by decide) (by decide), State.f_setF_self _ _ _ _ (by decide) (by decide)]
  rfl

theorem State.umSlot_setUm_key (s : State) (slot : Nat) (v : UmSlotSt) : (s.setUm slot v).umSlot slot = v := by
  unfold State.umSlot State.setUm State.modSec
  split <;> rfl

/-- The key bank as serving the queue of the flash leaves it, with the energy for a key operation. -/
theorem State.flashServe_security (henough : 105 ≤ s.eAvail) :
    s.flashServe.security = s.security ∧ s.flashServe.f .sec SecR.SEC_OPSTAT_RESULT = s.f .sec SecR.SEC_OPSTAT_RESULT := by
  obtain ⟨hframe, hrest, -⟩ := State.flashServe_touches (P := { flash := true, reh := true }) (es := []) rfl (fun _ ha => ha) rfl
    (by decide) (.inl henough)
  simp only [State.SameRest] at hrest
  exact ⟨by simp only [hrest]; rfl, hframe.f (by decide) (by decide)⟩

/-- A burn that reads back right, with the energy for its sessions: its key is burned, and the flash serves its queue. -/
theorem State.keyOpEnd_right {l : List Byte} {slot : Nat} {key : List Byte} (hrun : s.flash.run = some (.keyOp, l))
    (hop : s.security.op = some (1, 0, slot, key)) (henough : 105 ≤ s.eAvail) :
    ∃ checked : State, s.HouseTouches {} [] (nvmRegs ++ regsOf .sec [0x048]) checked ∧
      s.keyOpEnd true = (((checked.keyBurn 1 0 slot key).keyEnd 1).modFlash fun x => { x with run := none }).flashServe := by
  obtain ⟨hpass, hchecks⟩ := State.keyChecks_pass (P := {}) (es := []) (keySessions 1 key - 1) 1 s henough
  refine ⟨_, (hchecks.mono fun _ ha => List.mem_append_left _ ha).setF (p := .sec) (x := SecR.SEC_OPSTAT_SESSIONS)
    (State.keyChecks (keySessions 1 key - 1) 1 s).2.1 (List.mem_append_right _ (mem_regsOf (by decide))), ?_⟩
  rw [State.keyOpEnd, hrun, hop]
  dsimp only
  rw [if_pos rfl, hpass, if_neg (by decide), if_pos rfl]

/-- The burned key stands in its slot, with RESULT 1. -/
theorem State.keyBurn_done (s : State) (slot : Nat) (key : List Byte) :
    (((s.keyBurn 1 0 slot key).keyEnd 1).umSlot slot).key = key ∧ ((s.keyBurn 1 0 slot key).keyEnd 1).f .sec SecR.SEC_OPSTAT_RESULT = 1 := by
  obtain ⟨hkept, hresult⟩ := State.keyEnd_done (s.keyBurn 1 0 slot key) slot
  have hburned : (State.umSlot (s.keyBurn 1 0 slot key) slot).key = key := by rw [State.keyBurn, if_pos rfl, State.umSlot_setUm_key]
  exact ⟨by rw [hkept, hburned], hresult⟩

theorem State.keyBurn_regs (s : State) (slot : Nat) (key : List Byte) :
    (s.keyBurn 1 0 slot key).regs = s.regs ∧ (s.keyBurn 1 0 slot key).reh = s.reh := ⟨rfl, rfl⟩

/-- A burn that reads back right leaves the key in its slot and RESULT 1. -/
theorem State.keyOpEnd_burned {l : List Byte} {slot : Nat} {key : List Byte} (hrun : s.flash.run = some (.keyOp, l))
    (hop : s.security.op = some (1, 0, slot, key)) (henough : 105 ≤ s.eAvail) (hquiet : s.RehQuiet) :
    ((s.keyOpEnd true).flashThen.umSlot slot).key = key ∧ (s.keyOpEnd true).flashThen.f .sec SecR.SEC_OPSTAT_RESULT = 1 := by
  obtain ⟨checked, hchecked, hend⟩ := State.keyOpEnd_right hrun hop henough
  obtain ⟨hregs, hreh⟩ := checked.keyBurn_regs slot key
  have hended : State.HouseTouches { security := true } [] keyRegs (checked.keyBurn 1 0 slot key) _ := State.keyEnd_touches _ 1 rfl fun _ ha => ha
  have hquietE := ((hquiet.of_touches hchecked rfl (by decide)).of_eq hregs hreh).of_touches hended rfl (by decide)
  have henoughE : 105 ≤ State.eAvail ((checked.keyBurn 1 0 slot key).keyEnd 1) := by
    rwa [State.eAvail_of_touches hended (by decide), State.eAvail_of_regs hregs, State.eAvail_of_touches hchecked (by decide)]
  obtain ⟨hkey, hresult⟩ := checked.keyBurn_done slot key
  rw [hend]
  generalize (checked.keyBurn 1 0 slot key).keyEnd 1 = ended at hquietE henoughE hkey hresult ⊢
  have hquietF : State.RehQuiet (ended.modFlash fun x => { x with run := none }) := hquietE.modFlash _
  obtain ⟨hsec, hres⟩ := State.flashServe_security (s := ended.modFlash fun x => { x with run := none })
    (henoughE.trans_eq (ended.f_modFlash _ _ _).symm)
  rw [State.flashThen_of_quiet (State.flashServe_quiet hquietF), State.umSlot, hsec, hres]
  exact ⟨hkey, (ended.f_modFlash _ _ _).trans hresult⟩

end Sys2Proof.Machine

open Sys2Proof Sys2Proof.Machine

/-- Settles O28: a key operation that is taken is noted with the staged key; a burn that ends right leaves the key in its slot. -/
theorem keyCommandsComplete : Obligations.KeyCommandsComplete := by
  refine ⟨fun c slot s h => ⟨_, rfl, ?_⟩, fun c slot s h => ⟨_, rfl, ?_⟩, fun c slot s h => ⟨_, rfl, ?_⟩, fun c value s h => ⟨_, rfl, ?_⟩,
    fun l slot key s hrun hop henough hstate hdark => ⟨_, rfl, ?_⟩⟩
  · exact State.offerKey_noted h (by decide) (by decide) (by decide) slot.isLt
  · exact State.offerKey_noted h (by decide) (by decide) (by decide) slot.isLt
  · exact State.offerKey_noted h (by decide) (by decide) (by decide) slot.isLt
  · exact State.offerKey_noted h (by decide) (by decide) value.isLt (by decide)
  · exact State.keyOpEnd_burned hrun hop henough ⟨hstate, hdark⟩

end

section
/-!
SUPPORT. What settling lanes, calibration, the flash queue, an engine's answers and a group's power changes leave of the registers of the
supplies, the sensors and the twin, of the power die and of the engines' records: `State.KeepsHouse`.
-/

-- Proofs are elaborated one at a time: side by side their threads reserve more memory than a check has.
set_option Elab.async false

namespace Sys2Proof.Machine

variable {s t u : State}

/-! ### What stays -/

/-- The registers of the supplies, of the sensors and of the twin link, BG_MON, and of an engine's page those before
its counters. -/
def houseReg (p : Page) (off : Nat) : Bool :=
  decide (0x040 ≤ off) && decide (off < 4096) && (match p with
    | .supply => true
    | .therm => true
    | .twin => true
    | .cal => off == 0x048
    | .stage _ => decide (off < 0x060)
    | _ => false)

/-- The register at `off` of page `p` is none of those, and no RX_STAT. -/
def freeReg (p : Page) (off : Nat) : Bool :=
  decide (off < 4096) && !houseReg p off && (match p with
    | .path _ => off != 0x04C
    | _ => true)

/-- `y` has of an engine's record `x` the queue, the heartbeat, the checkpoint and the load; and no long command and no group left that
`x` has not. -/
structure EngSt.Kept (x y : EngSt) : Prop where
  cmdq : y.cmdq = x.cmdq
  hbAt : y.hbAt = x.hbAt
  ckpt : y.ckpt = x.ckpt
  loading : y.loading = x.loading
  left : x.left = none → y.left = none
  long : x.long = none → y.long = none

theorem EngSt.Kept.refl (x : EngSt) : x.Kept x := ⟨rfl, rfl, rfl, rfl, id, id⟩

theorem EngSt.Kept.trans {x y z : EngSt} (h : x.Kept y) (k : y.Kept z) : x.Kept z :=
  ⟨k.cmdq.trans h.cmdq, k.hbAt.trans h.hbAt, k.ckpt.trans h.ckpt, k.loading.trans h.loading, fun e => k.left (h.left e),
    fun e => k.long (h.long e)⟩

/-- `t` has those registers, the power die and the device's state as `s` has them; no receiver that is not locked has come to lock, and of
the engines' records is kept what `EngSt.Kept` says. -/
structure State.KeepsHouse (s t : State) : Prop where
  reg : ∀ p off, houseReg p off = true → t.rd (pageAddr p off) = s.rd (pageAddr p off)
  unlocked : ∀ p, s.lock p = false → t.lock p = false
  engine : ∀ e, (s.engRec e).Kept (t.engRec e)
  supply : t.supply = s.supply
  device : t.device = s.device

/-! ### Rules -/

theorem State.KeepsHouse.refl (s : State) : s.KeepsHouse s := ⟨fun _ _ _ => rfl, fun _ => id, fun _ => .refl _, rfl, rfl⟩

theorem State.KeepsHouse.trans (h : s.KeepsHouse t) (k : t.KeepsHouse u) : s.KeepsHouse u :=
  ⟨fun p off hx => (k.reg p off hx).trans (h.reg p off hx), fun p hp => k.unlocked p (h.unlocked p hp), fun e => (h.engine e).trans (k.engine e),
    k.supply.trans h.supply, k.device.trans h.device⟩

theorem State.KeepsHouse.f (h : s.KeepsHouse t) {p : Page} {x : Fld} (hx : houseReg p x.off = true) : t.f p x = s.f p x := by
  rw [State.f, h.reg p x.off hx, State.f]

theorem State.KeepsHouse.on (h : s.KeepsHouse t) {p : Page} {x : Fld} (hx : houseReg p x.off = true) : t.on p x = s.on p x := by
  rw [State.on, h.f hx, State.on]

/-- A change of registers that keeps those named, and RX_STAT. -/
theorem State.KeepsHouse.of_rd (h : s.KeepsHouse t)
    (hreg : ∀ p off, houseReg p off = true → u.rd (pageAddr p off) = t.rd (pageAddr p off))
    (hrx : ∀ p : Path, u.rd (pageAddr (pp p) 0x04C) = t.rd (pageAddr (pp p) 0x04C)) (he : u.engines = t.engines)
    (hs : u.supply = t.supply) (hd : u.device = t.device) : s.KeepsHouse u := by
  refine h.trans ⟨hreg, fun p hp => ?_, fun e => ?_, hs, hd⟩
  · rw [← hp, State.lock, State.lock, State.on, State.on, State.f, State.f]
    exact congrArg (fun w : Word => fget w 1 1 != 0) (hrx p)
  · rw [show u.engRec e = t.engRec e by rw [State.engRec, he, State.engRec]]
    exact .refl _

/-- What changes no register, no engine, not the power die and not the device's state. -/
theorem State.KeepsHouse.of_regs (h : s.KeepsHouse t) (hr : u.regs = t.regs) (he : u.engines = t.engines) (hs : u.supply = t.supply)
    (hd : u.device = t.device) : s.KeepsHouse u :=
  h.of_rd (fun _ _ _ => by rw [State.rd, State.rd, hr]) (fun _ => by rw [State.rd, State.rd, hr]) he hs hd

theorem freeReg_path (p : Path) {off : Nat} (h : off < 4096) (hrx : off ≠ 0x04C) : freeReg (pp p) off = true := by
  simp [freeReg, houseReg, h, hrx]

theorem houseReg_ne_of_free {p q : Page} {off o : Nat} (h : freeReg p off = true) (k : houseReg q o = true) :
    pageAddr q o ≠ pageAddr p off := by
  simp only [freeReg, Bool.and_eq_true, decide_eq_true_eq] at h
  obtain ⟨⟨hlt, hfree⟩, -⟩ := h
  have ho : o < 4096 := by
    simp only [houseReg, Bool.and_eq_true, decide_eq_true_eq] at k
    exact k.1.2
  intro e
  obtain ⟨rfl, rfl⟩ := (pageAddr_inj ho hlt).1 e
  simp [k] at hfree

theorem rxStat_ne_of_free {p : Page} {off : Nat} (h : freeReg p off = true) (q : Path) : pageAddr (pp q) 0x04C ≠ pageAddr p off := by
  simp only [freeReg, Bool.and_eq_true, decide_eq_true_eq] at h
  obtain ⟨⟨hlt, -⟩, hpage⟩ := h
  intro e
  obtain ⟨rfl, rfl⟩ := (pageAddr_inj (by decide) hlt).1 e
  exact absurd hpage (by simp)

theorem State.KeepsHouse.wr (h : s.KeepsHouse t) (p : Page) (off : Nat) (v : Word) (hx : freeReg p off = true) :
    s.KeepsHouse (t.wr (pageAddr p off) v) :=
  h.of_rd (fun _ _ k => t.rd_wr_ne _ _ _ (houseReg_ne_of_free hx k)) (fun q => t.rd_wr_ne _ _ _ (rxStat_ne_of_free hx q)) rfl rfl rfl

theorem State.KeepsHouse.setF (h : s.KeepsHouse t) (p : Page) {x : Fld} (v : Nat) (hx : freeReg p x.off = true) :
    s.KeepsHouse (t.setF p x v) := h.wr p x.off _ hx

theorem State.KeepsHouse.setB (h : s.KeepsHouse t) (p : Page) {x : Fld} (b : Bool) (hx : freeReg p x.off = true) :
    s.KeepsHouse (t.setB p x b) := h.setF p _ hx

theorem State.KeepsHouse.setS (h : s.KeepsHouse t) (p : Page) {x : Fld} (i : Int) (hx : freeReg p x.off = true) :
    s.KeepsHouse (t.setS p x i) := h.setF p _ hx

theorem State.KeepsHouse.inc (h : s.KeepsHouse t) (p : Page) {x : Fld} (hx : freeReg p x.off = true) : s.KeepsHouse (t.inc p x) :=
  h.setF p _ hx

theorem State.KeepsHouse.incW (h : s.KeepsHouse t) (p : Page) {x : Fld} (hx : freeReg p x.off = true) : s.KeepsHouse (t.incW p x) :=
  h.setF p _ hx

theorem houseReg_page {p : Page} {off : Nat} (h : houseReg p off = true) : off < 4096 ∧ 0x040 ≤ off := by
  simp only [houseReg, Bool.and_eq_true, decide_eq_true_eq] at h
  exact ⟨h.1.2, h.1.1⟩

/-- Registers of a path page go back to their reset values. -/
theorem State.KeepsHouse.rstRange (h : s.KeepsHouse t) (p : Path) (lo hi : Nat) (hlo : 0x04C < lo) (hhi : hi < 4096) :
    s.KeepsHouse (t.rstRange (pp p) lo hi) := by
  have hkept : ∀ a, ¬ (pageAddr (pp p) lo ≤ a ∧ a ≤ pageAddr (pp p) hi) → (t.rstRange (pp p) lo hi).rd a = t.rd a := fun a ha =>
    tabGet_filter_kept _ _ (fun b => !(decide (pageAddr (pp p) lo ≤ b) && decide (b ≤ pageAddr (pp p) hi))) (by
      rw [Bool.not_eq_true', Bool.and_eq_false_iff, decide_eq_false_iff_not, decide_eq_false_iff_not]
      exact not_and_or.1 ha)
  refine h.of_rd (fun q off k => hkept _ fun hin => ?_) (fun q => hkept _ fun hin => ?_) rfl rfl rfl
  · have hne : pageNum q ≠ pageNum (pp p) := fun e => by
      rw [pageNum_inj e] at k
      simp [houseReg] at k
    have := (houseReg_page k).1
    simp only [pageAddr] at hin
    omega
  · simp only [pageAddr, pageNum] at hin
    omega

theorem State.KeepsHouse.setPath (h : s.KeepsHouse t) (p : Path) (v : PathSt) : s.KeepsHouse (t.setPath p v) := h.of_regs rfl rfl rfl rfl

theorem State.KeepsHouse.modPath (h : s.KeepsHouse t) (p : Path) (f : PathSt → PathSt) : s.KeepsHouse (t.modPath p f) := h.setPath p _

theorem State.KeepsHouse.modSeg (h : s.KeepsHouse t) (p : Path) (f : SegSt → SegSt) : s.KeepsHouse (t.modSeg p f) := h.setPath p _

theorem State.KeepsHouse.setPort (h : s.KeepsHouse t) (k : Port) (v : PortSt) : s.KeepsHouse (t.setPort k v) := h.of_regs rfl rfl rfl rfl

theorem State.KeepsHouse.addCtr (h : s.KeepsHouse t) (p : Path) (i n : Nat) : s.KeepsHouse (t.addCtr p i n) := h.of_regs rfl rfl rfl rfl

theorem State.KeepsHouse.draw (h : s.KeepsHouse t) : s.KeepsHouse t.draw.2 := h.of_regs rfl rfl rfl rfl

theorem State.KeepsHouse.setGrp (h : s.KeepsHouse t) (g : Grp) (v : GroupSt) : s.KeepsHouse (t.setGrp g v) := h.of_regs rfl rfl rfl rfl

theorem State.KeepsHouse.modCal (h : s.KeepsHouse t) (g : Grp) (f : CalSt → CalSt) : s.KeepsHouse (t.modCal g f) := h.setGrp _ _

theorem State.KeepsHouse.modFlash (h : s.KeepsHouse t) (f : FlashSt → FlashSt) : s.KeepsHouse (t.modFlash f) := h.of_regs rfl rfl rfl rfl

theorem State.KeepsHouse.modReh (h : s.KeepsHouse t) (f : RehSt → RehSt) : s.KeepsHouse (t.modReh f) := h.of_regs rfl rfl rfl rfl

theorem State.KeepsHouse.setPend (h : s.KeepsHouse t) (p : Path) (v : List (Nat × List Int)) : s.KeepsHouse (t.setPend p v) :=
  h.of_regs rfl rfl rfl rfl

theorem State.KeepsHouse.setRamp (h : s.KeepsHouse t) (p : Path) (v : List (Nat × List Int)) : s.KeepsHouse (t.setRamp p v) :=
  h.of_regs rfl rfl rfl rfl

theorem State.KeepsHouse.putTrim (h : s.KeepsHouse t) (p : Path) (v : TrimSt) : s.KeepsHouse (t.putTrim p v) := h.of_regs rfl rfl rfl rfl

theorem State.KeepsHouse.setEng (h : s.KeepsHouse t) (e : Eng) {v : EngSt} (hv : (t.engRec e).Kept v) : s.KeepsHouse (t.setEng e v) := by
  refine h.trans ⟨fun _ _ _ => rfl, fun _ => id, fun d => ?_, rfl, rfl⟩
  by_cases hd : d = e
  · subst hd
    rw [show (t.setEng d v).engRec d = v from tabGet_tabSet_self _ _ _ _]
    exact hv
  · rw [show (t.setEng e v).engRec d = t.engRec d from tabGet_tabSet_ne _ _ _ _ _ fun hv => hd (Fin.ext hv)]
    exact .refl _

theorem State.KeepsHouse.modEng (h : s.KeepsHouse t) (e : Eng) {f : EngSt → EngSt} (hf : (t.engRec e).Kept (f (t.engRec e))) :
    s.KeepsHouse (t.modEng e f) := h.setEng e hf

theorem State.KeepsHouse.ite {c : Prop} [Decidable c] (h : s.KeepsHouse t) (k : s.KeepsHouse u) : s.KeepsHouse (if c then t else u) := by
  split <;> assumption

theorem State.KeepsHouse.foldl {α : Type} {f : State → α → State} (h : s.KeepsHouse t) (l : List α)
    (hf : ∀ a ∈ l, ∀ u : State, u.KeepsHouse (f u a)) : s.KeepsHouse (l.foldl f t) := by
  induction l generalizing t with
  | nil => exact h
  | cons a l ih => exact ih (h.trans (hf a List.mem_cons_self t)) fun b hb => hf b (List.mem_cons_of_mem _ hb)

theorem State.KeepsHouse.forAll {α : Type} {f : α → State → State} (h : s.KeepsHouse t) (l : List α)
    (hf : ∀ a (u : State), u.KeepsHouse (f a u)) : s.KeepsHouse (forAll l f t) := h.foldl l fun a _ u => hf a u

theorem houseReg_side {p : Page} {off : Nat} (h : houseReg p off = true) : pageAddr p off ∉ sideRegs := by
  obtain ⟨hlt, hlow⟩ := houseReg_page h
  have hpage : pageNum p ≠ 0 ∧ pageNum p ≠ 8 := by
    cases p <;> simp [houseReg, pageNum] at h ⊢
    omega
  simp only [sideRegs, pageAddr, List.mem_cons, List.not_mem_nil, or_false]
  omega

theorem rxStat_side (p : Path) : pageAddr (pp p) 0x04C ∉ sideRegs := by
  simp only [pageAddr, pageNum, sideRegs, List.mem_cons, List.not_mem_nil, or_false]
  omega

/-- A change that leaves every register but listed ones, the engines, the power die and the device's state as they were. -/
theorem State.KeepsHouse.of_frame {l : List Nat} (h : s.KeepsHouse t) (hf : t.Frame l u)
    (hl : ∀ p off, houseReg p off = true → pageAddr p off ∉ l) (hrx : ∀ p : Path, pageAddr (pp p) 0x04C ∉ l) (he : u.engines = t.engines)
    (hs : u.supply = t.supply) (hd : u.device = t.device) : s.KeepsHouse u := by
  exact h.of_rd (fun p off k => hf.1 _ (hl p off k) (houseReg_side k)) (fun p => hf.1 _ (hrx p) (rxStat_side p)) he hs hd

/-- One register of a page's header, and every record. -/
theorem State.KeepsHouse.of_header {p : Page} {off : Nat} (h : s.KeepsHouse t) (hoff : off < 0x040) (hf : t.Frame [pageAddr p off] u)
    (hr : t.SameRest u) : s.KeepsHouse u := by
  simp only [State.SameRest] at hr
  refine h.of_frame hf (fun q o k hm => ?_) (fun q hm => ?_) (by simp only [hr]) (by simp only [hr]) (by simp only [hr])
  · obtain ⟨hlt, hlow⟩ := houseReg_page k
    have := ((pageAddr_inj hlt (by omega)).1 (List.mem_singleton.1 hm)).2
    omega
  · have := ((pageAddr_inj (by decide) (by omega)).1 (List.mem_singleton.1 hm)).2
    omega

theorem State.KeepsHouse.raise (h : s.KeepsHouse t) (p : Page) (bit : Nat) : s.KeepsHouse (t.raise p bit) :=
  h.of_header (by decide) (t.raise_spec p bit).1 (t.raise_spec p bit).2

theorem State.KeepsHouse.raiseIf (h : s.KeepsHouse t) (b : Bool) (p : Page) (bit : Nat) : s.KeepsHouse (t.raiseIf b p bit) :=
  .ite (h.raise p bit) h

theorem State.KeepsHouse.viol (h : s.KeepsHouse t) (p : Page) (k : Viol) : s.KeepsHouse (t.viol p k) :=
  h.of_header (by cases k <;> decide) ((State.Frame.refl t _).viol p k (.inl List.mem_cons_self)) ((State.SameRest.refl t).viol p k)

/-- Bytes of a memory window. -/
theorem State.KeepsHouse.msetList (h : s.KeepsHouse t) (a : Nat) (l : List Byte) : s.KeepsHouse (t.msetList a l) := by
  obtain ⟨hrd, -, hrest⟩ := t.msetList_spec a l
  simp only [State.SameRest] at hrest
  have hne : ∀ b, b ∉ sideRegs → b ≠ 0x0C4 := fun b hb e => hb (by rw [e]; decide)
  exact h.of_rd (fun p off k => hrd _ (hne _ (houseReg_side k))) (fun p => hrd _ (hne _ (rxStat_side p))) (by simp only [hrest])
    (by simp only [hrest]) (by simp only [hrest])

theorem State.KeepsHouse.mwordSet (h : s.KeepsHouse t) (a : Nat) (w : Word) : s.KeepsHouse (t.mwordSet a w) := h.msetList a _

theorem State.KeepsHouse.mfieldSet (h : s.KeepsHouse t) (a hi lo v : Nat) : s.KeepsHouse (t.mfieldSet a hi lo v) := h.msetList a _

/-- Clock recovery loses lock. -/
theorem State.KeepsHouse.unlock (h : s.KeepsHouse t) (p : Path) : s.KeepsHouse (t.setF (pp p) PathR.RX_STAT_CDR_LOCK 0) := by
  refine h.trans ⟨fun q off k => t.rd_wr_ne _ _ _ fun e => ?_, fun q hq => ?_, fun _ => .refl _, rfl, rfl⟩
  · obtain ⟨rfl, rfl⟩ := (pageAddr_inj (houseReg_page k).1 (by decide)).1 e
    simp [houseReg] at k
  · by_cases hqp : q = p
    · subst hqp
      rw [State.lock, State.on, State.f_setF_self _ _ _ _ (by decide) (by decide)]
      rfl
    · have hne : pageAddr (pp q) PathR.RX_STAT_CDR_LOCK.off ≠ pageAddr (pp p) PathR.RX_STAT_CDR_LOCK.off := fun e => by
        have := ((pageAddr_inj (by decide) (by decide)).1 e).1
        exact hqp (Page.path.inj this)
      rw [State.lock, State.on, State.f_setF_ne _ _ _ _ _ _ hne, ← State.on]
      exact hq

/-- What the flash's queue touches. -/
theorem State.KeepsHouse.of_serve {P : HouseParts} (h : s.KeepsHouse t) (ht : t.HouseTouches P [] (serveRegs ++ keyRegs) u)
    (hs : P.supply = false) (hd : P.device = false) (he : P.engines = false) : s.KeepsHouse u := by
  obtain ⟨hf, hr, -⟩ := ht
  simp only [State.SameRest] at hr
  have hparts : u.engines = (t.withHouse P u).engines ∧ u.supply = (t.withHouse P u).supply ∧ u.device = (t.withHouse P u).device := by
    simp only [hr, and_self]
  simp only [State.withHouse, hs, hd, he, cond_false] at hparts
  obtain ⟨hengines, hsupply, hdevice⟩ := hparts
  have hout : ∀ q offs p off, off < 4096 → (∀ o ∈ offs, o < 4096) → (q = p → off ∉ offs) → pageAddr p off ∉ regsOf q offs :=
    fun q offs p off hlt hall hne hm => by
      obtain ⟨o, ho, he⟩ := List.mem_map.1 hm
      obtain ⟨rfl, rfl⟩ := (pageAddr_inj (hall o ho) hlt).1 he
      exact hne rfl ho
  have hkey : ∀ o ∈ [0x010, 0x048] ++ (List.range 29).map (0x050 + ·), o < 4096 := by decide
  have hnone : ∀ p off, off < 4096 → (p = .cal → off ≠ 0x044) → p ≠ .nvm → p ≠ .reh → p ≠ .sec → pageAddr p off ∉ serveRegs ++ keyRegs :=
    fun p off hlt hcal hnvm hreh hsec => by
      simp only [serveRegs, nvmRegs, keyRegs, List.mem_append, not_or, and_assoc]
      exact ⟨hout _ _ _ _ hlt (by decide) fun e => absurd e.symm hnvm, hout _ _ _ _ hlt (by decide) fun e hm =>
        hcal e.symm (List.mem_singleton.1 hm), hout _ _ _ _ hlt (by decide) fun e => absurd e.symm hreh,
        hout _ _ _ _ hlt hkey fun e => absurd e.symm hsec⟩
  refine h.of_frame hf (fun p off k => hnone p off (houseReg_page k).1 ?_ ?_ ?_ ?_)
    (fun p => hnone _ _ (by decide) (by simp) (by simp) (by simp) (by simp)) hengines hsupply hdevice
  · rintro rfl rfl
    exact absurd k (by decide)
  all_goals
    rintro rfl
    simp [houseReg] at k

/-! ### Pinning (R152, R160) -/

theorem State.newWindow_keepsHouse (s : State) (p : Path) : s.KeepsHouse (s.newWindow p) := (State.KeepsHouse.refl s).modPath p _

theorem State.pinTo_keepsHouse (s : State) (p : Path) (st : Nat) : s.KeepsHouse (s.pinTo p st) :=
  ((State.KeepsHouse.refl s).setF _ _ rfl).modPath p _

theorem State.enterUnverified_keepsHouse (s : State) (p : Path) (cause : Nat) : s.KeepsHouse (s.enterUnverified p cause) :=
  (((s.pinTo_keepsHouse p _).setF _ _ rfl).modPath p _).raise _ _

theorem State.setAdj_keepsHouse (s : State) (p : Path) (a : Int) : s.KeepsHouse (s.setAdj p a) :=
  ((((State.KeepsHouse.refl s).setS _ _ rfl).setB _ _ rfl).setB _ _ rfl).raiseIf _ _ _

theorem State.piHold_keepsHouse (s : State) (p : Path) : s.KeepsHouse (s.piHold p) := (State.KeepsHouse.refl s).draw.modPath p _

theorem State.discard_keepsHouse (s : State) (p : Path) : s.KeepsHouse (s.discard p) :=
  (((State.KeepsHouse.refl s).modPath p _).trans (State.newWindow_keepsHouse _ p)).trans (State.pinTo_keepsHouse _ p _)

theorem State.place_keepsHouse (s : State) (p : Path) : s.KeepsHouse (s.place p) := by
  unfold State.place
  extract_lets held st placed opened
  have hset : s.KeepsHouse ((((s.setF (pp p) PathR.PIN_HELD_HELD held).setF (pp p) PathR.PIN_STAT_PENDING 0).setF (pp p)
      PathR.PIN_PLACE_READ_OFS (enc 14 (st / 64))).setF (pp p) PathR.PIN_PLACE_PHASE (enc 6 (st % 64))) :=
    ((((State.KeepsHouse.refl s).setF _ _ rfl).setF _ _ rfl).setF _ _ rfl).setF _ _ rfl
  have hplaced : s.KeepsHouse placed := (hset.trans (State.setAdj_keepsHouse _ p 0)).inc _ rfl
  have hopened : s.KeepsHouse opened := (hplaced.modPath p _).trans (State.newWindow_keepsHouse _ p)
  exact .ite (hopened.trans (State.pinTo_keepsHouse _ p _)) (hopened.trans (State.enterUnverified_keepsHouse _ p _))

theorem State.settleStage_keepsHouse (s : State) (p : Path) : s.KeepsHouse (s.settleStage p) := by
  unfold State.settleStage
  exact .ite (.ite (s.discard_keepsHouse p) (.refl s)) (.ite (.refl s) (s.place_keepsHouse p))

/-! ### Transmit frames and framing (R182, R249) -/

theorem State.txDone_keepsHouse (s : State) (k : Port) (x : Bool × Nat) (status : Nat) (ts : BitVec 128) :
    s.KeepsHouse (s.txDone k x status ts) := by
  have hoff : ∀ off, off < 4096 → freeReg .frame off = true := fun off h => by simp [freeReg, houseReg, h]
  unfold State.txDone
  extract_lets a wait described stamped port taken counted
  have hdescribed : s.KeepsHouse described := (((State.KeepsHouse.refl s).mfieldSet _ _ _ _).mfieldSet _ _ _ _).mwordSet _ _
  have hstamped : s.KeepsHouse stamped := hdescribed.msetList _ _
  have htaken : s.KeepsHouse taken := .ite (hstamped.setPort _ _)
    ((hstamped.incW _ (hoff _ (by simp only [FrameR.TX_IDX_TX_HEAD]; omega))).setPort _ _)
  have hcounted : s.KeepsHouse counted := .ite (htaken.inc _ (hoff _ (by simp only [FrameR.TX_CNT_SENT]; omega)))
    (htaken.inc _ (hoff _ (by simp only [FrameR.TX_CNT_DROPPED]; omega)))
  exact (hcounted.raise _ _).raiseIf _ _ _

theorem State.insertCut_keepsHouse (s : State) (p : Path) : s.KeepsHouse (s.insertCut p) := by
  unfold State.insertCut
  refine .foldl (.refl s) _ fun k _ u => .ite ?_ (.refl u)
  split
  · exact u.txDone_keepsHouse k _ _ _
  · exact .refl u

theorem State.framingLose_keepsHouse (s : State) (p : Path) : s.KeepsHouse (s.framingLose p) := by
  unfold State.framingLose State.degClear
  exact .ite ((((((State.KeepsHouse.refl s).setF _ _ rfl).addCtr _ _ _).modPath p _).modPath p _).raise _ _) (.refl s)

theorem State.ethStat_keepsHouse (s : State) (p : Path) (e : BitVec 3) (frm : Bool) : s.KeepsHouse (s.ethStat p e frm) := by
  unfold State.ethStat
  exact .ite (.refl s) ((((State.KeepsHouse.refl s).setB _ _ rfl).setB _ _ rfl).setB _ _ rfl)

theorem State.convLose_keepsHouse (s : State) (p : Path) (from_ : Nat) : s.KeepsHouse (s.convLose p from_) := by
  unfold State.convLose
  extract_lets emb mb
  have hemb : s.KeepsHouse emb := ((State.KeepsHouse.refl s).setF _ _ rfl).modPath p _
  have hmb : s.KeepsHouse mb := .ite (hemb.setF _ _ rfl) hemb
  exact .ite ((hmb.setF _ _ rfl).trans (State.framingLose_keepsHouse _ p)) hmb

theorem State.framingLost_keepsHouse (s : State) (p : Path) (e : BitVec 3) (cut : Bool) : s.KeepsHouse (s.framingLost p e cut) := by
  unfold State.framingLost
  extract_lets lost
  have hlost : s.KeepsHouse lost := .ite (s.convLose_keepsHouse p 0) ((s.ethStat_keepsHouse p e false).trans (State.framingLose_keepsHouse _ p))
  exact .ite (hlost.trans (lost.insertCut_keepsHouse p)) hlost

/-! ### Rotation (R95) -/

theorem State.rotAborted_keepsHouse (s : State) (p : Path) (cause : Nat) : s.KeepsHouse (s.rotAborted p cause) := by
  unfold State.rotAborted State.rotRest
  exact (((((State.KeepsHouse.refl s).modPath p _).setF _ _ rfl).inc _ rfl).setF _ _ rfl).raise _ _

theorem State.rotAbandon_keepsHouse (s : State) (p : Path) (cause : Nat) : s.KeepsHouse (s.rotAbandon p cause) :=
  .ite (s.rotAborted_keepsHouse p cause) (.refl s)

/-! ### Training (R108 to R141) -/

theorem State.setTaps_keepsHouse (s : State) (q : Path) (l : List Int) : s.KeepsHouse (s.setTaps q l) := by
  have htap : ∀ x ∈ tapFlds, x.off < 4096 ∧ x.off ≠ 0x04C := by decide
  exact .foldl (.refl s) _ fun e he u => (State.KeepsHouse.refl u).setS _ _
    (freeReg_path _ (htap _ (List.of_mem_zip he).1).1 (htap _ (List.of_mem_zip he).1).2)

theorem State.presetNow_keepsHouse (s : State) (p : Path) (n : Nat) : s.KeepsHouse (s.presetNow p n) := by
  have hbad : ∀ (u : State) (v : Nat), u.KeepsHouse (u.setF (pp p) PathR.TRN_STAT_USER_BAD v) := fun u v => (State.KeepsHouse.refl u).setF _ _ rfl
  unfold State.presetNow
  exact .ite ((s.setTaps_keepsHouse _ _).trans (hbad _ _)) (.ite ((s.setTaps_keepsHouse _ _).trans (hbad _ _)) (s.setTaps_keepsHouse _ _))

theorem State.presetApply_keepsHouse (s : State) (p : Path) (n : Nat) : s.KeepsHouse (s.presetApply p n) :=
  .ite ((State.KeepsHouse.refl s).modSeg p _) (((State.KeepsHouse.refl s).modSeg p _).trans (State.presetNow_keepsHouse _ p n))

theorem State.segClear_keepsHouse (s : State) (p : Path) : s.KeepsHouse (s.segClear p) :=
  ((((State.KeepsHouse.refl s).setF _ _ rfl).setF _ _ rfl).setF _ _ rfl).modSeg p _

theorem State.segSet_keepsHouse (s : State) (p : Path) (st : Nat) : s.KeepsHouse (s.segSet p st) := (State.KeepsHouse.refl s).setF _ _ rfl

theorem State.segWait_keepsHouse (s : State) (p : Path) : s.KeepsHouse (s.segWait p) := by
  have hwait : s.KeepsHouse ((s.segClear p).segSet p sgWait) := (s.segClear_keepsHouse p).trans (State.segSet_keepsHouse _ p _)
  exact .ite (hwait.modSeg _ _) hwait

theorem State.seedRx_keepsHouse (s : State) (p : Path) : s.KeepsHouse (s.seedRx p) := by
  unfold State.seedRx
  refine .ite (.refl s) ?_
  have hreset : s.KeepsHouse (((s.rstReg (pp p) 0x040).rstRange (pp p) 0x100 0x13C).rstReg (pp p) 0x140) :=
    (((State.KeepsHouse.refl s).wr _ _ _ rfl).rstRange _ _ _ (by decide) (by decide)).wr _ _ _ rfl
  dsimp only
  split
  · refine .foldl ((hreset.wr _ _ _ rfl).wr _ _ _ rfl) _ fun e he u => (State.KeepsHouse.refl u).wr _ _ _ ?_
    have hk := List.mem_range.1 (List.of_mem_zip he).1
    exact freeReg_path _ (by omega) (by omega)
  · exact hreset

theorem State.segInit_keepsHouse (s : State) (p : Path) : s.KeepsHouse (s.segInit p) := by
  unfold State.segInit
  have hinit := (((State.KeepsHouse.refl s).draw.trans (State.segClear_keepsHouse _ p)).trans (State.segSet_keepsHouse _ p sgInit))
  exact ((hinit.modSeg p _).trans (State.seedRx_keepsHouse _ p)).trans (State.presetApply_keepsHouse _ p _)

theorem State.segAcquire_keepsHouse (s : State) (p : Path) : s.KeepsHouse (s.segAcquire p) := by
  unfold State.segAcquire
  exact (((s.segClear_keepsHouse p).trans (State.segSet_keepsHouse _ p _)).modSeg p _).trans (State.presetApply_keepsHouse _ p _)

theorem State.waitRow_keepsHouse (s : State) (p : Path) : s.KeepsHouse (s.waitRow p) :=
  .ite (.refl s) (.ite (s.segAcquire_keepsHouse p) (.ite (.refl s) (s.segInit_keepsHouse p)))

theorem State.readyRow_keepsHouse (s : State) (p : Path) : s.KeepsHouse (s.readyRow p) := by
  unfold State.readyRow
  refine .ite (.refl s) ?_
  extract_lets exch st ready
  have hexch : s.KeepsHouse exch := .ite (s.segSet_keepsHouse p _) (.refl s)
  have hready : s.KeepsHouse ready :=
    .ite (hexch.trans (State.segSet_keepsHouse _ p _)) (.ite (hexch.trans (State.segSet_keepsHouse _ p _)) hexch)
  exact .ite ((hready.trans (State.segSet_keepsHouse _ p _)).modSeg p _) hready

theorem State.setupRow_keepsHouse (s : State) (p : Path) : s.KeepsHouse (s.setupRow p) := .ite (s.segInit_keepsHouse p) (.refl s)

theorem State.dropLock_keepsHouse (s : State) (p : Path) (fault : Bool) : s.KeepsHouse (s.dropLock p fault) := by
  unfold State.dropLock
  refine .ite (.refl s) ?_
  have hheld := ((State.KeepsHouse.refl s).unlock p).trans (State.piHold_keepsHouse _ p)
  exact ((hheld.trans (State.rotAbandon_keepsHouse _ p 1)).trans (State.framingLost_keepsHouse _ p 0 false)).raiseIf _ _ _

theorem State.relayBegin_keepsHouse (s : State) (n : Lane) : s.KeepsHouse (s.relayBegin n) := by
  have hdropped := (s.dropLock_keepsHouse (pathAB n) false).trans (State.dropLock_keepsHouse _ (pathBA n) false)
  have hset := (hdropped.trans (State.segSet_keepsHouse _ (pathAB n) sgRelay)).trans (State.segSet_keepsHouse _ (pathBA n) sgRelay)
  exact ((hset.setF _ _ rfl).setF _ _ rfl).setF _ _ rfl

theorem State.relayRow_keepsHouse (s : State) (n : Lane) : s.KeepsHouse (s.relayRow n) := .ite (s.relayBegin_keepsHouse n) (.refl s)

theorem State.disableRow_keepsHouse (s : State) (p : Path) : s.KeepsHouse (s.disableRow p) :=
  .ite (.ite (.refl s) ((s.segClear_keepsHouse p).trans (State.segSet_keepsHouse _ p _))) (.ite (s.segWait_keepsHouse p) (.refl s))

theorem State.settlePath_keepsHouse (s : State) (p : Path) : s.KeepsHouse (s.settlePath p) := by
  unfold State.settlePath
  exact (State.KeepsHouse.ite (s.dropLock_keepsHouse p _) (.refl s)).trans (State.settleStage_keepsHouse _ p)

theorem State.readyPair_keepsHouse (s : State) (n : Lane) : s.KeepsHouse (s.readyPair n) :=
  (((s.readyRow_keepsHouse _).trans (State.readyRow_keepsHouse _ _)).trans (State.readyRow_keepsHouse _ _)).trans (State.readyRow_keepsHouse _ _)

theorem State.settle_keepsHouse (s : State) (n : Lane) : s.KeepsHouse (s.settle n) := by
  unfold State.settle
  extract_lets a b disabled trained ready
  have hdisabled : s.KeepsHouse disabled := (s.disableRow_keepsHouse a).trans (State.disableRow_keepsHouse _ b)
  have hwait := ((hdisabled.trans (State.relayRow_keepsHouse _ n)).trans (State.waitRow_keepsHouse _ a)).trans (State.waitRow_keepsHouse _ b)
  have htrained : s.KeepsHouse trained := (hwait.trans (State.setupRow_keepsHouse _ a)).trans (State.setupRow_keepsHouse _ b)
  have hready : s.KeepsHouse ready := htrained.trans (State.readyPair_keepsHouse _ n)
  exact (hready.trans (State.settlePath_keepsHouse _ a)).trans (State.settlePath_keepsHouse _ b)

theorem State.settleGrp_keepsHouse (s : State) (g : Grp) : s.KeepsHouse (s.settleGrp g) :=
  (State.KeepsHouse.refl s).forAll _ fun _ u => u.settle_keepsHouse _

/-! ### An engine's commands (R294) -/

theorem EngSt.Kept.answers (x : EngSt) (rs hs : List (BitVec 128)) : x.Kept { x with rspq := rs, held := hs } :=
  ⟨rfl, rfl, rfl, rfl, id, id⟩

theorem State.postAnswer_keepsHouse (s : State) (e : Eng) (r : BitVec 128) : s.KeepsHouse (s.postAnswer e r) := by
  have hset : ∀ rs hs, s.KeepsHouse (s.setEng e { s.engRec e with rspq := rs, held := hs }) := fun rs hs =>
    (State.KeepsHouse.refl s).setEng e (.answers _ rs hs)
  unfold State.postAnswer
  exact .ite ((hset _ _).raise _ _) (hset _ _)

theorem State.answerCmd_keepsHouse (s : State) (e : Eng) (c : BitVec 128) (epoch status detail : Nat) (r0 r1 : Word) :
    s.KeepsHouse (s.answerCmd e c epoch status detail r0 r1) := by
  unfold State.answerCmd
  exact .ite (s.postAnswer_keepsHouse e _) ((s.postAnswer_keepsHouse e _).inc _ rfl)

theorem State.releaseLong_keepsHouse (s : State) (e : Eng) : s.KeepsHouse (s.releaseLong e) :=
  (State.KeepsHouse.refl s).forAll _ fun _ u => .ite ((State.KeepsHouse.refl u).setGrp _ _) (.refl u)

theorem State.abortLong_keepsHouse (s : State) (e : Eng) : s.KeepsHouse (s.abortLong e) := by
  have hdraw := (State.KeepsHouse.refl s).draw
  unfold State.abortLong State.endLong
  dsimp only
  split
  · exact hdraw
  · exact ((hdraw.modEng e ⟨rfl, rfl, rfl, rfl, id, fun _ => rfl⟩).trans (State.releaseLong_keepsHouse _ e)).trans (State.answerCmd_keepsHouse _ e _ _ _ _ _ _)

theorem State.calCmdEnd_keepsHouse (s : State) (g : Grp) (done : Bool) : s.KeepsHouse (s.calCmdEnd g done) := by
  unfold State.calCmdEnd
  refine (State.KeepsHouse.refl s).forAll _ fun e u => ?_
  split
  next l hl =>
    have hlong : (u.engRec e).long ≠ none := by simp [hl]
    exact .ite (.ite ((State.KeepsHouse.refl u).modEng e ⟨rfl, rfl, rfl, rfl, id, fun h => absurd h hlong⟩) (u.abortLong_keepsHouse e)) (.refl u)
  · exact .refl u

/-! ### The flash queue (R340, R350) -/

theorem State.flashServe_keepsHouse (s : State) : s.KeepsHouse s.flashServe :=
  (State.KeepsHouse.refl s).of_serve (State.flashServe_touches (P := { flash := true, reh := true, security := true }) rfl
    (fun _ ha => List.mem_append_left _ ha) rfl (by decide) (.inr ⟨rfl, fun _ ha => List.mem_append_right _ ha⟩)) rfl rfl rfl

theorem State.flashQueue_keepsHouse (s : State) (op : FlashOp) : s.KeepsHouse (s.flashQueue op) :=
  ((State.KeepsHouse.refl s).modFlash _).trans (State.flashServe_keepsHouse _)

/-! ### Calibration (R383 to R386) -/

theorem State.setTrim_keepsHouse (s : State) (p : Path) (v : TrimSt) : s.KeepsHouse (s.setTrim p v) :=
  .ite (.refl s) ((((State.KeepsHouse.refl s).putTrim p v).setF _ _ rfl).modFlash _)

theorem State.calApply_keepsHouse (s : State) (g : Grp) : s.KeepsHouse (s.calApply g) :=
  (State.KeepsHouse.refl s).forAll _ fun p u => (u.setTrim_keepsHouse p _).setPend p _

theorem State.calAbandon_keepsHouse (s : State) (g : Grp) (keep : Bool) : s.KeepsHouse (s.calAbandon g keep) := by
  unfold State.calAbandon
  refine .ite (.refl s) ?_
  extract_lets c ramped kept
  have hramped : s.KeepsHouse ramped :=
    ((State.KeepsHouse.refl s).setF (gp g) (x := GroupR.CAL_STAT_STATE) 0 rfl).forAll _ fun p u => (State.KeepsHouse.refl u).setRamp p _
  have hkept : s.KeepsHouse kept := .ite ((hramped.modCal g _).setF _ _ rfl) hramped
  exact .ite (hkept.trans (State.calCmdEnd_keepsHouse _ g false)) hkept

theorem State.needRaise_keepsHouse (s : State) (g : Grp) (before : List Bool) : s.KeepsHouse (s.needRaise g before) :=
  .ite (((State.KeepsHouse.refl s).raise _ _).raise _ _) (.refl s)

theorem State.calAutoStore_keepsHouse (s : State) : s.KeepsHouse s.calAutoStore :=
  .ite (((State.KeepsHouse.refl s).setF _ _ rfl).trans (State.flashQueue_keepsHouse _ _)) (.refl s)

theorem State.calComplete_keepsHouse (s : State) (g : Grp) : s.KeepsHouse (s.calComplete g) := by
  unfold State.calComplete
  extract_lets c noted told
  have hnoted : s.KeepsHouse noted := ((((State.KeepsHouse.refl s).setF _ _ rfl).inc _ rfl).setF _ _ rfl).setF _ _ rfl
  have htold : s.KeepsHouse told := ((hnoted.modCal g _).raise _ _).raise _ _
  exact (State.KeepsHouse.ite (htold.trans (State.calCmdEnd_keepsHouse _ g true)) htold).trans (State.calAutoStore_keepsHouse _)

theorem State.sweepBegin_keepsHouse (s : State) (p : Path) : s.KeepsHouse (s.sweepBegin p) := .ite (.refl s) ((State.KeepsHouse.refl s).modPath p _)

theorem State.calNext_keepsHouse (s : State) (g : Grp) : s.KeepsHouse (s.calNext g) := by
  unfold State.calNext State.calBlocksDone
  extract_lets b begun
  have hbegun : s.KeepsHouse begun := ((State.KeepsHouse.refl s).setF _ _ rfl).modCal g _
  refine .ite (.ite ((State.KeepsHouse.refl s).setF _ _ rfl) (s.calComplete_keepsHouse g)) (.ite ?_ hbegun)
  exact hbegun.forAll _ fun p u => .ite (u.sweepBegin_keepsHouse p) (.refl u)

theorem State.calStart_keepsHouse (s : State) (g : Grp) (trig : Nat) (ramp : Bool) (mask : Nat) : s.KeepsHouse (s.calStart g trig ramp mask) := by
  unfold State.calStart
  extract_lets mask before undone begun
  have hundone : s.KeepsHouse undone := (State.KeepsHouse.refl s).forAll _ fun p u => (State.KeepsHouse.refl u).wr (gp (pathGrp p)) 0x1A4 _ rfl
  have hbegun : s.KeepsHouse begun := ((hundone.setF _ _ rfl).setF _ _ rfl).modCal g _
  exact (hbegun.trans (State.needRaise_keepsHouse _ g _)).trans (State.calNext_keepsHouse _ g)

theorem State.calTrigger_keepsHouse (s : State) (g : Grp) (trig : Nat) (ramp : Bool) (mask : Nat) :
    s.KeepsHouse (s.calTrigger g trig ramp mask) := by
  have hnoted : s.KeepsHouse (s.setF (gp g) GroupR.CAL_STAT_LAST_TRIG trig) := (State.KeepsHouse.refl s).setF _ _ rfl
  exact .ite ((hnoted.modCal g _).setF _ _ rfl) (hnoted.trans (State.calStart_keepsHouse _ g _ _ _))


/-! ### Groups (R34, R95, R361 to R369, R386) -/

theorem State.calRecover_keepsHouse (s : State) (g : Grp) : s.KeepsHouse (s.calRecover g) := s.calTrigger_keepsHouse g 7 true _

theorem State.holdBegun_keepsHouse (s : State) (g : Grp) : s.KeepsHouse (s.holdBegun g) := by
  unfold State.holdBegun State.holdRot State.calSettle
  have hrot := (State.KeepsHouse.refl s).forAll (f := fun p u => if u.inHold (pp p) then u.rotAbandon p 2 else u) (grpPaths g)
    fun p u => .ite (u.rotAbandon_keepsHouse p 2) (.refl u)
  exact hrot.trans (.ite (State.calAbandon_keepsHouse _ g true) (.refl _))

theorem State.enterDown_keepsHouse (s : State) (g : Grp) (st cause : Nat) : s.KeepsHouse (s.enterDown g st cause) := by
  unfold State.enterDown
  extract_lets was named record begun cut
  have hbegun : s.KeepsHouse begun := (((State.KeepsHouse.refl s).setF _ _ rfl).setF _ _ rfl).setGrp g _
  have hpath : ∀ (p : Path) (u : State), u.KeepsHouse ((u.rotAbandon p 3).capStopReq p) := fun p u =>
    (u.rotAbandon_keepsHouse p 3).trans (.ite ((State.KeepsHouse.refl _).modPath p _) (.refl _))
  have hcut : s.KeepsHouse cut :=
    .ite (((hbegun.forAll _ hpath).trans (State.calAbandon_keepsHouse _ g true)).trans (State.calApply_keepsHouse _ g)) hbegun
  exact hcut.trans (State.settleGrp_keepsHouse cut g)

theorem State.exitBegin_keepsHouse (s : State) (g : Grp) (cause : Nat) : s.KeepsHouse (s.exitBegin g cause) := by
  unfold State.exitBegin
  extract_lets off named record begun unpinned told
  have hbegun : s.KeepsHouse begun := (((State.KeepsHouse.refl s).setF _ _ rfl).setF _ _ rfl).setGrp g _
  have hunpinned : s.KeepsHouse unpinned := hbegun.forAll _ fun p u =>
    (State.KeepsHouse.refl u).setF (pp p) (x := PathR.SVC_STAT_TO_PINNED_US) _ rfl
  have htold : s.KeepsHouse told := .ite ((hunpinned.raise _ _).raise _ _) hunpinned
  exact .ite (htold.trans (State.calRecover_keepsHouse _ g)) htold

theorem State.pwBegin_keepsHouse (s : State) (g : Grp) (rq cause : Nat) (byHost : Bool) : s.KeepsHouse (s.pwBegin g rq cause byHost) := by
  unfold State.pwBegin
  extract_lets record named st
  have hnamed : s.KeepsHouse named := (State.KeepsHouse.refl s).setGrp g _
  exact .ite (hnamed.trans (named.enterDown_keepsHouse g _ _)) (.ite (hnamed.trans (named.enterDown_keepsHouse g _ _))
    (hnamed.trans (named.exitBegin_keepsHouse g _)))

theorem State.pwRequest_keepsHouse (s : State) (g : Grp) (rq cause : Nat) (byHost : Bool) :
    s.KeepsHouse (s.pwRequest g rq cause byHost) := by
  have hpend : s.KeepsHouse (s.pwPend g rq cause byHost) :=
    (State.KeepsHouse.ite ((State.KeepsHouse.refl s).inc _ rfl) (.refl s)).setGrp _ _
  exact .ite (.refl s) (.ite ((State.KeepsHouse.refl s).viol _ _) (.ite hpend (.ite (.refl s) (s.pwBegin_keepsHouse g rq cause byHost))))

theorem State.pwTakePend_keepsHouse (s : State) (g : Grp) : s.KeepsHouse (s.pwTakePend g) := by
  unfold State.pwTakePend
  split
  · exact .refl s
  · have htaken := (State.KeepsHouse.refl s).setGrp g { s.grp g with pend := none }
    exact .ite htaken (htaken.trans (State.pwRequest_keepsHouse _ g _ _ _))

theorem State.levelAct_keepsHouse (s : State) (g : Grp) : s.KeepsHouse (s.levelAct g) := .ite (s.pwBegin_keepsHouse g _ _ _) (.refl s)

theorem State.pwBusyEnd_keepsHouse (s : State) (g : Grp) : s.KeepsHouse (s.pwBusyEnd g) :=
  .ite ((s.pwTakePend_keepsHouse g).trans (State.levelAct_keepsHouse _ g)) (.refl s)

theorem State.KeepsHouse.setBusy (h : s.KeepsHouse t) (p : Page) (b : Busy) : s.KeepsHouse (t.setBusy p b) := h.of_regs rfl rfl rfl rfl

theorem State.grpFree_keepsHouse (s : State) (g : Grp) : s.KeepsHouse (s.grpFree g) :=
  (((State.KeepsHouse.refl s).forAll _ fun p u => (State.KeepsHouse.refl u).setBusy p .no).trans (State.settleGrp_keepsHouse _ g)).trans
    (State.pwBusyEnd_keepsHouse _ g)

end Sys2Proof.Machine

end

section
/-!
SUPPORT. The inputs of the power die and their selection (R334 to R336), and the test of the hold-up bank (R340).
-/

-- Proofs are elaborated one at a time: side by side their threads reserve more memory than a check has.
set_option Elab.async false

namespace Sys2Proof.Machine

variable {P : HouseParts} {es : List Eng} {l : List Nat} {s t u : State}

/-! ### The inputs (R334 to R336) -/

theorem State.houseOn_of_ready (h : s.device = .ready) : s.houseOn = true := by simp [State.houseOn, h]

/-- The fields of the power die that a change of the inputs writes. -/
def inputFlds : List Fld := [SupplyR.SUP_STAT_SEL, SupplyR.SUP_STAT_RET_WAIT, SupplyR.RAIL_STAT_IN_WIN, SupplyR.SUP_CNT_SWITCHES,
  SupplyR.SUP_CNT_A_LOSSES, SupplyR.SUP_CNT_B_LOSSES, SupplyR.SUP_STAT_A_SEEN, SupplyR.SUP_STAT_B_SEEN]

/-- The fields that tell of an input's quality are apart from them. -/
theorem goodFld_apart (b : Bool) : ∀ x ∈ inputFlds, apart x (goodFld b) = true := by cases b <;> decide

theorem State.good_setF (s : State) (b : Bool) {x : Fld} (v : Nat) (hx : x ∈ inputFlds) : (s.setF .supply x v).good b = s.good b :=
  s.on_setF_apart _ _ v (goodFld_apart b x hx)

theorem State.good_raise (s : State) (b : Bool) (bit : Nat) : (s.raise .supply bit).good b = s.good b := by
  have hreg : pageAddr .supply (goodFld b).off ∉ sideRegs ∧ pageAddr .supply (goodFld b).off ≠ pageAddr .supply 0x010 := by
    cases b <;> decide
  rw [State.good, State.on, State.f, State.rd_raise _ _ _ _ hreg.1 hreg.2, ← State.f, ← State.on, ← State.good]

theorem State.good_set (s : State) (b v : Bool) : (s.setF .supply (goodFld b) (b2n v)).good b = v := by
  rw [State.good, State.on, State.f_setF_self _ _ _ _ (by cases b <;> decide) (by cases b <;> decide)]
  cases b <;> cases v <;> rfl

theorem State.good_switchTo (s : State) (b c : Bool) : (s.switchTo b).good c = s.good c := by
  unfold State.switchTo
  extract_lets moved
  have hmoved : moved.good c = s.good c := by rw [State.good_setF _ _ _ (by decide), State.good_setF _ _ _ (by decide)]
  clear_value moved
  split
  · rfl
  · split
    · rw [State.good_raise, State.inc, State.add, State.good_setF _ _ _ (by decide), hmoved]
    · exact hmoved

/-- An input that comes good is good. -/
theorem State.good_inputGood (h : s.good b = false) : (s.inputGood b).good b = true := by
  unfold State.inputGood
  extract_lets seen
  have hseen : seen.good b = true := by
    rw [State.good_setF _ _ _ (by cases b <;> decide)]
    exact s.good_set b true
  clear_value seen
  have hset : ∀ (x : Fld) (v : Nat), x ∈ inputFlds → (seen.setF .supply x v).good b = true := fun x v hx => by
    rw [State.good_setF _ _ _ hx, hseen]
  rw [if_neg (by simp [h])]
  split
  · rw [State.good_setF _ _ _ (by decide), State.good_setF _ _ _ (by decide)]
    exact hset _ _ (by decide)
  · split
    · exact hseen
    · split
      · rw [State.good_switchTo, hseen]
      · split
        · split
          · rw [State.good_switchTo, hseen]
          · exact hseen
        · exact hset _ _ (by decide)

/-- An input that is lost is not good. -/
theorem State.good_inputLost (h : s.good b = true) : (s.inputLost b).good b = false := by
  have hgone : ∀ u : State, (u.inputGone b).good b = false := fun u => by
    unfold State.inputGone
    extract_lets lost unasked
    have hlost : lost.good b = false := u.good_set b false
    have hunasked : unasked.good b = false := by
      rw [show unasked = (if b = true then lost else lost.setF .supply SupplyR.SUP_STAT_RET_WAIT 0) from rfl]
      split
      · exact hlost
      · rw [State.good_setF _ _ _ (by decide), hlost]
    clear_value unasked
    split
    · rw [State.good_switchTo, hunasked]
    · exact hunasked
  rw [State.inputLost, if_neg (by simp [h])]
  exact hgone _

theorem State.sel_switchTo (s : State) (b : Bool) : (s.switchTo b).sel = b2n b := by
  unfold State.switchTo
  extract_lets moved
  have hmoved : moved.sel = b2n b := by
    rw [State.sel, State.f_setF_apart _ _ _ _ (by decide), State.f_setF_self _ _ _ _ (by decide) (by decide)]
    cases b <;> rfl
  clear_value moved
  split
  next h => exact h
  · split
    · rw [State.sel, State.f, State.rd_raise _ _ _ _ (by decide) (by decide), ← State.f, State.f_inc_apart _ _ _ (by decide)]
      exact hmoved
    · exact hmoved

/-- VINA, good again and not kept away, is selected as its delay ends. -/
theorem State.sel_returnExpiry (hdev : s.device = .ready) (hsel : s.sel = 1) (hgood : s.good false = true) (hforce : s.forceB = false) :
    s.returnExpiry.sel = 0 := by
  rw [State.returnExpiry, if_pos (by simp [State.selects, hdev, hsel, hgood, hforce])]
  exact s.sel_switchTo false

/-! ### FORCE_B (R336) -/

theorem State.forceB_switchTo (s : State) (b : Bool) : (s.switchTo b).forceB = s.forceB := by
  rw [State.forceB, State.on, (s.switchTo_touches b (P := {}) (es := [])).1.f (by decide) (by decide), ← State.on, ← State.forceB]

theorem State.forceB_forceChange (s : State) (old : Bool) : (s.forceChange old).forceB = s.forceB := by
  unfold State.forceChange
  split
  · exact s.forceB_switchTo true
  · split
    · exact s.forceB_switchTo false
    · rfl

/-- A legal code written to one field, and no other written with it, is stored. -/
theorem writeOut_rw_one (v : Nat → Word) {g : Page} {x : Fld} (hoff : x.off ≠ 0x008) {before after : List Row} {r : Row} {n : Nat}
    (hrows : rowsAt g x.off = before ++ r :: after) (hacc : r.acc = .rw) (hfld : r.fld = x) (hbits : x.lo ≤ x.hi) (hhi : x.hi < 32)
    (hn : n < 2 ^ (x.hi + 1 - x.lo)) (hsrc : x ≠ TimeR.TIME_CTL_SRC) (hlegal : fieldLegal v g r n = true)
    (hwhole : ∀ i, x.lo ≤ i → i ≤ x.hi → (fldMask x.hi x.lo).getLsbD i = true) (hwritten : fldMask x.hi x.lo ≠ 0)
    (hothers : ∀ a ∈ before ++ after, fldMask x.hi x.lo &&& fldMask a.fld.hi a.fld.lo = 0) :
    (writeOut v false g x.off (fset 0 x.hi x.lo n) (fldMask x.hi x.lo)).word = fset (v (pageAddr g x.off)) x.hi x.lo n := by
  subst hfld
  have hmask : fldMask r.fld.hi r.fld.lo &&& ~~~ctlUnsupported g r.fld.off = fldMask r.fld.hi r.fld.lo := by
    rw [ctlUnsupported, if_neg hoff]
    exact BitVec.and_allOnes
  have hcode : fget (merge (v (pageAddr g r.fld.off)) (fset 0 r.fld.hi r.fld.lo n) (fldMask r.fld.hi r.fld.lo)) r.fld.hi r.fld.lo = n := by
    rw [fget_merge hwhole, fget_fset _ _ _ _ hbits hhi]
    exact Nat.mod_eq_of_lt hn
  simp only [writeOut, hrows, hmask, List.foldl_append, List.foldl_cons]
  rw [foldl_writeRow_of_not_written _ fun a ha => hothers a (List.mem_append_left _ ha),
    writeRow_rw_legal hacc (by rwa [BitVec.and_self]) hsrc (by rwa [hcode]),
    foldl_writeRow_of_not_written _ fun a ha => hothers a (List.mem_append_right _ ha)]
  exact congrArg (fset _ _ _) hcode

/-- The fields of SUP_CTL. -/
def forceRow : Row := { fld := SupplyR.SUP_CTL_FORCE_B, acc := .rw, rst := 0x0 }
def retDlyRow : Row := { fld := SupplyR.SUP_CTL_RET_DLY, acc := .rw, rst := 0xA, legal := [(1, 255)], nvm := true }

theorem rowsAt_supCtl : rowsAt .supply 0x044 = [forceRow, retDlyRow] := by decide +kernel

/-- The effect of a write of a register of SUPPLY is the power die's. -/
theorem State.directEffect_supply (u : State) {off : Nat} (hoff : 0x040 ≤ off) (old act wrote : Word) :
    u.directEffect .supply off old act wrote = u.effSupply off old act := by
  simp [State.directEffect, State.effect, Nat.not_lt.2 hoff]

theorem State.forceB_effSupply (u : State) (old act : Word) : (u.effSupply 0x044 old act).forceB = u.forceB := by
  rw [State.effSupply, if_pos rfl]
  dsimp only
  split
  · rfl
  · exact u.forceB_forceChange _

/-- A change of FORCE_B that is taken stands. -/
theorem State.offerForceB {c : Src} {v : Bool} (h : s.takesF c .supply SupplyR.SUP_CTL_FORCE_B (b2n v) = true) :
    (s.offerSet c .supply SupplyR.SUP_CTL_FORCE_B (b2n v)).forceB = v := by
  obtain ⟨w, u, -, hlead, hword, -, -⟩ := State.offerReg_leads h (by decide) (fun _ => rfl) (by decide)
  rw [writeOut_rw_one w (x := SupplyR.SUP_CTL_FORCE_B) (n := b2n v) (by decide) (before := []) (after := [retDlyRow]) rowsAt_supCtl
    (r := forceRow) rfl rfl (by decide) (by decide) (by cases v <;> decide) (by decide)
    (fieldLegal_of_legalCode (by cases v <;> decide) (by decide)) (by decide) (by decide) (by decide)] at hword
  have hu : u.forceB = v := by
    rw [State.forceB, State.on, State.f, hword, fget_fset _ _ _ _ (by decide) (by decide)]
    cases v <;> rfl
  rw [State.offerSet, hlead, State.directEffect_supply _ (by decide)]
  exact (u.forceB_effSupply _ _).trans hu

/-! ### A capacitance test (R340) -/

theorem State.testing_testStart (h : s.device = .ready ∨ s.device = .starting) : s.testStart.supply.testing = true := by
  rw [State.testStart, if_neg (by rcases h with h | h <;> simp [State.houseOn, h])]
  rfl

def measureRow : Row := { fld := SupplyR.HUP_CTL_MEASURE, acc := .w1s, rst := 0x0 }

theorem rowsAt_hupCtl : rowsAt .supply 0x06C = [measureRow] := by decide +kernel

theorem State.regStore_sameRest (s : State) (p : Page) (o : WrOut) {off : Nat} (h : feedsSum p off = false) :
    s.SameRest (s.regStore p off o) := by
  simp only [State.regStore, h, Bool.false_eq_true, if_false]
  exact (((State.SameRest.refl s).wr _ _).violIf _ _ _).violIf _ _ _

/-- A write of a register by its fields that has an effect, and appends nothing. -/
theorem State.regWrite_fields {c : Src} {p : Page} {off : Nat} {data mask : Word} (h : s.noWrite c p off (data &&& mask) = none)
    (hkind : wrKind p off = .fields) (hlast : ∀ t : State, t.cmdLast c p off = t) :
    s.regWrite c p off data mask = ((s.pageStored (pageAddr p off)).regStore p off (writeOut s.rd false p off data mask)).directEffect p off
      (s.rd (pageAddr p off)) (writeOut s.rd false p off data mask).act (mask &&& ~~~(writeOut s.rd false p off data mask).bad) := by
  simp [State.regWrite, State.regAct, State.regPut, h, hkind, hlast]

theorem State.serves_of_takes {c : Src} {p : Page} {off : Nat} {data mask : Word} (h : s.takes c p off data mask = true) :
    s.device = .ready ∨ s.device = .starting := by
  simp only [State.takes, State.regShut, State.closedToAll, Bool.and_eq_true, Bool.not_eq_true', Bool.or_eq_false_iff] at h
  have hserves := h.1.1.1.1.1.2
  simpa [or_iff_not_imp_left] using hserves

theorem State.testing_effMeasure (h : s.device = .ready ∨ s.device = .starting) (old : Word) :
    (s.effSupply 0x06C old 1#32).supply.testing = true := by
  rw [State.effSupply, if_neg (by decide), if_pos rfl, if_pos (by decide)]
  exact State.testing_testStart h

/-- MEASURE that is taken starts a test. -/
theorem State.offerMeasure {c : Src} (h : s.takesF c .supply SupplyR.HUP_CTL_MEASURE 1 = true) :
    (s.offerAct c .supply SupplyR.HUP_CTL_MEASURE).supply.testing = true := by
  have hdev := State.serves_of_takes h
  have hact := fun v => (writeOut_action v (g := .supply) (off := 0x06C) (b := 0) (by decide) (by decide) (before := []) (after := [])
    rowsAt_hupCtl rfl rfl (by decide)).2
  rw [State.offerAct, State.offerSet, State.offerReg_of_takes h]
  generalize s.admQ + _ = n
  rw [State.regWrite_fields ((s.noWrite_peak n c .supply _ _).trans (State.noWrite_of_takes h)) rfl (fun _ => rfl),
    State.directEffect_supply _ (by decide)]
  dsimp only [SupplyR.HUP_CTL_MEASURE]
  rw [hact]
  have hput : ∀ o, s.SameRest (((s.peak n).pageStored (pageAddr .supply 0x06C)).regStore .supply 0x06C o) := fun o =>
    (((State.SameRest.refl s).setF _ _ _).pageStored _).trans (State.regStore_sameRest _ _ _ rfl)
  refine State.testing_effMeasure ?_ _
  have hkept := hput (writeOut (s.peak n).rd false .supply 0x06C (fset 0 0 0 1) (fldMask 0 0))
  simp only [State.SameRest] at hkept
  simpa only [hkept] using hdev

theorem State.RehQuiet.raiseIf (h : s.RehQuiet) (b : Bool) (bit : Nat) : (s.raiseIf b .supply bit).RehQuiet :=
  h.of_touches (P := {}) (es := []) ((State.HouseTouches.refl _ _ (regsOf .supply [0x010]) s).raiseIf b bit (by decide)) rfl (by decide)

theorem State.flashQueue_quiet (h : s.RehQuiet) (op : FlashOp) : (s.flashQueue op).RehQuiet := State.flashServe_quiet (h.modFlash _)

/-- An erase of the fall sector that is offered leaves the power die as it is, and a rehearsal. -/
theorem State.fallErasure_kept (s : State) : s.fallErasure.supply = s.supply ∧ (s.RehQuiet → s.fallErasure.RehQuiet) := by
  unfold State.fallErasure
  extract_lets old slots busy
  split
  · exact ⟨rfl, id⟩
  · split
    · exact ⟨(State.flashQueue_keepsHouse _ _).supply, fun h => State.flashQueue_quiet (h.modFlash _) _⟩
    · exact ⟨rfl, id⟩

theorem State.RehQuiet.modSupply (h : s.RehQuiet) (f : SupplySt → SupplySt) : (s.modSupply f).RehQuiet := h.of_eq rfl rfl

theorem State.energyNow_kept (s : State) : s.energyNow.1.supply = s.supply ∧ (s.RehQuiet → s.energyNow.1.RehQuiet) :=
  ⟨by simp [State.energyNow], fun h => h.setF _ (by decide)⟩

/-- The energy is told of, and what waited for the test is served. -/
theorem State.energyTold_kept (s : State) (b : Bool) : (s.raiseIf b .supply 18).flashServe.supply = s.supply ∧
    (s.RehQuiet → (s.raiseIf b .supply 18).flashServe.RehQuiet) :=
  ⟨(((State.KeepsHouse.refl s).raiseIf b .supply 18).trans (State.flashServe_keepsHouse _)).supply, fun h => State.flashServe_quiet (h.raiseIf b 18)⟩

/-- No capacitance test runs, and a rehearsal has nothing to hear from the flash. -/
def State.TestOver (s : State) : Prop := s.supply.testing = false ∧ s.RehQuiet

theorem State.TestOver.fallErasure (h : s.TestOver) : s.fallErasure.TestOver := by
  obtain ⟨hsupply, hquiet⟩ := s.fallErasure_kept
  exact ⟨by rw [hsupply, h.1], hquiet h.2⟩

theorem State.TestOver.energyNow (h : s.TestOver) : s.energyNow.1.TestOver := by
  obtain ⟨hsupply, hquiet⟩ := s.energyNow_kept
  exact ⟨by rw [hsupply, h.1], hquiet h.2⟩

theorem State.TestOver.told (h : s.TestOver) (b : Bool) : (s.raiseIf b .supply 18).flashServe.TestOver := by
  obtain ⟨hsupply, hquiet⟩ := s.energyTold_kept b
  exact ⟨by rw [hsupply, h.1], hquiet h.2⟩

theorem State.RehQuiet.testOver (h : s.RehQuiet) {f : SupplySt → SupplySt} (hf : (f s.supply).testing = false) : (s.modSupply f).TestOver :=
  ⟨hf, h.modSupply f⟩

/-- A capacitance test that ends has ended, and leaves a rehearsal as it is. -/
theorem State.testEnd_over (dvc dvd : BitVec 24) (reached : Bool) (htest : s.supply.testing = true) (hquiet : s.RehQuiet) :
    (s.testEnd dvc dvd reached).TestOver := by
  unfold State.testEnd
  rw [if_neg (by simp [htest])]
  extract_lets dv c res noted ended energy told
  have hnoted : noted.RehQuiet := (hquiet.setF _ (by decide)).setF _ (by decide)
  have htold : told.TestOver := ((hnoted.testOver rfl).energyNow).told _
  split
  · exact htold.fallErasure
  · exact htold

end Sys2Proof.Machine

end

section
/-!
SUPPORT. The energy of the hold-up bank (R341), and a power failure: its declaration and its record (R343, R344, R349).
-/

-- Proofs are elaborated one at a time: side by side their threads reserve more memory than a check has.
set_option Elab.async false

namespace Sys2Proof.Machine

variable {P : HouseParts} {es : List Eng} {l : List Nat} {s t u : State}

/-! ### The energy (R341) -/

theorem State.f_raiseIf_supply (s : State) (b : Bool) (bit : Nat) {x : Fld} (hx : pageAddr .supply x.off ∉ sideRegs)
    (hne : pageAddr .supply x.off ≠ pageAddr .supply 0x010) : (s.raiseIf b .supply bit).f .supply x = s.f .supply x := by
  unfold State.raiseIf
  split
  · rw [State.f, State.rd_raise _ _ _ _ hx hne, ← State.f]
  · rfl

/-- A measurement of 16 bits is stored whole. -/
theorem State.f_setF_half (s : State) (p : Page) {x : Fld} (v : BitVec 16) (hx : x.hi = x.lo + 15) (hh : x.hi < 32) :
    (s.setF p x v.toNat).f p x = v.toNat := by
  rw [s.f_setF_self p x _ (by omega) hh, show x.hi + 1 - x.lo = 16 by omega]
  exact Nat.mod_eq_of_lt v.isLt

theorem satNat_lt (top n : Nat) : satNat top n < top + 1 := by
  unfold satNat
  split <;> omega

/-- The measurements stand, and the energy is what they come to. -/
theorem State.energyUpdate_measures (vina vinb pin hup : BitVec 16) (hon : s.houseOn = true) (hzero : s.supply.hupZero = false) :
    (s.energyUpdate vina vinb pin hup).f .supply SupplyR.SUP_VIN_VINA = vina.toNat ∧
      (s.energyUpdate vina vinb pin hup).f .supply SupplyR.SUP_PWR_HUP = hup.toNat ∧
      (s.energyUpdate vina vinb pin hup).eAvail = satNat 1023 (energyOf (s.f .supply SupplyR.HUP_CAP_CAP) hup.toNat) := by
  unfold State.energyUpdate
  rw [if_neg (by simp [hon])]
  extract_lets measured
  have hvina : measured.f .supply SupplyR.SUP_VIN_VINA = vina.toNat := by
    rw [State.f_setF_apart _ _ _ _ (by decide), State.f_setF_apart _ _ _ _ (by decide), State.f_setF_apart _ _ _ _ (by decide)]
    exact s.f_setF_half _ vina (by decide) (by decide)
  have hhup : measured.f .supply SupplyR.SUP_PWR_HUP = hup.toNat := State.f_setF_half _ _ hup (by decide) (by decide)
  have hcap : measured.f .supply SupplyR.HUP_CAP_CAP = s.f .supply SupplyR.HUP_CAP_CAP := by
    rw [State.f_setF_apart _ _ _ _ (by decide), State.f_setF_apart _ _ _ _ (by decide), State.f_setF_apart _ _ _ _ (by decide),
      State.f_setF_apart _ _ _ _ (by decide)]
  have hnot : measured.supply.hupZero = false := by simpa [measured] using hzero
  clear_value measured
  have henergy : measured.energyNow.1 = measured.setF .supply SupplyR.HUP_ENERGY_E_AVAIL
      (satNat 1023 (energyOf (s.f .supply SupplyR.HUP_CAP_CAP) hup.toNat)) := by
    simp only [State.energyNow, hnot, hcap, hhup, Bool.false_eq_true, if_false]
  rw [henergy]
  refine ⟨?_, ?_, ?_⟩
  · rw [State.f_raiseIf_supply _ _ _ (by decide) (by decide), State.f_setF_apart _ _ _ _ (by decide), hvina]
  · rw [State.f_raiseIf_supply _ _ _ (by decide) (by decide), State.f_setF_apart _ _ _ _ (by decide), hhup]
  · rw [State.eAvail, State.f_raiseIf_supply _ _ _ (by decide) (by decide), State.f_setF_self _ _ _ _ (by decide) (by decide)]
    exact Nat.mod_eq_of_lt (satNat_lt 1023 _)

/-! ### The declaration of a power failure (R343, R344) -/

theorem supply_ite {c : Prop} [Decidable c] {x : SupplySt} (ht : t.supply = x) (hu : u.supply = x) : (if c then t else u).supply = x := by
  split <;> assumption

theorem State.supply_rehRecord (s : State) (g : Option Grp) (n res cov dur k : Nat) (coinc : Bool) :
    (s.rehRecord g n res cov dur k coinc).supply = s.supply := by
  unfold State.rehRecord
  extract_lets done old worst timed chanced void
  have hworst : worst.supply = s.supply := supply_ite (t := done) (x := s.supply) rfl (by simp [done, State.modReh])
  have hchanced : chanced.supply = s.supply := supply_ite (x := s.supply) (by simp [timed, hworst]) (by simp [timed, hworst])
  have hvoid : void.supply = s.supply := by simp [void, hchanced]
  clear_value void
  cases g <;> simp [hvoid]

theorem State.supply_rehCutUnit (s : State) (g : Option Grp) : (s.rehCutUnit g).supply = s.supply := by
  unfold State.rehCutUnit
  extract_lets run
  refine forAll_keeps (M := fun u => u.supply = s.supply) (f := fun n u => _) rfl _ fun n u h => ?_
  refine supply_ite h (supply_ite ?_ (supply_ite ?_ ?_))
  · rw [State.supply_rehRecord, h]
  · rw [State.supply_rehRecord, State.draw, h]
  · rw [State.supply_rehRecord, h]

theorem State.supply_rehFail (s : State) : s.rehFail.supply = s.supply := by
  unfold State.rehFail
  extract_lets stopped
  have hcut := forAll_keeps (M := fun u => u.supply = s.supply) rfl s.rehUnits (f := fun g u => u.rehCutUnit g) fun g u h => by
    rw [State.supply_rehCutUnit, h]
  have hstopped : stopped.supply = s.supply := supply_ite (by simp [State.rehStop, hcut]) rfl
  clear_value stopped
  exact supply_ite hstopped (by simp [State.rehOver, State.modReh, hstopped])

/-- An engine that halts: what it had asked is gone, and its state is as told; then its group may come to hold. -/
theorem State.engHalt_keepsHouse (s : State) (e : Eng) (st : Nat) :
    (((s.releaseLong e).emptyCmdq e).setF (ep e) StageR.ENG_STAT_STATE st).KeepsHouse (s.engHalt e st) := by
  unfold State.engHalt
  extract_lets ran own halted
  clear_value own
  cases own with
  | none => exact .refl halted
  | some g => exact .ite (((State.KeepsHouse.refl halted).raise _ _).trans (State.holdBegun_keepsHouse _ g)) (.refl halted)

theorem State.supply_engStopNow (s : State) (e : Eng) : (s.engStopNow e).supply = s.supply := by
  refine supply_ite ?_ rfl
  rw [(s.engHalt_keepsHouse e egLoaded).supply]
  simp [State.emptyCmdq, State.setEng, (s.releaseLong_keepsHouse e).supply]

theorem State.hostEnd_keepsHouse (s : State) (res : Nat) : s.KeepsHouse (s.hostEnd res) :=
  (State.KeepsHouse.refl s).of_serve (P := {}) ((s.hostEnd_touches res).mono fun a ha => List.mem_append_left _ (nvmRegs_mem_serveRegs a ha))
    rfl rfl rfl

theorem State.flashDrop_keepsHouse (s : State) : s.KeepsHouse s.flashDrop := by
  unfold State.flashDrop
  extract_lets host cal emptied told
  have htold : s.KeepsHouse told := .ite (((State.KeepsHouse.refl s).modFlash _).trans (State.hostEnd_keepsHouse _ 5)) ((State.KeepsHouse.refl s).modFlash _)
  exact .ite (htold.setF _ _ rfl) htold

theorem State.settleAll_keepsHouse (s : State) : s.KeepsHouse s.settleAll := (State.KeepsHouse.refl s).forAll _ fun n u => u.settle_keepsHouse n

theorem State.toDevice_supply (s : State) (d : Device) : (s.toDevice d).supply = s.supply := by
  obtain ⟨-, -, hrest⟩ := State.attnUpdate_spec { s with device := d } s.attnView
  simp only [State.SameRest] at hrest
  simp only [State.toDevice, State.withEvt, hrest]

/-- The device fails: its accesses are dropped and its lanes settle. -/
theorem State.failing_settled (s : State) (n : Nat) :
    ((s.dropAccess.toDevice .failing).settleAll.setF .supply SupplyR.RAIL_STAT_IN_WIN n).device = .failing ∧
      ((s.dropAccess.toDevice .failing).settleAll.setF .supply SupplyR.RAIL_STAT_IN_WIN n).supply = s.supply := by
  have hkept := (s.dropAccess.toDevice .failing).settleAll_keepsHouse
  have hset : ∀ u : State, (u.setF .supply SupplyR.RAIL_STAT_IN_WIN n).device = u.device ∧
      (u.setF .supply SupplyR.RAIL_STAT_IN_WIN n).supply = u.supply := fun u => by simp
  exact ⟨by rw [(hset _).1, hkept.device, State.toDevice_device], by rw [(hset _).2, hkept.supply, State.toDevice_supply, State.dropAccess]⟩

/-- After the declaration the power die holds the payload taken at it, and the device is failing. -/
theorem State.failDeclare_declared (s : State) (cause : Nat) :
    (s.failDeclare cause).device = .failing ∧ (s.failDeclare cause).supply.fall = s.fallPayload cause := by
  unfold State.failDeclare
  extract_lets pl ran fed stopped declared
  have hfed : fed.supply.fall = s.fallPayload cause := rfl
  have hstopped : stopped.supply = fed.supply := forAll_keeps (M := fun u => u.supply = fed.supply) (by simp) _ fun e u h => by
    rw [State.supply_engStopNow, h]
  obtain ⟨hdevice, hsupply⟩ := State.failing_settled stopped.flashDrop.rehFail (declared.f .supply SupplyR.RAIL_STAT_IN_WIN % 8)
  refine ⟨hdevice, ?_⟩
  rw [hsupply, State.supply_rehFail, stopped.flashDrop_keepsHouse.supply, hstopped, hfed]

theorem State.powerFailure_declared (hfail : s.failable = true) (ha : s.good false = false) (hb : s.good true = false) :
    s.powerFailure.device = .failing ∧ s.powerFailure.supply.fall = s.fallPayload 1 := by
  rw [State.powerFailure, if_pos (by simp [hfail, ha, hb])]
  exact s.failDeclare_declared 1

theorem State.railFault_declared (r : Fin 6) (hfail : s.failable = true) (hgood : s.good false = true ∨ s.good true = true) :
    (s.railFault r).device = .failing := by
  rw [State.railFault, if_pos (by simpa [hfail] using hgood)]
  exact (State.failDeclare_declared _ 2).1

/-- With no operation running the record is written as it stands, and every rail goes off. -/
theorem State.fallRecord_written (hup : BitVec 16) (hdev : s.device = .failing) (hrun : s.flash.run = none) :
    (s.fallRecord hup).device = .off ∧ (s.fallRecord hup).flash.bytes = (s.fallWrite hup false).flash.bytes := by
  have hoff : ∀ u : State, (u.toDevice .off).flash = u.flash := fun u => by
    obtain ⟨-, -, hrest⟩ := State.attnUpdate_spec { u with device := .off } u.attnView
    simp only [State.SameRest] at hrest
    simp only [State.toDevice, State.withEvt, hrest]
  have hset : ∀ u : State, (u.setF .supply SupplyR.RAIL_STAT_IN_WIN 0).flash = u.flash := fun u => by simp
  rw [State.fallRecord, if_neg (by simp [hdev])]
  simp only [hrun, Option.isSome_none, Bool.false_eq_true, if_false]
  exact ⟨State.toDevice_device _ _, by rw [hoff, hset]⟩

end Sys2Proof.Machine

end

section
/-!
SUPPORT. The commands of the flash that begin at once, and the end of an erase (R350, R351); with it the commands of chapter 13.
-/

-- Proofs are elaborated one at a time: side by side their threads reserve more memory than a check has.
set_option Elab.async false

namespace Sys2Proof.Machine

variable {P : HouseParts} {es : List Eng} {l : List Nat} {s t u : State}

/-! ### A command of the flash that is asked for (R350, R351) -/

/-- The fields of NVM_CMD. -/
def nvmOpRow : Row := { fld := NvmR.NVM_CMD_OP, acc := .rw, rst := 0x0, legal := [(0, 4)] }
def nvmRegionRow : Row := { fld := NvmR.NVM_CMD_REGION, acc := .rw, rst := 0x0 }

theorem rowsAt_nvmCmd : rowsAt .nvm 0x040 = [nvmOpRow, nvmRegionRow] := by decide +kernel

/-- A write of NVM_CMD with a legal OP stores both fields. -/
theorem writeOut_nvmCmd (v : Nat → Word) {data : Word} (hop : fget data 31 28 ≤ 4) :
    writeOut v false .nvm 0x040 data allOnes =
      { word := fset (fset (v (pageAddr .nvm 0x040)) 31 28 (fget data 31 28)) 27 24 (fget data 27 24),
        access := data &&& allOnes &&& roMask .nvm 0x040 != 0 } := by
  have hmask : allOnes &&& ~~~ctlUnsupported .nvm 0x040 = allOnes := by decide
  have hlegal : legalCode [(0, 4)] (fget data 31 28) = true := by simp [legalCode, hop]
  simp only [writeOut, rowsAt_nvmCmd, List.foldl_cons, List.foldl_nil, hmask]
  rw [writeRow_rw_legal (r := nvmOpRow) rfl (by decide) (by decide)
      (fieldLegal_of_legalCode (by rw [merge_allOnes]; exact hlegal) (by decide)),
    writeRow_rw_legal (r := nvmRegionRow) rfl (by decide) (by decide) (fieldLegal_of_legalCode rfl (by decide))]
  simp only [merge_allOnes]
  rfl

/-- The word that asks for a command of the flash. -/
def nvmWord (op region : Nat) : Word := BitVec.ofNat 32 (op * 2 ^ 28 + region * 2 ^ 24)

theorem fget_nvmWord {op region : Nat} (hop : op ≤ 4) (hregion : region < 16) :
    fget (nvmWord op region) 31 28 = op ∧ fget (nvmWord op region) 27 24 = region := by
  simp only [fget, nvmWord, BitVec.toNat_ofNat]
  omega

/-- The fields of NVM_CMD once a whole write is stored. -/
theorem fget_nvmStored (old : Word) {op region : Nat} (hop : op ≤ 4) (hregion : region < 16) :
    fget (fset (fset old 31 28 op) 27 24 region) 31 28 = op ∧ fget (fset (fset old 31 28 op) 27 24 region) 27 24 = region := by
  rw [fget_fset_disj _ _ _ _ _ _ (by decide) (by decide) (by decide), fget_fset _ _ _ _ (by decide) (by decide),
    fget_fset _ _ _ _ (by decide) (by decide)]
  omega

/-- A written OP asks for its command. -/
theorem State.directEffect_nvmCmd {op region : Nat} {wrote : Word} (hop : s.f .nvm NvmR.NVM_CMD_OP = op) (hne : op ≠ 0)
    (hregion : s.f .nvm NvmR.NVM_CMD_REGION = region) (hc : covers wrote NvmR.NVM_CMD_OP = true) (old act : Word) :
    s.directEffect .nvm 0x040 old act wrote = s.nvmCmd op region := by
  simp [State.directEffect, State.effNvm, hop, hne, hregion, hc]

/-- A command whose arguments are in their ranges, at rest, begins at once where its check allows it. -/
theorem State.nvmCmd_begins {op r : Nat} (hne : op ≠ 0) (hstate : s.f .nvm NvmR.NVM_STAT_STATE = 0)
    (hargs : cmdArgsOk op r (s.f .nvm NvmR.NVM_ADDR_ADDR) (s.f .nvm NvmR.NVM_LEN_LEN) = true) (hdev : s.device = .ready)
    (hres : s.houseReset = false) (hrun : s.flash.run = none) (hqueue : s.flash.queue = [])
    (hcheck : ∀ kind req, opCheck (.host op r (s.f .nvm NvmR.NVM_ADDR_ADDR) (s.f .nvm NvmR.NVM_LEN_LEN)) = some (kind, req) →
      s.supply.testing = false ∧ req ≤ s.eAvail) :
    (s.nvmCmd op r).flash.run.map Prod.fst = some (.host op r (s.f .nvm NvmR.NVM_ADDR_ADDR) (s.f .nvm NvmR.NVM_LEN_LEN)) := by
  rw [State.nvmCmd, if_neg hne, if_neg (by simpa using hstate)]
  dsimp only
  rw [if_pos hargs]
  refine (State.flashQueue_starts (P := { flash := true }) (es := []) (by simpa using hdev) (by simpa using hres) (by simpa using hrun)
    (by simpa using hqueue) (fun _ => rfl) (fun kind req h => ?_) rfl).1
  obtain ⟨htest, henough⟩ := hcheck kind req h
  refine ⟨by simpa using htest, ?_⟩
  rw [State.eAvail, State.f_setF_apart _ _ _ _ (by decide), State.f_setF_apart _ _ _ _ (by decide), State.f_setF_apart _ _ _ _ (by decide)]
  exact henough

/-- A command of the flash that is taken, and begins at once where its check allows it. -/
theorem State.offerNvm_begins {c : Src} {op : Nat} {region : BitVec 4} (h : s.nvmTakes c op region = true) (hop : op ≤ 4) (hne : op ≠ 0)
    (hdev : s.device = .ready) (hrun : s.flash.run = none) (hqueue : s.flash.queue = [])
    (hcheck : ∀ kind req, opCheck (.host op region.toNat (s.f .nvm NvmR.NVM_ADDR_ADDR) (s.f .nvm NvmR.NVM_LEN_LEN)) = some (kind, req) →
      s.supply.testing = false ∧ req ≤ s.eAvail) :
    (s.offerNvm c op region.toNat).flash.run.map Prod.fst =
      some (.host op region.toNat (s.f .nvm NvmR.NVM_ADDR_ADDR) (s.f .nvm NvmR.NVM_LEN_LEN)) := by
  simp only [State.nvmTakes, Bool.and_eq_true, beq_iff_eq] at h
  obtain ⟨⟨htakes, hstate⟩, hargs⟩ := h
  obtain ⟨v, u, -, hlead, hword, hframe, hsame⟩ :=
    State.offerReg_leads (data := nvmWord op region.toNat) htakes (by decide) (fun _ => rfl) (by decide)
  obtain ⟨hwop, hwregion⟩ := fget_nvmWord hop region.isLt
  have hout := writeOut_nvmCmd v (data := nvmWord op region.toNat) (by rw [hwop]; exact hop)
  rw [hwop, hwregion] at hout
  obtain ⟨huop, huregion⟩ := fget_nvmStored (v (pageAddr .nvm 0x040)) hop region.isLt
  have hstored : u.rd (pageAddr .nvm 0x040) = fset (fset (v (pageAddr .nvm 0x040)) 31 28 op) 27 24 region.toNat :=
    hword.trans (congrArg WrOut.word hout)
  rw [← hstored] at huop huregion
  have hres := State.houseReset_of_takes htakes
  simp only [State.SameRest] at hsame
  have haddr : u.f .nvm NvmR.NVM_ADDR_ADDR = s.f .nvm NvmR.NVM_ADDR_ADDR := hframe.f (by decide) (by decide)
  have hlen : u.f .nvm NvmR.NVM_LEN_LEN = s.f .nvm NvmR.NVM_LEN_LEN := hframe.f (by decide) (by decide)
  have hstat : u.f .nvm NvmR.NVM_STAT_STATE = s.f .nvm NvmR.NVM_STAT_STATE := hframe.f (by decide) (by decide)
  have henergy : u.eAvail = s.eAvail := hframe.f (by decide) (by decide)
  have hled : s.offerNvm c op region.toNat = u.nvmCmd op region.toNat := by
    rw [State.offerNvm, ← nvmWord, hlead, hout]
    exact State.directEffect_nvmCmd huop hne huregion (show covers (allOnes &&& ~~~0) NvmR.NVM_CMD_OP = true by decide) _ _
  rw [hled, ← haddr, ← hlen]
  refine State.nvmCmd_begins hne (hstat.trans hstate) (by rwa [haddr, hlen]) (by simpa only [hsame] using hdev)
    (by simpa only [hsame] using hres) (by simpa only [hsame] using hrun) (by simpa only [hsame] using hqueue) ?_
  rw [haddr, hlen, henergy]
  simpa only [hsame] using hcheck

/-- One that needs energy, at a flash that is free. -/
theorem State.offerNvm_begins_free {c : Src} {op : Nat} {region : BitVec 4} (h : s.nvmTakes c op region = true) (hop : op ≤ 4) (hne : op ≠ 0)
    (hfree : s.flashFree = true)
    (hcheck : ∀ a n kind req, opCheck (.host op region.toNat a n) = some (kind, req) → req ≤ s.eAvail) :
    (s.offerNvm c op region.toNat).flash.run.map Prod.fst =
      some (.host op region.toNat (s.f .nvm NvmR.NVM_ADDR_ADDR) (s.f .nvm NvmR.NVM_LEN_LEN)) := by
  simp only [State.flashFree, Bool.and_eq_true, beq_iff_eq, Option.isNone_iff_eq_none, List.isEmpty_iff, Bool.not_eq_true'] at hfree
  obtain ⟨⟨⟨hdev, hrun⟩, hqueue⟩, htest⟩ := hfree
  exact State.offerNvm_begins h hop hne hdev hrun hqueue fun kind req hreq => ⟨htest, hcheck _ _ kind req hreq⟩

/-- A store needs at most 213 mJ. -/
theorem opCheck_store {r a n kind req : Nat} (h : opCheck (.host 1 r a n) = some (kind, req)) : req ≤ 213 := by
  simp only [opCheck, if_true, Option.some.injEq, Prod.mk.injEq] at h
  obtain ⟨-, rfl⟩ := h
  split
  · exact le_refl _
  · split <;> decide

theorem opCheck_read (r a n : Nat) : opCheck (.host 2 r a n) = none := rfl
theorem opCheck_erase (r a n : Nat) : opCheck (.host 3 r a n) = some (1, 52) := rfl
theorem opCheck_program (r a n : Nat) : opCheck (.host 4 r a n) = some (1, 19) := rfl

/-! ### The end of an erase of the host (R350, R351) -/

/-- A flash with an empty queue serves none. -/
theorem State.flashServe_of_empty (h : s.flash.queue = []) : s.flashServe = s := by
  rw [State.flashServe, h]
  simp only [List.length_nil, State.flashServeN, h]
  cases s.flash.run <;> rfl

theorem State.flash_modFlash (s : State) (f : FlashSt → FlashSt) : (s.modFlash f).flash = f s.flash := rfl

theorem State.flash_hostEnd (s : State) (res : Nat) : (s.hostEnd res).flash = s.flash := by
  obtain ⟨-, hrest, -⟩ := s.hostEnd_touches (P := {}) (es := []) res
  simp only [State.SameRest] at hrest
  simp only [hrest]
  rfl

/-- A command of the host has ended, and nothing waits: the flash runs nothing, and a rehearsal is as it was. -/
theorem State.freed_idle (res : Nat) (hqueue : s.flash.queue = []) (hquiet : s.RehQuiet) :
    ((s.hostEnd res).modFlash fun x => { x with run := none }).flashServe.flashThen.flash.run = none := by
  have hquietE : (s.hostEnd res).RehQuiet := hquiet.of_touches (s.hostEnd_touches (P := {}) (es := []) res) rfl (by decide)
  have hflash := s.flash_hostEnd res
  generalize s.hostEnd res = ended at hquietE hflash
  rw [State.flashServe_of_empty (s := ended.modFlash _) (by rw [State.flash_modFlash, hflash]; exact hqueue),
    State.flashThen_of_quiet (hquietE.modFlash _), State.flash_modFlash]

/-- An erase of the host that ends leaves the flash idle, where nothing waits. -/
theorem State.flashEnd_erase {ok : Bool} {r addr len : Nat} {bytes : List Byte} (hrun : s.flash.run = some (.host 3 r addr len, bytes))
    (hqueue : s.flash.queue = []) (hquiet : s.RehQuiet) : (s.flashEnd ok).flashThen.flash.run = none := by
  rw [State.flashEnd, hrun]
  simp only [State.hostOpEnd, OfNat.ofNat_ne_one, Nat.reduceEqDiff, if_true, if_false]
  split
  · exact State.freed_idle (s := s.modFlash _) _ hqueue (hquiet.modFlash _)
  · exact State.freed_idle (s := s.modFlash _) _ hqueue (hquiet.modFlash _)

end Sys2Proof.Machine

open Sys2Proof Sys2Proof.Machine

/-- Settles O22: inputs, hold-up bank, power failure, and the commands of the flash, each by the lemma that follows its operation. -/
theorem supplyAndFlashCommandsComplete : Obligations.SupplyAndFlashCommandsComplete := by
  refine ⟨fun b s h _ => ⟨_, rfl, State.good_inputGood h⟩, fun b s h _ => ⟨_, rfl, State.good_inputLost h⟩,
    fun s hdev hsel hgood hforce => ⟨_, rfl, State.sel_returnExpiry hdev hsel hgood hforce⟩, fun c v s h _ => ⟨_, rfl, State.offerForceB h⟩,
    fun r s hfail hgood => ⟨_, rfl, State.railFault_declared r hfail hgood⟩, fun c s h => ⟨_, rfl, State.offerMeasure h⟩,
    fun s hdev => ⟨_, rfl, State.testing_testStart (.inl hdev)⟩, fun dvc dvd reached s htest _ _ _ hstate hdark => ⟨_, rfl, ?_⟩,
    fun vina vinb pin hup s hon hzero => ⟨_, rfl, State.energyUpdate_measures vina vinb pin hup hon hzero⟩,
    fun s hfail ha hb => ⟨_, rfl, State.powerFailure_declared hfail ha hb⟩,
    fun hup s hdev hrun => ⟨_, rfl, State.fallRecord_written hup hdev hrun⟩, fun c region s h hfree henough => ⟨_, rfl, ?_⟩,
    fun c region s h hdev hrun hqueue => ⟨_, rfl, ?_⟩, fun c region s h hfree henough => ⟨_, rfl, ?_⟩,
    fun c region s h hfree henough => ⟨_, rfl, ?_⟩,
    fun ok r addr len bytes s hrun _ _ hqueue hstate hdark => ⟨_, rfl, State.flashEnd_erase hrun hqueue ⟨hstate, hdark⟩⟩,
    fun b s h => ⟨_, rfl, ?_⟩⟩
  · obtain ⟨htest, hquiet⟩ := State.testEnd_over dvc dvd reached htest ⟨hstate, hdark⟩
    rw [State.flashThen_of_quiet hquiet, htest]
  · exact State.offerNvm_begins_free h (by decide) (by decide) hfree fun a n kind req hreq => (opCheck_store hreq).trans henough
  · exact State.offerNvm_begins h (by decide) (by decide) hdev hrun hqueue fun kind req hreq => by simp [opCheck_read] at hreq
  · refine State.offerNvm_begins_free h (by decide) (by decide) hfree fun a n kind req hreq => ?_
    obtain ⟨-, rfl⟩ : 1 = kind ∧ 52 = req := by simpa [opCheck_erase] using hreq
    exact henough
  · refine State.offerNvm_begins_free h (by decide) (by decide) hfree fun a n kind req hreq => ?_
    obtain ⟨-, rfl⟩ : 1 = kind ∧ 19 = req := by simpa [opCheck_program] using hreq
    exact henough
  · simp only [State.inputQual, h, Bool.false_or]

end

section
/-!
SUPPORT. What the band-gap comparison and a sensor's mean show (R376, R379 to R382).
-/

-- Proofs are elaborated one at a time: side by side their threads reserve more memory than a check has.
set_option Elab.async false

namespace Sys2Proof.Machine

variable {P : HouseParts} {es : List Eng} {l : List Nat} {s t u : State}

/-! ### The band-gaps (R376) -/

theorem State.calSuspend_keepsHouse (s : State) : s.KeepsHouse s.calSuspend := by
  unfold State.calSuspend
  refine (((State.KeepsHouse.refl s).setF .cal (x := CalR.CAL_STAT_SUSPENDED) 1 rfl).raise .cal 17).forAll _ fun g u => .ite ?_ (.refl u)
  have hfailed := (((u.calAbandon_keepsHouse g true).setF (gp g) (x := GroupR.CAL_FAIL_INFO_CAUSE) 3 rfl).setF (gp g)
    (x := GroupR.CAL_FAIL_INFO_BLOCK) (u.f (gp g) GroupR.CAL_STAT_BLOCK) rfl).setF (gp g) (x := GroupR.CAL_FAIL_INFO_SLICE) 0xFF rfl
  exact hfailed.forAll _ fun p v => (State.KeepsHouse.refl v).setPend p _

theorem State.KeepsHouse.modCalDev (h : s.KeepsHouse t) (f : CalDevSt → CalDevSt) : s.KeepsHouse (t.modCalDev f) := h.of_regs rfl rfl rfl rfl

/-- BG_MON shows the difference that was compared. -/
theorem State.bgCompare_shows (s : State) (diff : BitVec 16) : (s.bgCompare diff).f .cal CalR.BG_MON_DIFF = diff.toNat := by
  unfold State.bgCompare
  extract_lets m shown compared
  have hshown : shown.f .cal CalR.BG_MON_DIFF = diff.toNat := by
    rw [State.f_setF_apart _ _ _ _ (by decide)]
    exact s.f_setF_half _ diff (by decide) (by decide)
  have hcompared : shown.KeepsHouse compared := (State.KeepsHouse.refl shown).modCalDev _
  have hkept : ∀ t : State, shown.KeepsHouse t → t.f .cal CalR.BG_MON_DIFF = diff.toNat := fun t h => (h.f rfl).trans hshown
  clear_value compared
  split
  · split
    · exact hkept _ (hcompared.raise _ _)
    · exact hkept _ (hcompared.trans (State.calSuspend_keepsHouse _))
  · split
    · split
      · exact hkept _ (hcompared.setF _ _ rfl)
      · exact hkept _ hcompared
    · exact hkept _ hcompared

/-! ### The sensors (R379 to R382) -/

theorem State.tempTrigger_keepsHouse (s : State) (g : Grp) (temp : Int) : s.KeepsHouse (s.tempTrigger g temp) :=
  .ite (((State.KeepsHouse.refl s).raise _ _).trans (State.calTrigger_keepsHouse _ g 1 false _)) (.refl s)

theorem State.twinTrims_keepsHouse (s : State) (reading : BitVec 12) (l : List (BitVec 3 × Byte × BitVec 16)) :
    s.KeepsHouse (s.twinTrims reading l) := by
  unfold State.twinTrims
  refine .ite (.refl s) ?_
  extract_lets c moved
  have hmoved : s.KeepsHouse moved := (State.KeepsHouse.refl s).modCalDev _
  exact .ite hmoved ((hmoved.setF _ _ rfl).modFlash _)

theorem State.f_thermBit (s : State) (x : Fld) (i : Nat) (b : Bool) {y : Fld} (hx : x.off < 4096) (hy : y.off < 4096) (hne : y.off ≠ x.off) :
    (s.thermBit x i b).f .therm y = s.f .therm y := by
  rw [State.f, State.thermBit, State.rd_wr_ne, ← State.f]
  exact fun e => hne ((pageAddr_inj hy hx).1 e).2

theorem State.f_raiseIf_therm (s : State) (b : Bool) (bit : Nat) {x : Fld} (hx : x.off < 4096) (hne : x.off ≠ 0x010) :
    (s.raiseIf b .therm bit).f .therm x = s.f .therm x := by
  unfold State.raiseIf
  split
  · rw [State.f, State.rd_raise _ _ _ _ _ fun e => hne ((pageAddr_inj hx (by decide)).1 e).2, ← State.f]
    simp only [sideRegs, pageAddr, pageNum, List.mem_cons, List.not_mem_nil, or_false]
    omega
  · rfl

/-- A mean below the over-temperature threshold leaves the reading shown. -/
theorem State.f_overMean (s : State) (i : Nat) {temp : Int} (hcool : temp < 8 * (s.f .therm ThermR.OT_CFG_OT_THR : Int)) {x : Fld}
    (hx : x.off < 4096) (hne : x.off ≠ 0x010) (hstat : x.off ≠ 0x068) : (s.overMean i temp).f .therm x = s.f .therm x := by
  unfold State.overMean
  extract_lets warn thr hyst hot n counted warned judged
  have hhot : hot = false := decide_eq_false (by omega)
  have hn : n = 0 := if_neg (by simp [hhot])
  have hwarned : warned.f .therm x = s.f .therm x := by
    rw [State.f_raiseIf_therm _ _ _ hx hne, State.f_thermBit _ _ _ _ (by decide) hx hstat]
    rfl
  rw [if_neg (by simp [hn])]
  rw [show judged = _ from if_neg (by simp [hhot])]
  split
  · rw [State.f_thermBit _ _ _ _ (by decide) hx hstat, hwarned]
  · exact hwarned

/-- A sensor's mean that is no over-temperature is its reading. -/
theorem State.sensorMean_shows (i : Fin 9) (reading : BitVec 12) (twin : List (BitVec 3 × Byte × BitVec 16))
    (hcool : reading.toInt < 8 * (s.f .therm ThermR.OT_CFG_OT_THR : Int)) :
    (s.sensorMean i reading twin).f .therm (ThermR.THERM_T_NOW i.val) = reading.toNat := by
  have hmax : apart (ThermR.THERM_T_MAX i.val) (ThermR.THERM_T_NOW i.val) = true := by revert i; decide
  have hthr : apart (ThermR.THERM_T_NOW i.val) ThermR.OT_CFG_OT_THR = true ∧ apart (ThermR.THERM_T_MAX i.val) ThermR.OT_CFG_OT_THR = true := by
    revert i; decide
  have hoff : (ThermR.THERM_T_NOW i.val).off < 4096 ∧ (ThermR.THERM_T_NOW i.val).off ≠ 0x010 ∧ (ThermR.THERM_T_NOW i.val).off ≠ 0x068 ∧
      houseReg .therm (ThermR.THERM_T_NOW i.val).off = true := by revert i; decide
  obtain ⟨hlt, hne, hstat, hhouse⟩ := hoff
  unfold State.sensorMean
  extract_lets x shown peaked told
  have hshown : shown.f .therm (ThermR.THERM_T_NOW i.val) = reading.toNat := by
    rw [State.f_setF_self _ _ _ _ (by simp [ThermR.THERM_T_NOW]) (by simp [ThermR.THERM_T_NOW])]
    exact Nat.mod_eq_of_lt reading.isLt
  have hshownThr : shown.f .therm ThermR.OT_CFG_OT_THR = s.f .therm ThermR.OT_CFG_OT_THR := State.f_setF_apart _ _ _ _ hthr.1
  clear_value shown
  have hpeaked : peaked.f .therm (ThermR.THERM_T_NOW i.val) = reading.toNat ∧
      peaked.f .therm ThermR.OT_CFG_OT_THR = s.f .therm ThermR.OT_CFG_OT_THR := by
    rw [show peaked = if shown.sf .therm x < reading.toInt then shown.setF .therm x reading.toNat else shown from rfl]
    split
    · exact ⟨by rw [State.f_setF_apart _ _ _ _ hmax, hshown], by rw [State.f_setF_apart _ _ _ _ hthr.2, hshownThr]⟩
    · exact ⟨hshown, hshownThr⟩
  clear_value peaked
  have htold : told.f .therm (ThermR.THERM_T_NOW i.val) = reading.toNat :=
    (State.f_overMean _ _ (by rw [hpeaked.2]; exact hcool) hlt hne hstat).trans hpeaked.1
  clear_value told
  split
  · rw [(told.tempTrigger_keepsHouse _ _).f hhouse, htold]
  · rw [(told.twinTrims_keepsHouse _ _).f hhouse, htold]

end Sys2Proof.Machine

end

section
/-!
SUPPORT. When a group's calibration is blocked, and how a run and its next block begin (R383, R386).
-/

-- Proofs are elaborated one at a time: side by side their threads reserve more memory than a check has.
set_option Elab.async false

namespace Sys2Proof.Machine

variable {P : HouseParts} {es : List Eng} {l : List Nat} {s t u : State} {g : Grp}

/-! ### A group's calibration commands (R383, R384, R386) -/

theorem pageAddr_group_not_side (g : Grp) {off : Nat} (h : off < 4096) : pageAddr (gp g) off ∉ sideRegs := by
  simp only [sideRegs, pageAddr, pageNum, List.mem_cons, List.not_mem_nil, or_false]
  omega

/-- The registers that tell whether a group's calibration is blocked: PAGE_CTL, OWNER and PWR_STAT of the group, CAL_STAT of the device,
and ENG_STAT of every engine. -/
def calGate (g : Grp) : List Nat :=
  regsOf (gp g) [0x008, 0x034, 0x108] ++ [pageAddr .cal 0x044] ++ allEngs.map fun e => pageAddr (ep e) StageR.ENG_STAT_STATE.off

theorem calGate_not_side : ∀ a ∈ calGate g, a ∉ sideRegs := by
  simp only [calGate, regsOf, List.mem_append, List.mem_map, List.mem_singleton]
  rintro a ((⟨off, hoff, rfl⟩ | rfl) | ⟨e, -, rfl⟩)
  · refine pageAddr_group_not_side g ?_
    simp only [List.mem_cons, List.not_mem_nil, or_false] at hoff
    omega
  · decide
  · simp only [sideRegs, pageAddr, pageNum, StageR.ENG_STAT_STATE, List.mem_cons, List.not_mem_nil, or_false]
    omega

/-- What touches none of them leaves a group's calibration blocked or free. -/
theorem State.calBlocked_of_touches (h : s.Touches l t) (hl : ∀ a ∈ calGate g, a ∉ l) : t.calBlocked g = s.calBlocked g := by
  obtain ⟨hf, hr⟩ := h
  have hreg : ∀ (p : Page) (x : Fld), pageAddr p x.off ∈ calGate g → t.f p x = s.f p x := fun p x hx => hf.f (hl _ hx) (calGate_not_side _ hx)
  have hgrp : ∀ x : Fld, x.off ∈ [0x008, 0x034, 0x108] → t.f (gp g) x = s.f (gp g) x := fun x hx =>
    hreg _ x (List.mem_append_left _ (List.mem_append_left _ (mem_regsOf hx)))
  have heng : ∀ e, t.eng e = s.eng e := fun e => hreg _ _ (List.mem_append_right _ (List.mem_map_of_mem (List.mem_finRange e)))
  have hcal : t.f .cal CalR.CAL_STAT_SUSPENDED = s.f .cal CalR.CAL_STAT_SUSPENDED :=
    hreg _ _ (List.mem_append_left _ (List.mem_append_right _ (List.mem_singleton.2 rfl)))
  have howner : t.owner g = s.owner g := hgrp Hdr.OWNER (by decide)
  simp only [State.SameRest] at hr
  simp only [State.calBlocked, State.inHold, State.ownerLost, State.on, State.grpDown, State.busyOf, hr, hcal, howner, heng,
    hgrp Hdr.PAGE_CTL_HOLD (by decide), hgrp GroupR.PWR_STAT_STATE (by decide)]

/-- No register of a group after its page header, but PWR_STAT, is one of them. -/
theorem calGate_ne {a off : Nat} (h : a ∈ calGate g) (hoff : 0x034 < off ∧ off < 4096 ∧ off ≠ 0x108) : a ≠ pageAddr (gp g) off := by
  simp only [calGate, regsOf, List.mem_append, List.mem_map, List.mem_singleton] at h
  rintro rfl
  obtain ((⟨o, ho, he⟩ | he) | ⟨e, -, he⟩) := h
  · simp only [List.mem_cons, List.not_mem_nil, or_false] at ho
    simp only [pageAddr] at he
    omega
  · simp only [pageAddr, pageNum] at he
    omega
  · simp only [pageAddr, pageNum, StageR.ENG_STAT_STATE] at he
    omega

/-! ### A run begins -/

theorem lowBlock_eq_six {m : Nat} (h : lowBlock m = 6) : m % 64 = 0 := by
  have hnone : ∀ b < 6, m.testBit b = false := by
    unfold lowBlock at h
    cases hfind : (List.range 6).find? fun b => m.testBit b with
    | none => simpa using hfind
    | some b =>
      have hb := List.mem_range.1 (List.mem_of_find?_eq_some hfind)
      rw [hfind, Option.getD_some] at h
      omega
  refine Nat.eq_of_testBit_eq fun b => ?_
  rw [show (64 : Nat) = 2 ^ 6 from rfl, Nat.testBit_mod_two_pow, Nat.zero_testBit]
  by_cases hb : b < 6
  · simp [hnone b hb]
  · simp [hb]

theorem State.needRaise_touches (s : State) (g : Grp) (before : List Bool) :
    s.HouseTouches P es [pageAddr (gp g) 0x010, pageAddr .cal 0x010] (s.needRaise g before) :=
  .ite (((State.HouseTouches.refl P es _ s).raise 26 (by simp)).raise 18 (by simp)) (.refl P es _ s)

theorem State.sweepBegin_houseTouches (s : State) (p : Path) (hP : P.paths = true) : s.HouseTouches P es l (s.sweepBegin p) :=
  .ite (.refl P es l s) ((State.HouseTouches.refl P es l s).modPath p _ hP)

theorem State.HouseTouches.forAll {α : Type} {f : α → State → State} (h : s.HouseTouches P es l t) (as : List α)
    (hf : ∀ a (u : State), u.HouseTouches P es l (f a u)) : s.HouseTouches P es l (forAll as f t) := h.foldl as fun a _ u => hf a u

theorem State.HouseTouches.modCal (h : s.HouseTouches P es l t) (g : Grp) (f : CalSt → CalSt) (hP : P.groups = true) :
    s.HouseTouches P es l (t.modCal g f) := h.setGrp g _ hP

theorem State.calRec_modCal (s : State) (g : Grp) (f : CalSt → CalSt) : (s.modCal g f).calRec g = f (s.calRec g) := by
  rw [State.calRec, State.modCal, State.grp, State.setGrp]
  exact congrArg GroupSt.cal (tabGet_tabSet_self _ _ _ _)

theorem State.HouseTouches.calRec (h : s.HouseTouches P es l t) (hP : P.groups = false) (g : Grp) : t.calRec g = s.calRec g := by
  obtain ⟨-, hr, -⟩ := h
  simp only [State.SameRest] at hr
  have hgroups : t.groups = (s.withHouse P t).groups := by simp only [hr]
  rw [State.withHouse, hP, cond_false] at hgroups
  rw [State.calRec, State.grp, hgroups, State.calRec, State.grp]

theorem State.HouseTouches.f_group (h : s.HouseTouches P es l t) {x : Fld} (hx : x.off < 4096) (hl : pageAddr (gp g) x.off ∉ l) :
    t.f (gp g) x = s.f (gp g) x := h.1.f hl (pageAddr_group_not_side g hx)

theorem State.f_modCal (s : State) (g : Grp) (f : CalSt → CalSt) (p : Page) (x : Fld) : (s.modCal g f).f p x = s.f p x := rfl

theorem State.calRec_setF (s : State) (p : Page) (x : Fld) (v : Nat) (g : Grp) : (s.setF p x v).calRec g = s.calRec g := rfl

/-- The next block begins: CAL_STAT shows it, and the run goes on. -/
theorem State.calNext_begins (h : lowBlock (s.calRec g).mask < 6) :
    (s.calNext g).calState g = s.calState g ∧ ((s.calNext g).calRec g).mask = (s.calRec g).mask ∧
      (s.calNext g).f (gp g) GroupR.CAL_STAT_BLOCK = lowBlock (s.calRec g).mask := by
  have hswept : ∀ u : State, u.HouseTouches { paths := true } [] [] (forAll (grpPaths g) (fun p v =>
      if v.calMeasures p && v.sd p && v.lock p then v.sweepBegin p else v) u) := fun u =>
    (State.HouseTouches.refl _ _ _ u).forAll _ fun p v => .ite (v.sweepBegin_houseTouches p rfl) (.refl _ _ _ v)
  unfold State.calNext
  extract_lets b begun
  have hstate : begun.calState g = s.calState g := by
    rw [State.calState, State.f_modCal, State.f_setF_apart _ _ _ _ (by decide), ← State.calState]
  have hmask : (begun.calRec g).mask = (s.calRec g).mask := by rw [State.calRec_modCal, State.calRec_setF]
  have hblock : begun.f (gp g) GroupR.CAL_STAT_BLOCK = b := by
    rw [State.f_modCal]
    refine (State.f_setF_self _ _ _ _ (by decide) (by decide)).trans (Nat.mod_eq_of_lt ?_)
    exact Nat.lt_trans h (by decide)
  clear_value begun
  rw [if_neg (by omega)]
  split
  · refine ⟨?_, ?_, ?_⟩
    · exact ((hswept begun).f_group (by decide) (by simp)).trans hstate
    · rw [(hswept begun).calRec rfl, hmask]
    · rw [(hswept begun).f_group (by decide) (by simp), hblock]
  · exact ⟨hstate, hmask, hblock⟩

/-- A run with a block to do begins. -/
theorem State.calState_calStart (s : State) (g : Grp) (trig : Nat) (ramp : Bool) {mask : Nat} (h : mask % 64 ≠ 0) :
    (s.calStart g trig ramp mask).calState g = 1 := by
  unfold State.calStart
  extract_lets m before undone begun
  have hbegun : begun.calState g = 1 ∧ (begun.calRec g).mask = m := by
    refine ⟨?_, by rw [State.calRec_modCal]⟩
    rw [State.calState, State.f_modCal, State.f_setF_self _ _ _ _ (by decide) (by decide)]
    rfl
  clear_value begun
  have hraised := begun.needRaise_touches (P := {}) (es := []) g before
  have hmask : ((begun.needRaise g before).calRec g).mask = m := by rw [hraised.calRec rfl, hbegun.2]
  have hlow : lowBlock m < 6 := by
    have hle : lowBlock m ≤ 6 := by
      unfold lowBlock
      cases hfind : (List.range 6).find? fun b => m.testBit b with
      | none => exact le_refl _
      | some b => exact Nat.le_of_lt (List.mem_range.1 (List.mem_of_find?_eq_some hfind))
    exact lt_of_le_of_ne hle fun he => h (by simpa [m] using lowBlock_eq_six he)
  rw [(State.calNext_begins (by rw [hmask]; exact hlow)).1]
  refine (hraised.f_group (by decide) ?_).trans hbegun.1
  simp only [GroupR.CAL_STAT_STATE, pageAddr, pageNum, List.mem_cons, List.not_mem_nil, or_false]
  omega

/-- A trigger that nothing blocks begins a run. -/
theorem State.calState_calTrigger (trig : Nat) (ramp : Bool) {mask : Nat} (hblocked : s.calBlocked g = false) (hoff : s.calOn g = false)
    (hmask : mask % 64 ≠ 0) : (s.calTrigger g trig ramp mask).calState g = 1 := by
  have hnoted : s.Touches [pageAddr (gp g) 0x18C] (s.setF (gp g) GroupR.CAL_STAT_LAST_TRIG trig) :=
    (State.Touches.refl _ s).setF _ List.mem_cons_self
  have hopen := State.calBlocked_of_touches (g := g) hnoted fun a ha hm =>
    calGate_ne ha (by decide) (List.mem_singleton.1 hm)
  have hidle : (s.setF (gp g) GroupR.CAL_STAT_LAST_TRIG trig).calOn g = false := by
    rw [State.calOn, State.calState, State.f_setF_apart _ _ _ _ (by decide)]
    exact hoff
  unfold State.calTrigger
  dsimp only
  rw [if_neg (by simp [hopen, hblocked, hidle])]
  exact State.calState_calStart _ g trig ramp hmask

theorem State.calBlocks_mod (s : State) (g : Grp) : s.calBlocks g % 64 = s.calBlocks g := by
  refine Nat.mod_eq_of_lt ?_
  rw [State.calBlocks, State.f]
  exact Nat.mod_lt _ (by decide)

theorem State.calPeriod_begins (hperiod : s.f (gp g) GroupR.CAL_CTL_PERIOD ≠ 0) (hblocked : s.calBlocked g = false)
    (hoff : s.calOn g = false) (hblocks : s.calBlocks g ≠ 0) : (s.calPeriod g).calState g = 1 := by
  rw [State.calPeriod, if_neg hperiod]
  exact State.calState_calTrigger 4 _ hblocked hoff (by rwa [State.calBlocks_mod])

theorem State.calPendStart_begins {k m : Nat} {r : Bool} (hpend : (s.calRec g).pend = some (k, r, m)) (hblocked : s.calBlocked g = false)
    (hoff : s.calOn g = false) (hmask : m % 64 ≠ 0) : (s.calPendStart g).calState g = 1 := by
  rw [State.calPendStart, hpend]
  dsimp only
  rw [if_neg (by simp [hblocked, hoff])]
  exact State.calState_calStart _ g k r hmask

end Sys2Proof.Machine

end

section
/-!
SUPPORT. The commands of CAL_CMD that are taken: RUN, APPLY and ABORT (R383, R384, R386).
-/

-- Proofs are elaborated one at a time: side by side their threads reserve more memory than a check has.
set_option Elab.async false

namespace Sys2Proof.Machine

variable {P : HouseParts} {es : List Eng} {l : List Nat} {s t u : State} {g : Grp}

/-! ### CAL_CMD (R383, R384, R386) -/

/-- The fields of CAL_CMD. -/
def calAbortRow : Row := { fld := GroupR.CAL_CMD_ABORT, acc := .w1s, rst := 0x0 }
def calApplyRow : Row := { fld := GroupR.CAL_CMD_APPLY, acc := .w1s, rst := 0x0 }
def calRunRow : Row := { fld := GroupR.CAL_CMD_RUN, acc := .w1s, rst := 0x0 }

theorem rowsAt_calCmd (g : Grp) : rowsAt (gp g) 0x188 = [calAbortRow, calApplyRow, calRunRow] := by
  have hrows : (rowsHdr ++ rowsGroup).filter (rowCovers 0x188) = [calAbortRow, calApplyRow, calRunRow] := by decide +kernel
  simp [rowsAt, pageRows, mirrorReg, hrows]

theorem writeOut_calCmd (v : Nat → Word) (g : Grp) {b : Nat} (hb : b < 3) :
    (writeOut v false (gp g) 0x188 (fset 0 b b 1) (fldMask b b)).act = 1#32 <<< b := by
  interval_cases b
  · exact (writeOut_action v (by decide) (by decide) (before := [calAbortRow, calApplyRow]) (after := []) (rowsAt_calCmd g) rfl rfl (by decide)).2
  · exact (writeOut_action v (by decide) (by decide) (before := [calAbortRow]) (after := [calRunRow]) (rowsAt_calCmd g) rfl rfl (by decide)).2
  · exact (writeOut_action v (by decide) (by decide) (before := []) (after := [calApplyRow, calRunRow]) (rowsAt_calCmd g) rfl rfl (by decide)).2

/-- A register of a group after its page header is one of its own, but at 0x06C. -/
theorem ownReg_group (g : Grp) {off : Nat} (h : 0x040 ≤ off ∧ off < 4096 ∧ off ≠ 0x06C) : ownReg (gp g) off = true := by
  have hside := pageAddr_group_not_side g h.2.1
  simp [ownReg, feedsSum, hside, h]
  omega

theorem State.directEffect_group (u : State) (g : Grp) {off : Nat} (hoff : 0x040 ≤ off) (old act wrote : Word) :
    u.directEffect (gp g) off old act wrote = u.effGroup g off act wrote := by
  simp [State.directEffect, State.effect, Nat.not_lt.2 hoff]

/-- A command of CAL_CMD that is taken acts in a state that has all but the page's violation counters, and ADM_PEAK, as they were. -/
theorem State.offerCalCmd_leads {c : Src} {b : Nat} (hb : b < 3) (h : s.takesF c (gp g) ⟨0x188, b, b⟩ 1 = true) :
    ∃ (u : State) (wrote : Word), s.offerAct c (gp g) ⟨0x188, b, b⟩ = u.effGroup g 0x188 (1#32 <<< b) wrote ∧
      s.Touches (storeRegs (gp g) 0x188) u := by
  obtain ⟨v, u, -, hlead, -, hframe, hsame⟩ := State.offerReg_leads (off := 0x188) h rfl (fun _ => rfl) (ownReg_group g (by decide))
  rw [State.directEffect_group _ _ (by decide), writeOut_calCmd v g hb] at hlead
  exact ⟨u, _, hlead, hframe, hsame⟩

theorem calGate_not_stored {off : Nat} (h : 0x034 < off ∧ off < 4096 ∧ off ≠ 0x108) : ∀ a ∈ calGate g, a ∉ storeRegs (gp g) off := by
  intro a ha
  have h1 := calGate_ne ha h
  simp only [storeRegs, List.mem_cons, List.not_mem_nil, or_false, not_or]
  refine ⟨h1, ?_, ?_, ?_⟩
  all_goals
    simp only [calGate, regsOf, List.map_cons, List.map_nil, List.mem_append, List.mem_map, List.mem_cons, List.not_mem_nil, or_false] at ha
    rcases ha with ((rfl | rfl | rfl) | rfl) | ⟨e, -, rfl⟩ <;> simp only [pageAddr, pageNum, StageR.ENG_STAT_STATE] <;> omega

theorem State.Touches.f_group (h : s.Touches l t) {x : Fld} (hx : x.off < 4096) (hl : pageAddr (gp g) x.off ∉ l) :
    t.f (gp g) x = s.f (gp g) x := h.1.f hl (pageAddr_group_not_side g hx)

theorem group_not_stored {off : Nat} (o : Nat) (h : o < 4096 ∧ off < 4096 ∧ o ≠ off ∧ o ≠ 0x020 ∧ o ≠ 0x024) :
    pageAddr (gp g) o ∉ storeRegs (gp g) off := by
  simp only [storeRegs, pageAddr, pageNum, List.mem_cons, List.not_mem_nil, or_false]
  omega

/-- RUN that is taken, with nothing to block it, begins a run. -/
theorem State.offerCalRun_begins {c : Src} (h : s.takesF c (gp g) GroupR.CAL_CMD_RUN 1 = true) (hblocked : s.calBlocked g = false)
    (hoff : s.calOn g = false) (hblocks : s.calBlocks g ≠ 0) : (s.offerAct c (gp g) GroupR.CAL_CMD_RUN).calState g = 1 := by
  obtain ⟨u, wrote, hlead, htouch⟩ := State.offerCalCmd_leads (b := 0) (by decide) h
  have hopen : u.calBlocked g = false := (State.calBlocked_of_touches htouch (calGate_not_stored (by decide))).trans hblocked
  have hstate : u.calState g = s.calState g := htouch.f_group (by decide) (group_not_stored _ (by decide))
  have hmask : u.calBlocks g = s.calBlocks g := htouch.f_group (by decide) (group_not_stored _ (by decide))
  rw [show GroupR.CAL_CMD_RUN = ⟨0x188, 0, 0⟩ from rfl, hlead]
  have heffect : u.effGroup g 0x188 (1#32 <<< 0) wrote = u.calTrigger g 2 (u.on (gp g) GroupR.CAL_CTL_RAMP) (u.calBlocks g) := by
    simp [State.effGroup, wbit]
  rw [heffect]
  exact State.calState_calTrigger 2 _ hopen (by rw [State.calOn, hstate, ← State.calOn, hoff]) (by rwa [State.calBlocks_mod, hmask])

/-! ### Results applied (R384) -/

theorem State.pend_calApplyPath (s : State) (p q : Path) : (s.calApplyPath q).pend p = if p = q then [] else s.pend p := by
  have hset : ∀ v : TrimSt, (s.setTrim q v).pends = s.pends := fun v => by
    unfold State.setTrim
    split
    · rfl
    · simp [State.calDirty, State.modFlash, State.putTrim]
  rw [State.calApplyPath, State.pend, State.setPend]
  dsimp only
  rw [hset]
  split
  next h =>
    subst h
    exact tabGet_tabSet_self _ _ _ _
  next h => exact tabGet_tabSet_ne _ _ _ _ _ fun e => h (Fin.ext e)

theorem mem_grpPaths (p : Path) : p ∈ grpPaths (pathGrp p) := by
  revert p
  decide +kernel

/-- Applied results are pending no more. -/
theorem State.pend_calApply (s : State) (p : Path) : (s.calApply (pathGrp p)).pend p = [] := by
  have hin : ∀ (ps : List Path) (u : State), p ∈ ps ∨ u.pend p = [] → (forAll ps (fun q v => v.calApplyPath q) u).pend p = [] := by
    intro ps
    induction ps with
    | nil => exact fun u h => h.resolve_left (List.not_mem_nil)
    | cons q ps ih =>
      refine fun u h => ih _ ?_
      rw [State.pend_calApplyPath]
      by_cases hq : p = q
      · exact .inr (if_pos hq)
      · rw [if_neg hq]
        exact h.imp_left fun hm => (List.mem_cons.1 hm).resolve_left hq
  exact hin _ s (.inl (mem_grpPaths p))

/-- APPLY that is taken applies what is pending. -/
theorem State.offerCalApply_applies {c : Src} {p : Path} (h : s.takesF c (gp (pathGrp p)) GroupR.CAL_CMD_APPLY 1 = true) :
    (s.offerAct c (gp (pathGrp p)) GroupR.CAL_CMD_APPLY).pend p = [] := by
  obtain ⟨u, wrote, hlead, -⟩ := State.offerCalCmd_leads (b := 1) (by decide) h
  rw [show GroupR.CAL_CMD_APPLY = ⟨0x188, 1, 1⟩ from rfl, hlead]
  have heffect : u.effGroup (pathGrp p) 0x188 (1#32 <<< 1) wrote = u.calApply (pathGrp p) := by
    simp [State.effGroup, wbit]
  rw [heffect]
  exact u.pend_calApply p

/-! ### A run abandoned (R386) -/

/-- The parts that the end of a CAL_RUN command may touch. -/
def answerParts : HouseParts := { engines := true, groups := true, free := true }

theorem State.calCmdEnd_houseTouches (s : State) (g : Grp) (done : Bool) :
    s.HouseTouches answerParts allEngs (allEngs.flatMap queueRegs) (s.calCmdEnd g done) := by
  have hrefl := State.HouseTouches.refl answerParts allEngs (allEngs.flatMap queueRegs)
  have habort : ∀ (u : State), ∀ e ∈ allEngs, u.HouseTouches answerParts allEngs (allEngs.flatMap queueRegs) (u.abortLong e) :=
    fun u e he => by
      obtain ⟨hf, hr, -⟩ := State.abortLong_touches (P := answerParts) rfl u e rfl rfl
      exact ⟨hf.mono fun a ha => List.mem_flatMap.2 ⟨e, he, ha⟩, hr, fun d hd => absurd (List.mem_finRange d) hd⟩
  unfold State.calCmdEnd
  refine (hrefl s).foldl _ fun e he u => ?_
  beta_reduce
  split
  · exact .ite (.ite ((hrefl u).modEng _ rfl he) (habort u e he)) (hrefl u)
  · exact hrefl u

/-- A run that is abandoned is over. -/
theorem State.calState_calAbandon (s : State) (g : Grp) (keep : Bool) : (s.calAbandon g keep).calState g = 0 := by
  unfold State.calAbandon
  extract_lets c ramped kept
  have hramped : ramped.calState g = 0 := by
    refine forAll_keeps (M := fun u => u.calState g = 0) (f := fun p v => v.setRamp p []) ?_ _ fun p u h => h
    exact (State.f_setF_self _ _ _ _ (by decide) (by decide)).trans (by decide)
  clear_value ramped
  have hkept : kept.calState g = 0 := by
    rw [show kept = if keep then _ else ramped from rfl]
    split
    · rw [State.calState, State.f_setF_apart _ _ _ _ (by decide), State.f_modCal]
      exact hramped
    · exact hramped
  clear_value kept
  split
  next hoff => simpa [State.calOn] using hoff
  · split
    · have hend := kept.calCmdEnd_houseTouches g false
      refine (hend.f_group (by decide) fun hm => ?_).trans hkept
      obtain ⟨e, -, he⟩ := List.mem_flatMap.1 hm
      simp only [queueRegs, regsOf, List.map_cons, List.map_nil, pageAddr, pageNum, GroupR.CAL_STAT_STATE, List.mem_cons, List.not_mem_nil,
        or_false] at he
      omega
    · exact hkept

/-- ABORT that is taken ends the run. -/
theorem State.offerCalAbort_ends {c : Src} (h : s.takesF c (gp g) GroupR.CAL_CMD_ABORT 1 = true) :
    (s.offerAct c (gp g) GroupR.CAL_CMD_ABORT).calState g = 0 := by
  obtain ⟨u, wrote, hlead, -⟩ := State.offerCalCmd_leads (b := 2) (by decide) h
  rw [show GroupR.CAL_CMD_ABORT = ⟨0x188, 2, 2⟩ from rfl, hlead]
  have heffect : u.effGroup g 0x188 (1#32 <<< 2) wrote = u.calAbandon g false := by
    simp [State.effGroup, wbit]
  rw [heffect]
  exact u.calState_calAbandon g false

end Sys2Proof.Machine

end

section
/-!
SUPPORT. The end of a block: the blocks a run has still to do (R383 to R385).
-/

-- Proofs are elaborated one at a time: side by side their threads reserve more memory than a check has.
set_option Elab.async false

namespace Sys2Proof.Machine

variable {P : HouseParts} {es : List Eng} {l : List Nat} {s t u : State} {g : Grp}

/-! ### The end of a block (R383 to R385) -/

theorem State.calRec_of_groups (h : t.groups = s.groups) (g : Grp) : t.calRec g = s.calRec g := by
  rw [State.calRec, State.grp, h, State.calRec, State.grp]

theorem State.calRec_modCal_ne (s : State) {g k : Grp} (f : CalSt → CalSt) (h : g ≠ k) : (s.modCal k f).calRec g = s.calRec g := by
  rw [State.calRec, State.modCal, State.grp, State.setGrp, State.calRec, State.grp]
  exact congrArg GroupSt.cal (tabGet_tabSet_ne _ _ _ _ _ fun e => h (Fin.ext e))

/-- A change of a run's record that keeps the blocks it has still to do. -/
theorem State.calMask_modCal (s : State) (g k : Grp) {f : CalSt → CalSt} (hf : ∀ c, (f c).mask = c.mask) :
    ((s.modCal k f).calRec g).mask = (s.calRec g).mask := by
  by_cases h : g = k
  · subst h
    rw [State.calRec_modCal, hf]
  · rw [State.calRec_modCal_ne _ _ h]

theorem State.groups_calFail (s : State) (p : Path) (b slice cause : Nat) : (s.calFail p b slice cause).groups = s.groups := by
  have hraise : ∀ (u : State) (q : Page) (bit : Nat), (u.raise q bit).groups = u.groups := fun u q bit => by
    have hrest := (u.raise_spec q bit).2
    simp only [State.SameRest] at hrest
    simp only [hrest]
  rw [State.calFail, hraise, hraise]
  simp [State.inc, State.add]

/-- The result of a block on a path leaves every run the blocks it has still to do. -/
theorem State.calMask_calResult (s : State) (p : Path) (b : Nat) (r : Option CalRes) (g : Grp) :
    ((s.calResult p b r).calRec g).mask = (s.calRec g).mask := by
  have hfail : ∀ cause, ((s.calFail p b 0xFF cause).calRec g).mask = (s.calRec g).mask := fun cause => by
    rw [State.calRec_of_groups (s.groups_calFail p b 0xFF cause)]
  unfold State.calResult
  cases r with
  | none => exact hfail 1
  | some r =>
    dsimp only
    split
    · exact hfail 1
    · split
      · exact hfail 2
      · have hnoted : ∀ (n : Nat) (u : State), u.groups = (s.modCal (pathGrp p) fun c => { c with changed := c.changed + n }).groups →
            (u.calRec g).mask = (s.calRec g).mask := fun n u h => by
          rw [State.calRec_of_groups h]
          exact s.calMask_modCal g (pathGrp p) (f := fun c => { c with changed := c.changed + n }) fun _ => rfl
        split
        · split
          · exact hnoted _ _ rfl
          · exact hnoted _ _ rfl
        · split
          · exact hnoted _ _ rfl
          · exact hnoted _ _ rfl

theorem State.groups_calApply (s : State) (g : Grp) : (s.calApply g).groups = s.groups := by
  refine forAll_keeps (M := fun u => u.groups = s.groups) rfl _ fun p u h => ?_
  rw [State.calApplyPath, State.setTrim, State.setPend]
  split
  · exact h
  · simpa [State.calDirty, State.modFlash, State.putTrim] using h

/-- A block that ends with another to do leads to that one. -/
theorem State.calBlockEnd_next (rs : List CalRes) (hon : s.calState g = 1)
    (hnext : lowBlock ((s.calRec g).mask - 2 ^ lowBlock (s.calRec g).mask) < 6) :
    ((s.calBlockEnd g rs).calRec g).mask = (s.calRec g).mask - 2 ^ lowBlock (s.calRec g).mask ∧
      (s.calBlockEnd g rs).f (gp g) GroupR.CAL_STAT_BLOCK = lowBlock ((s.calBlockEnd g rs).calRec g).mask := by
  unfold State.calBlockEnd
  rw [if_neg (by simp [hon])]
  extract_lets b before measured ended applied
  have hmeasured : (measured.calRec g).mask = (s.calRec g).mask := by
    rw [show measured = if b = 5 then s else _ from rfl]
    split
    · rfl
    · refine forAll_keeps (M := fun u => (u.calRec g).mask = (s.calRec g).mask) (f := fun p u => u.calResult p b _) rfl _ fun p u h => ?_
      rw [State.calMask_calResult, h]
  clear_value measured
  have hended : (ended.calRec g).mask = (s.calRec g).mask - 2 ^ b := by rw [State.calRec_modCal, hmeasured]
  clear_value ended
  have happlied : (applied.calRec g).mask = (s.calRec g).mask - 2 ^ b := by
    rw [show applied = if _ then ended.calApply g else ended from rfl]
    split
    · rw [State.calRec_of_groups (ended.groups_calApply g), hended]
    · exact hended
  clear_value applied
  have hraised : ((applied.needRaise g before).calRec g).mask = (s.calRec g).mask - 2 ^ b := by
    rw [(applied.needRaise_touches (P := {}) (es := []) g before).calRec rfl, happlied]
  obtain ⟨-, hmask, hblock⟩ := State.calNext_begins (s := applied.needRaise g before) (g := g) (by rw [hraised]; exact hnext)
  exact ⟨hmask.trans hraised, by rw [hblock, hmask]⟩

end Sys2Proof.Machine

end

section
/-!
SUPPORT. The steps of a ramp (R387), and the end of a disruptive run's window (R389).
-/

-- Proofs are elaborated one at a time: side by side their threads reserve more memory than a check has.
set_option Elab.async false

namespace Sys2Proof.Machine

variable {P : HouseParts} {es : List Eng} {l : List Nat} {s t u : State} {g : Grp}

/-! ### Ramps (R387) -/

/-- The trims of a path once each moving one has advanced by a code. -/
def State.advanced (s : State) (p : Path) : TrimSt :=
  (s.ramp p).foldl (fun t e => setBlock e.1 (List.zipWith rampCode (blockCodes e.1 t) e.2) t) (s.trim p)

/-- The step of a ramp on one path. -/
def State.rampPath (s : State) (p : Path) : State :=
  (s.setTrim p (s.advanced p)).setRamp p ((s.ramp p).filter fun e => blockCodes e.1 (s.advanced p) != e.2)

theorem State.rampStep_eq (hon : s.calOn g = true) (hmoving : (grpPaths g).any (fun p => !(s.ramp p).isEmpty) = true) :
    s.rampStep g = if (forAll (grpPaths g) (fun p u => u.rampPath p) s).calState g == 2
      then (forAll (grpPaths g) (fun p u => u.rampPath p) s).calBlocksDone g else forAll (grpPaths g) (fun p u => u.rampPath p) s := by
  rw [State.rampStep, if_neg (by simp [hon, hmoving])]
  rfl

theorem State.trim_setTrim (s : State) (p q : Path) (v : TrimSt) : (s.setTrim q v).trim p = if p = q then v else s.trim p := by
  unfold State.setTrim
  split
  next h =>
    split
    next hpq => rw [hpq, h]
    · rfl
  · have htrims : ((s.putTrim q v).calDirty).trims = tabSet (fun _ => ({} : TrimSt)) s.trims q.val v := by
      simp [State.calDirty, State.modFlash, State.putTrim]
    rw [State.trim, htrims]
    split
    next hpq => rw [hpq]; exact tabGet_tabSet_self _ _ _ _
    next hpq => exact tabGet_tabSet_ne _ _ _ _ _ fun e => hpq (Fin.ext e)

theorem State.ramps_setTrim (s : State) (q : Path) (v : TrimSt) : (s.setTrim q v).ramps = s.ramps := by
  unfold State.setTrim
  split
  · rfl
  · simp [State.calDirty, State.modFlash, State.putTrim]

theorem State.trim_rampPath (s : State) (p q : Path) : (s.rampPath q).trim p = if p = q then s.advanced p else s.trim p := by
  rw [State.rampPath, show ∀ (u : State) v, (u.setRamp q v).trim p = u.trim p from fun _ _ => rfl, State.trim_setTrim]
  split
  next h => rw [h]
  · rfl

/-- A step on another path leaves a path's trims, and where they go. -/
theorem State.advanced_rampPath_ne (s : State) {p q : Path} (h : p ≠ q) :
    (s.rampPath q).advanced p = s.advanced p := by
  have hramp : (s.rampPath q).ramp p = s.ramp p := by
    rw [State.ramp, State.rampPath, State.setRamp]
    dsimp only
    rw [State.ramps_setTrim]
    exact tabGet_tabSet_ne _ _ _ _ _ fun e => h (Fin.ext e)
  rw [State.advanced, hramp, State.trim_rampPath, if_neg h, State.advanced]

theorem State.trim_rampPaths_of_not_mem {p : Path} (ps : List Path) (s : State) (h : p ∉ ps) :
    (forAll ps (fun q u => u.rampPath q) s).trim p = s.trim p := by
  induction ps generalizing s with
  | nil => rfl
  | cons q ps ih =>
    have hne : p ≠ q := fun e => h (e ▸ List.mem_cons_self)
    exact (ih _ fun hm => h (List.mem_cons_of_mem _ hm)).trans (by rw [State.trim_rampPath, if_neg hne])

theorem State.trim_rampPaths {p : Path} (ps : List Path) (s : State) (hin : p ∈ ps) (hnodup : ps.Nodup) :
    (forAll ps (fun q u => u.rampPath q) s).trim p = s.advanced p := by
  induction ps generalizing s with
  | nil => exact absurd hin List.not_mem_nil
  | cons q ps ih =>
    obtain ⟨hout, hrest⟩ := List.nodup_cons.1 hnodup
    by_cases h : p = q
    · subst h
      exact (State.trim_rampPaths_of_not_mem ps _ hout).trans (by rw [State.trim_rampPath, if_pos rfl])
    · exact (ih _ ((List.mem_cons.1 hin).resolve_left h) hrest).trans (s.advanced_rampPath_ne h)

theorem State.HouseTouches.trims (h : s.HouseTouches P es l t) : t.trims = s.trims := by
  obtain ⟨-, hr, -⟩ := h
  simp only [State.SameRest] at hr
  simp only [hr]
  rfl

theorem State.trims_flashQueue (s : State) (op : FlashOp) : (s.flashQueue op).trims = s.trims :=
  (State.flashServe_touches (P := { flash := true, reh := true, security := true }) (es := []) (l := serveRegs ++ keyRegs)
    (s := s.modFlash fun x => { x with queue := x.queue ++ [op] }) rfl (fun _ ha => List.mem_append_left _ ha) rfl (by decide)
    (.inr ⟨rfl, fun _ ha => List.mem_append_right _ ha⟩)).trims

theorem trims_ite {c : Prop} [Decidable c] {x : List (Nat × TrimSt)} (ht : t.trims = x) (hu : u.trims = x) : (if c then t else u).trims = x := by
  split <;> assumption

theorem State.trims_calBlocksDone (s : State) (g : Grp) : (s.calBlocksDone g).trims = s.trims := by
  have hraise : ∀ (u : State) (q : Page) (bit : Nat), (u.raise q bit).trims = u.trims := fun u q bit => by
    have hrest := (u.raise_spec q bit).2
    simp only [State.SameRest] at hrest
    simp only [hrest]
  have hstore : ∀ u : State, u.calAutoStore.trims = u.trims := fun u =>
    trims_ite (by rw [State.trims_flashQueue]; simp) rfl
  have hcomplete : (s.calComplete g).trims = s.trims := by
    unfold State.calComplete
    extract_lets c noted told
    have htold : told.trims = s.trims := by
      rw [hraise, hraise]
      simp [noted, State.modCal, State.setGrp, State.inc, State.add]
    rw [hstore]
    exact trims_ite ((told.calCmdEnd_houseTouches g true).trims.trans htold) htold
  exact trims_ite (by simp) hcomplete

/-- A step of a ramp advances every moving trim of a path by one code. -/
theorem State.rampStep_advances {p : Path} (hon : s.calOn (pathGrp p) = true) (hramp : s.ramp p ≠ []) :
    (s.rampStep (pathGrp p)).trim p = s.advanced p := by
  have hmoving : (grpPaths (pathGrp p)).any (fun q => !(s.ramp q).isEmpty) = true :=
    List.any_eq_true.2 ⟨p, mem_grpPaths p, by simpa using hramp⟩
  have hnodup : ∀ g : Grp, (grpPaths g).Nodup := by decide +kernel
  have hadvanced := State.trim_rampPaths _ s (mem_grpPaths p) (hnodup _)
  rw [State.rampStep_eq hon hmoving]
  generalize forAll (grpPaths (pathGrp p)) (fun q u => u.rampPath q) s = moved at hadvanced
  split
  · rw [← hadvanced, State.trim, State.trims_calBlocksDone, State.trim]
  · exact hadvanced

/-! ### The disruptive ADC run (R389, R390) -/

/-- The window of a disruptive run ends. -/
theorem State.disruptClose_closes {p : Path} (rs : List SliceRes) (h : (s.path p).disrupt = true) :
    ((s.disruptClose p rs).path p).disrupt = false := by
  unfold State.disruptClose
  rw [if_neg (by simp [h])]
  extract_lets c skewed first working sliced
  have hdone : ∀ u : State, (u.setDone p true).paths = u.paths := fun u => by simp [State.setDone]
  rw [State.path, hdone]
  exact congrArg PathSt.disrupt (tabGet_tabSet_self _ _ _ _)

end Sys2Proof.Machine

end

section
/-!
SUPPORT. Disruptive runs that are asked for (R389, R390); with it the commands of the sensors and of calibration.
-/

-- Proofs are elaborated one at a time: side by side their threads reserve more memory than a check has.
set_option Elab.async false

namespace Sys2Proof.Machine

variable {P : HouseParts} {es : List Eng} {l : List Nat} {s t u : State} {g : Grp}

/-- The fields of CAL_DISRUPT. -/
def disruptSkewRow : Row := { fld := GroupR.CAL_DISRUPT_SKEW, acc := .rw, rst := 0x0 }
def disruptPathsRow : Row := { fld := GroupR.CAL_DISRUPT_PATHS, acc := .w1s, rst := 0x0 }

theorem rowsAt_disrupt (g : Grp) : rowsAt (gp g) 0x1A0 = [disruptSkewRow, disruptPathsRow] := by
  have hrows : (rowsHdr ++ rowsGroup).filter (rowCovers 0x1A0) = [disruptSkewRow, disruptPathsRow] := by decide +kernel
  simp [rowsAt, pageRows, mirrorReg, hrows]

/-- The word that asks for disruptive runs. -/
def disruptWord (skew : Bool) (paths : BitVec 16) : Word := BitVec.ofNat 32 (b2n skew * 2 ^ 16 + paths.toNat)

/-- Each path that it names is an action. -/
theorem writeOut_disrupt (v : Nat → Word) (g : Grp) (data : Word) (b : Nat) (hb : b < 16) :
    (writeOut v false (gp g) 0x1A0 data allOnes).act.getLsbD b = data.getLsbD b := by
  have hmask : allOnes &&& ~~~ctlUnsupported (gp g) 0x1A0 = allOnes := by
    rw [ctlUnsupported, if_neg (by decide)]
    decide
  have hones : ∀ i : Fin 16, allOnes.getLsbD i.val = true ∧ (fldMask 15 0).getLsbD i.val = true := by decide +kernel
  simp only [writeOut, rowsAt_disrupt, List.foldl_cons, List.foldl_nil, hmask]
  rw [writeRow_rw_legal (r := disruptSkewRow) rfl (by decide) (by decide) (fieldLegal_of_legalCode rfl (by decide)),
    writeRow_w1s (r := disruptPathsRow) rfl (by decide)]
  simp [disruptPathsRow, GroupR.CAL_DISRUPT_PATHS, hones ⟨b, hb⟩]

theorem disruptWord_bit (skew : Bool) (paths : BitVec 16) {b : Nat} (hb : b < 16) : (disruptWord skew paths).getLsbD b = paths.getLsbD b := by
  rw [disruptWord, BitVec.getLsbD_ofNat, Nat.mul_comm, Nat.testBit_two_pow_mul_add _ paths.isLt, if_pos hb, BitVec.getLsbD]
  simp
  omega

/-! ### What a disruptive run asks (R390) -/

/-- A window can open on a path at once: it has no swing slice, and its group is up. -/
def State.DisruptFree (s : State) (p : Path) : Prop := s.f (pp p) PathR.SWING_STAT_AVAIL = 0 ∧ s.grpDown (pathGrp p) = false

theorem State.DisruptFree.of_touches {p : Path} (h : s.DisruptFree p) (ht : s.Touches l t) (hp : pageAddr (pp p) 0x0A0 ∉ l)
    (hg : pageAddr (gp (pathGrp p)) 0x108 ∉ l) : t.DisruptFree p := by
  obtain ⟨havail, hup⟩ := h
  refine ⟨(ht.1.f hp (pageAddr_path_not_side p _)).trans havail, ?_⟩
  rw [State.grpDown, ht.f_group (by decide) hg, ← State.grpDown, hup]

theorem State.DisruptFree.of_regs {p : Path} (h : s.DisruptFree p) (hr : t.regs = s.regs) : t.DisruptFree p := by
  obtain ⟨havail, hup⟩ := h
  exact ⟨(State.f_of_regs hr _ _).trans havail, by rw [State.grpDown, State.f_of_regs hr, ← State.grpDown, hup]⟩

theorem State.disruptOpen_path (s : State) (p q : Path) : ((s.disruptOpen q).path p).disrupt = if p = q then true else (s.path p).disrupt := by
  rw [State.disruptOpen, State.piHold]
  split
  next h =>
    subst h
    exact congrArg PathSt.disrupt (tabGet_tabSet_self _ _ _ _)
  next h =>
    have hne : p.val ≠ q.val := fun e => h (Fin.ext e)
    exact congrArg PathSt.disrupt ((tabGet_tabSet_ne _ _ _ _ _ hne).trans (tabGet_tabSet_ne _ _ _ _ _ hne))

/-- What is asked of one path leaves another's window open, and free to open. -/
theorem State.disruptAsk_keeps (s : State) (g : Grp) (i : Nat) (p : Path) :
    ((s.path p).disrupt = true → ((s.disruptAsk g i).path p).disrupt = true) ∧ (s.DisruptFree p → (s.disruptAsk g i).DisruptFree p) := by
  unfold State.disruptAsk
  split
  · exact ⟨id, id⟩
  next q _ =>
    split
    · have hpaths := (State.SameRest.refl s).viol (gp g) .consistency
      simp only [State.SameRest] at hpaths
      refine ⟨fun h => by rw [State.path, show (s.viol (gp g) .consistency).paths = s.paths by simp only [hpaths], ← State.path, h],
        fun h => h.of_touches (l := [pageAddr (gp g) 0x024]) ⟨(State.Frame.refl s _).viol _ _ (.inl List.mem_cons_self),
          (State.SameRest.refl s).viol _ _⟩ ?_ ?_⟩
      all_goals
        simp only [pageAddr, pageNum, List.mem_singleton]
        omega
    · split
      · exact ⟨id, fun h => h.of_regs rfl⟩
      · refine ⟨fun h => ?_, fun h => h.of_regs rfl⟩
        rw [State.disruptOpen_path]
        split
        · rfl
        · exact h

theorem State.disruptAsk_opens {p : Path} {i : Nat} (hi : (grpPaths (pathGrp p))[i]? = some p) (h : s.DisruptFree p) :
    ((s.disruptAsk (pathGrp p) i).path p).disrupt = true := by
  rw [State.disruptAsk, hi]
  dsimp only
  rw [if_neg (by simp [h.1]), if_neg (by simp [h.2]), State.disruptOpen_path, if_pos rfl]

/-- A path among those asked for opens its window. -/
theorem State.disruptAsks_open {p : Path} {i : Nat} (hi : (grpPaths (pathGrp p))[i]? = some p) (is : List Nat) (s : State)
    (h : (s.path p).disrupt = true ∨ i ∈ is ∧ s.DisruptFree p) :
    ((forAll is (fun j u => u.disruptAsk (pathGrp p) j) s).path p).disrupt = true := by
  induction is generalizing s with
  | nil => exact h.resolve_right fun hm => List.not_mem_nil hm.1
  | cons j is ih =>
    obtain ⟨hopen, hfree⟩ := s.disruptAsk_keeps (pathGrp p) j p
    refine ih _ ?_
    rcases h with h | ⟨hm, h⟩
    · exact .inl (hopen h)
    · rcases List.mem_cons.1 hm with rfl | hm
      · exact .inl (State.disruptAsk_opens hi h)
      · exact .inr ⟨hm, hfree h⟩

theorem grpPaths_pathIdx (p : Path) : (grpPaths (pathGrp p))[pathIdx p]? = some p := by
  revert p
  decide +kernel

theorem pathIdx_lt (p : Path) : pathIdx p < 16 := by
  unfold pathIdx
  split <;> omega

/-- A disruptive run that is taken opens the window of each path it names that is free. -/
theorem State.offerDisrupt_opens {c : Src} {p : Path} {skew : Bool} {paths : BitVec 16}
    (h : s.takes c (gp (pathGrp p)) 0x1A0 (disruptWord skew paths) allOnes = true) (hnamed : paths.getLsbD (pathIdx p) = true)
    (hfree : s.DisruptFree p) : ((s.offerReg c (gp (pathGrp p)) 0x1A0 (disruptWord skew paths) allOnes).path p).disrupt = true := by
  obtain ⟨v, u, -, hlead, -, hframe, hsame⟩ := State.offerReg_leads h rfl (fun _ => rfl) (ownReg_group (pathGrp p) (by decide))
  have hbit := (writeOut_disrupt v (pathGrp p) _ _ (pathIdx_lt p)).trans ((disruptWord_bit skew paths (pathIdx_lt p)).trans hnamed)
  have hu : u.DisruptFree p := hfree.of_touches ⟨hframe, hsame⟩
    (by simp only [storeRegs, pageAddr, pageNum, List.mem_cons, List.not_mem_nil, or_false]; omega) (group_not_stored _ (by decide))
  rw [hlead, State.directEffect_group _ _ (by decide)]
  generalize (writeOut v false (gp (pathGrp p)) 0x1A0 (disruptWord skew paths) allOnes).act = act at hbit
  rw [State.effGroup, if_neg (by decide), if_neg (by decide), if_pos rfl]
  exact State.disruptAsks_open (grpPaths_pathIdx p) _ u (.inr ⟨List.mem_filter.2 ⟨List.mem_range.2 (pathIdx_lt p), hbit⟩, hu⟩)

end Sys2Proof.Machine

open Sys2Proof Sys2Proof.Machine

/-- Settles O24: the sensors and calibration, each command by the lemma that follows its operation. -/
theorem calibrationCommandsComplete : Obligations.CalibrationCommandsComplete :=
  ⟨fun diff s => ⟨_, rfl, s.bgCompare_shows diff⟩, fun i reading twin _ hcool => ⟨_, rfl, State.sensorMean_shows i reading twin hcool⟩,
    fun _ _ _ h hblocked hoff hblocks => ⟨_, rfl, State.offerCalRun_begins h hblocked hoff hblocks⟩,
    fun _ _ hperiod hblocked hoff hblocks => ⟨_, rfl, State.calPeriod_begins hperiod hblocked hoff hblocks⟩,
    fun _ _ _ _ _ hpend hblocked hoff hmask => ⟨_, rfl, State.calPendStart_begins hpend hblocked hoff hmask⟩,
    fun _ l _ hon _ hnext => ⟨_, rfl, State.calBlockEnd_next l hon hnext⟩, fun _ _ _ h => ⟨_, rfl, State.offerCalApply_applies h⟩,
    fun _ _ _ h _ => ⟨_, rfl, State.offerCalAbort_ends h⟩, fun _ _ hon hramp => ⟨_, rfl, State.rampStep_advances hon hramp⟩,
    fun _ _ _ _ _ h hnamed havail hup => ⟨_, rfl, State.offerDisrupt_opens h hnamed ⟨havail, hup⟩⟩,
    fun _ l _ h => ⟨_, rfl, State.disruptClose_closes l h⟩⟩

end

section
/-!
SUPPORT. What a fault of an engine does to its group (R300, R303), and an engine that halts (R286, R289, R290).
-/

-- Proofs are elaborated one at a time: side by side their threads reserve more memory than a check has.
set_option Elab.async false

namespace Sys2Proof.Machine

variable {P : HouseParts} {es : List Eng} {l : List Nat} {s t u : State} {g : Grp} {e : Eng}

/-! ### What a fault of an engine does to its group (R300, R303) -/

theorem freeReg_header (p : Page) {off : Nat} (h : off < 0x040) : freeReg p off = true := by
  have hlow : ¬ 0x040 ≤ off := by omega
  have hlt : off < 4096 := by omega
  cases p <;> simp [freeReg, houseReg, hlow, hlt]
  omega

theorem State.bind_keepsHouse (s : State) (g : Grp) (n : Nat) : s.KeepsHouse (s.bind g n) :=
  (State.KeepsHouse.refl s).forAll _ fun p u =>
    ((State.KeepsHouse.refl u).setF p (x := Hdr.OWNER) n (freeReg_header p (by decide))).incW p (freeReg_header p (by decide))

theorem State.unstale_keepsHouse (s : State) (n : Nat) : s.KeepsHouse (s.unstale n) := by
  unfold State.unstale
  split
  · exact (State.KeepsHouse.refl s).modEng _ ⟨rfl, rfl, rfl, rfl, fun _ => rfl, id⟩
  · exact .refl s

theorem State.dropOpen_keepsHouse (s : State) (n : Nat) : s.KeepsHouse (s.dropOpen n) := by
  unfold State.dropOpen
  split
  · exact .ite (.refl s) ((State.KeepsHouse.refl s).of_regs rfl rfl rfl rfl)
  · exact .refl s

theorem State.notice_keepsHouse (s : State) (e : Eng) (code : Nat) (r0 r1 : Word) (ev : Bool) : s.KeepsHouse (s.notice e code r0 r1 ev) := by
  unfold State.notice
  extract_lets x
  have hposted : s.KeepsHouse (s.setEng e { x with rspq := x.rspq ++ [s.noticeWord e code r0 r1] }) :=
    (State.KeepsHouse.refl s).setEng e ⟨rfl, rfl, rfl, rfl, id, id⟩
  exact .ite (hposted.raiseIf _ _ _) ((State.KeepsHouse.refl s).inc _ rfl)

theorem State.handover_keepsHouse (s : State) (g : Grp) (st : Nat) : s.KeepsHouse (s.handover g st) := by
  unfold State.handover
  extract_lets n bound counted freed
  have hbound : s.KeepsHouse bound := ((s.bind_keepsHouse g n).trans (State.dropOpen_keepsHouse _ _)).trans (State.unstale_keepsHouse _ n)
  have hcounted : s.KeepsHouse counted := ((hbound.setF _ _ rfl).inc _ rfl).setF _ _ rfl
  have hfreed : s.KeepsHouse freed := (hcounted.trans (State.grpFree_keepsHouse _ g)).raise _ _
  exact .ite (hfreed.trans (State.holdBegun_keepsHouse _ g)) (.ite (hfreed.trans (State.calRecover_keepsHouse _ g)) hfreed)

theorem State.takeOver_keepsHouse (s : State) (e : Eng) : s.KeepsHouse (s.takeOver e) := by
  unfold State.takeOver
  extract_lets sh8
  split
  · exact .refl s
  next g _ =>
    have hnamed := ((((State.KeepsHouse.refl s).setF (gp g) (x := GroupR.MIG_STAT_FROM) e.val rfl).setF (gp g)
      (x := GroupR.MIG_STAT_TO) 8 rfl).setF (gp g) (x := GroupR.MIG_STAT_CAUSE) 0 rfl)
    exact .ite (((hnamed.setGrp g _).trans (State.handover_keepsHouse _ g 5)).trans (State.notice_keepsHouse _ _ _ _ _ _)) (.refl s)

theorem State.migFail_keepsHouse (s : State) (g : Grp) : s.KeepsHouse (s.migFail g) := by
  unfold State.migFail
  extract_lets busy failed counted
  have hfailed : s.KeepsHouse failed := ((State.KeepsHouse.refl s).setF _ _ rfl).setF _ _ rfl
  have hcounted : s.KeepsHouse counted := (hfailed.inc _ rfl).trans (State.unstale_keepsHouse _ _)
  exact .ite (hcounted.trans (State.grpFree_keepsHouse _ g)) hcounted

theorem State.faultGroups_keepsHouse (s : State) (e : Eng) : s.KeepsHouse (s.faultGroups e) := by
  unfold State.faultGroups
  split
  · exact s.migFail_keepsHouse _
  · split
    · split
      · exact (s.handover_keepsHouse _ 5).trans (State.notice_keepsHouse _ _ _ _ _ _)
      · exact .refl s
    · exact .ite (.refl s) (s.takeOver_keepsHouse e)

/-! ### An engine that halts (R286, R289, R290) -/

theorem houseReg_stage (e : Eng) {off : Nat} (h : 0x040 ≤ off ∧ off < 0x060) : houseReg (ep e) off = true := by
  have hlt : off < 4096 := by omega
  simp [houseReg, h, hlt]

theorem State.engRec_setEng (s : State) (e : Eng) (v : EngSt) : (s.setEng e v).engRec e = v := tabGet_tabSet_self _ _ _ _

theorem State.engRec_modEng (s : State) (e : Eng) (f : EngSt → EngSt) : (s.modEng e f).engRec e = f (s.engRec e) := s.engRec_setEng e _

theorem State.engRec_setF (s : State) (e : Eng) (p : Page) (x : Fld) (v : Nat) : (s.setF p x v).engRec e = s.engRec e := by
  rw [State.engRec, show (s.setF p x v).engines = s.engines by simp, State.engRec]

theorem State.f_setEng (s : State) (e : Eng) (v : EngSt) (p : Page) (x : Fld) : (s.setEng e v).f p x = s.f p x := rfl

theorem State.eng_engSet (s : State) (e : Eng) {st : Nat} (h : st < 8) : (s.engSet e st).eng e = st := by
  rw [State.eng, State.engSet, State.f_setF_self _ _ _ _ (by decide) (by decide)]
  exact Nat.mod_eq_of_lt h

/-- An engine that halts is in the state told, with its queue emptied and no long command; its other registers stay. -/
theorem State.engHalt_halts (s : State) (e : Eng) {st : Nat} (hst : st < 8) :
    (s.engHalt e st).eng e = st ∧ ((s.engHalt e st).engRec e).cmdq = [] ∧ ((s.engHalt e st).engRec e).long = none ∧
      (∀ x : Fld, 0x040 ≤ x.off ∧ x.off < 0x060 → apart StageR.ENG_STAT_STATE x = true → (s.engHalt e st).f (ep e) x = s.f (ep e) x) := by
  have hkept := s.engHalt_keepsHouse e st
  have hreleased := s.releaseLong_keepsHouse e
  have hrec : ∀ v : State, ((v.emptyCmdq e).engRec e).cmdq = [] ∧ ((v.emptyCmdq e).engRec e).long = none := fun v => by
    rw [State.emptyCmdq, State.add, State.engRec_setF, State.engRec_setEng]
    exact ⟨rfl, rfl⟩
  obtain ⟨hcmdq, hlong⟩ := hrec (s.releaseLong e)
  have hengine := hkept.engine e
  rw [State.engRec_setF] at hengine
  refine ⟨?_, by rw [hengine.cmdq, hcmdq], hengine.long hlong, fun x hx hap => ?_⟩
  · rw [State.eng, hkept.f (houseReg_stage e (by decide))]
    exact State.eng_engSet _ e hst
  · rw [hkept.f (houseReg_stage e hx), State.f_setF_apart _ _ _ _ hap, State.emptyCmdq, State.add, State.f_setF_ne, State.f_setEng,
      hreleased.f (houseReg_stage e hx)]
    intro he
    have := ((pageAddr_inj (by omega) (by decide)).1 he).2
    simp only [StageR.CMDQ_STAT_DISCARDED] at this
    omega

/-- A fault halts the engine, with its cause. -/
theorem State.engFault_faults (s : State) (e : Eng) {cause : Nat} (hcause : cause < 16) :
    (s.engFault e cause).eng e = egFaulted ∧ (s.engFault e cause).f (ep e) StageR.ENG_STAT_FAULT_CAUSE = cause ∧
      ((s.engFault e cause).engRec e).cmdq = [] ∧
      (s.engFault e cause).f (ep e) StageR.WDOG_STAT_EXPIRIES = s.f (ep e) StageR.WDOG_STAT_EXPIRIES := by
  obtain ⟨hstate, hcmdq, -, hregs⟩ := s.engHalt_halts e (st := egFaulted) (by decide)
  have hkept := State.faultGroups_keepsHouse ((s.engHalt e egFaulted).setF (ep e) StageR.ENG_STAT_FAULT_CAUSE cause) e
  have hengine := (hkept.engine e).cmdq
  rw [State.engRec_setF] at hengine
  unfold State.engFault
  refine ⟨?_, ?_, hengine.trans hcmdq, ?_⟩
  · rw [State.eng, hkept.f (houseReg_stage e (by decide)), State.f_setF_apart _ _ _ _ (by decide)]
    exact hstate
  · rw [hkept.f (houseReg_stage e (by decide)), State.f_setF_self _ _ _ _ (by decide) (by decide)]
    exact Nat.mod_eq_of_lt hcause
  · rw [hkept.f (houseReg_stage e (by decide)), State.f_setF_apart _ _ _ _ (by decide), hregs _ (by decide) (by decide)]

end Sys2Proof.Machine

end

section
/-!
SUPPORT. The commands of ENG_CTL that are taken: LOAD, START and STOP (R286).
-/

-- Proofs are elaborated one at a time: side by side their threads reserve more memory than a check has.
set_option Elab.async false

namespace Sys2Proof.Machine

variable {P : HouseParts} {es : List Eng} {l : List Nat} {s t u : State} {g : Grp} {e : Eng}

/-! ### ENG_CTL (R286) -/

/-- The fields of ENG_CTL. -/
def engSlotRow : Row := { fld := StageR.ENG_CTL_SLOT, acc := .rw, rst := 0x0 }
def engLoadRow : Row := { fld := StageR.ENG_CTL_LOAD, acc := .w1s, rst := 0x0 }
def engStopRow : Row := { fld := StageR.ENG_CTL_STOP, acc := .w1s, rst := 0x0 }
def engStartRow : Row := { fld := StageR.ENG_CTL_START, acc := .w1s, rst := 0x0 }

theorem rowsAt_engCtl (e : Eng) : rowsAt (ep e) 0x040 = [engSlotRow, engLoadRow, engStopRow, engStartRow] := by
  have hrows : (rowsHdr ++ rowsStage).filter (rowCovers 0x040) = [engSlotRow, engLoadRow, engStopRow, engStartRow] := by decide +kernel
  simp [rowsAt, pageRows, mirrorReg, hrows]

/-- START or STOP written alone is an action. -/
theorem writeOut_engAct (v : Nat → Word) (e : Eng) {b : Nat} (hb : b < 2) :
    (writeOut v false (ep e) 0x040 (fset 0 b b 1) (fldMask b b)).act = 1#32 <<< b := by
  interval_cases b
  · exact (writeOut_action v (by decide) (by decide) (before := [engSlotRow, engLoadRow, engStopRow]) (after := []) (rowsAt_engCtl e) rfl rfl
      (by decide)).2
  · exact (writeOut_action v (by decide) (by decide) (before := [engSlotRow, engLoadRow]) (after := [engStartRow]) (rowsAt_engCtl e) rfl rfl
      (by decide)).2

/-- The word that asks for a load. -/
def loadWord (slot : Bool) : Word := BitVec.ofNat 32 (256 * b2n slot + 4)

/-- It stores SLOT, and LOAD is its action. -/
theorem writeOut_load (v : Nat → Word) (e : Eng) (slot : Bool) :
    (writeOut v false (ep e) 0x040 (loadWord slot) allOnes).word = fset (v (pageAddr (ep e) 0x040)) 8 8 (b2n slot) ∧
      (writeOut v false (ep e) 0x040 (loadWord slot) allOnes).act = 4#32 := by
  have hmask : allOnes &&& ~~~ctlUnsupported (ep e) 0x040 = allOnes := by
    rw [ctlUnsupported, if_neg (by decide)]
    decide
  have hslot : fget (loadWord slot) 8 8 = b2n slot := by cases slot <;> decide
  have hact : (0 : Word) ||| (loadWord slot &&& allOnes &&& fldMask 2 2) ||| (loadWord slot &&& allOnes &&& fldMask 1 1) |||
      (loadWord slot &&& allOnes &&& fldMask 0 0) = 4#32 := by cases slot <;> decide
  simp only [writeOut, rowsAt_engCtl, List.foldl_cons, List.foldl_nil, hmask]
  rw [writeRow_rw_legal (r := engSlotRow) rfl (by decide) (by decide) (fieldLegal_of_legalCode rfl (by decide)),
    writeRow_w1s (r := engLoadRow) rfl (by decide), writeRow_w1s (r := engStopRow) rfl (by decide),
    writeRow_w1s (r := engStartRow) rfl (by decide)]
  refine ⟨?_, hact⟩
  rw [merge_allOnes]
  exact congrArg (fset _ 8 8) hslot

theorem pageAddr_stage_not_side (e : Eng) {off : Nat} (h : off < 4096) : pageAddr (ep e) off ∉ sideRegs := by
  simp only [sideRegs, pageAddr, pageNum, List.mem_cons, List.not_mem_nil, or_false]
  omega

theorem ownReg_engCtl (e : Eng) : ownReg (ep e) 0x040 = true := by
  have hside := pageAddr_stage_not_side e (off := 0x040) (by decide)
  simp [ownReg, feedsSum, hside]

theorem State.directEffect_stage (u : State) (e : Eng) {off : Nat} (hoff : 0x040 ≤ off) (old act wrote : Word) :
    u.directEffect (ep e) off old act wrote = u.effStage e off act := by
  simp [State.directEffect, State.effect, Nat.not_lt.2 hoff]

theorem State.Touches.f_stage (h : s.Touches (storeRegs (ep e) 0x040) t) {x : Fld} (hx : x.off < 4096)
    (hne : x.off ≠ 0x020 ∧ x.off ≠ 0x024 ∧ x.off ≠ 0x040) : t.f (ep e) x = s.f (ep e) x := by
  refine h.1.f ?_ (pageAddr_stage_not_side e hx)
  simp only [storeRegs, pageAddr, pageNum, List.mem_cons, List.not_mem_nil, or_false]
  omega

/-- A write of ENG_CTL that is taken acts in a state that has all but it, the page's violation counters and ADM_PEAK as they were. -/
theorem State.offerEngCtl_leads {c : Src} {data mask : Word} (h : s.takes c (ep e) 0x040 data mask = true) :
    ∃ (v : Nat → Word) (u : State), s.offerReg c (ep e) 0x040 data mask = u.effStage e 0x040 (writeOut v false (ep e) 0x040 data mask).act ∧
      u.rd (pageAddr (ep e) 0x040) = (writeOut v false (ep e) 0x040 data mask).word ∧ s.Touches (storeRegs (ep e) 0x040) u := by
  obtain ⟨v, u, -, hlead, hword, hframe, hsame⟩ := State.offerReg_leads h rfl (fun _ => rfl) (ownReg_engCtl e)
  rw [State.directEffect_stage _ _ (by decide)] at hlead
  exact ⟨v, u, hlead, hword, hframe, hsame⟩

/-- START or STOP that is taken. -/
theorem State.offerEngAct_leads {c : Src} {b : Nat} (hb : b < 2) (h : s.takesF c (ep e) ⟨0x040, b, b⟩ 1 = true) :
    ∃ u : State, s.offerAct c (ep e) ⟨0x040, b, b⟩ = u.effStage e 0x040 (1#32 <<< b) ∧ s.Touches (storeRegs (ep e) 0x040) u := by
  obtain ⟨v, u, hlead, -, htouch⟩ := State.offerEngCtl_leads h
  exact ⟨u, hlead.trans (by rw [writeOut_engAct v e hb]), htouch⟩

theorem State.offerStart_starts {c : Src} (h : s.takesF c (ep e) StageR.ENG_CTL_START 1 = true) (hin : s.on (ep e) Hdr.PAGE_CTL_OOS = false)
    (hloaded : s.eng e = egLoaded) : (s.offerAct c (ep e) StageR.ENG_CTL_START).eng e = egStarting := by
  obtain ⟨u, hlead, htouch⟩ := State.offerEngAct_leads (b := 0) (by decide) h
  have hstate : u.eng e = egLoaded := (htouch.f_stage (by decide) (by decide)).trans hloaded
  have hserves : u.on (ep e) Hdr.PAGE_CTL_OOS = false := by rw [State.on, htouch.f_stage (by decide) (by decide), ← State.on, hin]
  have heffect : u.effStage e 0x040 (1#32 <<< 0) = u.engStart e := by rw [State.effStage, if_pos rfl]; rfl
  rw [show StageR.ENG_CTL_START = ⟨0x040, 0, 0⟩ from rfl, hlead, heffect, State.engStart]
  simp only [hstate, hserves]
  exact State.eng_engSet u e (by decide)

theorem State.offerStop_stops {c : Src} (h : s.takesF c (ep e) StageR.ENG_CTL_STOP 1 = true)
    (hrun : s.eng e = egStarting ∨ s.eng e = egRunning) :
    (s.offerAct c (ep e) StageR.ENG_CTL_STOP).eng e = egLoaded ∧ ((s.offerAct c (ep e) StageR.ENG_CTL_STOP).engRec e).cmdq = [] ∧
      ((s.offerAct c (ep e) StageR.ENG_CTL_STOP).engRec e).long = none := by
  obtain ⟨u, hlead, htouch⟩ := State.offerEngAct_leads (b := 1) (by decide) h
  have hstate : u.eng e = s.eng e := htouch.f_stage (by decide) (by decide)
  have heffect : u.effStage e 0x040 (1#32 <<< 1) = u.engHalt e egLoaded := by
    rw [State.effStage, if_pos rfl]
    exact if_pos (by rwa [hstate])
  rw [show StageR.ENG_CTL_STOP = ⟨0x040, 1, 1⟩ from rfl, hlead, heffect]
  obtain ⟨hhalted, hcmdq, hlong, -⟩ := u.engHalt_halts e (st := egLoaded) (by decide)
  exact ⟨hhalted, hcmdq, hlong⟩

theorem State.loadOk_of_touches (h : s.Touches (storeRegs (ep e) 0x040) t) : t.loadOk e = s.loadOk e := by
  have hstate : t.eng e = s.eng e := h.f_stage (by decide) (by decide)
  have hpage : t.f (ep e) Hdr.PAGE_CTL_OOS = s.f (ep e) Hdr.PAGE_CTL_OOS := h.f_stage (by decide) (by decide)
  have howner : ∀ g, t.owner g = s.owner g := fun g => h.f_group (by decide) (by
    simp only [storeRegs, pageAddr, pageNum, Hdr.OWNER, List.mem_cons, List.not_mem_nil, or_false]
    omega)
  simp only [State.loadOk, State.on, State.engGrp, hstate, hpage, howner]

theorem State.offerLoad_loads {c : Src} {slot : Bool} (h : s.takes c (ep e) 0x040 (loadWord slot) allOnes = true)
    (hok : s.loadOk e = true) :
    (s.offerReg c (ep e) 0x040 (loadWord slot) allOnes).eng e = egLoading ∧
      (s.offerReg c (ep e) 0x040 (loadWord slot) allOnes).on (ep e) StageR.ENG_CTL_SLOT = slot := by
  obtain ⟨v, u, hlead, hword, htouch⟩ := State.offerEngCtl_leads h
  obtain ⟨hstored, hact⟩ := writeOut_load v e slot
  have huok : u.loadOk e = true := (State.loadOk_of_touches htouch).trans hok
  have heffect : u.effStage e 0x040 4#32 = u.engLoad e := by rw [State.effStage, if_pos rfl]; rfl
  have hslot : u.on (ep e) StageR.ENG_CTL_SLOT = slot := by
    rw [State.on, State.f, show StageR.ENG_CTL_SLOT = ⟨0x040, 8, 8⟩ from rfl, hword, hstored, fget_fset _ _ _ _ (by decide) (by decide)]
    cases slot <;> rfl
  rw [hlead, hact, heffect, State.engLoad, if_pos huok]
  have hkept := State.flashQueue_keepsHouse ((u.engSet e egLoading).modEng e fun x => { x with loading := true })
    (.load e (u.f (ep e) StageR.ENG_CTL_SLOT))
  refine ⟨?_, ?_⟩
  · rw [State.eng, hkept.f (houseReg_stage e (by decide)), State.modEng, State.f_setEng]
    exact u.eng_engSet e (by decide)
  · rw [hkept.on (houseReg_stage e (by decide)), State.on, State.modEng, State.f_setEng, State.engSet, State.f_setF_apart _ _ _ _ (by decide),
      ← State.on]
    exact hslot

end Sys2Proof.Machine

end

section
/-!
SUPPORT. The end of a load (R286, R472), and the heartbeats, notices and faults of an engine (R297, R302); with it the commands that load,
start, stop and watch an engine.
-/

-- Proofs are elaborated one at a time: side by side their threads reserve more memory than a check has.
set_option Elab.async false

namespace Sys2Proof.Machine

variable {P : HouseParts} {es : List Eng} {l : List Nat} {s t u : State} {g : Grp} {e : Eng} {slot : Nat}

/-! ### The end of a load (R286, R472, R473) -/

theorem State.RehQuiet.wr (h : s.RehQuiet) {a : Nat} (v : Word) (ha : a ≠ pageAddr .reh 0x048) : (s.wr a v).RehQuiet :=
  h.of_touches (P := {}) (es := []) ((State.HouseTouches.refl _ _ [a] s).wr v List.mem_cons_self) rfl
    (by rw [List.mem_singleton]; exact ha.symm)

theorem State.RehQuiet.raise (h : s.RehQuiet) {p : Page} (bit : Nat) : (s.raise p bit).RehQuiet :=
  h.of_touches (P := {}) (es := []) ((State.HouseTouches.refl _ _ [pageAddr p 0x010] s).raise bit List.mem_cons_self) rfl fun hm =>
    absurd ((pageAddr_inj (by decide) (by decide)).1 (List.mem_singleton.1 hm)).2 (by decide)

theorem pageAddr_stage_ne_rehStat (e : Eng) {off : Nat} (h : off < 4096) : pageAddr (ep e) off ≠ pageAddr .reh 0x048 := by
  simp only [pageAddr, pageNum]
  omega

theorem State.msetRaw_parts (s : State) (a : Nat) (bs : List Byte) : (s.msetRaw a bs).regs = s.regs ∧ (s.msetRaw a bs).reh = s.reh ∧
    (s.msetRaw a bs).engines = s.engines := by
  induction bs generalizing s a with
  | nil => exact ⟨rfl, rfl, rfl⟩
  | cons b bs ih => exact ih _ _

/-- The registers that the judgement of an image touches: the event and IMG_STAT. -/
def imgRegs : List Nat := regsOf .sec [0x010, SecR.IMG_STAT_KEY_ID.off]

theorem State.imgTry_touches (s : State) (slot : Nat) : s.HouseTouches P es imgRegs (s.imgTry slot).1 := by
  unfold State.imgTry
  extract_lets r judged noted
  have hjudged : s.HouseTouches P es imgRegs judged := by
    refine (State.HouseTouches.refl P es _ s).setF _ ?_
    split <;> decide
  have hnoted : s.HouseTouches P es imgRegs noted := .ite hjudged ((hjudged.setF _ (by decide)).setF _ (by decide))
  exact hnoted.raiseIf _ _ (by decide)

/-- An image installed: the engine's registers but IMG_ID and IMG_FMT are as they were, and its record. -/
theorem State.imgInstall_kept (s : State) (e : Eng) (slot : Nat) :
    (s.imgInstall e slot).engines = s.engines ∧ (s.RehQuiet → (s.imgInstall e slot).RehQuiet) := by
  unfold State.imgInstall
  extract_lets a i written named
  have hwritten : written.regs = s.regs ∧ written.reh = s.reh ∧ written.engines = s.engines := by
    obtain ⟨h1, h2, h3⟩ := State.msetRaw_parts (s.msetRaw (engImem e) (s.flashBytes (a + 0x200) i)) (engDmem e)
      (s.flashBytes (a + 0x200 + i) (s.imgDmem slot))
    obtain ⟨k1, k2, k3⟩ := s.msetRaw_parts (engImem e) (s.flashBytes (a + 0x200) i)
    exact ⟨h1.trans k1, h2.trans k2, h3.trans k3⟩
  clear_value written
  obtain ⟨hregs, hreh, hengines⟩ := hwritten
  refine ⟨by simp [named, hengines], fun h => ?_⟩
  have hne : ∀ off, off < 4096 → pageAddr (ep e) off ≠ pageAddr .reh 0x048 := fun off => pageAddr_stage_ne_rehStat e
  exact ((((h.of_eq hregs hreh).wr _ (hne _ (by decide))).setF _ (hne _ (by decide))).setF _ (hne _ (by decide))).setF _ (hne _ (by decide))

/-- The engine as the judgement of its image leaves it. -/
def State.loadJudged (s : State) (e : Eng) (slot : Nat) (right : Bool) : State :=
  if right then ((s.imgInstall e slot).engSet e egLoaded).raise (ep e) 3
  else ((((s.engSet e egOff).setF (ep e) StageR.ENG_STAT_FAULT_CAUSE 3).rstReg (ep e) 0x048).rstReg (ep e) 0x04C).raise (ep e) 18

theorem State.f_raise_stage (s : State) (e : Eng) (bit : Nat) {x : Fld} (hx : x.off < 4096) (hne : x.off ≠ 0x010) :
    (s.raise (ep e) bit).f (ep e) x = s.f (ep e) x := by
  rw [State.f, State.rd_raise _ _ _ _ (pageAddr_stage_not_side e hx) fun h => hne ((pageAddr_inj hx (by decide)).1 h).2, ← State.f]

theorem State.engRec_raise (s : State) (p : Page) (bit : Nat) (e : Eng) : (s.raise p bit).engRec e = s.engRec e := by
  have hrest := (s.raise_spec p bit).2
  simp only [State.SameRest] at hrest
  simp only [State.engRec, hrest]

theorem State.f_rstReg_ne (s : State) (p : Page) {off : Nat} (q : Page) {x : Fld} (h : pageAddr q x.off ≠ pageAddr p off) :
    (s.rstReg p off).f q x = s.f q x := by
  rw [State.f, State.rstReg, State.rd_wr_ne _ _ _ _ h, ← State.f]

theorem State.engRec_rstReg (s : State) (p : Page) (off : Nat) (e : Eng) : (s.rstReg p off).engRec e = s.engRec e := by
  rw [State.engRec, show (s.rstReg p off).engines = s.engines by simp [State.rstReg], State.engRec]

/-- A failed load leaves the engine off, with cause 3, and what IMG_ID and IMG_FMT told of its image is gone. -/
theorem State.loadFailed_spec (s : State) (e : Eng) :
    (s.loadJudged e slot false).eng e = egOff ∧ (s.loadJudged e slot false).f (ep e) StageR.ENG_STAT_FAULT_CAUSE = 3 ∧
      (s.loadJudged e slot false).engRec e = s.engRec e ∧ (s.RehQuiet → (s.loadJudged e slot false).RehQuiet) := by
  have hne : ∀ off, off < 4096 → pageAddr (ep e) off ≠ pageAddr .reh 0x048 := fun off => pageAddr_stage_ne_rehStat e
  have hstat : ∀ (u : State) (x : Fld), x.off = 0x044 →
      (((u.rstReg (ep e) 0x048).rstReg (ep e) 0x04C).raise (ep e) 18).f (ep e) x = u.f (ep e) x := fun u x hx => by
    have hpage : ∀ off, off < 4096 → off ≠ 0x044 → pageAddr (ep e) x.off ≠ pageAddr (ep e) off := fun off hlt hoff h => by
      have := ((pageAddr_inj (by omega) hlt).1 h).2
      omega
    rw [State.f_raise_stage _ _ _ (by omega) (by omega), State.f_rstReg_ne _ _ _ (hpage _ (by decide) (by decide)),
      State.f_rstReg_ne _ _ _ (hpage _ (by decide) (by decide))]
  rw [State.loadJudged, if_neg (by decide)]
  refine ⟨?_, ?_, ?_, fun h => ?_⟩
  · rw [State.eng, hstat _ _ rfl, State.f_setF_apart _ _ _ _ (by decide)]
    exact s.eng_engSet e (by decide)
  · rw [hstat _ _ rfl, State.f_setF_self _ _ _ _ (by decide) (by decide)]
    rfl
  · rw [State.engRec_raise, State.engRec_rstReg, State.engRec_rstReg, State.engRec_setF, State.engSet, State.engRec_setF]
  · exact ((((h.setF _ (hne _ (by decide))).setF _ (hne _ (by decide))).wr _ (hne _ (by decide))).wr _ (hne _ (by decide))).raise _

theorem State.loadJudged_spec (s : State) (e : Eng) (slot : Nat) (right : Bool) :
    (s.loadJudged e slot right).eng e = (if right then egLoaded else egOff) ∧
      (right = false → (s.loadJudged e slot right).f (ep e) StageR.ENG_STAT_FAULT_CAUSE = 3) ∧
      (s.loadJudged e slot right).engRec e = s.engRec e ∧ (s.RehQuiet → (s.loadJudged e slot right).RehQuiet) := by
  have hne : ∀ off, off < 4096 → pageAddr (ep e) off ≠ pageAddr .reh 0x048 := fun off => pageAddr_stage_ne_rehStat e
  obtain ⟨hengines, hquiet⟩ := s.imgInstall_kept e slot
  cases right
  · obtain ⟨hoff, hcause, hrec, hquietF⟩ := s.loadFailed_spec (slot := slot) e
    exact ⟨hoff, fun _ => hcause, hrec, hquietF⟩
  · refine ⟨?_, fun h => absurd h (by decide), ?_, fun h => ?_⟩
    · exact (State.f_raise_stage _ e 3 (by decide) (by decide)).trans (State.eng_engSet _ e (by decide))
    · exact (State.engRec_raise _ _ _ _).trans ((State.engRec_setF _ _ _ _ _).trans (by rw [State.engRec, hengines, State.engRec]))
    · exact ((hquiet h).setF _ (hne _ (by decide))).raise _

theorem State.loadDone_eq {img : List Byte} (hrun : s.flash.run = some (.load e slot, img)) (hstate : s.eng e = egLoading) :
    s.loadDone e = (((((s.imgTry slot).1.modEng e fun x => { x with loading := false }).loadJudged e slot (decide ((s.imgTry slot).2 = 1))).modFlash
      fun x => { x with run := none }).flashServe) := by
  have hloading : ((s.imgTry slot).1.modEng e fun x => { x with loading := false }).eng e = egLoading := by
    rw [State.eng, State.modEng, State.f_setEng]
    refine ((s.imgTry_touches slot (P := {}) (es := [])).1.f ?_ (pageAddr_stage_not_side e (by decide))).trans hstate
    simp only [imgRegs, regsOf, List.map_cons, List.map_nil, pageAddr, pageNum, StageR.ENG_STAT_STATE, SecR.IMG_STAT_KEY_ID, List.mem_cons,
      List.not_mem_nil, or_false]
    omega
  rw [State.loadDone, hrun]
  dsimp only
  rw [if_neg (by simp), if_neg (by simp [hloading])]
  simp only [State.loadJudged, decide_eq_true_eq]

/-- A load that ends leaves the engine LOADED where its image is right, and OFF where it is not. -/
theorem State.loadDone_ends {img : List Byte} (hrun : s.flash.run = some (.load e slot, img)) (hstate : s.eng e = egLoading)
    (hquiet : s.RehQuiet) :
    ((s.loadDone e).flashThen.eng e = (if (s.imgTry slot).2 = 1 then egLoaded else egOff)) ∧
      ((s.imgTry slot).2 ≠ 1 → (s.loadDone e).flashThen.f (ep e) StageR.ENG_STAT_FAULT_CAUSE = 3) ∧
      ((s.loadDone e).flashThen.engRec e).loading = false := by
  have htried : State.RehQuiet ((s.imgTry slot).1.modEng e fun x => { x with loading := false }) :=
    (hquiet.of_touches (s.imgTry_touches slot (P := {}) (es := [])) rfl (by decide)).of_eq rfl rfl
  rw [State.loadDone_eq hrun hstate]
  obtain ⟨hended, hcause, hrec, hquietJ⟩ :=
    State.loadJudged_spec ((s.imgTry slot).1.modEng e fun x => { x with loading := false }) e slot (decide ((s.imgTry slot).2 = 1))
  rw [State.engRec_modEng] at hrec
  have hquietE := hquietJ htried
  generalize State.loadJudged _ e slot _ = ended at hended hcause hrec hquietE
  have hkept := ((State.KeepsHouse.refl ended).modFlash fun x => { x with run := none }).trans (State.flashServe_keepsHouse _)
  rw [State.flashThen_of_quiet (State.flashServe_quiet (hquietE.modFlash _))]
  refine ⟨?_, fun h => ?_, ?_⟩
  · rw [State.eng, hkept.f (houseReg_stage e (by decide))]
    simp only [decide_eq_true_eq] at hended
    exact hended
  · rw [hkept.f (houseReg_stage e (by decide))]
    exact hcause (decide_eq_false h)
  · rw [(hkept.engine e).loading, hrec]

/-! ### An engine that is ready, and its heartbeats and notices (R286, R297, R302) -/

/-- An engine that is ready runs, with its view of its group begun afresh. -/
theorem State.engReady_runs (h : s.eng e = egStarting) :
    (s.engReady e).eng e = egRunning ∧ ((s.engReady e).engRec e).left = none ∧ ((s.engReady e).engRec e).hbAt = s.elapsed := by
  unfold State.engReady
  rw [if_neg (by simp [h])]
  extract_lets running told
  have hstate : running.eng e = egRunning := by
    exact s.eng_engSet e (by decide)
  have hrec : (running.engRec e).left = none ∧ (running.engRec e).hbAt = s.elapsed := by
    rw [State.engRec_modEng]
    exact ⟨rfl, by simp⟩
  have htold : running.KeepsHouse told := ((State.KeepsHouse.refl running).raise _ _).trans (State.notice_keepsHouse _ _ _ _ _ _)
  have hkept : ∀ t : State, running.KeepsHouse t → t.eng e = egRunning ∧ (t.engRec e).left = none ∧ (t.engRec e).hbAt = s.elapsed :=
    fun t k => ⟨(k.f (houseReg_stage e (by decide))).trans hstate, (k.engine e).left hrec.1, (k.engine e).hbAt.trans hrec.2⟩
  clear_value told running
  split
  · split
    · exact hkept _ ((htold.modCal _ _).trans (State.calRecover_keepsHouse _ _))
    · exact hkept _ htold
  · exact hkept _ htold

/-- The watchdog of a running engine faults it, and counts. -/
theorem State.watchdog_faults (hrun : s.eng e = egRunning) (hon : s.on (ep e) StageR.WDOG_CTL_EN = true) :
    (s.watchdog e).eng e = egFaulted ∧ (s.watchdog e).f (ep e) StageR.ENG_STAT_FAULT_CAUSE = 1 ∧
      (s.watchdog e).f (ep e) StageR.WDOG_STAT_EXPIRIES =
        satNat (fldTop StageR.WDOG_STAT_EXPIRIES) (s.f (ep e) StageR.WDOG_STAT_EXPIRIES + 1) ∧
      ((s.watchdog e).engRec e).cmdq = [] := by
  rw [State.watchdog, if_pos ⟨hrun, hon⟩]
  obtain ⟨hstate, hcause, hcmdq, hcount⟩ :=
    State.engFault_faults ((s.inc (ep e) StageR.WDOG_STAT_EXPIRIES).raise (ep e) 16) e (cause := 1) (by decide)
  refine ⟨hstate, hcause, ?_, hcmdq⟩
  rw [hcount, State.f_raise_stage _ _ _ (by decide) (by decide), State.inc, State.add, State.f_setF_self _ _ _ _ (by decide) (by decide)]
  exact Nat.mod_eq_of_lt (satNat_lt (fldTop StageR.WDOG_STAT_EXPIRIES) _)

theorem State.imageFault_faults (r0 r1 : Word) (hrun : s.eng e = egRunning) :
    (s.imageFault e r0 r1).eng e = egFaulted ∧ (s.imageFault e r0 r1).f (ep e) StageR.ENG_STAT_FAULT_CAUSE = 4 ∧
      ((s.imageFault e r0 r1).engRec e).cmdq = [] := by
  rw [State.imageFault, if_pos hrun]
  obtain ⟨hstate, hcause, hcmdq, -⟩ := State.engFault_faults (s.notice e 4 r0 r1 true) e (cause := 4) (by decide)
  exact ⟨hstate, hcause, hcmdq⟩

/-- A heartbeat notes its time, and the checkpoint it carries. -/
theorem State.heartbeat_notes (n : BitVec 14) (hrun : s.eng e = egRunning) (hgrp : s.engGrp e = some g) :
    ((s.heartbeat e (some n)).engRec e).hbAt = s.elapsed ∧ ((s.heartbeat e (some n)).engRec e).ckpt =
      some { grp := g.val, fmt := s.f (ep e) StageR.IMG_FMT_STATE_FMT, size := n.toNat, at_ := s.elapsed } := by
  rw [State.heartbeat, if_neg (by simp [hrun]), hgrp]
  exact ⟨congrArg EngSt.hbAt (State.engRec_setEng _ _ _), congrArg EngSt.ckpt (State.engRec_setEng _ _ _)⟩

theorem State.heartbeat_alone (hrun : s.eng e = egRunning) :
    ((s.heartbeat e none).engRec e).hbAt = s.elapsed ∧ ((s.heartbeat e none).engRec e).ckpt = (s.engRec e).ckpt := by
  have hset : s.heartbeat e none = s.setEng e { s.engRec e with hbAt := s.elapsed } := by
    rw [State.heartbeat, if_neg (by simp [hrun])]
  rw [hset, State.engRec_setEng]
  exact ⟨rfl, rfl⟩

/-- A notice that finds room stands last in the response queue. -/
theorem State.notice_posts (code : Nat) (r0 r1 : Word) (ev : Bool) (h : (s.engRec e).rspq.length < 16) :
    ((s.notice e code r0 r1 ev).engRec e).rspq = (s.engRec e).rspq ++ [s.noticeWord e code r0 r1] := by
  rw [State.notice, if_pos h, State.raiseIf]
  split
  · rw [State.engRec_raise, State.engRec_setEng]
  · rw [State.engRec_setEng]

end Sys2Proof.Machine

open Sys2Proof Sys2Proof.Machine

/-- Settles O19: loads, starts, stops, faults, heartbeats and notices of an engine, each by the lemma that follows its operation. -/
theorem engineCommandsComplete : Obligations.EngineCommandsComplete :=
  ⟨fun _ _ _ _ h hok => ⟨_, rfl, State.offerLoad_loads h hok⟩, fun _ _ _ h hin hloaded => ⟨_, rfl, State.offerStart_starts h hin hloaded⟩,
    fun _ _ _ h hrun => ⟨_, rfl, State.offerStop_stops h hrun⟩,
    fun _ _ _ _ hrun hstate hidle hdark => ⟨_, rfl, State.loadDone_ends hrun hstate ⟨hidle, hdark⟩⟩,
    fun _ _ h => ⟨_, rfl, State.engReady_runs h⟩, fun _ _ hrun hon => ⟨_, rfl, State.watchdog_faults hrun hon⟩,
    fun _ r0 r1 _ hrun => ⟨_, rfl, State.imageFault_faults r0 r1 hrun⟩, fun _ n _ _ hrun hgrp => ⟨_, rfl, State.heartbeat_notes n hrun hgrp⟩,
    fun _ _ hrun => ⟨_, rfl, State.heartbeat_alone hrun⟩,
    fun _ r0 r1 _ hrun hroom => ⟨_, rfl, by rw [if_pos hrun]; exact State.notice_posts 4 r0 r1 true hroom⟩⟩

end

section
/-!
SUPPORT. What leaves MIR_PEER_CRC (R315), TT_OFS (R322) and MIG_STAT (R300) as they are, said once for each operation that settles lanes,
calibrates, changes a group's power state, answers a command or steps the timebase, in the order of Machine/: `State.twinMig`. A commit of a
scene may bring about any of them.
-/

-- Proofs are elaborated one at a time: side by side their threads reserve more memory than a check has.
set_option Elab.async false

namespace Sys2Proof.Machine

/-! ### Rules -/

/-- MIR_PEER_CRC (R315), TT_OFS (R322), and MIG_STAT of each group (R300), as stored. -/
def State.twinMig (s : State) : Word × Word × (Grp → Word) :=
  (tabGet regReset s.regs (pageAddr .twin 0x08C), tabGet regReset s.regs (pageAddr .twin 0x074),
    fun g => tabGet regReset s.regs (pageAddr (.group g) 0x284))

@[simp] theorem twinMig_mk (regs mem ecc elapsed free access latch readData busy slices paths groups ctrs scene trims pends ramps cal engines
    flash supply reh security twin time ports spi twt twc device startAt houseReset start land pending) :
    (State.mk regs mem ecc elapsed free access latch readData busy slices paths groups ctrs scene trims pends ramps cal engines
      flash supply reh security twin time ports spi twt twc device startAt houseReset start land pending).twinMig =
      (tabGet regReset regs (pageAddr .twin 0x08C), tabGet regReset regs (pageAddr .twin 0x074),
        fun g => tabGet regReset regs (pageAddr (.group g) 0x284)) := rfl

@[simp] theorem twinMig_regs (s : State) :
    (tabGet regReset s.regs (pageAddr .twin 0x08C), tabGet regReset s.regs (pageAddr .twin 0x074),
      fun g => tabGet regReset s.regs (pageAddr (.group g) 0x284)) = s.twinMig := rfl

/-- The register at `a` is none of these. -/
def Quiet (a : Nat) : Prop := a ≠ pageAddr .twin 0x08C ∧ a ≠ pageAddr .twin 0x074 ∧ ∀ g, a ≠ pageAddr (.group g) 0x284

@[simp] theorem quiet_path (p : Path) (off : Nat) : Quiet (pageAddr (.path p) off) := by
  simp only [Quiet, ne_eq, pageAddr, pageNum]
  exact ⟨by omega, by omega, fun g => by omega⟩

@[simp] theorem quiet_pageAddr_iff (p : Page) {off : Nat} (h : off < 4096) :
    Quiet (pageAddr p off) ↔ ¬ (p = .twin ∧ off = 0x08C) ∧ ¬ (p = .twin ∧ off = 0x074) ∧ ∀ g, ¬ (p = .group g ∧ off = 0x284) := by
  simp only [Quiet, ne_eq, pageAddr_inj h (show 0x08C < 4096 by decide), pageAddr_inj h (show 0x074 < 4096 by decide),
    pageAddr_inj h (show 0x284 < 4096 by decide)]

/-- What an event, a violation or the flash's queue touches. -/
theorem State.Frame.twinMig {l : List Nat} {s t : State} (h : s.Frame l t) (hl : ∀ a ∈ l, Quiet a) : t.twinMig = s.twinMig := by
  have hgroup : ∀ g : Grp, pageAddr (.group g) 0x284 ∉ sideRegs := fun g => pageAddr_group_not_side g (by decide)
  exact Prod.ext (h.1 _ (fun hm => (hl _ hm).1 rfl) (by decide)) (Prod.ext (h.1 _ (fun hm => (hl _ hm).2.1 rfl) (by decide))
    (funext fun g => h.1 _ (fun hm => (hl _ hm).2.2 g rfl) (hgroup g)))

@[simp] theorem twinMig_ite (c : Prop) [Decidable c] (s t : State) :
    (if c then s else t).twinMig = if c then s.twinMig else t.twinMig := apply_ite _ _ _ _

@[simp] theorem twinMig_foldl {α : Type} {f : State → α → State} (hf : ∀ s a, (f s a).twinMig = s.twinMig) (l : List α) (s : State) :
    (l.foldl f s).twinMig = s.twinMig := by
  induction l generalizing s with
  | nil => rfl
  | cons a l ih => exact (ih _).trans (hf s a)

@[simp] theorem twinMig_forAll {α : Type} {f : α → State → State} (hf : ∀ a s, (f a s).twinMig = s.twinMig) (l : List α) (s : State) :
    (forAll l f s).twinMig = s.twinMig := twinMig_foldl (fun s a => hf a s) l s

@[simp] theorem State.wr_twinMig (s : State) {a : Nat} (v : Word) (ha : Quiet a) : (s.wr a v).twinMig = s.twinMig :=
  Prod.ext (tabGet_tabSet_ne _ _ _ _ _ ha.1.symm)
    (Prod.ext (tabGet_tabSet_ne _ _ _ _ _ ha.2.1.symm) (funext fun g => tabGet_tabSet_ne _ _ _ _ _ (ha.2.2 g).symm))

@[simp] theorem State.setF_twinMig (s : State) {p : Page} {x : Fld} (v : Nat) (hx : Quiet (pageAddr p x.off)) :
    (s.setF p x v).twinMig = s.twinMig := s.wr_twinMig _ hx

@[simp] theorem State.setB_twinMig (s : State) {p : Page} {x : Fld} (b : Bool) (hx : Quiet (pageAddr p x.off)) :
    (s.setB p x b).twinMig = s.twinMig := s.wr_twinMig _ hx

@[simp] theorem State.setS_twinMig (s : State) {p : Page} {x : Fld} (i : Int) (hx : Quiet (pageAddr p x.off)) :
    (s.setS p x i).twinMig = s.twinMig := s.wr_twinMig _ hx

@[simp] theorem State.add_twinMig (s : State) {p : Page} {x : Fld} (n : Nat) (hx : Quiet (pageAddr p x.off)) :
    (s.add p x n).twinMig = s.twinMig := s.wr_twinMig _ hx

@[simp] theorem State.inc_twinMig (s : State) {p : Page} {x : Fld} (hx : Quiet (pageAddr p x.off)) :
    (s.inc p x).twinMig = s.twinMig := s.wr_twinMig _ hx

@[simp] theorem State.incW_twinMig (s : State) {p : Page} {x : Fld} (hx : Quiet (pageAddr p x.off)) :
    (s.incW p x).twinMig = s.twinMig := s.wr_twinMig _ hx

@[simp] theorem State.rstReg_twinMig (s : State) {p : Page} {off : Nat} (hx : Quiet (pageAddr p off)) :
    (s.rstReg p off).twinMig = s.twinMig := s.wr_twinMig _ hx

theorem tabGet_rstRange (s : State) {p : Page} {lo hi a : Nat} (ha : a < pageAddr p lo ∨ pageAddr p hi < a) :
    tabGet regReset (s.rstRange p lo hi).regs a = tabGet regReset s.regs a :=
  tabGet_filter_kept _ _ (fun a => !(decide (pageAddr p lo ≤ a) && decide (a ≤ pageAddr p hi))) (by
    rw [Bool.not_eq_true', Bool.and_eq_false_iff, decide_eq_false_iff_not, decide_eq_false_iff_not]
    omega)

@[simp] theorem State.rstRange_path_twinMig (s : State) (p : Path) (lo hi : Nat) : (s.rstRange (.path p) lo hi).twinMig = s.twinMig :=
  Prod.ext (tabGet_rstRange s (.inl (by simp only [pageAddr, pageNum]; omega)))
    (Prod.ext (tabGet_rstRange s (.inl (by simp only [pageAddr, pageNum]; omega)))
      (funext fun g => tabGet_rstRange s (.inl (by simp only [pageAddr, pageNum]; omega))))

@[simp] theorem State.draw_twinMig (s : State) : s.draw.2.twinMig = s.twinMig := rfl

@[simp] theorem State.nextSeq_twinMig (s : State) : s.nextSeq.2.twinMig = s.twinMig := rfl

@[simp] theorem violFld_low (k : Viol) :
    (violFld k).off < 4096 ∧ (violFld k).off ≠ 0x08C ∧ (violFld k).off ≠ 0x074 ∧ (violFld k).off ≠ 0x284 := by cases k <;> decide

@[simp] theorem violTot_low (k : Viol) : (violTot k).off < 4096 := by cases k <;> decide

/-! ### What leaves all of them as they are -/

/-! ### Machine/Ops.lean -/

@[simp] theorem State.sramWrite_twinMig (s : State) (row : Nat) : (s.sramWrite row).twinMig = s.twinMig := by simp +decide [State.sramWrite]

@[simp] theorem State.msetList_twinMig (s : State) (a : Nat) (l : List Byte) : (s.msetList a l).twinMig = s.twinMig := by
  obtain ⟨hrd, -⟩ := s.msetList_spec a l
  refine Prod.ext (hrd _ (by decide)) (Prod.ext (hrd _ (by decide)) (funext fun g => hrd _ ?_))
  simp only [pageAddr, pageNum]
  omega

@[simp] theorem State.mwordSet_twinMig (s : State) (a : Nat) (w : Word) : (s.mwordSet a w).twinMig = s.twinMig := by
  simp +decide [State.mwordSet]

@[simp] theorem State.mfieldSet_twinMig (s : State) (a hi lo v : Nat) : (s.mfieldSet a hi lo v).twinMig = s.twinMig := by
  simp +decide [State.mfieldSet]

@[simp] theorem State.setPath_twinMig (s : State) (p : Path) (v : PathSt) : (s.setPath p v).twinMig = s.twinMig := by
  simp +decide [State.setPath]

@[simp] theorem State.setSeg_twinMig (s : State) (p : Path) (v : SegSt) : (s.setSeg p v).twinMig = s.twinMig := by simp +decide [State.setSeg]

@[simp] theorem State.setGrp_twinMig (s : State) (g : Grp) (v : GroupSt) : (s.setGrp g v).twinMig = s.twinMig := by simp +decide [State.setGrp]

@[simp] theorem State.setBusy_twinMig (s : State) (p : Page) (b : Busy) : (s.setBusy p b).twinMig = s.twinMig := by simp +decide [State.setBusy]

@[simp] theorem State.violLast_twinMig (s : State) (k : Viol) (page : Nat) (inj : Bool) : (s.violLast k page inj).twinMig = s.twinMig := by
  simp +decide [State.violLast]

@[simp] theorem State.violI_twinMig (s : State) (p : Page) (k : Viol) (inj : Bool) : (s.violI p k inj).twinMig = s.twinMig := by
  simp +decide [State.violI]

@[simp] theorem State.viol_twinMig (s : State) (p : Page) (k : Viol) : (s.viol p k).twinMig = s.twinMig := by
  exact State.Frame.twinMig (l := [pageAddr p (violFld k).off]) ((State.Frame.refl s _).viol p k (.inl List.mem_cons_self)) (by simp)

/-! ### Machine/Flags.lean -/

@[simp] theorem State.attnUpdate_twinMig (s : State) (before : BitVec 64 × BitVec 64) : (s.attnUpdate before).twinMig = s.twinMig := by
  simp +decide [State.attnUpdate]

@[simp] theorem State.withEvt_twinMig (s : State) {f : State → State} (hf : ∀ s, (f s).twinMig = s.twinMig) :
    (s.withEvt f).twinMig = s.twinMig := by
  simp [State.withEvt, hf]

@[simp] theorem State.cueSetState_twinMig (s : State) (c : BitVec 12) (st : Nat) : (s.cueSetState c st).twinMig = s.twinMig := by
  simp +decide [State.cueSetState]

@[simp] theorem State.cueOutcome_twinMig (s : State) (c : BitVec 12) (o : Nat) : (s.cueOutcome c o).twinMig = s.twinMig := by
  simp +decide [State.cueOutcome]

@[simp] theorem State.setJob_twinMig (s : State) (x : JobSt) : (s.setJob x).twinMig = s.twinMig := by simp +decide [State.setJob]

@[simp] theorem State.dropJob_twinMig (s : State) (j : Job) : (s.dropJob j).twinMig = s.twinMig := by simp +decide [State.dropJob]

@[simp] theorem State.endCue_twinMig (s : State) (c : BitVec 12) (st o : Nat) : (s.endCue c st o).twinMig = s.twinMig := by
  simp +decide [State.endCue]

@[simp] theorem State.raise_twinMig (s : State) (p : Page) (bit : Nat) : (s.raise p bit).twinMig = s.twinMig := by
  exact (s.raise_spec p bit).1.twinMig (by simp)

@[simp] theorem State.raiseIf_twinMig (s : State) (b : Bool) (p : Page) (bit : Nat) : (s.raiseIf b p bit).twinMig = s.twinMig := by
  simp +decide [State.raiseIf]

/-! ### Machine/Pin.lean -/

@[simp] theorem State.modPath_twinMig (s : State) (p : Path) (f : PathSt → PathSt) : (s.modPath p f).twinMig = s.twinMig := by
  simp +decide [State.modPath]

@[simp] theorem State.newWindow_twinMig (s : State) (p : Path) : (s.newWindow p).twinMig = s.twinMig := by simp +decide [State.newWindow]

@[simp] theorem State.pinTo_twinMig (s : State) (p : Path) (st : Nat) : (s.pinTo p st).twinMig = s.twinMig := by simp +decide [State.pinTo]

@[simp] theorem State.enterUnverified_twinMig (s : State) (p : Path) (cause : Nat) : (s.enterUnverified p cause).twinMig = s.twinMig := by
  simp +decide [State.enterUnverified]

@[simp] theorem State.setAdj_twinMig (s : State) (p : Path) (a : Int) : (s.setAdj p a).twinMig = s.twinMig := by simp +decide [State.setAdj]

@[simp] theorem State.piHold_twinMig (s : State) (p : Path) : (s.piHold p).twinMig = s.twinMig := by simp +decide [State.piHold]

@[simp] theorem State.discard_twinMig (s : State) (p : Path) : (s.discard p).twinMig = s.twinMig := by simp +decide [State.discard]

@[simp] theorem State.place_twinMig (s : State) (p : Path) : (s.place p).twinMig = s.twinMig := by simp +decide [State.place]

@[simp] theorem State.settleStage_twinMig (s : State) (p : Path) : (s.settleStage p).twinMig = s.twinMig := by simp +decide [State.settleStage]

/-! ### Machine/Time.lean -/

@[simp] theorem State.setTime_twinMig (s : State) (t : TimeSt) : (s.setTime t).twinMig = s.twinMig := by simp +decide [State.setTime]

@[simp] theorem State.setUnc_twinMig (s : State) (u : Option Nat) : (s.setUnc u).twinMig = s.twinMig := by simp +decide [State.setUnc]

@[simp] theorem State.holdoverEnd_twinMig (s : State) : (s.holdoverEnd).twinMig = s.twinMig := by simp +decide [State.holdoverEnd]

@[simp] theorem State.rateWrite_twinMig (s : State) (rate : Nat) : (s.rateWrite rate).twinMig = s.twinMig := by simp +decide [State.rateWrite]

@[simp] theorem State.srcChange_twinMig (s : State) : (s.srcChange).twinMig = s.twinMig := by simp +decide [State.srcChange]

/-! ### Machine/Frame.lean -/

@[simp] theorem State.setCtr_twinMig (s : State) (p : Path) (i v : Nat) : (s.setCtr p i v).twinMig = s.twinMig := by simp +decide [State.setCtr]

@[simp] theorem State.addCtr_twinMig (s : State) (p : Path) (i n : Nat) : (s.addCtr p i n).twinMig = s.twinMig := by simp +decide [State.addCtr]

@[simp] theorem State.setPort_twinMig (s : State) (k : Port) (v : PortSt) : (s.setPort k v).twinMig = s.twinMig := by
  simp +decide [State.setPort]

@[simp] theorem State.txDone_twinMig (s : State) (k : Port) (x : Bool × Nat) (status : Nat) (ts : BitVec 128) :
    (s.txDone k x status ts).twinMig = s.twinMig := by
  have hidx : ∀ k : Port, Quiet (pageAddr .frame (FrameR.TX_IDX_TX_HEAD k.val).off) ∧ Quiet (pageAddr .frame (FrameR.TX_CNT_SENT k.val).off) ∧
      Quiet (pageAddr .frame (FrameR.TX_CNT_DROPPED k.val).off) := by
    intro k
    have hk := k.isLt
    simp only [FrameR.TX_IDX_TX_HEAD, FrameR.TX_CNT_SENT, FrameR.TX_CNT_DROPPED, Quiet, ne_eq, pageAddr, pageNum]
    exact ⟨⟨by omega, by omega, fun g => by omega⟩, ⟨by omega, by omega, fun g => by omega⟩, ⟨by omega, by omega, fun g => by omega⟩⟩
  obtain ⟨hhead, hsent, hdropped⟩ := hidx k
  simp [State.txDone, hhead, hsent, hdropped]

@[simp] theorem State.insertCut_twinMig (s : State) (p : Path) : (s.insertCut p).twinMig = s.twinMig := by
  unfold State.insertCut
  refine twinMig_foldl (fun s k => ?_) _ _
  (repeat' split) <;> simp

/-! ### Machine/Profile.lean -/

@[simp] theorem State.degClear_twinMig (s : State) (p : Path) : (s.degClear p).twinMig = s.twinMig := by simp +decide [State.degClear]

@[simp] theorem State.framingLose_twinMig (s : State) (p : Path) : (s.framingLose p).twinMig = s.twinMig := by simp +decide [State.framingLose]

@[simp] theorem State.ethStat_twinMig (s : State) (p : Path) (e : BitVec 3) (frm : Bool) : (s.ethStat p e frm).twinMig = s.twinMig := by
  simp +decide [State.ethStat]

@[simp] theorem State.convLose_twinMig (s : State) (p : Path) (from_ : Nat) : (s.convLose p from_).twinMig = s.twinMig := by
  simp +decide [State.convLose]

@[simp] theorem State.framingLost_twinMig (s : State) (p : Path) (e : BitVec 3) (cut : Bool) : (s.framingLost p e cut).twinMig = s.twinMig := by
  simp +decide [State.framingLost]

/-! ### Machine/Rotation.lean -/

@[simp] theorem State.rotRest_twinMig (s : State) (p : Path) : (s.rotRest p).twinMig = s.twinMig := by simp +decide [State.rotRest]

@[simp] theorem State.rotAborted_twinMig (s : State) (p : Path) (cause : Nat) : (s.rotAborted p cause).twinMig = s.twinMig := by
  simp +decide [State.rotAborted]

@[simp] theorem State.rotAbandon_twinMig (s : State) (p : Path) (cause : Nat) : (s.rotAbandon p cause).twinMig = s.twinMig := by
  simp +decide [State.rotAbandon]

@[simp] theorem State.holdRot_twinMig (s : State) (g : Grp) : (s.holdRot g).twinMig = s.twinMig := by simp +decide [State.holdRot]

@[simp] theorem State.sweepBegin_twinMig (s : State) (p : Path) : (s.sweepBegin p).twinMig = s.twinMig := by simp +decide [State.sweepBegin]

@[simp] theorem State.capStopReq_twinMig (s : State) (p : Path) : (s.capStopReq p).twinMig = s.twinMig := by simp +decide [State.capStopReq]

/-! ### Machine/Training.lean -/

@[simp] theorem State.modSeg_twinMig (s : State) (p : Path) (f : SegSt → SegSt) : (s.modSeg p f).twinMig = s.twinMig := by
  simp +decide [State.modSeg]

@[simp] theorem State.setTaps_twinMig (s : State) (q : Path) (t : List Int) : (s.setTaps q t).twinMig = s.twinMig := by
  simp +decide [State.setTaps]

@[simp] theorem State.presetNow_twinMig (s : State) (p : Path) (n : Nat) : (s.presetNow p n).twinMig = s.twinMig := by
  simp +decide [State.presetNow]

@[simp] theorem State.presetApply_twinMig (s : State) (p : Path) (n : Nat) : (s.presetApply p n).twinMig = s.twinMig := by
  simp +decide [State.presetApply]

@[simp] theorem State.presetsDue_twinMig (s : State) : (s.presetsDue).twinMig = s.twinMig := by
  unfold State.presetsDue
  refine twinMig_foldl (fun s e => ?_) _ _
  split <;> simp

@[simp] theorem State.segClear_twinMig (s : State) (p : Path) : (s.segClear p).twinMig = s.twinMig := by simp +decide [State.segClear]

@[simp] theorem State.segSet_twinMig (s : State) (p : Path) (st : Nat) : (s.segSet p st).twinMig = s.twinMig := by simp +decide [State.segSet]

@[simp] theorem State.segWait_twinMig (s : State) (p : Path) : (s.segWait p).twinMig = s.twinMig := by simp +decide [State.segWait]

@[simp] theorem State.seedRx_twinMig (s : State) (p : Path) : (s.seedRx p).twinMig = s.twinMig := by
  unfold State.seedRx
  dsimp only
  split
  · rfl
  split
  · rw [twinMig_foldl (fun s e => by simp)]
    simp +decide
  · simp +decide

@[simp] theorem State.segInit_twinMig (s : State) (p : Path) : (s.segInit p).twinMig = s.twinMig := by simp +decide [State.segInit]

@[simp] theorem State.segAcquire_twinMig (s : State) (p : Path) : (s.segAcquire p).twinMig = s.twinMig := by simp +decide [State.segAcquire]

@[simp] theorem State.waitRow_twinMig (s : State) (p : Path) : (s.waitRow p).twinMig = s.twinMig := by simp +decide [State.waitRow]

@[simp] theorem State.readyRow_twinMig (s : State) (p : Path) : (s.readyRow p).twinMig = s.twinMig := by simp +decide [State.readyRow]

@[simp] theorem State.setupRow_twinMig (s : State) (p : Path) : (s.setupRow p).twinMig = s.twinMig := by simp +decide [State.setupRow]

@[simp] theorem State.dropLock_twinMig (s : State) (p : Path) (fault : Bool) : (s.dropLock p fault).twinMig = s.twinMig := by
  simp +decide [State.dropLock]

@[simp] theorem State.relayBegin_twinMig (s : State) (n : Lane) : (s.relayBegin n).twinMig = s.twinMig := by simp +decide [State.relayBegin]

@[simp] theorem State.relayRow_twinMig (s : State) (n : Lane) : (s.relayRow n).twinMig = s.twinMig := by simp +decide [State.relayRow]

@[simp] theorem State.disableRow_twinMig (s : State) (p : Path) : (s.disableRow p).twinMig = s.twinMig := by simp +decide [State.disableRow]

@[simp] theorem State.settlePath_twinMig (s : State) (p : Path) : (s.settlePath p).twinMig = s.twinMig := by simp +decide [State.settlePath]

@[simp] theorem State.readyPair_twinMig (s : State) (n : Lane) : (s.readyPair n).twinMig = s.twinMig := by simp +decide [State.readyPair]

@[simp] theorem State.settle_twinMig (s : State) (n : Lane) : (s.settle n).twinMig = s.twinMig := by simp +decide [State.settle]

@[simp] theorem State.settleGrp_twinMig (s : State) (g : Grp) : (s.settleGrp g).twinMig = s.twinMig := by simp +decide [State.settleGrp]

/-! ### Machine/Queue.lean -/

@[simp] theorem State.setEng_twinMig (s : State) (e : Eng) (v : EngSt) : (s.setEng e v).twinMig = s.twinMig := by simp +decide [State.setEng]

@[simp] theorem State.modEng_twinMig (s : State) (e : Eng) (f : EngSt → EngSt) : (s.modEng e f).twinMig = s.twinMig := by
  simp +decide [State.modEng]

@[simp] theorem State.postAnswer_twinMig (s : State) (e : Eng) (r : BitVec 128) : (s.postAnswer e r).twinMig = s.twinMig := by
  simp +decide [State.postAnswer]

@[simp] theorem State.answerCmd_twinMig (s : State) (e : Eng) (c : BitVec 128) (epoch status detail : Nat) (r0 r1 : Word) :
    (s.answerCmd e c epoch status detail r0 r1).twinMig = s.twinMig := by
  simp +decide [State.answerCmd]

@[simp] theorem State.emptyCmdq_twinMig (s : State) (e : Eng) : (s.emptyCmdq e).twinMig = s.twinMig := by simp +decide [State.emptyCmdq]

@[simp] theorem State.releaseLong_twinMig (s : State) (e : Eng) : (s.releaseLong e).twinMig = s.twinMig := by simp +decide [State.releaseLong]

@[simp] theorem State.endLong_twinMig (s : State) (e : Eng) (status detail : Nat) (r0 r1 : Word) :
    (s.endLong e status detail r0 r1).twinMig = s.twinMig := by
  unfold State.endLong
  split <;> simp

@[simp] theorem State.abortLong_twinMig (s : State) (e : Eng) : (s.abortLong e).twinMig = s.twinMig := by simp +decide [State.abortLong]

/-! ### Machine/Flash.lean -/

@[simp] theorem State.modFlash_twinMig (s : State) (f : FlashSt → FlashSt) : (s.modFlash f).twinMig = s.twinMig := by
  simp +decide [State.modFlash]

@[simp] theorem State.flashServe_twinMig (s : State) : (s.flashServe).twinMig = s.twinMig := by
  exact State.Frame.twinMig (l := serveRegs ++ keyRegs) 
    (State.flashServe_touches (P := { flash := true, reh := true, security := true }) (es := []) rfl
    (fun _ ha => List.mem_append_left _ ha) rfl (by decide) (.inr ⟨rfl, fun _ ha => List.mem_append_right _ ha⟩)).1 (by
      unfold Quiet
      decide +kernel)

@[simp] theorem State.flashQueue_twinMig (s : State) (op : FlashOp) : (s.flashQueue op).twinMig = s.twinMig := by simp +decide [State.flashQueue]

@[simp] theorem State.calDirty_twinMig (s : State) : (s.calDirty).twinMig = s.twinMig := by simp +decide [State.calDirty]

/-! ### Machine/Trim.lean -/

@[simp] theorem State.putTrim_twinMig (s : State) (p : Path) (t : TrimSt) : (s.putTrim p t).twinMig = s.twinMig := by
  simp +decide [State.putTrim]

@[simp] theorem State.setTrim_twinMig (s : State) (p : Path) (t : TrimSt) : (s.setTrim p t).twinMig = s.twinMig := by
  simp +decide [State.setTrim]

@[simp] theorem State.setPend_twinMig (s : State) (p : Path) (v : List (Nat × List Int)) : (s.setPend p v).twinMig = s.twinMig := by
  simp +decide [State.setPend]

@[simp] theorem State.setRamp_twinMig (s : State) (p : Path) (v : List (Nat × List Int)) : (s.setRamp p v).twinMig = s.twinMig := by
  simp +decide [State.setRamp]

@[simp] theorem State.calApplyPath_twinMig (s : State) (p : Path) : (s.calApplyPath p).twinMig = s.twinMig := by
  simp +decide [State.calApplyPath]

@[simp] theorem State.calApply_twinMig (s : State) (g : Grp) : (s.calApply g).twinMig = s.twinMig := by simp +decide [State.calApply]

@[simp] theorem State.modCal_twinMig (s : State) (g : Grp) (f : CalSt → CalSt) : (s.modCal g f).twinMig = s.twinMig := by
  simp +decide [State.modCal]

@[simp] theorem State.needRaise_twinMig (s : State) (g : Grp) (before : List Bool) : (s.needRaise g before).twinMig = s.twinMig := by
  simp +decide [State.needRaise]

@[simp] theorem State.setDone_twinMig (s : State) (p : Path) (b : Bool) : (s.setDone p b).twinMig = s.twinMig := by simp +decide [State.setDone]

@[simp] theorem State.calAutoStore_twinMig (s : State) : (s.calAutoStore).twinMig = s.twinMig := by simp +decide [State.calAutoStore]

@[simp] theorem State.calCmdEnd_twinMig (s : State) (g : Grp) (done : Bool) : (s.calCmdEnd g done).twinMig = s.twinMig := by
  unfold State.calCmdEnd
  refine twinMig_forAll (fun e s => ?_) _ _
  (repeat' split) <;> simp

@[simp] theorem State.calComplete_twinMig (s : State) (g : Grp) : (s.calComplete g).twinMig = s.twinMig := by simp +decide [State.calComplete]

@[simp] theorem State.calBlocksDone_twinMig (s : State) (g : Grp) : (s.calBlocksDone g).twinMig = s.twinMig := by
  simp +decide [State.calBlocksDone]

@[simp] theorem State.calNext_twinMig (s : State) (g : Grp) : (s.calNext g).twinMig = s.twinMig := by simp +decide [State.calNext]

@[simp] theorem State.calStart_twinMig (s : State) (g : Grp) (trig : Nat) (ramp : Bool) (mask : Nat) :
    (s.calStart g trig ramp mask).twinMig = s.twinMig := by
  simp +decide [State.calStart]

@[simp] theorem State.calTrigger_twinMig (s : State) (g : Grp) (trig : Nat) (ramp : Bool) (mask : Nat) :
    (s.calTrigger g trig ramp mask).twinMig = s.twinMig := by
  simp +decide [State.calTrigger]

@[simp] theorem State.calRecover_twinMig (s : State) (g : Grp) : (s.calRecover g).twinMig = s.twinMig := by simp +decide [State.calRecover]

@[simp] theorem State.calAbandon_twinMig (s : State) (g : Grp) (keep : Bool) : (s.calAbandon g keep).twinMig = s.twinMig := by
  simp +decide [State.calAbandon]

@[simp] theorem State.calSettle_twinMig (s : State) (g : Grp) : (s.calSettle g).twinMig = s.twinMig := by simp +decide [State.calSettle]

/-! ### Machine/Power.lean -/

@[simp] theorem State.enterDown_twinMig (s : State) (g : Grp) (st cause : Nat) : (s.enterDown g st cause).twinMig = s.twinMig := by
  simp +decide [State.enterDown]

@[simp] theorem State.exitBegin_twinMig (s : State) (g : Grp) (cause : Nat) : (s.exitBegin g cause).twinMig = s.twinMig := by
  simp +decide [State.exitBegin]

@[simp] theorem State.pwBegin_twinMig (s : State) (g : Grp) (rq cause : Nat) (byHost : Bool) :
    (s.pwBegin g rq cause byHost).twinMig = s.twinMig := by
  simp +decide [State.pwBegin]

@[simp] theorem State.pwPend_twinMig (s : State) (g : Grp) (rq cause : Nat) (byHost : Bool) :
    (s.pwPend g rq cause byHost).twinMig = s.twinMig := by
  simp +decide [State.pwPend]

@[simp] theorem State.pwRequest_twinMig (s : State) (g : Grp) (rq cause : Nat) (byHost : Bool) :
    (s.pwRequest g rq cause byHost).twinMig = s.twinMig := by
  simp +decide [State.pwRequest]

@[simp] theorem State.pwTakePend_twinMig (s : State) (g : Grp) : (s.pwTakePend g).twinMig = s.twinMig := by
  unfold State.pwTakePend
  (repeat' split) <;> simp

@[simp] theorem State.levelAct_twinMig (s : State) (g : Grp) : (s.levelAct g).twinMig = s.twinMig := by simp +decide [State.levelAct]

@[simp] theorem State.pwBusyEnd_twinMig (s : State) (g : Grp) : (s.pwBusyEnd g).twinMig = s.twinMig := by simp +decide [State.pwBusyEnd]

@[simp] theorem State.holdBegun_twinMig (s : State) (g : Grp) : (s.holdBegun g).twinMig = s.twinMig := by simp +decide [State.holdBegun]

@[simp] theorem State.engHalt_twinMig (s : State) (e : Eng) (st : Nat) : (s.engHalt e st).twinMig = s.twinMig := by
  unfold State.engHalt
  cases s.engGrp e with
  | none => simp +decide
  | some g => cases s.eng e == 4 <;> simp +decide

/-! ### Machine/Scenes.lean -/

@[simp] theorem State.emptyOpen_twinMig (s : State) (n : Nat) : (s.emptyOpen n).twinMig = s.twinMig := by simp +decide [State.emptyOpen]

@[simp] theorem State.setSceneStat_twinMig (s : State) (n : Nat) (w : Word) : (s.setSceneStat n w).twinMig = s.twinMig := by
  simp +decide [State.setSceneStat]

@[simp] theorem State.sceneResult_twinMig (s : State) (n r : Nat) : (s.sceneResult n r).twinMig = s.twinMig := by
  simp +decide [State.sceneResult]

@[simp] theorem State.cueSkipped_twinMig (s : State) (c : BitVec 12) (n : Nat) : (s.cueSkipped c n).twinMig = s.twinMig := by
  simp +decide [State.cueSkipped]

@[simp] theorem State.jobDue_twinMig (s : State) (x : JobSt) : (s.jobDue x).twinMig = s.twinMig := by
  unfold State.jobDue
  dsimp only
  split <;> simp

@[simp] theorem State.rearm_twinMig (s : State) (x : JobSt) (c : BitVec 12) : (s.rearm x c).twinMig = s.twinMig := by
  unfold State.rearm
  (repeat' split) <;> simp

@[simp] theorem State.lateTime_twinMig (s : State) (x : JobSt) (c : BitVec 12) (trig : Option Nat) (outcome : Nat) :
    (s.lateTime x c trig outcome).twinMig = s.twinMig := by
  simp +decide [State.lateTime]

@[simp] theorem State.defer_twinMig (s : State) (x : JobSt) : (s.defer x).twinMig = s.twinMig := by
  unfold State.defer
  dsimp only
  split <;> simp

@[simp] theorem State.locksFreed_twinMig (s : State) : (s.locksFreed).twinMig = s.twinMig := by simp +decide [State.locksFreed]

@[simp] theorem State.commitCut_twinMig (s : State) (x : JobSt) : (s.commitCut x).twinMig = s.twinMig := by
  unfold State.commitCut
  split <;> simp +decide

@[simp] theorem State.unstagePages_twinMig (s : State) (pages : List Page) (reset : Bool) :
    (s.unstagePages pages reset).twinMig = s.twinMig := by
  unfold State.unstagePages
  rw [State.locksFreed_twinMig]
  refine twinMig_foldl (fun s x => ?_) _ _
  (repeat' split) <;> simp

/-! ### Machine/Cues.lean -/

@[simp] theorem State.stepMove_twinMig (s : State) (x : JobSt) (old : Nat) : (s.stepMove x old).twinMig = s.twinMig := by
  simp +decide [State.stepMove]

@[simp] theorem State.stepFire_twinMig (s : State) (x : JobSt) : (s.stepFire x).twinMig = s.twinMig := by simp +decide [State.stepFire]

@[simp] theorem State.stepForward_twinMig (s : State) (x : JobSt) (c : BitVec 12) : (s.stepForward x c).twinMig = s.twinMig := by
  simp +decide [State.stepForward]

@[simp] theorem State.stepBack_twinMig (s : State) (x : JobSt) (c : BitVec 12) : (s.stepBack x c).twinMig = s.twinMig := by
  simp +decide [State.stepBack]

@[simp] theorem State.stepPending_twinMig (s : State) (x : JobSt) (c : BitVec 12) (old : Nat) : (s.stepPending x c old).twinMig = s.twinMig := by
  simp +decide [State.stepPending]

@[simp] theorem State.cueStepped_twinMig (s : State) (x : JobSt) (c : BitVec 12) (old : Nat) : (s.cueStepped x c old).twinMig = s.twinMig := by
  simp +decide [State.cueStepped]

@[simp] theorem State.cuesStepped_twinMig (s : State) (old : Nat) : (s.cuesStepped old).twinMig = s.twinMig := by
  unfold State.cuesStepped
  rw [State.locksFreed_twinMig]
  refine twinMig_foldl (fun s x => ?_) _ _
  (repeat' split) <;> simp

@[simp] theorem State.stepBy_twinMig (s : State) (ofs : Int) : (s.stepBy ofs).twinMig = s.twinMig := by simp +decide [State.stepBy]

/-! ### Machine/Engines.lean -/

@[simp] theorem State.answerMoved_twinMig (s : State) (e : Eng) (g : Grp) : (s.answerMoved e g).twinMig = s.twinMig := by
  simp +decide [State.answerMoved]

@[simp] theorem State.quiesce_twinMig (s : State) (e : Eng) (g : Grp) : (s.quiesce e g).twinMig = s.twinMig := by
  unfold State.quiesce
  dsimp only
  rw [State.answerMoved_twinMig]
  (repeat' split) <;> simp

@[simp] theorem State.grpBusy_twinMig (s : State) (g : Grp) (b : Busy) : (s.grpBusy g b).twinMig = s.twinMig := by simp +decide [State.grpBusy]

@[simp] theorem State.grpFree_twinMig (s : State) (g : Grp) : (s.grpFree g).twinMig = s.twinMig := by simp +decide [State.grpFree]

end Sys2Proof.Machine

end

section
/-!
SUPPORT. What leaves MIR_PEER_CRC (R315) as it is, likewise: the operations of the timebase, the frames, the scenes, the engines and the twin that a
commit may bring about besides, among them those that change MIG_STAT.
-/

-- Proofs are elaborated one at a time: side by side their threads reserve more memory than a check has.
set_option Elab.async false

namespace Sys2Proof.Machine

/-! ### What leaves MIR_PEER_CRC as it is -/

@[simp] theorem tabGet_twinMig_fst (s : State) : tabGet regReset s.regs (pageAddr .twin 0x08C) = s.twinMig.1 := rfl

@[simp] theorem pageAddr_eq_crc_iff (p : Page) {off : Nat} (h : off < 4096) :
    pageAddr p off = pageAddr .twin 0x08C ↔ p = .twin ∧ off = 0x08C := pageAddr_inj h (by decide)

@[simp] theorem pageAddr_path_ne_crc (p : Path) (off : Nat) : ¬ pageAddr (.path p) off = pageAddr .twin 0x08C := by
  simp only [pageAddr, pageNum]
  omega

@[simp] theorem pageAddr_group_ne_crc (g : Grp) (off : Nat) : ¬ pageAddr (.group g) off = pageAddr .twin 0x08C := by
  simp only [pageAddr, pageNum]
  omega

@[simp] theorem pageAddr_frame_ne_crc (off : Nat) : ¬ pageAddr .frame off = pageAddr .twin 0x08C := by
  simp only [pageAddr, pageNum]
  omega

@[simp] theorem twinMig_fst_foldl {α : Type} {f : State → α → State} (hf : ∀ s a, (f s a).twinMig.1 = s.twinMig.1) (l : List α)
    (s : State) : (l.foldl f s).twinMig.1 = s.twinMig.1 := by
  induction l generalizing s with
  | nil => rfl
  | cons a l ih => exact (ih _).trans (hf s a)

theorem twinMig_fst_foldl_mem {α : Type} {f : State → α → State} (l : List α) (hf : ∀ a ∈ l, ∀ s, (f s a).twinMig.1 = s.twinMig.1)
    (s : State) : (l.foldl f s).twinMig.1 = s.twinMig.1 := by
  induction l generalizing s with
  | nil => rfl
  | cons a l ih => exact (ih (fun b hb => hf b (List.mem_cons_of_mem _ hb)) _).trans (hf a List.mem_cons_self s)

theorem twinMig_fst_foldl_fst {α β : Type} {f : State × β → α → State × β}
    (hf : ∀ r a, (f r a).1.twinMig.1 = r.1.twinMig.1) (l : List α)
    (r : State × β) : (l.foldl f r).1.twinMig.1 = r.1.twinMig.1 := by
  induction l generalizing r with
  | nil => rfl
  | cons a l ih => exact (ih _).trans (hf r a)

@[simp] theorem twinMig_fst_forAll {α : Type} {f : α → State → State} (hf : ∀ a s, (f a s).twinMig.1 = s.twinMig.1) (l : List α)
    (s : State) : (forAll l f s).twinMig.1 = s.twinMig.1 := twinMig_fst_foldl (fun s a => hf a s) l s

@[simp] theorem twinMig_fst_ite (c : Prop) [Decidable c] (s t : Word × Word × (Grp → Word)) : (if c then s else t).1 = if c then s.1 else t.1 :=
  apply_ite _ _ _ _

@[simp] theorem State.wr_twinMig_fst (s : State) {a : Nat} (v : Word) (ha : ¬ a = pageAddr .twin 0x08C) :
    (s.wr a v).twinMig.1 = s.twinMig.1 := tabGet_tabSet_ne _ _ _ _ _ (Ne.symm ha)

@[simp] theorem State.setF_twinMig_fst (s : State) {p : Page} {x : Fld} (v : Nat) (hx : ¬ pageAddr p x.off = pageAddr .twin 0x08C) :
    (s.setF p x v).twinMig.1 = s.twinMig.1 := s.wr_twinMig_fst _ hx

@[simp] theorem State.inc_twinMig_fst (s : State) {p : Page} {x : Fld} (hx : ¬ pageAddr p x.off = pageAddr .twin 0x08C) :
    (s.inc p x).twinMig.1 = s.twinMig.1 := s.wr_twinMig_fst _ hx

theorem State.rstRange_twinMig_fst (s : State) {p : Page} {lo hi : Nat}
    (hx : pageAddr .twin 0x08C < pageAddr p lo ∨ pageAddr p hi < pageAddr .twin 0x08C) :
    (s.rstRange p lo hi).twinMig.1 = s.twinMig.1 := tabGet_rstRange s hx

@[simp] theorem State.rstRange_group_twinMig_fst (s : State) (g : Grp) (lo hi : Nat) :
    (s.rstRange (.group g) lo hi).twinMig.1 = s.twinMig.1 :=
  s.rstRange_twinMig_fst (.inl (by simp only [pageAddr, pageNum]; omega))

@[simp] theorem State.rstRange_sec_twinMig_fst (s : State) (lo hi : Nat) : (s.rstRange .sec lo hi).twinMig.1 = s.twinMig.1 :=
  s.rstRange_twinMig_fst (.inl (by simp only [pageAddr, pageNum]; omega))

@[simp] theorem goodFld_low (b : Bool) : (goodFld b).off < 4096 := by cases b <;> decide

@[simp] theorem seenFld_low (b : Bool) : (seenFld b).off < 4096 := by cases b <;> decide

@[simp] theorem lossFld_low (b : Bool) : (lossFld b).off < 4096 := by cases b <;> decide

/-! ### Machine/Ops.lean -/

@[simp] theorem State.pageStored_twinMig_fst (s : State) (a : Nat) : (s.pageStored a).twinMig.1 = s.twinMig.1 := by
  simp +decide [State.pageStored]

@[simp] theorem State.setSlice_twinMig_fst (s : State) (p : Path) (k : Nat) (v : SliceSt) : (s.setSlice p k v).twinMig.1 = s.twinMig.1 := by
  simp +decide [State.setSlice]

@[simp] theorem State.dropLatches_twinMig_fst (s : State) (c : Src) : (s.dropLatches c).twinMig.1 = s.twinMig.1 := by
  simp +decide [State.dropLatches]

@[simp] theorem State.modSec_twinMig_fst (s : State) (f : SecSt → SecSt) : (s.modSec f).twinMig.1 = s.twinMig.1 := by simp +decide [State.modSec]

@[simp] theorem State.violIf_twinMig_fst (s : State) (b : Bool) (p : Page) (k : Viol) : (s.violIf b p k).twinMig.1 = s.twinMig.1 := by
  simp +decide [State.violIf]

/-! ### Machine/Pin.lean -/

@[simp] theorem State.pauseProbe_twinMig_fst (s : State) (p : Path) (cause : Nat) : (s.pauseProbe p cause).twinMig.1 = s.twinMig.1 := by
  simp +decide [State.pauseProbe]

@[simp] theorem State.targetChange_twinMig_fst (s : State) (p : Path) : (s.targetChange p).twinMig.1 = s.twinMig.1 := by
  simp +decide [State.targetChange]

@[simp] theorem State.pinReset_twinMig_fst (s : State) (p : Path) : (s.pinReset p).twinMig.1 = s.twinMig.1 := by simp +decide [State.pinReset]

/-! ### Machine/Time.lean -/

@[simp] theorem State.uncCross_twinMig_fst (s : State) : (s.uncCross).twinMig.1 = s.twinMig.1 := by simp +decide [State.uncCross]

@[simp] theorem State.holdoverBegin_twinMig_fst (s : State) : (s.holdoverBegin).twinMig.1 = s.twinMig.1 := by simp +decide [State.holdoverBegin]

@[simp] theorem State.pauseAll_twinMig_fst (s : State) (cause : Nat) : (s.pauseAll cause).twinMig.1 = s.twinMig.1 := by
  simp +decide [State.pauseAll]

@[simp] theorem State.refSwitch_twinMig_fst (s : State) : (s.refSwitch).twinMig.1 = s.twinMig.1 := by simp +decide [State.refSwitch]

@[simp] theorem State.refSecond_twinMig_fst (s : State) : (s.refSecond).twinMig.1 = s.twinMig.1 := by simp +decide [State.refSecond]

/-! ### Machine/Frame.lean -/

@[simp] theorem State.zeroCtrs_twinMig_fst (s : State) (p : Path) : (s.zeroCtrs p).twinMig.1 = s.twinMig.1 := by simp +decide [State.zeroCtrs]

@[simp] theorem State.insertLoss_twinMig_fst (s : State) (p : Path) : (s.insertLoss p).twinMig.1 = s.twinMig.1 := by
  unfold State.insertLoss
  refine twinMig_fst_foldl (fun s k => ?_) _ _
  (repeat' split) <;> simp

@[simp] theorem State.portDisable_twinMig_fst (s : State) (k : Port) : (s.portDisable k).twinMig.1 = s.twinMig.1 := by
  simp +decide [State.portDisable]

@[simp] theorem State.txTail_twinMig_fst (s : State) (k : Port) (tail : Nat) : (s.txTail k tail).twinMig.1 = s.twinMig.1 := by
  simp +decide [State.txTail]

/-! ### Machine/Profile.lean -/

@[simp] theorem State.profGone_twinMig_fst (s : State) (p : Path) : (s.profGone p).twinMig.1 = s.twinMig.1 := by simp +decide [State.profGone]

@[simp] theorem State.snapRegs_twinMig_fst (s : State) (p : Path) : (s.snapRegs p).twinMig.1 = s.twinMig.1 := by simp +decide [State.snapRegs]

@[simp] theorem State.snapshot_twinMig_fst (s : State) (p : Path) (bits errs : Nat) : (s.snapshot p bits errs).twinMig.1 = s.twinMig.1 := by
  simp +decide [State.snapshot]

@[simp] theorem State.prbsLose_twinMig_fst (s : State) (p : Path) (bits errs : Nat) : (s.prbsLose p bits errs).twinMig.1 = s.twinMig.1 := by
  simp +decide [State.prbsLose]

@[simp] theorem State.injFire_twinMig_fst (s : State) (p : Path) : (s.injFire p).twinMig.1 = s.twinMig.1 := by simp +decide [State.injFire]

@[simp] theorem State.profReset_twinMig_fst (s : State) (p : Path) : (s.profReset p).twinMig.1 = s.twinMig.1 := by simp +decide [State.profReset]

/-! ### Machine/Rotation.lean -/

@[simp] theorem State.rotAbandonAll_twinMig_fst (s : State) (p : Path) : (s.rotAbandonAll p).twinMig.1 = s.twinMig.1 := by
  simp +decide [State.rotAbandonAll]

@[simp] theorem State.sweepStep_twinMig_fst (s : State) (p : Path) : (s.sweepStep p).twinMig.1 = s.twinMig.1 := by simp +decide [State.sweepStep]

@[simp] theorem State.rotSwap_twinMig_fst (s : State) (p : Path) : (s.rotSwap p).twinMig.1 = s.twinMig.1 := by simp +decide [State.rotSwap]

@[simp] theorem State.rotForce_twinMig_fst (s : State) (p : Path) : (s.rotForce p).twinMig.1 = s.twinMig.1 := by simp +decide [State.rotForce]

@[simp] theorem State.retire_twinMig_fst (s : State) (p : Path) (k : Nat) : (s.retire p k).twinMig.1 = s.twinMig.1 := by
  simp +decide [State.retire]

@[simp] theorem State.capRun_twinMig_fst (s : State) (p : Path) : (s.capRun p).twinMig.1 = s.twinMig.1 := by simp +decide [State.capRun]

@[simp] theorem State.capStart_twinMig_fst (s : State) (p : Path) : (s.capStart p).twinMig.1 = s.twinMig.1 := by simp +decide [State.capStart]

/-! ### Machine/Training.lean -/

@[simp] theorem State.segStop_twinMig_fst (s : State) (p : Path) (st cause : Nat) : (s.segStop p st cause).twinMig.1 = s.twinMig.1 := by
  simp +decide [State.segStop]

@[simp] theorem State.segBreak_twinMig_fst (s : State) (cause : Nat) (p : Path) : (s.segBreak cause p).twinMig.1 = s.twinMig.1 := by
  simp +decide [State.segBreak]

@[simp] theorem State.segForce_twinMig_fst (s : State) (p : Path) : (s.segForce p).twinMig.1 = s.twinMig.1 := by simp +decide [State.segForce]

@[simp] theorem State.propagateBy_twinMig_fst (s : State) (m : Nat) (p : Path) : (s.propagateBy m p).twinMig.1 = s.twinMig.1 := by
  simp +decide [State.propagateBy]

@[simp] theorem State.propagate_twinMig_fst (s : State) (p : Path) : (s.propagate p).twinMig.1 = s.twinMig.1 := by simp +decide [State.propagate]

@[simp] theorem State.settlePort_twinMig_fst (s : State) (n : Lane) : (s.settlePort n).twinMig.1 = s.twinMig.1 := by
  simp +decide [State.settlePort]

@[simp] theorem State.segsNoLock_twinMig_fst (s : State) (l : List Path) : (s.segsNoLock l).twinMig.1 = s.twinMig.1 := by
  simp +decide [State.segsNoLock]

@[simp] theorem State.locksLost_twinMig_fst (s : State) (l : List Path) : (s.locksLost l).twinMig.1 = s.twinMig.1 := by
  simp +decide [State.locksLost]

@[simp] theorem State.lockLost_twinMig_fst (s : State) (p : Path) : (s.lockLost p).twinMig.1 = s.twinMig.1 := by simp +decide [State.lockLost]

@[simp] theorem State.restart_twinMig_fst (s : State) (n : Lane) : (s.restart n).twinMig.1 = s.twinMig.1 := by simp +decide [State.restart]

@[simp] theorem State.trnReset_twinMig_fst (s : State) (l : List Path) : (s.trnReset l).twinMig.1 = s.twinMig.1 := by
  simp +decide [State.trnReset]

/-! ### Machine/Flash.lean -/

@[simp] theorem State.modReh_twinMig_fst (s : State) (f : RehSt → RehSt) : (s.modReh f).twinMig.1 = s.twinMig.1 := by simp +decide [State.modReh]

@[simp] theorem State.hostEnd_twinMig_fst (s : State) (res : Nat) : (s.hostEnd res).twinMig.1 = s.twinMig.1 := by simp +decide [State.hostEnd]

@[simp] theorem State.rehRefused_twinMig_fst (s : State) (cause : Nat) : (s.rehRefused cause).twinMig.1 = s.twinMig.1 := by
  simp +decide [State.rehRefused]

@[simp] theorem State.rehOver_twinMig_fst (s : State) : (s.rehOver).twinMig.1 = s.twinMig.1 := by simp +decide [State.rehOver]

/-! ### Machine/Trim.lean -/

@[simp] theorem State.disruptOpen_twinMig_fst (s : State) (p : Path) : (s.disruptOpen p).twinMig.1 = s.twinMig.1 := by
  simp +decide [State.disruptOpen]

@[simp] theorem State.disruptAsk_twinMig_fst (s : State) (g : Grp) (i : Nat) : (s.disruptAsk g i).twinMig.1 = s.twinMig.1 := by
  unfold State.disruptAsk
  split <;> simp

/-! ### Machine/Power.lean -/

@[simp] theorem State.pwHost_twinMig_fst (s : State) (g : Grp) (rq : Nat) : (s.pwHost g rq).twinMig.1 = s.twinMig.1 := by
  simp +decide [State.pwHost]

@[simp] theorem State.pulseWake_twinMig_fst (s : State) (g : Grp) (cause : Nat) : (s.pulseWake g cause).twinMig.1 = s.twinMig.1 := by
  simp +decide [State.pulseWake]

@[simp] theorem State.oosChanged_twinMig_fst (s : State) (p : Path) : (s.oosChanged p).twinMig.1 = s.twinMig.1 := by
  simp +decide [State.oosChanged]

/-! ### Machine/Lane.lean -/

@[simp] theorem State.setRelock_twinMig_fst (s : State) (g : Grp) (b v : Bool) : (s.setRelock g b v).twinMig.1 = s.twinMig.1 := by
  simp +decide [State.setRelock]

@[simp] theorem State.pllPathsLose_twinMig_fst (s : State) (g : Grp) (b : Bool) : (s.pllPathsLose g b).twinMig.1 = s.twinMig.1 := by
  simp +decide [State.pllPathsLose]

/-! ### Machine/Scenes.lean -/

@[simp] theorem State.openResult_twinMig_fst (s : State) (res cause : Nat) : (s.openResult res cause).twinMig.1 = s.twinMig.1 := by
  simp +decide [State.openResult]

@[simp] theorem State.stage_twinMig_fst (s : State) (x : JobSt) (locks : List Nat) : (s.stage x locks).twinMig.1 = s.twinMig.1 := by
  unfold State.stage
  dsimp only
  have hkept : ((s.setJob x).sceneResult x.scene 3).twinMig.1 = s.twinMig.1 := by simp
  split
  · exact (congrArg Prod.fst (State.cueSetState_twinMig _ _ _)).trans hkept
  · exact hkept

/-! ### Machine/Cues.lean -/

@[simp] theorem State.timeStep_twinMig_fst (s : State) : (s.timeStep).twinMig.1 = s.twinMig.1 := by simp +decide [State.timeStep]

@[simp] theorem State.markCfgChange_twinMig_fst (s : State) : (s.markCfgChange).twinMig.1 = s.twinMig.1 := by simp +decide [State.markCfgChange]

@[simp] theorem State.scenesClear_twinMig_fst (s : State) : (s.scenesClear).twinMig.1 = s.twinMig.1 := by simp +decide [State.scenesClear]

/-! ### Machine/Engines.lean -/

@[simp] theorem State.engSet_twinMig_fst (s : State) (e : Eng) (st : Nat) : (s.engSet e st).twinMig.1 = s.twinMig.1 := by
  simp +decide [State.engSet]

@[simp] theorem State.engLoad_twinMig_fst (s : State) (e : Eng) : (s.engLoad e).twinMig.1 = s.twinMig.1 := by simp +decide [State.engLoad]

@[simp] theorem State.engStart_twinMig_fst (s : State) (e : Eng) : (s.engStart e).twinMig.1 = s.twinMig.1 := by simp +decide [State.engStart]

@[simp] theorem State.engStopNow_twinMig_fst (s : State) (e : Eng) : (s.engStopNow e).twinMig.1 = s.twinMig.1 := by
  simp +decide [State.engStopNow]

@[simp] theorem State.engStop_twinMig_fst (s : State) (e : Eng) : (s.engStop e).twinMig.1 = s.twinMig.1 := by simp +decide [State.engStop]

@[simp] theorem State.engOos_twinMig_fst (s : State) (e : Eng) (v : Bool) : (s.engOos e v).twinMig.1 = s.twinMig.1 := by
  simp +decide [State.engOos]

@[simp] theorem State.migGo_twinMig_fst (s : State) (g : Grp) : (s.migGo g).twinMig.1 = s.twinMig.1 := by
  unfold State.migGo
  dsimp only
  (repeat' split) <;> simp

@[simp] theorem State.unstale_twinMig_fst (s : State) (t : Nat) : (s.unstale t).twinMig.1 = s.twinMig.1 := by
  unfold State.unstale
  split <;> simp

@[simp] theorem State.migFail_twinMig_fst (s : State) (g : Grp) : (s.migFail g).twinMig.1 = s.twinMig.1 := by simp +decide [State.migFail]

@[simp] theorem State.cmdAppend_twinMig_fst (s : State) (e : Eng) (q : BitVec 128) : (s.cmdAppend e q).twinMig.1 = s.twinMig.1 := by
  simp +decide [State.cmdAppend]

/-! ### Machine/Twin.lean -/

@[simp] theorem State.modTwin_twinMig_fst (s : State) (f : TwinSt → TwinSt) : (s.modTwin f).twinMig.1 = s.twinMig.1 := by
  simp +decide [State.modTwin]

@[simp] theorem State.setSrc_twinMig_fst (s : State) (v : Nat) : (s.setSrc v).twinMig.1 = s.twinMig.1 := by simp +decide [State.setSrc]

@[simp] theorem State.enterFollow_twinMig_fst (s : State) : (s.enterFollow).twinMig.1 = s.twinMig.1 := by simp +decide [State.enterFollow]

@[simp] theorem State.leaveFollow_twinMig_fst (s : State) : (s.leaveFollow).twinMig.1 = s.twinMig.1 := by simp +decide [State.leaveFollow]

@[simp] theorem State.setRole_twinMig_fst (s : State) (r : Nat) : (s.setRole r).twinMig.1 = s.twinMig.1 := by simp +decide [State.setRole]

@[simp] theorem State.setSd_twinMig_fst (s : State) (v : Nat) : (s.setSd v).twinMig.1 = s.twinMig.1 := by simp +decide [State.setSd]

@[simp] theorem State.twinEn_twinMig_fst (s : State) (v : Bool) : (s.twinEn v).twinMig.1 = s.twinMig.1 := by simp +decide [State.twinEn]

@[simp] theorem State.timeEnChange_twinMig_fst (s : State) (v : Bool) : (s.timeEnChange v).twinMig.1 = s.twinMig.1 := by
  simp +decide [State.timeEnChange]

@[simp] theorem State.sdRefused_twinMig_fst (s : State) (cause : Nat) : (s.sdRefused cause).twinMig.1 = s.twinMig.1 := by
  simp +decide [State.sdRefused]

@[simp] theorem State.sdReq_twinMig_fst (s : State) (force : Bool) : (s.sdReq force).twinMig.1 = s.twinMig.1 := by
  unfold State.sdReq
  split <;> simp

@[simp] theorem State.sdConfirm_twinMig_fst (s : State) : (s.sdConfirm).twinMig.1 = s.twinMig.1 := by simp +decide [State.sdConfirm]

@[simp] theorem State.sdReenter_twinMig_fst (s : State) : (s.sdReenter).twinMig.1 = s.twinMig.1 := by simp +decide [State.sdReenter]

@[simp] theorem State.sdCancel_twinMig_fst (s : State) : (s.sdCancel).twinMig.1 = s.twinMig.1 := by simp +decide [State.sdCancel]

@[simp] theorem State.sdReplace_twinMig_fst (s : State) : (s.sdReplace).twinMig.1 = s.twinMig.1 := by simp +decide [State.sdReplace]

@[simp] theorem State.twinClear_twinMig_fst (s : State) : (s.twinClear).twinMig.1 = s.twinMig.1 := by simp +decide [State.twinClear]

end Sys2Proof.Machine

end

section
/-!
SUPPORT. What leaves MIR_PEER_CRC (R315) as it is, to its end: the supplies, resets, rehearsals, the effects of writes, and the commit of a scene
(R266 to R268), so that of a cue that is disarmed (R280).
-/

-- Proofs are elaborated one at a time: side by side their threads reserve more memory than a check has.
set_option Elab.async false

namespace Sys2Proof.Machine

/-! ### Machine/Supply.lean -/

@[simp] theorem State.modSupply_twinMig_fst (s : State) (f : SupplySt → SupplySt) : (s.modSupply f).twinMig.1 = s.twinMig.1 := by
  simp +decide [State.modSupply]

@[simp] theorem State.switchTo_twinMig_fst (s : State) (b : Bool) : (s.switchTo b).twinMig.1 = s.twinMig.1 := by simp +decide [State.switchTo]

@[simp] theorem State.inputGone_twinMig_fst (s : State) (b : Bool) : (s.inputGone b).twinMig.1 = s.twinMig.1 := by simp +decide [State.inputGone]

@[simp] theorem State.forceChange_twinMig_fst (s : State) (old : Bool) : (s.forceChange old).twinMig.1 = s.twinMig.1 := by
  simp +decide [State.forceChange]

@[simp] theorem State.testStart_twinMig_fst (s : State) : (s.testStart).twinMig.1 = s.twinMig.1 := by simp +decide [State.testStart]

/-! ### Machine/BlockReset.lean -/

@[simp] theorem State.buildMap_twinMig_fst (s : State) (p : Path) : (s.buildMap p).twinMig.1 = s.twinMig.1 := by simp +decide [State.buildMap]

@[simp] theorem State.restart1_twinMig_fst (s : State) {p : Page} {off : Nat} (hx : ¬ pageAddr p off = pageAddr .twin 0x08C) :
    (s.restart1 p off).twinMig.1 = s.twinMig.1 := by
  simp [State.restart1, hx]

@[simp] theorem State.laneReset_twinMig_fst (s : State) (p : Path) : (s.laneReset p).twinMig.1 = s.twinMig.1 := by simp +decide [State.laneReset]

@[simp] theorem State.twinLapse_twinMig_fst (s : State) (p : Path) : (s.twinLapse p).twinMig.1 = s.twinMig.1 := by simp +decide [State.twinLapse]

@[simp] theorem State.pathHw_twinMig_fst (s : State) (p : Path) : (s.pathHw p).twinMig.1 = s.twinMig.1 := by simp +decide [State.pathHw]

@[simp] theorem State.pllReset_twinMig_fst (s : State) (g : Grp) : (s.pllReset g).twinMig.1 = s.twinMig.1 := by simp +decide [State.pllReset]

@[simp] theorem State.grpHw_twinMig_fst (s : State) (g : Grp) : (s.grpHw g).twinMig.1 = s.twinMig.1 := by simp +decide [State.grpHw]

/-! ### Machine/ViewBlock.lean -/

@[simp] theorem State.drawFlds_twinMig_fst (s : State) (w : Word) (l : List (Fld × Nat × Nat)) : (s.drawFlds w l).1.twinMig.1 = s.twinMig.1 := by
  induction l generalizing s w with
  | nil => rfl
  | cons x l ih => exact ih _ _

@[simp] theorem State.viewBlock_twinMig_fst (s : State) (p : Page) (off : Nat) : (s.viewBlock p off).1.twinMig.1 = s.twinMig.1 := by
  simp +decide [State.viewBlock]

@[simp] theorem State.savePage_twinMig_fst (s : State) (p : Page) : (s.savePage p).1.twinMig.1 = s.twinMig.1 := by
  unfold State.savePage
  exact twinMig_fst_foldl_fst (fun r off => by simp) _ _

/-! ### Machine/Rehearsal.lean -/

theorem scopeTests_lt {scope : Nat} {u : Option Grp} {t : Nat} (h : t ∈ scopeTests scope u) : t < 16 := by
  unfold scopeTests at h
  split at h
  · simp at h; omega
  · split at h <;> simp at h <;> omega

theorem State.rehNext_lt {s : State} {u : Option Grp} {t : Nat} (h : s.rehNext u = some t) : t < 16 :=
  scopeTests_lt (List.mem_of_find?_eq_some h)

@[simp] theorem State.rehRecord_twinMig_fst (s : State) (u : Option Grp) {t : Nat} (res cov dur n : Nat) (coinc : Bool) (ht : t < 16) :
    (s.rehRecord u t res cov dur n coinc).twinMig.1 = s.twinMig.1 := by
  have hregs : ∀ x ∈ [RehR.REH_RES_RESULT t, RehR.REH_RES_COV t, RehR.REH_RES_DUR t, RehR.REH_RES_COINC t, RehR.REH_RES_VOID t],
      Quiet (pageAddr .reh x.off) := by
    simp only [RehR.REH_RES_RESULT, RehR.REH_RES_COV, RehR.REH_RES_DUR, RehR.REH_RES_COINC, RehR.REH_RES_VOID, List.forall_mem_cons,
      List.not_mem_nil, false_implies, implies_true, and_true, and_self]
    simp [show 0x060 + 4 * t < 4096 by omega]
  simp only [List.forall_mem_cons, List.not_mem_nil, false_implies, implies_true, and_true] at hregs
  obtain ⟨hres, hcov, hdur, hcoinc, hvoid⟩ := hregs
  unfold State.rehRecord
  dsimp only
  split <;> simp [hres, hcov, hdur, hcoinc, hvoid]

@[simp] theorem State.sessDrop_twinMig_fst (s : State) (f : SessSt → Bool) : (s.sessDrop f).twinMig.1 = s.twinMig.1 := by
  unfold State.sessDrop
  dsimp only
  exact (twinMig_fst_foldl (fun _ _ => by rfl) _ _).trans (s.modSec_twinMig_fst _)

@[simp] theorem State.secretsGate_twinMig_fst (s : State) : s.secretsGate.twinMig.1 = s.twinMig.1 := by simp +decide [State.secretsGate]

@[simp] theorem State.rehAdvance_twinMig_fst (s : State) : (s.rehAdvance).twinMig.1 = s.twinMig.1 := by
  unfold State.rehAdvance
  have hskip (u : Option Grp) (s : State) (t : Nat) (ht : s.rehNext u = some t) :
      (if s.rehSkips t then s.rehRecord u t 5 0 0 0 false else s).twinMig.1 = s.twinMig.1 := by
    split <;> simp [State.rehNext_lt ht]
  have hgate (c : Prop) [Decidable c] (b : Bool) (u : State) :
      (if c then (if b then u else u.secretsGate) else u).twinMig.1 = u.twinMig.1 := by (repeat' split) <;> simp
  dsimp only
  split
  rw [State.setF_twinMig_fst _ _ (by simp +decide)]
  all_goals
    rw [State.modReh_twinMig_fst, hgate]
    refine twinMig_fst_forAll (fun u s => twinMig_fst_foldl (fun s _ => ?_) _ _) _ _
    split
    · exact hskip u s _ ‹_›
    · rfl

@[simp] theorem State.rstRange_reh_twinMig_fst (s : State) (lo : Nat) :
    (s.rstRange .reh lo 0x09C).twinMig.1 = s.twinMig.1 := s.rstRange_twinMig_fst (.inr (by decide))


@[simp] theorem State.rehHeader_twinMig_fst (s : State) (scope target : Nat) : (s.rehHeader scope target).twinMig.1 = s.twinMig.1 := by
  simp +decide [State.rehHeader]

@[simp] theorem State.rehIsolate_twinMig_fst (s : State) : (s.rehIsolate).twinMig.1 = s.twinMig.1 := by
  unfold State.rehIsolate
  dsimp only
  have hsaved : (s.rehPages.foldl (fun r p => ((r.1.savePage p).1, r.2 ++ (r.1.savePage p).2)) (s, [])).1.twinMig.1 = s.twinMig.1 :=
    twinMig_fst_foldl_fst (fun r p => by simp) _ _
  simp [hsaved]

@[simp] theorem State.curtainStops_twinMig_fst (s : State) : (s.curtainStops).twinMig.1 = s.twinMig.1 := by
  unfold State.curtainStops
  have hopen (b : Bool) (u : State) : (if b then u.setF .cue CueR.OPEN_STAT_RESULT 2 else u).twinMig.1 = u.twinMig.1 := by
    split <;> simp +decide
  dsimp only
  rw [twinMig_fst_forAll fun e s => s.engStopNow_twinMig_fst e, twinMig_fst_forAll fun g s => ?_,
    twinMig_fst_forAll fun k s => s.portDisable_twinMig_fst k,
    State.locksFreed_twinMig]
  · refine (hopen _ _).trans (twinMig_fst_foldl (fun s x => ?_) _ _)
    (repeat' split) <;> simp
  · simp

@[simp] theorem State.rehPower_twinMig_fst (s : State) (g : Grp) : (s.rehPower g).twinMig.1 = s.twinMig.1 := by simp +decide [State.rehPower]

@[simp] theorem State.rehAdmit_twinMig_fst (s : State) (scope target : Nat) : (s.rehAdmit scope target).twinMig.1 = s.twinMig.1 := by
  simp +decide [State.rehAdmit]

@[simp] theorem State.rehBegin_twinMig_fst (s : State) : (s.rehBegin).twinMig.1 = s.twinMig.1 := by simp +decide [State.rehBegin]

@[simp] theorem State.rehGoOn_twinMig_fst (s : State) : (s.rehGoOn).twinMig.1 = s.twinMig.1 := by simp +decide [State.rehGoOn]

@[simp] theorem State.rehStart_twinMig_fst (s : State) (scope target : Nat) (force : Bool) :
    (s.rehStart scope target force).twinMig.1 = s.twinMig.1 := by
  unfold State.rehStart
  split <;> simp +decide

@[simp] theorem State.rehRestore_twinMig_fst (s : State) {p : Page} (hp : pageNum p ≠ 9) : (s.rehRestore p).twinMig.1 = s.twinMig.1 := by
  unfold State.rehRestore
  dsimp only
  refine twinMig_fst_foldl_mem _ (fun a ha s => s.wr_twinMig_fst _ fun e => ?_) _
  simp only [List.mem_dedup, List.mem_filter, Bool.and_eq_true, beq_iff_eq] at ha
  subst e
  exact hp ha.2.1.symm

@[simp] theorem State.rehReturn_twinMig_fst (s : State) : (s.rehReturn).twinMig.1 = s.twinMig.1 := by
  unfold State.rehReturn
  dsimp only
  have hpage : ∀ g, ∀ p ∈ grpPages g, pageNum p ≠ 9 := by
    intro g p hp
    obtain rfl | ⟨q, -, rfl⟩ : p = gp g ∨ ∃ q ∈ grpPaths g, pp q = p := by simpa [grpPages] using hp
    all_goals simp only [pageNum]; omega
  have hrestore (g : Grp) (s : State) : (forAll (grpPages g) (fun p s => s.rehRestore p) s).twinMig.1 = s.twinMig.1 :=
    twinMig_fst_foldl_mem _ (fun p hp s => s.rehRestore_twinMig_fst (hpage g p hp)) s
  simp [hrestore]

@[simp] theorem State.rehGrpRegs_twinMig_fst (s : State) : (s.rehGrpRegs).twinMig.1 = s.twinMig.1 := by simp +decide [State.rehGrpRegs]

@[simp] theorem State.rehClose_twinMig_fst (s : State) (cause : Nat) : (s.rehClose cause).twinMig.1 = s.twinMig.1 := by
  simp +decide [State.rehClose]

@[simp] theorem State.rehCutUnit_twinMig_fst (s : State) (u : Option Grp) : (s.rehCutUnit u).twinMig.1 = s.twinMig.1 := by
  unfold State.rehCutUnit
  dsimp only
  refine twinMig_fst_foldl_mem _ (fun t ht s => ?_) _
  have hlt := scopeTests_lt ht
  (repeat' split) <;> simp [hlt]

@[simp] theorem State.rehStop_twinMig_fst (s : State) (cause : Nat) : (s.rehStop cause).twinMig.1 = s.twinMig.1 := by
  simp +decide [State.rehStop]

@[simp] theorem State.rehCut_twinMig_fst (s : State) (cause : Nat) : (s.rehCut cause).twinMig.1 = s.twinMig.1 := by simp +decide [State.rehCut]

@[simp] theorem State.fuseNext_twinMig_fst (s : State) (k : Nat) : (s.fuseNext k).twinMig.1 = s.twinMig.1 := by simp +decide [State.fuseNext]

@[simp] theorem State.rehFuse_twinMig_fst (s : State) : (s.rehFuse).twinMig.1 = s.twinMig.1 := by simp +decide [State.rehFuse]

/-! ### Machine/Calib.lean -/

@[simp] theorem State.otAction_twinMig_fst (s : State) (i : Nat) : (s.otAction i).twinMig.1 = s.twinMig.1 := by simp +decide [State.otAction]

@[simp] theorem State.thermBit_twinMig_fst (s : State) {x : Fld} (i : Nat) (b : Bool) (hx : x.off < 4096) :
    (s.thermBit x i b).twinMig.1 = s.twinMig.1 := by
  simp [State.thermBit, hx]

@[simp] theorem State.maxClr_twinMig_fst (s : State) : (s.maxClr).twinMig.1 = s.twinMig.1 := by
  unfold State.maxClr
  refine twinMig_fst_foldl_mem _ (fun i hi s => s.setF_twinMig_fst _ ?_) _
  have : (ThermR.THERM_T_MAX i).off < 4096 := by
    have := List.mem_range.1 hi
    simp only [ThermR.THERM_T_MAX]
    omega
  simp [this]

/-! ### Machine/Controller.lean -/

@[simp] theorem State.modTwc_twinMig_fst (s : State) (f : TwcSt → TwcSt) : (s.modTwc f).twinMig.1 = s.twinMig.1 := by simp +decide [State.modTwc]

@[simp] theorem State.twcResult_twinMig_fst (s : State) (res : Nat) : (s.twcResult res).twinMig.1 = s.twinMig.1 := by
  unfold State.twcResult
  dsimp only
  (repeat' split) <;> simp +decide

@[simp] theorem State.twcStuck_twinMig_fst (s : State) : (s.twcStuck).twinMig.1 = s.twinMig.1 := by simp +decide [State.twcStuck]

@[simp] theorem State.twcClear_twinMig_fst (s : State) : (s.twcClear).twinMig.1 = s.twinMig.1 := by simp +decide [State.twcClear]

@[simp] theorem State.twcGo_twinMig_fst (s : State) : (s.twcGo).twinMig.1 = s.twinMig.1 := by
  unfold State.twcGo
  dsimp only
  (repeat' split) <;> simp +decide

@[simp] theorem State.twcAbort_twinMig_fst (s : State) : (s.twcAbort).twinMig.1 = s.twinMig.1 := by simp +decide [State.twcAbort]

@[simp] theorem State.twcEn_twinMig_fst (s : State) (old : Bool) : (s.twcEn old).twinMig.1 = s.twinMig.1 := by simp +decide [State.twcEn]

/-! ### Machine/Inject.lean -/

@[simp] theorem State.guardedTaken_twinMig_fst (s : State) : (s.guardedTaken).twinMig.1 = s.twinMig.1 := by simp +decide [State.guardedTaken]

@[simp] theorem State.injA_twinMig_fst (s : State) : (s.injA).twinMig.1 = s.twinMig.1 := by simp +decide [State.injA]

@[simp] theorem State.injB_twinMig_fst (s : State) : (s.injB).twinMig.1 = s.twinMig.1 := by simp +decide [State.injB]

@[simp] theorem State.injHup_twinMig_fst (s : State) : (s.injHup).twinMig.1 = s.twinMig.1 := by simp +decide [State.injHup]

@[simp] theorem State.injOt_twinMig_fst (s : State) : (s.injOt).twinMig.1 = s.twinMig.1 := by simp +decide [State.injOt]

@[simp] theorem State.injGuarded_twinMig_fst (s : State) (p : Page) (bit : Nat) : (s.injGuarded p bit).twinMig.1 = s.twinMig.1 := by
  unfold State.injGuarded
  (repeat' split) <;> simp

@[simp] theorem State.injBit_twinMig_fst (s : State) (p : Page) (bit : Nat) : (s.injBit p bit).twinMig.1 = s.twinMig.1 := by
  simp +decide [State.injBit]

@[simp] theorem State.evtInject_twinMig_fst (s : State) (p : Page) (w : Word) : (s.evtInject p w).twinMig.1 = s.twinMig.1 := by
  simp +decide [State.evtInject]

@[simp] theorem State.violInject_twinMig_fst (s : State) (p : Page) (w : Word) : (s.violInject p w).twinMig.1 = s.twinMig.1 := by
  simp +decide [State.violInject]

/-! ### Machine/Resets.lean -/

@[simp] theorem State.toDevice_twinMig_fst (s : State) (d : Device) : (s.toDevice d).twinMig.1 = s.twinMig.1 := by
  exact congrArg Prod.fst (State.withEvt_twinMig s fun _ => rfl)

@[simp] theorem State.flashHostDrop_twinMig_fst (s : State) : (s.flashHostDrop).twinMig.1 = s.twinMig.1 := by simp +decide [State.flashHostDrop]

@[simp] theorem State.twinStop_twinMig_fst (s : State) : (s.twinStop).twinMig.1 = s.twinMig.1 := by simp +decide [State.twinStop]

@[simp] theorem State.scenesDark_twinMig_fst (s : State) : (s.scenesDark).twinMig.1 = s.twinMig.1 := by
  unfold State.scenesDark
  exact (State.rstRange_twinMig_fst _ (.inr (by decide))).trans s.scenesClear_twinMig_fst

@[simp] theorem State.darkGroup_twinMig_fst (s : State) (g : Grp) : (s.darkGroup g).twinMig.1 = s.twinMig.1 := by simp +decide [State.darkGroup]

@[simp] theorem State.darkEnter_twinMig_fst (s : State) : (s.darkEnter).twinMig.1 = s.twinMig.1 := by simp +decide [State.darkEnter]

@[simp] theorem State.darkAsk_twinMig_fst (s : State) : (s.darkAsk).twinMig.1 = s.twinMig.1 := by simp +decide [State.darkAsk]

/-! ### Machine/Actions.lean -/

@[simp] theorem State.regStore_twinMig_fst (s : State) {p : Page} {off : Nat} {o : WrOut}
    (ho : pageAddr p off = pageAddr .twin 0x08C → o.word = s.twinMig.1) :
      (s.regStore p off o).twinMig.1 = s.twinMig.1 := by
  have hput : (s.wr (pageAddr p off) o.word).twinMig.1 = s.twinMig.1 := by
    by_cases ha : pageAddr p off = pageAddr .twin 0x08C
    · rw [← ho ha, ha]
      exact tabGet_tabSet_self _ _ _ _
    · exact s.wr_twinMig_fst _ ha
  unfold State.regStore
  simp [State.withEvt, hput]

@[simp] theorem State.effPageCtl_twinMig_fst (s : State) (p : Page) (old : Word) : (s.effPageCtl p old).twinMig.1 = s.twinMig.1 := by
  unfold State.effPageCtl
  dsimp only
  (repeat' split) <;> simp

@[simp] theorem State.effSupply_twinMig_fst (s : State) (off : Nat) (old act : Word) : (s.effSupply off old act).twinMig.1 = s.twinMig.1 := by
  simp +decide [State.effSupply]

@[simp] theorem State.effPstate_twinMig_fst (s : State) (off : Nat) (act wrote : Word) :
    (s.effPstate off act wrote).twinMig.1 = s.twinMig.1 := by
  simp +decide [State.effPstate]

@[simp] theorem State.effReh_twinMig_fst (s : State) (off : Nat) (wrote : Word) : (s.effReh off wrote).twinMig.1 = s.twinMig.1 := by
  unfold State.effReh
  (repeat' split) <;> simp

@[simp] theorem State.effTherm_twinMig_fst (s : State) (off : Nat) (act : Word) : (s.effTherm off act).twinMig.1 = s.twinMig.1 := by
  simp +decide [State.effTherm]

@[simp] theorem State.effTime_twinMig_fst (s : State) (off : Nat) (old act wrote : Word) :
    (s.effTime off old act wrote).twinMig.1 = s.twinMig.1 := by
  simp +decide [State.effTime]

@[simp] theorem State.effTwin_twinMig_fst (s : State) (off : Nat) (old act : Word) : (s.effTwin off old act).twinMig.1 = s.twinMig.1 := by
  simp +decide [State.effTwin]

@[simp] theorem State.effFrame_twinMig_fst (s : State) (off : Nat) (old wrote : Word) : (s.effFrame off old wrote).twinMig.1 = s.twinMig.1 := by
  simp +decide [State.effFrame]

@[simp] theorem State.effTwc_twinMig_fst (s : State) (off : Nat) (old wrote : Word) : (s.effTwc off old wrote).twinMig.1 = s.twinMig.1 := by
  unfold State.effTwc
  (repeat' split) <;> simp

@[simp] theorem State.spiFlush_twinMig_fst (s : State) : (s.spiFlush).twinMig.1 = s.twinMig.1 := by simp +decide [State.spiFlush]

@[simp] theorem State.effSpi_twinMig_fst (s : State) (off : Nat) (act : Word) : (s.effSpi off act).twinMig.1 = s.twinMig.1 := by
  simp +decide [State.effSpi]

@[simp] theorem State.effGroup_twinMig_fst (s : State) (g : Grp) (off : Nat) (act wrote : Word) :
    (s.effGroup g off act wrote).twinMig.1 = s.twinMig.1 := by
  simp +decide [State.effGroup]

@[simp] theorem State.effStage_twinMig_fst (s : State) (e : Eng) (off : Nat) (act : Word) : (s.effStage e off act).twinMig.1 = s.twinMig.1 := by
  unfold State.effStage
  (repeat' split) <;> simp

@[simp] theorem State.drawPrbs_twinMig_fst (s : State) : (s.drawPrbs).1.twinMig.1 = s.twinMig.1 := by simp +decide [State.drawPrbs]

@[simp] theorem State.effPath_twinMig_fst (s : State) (p : Path) (off : Nat) (old act : Word) :
    (s.effPath p off old act).twinMig.1 = s.twinMig.1 := by
  simp +decide [State.effPath]

@[simp] theorem State.effHeader_twinMig_fst (s : State) (p : Page) (off : Nat) (old act : Word) :
    (s.effHeader p off old act).twinMig.1 = s.twinMig.1 := by
  simp +decide [State.effHeader]

@[simp] theorem State.effect_twinMig_fst (s : State) (p : Page) (off : Nat) (old act wrote : Word) :
    (s.effect p off old act wrote).twinMig.1 = s.twinMig.1 := by
  unfold State.effect
  (repeat' split) <;> simp

/-! ### Machine/Commit.lean -/

@[simp] theorem State.pllChanged_twinMig_fst (s : State) (g : Grp) (b : Bool) : (s.pllChanged g b).twinMig.1 = s.twinMig.1 := by
  simp +decide [State.pllChanged]

@[simp] theorem State.commitPlls_twinMig_fst (s : State) (v : Nat → Word) (g : Grp) : (s.commitPlls v g).twinMig.1 = s.twinMig.1 := by
  simp +decide [State.commitPlls]

@[simp] theorem State.commitLine_twinMig_fst (s : State) (v : Nat → Word) (p : Path) : (s.commitLine v p).twinMig.1 = s.twinMig.1 := by
  simp +decide [State.commitLine]

@[simp] theorem State.commitPort_twinMig_fst (s : State) (v : Nat → Word) (n : Lane) : (s.commitPort v n).twinMig.1 = s.twinMig.1 := by
  simp +decide [State.commitPort]

@[simp] theorem State.profLeave_twinMig_fst (s : State) (v : Nat → Word) (l : List Nat) : (s.profLeave v l).twinMig.1 = s.twinMig.1 := by
  simp +decide [State.profLeave]

@[simp] theorem State.commitProfile_twinMig_fst (s : State) (n : Lane) : (s.commitProfile n).twinMig.1 = s.twinMig.1 := by
  simp +decide [State.commitProfile]

@[simp] theorem State.commitSets_twinMig_fst (s : State) (v : Nat → Word) (l : List Nat) : (s.commitSets v l).twinMig.1 = s.twinMig.1 := by
  simp +decide [State.commitSets]

/-- No write changes MIR_PEER_CRC. -/
theorem writeOut_mirPeer (v : Nat → Word) (scene : Bool) (data mask : Word) :
    (writeOut v scene .twin 0x08C data mask).word = v (pageAddr .twin 0x08C) := by
  have hrows : rowsAt .twin 0x08C = [{ fld := TwinR.MIR_PEER_CRC_PEER, acc := .ro, rst := 0x0 }] := by decide +kernel
  simp [writeOut, hrows, writeRow]

@[simp] theorem State.commitReg_twinMig_fst (s : State) (p : Page) {off : Nat} (data mask : Word) (hoff : off < 4096) :
    (s.commitReg p off data mask).1.twinMig.1 = s.twinMig.1 := by
  unfold State.commitReg
  split
  · rfl
  split
  · simp
  refine (State.regStore_twinMig_fst _ fun e => ?_).trans (s.pageStored_twinMig_fst _)
  obtain ⟨rfl, rfl⟩ := (pageAddr_inj hoff (by decide)).1 e
  exact (writeOut_mirPeer _ _ _ _).trans (s.pageStored_twinMig_fst _).symm

@[simp] theorem State.commitStore_twinMig_fst (s : State) (x : JobSt) : (s.commitStore x).1.twinMig.1 = s.twinMig.1 := by
  unfold State.commitStore
  refine twinMig_fst_foldl_fst (fun r e => ?_) _ _
  have : e.1 % 4096 < 4096 := Nat.mod_lt _ (by decide)
  dsimp only
  split <;> simp [this]

@[simp] theorem State.applyScene_twinMig_fst (s : State) (x : JobSt) : (s.applyScene x).twinMig.1 = s.twinMig.1 := by
  unfold State.applyScene
  dsimp only
  rw [State.commitSets_twinMig_fst]
  refine (twinMig_fst_forAll (fun e s => ?_) _ _).trans ?_
  · split <;> simp
  · exact (twinMig_fst_foldl (fun s e => s.effect_twinMig_fst _ _ _ _ _) _ _).trans
      ((State.commitStore_twinMig_fst _ _).trans (s.profLeave_twinMig_fst _ _))

@[simp] theorem State.commitDone_twinMig_fst (s : State) (x : JobSt) : (s.commitDone x).twinMig.1 = s.twinMig.1 := by
  simp +decide [State.commitDone]

@[simp] theorem State.cueFires_twinMig_fst (s : State) (x : JobSt) (c : BitVec 12) : (s.cueFires x c).twinMig.1 = s.twinMig.1 := by
  simp +decide [State.cueFires]

@[simp] theorem State.cueAfter_twinMig_fst (s : State) (x : JobSt) (c : BitVec 12) (last : Bool) :
    (s.cueAfter x c last).twinMig.1 = s.twinMig.1 := by
  simp +decide [State.cueAfter]

@[simp] theorem State.cueNotified_twinMig_fst (s : State) (c : BitVec 12) (on : Bool) : (s.cueNotified c on).twinMig.1 = s.twinMig.1 := by
  simp +decide [State.cueNotified]

@[simp] theorem State.commitJob_twinMig_fst (s : State) (x : JobSt) (last : Bool) : (s.commitJob x last).twinMig.1 = s.twinMig.1 := by
  unfold State.commitJob
  dsimp only
  (repeat' split) <;> simp

@[simp] theorem State.cueDisarmNow_twinMig_fst (s : State) (c : BitVec 12) : (s.cueDisarmNow c).twinMig.1 = s.twinMig.1 := by
  unfold State.cueDisarmNow
  (repeat' split) <;> simp

end Sys2Proof.Machine

end

section
/-!
SUPPORT. The twin's link and heartbeat (R309 to R312), its roles and its pairing (R319, R320, R330).
-/

-- Proofs are elaborated one at a time: side by side their threads reserve more memory than a check has.
set_option Elab.async false

namespace Sys2Proof.Machine

variable {s t u : State}

/-! ### Fields of the TWIN page -/

/-- An event leaves the fields of the TWIN page after its header. -/
theorem State.f_raise_twin (s : State) (p : Page) (bit : Nat) {x : Fld} (hx : houseReg .twin x.off = true) :
    (s.raise p bit).f .twin x = s.f .twin x := ((State.KeepsHouse.refl s).raise p bit).f hx

/-! ### Link and heartbeat (R309 to R312) -/

theorem State.linkUp_twinUp (hen : s.on .twin TwinR.TWIN_CFG_EN = true) (hdev : s.device = .ready) : s.twinUp.linkUp = true := by
  rw [State.twinUp, if_pos (by simp [hen, hdev]), State.linkUp, State.on_setF_apart _ _ _ _ (by decide), State.on,
    State.f_setF_self _ _ _ _ (by decide) (by decide)]
  rfl

theorem State.linkUp_twinDown (lanes : BitVec 4) (message : Bool) (hup : s.linkUp = true) : (s.twinDown lanes message).linkUp = false := by
  rw [State.twinDown, if_neg (by simp [hup])]
  dsimp only
  generalize (if message then _ else s : State) = u
  rw [State.linkUp, State.on, State.f_raise_twin _ _ _ rfl, (State.twSettle_touches _ (P := {}) (es := [])).1.f (by decide) (by decide),
    State.f_inc_apart _ _ _ (by decide), State.f_setF_apart _ _ _ _ (by decide), State.f_setF_apart _ _ _ _ (by decide),
    State.f_setF_self _ _ _ _ (by decide) (by decide)]
  rfl

theorem State.twinSend_hello (hup : s.linkUp = true) : (s.twinSend 0).twin.sent = some (.hello s.ownHello) := by
  rw [State.twinSend, if_neg (by simp [hup])]
  rfl

theorem State.hbOk_hbLost (h : s.hbOk = true) : s.hbLost.hbOk = false := by
  rw [State.hbLost, if_neg (by simp [h]), State.hbOk, State.on, State.f_raise_twin _ _ _ rfl,
    (State.twSettle_touches _ (P := {}) (es := [])).1.f (by decide) (by decide), State.f_inc_apart _ _ _ (by decide),
    State.f_setF_self _ _ _ _ (by decide) (by decide)]
  rfl

theorem State.hbOk_hbPresent (hen : s.on .twin TwinR.TWIN_CFG_EN = true) (h : s.hbOk = false) : s.hbPresent.hbOk = true := by
  rw [State.hbPresent, if_pos (by simp [hen, h]), State.hbOk, State.on,
    (State.twSettle_touches _ (P := {}) (es := [])).1.f (by decide) (by decide), State.f_setF_self _ _ _ _ (by decide) (by decide)]
  rfl

/-! ### Roles (R319, R320) -/

theorem State.holdoverEnd_keepsHouse (s : State) : s.KeepsHouse s.holdoverEnd :=
  .ite ((((State.KeepsHouse.refl s).setF _ _ rfl).setF _ _ rfl).raise _ _) (.refl s)

theorem State.setSrc_keepsHouse (s : State) (v : Nat) : s.KeepsHouse (s.setSrc v) :=
  have h := (State.KeepsHouse.refl s).setF .time (x := TimeR.TIME_CTL_SRC) v rfl
  .ite (.refl s) (.ite (h.trans (State.holdoverEnd_keepsHouse _)) h)

theorem apart_ttStat {x : Fld} (hx : houseReg .twin x.off = true) (h : x.off ≠ 0x07C) (y : Fld) (hy : y.off = 0x07C) : apart y x = true := by
  have := (houseReg_page hx).1
  simp [apart, hy, this, Ne.symm h]

theorem State.f_enterFollow (s : State) {x : Fld} (hx : houseReg .twin x.off = true) (h : x.off ≠ 0x07C) :
    s.enterFollow.f .twin x = s.f .twin x := by
  have hset : ((s.setF .time TimeR.TIME_STAT_ARMED 1).setF .twin TwinR.TT_STAT_STEPPED 0).f .twin x = s.f .twin x := by
    rw [State.f_setF_apart _ _ _ _ (apart_ttStat hx h _ rfl), ((State.KeepsHouse.refl s).setF .time 1 rfl).f hx]
  unfold State.enterFollow
  dsimp only
  split
  · exact ((State.setSrc_keepsHouse _ 2).f hx).trans hset
  · exact hset

theorem State.f_leaveFollow (s : State) {x : Fld} (hx : houseReg .twin x.off = true) (h : x.off ≠ 0x07C) :
    s.leaveFollow.f .twin x = s.f .twin x := by
  rw [State.leaveFollow, (State.setSrc_keepsHouse _ _).f hx, State.f_setF_apart _ _ _ _ (apart_ttStat hx h _ rfl)]

theorem State.f_setRole_of_ne (s : State) {r : Nat} (hne : s.role ≠ r) {x : Fld} (hx : houseReg .twin x.off = true) (h : x.off ≠ 0x07C) :
    (s.setRole r).f .twin x = ((s.setF .twin TwinR.TWIN_STAT_ROLE r).inc .twin TwinR.TWIN_STAT_ROLE_CHANGES).f .twin x := by
  refine Eq.trans ?_ (State.f_raise_twin _ .twin 0 hx)
  rw [State.setRole]
  dsimp only
  rw [if_neg hne]
  split
  · exact State.f_enterFollow _ hx h
  · split
    · exact State.f_leaveFollow _ hx h
    · rfl

theorem State.f_setRole (s : State) (r : Nat) {x : Fld} (hx : houseReg .twin x.off = true) (h : x.off ≠ 0x07C)
    (hrole : apart TwinR.TWIN_STAT_ROLE x = true) (hchanges : apart TwinR.TWIN_STAT_ROLE_CHANGES x = true) :
    (s.setRole r).f .twin x = s.f .twin x := by
  by_cases hne : s.role = r
  · rw [State.setRole]
    exact congrArg (fun u : State => u.f .twin x) (if_pos hne)
  · rw [s.f_setRole_of_ne hne hx h, State.f_inc_apart _ _ _ hchanges, State.f_setF_apart _ _ _ _ hrole]

theorem State.role_setRole (s : State) {r : Nat} (hr : r < 4) (hne : s.role ≠ r) : (s.setRole r).role = r := by
  rw [State.role, s.f_setRole_of_ne hne rfl (by decide), State.f_inc_apart _ _ _ (by decide), State.f_setF_self _ _ _ _ (by decide) (by decide)]
  exact Nat.mod_eq_of_lt hr

/-- The follow of a twin that has gone becomes lead. -/
theorem State.role_promote (h : s.tw = twAlone) (hfollow : s.follow = true) (hlink : s.linkUp = false) (hhb : s.hbOk = false) :
    s.promote.role = 1 := by
  have hrole : s.role = 2 := by simpa [State.follow] using hfollow
  rw [State.promote, if_pos (by simp [h, hfollow, hlink, hhb])]
  exact s.role_setRole (by decide) (by omega)

/-! ### Pairing (R319, R330) -/

theorem State.f_setSd (s : State) (v : Nat) {x : Fld} (hx : apart TwinR.SD_STAT_SD_STATE x = true) : (s.setSd v).f .twin x = s.f .twin x := by
  have h : (s.setF .twin TwinR.SD_STAT_SD_STATE v).f .twin x = s.f .twin x := s.f_setF_apart _ _ _ hx
  unfold State.setSd
  dsimp only
  split <;> exact h

theorem State.sdState_setSd (s : State) {v : Nat} (hv : v < 4) : (s.setSd v).sdState = v := by
  have h : (s.setF .twin TwinR.SD_STAT_SD_STATE v).sdState = v := by
    rw [State.sdState, State.f_setF_self _ _ _ _ (by decide) (by decide)]
    exact Nat.mod_eq_of_lt hv
  unfold State.setSd
  dsimp only
  split <;> exact h

theorem State.tw_enterPaired (s : State) (h : TwinHello) (before : Nat) : (s.enterPaired h before).tw = twPaired := by
  have hpaired (f : TwinSt → TwinSt) :
      ((((s.setF .twin TwinR.TWIN_STAT_STATE twPaired).setRole (s.roleFrom h)).raise .twin 1).modTwin f).tw = twPaired := by
    show (((s.setF .twin TwinR.TWIN_STAT_STATE twPaired).setRole (s.roleFrom h)).raise .twin 1).f .twin TwinR.TWIN_STAT_STATE = _
    rw [State.f_raise_twin _ _ _ rfl, State.f_setRole _ _ rfl (by decide) (by decide) (by decide),
      State.f_setF_self _ _ _ _ (by decide) (by decide)]
    rfl
  unfold State.enterPaired
  dsimp only
  split
  · split <;> exact (State.f_setSd _ _ (by decide)).trans (hpaired _)
  · unfold State.joinReentry
    split
    · exact (State.f_setSd _ _ (by decide)).trans (hpaired _)
    · exact hpaired _

/-- What a hello says of the twin leaves the rest of TWIN_STAT, and the link. -/
theorem State.f_peerIs (s : State) (h : TwinHello) {x : Fld} (hx : houseReg .twin x.off = true)
    (hall : ∀ y ∈ [TwinR.PEER_SERIAL_HI_SERIAL, TwinR.PEER_SERIAL_LO_SERIAL, TwinR.TWIN_STAT_PEER_SD, TwinR.TWIN_STAT_PEER_TWIN_ID,
      TwinR.TWIN_STAT_WORK_SAME], apart y x = true) : (s.peerIs h).f .twin x = s.f .twin x := by
  simp only [List.forall_mem_cons, List.not_mem_nil, false_implies, implies_true, and_true] at hall
  obtain ⟨hhi, hlo, hsd, hid, hwork⟩ := hall
  unfold State.peerIs
  dsimp only
  rw [((State.KeepsHouse.refl _).raiseIf _ _ _).f hx, State.setB, State.setB, State.f_setF_apart _ _ _ _ hwork,
    State.f_setF_apart _ _ _ _ hid, State.f_setF_apart _ _ _ _ hsd, State.f_setF_apart _ _ _ _ hlo, State.f_setF_apart _ _ _ _ hhi]

/-- A hello from another twin, with its heartbeat present, pairs. -/
theorem State.tw_twinHello {h : TwinHello} (resends : Nat) (hen : s.on .twin TwinR.TWIN_CFG_EN = true) (hlink : s.linkUp = true)
    (hid : h.id ≠ s.twinId) (hstate : s.tw = twSeeking ∨ s.tw = twLinkDown ∨ s.tw = twAlone) (hhb : s.hbOk = true) :
    (s.twinHello h resends).tw = twPaired := by
  set u := (s.add .twin TwinR.LINK_CNT_RESENDS resends).peerIs h with hu
  have hkept : ∀ x : Fld, houseReg .twin x.off = true → x.off ≠ 0x084 → (∀ y ∈ [TwinR.PEER_SERIAL_HI_SERIAL, TwinR.PEER_SERIAL_LO_SERIAL,
      TwinR.TWIN_STAT_PEER_SD, TwinR.TWIN_STAT_PEER_TWIN_ID, TwinR.TWIN_STAT_WORK_SAME], apart y x = true) →
      u.f .twin x = s.f .twin x := fun x hx hne hall => by
    rw [hu, State.f_peerIs _ _ hx hall]
    exact s.f_setF_ne _ _ _ _ _ fun e => hne ((pageAddr_inj (houseReg_page hx).1 (by decide)).1 e).2
  have htw : u.tw = s.tw := hkept _ rfl (by decide) (by decide)
  have hok : u.hbOk = true := by
    rw [State.hbOk, State.on, hkept TwinR.LINK_STAT_HB_OK rfl (by decide) (by decide)]
    exact hhb
  have hown : u.twinId = s.twinId := by
    rw [State.twinId, State.on, ((State.peerIs_touches _ h (P := {}) (es := [])).1).f (by decide) (by decide)]
    exact congrArg (· != 0) (s.f_setF_apart .twin .house _ (by decide))
  rw [State.twinHello, if_neg (by simp [hen, hlink])]
  dsimp only
  rw [← hu, if_neg (by rw [hown]; exact hid), htw,
    if_neg (by rcases hstate with h | h | h <;> simp [h, twConflict, twSeeking, twLinkDown, twAlone]),
    if_neg (by rcases hstate with h | h | h <;> simp [h, twPaired, twSeeking, twLinkDown, twAlone]), if_pos hok]
  exact u.tw_enterPaired h _

end Sys2Proof.Machine

end

section
/-!
SUPPORT. The mirrored range (R313 to R315), time from the lead (R322, R323), the twin's reports (R316, R317, R324) and the end of
re-entrance (R329).
-/

-- Proofs are elaborated one at a time: side by side their threads reserve more memory than a check has.
set_option Elab.async false

namespace Sys2Proof.Machine

variable {s t u : State}

/-! ### The mirrored range (R313 to R315) -/

theorem State.desc_mirrorDesc (n : BitVec 10) (b : BitVec 15) (l : BitVec 9) (hfollow : s.follow = true) (htw : s.tw = twPaired)
    (hn : n.toNat ≤ 503) :
    tabGet (fun _ => (0, 0)) (s.mirApply (.desc n b l)).scene.desc n.toNat = (b.toNat, l.toNat) := by
  rw [State.mirApply, if_neg (by simp [hfollow, htw])]
  dsimp only
  rw [State.mirDesc, if_pos hn]
  exact tabGet_tabSet_self _ _ _ _

/-- The CRC of the twin is shown; what a difference brings about leaves it so. -/
theorem State.crc_mirCrcIn (w : Word) (htw : s.tw = twPaired) : (s.mirCrcIn w).f .twin TwinR.MIR_PEER_CRC_PEER = w.toNat := by
  have hset : (s.setF .twin TwinR.MIR_PEER_CRC_PEER w.toNat).f .twin TwinR.MIR_PEER_CRC_PEER = w.toNat := by
    rw [State.f_setF_self _ _ _ _ (by decide) (by decide)]
    exact Nat.mod_eq_of_lt w.isLt
  refine (congrArg (fun v : Word => fget v 31 0) ?_).trans hset
  show (s.mirCrcIn w).twinMig.1 = (s.setF .twin TwinR.MIR_PEER_CRC_PEER w.toNat).twinMig.1
  rw [State.mirCrcIn, if_neg (by simp [htw])]
  dsimp only
  split
  · rfl
  split
  · refine (twinMig_fst_foldl (fun u x => ?_) _ _).trans (by simp +decide)
    (repeat' split) <;> simp
  · simp +decide

theorem State.syncing_syncDone {r : MirRange} (hsync : s.on .twin TwinR.TWIN_STAT_SYNCING = true) :
    (s.syncDone r).on .twin TwinR.TWIN_STAT_SYNCING = false := by
  rw [State.syncDone, if_neg (by simp [hsync])]
  dsimp only
  generalize (if s.follow then _ else s : State) = u
  rw [State.on, State.f_raise_twin _ _ _ rfl, State.incW, State.f_setF_apart _ _ _ _ (by decide), State.f_setF_self _ _ _ _ (by decide) (by decide)]
  rfl

/-! ### Time from the lead (R322, R323) -/

theorem enc_lt (n : Nat) (i : Int) : enc n i < 2 ^ n := by
  have h := Int.emod_lt_of_pos i (show (0 : Int) < 2 ^ n by positivity)
  have h0 := Int.emod_nonneg i (show (2 : Int) ^ n ≠ 0 by positivity)
  unfold enc
  zify
  rwa [Int.toNat_of_nonneg h0]

theorem State.ofs_timeExchange (d21 d43 : BitVec 64) (hfollow : s.follow = true) (htw : s.tw = twPaired)
    (hen : s.on .twin TwinR.TWIN_CFG_TIME_EN = true) :
    (s.timeExchange d21 d43).f .twin TwinR.TT_OFS_OFS =
      enc 32 (clampInt 0x7FFFFFFF (roundDiv (d21.toInt - d43.toInt + s.sf .twin TwinR.TT_ASYM_ASYM) 2)) := by
  generalize hofs : enc 32 (clampInt 0x7FFFFFFF (roundDiv (d21.toInt - d43.toInt + s.sf .twin TwinR.TT_ASYM_ASYM) 2)) = v
  have hset : (s.setF .twin TwinR.TT_OFS_OFS v).f .twin TwinR.TT_OFS_OFS = v := by
    rw [State.f_setF_self _ _ _ _ (by decide) (by decide)]
    exact Nat.mod_eq_of_lt (hofs ▸ enc_lt 32 _)
  refine (congrArg (fun v : Word => fget v 31 0) ?_).trans hset
  show (s.timeExchange d21 d43).twinMig.2.1 = (s.setF .twin TwinR.TT_OFS_OFS v).twinMig.2.1
  rw [State.timeExchange, if_neg (by simp [hfollow, htw, hen])]
  dsimp only
  rw [hofs]
  split <;> simp +decide

theorem State.locked_transferLost (hfollow : s.follow = true) (hsrc : s.f .time TimeR.TIME_CTL_SRC = 2)
    (hhold : s.on .time TimeR.TIME_STAT_HOLDOVER = false) : s.transferLost.on .twin TwinR.TT_STAT_LOCKED = false := by
  rw [State.transferLost, if_pos (by simp [hsrc, hhold]), if_pos hfollow, State.on, State.f_raise_twin _ _ _ rfl]
  have hbegin (u : State) : u.holdoverBegin.f .twin TwinR.TT_STAT_LOCKED = u.f .twin TwinR.TT_STAT_LOCKED := by
    unfold State.holdoverBegin
    split
    · rfl
    · exact (State.f_raise_twin _ _ _ rfl).trans (u.f_setF_ne .time .twin _ _ _ (by decide))
  rw [hbegin, State.f_setF_self _ _ _ _ (by decide) (by decide)]
  rfl

/-! ### Reports (R316, R317, R324) -/

theorem State.twin_setLpBit (s : State) (off : Nat) (n : Lane) (b : Bool) : (s.setLpBit off n b).twin = s.twin := rfl

theorem State.twin_raiseIf (s : State) (b : Bool) (p : Page) (bit : Nat) : (s.raiseIf b p bit).twin = s.twin := by
  have h := (s.raise_spec p bit).2
  simp only [State.SameRest] at h
  unfold State.raiseIf
  split
  · simp only [h]
  · rfl

theorem State.peerCfg_cfgReport (p : Path) (cfg : TwinCfg) (htw : s.tw = twPaired) : (s.cfgReport p cfg).peerCfg p = some cfg := by
  have hset : (s.modTwin (fun x => { x with cfg := tabSet (fun _ => none) x.cfg p.val (some cfg) })).peerCfg p = some cfg :=
    tabGet_tabSet_self (fun _ => none) s.twin.cfg p.val (some cfg)
  rw [State.cfgReport, if_neg (by simp [htw])]
  dsimp only
  split
  · exact hset
  · rw [State.peerCfg, State.twin_raiseIf, State.twin_setLpBit]
    exact hset

theorem State.coef_coefReport (p : Path) (coef : TwinCoef) (htw : s.tw = twPaired) :
    tabGet (fun _ => none) (s.coefReport p coef).twin.coefs p.val = some ({ coef with ffe := coef.ffe.take 16 }, s.elapsed) := by
  rw [State.coefReport, if_neg (by simp [htw])]
  exact tabGet_tabSet_self (fun _ => none) s.twin.coefs p.val (some ({ coef with ffe := coef.ffe.take 16 }, s.elapsed))

theorem State.f_raiseIf_path (s : State) (b : Bool) (bit : Nat) (p : Path) (x : Fld) :
    (s.raiseIf b .twin bit).f (pp p) x = s.f (pp p) x := by
  unfold State.raiseIf
  split
  · refine (s.raise_spec .twin bit).1.f ?_ (pageAddr_path_not_side p _)
    simp only [List.mem_singleton, pageAddr, pageNum]
    omega
  · rfl

theorem State.f_setLpBit_path (s : State) {off : Nat} (hoff : off < 4096) (n : Lane) (b : Bool) (p : Path) (x : Fld) :
    (s.setLpBit off n b).f (pp p) x = s.f (pp p) x := by
  refine congrArg (fun w : Word => fget w x.hi x.lo) (s.rd_wr_ne _ _ _ fun e => ?_)
  simp only [pageAddr, pageNum] at e
  split at e <;> omega

/-- A window that is judged leaves the registers of the paths. -/
theorem State.f_judgeWindow (s : State) (p : Path) (matched : Bool) (q : Path) (x : Fld) : (s.judgeWindow p matched).f (pp q) x = s.f (pp q) x := by
  unfold State.judgeWindow
  dsimp only
  rw [State.f_raiseIf_path, State.f_setLpBit_path _ (by decide)]
  rfl

theorem State.diff_pinReport (p : Path) (meas held : Word) (st : BitVec 3) (htw : s.tw = twPaired) (hpin : s.verified p = true)
    (hst : st.toNat = pinPinned) :
    (s.pinReport p meas held st).sf (pp p) PathR.PIN_TWIN_DIFF = clampInt 0x7FFF ((s.f (pp p) PathR.PIN_MEAS_MEAS : Int) - (meas.toNat : Int)) := by
  have hdiff (u : State) (i : Int) :
      ((u.setS (pp p) PathR.PIN_TWIN_DIFF (clampInt 0x7FFF i)).setF (pp p) PathR.PIN_TWIN_VALID 1).sf (pp p) PathR.PIN_TWIN_DIFF =
        clampInt 0x7FFF i := by
    rw [State.sf, State.f_setF_apart _ _ _ _ (by decide), ← State.sf]
    exact u.sf_setS_clampInt _ i (by decide) (by decide) (by decide)
  have hvalid : (s.verified p && st.toNat == pinPinned) = true := by simp [hpin, hst]
  rw [State.pinReport, if_neg (by simp [htw])]
  refine (congrArg (fun u : State => u.sf (pp p) PathR.PIN_TWIN_DIFF) (if_pos hvalid)).trans ?_
  rw [State.sf, State.f_judgeWindow, ← State.sf]
  exact hdiff _ _

/-! ### The end of re-entrance (R329) -/

theorem State.sdState_reenterDone (hstate : s.sdState = 3) (hblock : s.reenterBlock = none) : s.reenterDone.sdState = 0 := by
  rw [State.reenterDone, if_pos ⟨hstate, hblock⟩, State.sdState, State.f_raise_twin _ _ _ rfl]
  exact State.sdState_setSd _ (by decide)

theorem State.sdState_reenterTimeout (hstate : s.sdState = 3) : s.reenterTimeout.sdState = 2 := by
  rw [State.reenterTimeout, if_pos hstate, State.sdState, State.f_raise_twin _ _ _ rfl, State.f_setF_apart _ _ _ _ (by decide)]
  exact State.sdState_setSd _ (by decide)

end Sys2Proof.Machine

end

section
/-!
SUPPORT. The commands of SD_CTL that are taken (R326 to R329): REQ, CONFIRM, CANCEL and REENTER.
-/

-- Proofs are elaborated one at a time: side by side their threads reserve more memory than a check has.
set_option Elab.async false

namespace Sys2Proof.Machine

variable {s t u : State}

/-! ### SD_CTL (R326 to R329) -/

/-- The fields of SD_CTL. -/
def sdForceRow : Row := { fld := TwinR.SD_CTL_FORCE, acc := .w1s, rst := 0x0 }
def sdCancelRow : Row := { fld := TwinR.SD_CTL_CANCEL, acc := .w1s, rst := 0x0 }
def sdReplaceRow : Row := { fld := TwinR.SD_CTL_REPLACE, acc := .w1s, rst := 0x0 }
def sdReenterRow : Row := { fld := TwinR.SD_CTL_REENTER, acc := .w1s, rst := 0x0 }
def sdConfirmRow : Row := { fld := TwinR.SD_CTL_CONFIRM, acc := .w1s, rst := 0x0 }
def sdReqRow : Row := { fld := TwinR.SD_CTL_REQ, acc := .w1s, rst := 0x0 }

theorem rowsAt_sdCtl : rowsAt .twin 0x050 = [sdForceRow, sdCancelRow, sdReplaceRow, sdReenterRow, sdConfirmRow, sdReqRow] := by
  decide +kernel

/-- One action of SD_CTL written alone. -/
theorem writeOut_sdAct (v : Nat → Word) {b : Nat} (hb : 1 ≤ b ∧ b ≤ 4) :
    (writeOut v false .twin 0x050 (fset 0 b b 1) (fldMask b b)).act = 1#32 <<< b := by
  obtain ⟨hlo, hhi⟩ := hb
  interval_cases b
  · exact (writeOut_action v (by decide) (by decide) (before := [sdForceRow, sdCancelRow, sdReplaceRow, sdReenterRow]) (after := [sdReqRow])
      (r := sdConfirmRow) rowsAt_sdCtl rfl rfl (by decide)).2
  · exact (writeOut_action v (by decide) (by decide) (before := [sdForceRow, sdCancelRow, sdReplaceRow]) (after := [sdConfirmRow, sdReqRow])
      (r := sdReenterRow) rowsAt_sdCtl rfl rfl (by decide)).2
  · exact (writeOut_action v (by decide) (by decide) (before := [sdForceRow, sdCancelRow]) (after := [sdReenterRow, sdConfirmRow, sdReqRow])
      (r := sdReplaceRow) rowsAt_sdCtl rfl rfl (by decide)).2
  · exact (writeOut_action v (by decide) (by decide) (before := [sdForceRow]) (after := [sdReplaceRow, sdReenterRow, sdConfirmRow, sdReqRow])
      (r := sdCancelRow) rowsAt_sdCtl rfl rfl (by decide)).2

/-- The word that asks for a stand-down. -/
def reqWord (force : Bool) : Word := BitVec.ofNat 32 (1 + 32 * b2n force)

theorem writeOut_standDown (v : Nat → Word) (force : Bool) : (writeOut v false .twin 0x050 (reqWord force) allOnes).act = reqWord force := by
  have hmask : allOnes &&& ~~~ctlUnsupported .twin 0x050 = allOnes := by decide
  have hact : (0 : Word) ||| (reqWord force &&& allOnes &&& fldMask 5 5) ||| (reqWord force &&& allOnes &&& fldMask 4 4) |||
      (reqWord force &&& allOnes &&& fldMask 3 3) ||| (reqWord force &&& allOnes &&& fldMask 2 2) |||
      (reqWord force &&& allOnes &&& fldMask 1 1) ||| (reqWord force &&& allOnes &&& fldMask 0 0) = reqWord force := by
    cases force <;> decide
  simp only [writeOut, rowsAt_sdCtl, List.foldl_cons, List.foldl_nil, hmask]
  rw [writeRow_w1s (r := sdForceRow) rfl (by decide), writeRow_w1s (r := sdCancelRow) rfl (by decide),
    writeRow_w1s (r := sdReplaceRow) rfl (by decide), writeRow_w1s (r := sdReenterRow) rfl (by decide),
    writeRow_w1s (r := sdConfirmRow) rfl (by decide), writeRow_w1s (r := sdReqRow) rfl (by decide)]
  exact hact

theorem State.directEffect_twin (u : State) {off : Nat} (hoff : 0x040 ≤ off) (old act wrote : Word) :
    u.directEffect .twin off old act wrote = u.effTwin off old act := by
  simp [State.directEffect, State.effect, Nat.not_lt.2 hoff]

/-- A write of SD_CTL that is taken acts in a state that has all but the page's violation counters, and ADM_PEAK, as they were. -/
theorem State.offerSdCtl_leads {c : Src} {data mask : Word} (h : s.takes c .twin 0x050 data mask = true) :
    ∃ (v : Nat → Word) (u : State) (old : Word),
      s.offerReg c .twin 0x050 data mask = u.effTwin 0x050 old (writeOut v false .twin 0x050 data mask).act ∧
      s.Touches (storeRegs .twin 0x050) u := by
  obtain ⟨v, u, -, hlead, -, hframe, hsame⟩ := State.offerReg_leads h (by decide) (fun _ => rfl) (by decide)
  rw [State.directEffect_twin _ (by decide)] at hlead
  exact ⟨v, u, _, hlead, hframe, hsame⟩

/-- An action of SD_CTL that is taken. -/
theorem State.offerSdAct_leads {c : Src} {b : Nat} (hb : 1 ≤ b ∧ b ≤ 4) (h : s.takesF c .twin ⟨0x050, b, b⟩ 1 = true) :
    ∃ (u : State) (old : Word), s.offerAct c .twin ⟨0x050, b, b⟩ = u.effTwin 0x050 old (1#32 <<< b) ∧
      s.Touches (storeRegs .twin 0x050) u := by
  obtain ⟨v, u, old, hlead, htouch⟩ := State.offerSdCtl_leads h
  exact ⟨u, old, hlead.trans (by rw [writeOut_sdAct v hb]), htouch⟩

/-- CONFIRM ends a stand-down that is requested. -/
theorem State.offerConfirm {c : Src} (h : s.takesF c .twin TwinR.SD_CTL_CONFIRM 1 = true) (hstate : s.sdState = 1) :
    (s.offerAct c .twin TwinR.SD_CTL_CONFIRM).sdState = 2 := by
  obtain ⟨u, old, hlead, htouch⟩ := State.offerSdAct_leads (b := 1) (by decide) h
  have hu : u.sdState = 1 := (htouch.1.f (by decide) (by decide)).trans hstate
  have hrecords (l : List Path) (t : State) : (forAll l (fun p s => s.modPath p (fun x => { x with record := false })) t).sdState = t.sdState := by
    induction l generalizing t with
    | nil => rfl
    | cons p l ih => exact ih _
  have heffect : u.effTwin 0x050 old (1#32 <<< 1) = u.sdConfirm := by simp [State.effTwin, wbit]
  rw [show TwinR.SD_CTL_CONFIRM = ⟨0x050, 1, 1⟩ from rfl, hlead, heffect, State.sdConfirm, if_neg (by simp [hu]), hrecords, State.sdState,
    State.f_raise_twin _ _ _ rfl]
  exact u.sdState_setSd (by decide)

theorem State.offerCancel {c : Src} (h : s.takesF c .twin TwinR.SD_CTL_CANCEL 1 = true) (hstate : s.sdState = 1) :
    (s.offerAct c .twin TwinR.SD_CTL_CANCEL).sdState = 0 := by
  obtain ⟨u, old, hlead, htouch⟩ := State.offerSdAct_leads (b := 4) (by decide) h
  have hu : u.sdState = 1 := (htouch.1.f (by decide) (by decide)).trans hstate
  have heffect : u.effTwin 0x050 old (1#32 <<< 4) = u.sdCancel := by simp [State.effTwin, wbit]
  rw [show TwinR.SD_CTL_CANCEL = ⟨0x050, 4, 4⟩ from rfl, hlead, heffect, State.sdCancel, if_pos hu]
  exact u.sdState_setSd (by decide)

theorem State.offerReenter {c : Src} (h : s.takesF c .twin TwinR.SD_CTL_REENTER 1 = true) (hstate : s.sdState = 2)
    (halone : s.tw = twAlone ∨ s.tw = twPaired ∧ s.f .twin TwinR.TWIN_STAT_PEER_SD = 0) :
    (s.offerAct c .twin TwinR.SD_CTL_REENTER).sdState = 3 := by
  obtain ⟨u, old, hlead, htouch⟩ := State.offerSdAct_leads (b := 2) (by decide) h
  have hu : u.sdState = 2 := (htouch.1.f (by decide) (by decide)).trans hstate
  have htw : u.tw = s.tw := htouch.1.f (by decide) (by decide)
  have hsd : u.f .twin TwinR.TWIN_STAT_PEER_SD = s.f .twin TwinR.TWIN_STAT_PEER_SD := htouch.1.f (by decide) (by decide)
  have heffect : u.effTwin 0x050 old (1#32 <<< 2) = u.setSd 3 := by
    have hbits : u.effTwin 0x050 old (1#32 <<< 2) = u.sdReenter := by simp [State.effTwin, wbit]
    rw [hbits, State.sdReenter, if_neg (by simp [hu])]
    rcases halone with halone | ⟨hpaired, hpeer⟩
    · exact if_pos (htw.trans halone)
    · rw [if_neg (by rw [htw, hpaired]; decide), if_neg (by simp [htw, hpaired]), if_neg (by simp [hsd, hpeer])]
  rw [show TwinR.SD_CTL_REENTER = ⟨0x050, 2, 2⟩ from rfl, hlead, heffect]
  exact u.sdState_setSd (by decide)

/-! ### The request (R326) -/

theorem State.reqCause_of_touches (h : s.Touches (storeRegs .twin 0x050) t) (force : Bool) : t.reqCause force = s.reqCause force := by
  have htwin : t.twin = s.twin := by
    have hrest := h.2
    simp only [State.SameRest] at hrest
    simp only [hrest]
  have hstat : ∀ x ∈ [TwinR.TWIN_STAT_STATE, TwinR.TWIN_STAT_PEER_SD, TwinR.SD_STAT_SD_STATE], t.f .twin x = s.f .twin x :=
    fun x hx => h.1.f (by revert x; decide) (by revert x; decide)
  simp only [List.forall_mem_cons, List.not_mem_nil, false_implies, implies_true, and_true] at hstat
  obtain ⟨htw, hpeer, hsd⟩ := hstat
  have hbit : ∀ off ∈ [0x060, 0x068], ∀ n, t.lpBit off n = s.lpBit off n := fun off hoff n => by
    have hrd : t.rd (pageAddr .twin (if n.val < 32 then off else off + 4)) = s.rd (pageAddr .twin (if n.val < 32 then off else off + 4)) := by
      split <;> exact h.1.1 _ (by revert off; decide) (by revert off; decide)
    rw [State.lpBit, hrd, ← State.lpBit]
  have hoos (p : Path) : t.oos p = s.oos p := by
    rw [State.oos, State.on, State.on, h.1.f ?_ (pageAddr_path_not_side p _), h.f_group (by decide) ?_, ← State.on, ← State.on, ← State.oos]
    all_goals
      simp only [storeRegs, pageAddr, pageNum, Hdr.PAGE_CTL_OOS, List.mem_cons, List.not_mem_nil, or_false]
      omega
  have hin : t.lpInService = s.lpInService := funext fun n => by simp only [State.lpInService, hoos]
  have hsel : t.peerSelOk = s.peerSelOk := funext fun n => by simp only [State.peerSelOk, State.peerCfg, htwin, hpeer, hbit 0x068 (by decide)]
  rw [State.reqCause, State.tw, State.sdState, htw, hpeer, hsd, hin, hsel, funext (hbit 0x060 (by decide)), ← State.tw, ← State.sdState,
    ← State.reqCause]

theorem State.offerReq {c : Src} {force : Bool} (h : s.takes c .twin 0x050 (reqWord force) allOnes = true) (hcause : s.reqCause force = none) :
    (s.offerReg c .twin 0x050 (reqWord force) allOnes).sdState = 1 := by
  obtain ⟨v, u, old, hlead, htouch⟩ := State.offerSdCtl_leads h
  have hu : u.reqCause force = none := (State.reqCause_of_touches htouch force).trans hcause
  have heffect : u.effTwin 0x050 old (reqWord force) = u.sdReq force := by cases force <;> rfl
  rw [hlead, writeOut_standDown, heffect, State.sdReq, hu]
  dsimp only
  split
  · exact (State.f_setRole _ 2 rfl (by decide) (by decide) (by decide)).trans (u.sdState_setSd (by decide))
  · exact u.sdState_setSd (by decide)

end Sys2Proof.Machine

end

section
/-!
SUPPORT. Restarts and loss of lock (R98, R114, R139), and REPLACE, which brings them about (R329).
-/

-- Proofs are elaborated one at a time: side by side their threads reserve more memory than a check has.
set_option Elab.async false

namespace Sys2Proof.Machine

variable {s t u : State} {p : Path}

/-! ### Segments that stop or restart (R114, R139) -/

theorem State.segStop_keepsHouse (s : State) (p : Path) (st cause : Nat) : s.KeepsHouse (s.segStop p st cause) := by
  unfold State.segStop
  extract_lets placed
  have hplaced : s.KeepsHouse placed := .ite (s.discard_keepsHouse p) (.refl s)
  have hset := (hplaced.trans (State.segClear_keepsHouse _ p)).trans (State.segSet_keepsHouse _ p st)
  exact (((hset.setF _ _ rfl).inc _ rfl).raise _ _).raiseIf _ _ _

theorem State.segBreak_keepsHouse (s : State) (cause : Nat) (p : Path) : s.KeepsHouse (s.segBreak cause p) :=
  .ite (.refl s) (s.segStop_keepsHouse p _ _)

theorem State.segForce_keepsHouse (s : State) (p : Path) : s.KeepsHouse (s.segForce p) := .ite (.refl s) (s.segStop_keepsHouse p _ _)

theorem State.propagateBy_keepsHouse (s : State) (m : Nat) (p : Path) : s.KeepsHouse (s.propagateBy m p) :=
  .ite (.refl s) ((State.KeepsHouse.refl s).forAll _ fun q u => u.segBreak_keepsHouse 7 q)

theorem State.restart_keepsHouse (s : State) (n : Lane) : s.KeepsHouse (s.restart n) :=
  (((s.segForce_keepsHouse _).trans (State.segForce_keepsHouse _ _)).trans (State.propagateBy_keepsHouse _ _ _)).trans
    (State.propagateBy_keepsHouse _ _ _)

theorem State.settlePort_keepsHouse (s : State) (n : Lane) : s.KeepsHouse (s.settlePort n) :=
  (State.KeepsHouse.refl s).forAll _ fun m u => u.settle_keepsHouse m

/-! ### Loss of lock (R98, R176) -/

theorem State.segsNoLock_keepsHouse (s : State) (l : List Path) : s.KeepsHouse (s.segsNoLock l) := by
  unfold State.segsNoLock
  extract_lets due left
  have hleft : s.KeepsHouse left := (State.KeepsHouse.refl s).forAll _ fun p u =>
    (State.KeepsHouse.ite (u.segAcquire_keepsHouse p) (u.segWait_keepsHouse p)).setF (pp p) (x := PathR.TRN_STAT_LAST_CAUSE) _ rfl
  exact hleft.forAll _ fun p u => u.propagateBy_keepsHouse _ p

theorem State.lockLost_keepsHouse (s : State) (p : Path) : s.KeepsHouse (s.lockLost p) :=
  (s.dropLock_keepsHouse p true).trans (State.segsNoLock_keepsHouse _ [p])

theorem State.lock_dropLock (s : State) (p : Path) (fault : Bool) : (s.dropLock p fault).lock p = false := by
  have hunlocked : (s.setF (pp p) PathR.RX_STAT_CDR_LOCK 0).lock p = false := by
    rw [State.lock, State.on, State.f_setF_self _ _ _ _ (by decide) (by decide)]
    rfl
  unfold State.dropLock
  split
  next h => simpa using h
  · refine State.KeepsHouse.unlocked ?_ p hunlocked
    exact (((State.piHold_keepsHouse _ p).trans (State.rotAbandon_keepsHouse _ p 1)).trans (State.framingLost_keepsHouse _ p 0 false)).raiseIf _ _ _

theorem State.lock_lockLost (s : State) (p : Path) : (s.lockLost p).lock p = false :=
  (State.segsNoLock_keepsHouse _ [p]).unlocked p (s.lock_dropLock p true)

theorem State.lock_locksLost_of_mem {l : List Path} (hp : p ∈ l) (s : State) : (forAll l (fun q u => u.lockLost q) s).lock p = false := by
  induction l generalizing s with
  | nil => exact absurd hp (by simp)
  | cons q l ih =>
    rcases List.mem_cons.1 hp with rfl | hp
    · exact ((State.KeepsHouse.refl _).forAll l fun r u => u.lockLost_keepsHouse r).unlocked p (s.lock_lockLost p)
    · exact ih hp _

/-! ### REPLACE (R329) -/

/-- What REPLACE does at one lane pair. -/
def State.replaceLane (s : State) (n : Lane) : State :=
  let due := [pathAB n, pathBA n].filter (fun p => !(s.path p).record)
  if due.isEmpty then s
  else if s.method (pathAB n) == 3 then (forAll due (fun p s => s.lockLost p) s).settle n
  else (s.restart n).settlePort n

theorem State.sdReplace_eq (s : State) : s.sdReplace = forAll allLanes (fun n u => u.replaceLane n) s := rfl

theorem State.replaceLane_keepsHouse (s : State) (n : Lane) : s.KeepsHouse (s.replaceLane n) := by
  have hlost := (State.KeepsHouse.refl s).forAll ([pathAB n, pathBA n].filter fun p => !(s.path p).record) fun p u => u.lockLost_keepsHouse p
  exact .ite (.refl s) (.ite (hlost.trans (State.settle_keepsHouse _ n)) ((s.restart_keepsHouse n).trans (State.settlePort_keepsHouse _ n)))

/-- A lane pair whose two paths have a record is left alone. -/
theorem State.replaceLane_of_records {n : Lane} (h : ∀ q ∈ [pathAB n, pathBA n], (s.path q).record = true) : s.replaceLane n = s := by
  have hdue : [pathAB n, pathBA n].filter (fun p => !(s.path p).record) = [] := List.filter_eq_nil_iff.2 fun q hq => by simp [h q hq]
  rw [State.replaceLane, hdue]
  rfl

theorem mem_pathsOf_laneOf (p : Path) : p ∈ [pathAB (laneOf p), pathBA (laneOf p)] := by
  simp only [pathAB, pathBA, laneOf, List.mem_cons, List.not_mem_nil, or_false, Fin.ext_iff]
  omega

theorem laneOf_of_mem {n : Lane} {q : Path} (h : q ∈ [pathAB n, pathBA n]) : laneOf q = n := by
  simp only [pathAB, pathBA, List.mem_cons, List.not_mem_nil, or_false] at h
  rcases h with rfl | rfl <;> simp only [laneOf, Fin.ext_iff] <;> omega

/-- Under the static method a path without a record loses lock, to be placed again. -/
theorem State.lock_replaceLane (hmethod : s.method (pathAB (laneOf p)) = 3) (hrecord : (s.path p).record = false) :
    (s.replaceLane (laneOf p)).lock p = false := by
  have hdue : p ∈ [pathAB (laneOf p), pathBA (laneOf p)].filter (fun q => !(s.path q).record) :=
    List.mem_filter.2 ⟨mem_pathsOf_laneOf p, by simp [hrecord]⟩
  have hnonempty := List.ne_nil_of_mem hdue
  rw [State.replaceLane, if_neg (by simpa using hnonempty), if_pos (by simp [hmethod])]
  exact (State.settle_keepsHouse _ _).unlocked p (State.lock_locksLost_of_mem hdue s)

/-- REPLACE where only `p` has no record. -/
theorem State.lock_sdReplace (hmethod : s.method (pathAB (laneOf p)) = 3) (hrecord : ∀ q, (s.path q).record = !(q == p)) :
    s.sdReplace.lock p = false := by
  obtain ⟨before, after, hlanes, hbefore⟩ := List.eq_append_cons_of_mem (List.mem_finRange (laneOf p))
  have hskip : ∀ l : List Lane, laneOf p ∉ l → forAll l (fun n u => u.replaceLane n) s = s := fun l hl => by
    induction l with
    | nil => rfl
    | cons n l ih =>
      have hne : laneOf p ≠ n := fun e => hl (List.mem_cons.2 (.inl e))
      have hone : s.replaceLane n = s := State.replaceLane_of_records fun q hq => by
        have hqp : q ≠ p := fun e => hne (e ▸ laneOf_of_mem hq)
        simp [hrecord q, hqp]
      rw [forAll, List.foldl_cons, hone]
      exact ih fun hm => hl (List.mem_cons_of_mem _ hm)
  have hall : s.sdReplace = forAll after (fun n u => u.replaceLane n) (s.replaceLane (laneOf p)) := by
    rw [State.sdReplace_eq, show allLanes = before ++ laneOf p :: after from hlanes, forAll, List.foldl_append, List.foldl_cons]
    exact congrArg (fun u : State => forAll after (fun n u => u.replaceLane n) (u.replaceLane (laneOf p))) (hskip before hbefore)
  rw [hall]
  exact ((State.KeepsHouse.refl _).forAll after fun n u => u.replaceLane_keepsHouse n).unlocked p
    (State.lock_replaceLane hmethod (by simp [hrecord]))

/-- The fields of a path page, and its records, through a stored write of the TWIN page. -/
theorem State.Touches.f_path_of_twin {off : Nat} (h : s.Touches (storeRegs .twin off) t) (hoff : off < 4096) (q : Path) {x : Fld}
    (hx : x.off < 4096) :
    t.f (pp q) x = s.f (pp q) x := by
  refine h.1.f ?_ (pageAddr_path_not_side q _)
  simp only [storeRegs, pageAddr, pageNum, List.mem_cons, List.not_mem_nil, or_false]
  omega

theorem State.Touches.path {l : List Nat} (h : s.Touches l t) (q : Path) : t.path q = s.path q := by
  have hrest := h.2
  simp only [State.SameRest] at hrest
  simp only [State.path, hrest]

theorem State.offerReplace {c : Src} (h : s.takesF c .twin TwinR.SD_CTL_REPLACE 1 = true) (hmethod : s.method (pathAB (laneOf p)) = 3)
    (hrecord : allPaths.all (fun q => (q == p) != (s.path q).record) = true) : (s.offerAct c .twin TwinR.SD_CTL_REPLACE).lock p = false := by
  obtain ⟨u, old, hlead, htouch⟩ := State.offerSdAct_leads (b := 3) (by decide) h
  have hmethod' : u.method (pathAB (laneOf p)) = 3 := by
    simp only [State.method, State.profile, State.segA, State.seg, htouch.f_path_of_twin (by decide) _ (x := PathR.PROF_CFG_PROFILE) (by decide),
      htouch.path] at hmethod ⊢
    exact hmethod
  have hrecord' (q : Path) : (u.path q).record = !(q == p) := by
    have hq := List.all_eq_true.1 hrecord q (List.mem_finRange q)
    rw [htouch.path]
    cases hqp : q == p <;> simpa [hqp] using hq
  have heffect : u.effTwin 0x050 old (1#32 <<< 3) = u.sdReplace := by simp [State.effTwin, wbit]
  rw [show TwinR.SD_CTL_REPLACE = ⟨0x050, 3, 3⟩ from rfl, hlead, heffect]
  exact State.lock_sdReplace hmethod' hrecord'

end Sys2Proof.Machine

end

section
/-!
SUPPORT. A write of TWIN_CFG.EN that is taken (R331).
-/

-- Proofs are elaborated one at a time: side by side their threads reserve more memory than a check has.
set_option Elab.async false

namespace Sys2Proof.Machine

variable {s t u : State}

/-! ### TWIN_CFG.EN (R331) -/

theorem State.on_en_setB (s : State) (v : Bool) : (s.setB .twin TwinR.TWIN_CFG_EN v).on .twin TwinR.TWIN_CFG_EN = v := by
  rw [State.on, State.setB, State.f_setF_self _ _ _ _ (by decide) (by decide)]
  cases v <;> rfl

/-- What a write of EN brings leaves EN as it was written. -/
theorem State.on_en_twinEn (s : State) (v : Bool) : (s.twinEn v).on .twin TwinR.TWIN_CFG_EN = v := by
  refine Eq.trans ?_ (s.on_en_setB v)
  unfold State.twinEn
  extract_lets was set down off quiet
  have hdown : down.on .twin TwinR.TWIN_CFG_EN = set.on .twin TwinR.TWIN_CFG_EN := by
    rw [State.on_setF_apart _ _ _ _ (by decide), State.on_setF_apart _ _ _ _ (by decide), State.on_setF_apart _ _ _ _ (by decide)]
  have hoff : off.on .twin TwinR.TWIN_CFG_EN = down.on .twin TwinR.TWIN_CFG_EN := by
    rw [State.on_setF_apart _ _ _ _ (by decide), State.on_setF_apart _ _ _ _ (by decide), State.on_setF_apart _ _ _ _ (by decide)]
  have hquiet : quiet.on .twin TwinR.TWIN_CFG_EN = set.on .twin TwinR.TWIN_CFG_EN := by
    rw [State.on, State.f_setSd _ _ (by decide), ← State.on, State.on_setF_apart _ _ _ _ (by decide), hoff, hdown]
  split
  · rfl
  split
  · exact State.on_setF_apart _ .twin .twin _ (by decide)
  split
  · exact ((State.setSrc_keepsHouse _ _).on rfl).trans hquiet
  · exact hquiet

theorem State.on_en_timeEnChange (s : State) (v : Bool) : (s.timeEnChange v).on .twin TwinR.TWIN_CFG_EN = s.on .twin TwinR.TWIN_CFG_EN := by
  unfold State.timeEnChange
  split
  · rfl
  split
  · exact (State.setSrc_keepsHouse _ _).on rfl
  · exact congrArg (· != 0) (State.f_leaveFollow _ rfl (by decide))

theorem State.on_en_effTwin (s : State) (old act : Word) :
    (s.effTwin 0x040 old act).on .twin TwinR.TWIN_CFG_EN = s.on .twin TwinR.TWIN_CFG_EN := by
  rw [State.effTwin, if_pos rfl]
  dsimp only
  split
  · exact State.on_en_twinEn _ _
  · exact (State.on_en_timeEnChange _ _).trans (State.on_en_twinEn _ _)

/-- The fields of TWIN_CFG. -/
def twinEnRow : Row := { fld := TwinR.TWIN_CFG_EN, acc := .rw, rst := 0x0, nvm := true }
def twinCfgRows : List Row := [
  { fld := TwinR.TWIN_CFG_REENTRY_TMO, acc := .rw, rst := 0x4, legal := [(0, 7)] },
  { fld := TwinR.TWIN_CFG_REENTRY_WIN, acc := .rw, rst := 0x4, legal := [(1, 15)] },
  { fld := TwinR.TWIN_CFG_MATCH_TOL, acc := .rw, rst := 0x10, legal := [(1, 255)] },
  { fld := TwinR.TWIN_CFG_MATCH_RUN, acc := .rw, rst := 0x2, legal := [(1, 15)] },
  { fld := TwinR.TWIN_CFG_PROMOTE_DLY, acc := .rw, rst := 0x3, legal := [(0, 10)] },
  { fld := TwinR.TWIN_CFG_SRC_ALONE, acc := .rw, rst := 0x1, legal := [(0, 1)] },
  { fld := TwinR.TWIN_CFG_SEED_EN, acc := .rw, rst := 0x1 },
  { fld := TwinR.TWIN_CFG_TIME_EN, acc := .rw, rst := 0x1 },
  { fld := TwinR.TWIN_CFG_WORK_HALF, acc := .rw, rst := 0x0, nvm := true }]

theorem rowsAt_twinCfg : rowsAt .twin 0x040 = twinCfgRows ++ [twinEnRow] := by decide +kernel

/-- A value of EN that is taken stands. -/
theorem State.offerTwinEn {c : Src} {v : Bool} (h : s.takesF c .twin TwinR.TWIN_CFG_EN (b2n v) = true) :
    (s.offerSet c .twin TwinR.TWIN_CFG_EN (b2n v)).on .twin TwinR.TWIN_CFG_EN = v := by
  obtain ⟨w, u, -, hlead, hword, -, -⟩ := State.offerReg_leads h (by decide) (fun _ => rfl) (by decide)
  rw [writeOut_rw_one w (x := TwinR.TWIN_CFG_EN) (n := b2n v) (by decide) (before := twinCfgRows) (after := []) rowsAt_twinCfg
    (r := twinEnRow) rfl rfl (by decide) (by decide) (by cases v <;> decide) (by decide)
    (fieldLegal_of_legalCode (by cases v <;> decide) (by decide)) (by decide) (by decide) (by decide)] at hword
  have hu : u.on .twin TwinR.TWIN_CFG_EN = v := by
    rw [State.on, State.f, hword, fget_fset _ _ _ _ (by decide) (by decide)]
    cases v <;> rfl
  rw [State.offerSet, hlead, State.directEffect_twin _ (by decide)]
  exact (u.on_en_effTwin _ _).trans hu

end Sys2Proof.Machine

end

section
/-!
SUPPORT. MIG_STAT at the steps of a migration (R299, R300), and ENG_BIND.GO that is taken; with it the commands of a migration and of the
twin.
-/

-- Proofs are elaborated one at a time: side by side their threads reserve more memory than a check has.
set_option Elab.async false

namespace Sys2Proof.Machine

variable {s t u : State} {g : Grp}

/-! ### MIG_STAT (R300) -/

theorem State.mig_of_twinMig (h : t.twinMig = s.twinMig) (g : Grp) : t.mig g = s.mig g :=
  congrArg (fun x : Word × Word × (Grp → Word) => fget (x.2.2 g) 2 0) h

theorem State.mig_setState (s : State) (g : Grp) {n : Nat} (hn : n < 8) : (s.setF (gp g) GroupR.MIG_STAT_STATE n).mig g = n := by
  rw [State.mig, State.f_setF_self _ _ _ _ (by decide) (by decide)]
  exact Nat.mod_eq_of_lt hn

/-- A field of MIG_STAT beside STATE is set. -/
theorem State.mig_setF_apart (s : State) (g : Grp) {x : Fld} (n : Nat) (hx : apart x GroupR.MIG_STAT_STATE = true) :
    (s.setF (gp g) x n).mig g = s.mig g := s.f_setF_apart _ _ _ hx

/-- At the safe point the record is copied. -/
theorem State.mig_migSafe (h : s.mig g = 1) : (s.migSafe g).mig g = 2 := by
  rw [State.migSafe, if_neg (by simp [h])]
  dsimp only
  rw [State.mig_of_twinMig (State.grpBusy_twinMig _ g _)]
  exact State.mig_setState _ g (by decide)

theorem State.mig_migHandover (h : s.mig g = 2) : (s.migHandover g).mig g = 3 := by
  rw [State.migHandover, if_neg (by simp [h])]
  unfold State.handover
  extract_lets n bound counted freed
  have hcounted : counted.mig g = 3 := by
    have hinc : ∀ u : State, (u.inc (gp g) GroupR.MIG_CNT_DONE).mig g = u.mig g := fun u =>
      State.mig_of_twinMig (u.inc_twinMig (by simp +decide [GroupR.MIG_CNT_DONE])) g
    rw [State.mig_setF_apart _ _ _ rfl, hinc, State.mig_setState _ _ (by decide)]
  have hfreed : freed.mig g = 3 := by
    rw [← hcounted]
    exact State.mig_of_twinMig ((State.raise_twinMig _ _ _).trans (State.grpFree_twinMig _ _)) g
  rw [if_neg (show ¬ 3 = 5 by decide)]
  split
  · exact (State.mig_of_twinMig (State.holdBegun_twinMig _ g) g).trans hfreed
  · exact hfreed

/-! ### ENG_BIND.GO (R299) -/

/-- A request that nothing refuses begins a migration. -/
theorem State.mig_migGo (h : s.migCause g (s.f (gp g) GroupR.ENG_BIND_TARGET) = none) : (s.migGo g).mig g = 1 := by
  unfold State.migGo
  generalize s.f (gp g) GroupR.ENG_BIND_TARGET = n at h ⊢
  dsimp only
  rw [h]
  dsimp only
  have hbegun : ∀ v : GroupSt, (((((s.setF (gp g) GroupR.MIG_STAT_FROM (s.owner g)).setF (gp g) GroupR.MIG_STAT_TO n).setF (gp g)
      GroupR.MIG_STAT_STATE 1).setF (gp g) GroupR.MIG_STAT_CAUSE 0).setGrp g v).mig g = 1 := fun v => by
    rw [State.mig_of_twinMig (State.setGrp_twinMig _ g v), State.mig_setF_apart _ _ _ rfl, State.mig_setState _ _ (by decide)]
  split
  · exact (State.mig_of_twinMig (State.quiesce_twinMig _ _ _) g).trans (hbegun _)
  · exact hbegun _

/-- The fields of ENG_BIND. -/
def bindGoRow : Row := { fld := GroupR.ENG_BIND_GO, acc := .w1s, rst := 0x0 }
def bindSwingRow : Row := { fld := GroupR.ENG_BIND_AUTO_SWING, acc := .rw, rst := 0x1 }
def bindTargetRow : Row := { fld := GroupR.ENG_BIND_TARGET, acc := .rw, rst := 0x0, nvm := true }

theorem rowsAt_engBind (g : Grp) : rowsAt (gp g) 0x280 = [bindGoRow, bindSwingRow, bindTargetRow] := by
  have hrows : (rowsHdr ++ rowsGroup).filter (rowCovers 0x280) = [bindGoRow, bindSwingRow, bindTargetRow] := by decide +kernel
  simp [rowsAt, pageRows, mirrorReg, hrows]

/-- The word that asks for a migration. -/
def bindWord (target : BitVec 4) : Word := BitVec.ofNat 32 (2 ^ 9 + target.toNat)

/-- It stores TARGET, and GO is its action. -/
theorem writeOut_bind (v : Nat → Word) (g : Grp) (target : BitVec 4) :
    fget (writeOut v false (gp g) 0x280 (bindWord target) 0x20F).word 3 0 = target.toNat ∧
      (writeOut v false (gp g) 0x280 (bindWord target) 0x20F).act = 1#32 <<< 9 := by
  have hmask : (0x20F : Word) &&& ~~~ctlUnsupported (gp g) 0x280 = 0x20F := by
    rw [ctlUnsupported, if_neg (by decide)]
    decide
  have htarget : fget (bindWord target) 3 0 = target.toNat := by revert target; decide
  have hact : (0 : Word) ||| (bindWord target &&& 0x20F &&& fldMask 9 9) = 1#32 <<< 9 := by revert target; decide
  simp only [writeOut, rowsAt_engBind, List.foldl_cons, List.foldl_nil, hmask]
  rw [writeRow_w1s (r := bindGoRow) rfl (by decide), writeRow_of_not_written (r := bindSwingRow) (by decide),
    writeRow_rw_legal (r := bindTargetRow) rfl (by decide) (by decide) (fieldLegal_of_legalCode rfl (by decide))]
  refine ⟨?_, hact⟩
  rw [show bindTargetRow.fld = ⟨0x280, 3, 0⟩ from rfl, fget_fset _ _ _ _ (by decide) (by decide), fget_merge (by decide), htarget]
  exact Nat.mod_eq_of_lt target.isLt

theorem State.migCause_of_touches (h : s.Touches (storeRegs (gp g) 0x280) u) (n : Nat) : u.migCause g n = s.migCause g n := by
  have hgroup : ∀ (j : Grp) (x : Fld), x.off = 0x034 ∨ x.off = 0x284 → u.f (gp j) x = s.f (gp j) x := fun j x hx =>
    h.f_group (by omega) (by
      simp only [storeRegs, pageAddr, pageNum, List.mem_cons, List.not_mem_nil, or_false]
      omega)
  have hstage : ∀ (e : Eng) (x : Fld), x.off = 0x044 ∨ x.off = 0x04C → u.f (ep e) x = s.f (ep e) x := fun e x hx => by
    refine h.1.f ?_ (pageAddr_stage_not_side e (by omega))
    simp only [storeRegs, pageAddr, pageNum, List.mem_cons, List.not_mem_nil, or_false]
    omega
  have howner : u.owner = s.owner := funext fun j => hgroup j _ (.inl rfl)
  have heng : u.eng = s.eng := funext fun e => hstage e _ (.inl rfl)
  have hengGrp : u.engGrp = s.engGrp := funext fun e => by rw [State.engGrp, howner, ← State.engGrp]
  have hformat (e f : Eng) : u.accepts e (u.f (ep f) StageR.IMG_FMT_STATE_FMT) = s.accepts e (s.f (ep f) StageR.IMG_FMT_STATE_FMT) := by
    rw [State.accepts, hstage e _ (.inr rfl), hstage e _ (.inr rfl), hstage f _ (.inr rfl), ← State.accepts]
  have hformats (n o : Nat) : ((engAt n).any fun e => (engAt o).any fun f => !u.accepts e (u.f (ep f) StageR.IMG_FMT_STATE_FMT)) =
      (engAt n).any fun e => (engAt o).any fun f => !s.accepts e (s.f (ep f) StageR.IMG_FMT_STATE_FMT) := by
    simp only [hformat]
  have hmigrating : u.migrating = s.migrating := funext fun j => by
    rw [State.migrating, State.mig, hgroup j _ (.inr rfl), ← State.mig, ← State.migrating]
  have hin : u.inMigration = s.inMigration := funext fun n => by
    have hfrom : u.migFrom = s.migFrom := funext fun j => hgroup j _ (.inr rfl)
    have hto : u.migTo = s.migTo := funext fun j => hgroup j _ (.inr rfl)
    rw [State.inMigration, hmigrating, hfrom, hto, ← State.inMigration]
  have hbusy : u.busyOf = s.busyOf := funext fun q => by
    have hrest := h.2
    simp only [State.SameRest] at hrest
    simp only [State.busyOf, hrest]
  rw [State.migCause, howner, heng, hengGrp, hformats, hmigrating, hin, hbusy, ← State.migCause]

theorem State.migrationGo_begins {c : Src} {target : BitVec 4} (h : s.takes c (gp g) 0x280 (bindWord target) 0x20F = true)
    (hcause : s.migCause g target.toNat = none) : (s.migrationGo c g target.toNat).mig g = 1 := by
  obtain ⟨v, u, -, hlead, hword, hframe, hsame⟩ := State.offerReg_leads (off := 0x280) h rfl (fun _ => rfl) (ownReg_group g (by decide))
  obtain ⟨htarget, hact⟩ := writeOut_bind v g target
  have hu : u.f (gp g) GroupR.ENG_BIND_TARGET = target.toNat := (congrArg (fget · 3 0) hword).trans htarget
  have hcause' : u.migCause g (u.f (gp g) GroupR.ENG_BIND_TARGET) = none := by
    rw [hu, State.migCause_of_touches ⟨hframe, hsame⟩, hcause]
  have heffect : ∀ wrote : Word, u.effGroup g 0x280 (1#32 <<< 9) wrote = u.migGo g := fun wrote => by simp [State.effGroup, wbit]
  rw [State.migrationGo, ← bindWord, hlead, State.directEffect_group _ _ (by decide), hact, heffect]
  exact State.mig_migGo hcause'

end Sys2Proof.Machine

open Sys2Proof Sys2Proof.Machine

/-- Settles O21: migration, link, heartbeat, roles, reports, mirror, stand-down and EN, each by the lemma that follows its operation. -/
theorem migrationAndTwinCommandsComplete : Obligations.MigrationAndTwinCommandsComplete :=
  ⟨fun _ _ _ _ h hcause => ⟨_, rfl, State.migrationGo_begins h hcause⟩, fun _ _ h => ⟨_, rfl, State.mig_migSafe h⟩,
    fun _ _ h => ⟨_, rfl, State.mig_migHandover h⟩, fun _ hen hdev => ⟨_, rfl, State.linkUp_twinUp hen hdev⟩,
    fun lanes message _ hup => ⟨_, rfl, State.linkUp_twinDown lanes message hup⟩, fun _ hup => ⟨_, rfl, State.twinSend_hello hup⟩,
    fun _ resends _ hen hlink hid hstate hhb => ⟨_, rfl, State.tw_twinHello resends.toNat hen hlink hid hstate hhb⟩,
    fun d21 d43 _ hfollow htw hen => ⟨_, rfl, State.ofs_timeExchange d21 d43 hfollow htw hen⟩,
    fun p meas held st _ htw hpin hst => ⟨_, rfl, State.diff_pinReport p meas held st htw hpin hst⟩,
    fun p cfg _ htw => ⟨_, rfl, State.peerCfg_cfgReport p cfg htw⟩, fun p coef _ htw => ⟨_, rfl, State.coef_coefReport p coef htw⟩,
    fun n b l _ hfollow htw hn => ⟨_, rfl, State.desc_mirrorDesc n b l hfollow htw hn⟩,
    fun w _ htw _ => ⟨_, rfl, State.crc_mirCrcIn w htw⟩, fun _ _ hsync _ => ⟨_, rfl, State.syncing_syncDone hsync⟩,
    fun _ h => ⟨_, rfl, State.hbOk_hbLost h⟩, fun _ hen h => ⟨_, rfl, State.hbOk_hbPresent hen h⟩,
    fun _ htw hfollow hlink hhb => ⟨_, rfl, State.role_promote htw hfollow hlink hhb⟩,
    fun _ hfollow _ hsrc hhold => ⟨_, rfl, State.locked_transferLost hfollow hsrc hhold⟩,
    fun _ _ _ h hcause => ⟨_, rfl, State.offerReq h hcause⟩, fun _ _ h hstate => ⟨_, rfl, State.offerConfirm h hstate⟩,
    fun _ _ h hstate => ⟨_, rfl, State.offerCancel h hstate⟩,
    fun _ _ h hstate halone => ⟨_, rfl, State.offerReenter h hstate halone⟩,
    fun _ _ _ h hmethod hrecord => ⟨_, rfl, State.offerReplace h hmethod hrecord⟩,
    fun _ hstate hblock => ⟨_, rfl, State.sdState_reenterDone hstate hblock⟩, fun _ hstate => ⟨_, rfl, State.sdState_reenterTimeout hstate⟩,
    fun _ _ _ h _ => ⟨_, rfl, State.offerTwinEn h⟩⟩

end
